-- ==== Sys2Proof/Word.lean ====
section
/-! DEFINITION. The word types of the Governor model and the plain sparse table every unit's state is kept in. -/

namespace Sys2Proof

/-- A register, bus word or Registrar word of the Host Register Port window (18_register_map.md). -/
abbrev W64 := BitVec 64

/-- One byte of an addressed memory or of a frame body. -/
abbrev Byte := BitVec 8

/-- A sparse table: pairs of an instance number and its record, numbers strictly rising. -/
abbrev Tbl (α : Type) := List (Nat × α)

end Sys2Proof
end

