-- ==== Sys2Proof/Syntax.lean ====
section
/-! DEFINITION. The commands of the Governor: one constructor of `Instr` per row of spec/opcode_table.json, with the
operands the row's event carries from outside (a word on a port, a sample, a register value, a frame), and the
records those operands are made of. -/

namespace Sys2Proof

/-- NW-OXG4-F or NW-OXG4-C (00_scope.md, Configurations). -/
inductive Config where
  | full
  | core
  deriving DecidableEq, Repr

/-- One lane sample as latched at an F-frame tick (03 R60, R61): the decimator output and the 32 pl_isd bits of the F-frame
that has just ended, the earliest in bit 0. A lane that no entry names has no new sample. -/
structure LaneSample where
  lane  : Nat
  x     : Nat
  bits  : BitVec 32
  deriving DecidableEq, Repr

/-- What the stage-fault pin of a lane in its retry has shown (03 R67): pl_flt_n was low for `low` cycles from the assertion on and
has been high since. -/
structure StageRelease where
  lane : Nat
  low  : Nat
  deriving DecidableEq, Repr

/-- What one sense tap delivered over the F-frame that has just ended (04 R82): the mean, lowest and highest of its
samples in 1/16 mV. A tap that no entry names delivered no sample. -/
structure TapSample where
  tap  : Nat
  mean : Nat
  low  : Nat
  high : Nat
  deriving DecidableEq, Repr

/-- The two report words an on-die sensor answered with in one S-frame, first read and retry (09 R221, R222;
17 R407: bit 17 valid, 16..1 TEMP, 0 parity). `none` is a read that did not finish by its commit point. -/
structure OnDieRead where
  sensor : Nat
  first  : Option (BitVec 18)
  retry  : Option (BitVec 18)
  deriving DecidableEq, Repr

/-- A firmware image as the boot store gives it (14 R344): the facts of its directory entry and header, and whether
its digest and signature verify. -/
structure FwImage where
  core       : Nat
  crcOk      : Bool
  magicOk    : Bool
  keySlot    : Nat
  major      : Nat
  minor      : Nat
  patch      : Nat
  security   : Nat
  digestOk   : Bool
  signedOk   : Bool
  deriving DecidableEq, Repr

/-- A rail of the platform descriptor that is not already told by an object (06 R143, 09 R203). -/
structure RailDesc where
  rail    : Nat
  regions : List Nat
  deriving DecidableEq, Repr

/-- An external sensor of the descriptor (09 Sensors and reads): its conversion `raw * scale / 65536 + offset` to
1/64 degrees C, and whether it is marked as a coolant sensor. -/
structure ExtSensor where
  sensor  : Nat
  scale   : Int
  offset  : Int
  coolant : Bool
  deriving DecidableEq, Repr

/-- The contents of a configuration image (00 R11, 19 Platform descriptor). `objects` sets objects, keyed
index * 256 + subindex, with raw values; the lists give what no object holds. -/
structure Image where
  major       : Nat
  minor       : Nat
  objects     : List (Nat × Nat)
  rails       : List RailDesc
  senseRail   : List (Nat × Nat)          -- sense tap, rail (04 R80)
  arrayDomain : List (Nat × Nat)          -- array, domain
  laneRails   : List (Nat × Nat)          -- lane, rail: one pair for each assignment (03 R63)
  tapGroups   : List (Nat × Nat)          -- tap, group: one pair for each assignment (05 R122)
  stackSupply : List (Nat × Nat)          -- memory stack, supply rail (09 R224)
  external    : List ExtSensor
  sigs        : List (Nat × Nat)          -- class key, entry (07 R179)
  families    : List (Nat × Nat)          -- family, default entry
  statics     : List (Nat × Nat)          -- rail, initial L_r (07 R188)
  program     : Option (List Byte)        -- Tally program (07 R194)
  icuConfig   : List (Nat × Nat)          -- source, CFG field (13 R318)
  icuUnmasked : List Nat
  watch       : List Nat                  -- watch subset (13 R327)
  members     : List (Nat × Nat)          -- member id, MAC address (16 R384)
  coreUsesHrp : Bool
  deriving DecidableEq, Repr

/-- What a user-mode trap comes from (14 R343). -/
inductive UserTrap where
  | accessFault | illegal | poison
  deriving DecidableEq, Repr

/-- The state a crashed core leaves for its dump (12 R314): the layout's bytes from offset 32 to the end of the area. -/
structure CoreDump where
  mepc  : BitVec 32
  bytes : List Byte
  deriving DecidableEq, Repr

/-- A received Muriri frame (15 Frames): Ethernet source and destination, header fields, body and tag. -/
structure Frame where
  src     : Nat
  dst     : Nat
  version : Nat
  kind    : Nat
  session : Nat
  seq     : Nat
  bodyLen : Nat
  schema  : Nat
  flags   : Nat
  epoch   : Nat
  body    : List Byte
  tag     : Option (BitVec 128)
  deriving DecidableEq, Repr

/-- The fuse fields the programmer can write (19 R440). -/
inductive FuseField where
  | serial
  | key
  | keyVersion
  | revokeSlot
  | minSecurity
  | lock
  deriving DecidableEq, Repr

/-- The three plain interrupt registers (13 R328). -/
inductive PlainReg where
  | pend
  | mask
  | cfg
  deriving DecidableEq, Repr

/-- The three writable on-die threshold registers of the G3 block (18 R430). -/
inductive G3Threshold where
  | warn
  | throttle
  | ror
  deriving DecidableEq, Repr

/-- The commands and events of the Governor, in the order of spec/opcode_table.json. `sess` is the session that makes
an object write, `agent` the agent that makes a register access. -/
inductive Instr where
  -- supplies, resets, clocks
  | coldReset
  | vgovLoss
  | strapSample (sel : BitVec 2)
  | govReset
  | govResetRelease
  | hostReset
  | bootComplete (img : Image) (fw : List FwImage)
  | coreStartTimeout (core : Nat) (dump : CoreDump)
  | syncInLoss
  | relockQualified
  | frequencyPullComplete (err : Int)
  | pllLock (syncPresent : Bool)
  | clockFailure
  | gclkWake
  | standbyClockStop
  -- frames
  | fFrameTick (lanes : List LaneSample) (taps : List TapSample)
  | fFrameCommit (lateLaws : List Nat) (lateTrims : Bool)
  | fSwBoundary (rail : Nat)
  | cFrameTick
  | cFrameCompetition (lateLaws : List Nat)
  | cFrameRateCommit (late : Bool)
  | tallyCommit
  | sFrameTick
  | thermalCommit (reads : List OnDieRead)
  | hFrameTick (lateCores : List Nat)
  | loopOverrun (rail : Nat)
  -- Phase Link
  | laneCensusComplete (rail : Nat) (stuck : List Nat)
  | stageFault (lane : Nat)
  | stageFaultRetryEnable (release : StageRelease)
  | stageFaultReleaseLimit (lane : Nat)
  | laneWakeEnd (lane : Nat)
  | warmParkExpiry (lane : Nat)
  | laneOpen (lane : Nat)
  | laneSenseFailure (lane : Nat)
  | laneRearm (sess lane value : Nat)
  -- Rail Control
  | senseTapExclusion (tap : Nat)
  | allPhaseFire (rail : Nat) (low : Nat)
  | fireEnd (rail : Nat) (low : Nat)
  | fireRearm (rail : Nat) (low : Nat)
  | overvoltageClamp (rail : Nat) (high : Nat)
  | railOvervoltage (rail : Nat) (high : Nat)
  | railUndervoltage (rail : Nat)
  | avsTrimRequest (sess rail value : Nat)
  | shedDecision (rail : Nat)
  | interRailDelayEnd
  | stageSupplyQualified
  | stageSupplyTimeout
  | railPowerGood (rail : Nat)
  | railPowerGoodMiss (rail : Nat)
  | railDischargeDone (rail : Nat) (high : Nat)
  | railDischargeTimeout (rail : Nat)
  -- Droop Defence
  | fastPathStretch (domain : Nat) (sev : Bool)
  | droopReport (tap : Nat) (rep : BitVec 10) (volts : BitVec 16)
  | stretchReleaseStep (domain : Nat) (deepLine sevLine : Bool)
  | freezeRelease (domain : Nat)
  | longFreeze (domain : Nat)
  | excursionWindowClose (domain : Nat)
  | tapDisagreement (tap : Nat)
  | tapRearm (sess tap value : Nat)
  | droopThresholdWrite (sess group sub value : Nat)
  | tapSettleEnd (domain : Nat)
  | domainCensusComplete (domain : Nat)
  | domainCensusWindowEnd (domain : Nat)
  -- Credit Unit
  | issue (port : Nat) (word : W64)
  | reservationExpiry (array : Nat)
  | ringSweep
  | quantumWrite (sess value : Nat)
  -- the Tally
  | announce (port : Nat) (word : W64)
  | announceLookup
  | done (port : Nat) (word : W64)
  | doneDigest (port : Nat) (word : W64)
  | cancel (port : Nat) (word : W64)
  | deferredCancel
  | predictedSlotExpiry (slot : Nat)
  | grantedGroupTimeout (slot : Nat)
  | signatureEntryWrite (sess : Nat) (value : W64)
  | programLoadData (sess : Nat) (data : List Byte)
  | programActivate (sess value : Nat)
  | clearStickyFlags (sess value : Nat)
  -- Loop Engine
  | coefficientCommit (sess inst value : Nat)
  | followingError (inst : Nat)
  | injectionStart (sess : Nat)
  | injectionDelayEnd
  | injectionStop (sess : Nat)
  | injectionEnd
  | captureArm (sess : Nat)
  | captureForceTrigger (sess : Nat)
  | captureStop (sess : Nat)
  | captureComplete
  -- Thermal Unit
  | externalSensorSlot (raw : Option (BitVec 16))
  | memoryStackWord (stack : Nat) (word : BitVec 18)
  | sensorRearm (sess sensor value : Nat)
  | oxsTTrip (sensor : Nat)
  | oxsTProgram (retried failed : List Nat)
  | coolantUpdateCommit (sess value : Nat)
  | coolantTimeout
  | coolantRecovery
  | restartHoldComplete
  | cooldownProlonged
  | tripActionsComplete
  -- Domain Sequencer
  | domainWakeRequest (sess domain : Nat)
  | domainGateRequest (sess domain : Nat)
  | domainWakeStart (domain : Nat)
  | domainStageStep (domain : Nat)
  | domainPowerGood (domain : Nat)
  | domainPgWindowMiss (domain : Nat)
  | domainIsolationRelease (domain : Nat)
  | domainRetryDelayEnd (domain : Nat)
  | wakeWaitExpiry (domain : Nat)
  | drainComplete (domain : Nat)
  | drainTimeout (domain : Nat)
  | autoWake (domain : Nat)
  | domainPowerGoodLoss (domain : Nat)
  | domainRearm (sess domain value : Nat)
  | powerOn (sess : Nat)
  | powerOff (sess : Nat)
  | meterOn (sess : Nat)
  | meterOff (sess : Nat)
  | resume (sess : Nat)
  | serviceEnter (sess : Nat)
  | serviceExit (sess arg : Nat)
  | softReset (sess : Nat)
  -- the Assayer
  | assayRequestTransfer
  | duplicateDeadline (entry : Nat)
  | thirdExecutionRequest
  | thirdDeadline (entry : Nat)
  | releaseQuarantine (sess array value : Nat)
  | contributionFence (id : BitVec 16)
  | fenceAnswer
  | peerReport (sess : Nat) (word : W64)
  | knownAnswerStart (sess : Nat)
  | knownAnswerStop (sess : Nat)
  | knownAnswerTimeout (array entry : Nat)
  | knownAnswerRunEnd
  | sweepStart (sess : Nat)
  | sweepStop (sess : Nat)
  | sweepSettleEnd
  | sweepStepComplete
  -- Registrar and recorder
  | faultTrigger (pin scopeKind scopeIndex cause : Nat) (pa : W64)
  | dClassEvent (pin : Nat)
  | dClassWindowExpiry (pin : Nat)
  | transientStrobe (pin : Nat)
  | faultAcknowledge (sess : Nat) (word : W64)
  | recordWrite
  | daybookClear (sess value : Nat)
  | vitrineClear (sess value : Nat)
  | timeSet (sess : Nat) (value : W64) (quality : Nat)
  | timeQualityHoldExpiry
  | dumpRelease (sess core value : Nat)
  | dumpClearComplete (core : Nat)
  -- interrupt controller
  | signal (source : Nat)
  | doorbell (word : W64)
  | claim (agent target : Nat)
  | complete (agent target : Nat) (word : W64)
  | configureSource (word : W64)
  | pendSet (index : Nat) (word : W64)
  | pendClr (index : Nat) (word : W64)
  | maskSet (index : Nat) (word : W64)
  | maskClr (index : Nat) (word : W64)
  | icuPlainWrite (reg : PlainReg) (index : Nat) (word : W64)
  | targetConfigWrite (agent target : Nat) (word : W64)
  | watchWrite (index : Nat) (word : W64)
  | watchWake (source : Nat)
  | fallbackOffer (source : Nat)
  -- mailboxes and their messages
  | post (agent channel : Nat) (word : W64)
  | take (agent channel : Nat)
  | free (agent channel : Nat) (word : W64)
  | ackClear (agent channel : Nat) (word : W64)
  | tostClear (agent channel : Nat) (word : W64)
  | mailboxMaskWrite (agent channel : Nat) (word : W64)
  | noticeTimeout (channel slot : Nat)
  | objectRead (channel slot : Nat)
  | objectWrite (channel slot : Nat)
  | attach (channel slot : Nat)
  | heartbeat (channel slot : Nat)
  | detach (channel slot : Nat)
  | heartbeatSend (sess : Nat)
  | hostLost (sess : Nat)
  -- firmware complex
  | coreCrash (core cause : Nat) (dump : CoreDump)
  | watchdogExpiry (core : Nat) (dump : CoreDump)
  | componentFault (core component : Nat) (trap : UserTrap) (dump : CoreDump)
  | bankReloadComplete (core : Nat) (img : FwImage)
  | coreRestartComplete (core : Nat)
  | releaseHold (sess core value : Nat)
  | updateTarget (sess core : Nat)
  | updateLoadData (sess : Nat) (data : List Byte)
  | updateVerify (sess : Nat)
  | updateActivate (sess : Nat)
  | updateAbort (sess : Nat)
  | updateActivation
  | updateRestartTimeout
  | probationEnd
  -- G3 block
  | g3Read (offset : Nat)
  | g3ReadTimeout
  | g3WriteQueueTimeout
  | g3PowerRequest (word : W64)
  | g3PlimitWrite (word : W64)
  | g3ThresholdWrite (reg : G3Threshold) (word : W64)
  | g3FaultClear (high : Bool) (word : W64)
  -- object window, locks, authentication
  | objectWindowClaim
  | objectWindowRelease (word : W64)
  | objectWindowRead (word : W64)
  | objectWindowWrite (word : W64)
  | objectWindowIdleRelease
  | objectAccessTimeout
  | lock (sess index : Nat)
  | unlock (sess index : Nat)
  | authChallenge (sess : Nat)
  | authResponse (sess : Nat) (response : BitVec 256)
  | endAuthentication (sess value : Nat)
  | authBlockExpiry
  -- Muriri
  | muOpen (f : Frame)
  | muClose (f : Frame)
  | muRead (f : Frame)
  | muWrite (f : Frame)
  | muReadInit (f : Frame)
  | muWriteInit (f : Frame)
  | muSegment (f : Frame)
  | muSegmentAck (f : Frame)
  | muAbort (f : Frame)
  | segmentTimeout (sess : Nat)
  | sessionIdleTimeout (sess : Nat)
  | malformedFrame (f : Frame)
  | eventSend
  | eventRetransmit
  | eventAck (f : Frame)
  -- segment coordination
  | budgetFormation
  | budget (f : Frame)
  | budgetAck (f : Frame)
  | timeBroadcast
  | time (f : Frame) (rxTime : Nat)
  | coordinatorLoss
  -- test access and plain register writes
  | scanModeEntry
  | extest
  | samplePreload
  | idcode
  | instr
  | bypass (code : BitVec 8)
  | fuseWrite (field : FuseField) (value : Nat)
  | memoryBist (group : Nat) (pass : Bool)
  | oxsTTrim (sensor : Nat) (offset slope : Int)
  | clockTrim (value : Int)
  | atbRoute (sess : Option Nat) (word : BitVec 16)
  | registerWrite (addr : Nat) (strobes : BitVec 8) (word : W64)
  | stageFaultRetryObservationEnd (lane : Nat)
  | stackCensusWindowEnd (stack : Nat)
  | frameDiscarded (badFcs : Bool)
  | foreignBudgetCauseEnd
  deriving DecidableEq, Repr

end Sys2Proof
end

