-- ==== Sys2Proof/Decode.lean ====
section
/-! DEFINITION. The reading of a command from a word by the bits of spec/opcode_table.json: its rows give no bits, since
commands reach the Governor as port accesses, bus words, frames and pin events. -/

namespace Sys2Proof

/-- The command that a word spells by the table's bits. No row of the table gives bits. -/
def decodeTableWord (nbits w : Nat) : Option Instr :=
  match nbits, w with
  | _, _ => none

end Sys2Proof
end

