-- ==== Sys2Proof/Machine/State.lean ====
section
/-! DEFINITION. The state of the Governor as plain data: every register, buffer, counter, mode and pin the spec names,
unit by unit, the queue of waiting commands, and the state after reset. A record's field defaults are the values an
instance holds after reset. -/

namespace Sys2Proof.Machine

/-- The states of the Governor (10 States; codes in 0x3400:01). -/
inductive GovState where
  | off | boot | standby | sequencing | ready | run | limit | safe | trip | cooldown | service
  deriving DecidableEq, Repr

/-- TB_STATE (02 Frames). -/
inductive TbState where
  | unlocked | locked | holdover
  deriving DecidableEq, Repr

/-- How far a relock to a returned SYNC_IN has come (02 R46). -/
inductive Relock where
  | none | pulling | slewing
  deriving DecidableEq, Repr

/-- Timebase (02). `now` counts nominal GCLK cycles and never falls: it is the model's clock. `cStart` and `fStart` are
the instants of the last C-frame and F-frame tick, `phase` the phase counter (R31), `cframe` the C-frame count (R35). -/
structure Timebase where
  now        : Nat := 0
  cStart     : Nat := 0
  fStart     : Nat := 0
  phase      : Nat := 0
  cframe     : Nat := 0
  tb         : TbState := .unlocked
  near       : Bool := false
  nearRun    : Nat := 0          -- consecutive 10 us S-frames with no sensor in the near-band (R39)
  slew       : Bool := false
  slewLeft   : Nat := 0          -- edge steps still to close (R46)
  relock     : Relock := .none
  phaseErr   : Int := 0          -- 0x1200:08
  gclk       : Bool := false     -- GCLK runs (R26)
  waking     : Bool := false     -- relock under R48 in progress
  lastUse    : Option Nat := none -- instant of the last request, frame or notice while awake in STANDBY (R48)
  barEnd     : Nat := 0          -- first C-frame after the shed bar of the Tally-overrun row (R40)
  moved      : Int := 0          -- edge steps by which phase slews have moved the frame ticks (R46)
  movedC     : Int := 0          -- the same at the last C-frame tick
  sweptC     : Option Nat := none -- C-frame count of the last ring sweep (06 R147)
  plAt       : Option Nat := none -- instant from which pl_clk runs (17 R402)
  waiting    : List Instr := []  -- accesses and frames that wait for GCLK to run, oldest first (R48)
  deriving DecidableEq, Repr

/-- The phase of a running sequence (04 R115 to R117, 10 States, 17 R400). -/
inductive SeqPhase where
  | idle | supply | rails | delay | domains | gating | railsDown
  deriving DecidableEq, Repr

/-- A Registrar trigger that the sub-island recorded while GCLK was stopped (12 R304). -/
structure HeldTrigger where
  pin        : Nat
  kind       : Nat
  idx        : Nat
  cause      : Nat
  pa         : Nat
  deriving DecidableEq, Repr

/-- State machine, sub-island trip logic and reset pins (10, 09 R243 to R245, 17 R398 to R401). -/
structure Gov where
  st         : GovState := .boot
  prev       : GovState := .off
  booting    : Bool := true      -- since the last reset no configuration image has been loaded (10 R261)
  entered    : Nat := 0          -- instant of the last transition
  hostRel    : Bool := false
  seqDown    : Bool := false     -- 0x3400:02
  phase      : SeqPhase := .idle
  seqPos     : Nat := 0          -- sequence position in progress
  seqStart   : Nat := 0
  svcExit    : Bool := false     -- a SERVICE_EXIT with argument 0 is powering down
  autoTried  : Bool := false     -- the first entry to STANDBY after BOOT has happened
  safeCap    : Bool := false     -- SAFE cap in force (R262)
  safeCapArm : Option Bool := none -- value it takes at the next C-frame tick
  meterWait  : Bool := false     -- RUN entered from READY, before the next C-frame tick (06 R149)
  envOn      : Bool := false     -- the last C-frame tick found a metering state: the slew envelope is in force (06 R149)
  limitMark  : Bool := false     -- a rail limited or the staircase was engaged in this H-frame (R261)
  cmdStatus  : Nat := 0          -- 0x3400:0A
  tripLatch  : Bool := false     -- survives gov_rst_n and soft reset (R243)
  tripCause  : Nat := 0          -- 0x3000:14
  tripAsked  : Bool := false     -- a thermal trip has been asked for in this cycle, with its cause
  restarts   : List Nat := []    -- instants of the last three auto-restarts, newest first (R245)
  critSince  : Option Nat := none -- the restart criterion has held since (R244)
  prolonged  : Bool := false     -- cooldown-prolonged raised in this COOLDOWN
  govRstLow  : Bool := false     -- gov_rst_n qualified low (R399)
  strap      : BitVec 2 := 0     -- host_if_sel sample (R401)
  scanMode   : Bool := false     -- scan_mode or EXTEST has taken the ports since the last reset (17 R421, 19 R439)
  constSet   : Bool := false     -- an image has set the CONST objects since VGOV became valid (00 R6)
  heldTriggers : List HeldTrigger := [] -- oldest first (R304)
  gathered   : Option (List HeldTrigger) := none -- triggers of one cycle while its command runs (R303)
  deriving DecidableEq, Repr

/-- One Registrar pin (12). `held` lists the scopes of its present held causes as pairs of scope kind and index. -/
structure Pin where
  latched    : Bool := false
  eff        : Nat := 0
  scope      : Nat := 0          -- rail mask, 0x5010+n:0C
  held       : List (Nat × Nat) := []
  count      : Nat := 0          -- D-class events in the window
  winEnd     : Nat := 0
  deriving DecidableEq, Repr

/-- A record (12 R305). -/
structure Record where
  seq        : Nat
  code       : Nat
  time       : Nat               -- TAI in ns, bits [61:0]
  quality    : Nat               -- bits [63:62]
  pa         : Nat
  pb         : Nat
  deriving DecidableEq, Repr

/-- A record waiting to be written, and whether it is to be copied to the Vitrine. `group` is the number of records of
its group on a primary record and 0 on a continuation (R306, R309). -/
structure Queued where
  record     : Record
  vitrine    : Bool
  group      : Nat
  deriving DecidableEq, Repr

/-- Event recorder (12 R308 to R310). -/
structure Recorder where
  nextSeq    : Nat := 1
  queue      : List Queued := []
  daybook    : Tbl Record := []  -- slot, record
  vitrine    : List Record := [] -- slot i is entry i
  copying    : Bool := false     -- the group being written is copied to the Vitrine
  head       : Nat := 0
  first      : Nat := 1
  page       : Nat := 0
  deriving DecidableEq, Repr

/-- TAI time (12 Time). While GCLK runs the time is `base` plus the cycles of the C-frame; while it is stopped it is
`base` plus what has passed since `stopped`. -/
structure Clock where
  base       : Nat := 0
  quality    : Nat := 0
  lastSet    : Nat := 0
  stopped    : Option Nat := none
  deriving DecidableEq, Repr

/-- A crash-dump area (12 R314): the fields the dump engine writes and the captured bytes from offset 32. -/
structure Dump where
  valid      : Bool := false
  cause      : Nat := 0
  restarts   : Nat := 0
  version    : Nat := 0
  time       : Nat := 0
  seq        : Nat := 0
  bytes      : List Host.Cell := []
  clearing   : Bool := false
  deriving DecidableEq, Repr

/-- Configuration of one interrupt source (13 R318). Codes 6 and 7 mean none. -/
structure SrcCfg where
  target     : Nat := 7
  prio       : Nat := 0
  fallback   : Nat := 7
  deriving DecidableEq, Repr

/-- One interrupt target (13). -/
structure Target where
  thresh     : Nat := 0
  sleep      : Bool := false
  deriving DecidableEq, Repr

/-- Interrupt controller (13). `pend` and `mask` hold 64-bit words by word number, `active` the target a claimed source
is active for, `waitSince` the instant a source became pending for an asleep target, `fallen` the sources that have moved
to their fallback target, `heldSignals` what the sub-island keeps while GCLK is stopped (R327). -/
structure Icu where
  pend       : Tbl W64 := []
  mask       : Tbl W64 := []
  active     : Tbl (Option Nat) := []
  cfg        : Tbl SrcCfg := []
  targets    : Tbl Target := []
  waitSince  : Tbl (Option Nat) := []
  fallen     : List Nat := []
  watch      : Tbl W64 := []
  heldSignals : List Nat := []
  claimWord  : W64 := 0          -- what the last claim read returned
  deriving DecidableEq, Repr

/-- Condition of a mailbox slot (13). -/
inductive SlotSt where
  | free | posted | taken
  deriving DecidableEq, Repr

/-- One slot of a channel. -/
structure Slot where
  st         : SlotSt := .free
  stale      : Bool := false
  orphaned   : Bool := false
  offset     : Nat := 0
  length     : Nat := 0
  epoch      : Nat := 0
  due        : Nat := 0          -- instant its timeout expires
  deriving DecidableEq, Repr

/-- One mailbox channel (13 R330 to R336). -/
structure Channel where
  slots      : Tbl Slot := []
  mask       : W64 := 0
  ack        : W64 := 0
  tost       : W64 := 0
  takeWord   : W64 := 0          -- what the last take read returned
  deriving DecidableEq, Repr

/-- A mailbox message that firmware has formed and not yet posted: header and payload (13 R336 to R338). -/
structure Reply where
  channel    : Nat
  bytes      : List Byte
  deriving DecidableEq, Repr

/-- What the configuration image gives and no object holds (00 R11, 19 Platform descriptor). -/
structure Descriptor where
  rails       : List RailDesc := []
  senseRail   : List (Nat × Nat) := []
  arrayDomain : List (Nat × Nat) := []
  stackSupply : List (Nat × Nat) := []
  external    : List ExtSensor := []
  families    : List (Nat × Nat) := []
  filters     : List Nat := []      -- FILTER instances that the image gives an object (08 R200, DEDUCED, log 133)
  coreUsesHrp : Bool := false
  deriving DecidableEq, Repr

/-- A queued Muriri event (15 R375, R376). -/
structure Event where
  seq        : Nat
  level      : Nat
  pin        : Nat
  repeats    : Nat := 0
  sentAt     : Option Nat := none
  deriving DecidableEq, Repr

/-- Lane states (03 Lane states; codes in 0x2100+n:02). -/
inductive LaneSt where
  | unassigned | cold | warm | active | blind | faulted | missing | unused | retry
  deriving DecidableEq, Repr

/-- The step of a stage-fault retry (03 R67): waiting for pl_flt_n to have been high for the retry delay, re-enabled,
or none. -/
inductive RetryStep where
  | none | waiting | enabled
  deriving DecidableEq, Repr

/-- One Phase Link lane (03). -/
structure Lane where
  st         : LaneSt := .unassigned
  cause      : Nat := 0          -- 0x2100+n:03
  current    : Int := 0          -- 0x2100+n:0C, mA
  duty       : Nat := 0          -- 0x2100+n:0D
  nextDuty   : Nat := 0          -- committed at cycle 132, governs edges from the next tick (R55)
  theta      : Nat := 0          -- 0x2100+n:0E, edge steps
  lastX      : Nat := 16384      -- last plausible decimator output (R61; before any plausible one a DESIGN CHOICE, log 10)
  lastBit    : Bool := false     -- last pl_isd bit
  bitRun     : Nat := 0          -- pl_isd bits in a row equal to it, counted to 128 (R61)
  good       : Nat := 0          -- good samples of the census window (R64)
  bad        : Bool := false     -- a sample of the census window has not been plausible, or the stream was stuck (R64)
  lead       : Nat := 0          -- leading edge of the present period, edge steps of the model's clock (R54)
  trail      : Nat := 0          -- trailing edge of its pulse; at `lead` where there is no pulse
  lastTrail  : Nat := 0          -- trailing edge of the last pulse before it
  badRun     : Nat := 0          -- consecutive implausible samples while ACTIVE (R70)
  retrying   : Bool := false     -- the sense retry of R70 runs
  retryLeft  : Nat := 0
  senseLost  : Bool := false     -- a sample of the retry has failed
  nearRun    : Nat := 0          -- consecutive near-zero periods (R69)
  ranAll     : Bool := false     -- ACTIVE since the present period began (R68)
  openHeld   : Bool := false     -- open detection has been suspended in the period (R70)
  below      : Bool := true      -- every sample of the period below the open threshold
  loaded     : Bool := true      -- rail current per running lane at least four times it throughout the period
  tacc       : Int := 0          -- R88
  trim       : Int := 0
  startDue   : Bool := false     -- an added lane that runs from the next F-frame tick it can (R52)
  wakeEnd    : Option Nat := none -- end of its wake time
  parkEnd    : Option Nat := none -- end of its warm-park time
  forecastWake : Bool := false   -- woken for a forecast (R442)
  retry      : RetryStep := .none
  faultAt    : Nat := 0          -- first assertion of pl_flt_n (R67)
  observing  : Option Nat := none -- end of the retry observation time
  peakCut    : Bool := false     -- has ended its own fire pulse (R106)
  deriving DecidableEq, Repr

/-- Sequencing condition of a rail (04 R115 to R117). -/
inductive RailSeq where
  | off | census | ramping | good | discharging
  deriving DecidableEq, Repr

/-- All-phase fire of a rail (04 R104 to R107). -/
inductive FireSt where
  | armed | firing | lockout
  deriving DecidableEq, Repr

/-- What a fire has changed in the cycle it engaged, for a clamp of the same cycle (04 R113): the lane plan, the lanes of the
rail and the capture's trigger as they stood. -/
structure FireUndo where
  plan       : Nat
  lanes      : List (Nat × Lane)
  capStatus  : Nat
  capSeen    : Bool
  deriving DecidableEq, Repr

/-- One rail: setpoint, voltage law, lane plan, fire, protection and sequencing (04), with what Phase Link keeps per
rail (03 R58, R72, R75). -/
structure Rail where
  seq        : RailSeq := .off
  goodOnce   : Bool := false     -- power-good since its last ramp began
  rampUp     : Bool := false     -- the setpoint is still rising at the ramp rate (R90, R115)
  code       : Nat := 2          -- divider code in force (02 R33)
  setpoint   : Nat := 0          -- present setpoint, 1/16 mV
  avs        : Nat := 0          -- AVS trim in force
  avsBlock   : Nat := 0          -- H-frames for which increases are blocked (R93)
  backOff    : Bool := false     -- a back-off applies at the next F-frame tick
  avsHeld    : Bool := false     -- trim held at 0 since SAFE or TRIP (R93)
  prePos     : Nat := 0          -- pre-position target in force
  preEnd     : Nat := 0          -- C-frame at which a held target ends (R97)
  safeUses   : Nat := 0          -- outstanding third executions that use the safe point (11 R275)
  die        : Nat := 0          -- 0x2200+r:08
  dieValid   : Bool := false
  low        : Option Nat := none -- lowest valid sample of the last F-frame
  high       : Option Nat := none -- highest valid sample of the last F-frame
  e          : List Int := [0, 0, 0, 0]
  w          : List Int := [0, 0, 0]
  lawDone    : Bool := false     -- this F-frame's law has moved the histories
  e0         : List Int := [0, 0, 0, 0] -- the histories before it (R87)
  w0         : List Int := [0, 0, 0]
  drail      : Nat := 0          -- rail duty of the last law evaluation
  overruns   : Nat := 0          -- consecutive F-frames whose law overran (02 R41)
  current    : Int := 0          -- measured current at the last F-frame tick (R62)
  iC         : Int := 0          -- measured current latched at the last C-frame tick
  fMax       : Int := 0          -- highest current latched at an F-frame tick of this C-frame
  barSeen    : Bool := false     -- a shed bar has applied at an F-frame tick of this C-frame (R101)
  plan       : Nat := 0          -- planned lane count N
  dwell      : Nat := 0
  dwellMax   : Int := 0
  shed       : Option Nat := none -- shed in progress to this count
  shedDue    : Bool := false     -- the dwell has been reached (R101)
  stepDue    : Bool := false     -- a load step detected at a boundary tick waits for its shed (R113)
  reLane     : Bool := false     -- a re-interleave waits for the next f_sw boundary (R58)
  pairShed   : Bool := false     -- two BLIND lanes stop at the next f_sw boundary (R72)
  forecastBar : Bool := false    -- a forecast step lies within the add horizon (R100)
  fire       : FireSt := .armed
  fireAt     : Nat := 0          -- engagement, then start of lockout
  fireWas    : Option FireUndo := none -- what stood before the last engagement of this F-frame (R113)
  inFire     : Bool := false     -- this F-frame contains part of a fire (R87)
  fires      : Nat := 0          -- fires in this H-frame (R108)
  clamp      : Bool := false     -- overvoltage clamp (R109)
  uvRun      : Nat := 0
  senseLost  : Bool := false     -- R84
  senseGone  : Bool := false     -- the last sense tap has been excluded: R84 acts from the next F-frame tick
  fireSeen   : Bool := false     -- no sample at or above the fire level since the last sense-tap trigger (R104)
  trigAt     : Option Nat := none -- instant of the last trigger that found the rail firing (R113)
  censusFrom : Nat := 0          -- instant at which the census began (R64)
  censusN    : Nat := 0          -- whole F-frames of the census window that have passed (R64)
  pgRun      : Nat := 0
  deadline   : Nat := 0          -- of its ramp (R115)
  cutFrom    : Option Nat := none -- capacity before the fall that started the capacity cut (R75)
  cutOn      : Bool := false     -- the cut is in force (from the next C-frame tick)
  cutCap     : Nat := 0          -- lane capacity at the last C-frame tick of the cut
  accI       : Int := 0          -- sum of F-frame currents of this C-frame
  accP       : Int := 0          -- sum of F-frame current times die voltage
  accN       : Nat := 0
  power      : Nat := 0          -- power of the last C-frame, mW
  deriving DecidableEq, Repr

/-- One sense tap (04 R82 to R84). -/
structure SenseTap where
  mean       : Option Nat := none -- F-frame mean, 1/16 mV
  suspect    : Nat := 0          -- consecutive F-frames that disagree
  retry      : Bool := false     -- the next F-frame is the retry
  confirmed  : Bool := false     -- the retry has failed
  excluded   : Bool := false
  deriving DecidableEq, Repr

/-- Tap states (05; codes in 0x2500+t:02). -/
inductive TapSt where
  | unassigned | idle | valid | suspect | masked | missing | unused | sense
  deriving DecidableEq, Repr

/-- One droop tap (05). `sum` and `count` run over the valid reports of the present F-frame. -/
structure DroopTap where
  st         : TapSt := .unassigned
  code       : Nat := 63
  mean       : Nat := 63
  sum        : Nat := 0
  count      : Nat := 0
  suspect    : Nat := 0          -- consecutive compared F-frames that disagree
  agreed     : Option Bool := none -- verdict of the retry F-frame of a SUSPECT tap (R135)
  parityBad  : Bool := false     -- the last report failed parity (R134)
  run        : Nat := 0          -- consecutive valid reports in the census (R137)
  reach      : Nat := 0          -- level that its latest report reaches
  maskedAt   : Option Nat := none -- instant of its masking (R128: a report of that cycle)
  seen       : Bool := false     -- has delivered a valid report
  volts      : BitVec 16 := 0    -- absolute voltage sample of a sense tap (17)
  deriving DecidableEq, Repr

/-- Thresholds in force of a tap group and the band they belong to (05 R125, R18); at reset those of TB_7 (17 R405). -/
structure TapGroup where
  band       : Nat := 0
  mild       : Nat := 24
  deep       : Nat := 16
  severe     : Nat := 8
  deriving DecidableEq, Repr

/-- An excursion window (05 R132): open and close in GCLK cycles, close undetermined while its event lasts. Causes:
droop, thermal. -/
structure Window where
  opened     : Int
  closed     : Option Nat := none
  droop      : Bool := false
  thermal    : Bool := false
  deepest    : Nat := 0
  lowest     : Nat := 63
  tap        : Nat := 0
  post       : Nat := 0          -- post time in force when it opened, GCLK cycles
  deriving DecidableEq, Repr

/-- Droop state of a domain (05 R126 to R133). -/
structure Droop where
  level      : Nat := 0          -- 0 none, 1 MILD, 2 DEEP, 3 SEVERE
  stretch    : Nat := 0          -- droop stretch, steps
  stood      : Bool := false     -- has stood above 1 step since it last rose from 0 (R129)
  deepest    : Nat := 0          -- of the domain event
  active     : Bool := false     -- a domain event is in progress
  frozen     : Option Nat := none -- issue freeze since
  stretched  : Option Nat := none -- stretch above 0 since
  badMild    : Nat := 0          -- instant of the last valid report not above MILD plus hysteresis
  badDeep    : Nat := 0
  badSevere  : Nat := 0
  stepAt     : Nat := 0          -- last release step
  long       : Bool := false     -- long freeze raised in this freeze
  window     : Option Window := none
  thermal    : Bool := false     -- thermal request held (R132, 09 R233)
  oxsc       : Nat := 0          -- level latched by the OXS-C fast path, steps
  lineDeep   : Bool := false     -- od_deep and od_sev as last known (17 R406)
  lineSev    : Bool := false
  fast       : Nat := 0          -- level latched by a line that no report has matched yet (R128)
  fastAt     : Nat := 0          -- instant of that latch
  indicAt    : Option Nat := none -- instant of the last DEEP or SEVERE indication (R139)
  severeH    : Nat := 0          -- SEVERE events in this H-frame
  lowest     : Nat := 63         -- statistics of the H-frame
  lowTap     : Nat := 0
  fLow       : Nat := 64         -- lowest valid code of this F-frame; 64 for none
  hist       : List Nat := [0, 0, 0, 0, 0, 0, 0, 0]
  evMild     : Nat := 0
  evDeep     : Nat := 0
  evSevere   : Nat := 0
  frozenH    : Nat := 0
  stretchedH : Nat := 0
  frozenFrom : Nat := 0          -- start of the frozen time not yet counted
  stretchFrom : Nat := 0
  sLowest    : Nat := 63         -- snapshot (R133)
  sTap       : Nat := 0
  sHist      : List Nat := [0, 0, 0, 0, 0, 0, 0, 0]
  sMild      : Nat := 0
  sDeep      : Nat := 0
  sSevere    : Nat := 0
  sFrozen    : Nat := 0
  sStretched : Nat := 0
  sSeq       : Nat := 0
  safeUses   : Nat := 0          -- Assayer safe-point requests held (R12, 11 R275)
  deriving DecidableEq, Repr

/-- A reservation of an array (06 R152). -/
structure Reservation where
  ring       : Nat
  amount     : Int
  last       : Nat               -- C-frame count of its ring's last ISSUE
  deriving DecidableEq, Repr

/-- One array account (06 R145, R151). Balance, refill and cap are in 1/65,536 credit. -/
structure ArrayAcc where
  bal        : Int := 0
  fil        : Nat := 0          -- filler allotment, credits
  alloc      : Nat := 0          -- allotment that took effect at cycle 0 (17 R412)
  resv       : Option Reservation := none
  cum        : Nat := 0          -- cumulative refill, 48 bits
  refill     : Nat := 0          -- of this C-frame
  quarantined : Bool := false    -- set by the Assayer (11 R277)
  deriving DecidableEq, Repr

/-- One ring account (06 R146). -/
structure RingAcc where
  bal        : Int := 0
  snap       : Nat := 0
  deriving DecidableEq, Repr

/-- Rate, slew envelope, filler and debit scale of a rail (06 R142 to R163, 08 R206). Rates and energies per C-frame are
in 1/65,536 credit. -/
structure Shaper where
  rate       : Nat := 0          -- allowed energy rate in force in this C-frame
  next       : Nat := 0          -- committed or competing rate of the next C-frame
  mw         : Nat := 0          -- 0x2810+r:05
  bound      : Nat := 3          -- 0x2810+r:0A
  limiting   : Bool := false     -- 08 R207
  won        : Nat := 3          -- winner of the competition, published at cycle 840 (08 R206)
  competed   : Bool := false     -- the competition of this C-frame has run
  refill     : Nat := 0          -- 0x2810+r:06
  env        : Nat := 0          -- envelope E
  envNext    : Nat := 0
  envAim     : Nat := 0          -- target within the steps, before R_(k+1) limits it (R155)
  envShown   : Nat := 0          -- envelope as cycle 840 published it, 0x2810+r:07
  drop       : Bool := false     -- its target lies below E less the down step (R157)
  measured   : Nat := 0          -- energy of the previous C-frame
  quiet      : Nat := 0          -- C-frames since the target exceeded E + up step (R156)
  dither     : Nat := 0          -- C-frames of the release still held
  filler     : Nat := 0          -- filler rate for the next C-frame
  sigma      : Nat := 4096       -- debit scale, 1/4,096
  winM       : List Nat := []    -- measured energy of the last 64 C-frames, newest first
  winD       : List Nat := []    -- credits debited in them
  debited    : Nat := 0          -- credits debited in this C-frame
  sigmaRun   : Nat := 0          -- updates in a row with sigma at 4 and tau above 1
  overRun    : Nat := 0          -- C-frames in a row with measured energy above the allowed rate
  clip       : Bool := false     -- balances are limited to one C-frame of refill at the next tick (R148)
  ran        : Bool := false     -- the limit laws ran in the last C-frame (08 R204)
  deriving DecidableEq, Repr

/-- Condition of a group slot (07 Group slots). -/
inductive GroupSt where
  | free | predicted | granted
  deriving DecidableEq, Repr

/-- Source of a prediction (07). -/
inductive PredSource where
  | table | family | program | unannounced
  deriving DecidableEq, Repr

/-- An ANNOUNCE word in the queue with the C-frame count of its arrival (07 R181). -/
structure Waiting where
  word       : W64
  arrived    : Nat
  at_        : Nat := 0          -- instant of its arrival (R181)
  deriving DecidableEq, Repr

/-- A prediction formed for a word taken in this C-frame, to be committed at cycle 1,007 (07 R180, R181). -/
structure Prediction where
  array      : Nat
  ring       : Nat
  tag        : Nat
  cls        : Nat
  prec       : Nat
  dens       : Nat
  size       : Nat
  p          : Nat               -- credits with 8 fraction bits
  psig       : Nat
  d          : Nat
  source     : PredSource
  arrived    : Nat
  deriving DecidableEq, Repr

/-- A group slot (07 R173 to R178). -/
structure GroupSlot where
  st         : GroupSt := .free
  tagHi      : Nat := 0          -- TAG[12:8]
  ring       : Nat := 0
  cls        : Nat := 0
  prec       : Nat := 0
  dens       : Nat := 0
  size       : Nat := 0
  p          : Nat := 0
  psig       : Nat := 0
  d          : Nat := 1
  bin        : Nat := 0          -- first horizon bin at placement
  placed     : Nat := 0          -- C-frame count at placement
  source     : PredSource := .unannounced
  grantC     : Nat := 0          -- GRANT time, C-frame count and GCLK cycle
  grantG     : Nat := 0
  doneC      : Option Nat := none -- C-frame count of its DONE, while the digest is awaited (R185)
  deriving DecidableEq, Repr

/-- A running grant that occupies no slot of its own: untracked, or of ROLE 1 to 3 (07 R174, R186). -/
structure LooseGrant where
  array      : Nat
  ring       : Nat
  tag        : Nat
  role       : Nat
  rail       : Nat
  at_        : Nat               -- C-frame count of its GRANT
  deriving DecidableEq, Repr

/-- What a group that was active in the C-frame just ended brings to the fit (07 R185, R187). -/
structure Active where
  slot       : Nat
  cls        : Nat
  xs         : Nat
  share      : Nat               -- committed share p / d
  z0         : Nat
  z1         : Nat
  deriving DecidableEq, Repr

/-- One step of the fits of a C-frame, in order: an entry update, and the end of a rail's fit with its new static term
and errors (07 R187, R188). -/
inductive Fit where
  | entry (t : Int) (g : Active)
  | close (rail lst : Nat) (eps epsC : Int) (groups : Nat)
  deriving DecidableEq, Repr

/-- Learning of a rail (07 R184 to R188). -/
structure Learn where
  lst        : Nat := 0          -- static term L_r
  bc         : Nat := 0          -- baseline Bc
  meanErr    : Int := 0
  meanAbs    : Nat := 0
  meanAbsC   : Nat := 0
  nActive    : Nat := 0          -- 0x2C10+r:08
  reasons    : Nat := 0          -- 0x2C10+r:0A
  why        : List Nat := []    -- reasons that have arisen in this C-frame
  lastWhy    : List Nat := []    -- those of the C-frame just ended
  snap       : List Active := [] -- groups active in the C-frame just ended
  ended      : List Active := [] -- groups whose DONE came in this C-frame
  m8         : Nat := 0          -- energy of the C-frame just ended, credits with 8 fraction bits
  deriving DecidableEq, Repr

/-- One program bank (07 Program image): the image's bytes, how many have been loaded, and whether poison has disabled
it. -/
structure Bank where
  bytes      : List Host.Cell := []
  loaded     : Nat := 0
  disabled   : Bool := false
  deriving DecidableEq, Repr

/-- The Tally (07). -/
structure Tally where
  queue      : List Waiting := []
  taken      : List Prediction := []
  slots      : Tbl GroupSlot := []
  sigs       : Tbl W64 := []     -- class key, entry
  deferred   : List W64 := []    -- CANCEL words that wait for an ISSUE in its pipeline (R177)
  inFlight   : List (Nat × Nat) := [] -- matched slot number and instant of ISSUEs still before their debit
  awaiting   : Tbl (Option W64) := [] -- per port, the DONE whose digest is the next word (R166)
  doneAt     : Tbl Nat := []     -- per port, the instant of that DONE
  lookAt     : Nat := 0          -- first cycle in which the next lookup can run (R181)
  fits       : List Fit := []    -- fits of this C-frame still to be made (R187)
  fitDone    : Nat := 0          -- entry updates of this C-frame that have had their cycle
  restored   : List Nat := []    -- keys of entries restored in this C-frame (R195)
  answers    : Tbl (BitVec 32) := [] -- per port, the last answer word (R169)
  loose      : List LooseGrant := []
  railHor    : Tbl (List Nat) := []  -- 65 bins A_j by rail
  domHor     : Tbl (List Nat) := []
  learn      : Tbl Learn := []
  banks      : Tbl Bank := []
  active     : Option Nat := none    -- active bank
  inactive   : Nat := 0              -- bank that loads go to
  loadStatus : Nat := 0              -- 0x2C08:06
  activate   : Bool := false         -- an activation is pending
  evals      : Nat := 0              -- program evaluations of this C-frame
  evalsH     : Nat := 0              -- of this H-frame
  fallbacksH : Nat := 0
  sticky     : Nat := 0              -- 0x2C08:09
  deriving DecidableEq, Repr

/-- One law instance (08). The staged set is in its objects; `active` and `shadow` hold seven raw Q values each. -/
structure Law where
  active     : List Nat := []
  shadow     : List Nat := []
  pending    : Bool := false     -- a commit waits for its frame's tick (R209)
  status     : Nat := 0          -- :0D
  err        : Int := 0          -- error of the evaluation, capture signal 1
  shown      : Int := 0          -- :0F, the error in the type's error unit
  out        : Int := 0          -- output, capture signal 2
  meas       : Int := 0          -- measured value, capture signal 3
  tgt        : Int := 0          -- target in force, capture signal 4
  cand       : Int := 0          -- candidate that entered the last competition, a rate (R203, 02 R40)
  next       : Option (Int × Int × Int) := none -- candidate, error and shown error of this C-frame before cycle 600
  feRun      : Nat := 0          -- frames of following error in a row (R211)
  xs         : List Int := [0, 0] -- filter inputs (R205)
  ys         : List Int := [0, 0] -- filter outputs
  lost       : Bool := false     -- coefficient set lost (R210)
  deriving DecidableEq, Repr

/-- The injector (08 R213 to R215). -/
structure Injector where
  status     : Nat := 0          -- 0x4001:0D
  delay      : Nat := 0          -- frames of the start delay still to pass
  n          : Nat := 0
  ph         : Nat := 0
  f          : Nat := 0
  lfsr       : Nat := 0x7FFF
  x          : Int := 0
  stopping   : Bool := false     -- x is 0 from the next tick
  deriving DecidableEq, Repr

/-- The capture buffer (08 R216, R217): samples newest first, each of four signals. -/
structure Capture where
  status     : Nat := 0          -- 0x4002:0B
  samples    : List (List Int) := []
  after      : Nat := 0          -- samples recorded since the trigger
  trigIdx    : Nat := 0xFFFFFFFF -- 0x4002:0C
  trigC      : Nat := 0          -- 0x4002:0D
  phase      : Nat := 0          -- frames since the last sample
  seen       : Bool := false     -- the trigger has come
  deriving DecidableEq, Repr

/-- Sensor states (09; codes in 0x3100+s:02). -/
inductive SensSt where
  | unassigned | off | valid | stale | quarantined | failed | missing | unused
  deriving DecidableEq, Repr

/-- One temperature sensor: 0 to 255 on-die, 256 to 271 memory stacks, 272 to 287 external (09). -/
structure Sensor where
  st         : SensSt := .unassigned
  reading    : Int := 0          -- 1/64 degrees C
  fresh      : Bool := false     -- read at the last commit
  fails      : Nat := 0          -- consecutive counted failed reads
  count      : Nat := 0          -- cross-check count
  pred       : Int := 0          -- neighbour prediction
  reads      : Nat := 0          -- reads of its census so far (R224)
  bad        : Bool := false     -- a read of its census has failed
  rearm      : Bool := false     -- a re-arm waits for the next read (R227)
  rearmRead  : Bool := false     -- that read has started
  prevH      : Option Int := none -- value at the previous H-frame tick (R246)
  rise       : Nat := 0
  tripped    : Bool := false     -- 0x3100+s:0C
  programmed : Bool := false     -- its cell holds a programmed threshold (R241)
  thr        : Nat := 0          -- programmed trip code and hysteresis (17 R407)
  hys        : Nat := 0
  word       : Option (BitVec 18) := none -- latest word of a memory stack
  wordAt     : Nat := 0
  sampled    : Option (Option Int) := none -- a read started at the S-frame tick; a stack: what the sampled word reads as (R221)
  again      : Option Int := none -- a stack: what the retry of that read finds (R222)
  censusEnd  : Option Nat := none -- end of a stack's census (R224)
  deriving DecidableEq, Repr

/-- A read of an external sensor that the next commit point commits (09 R221): its sensor, its value where it or its retry
succeeded, and whether a re-arm waited for it. -/
structure ExtRead where
  sensor     : Nat
  value      : Option Int
  retried    : Bool
  restart    : Bool
  deriving DecidableEq, Repr

/-- Condition of a thermal region (09 R225, R231). -/
structure Region where
  temp       : Int := 0
  valid      : Bool := false
  band       : Nat := 7
  hottest    : Nat := 0
  deriving DecidableEq, Repr

/-- The Thermal Unit (09). -/
structure Thermal where
  f          : Nat := 100        -- staircase level
  stepAt     : Nat := 0          -- instant of the last step, engagement or end of a blind period
  blind      : Bool := false     -- a region is blind
  rorHot     : Bool := false     -- the package is hot at the next commit (R246)
  ceilF      : Nat := 100        -- staircase level that acts as ceiling since the last C-frame tick
  hotValue   : Int := 0          -- 0x3000:15
  hotSensor  : Nat := 0          -- 0x3000:16
  newTemp    : Bool := false     -- a temperature has been committed that no THERMAL law has seen (08 R203)
  extNext    : Nat := 0          -- external sensor of the next slot
  extRetry   : Bool := false     -- the next slot is a retry
  extRestart : Bool := false     -- a re-arm waits for the read that it retries
  extDone    : List ExtRead := [] -- external reads since the last commit, oldest first
  warn       : Tbl Nat := []     -- kinds at their warning threshold, with the region that raised the source (R230)
  coolExt    : Option Nat := none -- instant of the last coolant update from external sensors
  coolMgmt   : Option Nat := none -- instant of the last management update
  coolFlow   : Nat := 0          -- its flow
  coolSince  : Option Nat := none -- coolant valid with inlet below its limit since
  coolCap    : Bool := false     -- no-coolant cap in force
  coolArm    : Option Bool := none -- value it takes at the next C-frame tick
  inlets     : Tbl Int := []     -- last reading of every inlet: external sensors by number, 16 for management
  msBand     : Tbl Nat := []     -- memory-band outputs by stack
  domTm      : Tbl Nat := []     -- timing-margin outputs by domain
  deriving DecidableEq, Repr

/-- Domain states (10 Domains; codes in 0x3410+d:02). -/
inductive DomSt where
  | unused | off | waking | settling | on | draining | gating | faulted
  deriving DecidableEq, Repr

/-- What follows when a domain in GATING has let its last stage fall (10 R254, R255, R257, R259). -/
inductive AfterGating where
  | off | retry | fault
  deriving DecidableEq, Repr

/-- One power domain and its OXS-G cell (10). `stages` is the number of closed stages: go_en[n] is high for n below
it. -/
structure Domain where
  st         : DomSt := .unused
  stages     : Nat := 0
  iso        : Bool := true      -- go_iso
  wanted     : Bool := false     -- a wake request waits under R251
  rushWait   : Option Nat := none -- since when it waits for the rush condition alone (R252)
  waited     : Nat := 0          -- cycles it had waited for it alone before that
  retry      : Bool := false     -- the wake under way is the retry of R254
  retryAt    : Option Nat := none -- end of the domain retry delay
  stageAt    : Option Nat := none -- instant of the next stage step
  pgEnd      : Option Nat := none -- end of the power-good window
  pgAt       : Option Nat := none -- power-good since
  isoAt      : Option Nat := none -- go_iso falls
  censusDone : Bool := false     -- the droop census has completed or its window has ended
  censusEnd  : Option Nat := none
  drainEnd   : Option Nat := none
  after      : AfterGating := .off
  wakeStart  : Nat := 0
  written    : Bool := false     -- 0x3410+d:03 written since its last gating (R256)
  lostAt     : Option Nat := none -- last loss of power-good (R259)
  lastWake   : Nat := 0          -- 0x3410+d:0F, ns
  meterFrom  : Bool := false     -- metering of its arrays has started (C-frame tick after ON)
  deriving DecidableEq, Repr

/-- Where an assay entry stands (11): waiting for original and duplicate, a mismatch waiting in the queue of 64, the safe
point requested, the third execution requested. -/
inductive EntrySt where
  | comparing | queued | settling | third
  deriving DecidableEq, Repr

/-- One assay entry (11 Assay requests). Times of GRANT and DONE are C-frame counts; deadlines are instants. -/
structure Entry where
  origin     : Nat
  ring       : Nat
  tag        : Nat
  grant      : Nat
  grantG     : Nat := 0          -- GCLK cycle of the GRANT
  doneC      : Option Nat := none
  doneG      : Nat := 0          -- GCLK cycle of the DONE
  digest     : W64 := 0
  dup        : Nat
  dupC       : Nat := 0
  dupDigest  : Option W64 := none
  third      : Option Nat := none
  thirdC     : Nat := 0
  thirdDigest : Option W64 := none
  selected   : Nat               -- instant of selection
  limit      : Nat               -- duplicate deadline in force at selection, cycles
  deadline   : Option Nat := none -- set at the original's DONE (R273)
  thirdDeadline : Option Nat := none
  st         : EntrySt := .comparing
  window     : Nat               -- fence interval of its GRANT
  fence      : Option Nat := none -- id of the covering fence
  tagged     : Bool := false     -- counted as window-tagged (R269)
  deriving DecidableEq, Repr

/-- An eligible group that is not selected: granted, or in the completion log once its DONE is accepted (R269). -/
structure Group where
  array      : Nat
  ring       : Nat
  tag        : Nat
  grant      : Nat
  grantG     : Nat := 0
  doneAt     : Option Nat := none
  doneC      : Nat := 0
  doneG      : Nat := 0
  digest     : W64 := 0
  logged     : Bool := false
  window     : Nat
  fence      : Option Nat := none
  deriving DecidableEq, Repr

/-- An unanswered contribution fence (R281, R282). `window` numbers the interval of GRANTs it covers. -/
structure Fence where
  id         : Nat
  window     : Nat
  failed     : Nat
  unassayed  : Nat
  deriving DecidableEq, Repr

/-- A known-answer run (R287). `todo` and `out` hold pairs of array and library index; `out` also the instant of the
request. -/
structure AnswerRun where
  status     : Nat := 0          -- 0x6003:04
  active     : Bool := false
  sweep      : Bool := false     -- the run of a sweep step
  votes      : Bool := true      -- fails count as lost votes
  todo       : List (Nat × Nat) := []
  out        : List (Nat × Nat × Nat) := []
  failed     : List Nat := []    -- arrays with a fail in the present step
  deriving DecidableEq, Repr

/-- A margin sweep (R288). -/
structure Sweep where
  status     : Nat := 0          -- 0x6002:07
  trim       : Nat := 0
  steps      : Nat := 0
  start      : Nat := 0
  stop       : Nat := 0          -- instant it ended
  rail       : Nat := 0
  live       : List Nat := []
  found      : List Nat := []
  moved      : List Nat := []
  band0      : Tbl Nat := []
  pass       : Tbl Nat := []
  events     : List Nat := []    -- domains with a DEEP or SEVERE event in the step
  bands      : List Nat := []    -- domains whose band has changed in the step
  settleEnd  : Option Nat := none
  deriving DecidableEq, Repr

/-- The Assayer (11). -/
structure Assayer where
  gens       : Tbl Nat := []     -- sampling generators
  seed       : Nat := 0          -- 0x6000:06 as BOOT seeded the generators with it (R268)
  entries    : Tbl Entry := []
  groups     : List Group := []
  requests   : List W64 := []
  sent       : W64 := 0          -- as_req, the last word transferred
  thirds     : List Nat := []    -- entries waiting for a third execution
  lost       : Tbl (List Nat) := [] -- instants of the last 15 lost votes of an array
  qcause     : Tbl Nat := []     -- 0x6010+a:08
  indet      : Tbl Nat := []     -- INDETERMINATE outcomes counted against an array (R276)
  fences     : List Fence := []
  fenceWindow : Nat := 0
  openFailed : Nat := 0          -- outcomes of the groups no fence covers yet
  openUnassayed : Nat := 0
  status     : W64 := 0          -- cf_st, the last status word
  run        : AnswerRun := {}
  sweep      : Sweep := {}
  vmin       : Tbl Nat := []     -- domain * 8 + band
  results    : Tbl Nat := []     -- 0x6200+d:09
  deriving DecidableEq, Repr

/-- Condition of a firmware core (0x7410+c:01). -/
inductive CoreSt where
  | stopped | booting | running | restarting | held
  deriving DecidableEq, Repr

/-- One bank of a core (14): the release it holds (0: empty), the bytes loaded by an update, and how many. -/
structure FwBank where
  release    : Nat := 0
  bytes      : List Host.Cell := []
  loaded     : Nat := 0
  deriving DecidableEq, Repr

/-- One firmware core (14). -/
structure Core where
  st         : CoreSt := .stopped
  active     : Nat := 0
  banks      : Tbl FwBank := []
  trapAt     : Nat := 0
  lastRestart : Nat := 0         -- 0x7410+c:07, ns
  crashes    : List Nat := []    -- instants of the crashes of the last 60 s
  compFaults : List (Nat × Nat) := [] -- component, instant
  dumpWaits  : Option Dump := none -- capture that waits for a clearing to complete (18 R429)
  deriving DecidableEq, Repr

/-- Live update (14 R348 to R350). -/
structure Update where
  status     : Nat := 0          -- 0x7420:05
  target     : Nat := 0
  probEnd    : Nat := 0
  restartEnd : Nat := 0          -- bound of the restart after activation
  restarting : Bool := false
  deriving DecidableEq, Repr

/-- An open host session (14 R351 to R353), kept by its host-to-COM channel. -/
structure HostSession where
  id         : Nat
  driver     : Nat := 0
  period     : Nat := 100        -- ms
  metering   : Bool := false
  beatAt     : Nat := 0          -- its loss timer restarted
  sentAt     : Nat := 0          -- COM's last Heartbeat
  deriving DecidableEq, Repr

/-- An access to the emulated G3 block in COM's queue (14 R355): byte offset in the G3 register set. -/
structure G3Access where
  write      : Bool
  offset     : Nat
  word       : W64
  at_        : Nat
  deriving DecidableEq, Repr

/-- Host interface of COM (14). `sessions` is keyed by channel. -/
structure HostIf where
  hostState  : Nat := 0          -- 0x7400:03
  sessions   : Tbl HostSession := []
  beats      : Nat := 0          -- Heartbeats sent
  queue      : List G3Access := []
  waiting    : List G3Access := [] -- accesses that found the queue full, oldest first
  read       : W64 := 0          -- what the last emulated read returned
  deriving DecidableEq, Repr

/-- What the last object access answered (15): abort code, 0 for success, and the data of a read. -/
structure Answer where
  code       : Nat := 0
  data       : List Byte := []
  deriving DecidableEq, Repr

/-- The object window (15 R367). An access completes within its command, so BUSY reads 0 between commands. -/
structure ObjWindow where
  claimed    : Bool := false
  got        : Bool := false     -- what the last read of OBJ_CLAIM returned
  isDone     : Bool := false
  rlen       : Nat := 0
  code       : Nat := 0
  usedAt     : Nat := 0          -- claim or last command
  data       : List Host.Cell := []
  deriving DecidableEq, Repr

/-- A challenge (15 R377): its 16 bytes and the instant it was read. -/
structure Challenge where
  bytes      : BitVec 128
  at_        : Nat
  deriving DecidableEq, Repr

/-- Locks and authentication, kept in the object engine (15 R366, R377 to R379). `locks` are pairs of index and session;
`authed` maps an authenticated session to the challenge its key is formed from. -/
structure Access where
  locks      : List (Nat × Nat) := []
  authed     : Tbl (BitVec 128) := []
  challenges : Tbl Challenge := []
  fails      : List Nat := []    -- instants of the last failures
  block      : Option Nat := none -- end of the block
  nextId     : Nat := 1          -- session id pool (R365)
  late       : Bool := false     -- the serving core does not complete the next access it serves in time (R364)
  deriving DecidableEq, Repr

/-- A Muriri frame the Governor sends (15). -/
structure OutFrame where
  dst        : Nat
  kind       : Nat
  session    : Nat
  seq        : Nat
  body       : List Byte
  tag        : Option (BitVec 128) := none
  deriving DecidableEq, Repr

/-- A segmented transfer (15 R373, R374). `data` is what has arrived of a write, or the captured value of a read. -/
structure Transfer where
  write      : Bool
  index      : Nat
  sub        : Nat
  total      : Nat
  seq        : Nat
  next       : Nat               -- next segment expected, or segment sent and not acknowledged
  data       : List Byte
  misses     : Nat := 0
  due        : Nat := 0          -- instant of the segment timeout
  last       : OutFrame          -- the last frame sent
  deriving DecidableEq, Repr

/-- An open Muriri session (15 R370 to R372). -/
structure MuSession where
  mac        : Nat
  heardAt    : Nat               -- idle timer
  lastSeq    : Option Nat := none
  cache      : Option OutFrame := none
  opened     : Bool := true      -- its OPEN is its last handled request
  transfer   : Option Transfer := none
  deriving DecidableEq, Repr

/-- Muriri (15). `tx` holds the frames sent by the last command that sent one. -/
structure Muriri where
  sessions   : Tbl MuSession := []
  tx         : List OutFrame := []
  deriving DecidableEq, Repr

/-- Condition of a segment member (16 R385). -/
inductive Presence where
  | absent | present | missing
  deriving DecidableEq, Repr

/-- One member as its coordinator keeps it (16). `acks` says for the last three budgets, newest first, whether they were
acknowledged. -/
structure Member where
  cond       : Presence := .absent
  acks       : List Bool := []
  acked      : Bool := false     -- an acknowledgement has come since the last formation
  missingAt  : Nat := 0
  state      : Nat := 0
  last       : Nat := 0
  power      : Nat := 0
  demand     : Nat := 0
  mismatch   : Bool := false     -- its last acknowledgement had a schema or epoch mismatch
  offset     : Nat := 0
  deriving DecidableEq, Repr

/-- A budget on its way to the next C-frame tick: mW, up slew, down slew, dither (16 R389). -/
structure Grant where
  mw         : Nat
  up         : Nat
  down       : Nat
  dither     : Option Nat
  deriving DecidableEq, Repr

/-- Segment coordination (16). -/
structure Segment where
  role       : Nat := 1          -- role state, 0x7000:05
  ceiling    : Option Nat := none -- segment ceiling in force, mW of the package
  arm        : Option Grant := none -- applies at the next C-frame tick
  up         : Option Nat := none -- slews of the last entry
  down       : Option Nat := none
  lastSeq    : Option Nat := none -- last BUDGET accepted
  b0         : Option Nat := none -- last good budget
  share      : Nat := 0          -- H-frame ticks since ISLAND or REFUSED
  fedAt      : Nat := 0          -- coordinator-loss timer
  timeOffset : Int := 0
  bseq       : Nat := 1          -- next budget sequence
  hcount     : Nat := 0          -- H-frame ticks since BOOT
  members    : Tbl Member := []
  unknown    : List Nat := []    -- source addresses recorded (R391)
  shortfall  : Bool := false
  foreign    : Option Nat := none -- end of the cause raised by a foreign BUDGET
  hEnergy    : Nat := 0          -- package energy of the present H-frame, nJ
  hPower     : Nat := 0          -- mean package power of the last H-frame, mW
  deriving DecidableEq, Repr

/-- Fuses (19 R440). -/
structure Fuses where
  serial     : Nat := 0
  key        : BitVec 256 := 0
  keyVersion : Nat := 0
  revoked    : Nat := 0
  minSecurity : Nat := 0
  lock       : Bool := false
  deriving DecidableEq, Repr

/-- Test access (19): the fuses themselves and what BOOT read of them, the TAP's instruction, trims and the analogue test buses. -/
structure Test where
  fuses      : Fuses := {}
  fused      : Fuses := {}
  ir         : BitVec 8 := 0xFF
  idcode     : BitVec 32 := 0    -- the device identification register as last captured
  trims      : Tbl (Int × Int) := []
  clockTrim  : Int := 0
  bist       : Tbl Bool := []
  atb        : BitVec 16 := 0    -- last accepted routing write
  atbA       : BitVec 16 := 0
  atbB       : BitVec 16 := 0
  deriving DecidableEq, Repr

/-- The SRAMs of the Governor that can hold poison (12 R302). -/
inductive PoisonAt where
  | assayEntry | completionLog | library | vmin | signature | family | slot | horizon | weights | program | coefficients
  | shadow | lawState | daybook | vitrine | message | capture
  deriving DecidableEq, Repr

/-- The state of the Governor. `pending` is the queue of waiting commands, first in first out. Fields that are the
model's own and not the spec's: `pending`, `free` (the number of the next free value), `poison` (the SRAM words that read
with poison; no command of the table makes one),
`answer` (what the last object access answered), `replies` (mailbox replies made by firmware). -/
structure State where
  pending    : List Instr := []
  cfg        : Config := .full
  free       : Nat := 0
  tb         : Timebase := {}
  gov        : Gov := {}
  od         : Tbl Nat := []     -- object dictionary: index * 256 + subindex, raw value
  desc       : Descriptor := {}
  pins       : Tbl Pin := []
  recorder   : Recorder := {}
  clock      : Clock := {}
  dumps      : Tbl Dump := []
  icu        : Icu := {}
  channels   : Tbl Channel := []
  epochs     : Tbl Nat := []
  mram       : List Host.Cell := []
  replies    : List Reply := []
  lanes      : Tbl Lane := []
  rails      : Tbl Rail := []
  senseTaps  : Tbl SenseTap := []
  events     : List Event := []
  domains    : Tbl Domain := []
  droops     : Tbl Droop := []
  taps       : Tbl DroopTap := []
  groups     : Tbl TapGroup := []
  windowRecs : Nat := 0          -- window records written in this H-frame (05 R132)
  arrays     : Tbl ArrayAcc := []
  rings      : Tbl RingAcc := []
  sweepRing  : Nat := 0          -- next ring of the background sweep (06 R147)
  dither     : Nat := 0          -- dither offset in force (06 R156)
  shapers    : Tbl Shaper := []
  tally      : Tally := {}
  laws       : Tbl Law := []
  injector   : Injector := {}
  capture    : Capture := {}
  sensors    : Tbl Sensor := []
  regions    : Tbl Region := []
  thermal    : Thermal := {}
  assayer    : Assayer := {}
  cores      : Tbl Core := []
  update     : Update := {}
  host       : HostIf := {}
  answer     : Answer := {}
  window     : ObjWindow := {}
  access     : Access := {}
  muriri     : Muriri := {}
  segment    : Segment := {}
  test       : Test := {}
  poison     : List (PoisonAt × Nat) := []
  deriving DecidableEq, Repr

/-- Why a command stops the model. No command of this block stops: the Registrar records every fault and the machine
goes on (12). The type has one constructor, which nothing raises; safe. -/
inductive Fault where
  /-- Raised by nothing: no command of the spec stops the block. Safe. -/
  | never
  deriving DecidableEq, Repr

/-- Why the model has no meaning for a command. -/
inductive Refusal where
  /-- Raised by an arm of `exec` whose command has no meaning yet. Safe: the model stops. -/
  | notModelled (mnemonic : String)
  deriving DecidableEq, Repr

/-- The machine right after cold reset: VGOV valid, BOOT, everything at its reset value, GCLK not yet running
(10 R261, R265). -/
def State.reset : State := {}

end Sys2Proof.Machine
end

