-- ==== Sys2Proof/Machine/Clock.lean ====
section
/-! DEFINITION. What an idle step does. -/

namespace Sys2Proof.Machine

/-- One nominal GCLK cycle passes with no command: the model's clock advances, nothing else changes. -/
def State.idle (s : State) : State := { s with tb := { s.tb with now := s.tb.now + 1 } }

end Sys2Proof.Machine
end

