-- ==== Sys2Proof/Machine/Ops.lean ====
section
/-! DEFINITION. Named operations over the plain parts of the state: sparse tables, byte memories, little-endian words,
saturation, and the conversion of the manual's times to GCLK cycles. -/

namespace Sys2Proof.Machine

/-! ### Sparse tables -/

/-- The record of instance `k`, or `d` where the table lists none. -/
def tget {α : Type} (t : Tbl α) (k : Nat) (d : α) : α :=
  match t with
  | [] => d
  | (j, v) :: rest => if j = k then v else tget rest k d

/-- The table with instance `k` at `v`; numbers stay in rising order. -/
def tset {α : Type} (t : Tbl α) (k : Nat) (v : α) : Tbl α :=
  match t with
  | [] => [(k, v)]
  | (j, w) :: rest =>
    if j = k then (k, v) :: rest
    else if k < j then (k, v) :: (j, w) :: rest
    else (j, w) :: tset rest k v

/-- The table with instance `k` changed by `f`. -/
def tmod {α : Type} (t : Tbl α) (k : Nat) (d : α) (f : α → α) : Tbl α := tset t k (f (tget t k d))

/-- The table without instance `k`. -/
def tdel {α : Type} (t : Tbl α) (k : Nat) : Tbl α := t.filter (fun p => p.1 != k)

/-- Whether the table lists instance `k`. -/
def thas {α : Type} (t : Tbl α) (k : Nat) : Bool := t.any (fun p => p.1 == k)

/-- The pair list's value for a key, first entry first. -/
def assoc (l : List (Nat × Nat)) (k : Nat) : Option Nat :=
  match l with
  | [] => none
  | (j, v) :: rest => if j = k then some v else assoc rest k

/-! ### Byte memories: unlisted bytes read zero -/

/-- The byte at address `a`. -/
def mread (m : List Host.Cell) (a : Nat) : Byte :=
  match m with
  | [] => 0
  | (j, v) :: rest => if j = a then v else mread rest a

/-- The memory without a cell at `a`. -/
def merase (m : List Host.Cell) (a : Nat) : List Host.Cell :=
  match m with
  | [] => []
  | (j, v) :: rest => if j = a then rest else (j, v) :: merase rest a

/-- The memory with a listed cell at `a`. -/
def minsert (m : List Host.Cell) (a : Nat) (b : Byte) : List Host.Cell :=
  match m with
  | [] => [(a, b)]
  | (j, v) :: rest =>
    if j = a then (a, b) :: rest
    else if a < j then (a, b) :: (j, v) :: rest
    else (j, v) :: minsert rest a b

/-- One byte written: a zero is what an unlisted byte reads as, so it is not listed. -/
def mwrite (m : List Host.Cell) (a : Nat) (b : Byte) : List Host.Cell :=
  if b = 0 then merase m a else minsert m a b

/-- Bytes written from address `a` upwards. -/
def mwriteBytes (m : List Host.Cell) (a : Nat) (bs : List Byte) : List Host.Cell :=
  match bs with
  | [] => m
  | b :: rest => mwriteBytes (mwrite m a b) (a + 1) rest

/-- `n` bytes from address `a` upwards. -/
def mreadBytes (m : List Host.Cell) (a n : Nat) : List Byte := (List.range n).map (fun i => mread m (a + i))

/-- The memory with every byte below `lo` or from `hi` up kept, and the bytes between cleared. -/
def mclear (m : List Host.Cell) (lo hi : Nat) : List Host.Cell := m.filter (fun c => c.1 < lo || hi ≤ c.1)

/-- Addresses rise strictly and every listed address is at least `lo`. -/
def risingFrom (lo : Nat) : List Host.Cell → Bool
  | [] => true
  | (a, b) :: rest => decide (lo ≤ a) && b != 0 && risingFrom (a + 1) rest

/-- The canonical form of a byte memory: addresses strictly rising, no listed byte equal to zero. -/
def Memory.wf (m : List Host.Cell) : Bool := risingFrom 0 m

/-! ### Words -/

/-- `n` bytes of a value, least significant first (00 R10). -/
def bytesLE (n v : Nat) : List Byte := (List.range n).map (fun i => BitVec.ofNat 8 (v / 256 ^ i))

/-- The value of bytes stored least significant first. -/
def natLE : List Byte → Nat
  | [] => 0
  | b :: rest => b.toNat + 256 * natLE rest

/-- Bits `[hi:lo]` of a value. -/
def bits (v hi lo : Nat) : Nat := v / 2 ^ lo % 2 ^ (hi - lo + 1)

/-- Bit `i` of a value. -/
def bit (v i : Nat) : Bool := v / 2 ^ i % 2 == 1

/-- A set of bit numbers as a mask. -/
def maskOf (l : List Nat) : Nat := l.foldl (fun m i => m ||| 2 ^ i) 0

/-- The bit numbers below `n` set in a mask. -/
def bitsOf (n m : Nat) : List Nat := (List.range n).filter (bit m)

def natOfBool (b : Bool) : Nat := if b then 1 else 0

/-- A raw value of `w` bits read as two's complement. -/
def toSigned (w v : Nat) : Int := if v % 2 ^ w < 2 ^ (w - 1) then (v % 2 ^ w : Nat) else (v % 2 ^ w : Nat) - (2 ^ w : Nat)

/-- The raw `w`-bit value of a two's complement number. -/
def ofSigned (w : Nat) (i : Int) : Nat := (i % (2 ^ w : Nat)).toNat

/-- Saturation to the unsigned range of `w` bits. -/
def satU (w v : Nat) : Nat := min v (2 ^ w - 1)

/-- The closed range `lo` to `hi` (04 R85). -/
def clampI (x lo hi : Int) : Int := if x < lo then lo else if hi < x then hi else x

def clampN (x lo hi : Nat) : Nat := if x < lo then lo else if hi < x then hi else x

/-- Saturation to the signed range of `w` bits. -/
def satS (w : Nat) (i : Int) : Int := clampI i (-(2 ^ (w - 1) : Nat)) ((2 ^ (w - 1) : Nat) - 1)

/-- Arithmetic shift right: rounds towards minus infinity. -/
def asr (i : Int) (k : Nat) : Int := i / (2 ^ k : Nat)

/-- Quotient rounded up. -/
def ceilDiv (a b : Nat) : Nat := (a + b - 1) / b

/-- Quotient rounded to nearest, halves up. -/
def roundDiv (a b : Nat) : Nat := (2 * a + b) / (2 * b)

/-! ### Time -/

/-- A time in ns as GCLK cycles, rounded up: one microsecond is 1,008 cycles (02). -/
def cycles (ns : Nat) : Nat := (ns * 126 + 124) / 125

/-- GCLK cycles as ns, rounded down. -/
def nsOf (cyc : Nat) : Nat := cyc * 125 / 126

/-- A time in ns as C-frames, rounded up. -/
def cframes (ns : Nat) : Nat := (ns + 999) / 1000

/-- The state once instant `t` has come: the event that a timer awaits carries its time with it. -/
def State.atTime (s : State) (t : Nat) : State := { s with tb := { s.tb with now := max s.tb.now t } }

/-- The state with `f` applied for each element of a list in order. -/
def each {σ α : Type} (l : List α) (f : σ → α → σ) (s : σ) : σ := l.foldl f s

/-- A step taken only under a condition. -/
def onlyIf {σ : Type} (c : Bool) (f : σ → σ) (s : σ) : σ := if c then f s else s

end Sys2Proof.Machine
end

