-- ==== Sys2Proof/Machine/ObjTable.lean ====
section
/-! DEFINITION. The rows of the spec's object tables (00 to 16): index and subindex range, type, access class, the
states of the Writable in column, the Default column and the range of the Name column. -/

namespace Sys2Proof.Machine

/-- Object types (15 Types). `octets n upTo`: n bytes, or an object whose Name says up to n bytes (R359). -/
inductive ObjTy where
  | bool | u8 | u16 | u32 | u64 | s16 | s32 | q | temp | mvolt | mamp | mwatt | time
  | octets (n : Nat) (upTo : Bool)
  deriving DecidableEq, Repr

/-- Access classes (15 R360). -/
inductive ObjAcc where
  | const | ro | rw | wo | rws
  deriving DecidableEq, Repr

/-- One row of an object table. `states` has bit n set when the state of code n is named in the Writable in column;
`dflt` is the raw default, 0 where the column gives none or refers elsewhere. -/
structure ObjRow where
  lo : Nat
  hi : Nat
  subLo : Nat
  subHi : Nat
  ty : ObjTy
  acc : ObjAcc
  states : Nat
  dflt : Nat
  min : Option Int
  max : Option Int
  deriving DecidableEq, Repr

/-- Rows from index 0x1000 on. -/
def objRows0 : List ObjRow := [
  ⟨0x1000, 0x1000, 0x00, 0x00, .u8, .const, 0x000, 9, none, none⟩,
  ⟨0x1000, 0x1000, 0x01, 0x01, .u32, .const, 0x000, 20055, none, none⟩,
  ⟨0x1000, 0x1000, 0x02, 0x02, .u32, .const, 0x000, 0, none, none⟩,
  ⟨0x1000, 0x1000, 0x03, 0x03, .u32, .const, 0x000, 262656, none, none⟩,
  ⟨0x1000, 0x1000, 0x04, 0x04, .u64, .const, 0x000, 0, none, none⟩,
  ⟨0x1000, 0x1000, 0x05, 0x05, .u32, .const, 0x000, 0, none, none⟩,
  ⟨0x1000, 0x1000, 0x06, 0x06, .u32, .const, 0x000, 0, none, none⟩,
  ⟨0x1000, 0x1000, 0x07, 0x07, (.octets 32 false), .const, 0x000, 0, none, none⟩,
  ⟨0x1000, 0x1000, 0x08, 0x08, .u16, .const, 0x000, 1026, none, none⟩,
  ⟨0x1000, 0x1000, 0x09, 0x09, .u32, .const, 0x000, 0, none, none⟩,
  ⟨0x1100, 0x1100, 0x00, 0x00, .u8, .const, 0x000, 9, none, none⟩,
  ⟨0x1100, 0x1100, 0x01, 0x01, .u8, .const, 0x000, 0, none, none⟩,
  ⟨0x1100, 0x1100, 0x02, 0x02, .u8, .const, 0x000, 0, none, none⟩,
  ⟨0x1100, 0x1100, 0x03, 0x03, .u8, .const, 0x000, 0, none, none⟩,
  ⟨0x1100, 0x1100, 0x04, 0x04, .u16, .const, 0x000, 0, none, none⟩,
  ⟨0x1100, 0x1100, 0x05, 0x05, .bool, .const, 0x000, 0, none, none⟩,
  ⟨0x1100, 0x1100, 0x06, 0x06, .bool, .const, 0x000, 0, none, none⟩,
  ⟨0x1100, 0x1100, 0x07, 0x07, .bool, .const, 0x000, 0, none, none⟩,
  ⟨0x1100, 0x1100, 0x08, 0x08, .bool, .const, 0x000, 0, none, none⟩,
  ⟨0x1100, 0x1100, 0x09, 0x09, .u32, .ro, 0x000, 0, none, none⟩,
  ⟨0x1200, 0x1200, 0x00, 0x00, .u8, .const, 0x000, 8, none, none⟩,
  ⟨0x1200, 0x1200, 0x01, 0x01, .u32, .const, 0x000, 24000000, none, none⟩,
  ⟨0x1200, 0x1200, 0x02, 0x02, .u8, .ro, 0x000, 0, none, none⟩,
  ⟨0x1200, 0x1200, 0x03, 0x03, .u32, .ro, 0x000, 0, none, none⟩,
  ⟨0x1200, 0x1200, 0x04, 0x04, .time, .ro, 0x000, 0, none, none⟩,
  ⟨0x1200, 0x1200, 0x05, 0x05, .bool, .rw, 0x404, 0, none, none⟩,
  ⟨0x1200, 0x1200, 0x06, 0x06, .temp, .rws, 0x410, 320, none, none⟩,
  ⟨0x1200, 0x1200, 0x07, 0x07, .u32, .ro, 0x000, 0, none, none⟩,
  ⟨0x1200, 0x1200, 0x08, 0x08, .s16, .ro, 0x000, 0, none, none⟩,
  ⟨0x1201, 0x1201, 0x00, 0x00, .u8, .const, 0x000, 8, none, none⟩,
  ⟨0x1201, 0x1201, 0x01, 0x08, .u8, .rw, 0x004, 2, (some 0), (some 4)⟩,
  ⟨0x1202, 0x1202, 0x00, 0x00, .u8, .const, 0x000, 8, none, none⟩,
  ⟨0x1202, 0x1202, 0x01, 0x08, .u32, .ro, 0x000, 0, none, none⟩,
  ⟨0x1300, 0x1300, 0x00, 0x00, .u8, .const, 0x000, 6, none, none⟩,
  ⟨0x1300, 0x1300, 0x01, 0x01, .time, .ro, 0x000, 0, none, none⟩,
  ⟨0x1300, 0x1300, 0x02, 0x02, .u8, .ro, 0x000, 0, none, none⟩,
  ⟨0x1300, 0x1300, 0x03, 0x03, .time, .wo, 0x7FC, 0, none, none⟩,
  ⟨0x1300, 0x1300, 0x04, 0x04, .u8, .wo, 0x7FC, 0, none, none⟩,
  ⟨0x1300, 0x1300, 0x05, 0x05, .time, .rws, 0x410, 10000000000, (some 1000000000), (some 3600000000000)⟩,
  ⟨0x1300, 0x1300, 0x06, 0x06, .u32, .ro, 0x000, 0, none, none⟩]

/-- Rows from index 0x1400 on. -/
def objRows1 : List ObjRow := [
  ⟨0x1400, 0x1400, 0x00, 0x00, .u8, .const, 0x000, 12, none, none⟩,
  ⟨0x1400, 0x1400, 0x01, 0x01, (.octets 6 false), .const, 0x000, 0, none, none⟩,
  ⟨0x1400, 0x1400, 0x02, 0x02, .bool, .rw, 0x404, 1, none, none⟩,
  ⟨0x1400, 0x1400, 0x03, 0x03, .u8, .const, 0x000, 0, (some 0), (some 31)⟩,
  ⟨0x1400, 0x1400, 0x04, 0x04, .u8, .rw, 0x404, 0, (some 1), (some 32)⟩,
  ⟨0x1400, 0x1400, 0x05, 0x05, .u8, .rw, 0x404, 32, (some 1), (some 255)⟩,
  ⟨0x1400, 0x1400, 0x06, 0x06, (.octets 6 false), .rw, 0x7FC, 281474976710655, none, none⟩,
  ⟨0x1400, 0x1400, 0x07, 0x07, .time, .rw, 0x7FC, 100000000, (some 10000000), (some 10000000000)⟩,
  ⟨0x1400, 0x1400, 0x08, 0x08, .u8, .rw, 0x7FC, 10, (some 1), (some 20)⟩,
  ⟨0x1400, 0x1400, 0x09, 0x09, .time, .rws, 0x410, 10000000000, (some 1000000000), (some 3600000000000)⟩,
  ⟨0x1400, 0x1400, 0x0A, 0x0A, .time, .rws, 0x410, 20000000, (some 1000000), (some 1000000000)⟩,
  ⟨0x1400, 0x1400, 0x0B, 0x0B, .u8, .const, 0x000, 8, none, none⟩,
  ⟨0x1400, 0x1400, 0x0C, 0x0C, .u8, .ro, 0x000, 0, none, none⟩,
  ⟨0x1401, 0x1401, 0x00, 0x00, .u8, .const, 0x000, 13, none, none⟩,
  ⟨0x1401, 0x1401, 0x01, 0x01, .u64, .ro, 0x000, 0, none, none⟩,
  ⟨0x1401, 0x1401, 0x02, 0x02, .u64, .ro, 0x000, 0, none, none⟩,
  ⟨0x1401, 0x1401, 0x03, 0x03, .u32, .ro, 0x000, 0, none, none⟩,
  ⟨0x1401, 0x1401, 0x04, 0x04, .u32, .ro, 0x000, 0, none, none⟩,
  ⟨0x1401, 0x1401, 0x05, 0x05, .u32, .ro, 0x000, 0, none, none⟩,
  ⟨0x1401, 0x1401, 0x06, 0x06, .u32, .ro, 0x000, 0, none, none⟩,
  ⟨0x1401, 0x1401, 0x07, 0x07, .u32, .ro, 0x000, 0, none, none⟩,
  ⟨0x1401, 0x1401, 0x08, 0x08, .u32, .ro, 0x000, 0, none, none⟩,
  ⟨0x1401, 0x1401, 0x09, 0x09, .u32, .ro, 0x000, 0, none, none⟩,
  ⟨0x1401, 0x1401, 0x0A, 0x0A, .u32, .ro, 0x000, 0, none, none⟩,
  ⟨0x1401, 0x1401, 0x0B, 0x0B, .u32, .ro, 0x000, 0, none, none⟩,
  ⟨0x1401, 0x1401, 0x0C, 0x0C, .u32, .ro, 0x000, 0, none, none⟩,
  ⟨0x1401, 0x1401, 0x0D, 0x0D, .u32, .ro, 0x000, 0, none, none⟩,
  ⟨0x1402, 0x1402, 0x00, 0x00, .u8, .const, 0x000, 15, none, none⟩,
  ⟨0x1402, 0x1402, 0x01, 0x01, .u64, .ro, 0x000, 0, none, none⟩,
  ⟨0x1402, 0x1402, 0x02, 0x02, .u64, .ro, 0x000, 0, none, none⟩,
  ⟨0x1402, 0x1402, 0x03, 0x0D, .u32, .ro, 0x000, 0, none, none⟩,
  ⟨0x1402, 0x1402, 0x0E, 0x0E, .u32, .ro, 0x000, 0, none, none⟩,
  ⟨0x1402, 0x1402, 0x0F, 0x0F, .u32, .ro, 0x000, 0, none, none⟩,
  ⟨0x1410, 0x1410, 0x00, 0x00, .u8, .const, 0x000, 4, none, none⟩,
  ⟨0x1410, 0x1410, 0x01, 0x01, .u16, .wo, 0x7FC, 0, none, none⟩,
  ⟨0x1410, 0x1410, 0x02, 0x02, .u16, .wo, 0x7FC, 0, none, none⟩,
  ⟨0x1410, 0x1410, 0x03, 0x03, (.octets 64 false), .ro, 0x000, 0, none, none⟩,
  ⟨0x1410, 0x1410, 0x04, 0x04, .u16, .ro, 0x000, 0, none, none⟩,
  ⟨0x1420, 0x1420, 0x00, 0x00, .u8, .const, 0x000, 7, none, none⟩,
  ⟨0x1420, 0x1420, 0x01, 0x01, (.octets 16 false), .ro, 0x000, 0, none, none⟩]

/-- Rows from index 0x1420 on. -/
def objRows2 : List ObjRow := [
  ⟨0x1420, 0x1420, 0x02, 0x02, (.octets 32 false), .wo, 0x7FC, 0, none, none⟩,
  ⟨0x1420, 0x1420, 0x03, 0x03, .bool, .ro, 0x000, 0, none, none⟩,
  ⟨0x1420, 0x1420, 0x04, 0x04, .bool, .wo, 0x7FC, 0, none, none⟩,
  ⟨0x1420, 0x1420, 0x05, 0x05, .u16, .const, 0x000, 0, none, none⟩,
  ⟨0x1420, 0x1420, 0x06, 0x06, .u32, .ro, 0x000, 0, none, none⟩,
  ⟨0x1420, 0x1420, 0x07, 0x07, .time, .ro, 0x000, 0, none, none⟩,
  ⟨0x2000, 0x2000, 0x00, 0x00, .u8, .const, 0x000, 5, none, none⟩,
  ⟨0x2000, 0x2000, 0x01, 0x01, .u8, .rw, 0x404, 3, none, none⟩,
  ⟨0x2000, 0x2000, 0x02, 0x02, .time, .rws, 0x410, 1000000, none, none⟩,
  ⟨0x2000, 0x2000, 0x03, 0x03, .time, .rw, 0x404, 100000, none, none⟩,
  ⟨0x2000, 0x2000, 0x04, 0x04, .time, .rw, 0x404, 1000000, none, none⟩,
  ⟨0x2000, 0x2000, 0x05, 0x05, .time, .rw, 0x404, 10000000, none, none⟩,
  ⟨0x2001, 0x2001, 0x00, 0x00, .u8, .const, 0x000, 8, none, none⟩,
  ⟨0x2001, 0x2001, 0x01, 0x08, .mamp, .ro, 0x000, 0, none, none⟩,
  ⟨0x2002, 0x2002, 0x00, 0x00, .u8, .const, 0x000, 8, none, none⟩,
  ⟨0x2002, 0x2002, 0x01, 0x08, .u8, .ro, 0x000, 0, none, none⟩,
  ⟨0x2003, 0x2003, 0x00, 0x00, .u8, .const, 0x000, 3, none, none⟩,
  ⟨0x2003, 0x2003, 0x01, 0x01, .time, .rw, 0x404, 100000, none, none⟩,
  ⟨0x2003, 0x2003, 0x02, 0x02, .mvolt, .rw, 0x404, 1600, none, none⟩,
  ⟨0x2003, 0x2003, 0x03, 0x03, .time, .rw, 0x404, 10000000, none, none⟩,
  ⟨0x2100, 0x215F, 0x00, 0x00, .u8, .const, 0x000, 17, none, none⟩,
  ⟨0x2100, 0x215F, 0x01, 0x01, .u8, .const, 0x000, 255, none, none⟩,
  ⟨0x2100, 0x215F, 0x02, 0x02, .u8, .ro, 0x000, 0, none, none⟩,
  ⟨0x2100, 0x215F, 0x03, 0x03, .u8, .ro, 0x000, 0, none, none⟩,
  ⟨0x2100, 0x215F, 0x04, 0x04, .mamp, .rw, 0x404, 100000, none, none⟩,
  ⟨0x2100, 0x215F, 0x05, 0x05, .u16, .rw, 0x404, 16384, none, none⟩,
  ⟨0x2100, 0x215F, 0x06, 0x06, .s16, .rw, 0x404, 0, none, none⟩,
  ⟨0x2100, 0x215F, 0x07, 0x07, .mamp, .rw, 0x404, 50000, none, none⟩,
  ⟨0x2100, 0x215F, 0x08, 0x08, .mamp, .rw, 0x404, 80000, none, none⟩,
  ⟨0x2100, 0x215F, 0x09, 0x09, .u16, .rw, 0x404, 40, none, none⟩,
  ⟨0x2100, 0x215F, 0x0A, 0x0A, .u32, .rw, 0x404, 5000, none, none⟩,
  ⟨0x2100, 0x215F, 0x0B, 0x0B, .u16, .rw, 0x404, 20, none, none⟩,
  ⟨0x2100, 0x215F, 0x0C, 0x0C, .s32, .ro, 0x000, 0, none, none⟩,
  ⟨0x2100, 0x215F, 0x0D, 0x0D, .u16, .ro, 0x000, 0, none, none⟩,
  ⟨0x2100, 0x215F, 0x0E, 0x0E, .u16, .ro, 0x000, 0, none, none⟩,
  ⟨0x2100, 0x215F, 0x0F, 0x0F, .u32, .ro, 0x000, 0, none, none⟩,
  ⟨0x2100, 0x215F, 0x10, 0x10, .u32, .ro, 0x000, 0, none, none⟩,
  ⟨0x2100, 0x215F, 0x11, 0x11, .bool, .wo, 0x410, 0, none, none⟩,
  ⟨0x2200, 0x2207, 0x00, 0x00, .u8, .const, 0x000, 45, none, none⟩,
  ⟨0x2200, 0x2207, 0x01, 0x01, .mvolt, .rws, 0x410, 0, none, none⟩]

/-- Rows from index 0x2200 on. -/
def objRows3 : List ObjRow := [
  ⟨0x2200, 0x2207, 0x02, 0x02, .mvolt, .const, 0x000, 0, none, none⟩,
  ⟨0x2200, 0x2207, 0x03, 0x03, .mvolt, .const, 0x000, 0, none, none⟩,
  ⟨0x2200, 0x2207, 0x04, 0x04, .u32, .const, 0x000, 0, none, none⟩,
  ⟨0x2200, 0x2207, 0x05, 0x05, .mamp, .const, 0x000, 0, none, none⟩,
  ⟨0x2200, 0x2207, 0x06, 0x06, .u8, .const, 0x000, 0, none, none⟩,
  ⟨0x2200, 0x2207, 0x07, 0x07, .mvolt, .ro, 0x000, 0, none, none⟩,
  ⟨0x2200, 0x2207, 0x08, 0x08, .mvolt, .ro, 0x000, 0, none, none⟩,
  ⟨0x2200, 0x2207, 0x09, 0x09, .mamp, .ro, 0x000, 0, none, none⟩,
  ⟨0x2200, 0x2207, 0x0A, 0x0A, .mvolt, .rw, 0x470, 0, none, none⟩,
  ⟨0x2200, 0x2207, 0x0B, 0x0B, .mvolt, .rw, 0x404, 800, none, none⟩,
  ⟨0x2200, 0x2207, 0x0C, 0x0C, .bool, .rws, 0x410, 1, none, none⟩,
  ⟨0x2200, 0x2207, 0x0D, 0x0D, .mvolt, .ro, 0x000, 0, none, none⟩,
  ⟨0x2200, 0x2207, 0x0E, 0x0E, .u16, .rws, 0x410, 32, none, none⟩,
  ⟨0x2200, 0x2207, 0x0F, 0x0F, .u8, .rws, 0x410, 8, (some 2), (some 8)⟩,
  ⟨0x2200, 0x2207, 0x10, 0x10, .u8, .rws, 0x410, 4, none, none⟩,
  ⟨0x2200, 0x2207, 0x11, 0x11, .u16, .rws, 0x410, 9, none, none⟩,
  ⟨0x2200, 0x2207, 0x12, 0x12, .mamp, .rws, 0x410, 200000, none, none⟩,
  ⟨0x2200, 0x2207, 0x13, 0x13, .u8, .rws, 0x410, 50, none, none⟩,
  ⟨0x2200, 0x2207, 0x14, 0x14, .u8, .rws, 0x410, 80, none, none⟩,
  ⟨0x2200, 0x2207, 0x15, 0x15, .time, .rws, 0x410, 200000, none, none⟩,
  ⟨0x2200, 0x2207, 0x16, 0x16, .mvolt, .rws, 0x410, 480, none, none⟩,
  ⟨0x2200, 0x2207, 0x17, 0x17, .mvolt, .rws, 0x410, 160, none, none⟩,
  ⟨0x2200, 0x2207, 0x18, 0x18, .u8, .rws, 0x410, 1, none, none⟩,
  ⟨0x2200, 0x2207, 0x19, 0x19, .bool, .rws, 0x410, 1, none, none⟩,
  ⟨0x2200, 0x2207, 0x1A, 0x1A, .mvolt, .rw, 0x404, 800, none, none⟩,
  ⟨0x2200, 0x2207, 0x1B, 0x1B, .u16, .rws, 0x410, 1311, none, none⟩,
  ⟨0x2200, 0x2207, 0x1C, 0x1C, .u16, .rw, 0x404, 3, none, none⟩,
  ⟨0x2200, 0x2207, 0x1D, 0x1D, .mvolt, .rw, 0x404, 480, none, none⟩,
  ⟨0x2200, 0x2207, 0x1E, 0x1E, .time, .rw, 0x404, 2000000, none, none⟩,
  ⟨0x2200, 0x2207, 0x1F, 0x1F, .u8, .const, 0x000, 0, none, none⟩,
  ⟨0x2200, 0x2207, 0x20, 0x20, .u8, .ro, 0x000, 0, none, none⟩,
  ⟨0x2200, 0x2207, 0x21, 0x21, .u8, .rw, 0x404, 80, none, none⟩,
  ⟨0x2200, 0x2207, 0x22, 0x22, .u32, .ro, 0x000, 0, none, none⟩,
  ⟨0x2200, 0x2207, 0x23, 0x23, .u32, .ro, 0x000, 0, none, none⟩,
  ⟨0x2200, 0x2207, 0x24, 0x24, .u32, .ro, 0x000, 0, none, none⟩,
  ⟨0x2200, 0x2207, 0x25, 0x25, .u32, .ro, 0x000, 0, none, none⟩,
  ⟨0x2200, 0x2207, 0x26, 0x26, .mwatt, .ro, 0x000, 0, none, none⟩,
  ⟨0x2200, 0x2207, 0x27, 0x27, .mvolt, .rws, 0x410, 480, (some 0), (some 480)⟩,
  ⟨0x2200, 0x2207, 0x28, 0x28, .u16, .rws, 0x410, 256, none, none⟩,
  ⟨0x2200, 0x2207, 0x29, 0x29, .u8, .rws, 0x410, 8, (some 0), (some 31)⟩]

/-- Rows from index 0x2200 on. -/
def objRows4 : List ObjRow := [
  ⟨0x2200, 0x2207, 0x2A, 0x2A, .u32, .ro, 0x000, 0, none, none⟩,
  ⟨0x2200, 0x2207, 0x2B, 0x2B, .u32, .ro, 0x000, 0, none, none⟩,
  ⟨0x2200, 0x2207, 0x2C, 0x2C, .u32, .ro, 0x000, 0, none, none⟩,
  ⟨0x2200, 0x2207, 0x2D, 0x2D, .u32, .ro, 0x000, 0, none, none⟩,
  ⟨0x2400, 0x2400, 0x00, 0x00, .u8, .const, 0x000, 13, none, none⟩,
  ⟨0x2400, 0x2400, 0x01, 0x01, .time, .rws, 0x410, 2000, (some 0), (some 8000)⟩,
  ⟨0x2400, 0x2400, 0x02, 0x02, .time, .rws, 0x410, 5000, (some 1000), (some 32000)⟩,
  ⟨0x2400, 0x2400, 0x03, 0x03, .u8, .rws, 0x410, 2, (some 0), (some 8)⟩,
  ⟨0x2400, 0x2400, 0x04, 0x04, .u16, .rws, 0x410, 32, (some 1), (some 1008)⟩,
  ⟨0x2400, 0x2400, 0x05, 0x05, .u16, .rws, 0x410, 32, (some 1), (some 1008)⟩,
  ⟨0x2400, 0x2400, 0x06, 0x06, .u16, .rws, 0x410, 16, (some 1), (some 1008)⟩,
  ⟨0x2400, 0x2400, 0x07, 0x07, .time, .rw, 0x404, 1000, none, none⟩,
  ⟨0x2400, 0x2400, 0x08, 0x08, .u8, .rws, 0x410, 12, (some 4), (some 32)⟩,
  ⟨0x2400, 0x2400, 0x09, 0x09, .time, .rws, 0x410, 100000, none, none⟩,
  ⟨0x2400, 0x2400, 0x0A, 0x0A, .u16, .rws, 0x410, 64, none, none⟩,
  ⟨0x2400, 0x2400, 0x0B, 0x0B, .u16, .rws, 0x410, 64, none, none⟩,
  ⟨0x2400, 0x2400, 0x0C, 0x0C, .u32, .ro, 0x000, 0, none, none⟩,
  ⟨0x2400, 0x2400, 0x0D, 0x0D, .time, .rw, 0x404, 10000, none, none⟩,
  ⟨0x2410, 0x242F, 0x00, 0x00, .u8, .const, 0x000, 24, none, none⟩,
  ⟨0x2410, 0x242F, 0x01, 0x01, .u8, .const, 0x000, 0, none, none⟩,
  ⟨0x2410, 0x242F, 0x02, 0x02, .u8, .ro, 0x000, 0, none, none⟩,
  ⟨0x2410, 0x242F, 0x03, 0x03, .u8, .ro, 0x000, 0, none, none⟩,
  ⟨0x2410, 0x242F, 0x04, 0x04, .u32, .ro, 0x000, 0, none, none⟩,
  ⟨0x2410, 0x242F, 0x05, 0x05, .u32, .ro, 0x000, 0, none, none⟩,
  ⟨0x2410, 0x242F, 0x06, 0x06, .u32, .ro, 0x000, 0, none, none⟩,
  ⟨0x2410, 0x242F, 0x07, 0x07, .u32, .ro, 0x000, 0, none, none⟩,
  ⟨0x2410, 0x242F, 0x08, 0x08, .u64, .ro, 0x000, 0, none, none⟩,
  ⟨0x2410, 0x242F, 0x09, 0x09, .u64, .ro, 0x000, 0, none, none⟩,
  ⟨0x2410, 0x242F, 0x0A, 0x0A, .u32, .ro, 0x000, 0, none, none⟩,
  ⟨0x2410, 0x242F, 0x0B, 0x0B, .u8, .ro, 0x000, 63, none, none⟩,
  ⟨0x2410, 0x242F, 0x0C, 0x0C, .u16, .ro, 0x000, 0, none, none⟩,
  ⟨0x2410, 0x242F, 0x0D, 0x14, .u32, .ro, 0x000, 0, none, none⟩,
  ⟨0x2410, 0x242F, 0x15, 0x15, .u64, .ro, 0x000, 0, none, none⟩,
  ⟨0x2410, 0x242F, 0x16, 0x16, .u64, .ro, 0x000, 0, none, none⟩,
  ⟨0x2410, 0x242F, 0x17, 0x17, .u32, .ro, 0x000, 0, none, none⟩,
  ⟨0x2410, 0x242F, 0x18, 0x18, .u32, .ro, 0x000, 0, none, none⟩,
  ⟨0x2440, 0x247F, 0x00, 0x00, .u8, .const, 0x000, 29, none, none⟩,
  ⟨0x2440, 0x247F, 0x01, 0x01, .u8, .const, 0x000, 0, none, none⟩,
  ⟨0x2440, 0x247F, 0x02, 0x02, .u8, .const, 0x000, 0, none, none⟩,
  ⟨0x2440, 0x247F, 0x03, 0x03, .u8, .const, 0x000, 0, none, none⟩]

/-- Rows from index 0x2440 on. -/
def objRows5 : List ObjRow := [
  ⟨0x2440, 0x247F, 0x04, 0x04, .u8, .ro, 0x000, 0, none, none⟩,
  ⟨0x2440, 0x247F, 0x05, 0x05, .u8, .ro, 0x000, 0, none, none⟩,
  ⟨0x2440, 0x247F, 0x06, 0x06, .u8, .rws, 0x410, 0, none, none⟩,
  ⟨0x2440, 0x247F, 0x07, 0x07, .u8, .rws, 0x410, 0, none, none⟩,
  ⟨0x2440, 0x247F, 0x08, 0x08, .u8, .rws, 0x410, 0, none, none⟩,
  ⟨0x2440, 0x247F, 0x09, 0x09, .u8, .rws, 0x410, 0, none, none⟩,
  ⟨0x2440, 0x247F, 0x0A, 0x0A, .u8, .rws, 0x410, 0, none, none⟩,
  ⟨0x2440, 0x247F, 0x0B, 0x0B, .u8, .rws, 0x410, 0, none, none⟩,
  ⟨0x2440, 0x247F, 0x0C, 0x0C, .u8, .rws, 0x410, 0, none, none⟩,
  ⟨0x2440, 0x247F, 0x0D, 0x0D, .u8, .rws, 0x410, 0, none, none⟩,
  ⟨0x2440, 0x247F, 0x0E, 0x0E, .u8, .rws, 0x410, 0, none, none⟩,
  ⟨0x2440, 0x247F, 0x0F, 0x0F, .u8, .rws, 0x410, 0, none, none⟩,
  ⟨0x2440, 0x247F, 0x10, 0x10, .u8, .rws, 0x410, 0, none, none⟩,
  ⟨0x2440, 0x247F, 0x11, 0x11, .u8, .rws, 0x410, 0, none, none⟩,
  ⟨0x2440, 0x247F, 0x12, 0x12, .u8, .rws, 0x410, 0, none, none⟩,
  ⟨0x2440, 0x247F, 0x13, 0x13, .u8, .rws, 0x410, 0, none, none⟩,
  ⟨0x2440, 0x247F, 0x14, 0x14, .u8, .rws, 0x410, 0, none, none⟩,
  ⟨0x2440, 0x247F, 0x15, 0x15, .u8, .rws, 0x410, 0, none, none⟩,
  ⟨0x2440, 0x247F, 0x16, 0x16, .u8, .rws, 0x410, 0, none, none⟩,
  ⟨0x2440, 0x247F, 0x17, 0x17, .u8, .rws, 0x410, 0, none, none⟩,
  ⟨0x2440, 0x247F, 0x18, 0x18, .u8, .rws, 0x410, 0, none, none⟩,
  ⟨0x2440, 0x247F, 0x19, 0x19, .u8, .rws, 0x410, 0, none, none⟩,
  ⟨0x2440, 0x247F, 0x1A, 0x1A, .u8, .rws, 0x410, 0, none, none⟩,
  ⟨0x2440, 0x247F, 0x1B, 0x1B, .u8, .rws, 0x410, 0, none, none⟩,
  ⟨0x2440, 0x247F, 0x1C, 0x1C, .u8, .rws, 0x410, 0, none, none⟩,
  ⟨0x2440, 0x247F, 0x1D, 0x1D, .u8, .rws, 0x410, 0, none, none⟩,
  ⟨0x2500, 0x26FF, 0x00, 0x00, .u8, .const, 0x000, 7, none, none⟩,
  ⟨0x2500, 0x26FF, 0x01, 0x01, .u8, .const, 0x000, 255, none, none⟩,
  ⟨0x2500, 0x26FF, 0x02, 0x02, .u8, .ro, 0x000, 0, none, none⟩,
  ⟨0x2500, 0x26FF, 0x03, 0x03, .u8, .ro, 0x000, 63, none, none⟩,
  ⟨0x2500, 0x26FF, 0x04, 0x04, .u8, .ro, 0x000, 63, none, none⟩,
  ⟨0x2500, 0x26FF, 0x05, 0x05, .u32, .ro, 0x000, 0, none, none⟩,
  ⟨0x2500, 0x26FF, 0x06, 0x06, .u32, .ro, 0x000, 0, none, none⟩,
  ⟨0x2500, 0x26FF, 0x07, 0x07, .bool, .wo, 0x410, 0, none, none⟩,
  ⟨0x2800, 0x2800, 0x00, 0x00, .u8, .const, 0x000, 6, none, none⟩,
  ⟨0x2800, 0x2800, 0x01, 0x01, .u32, .rw, 0x004, 62500, (some 1000), (some 1000000)⟩,
  ⟨0x2800, 0x2800, 0x02, 0x02, .u8, .rws, 0x410, 4, (some 1), (some 64)⟩,
  ⟨0x2800, 0x2800, 0x03, 0x03, .u8, .rws, 0x410, 16, (some 1), (some 255)⟩,
  ⟨0x2800, 0x2800, 0x04, 0x04, .u32, .rws, 0x410, 512, (some 1), (some 4194303)⟩,
  ⟨0x2800, 0x2800, 0x05, 0x05, .u8, .rws, 0x410, 8, (some 1), (some 64)⟩]

/-- Rows from index 0x2800 on. -/
def objRows6 : List ObjRow := [
  ⟨0x2800, 0x2800, 0x06, 0x06, .u8, .const, 0x000, 0, none, none⟩,
  ⟨0x2801, 0x2801, 0x00, 0x00, .u8, .const, 0x000, 8, none, none⟩,
  ⟨0x2801, 0x2801, 0x01, 0x01, .mwatt, .const, 0x000, 0, none, none⟩,
  ⟨0x2801, 0x2801, 0x02, 0x02, .u8, .rws, 0x410, 30, (some 1), (some 100)⟩,
  ⟨0x2801, 0x2801, 0x03, 0x03, .u8, .rws, 0x410, 20, (some 1), (some 100)⟩,
  ⟨0x2801, 0x2801, 0x04, 0x04, .bool, .rws, 0x410, 1, none, none⟩,
  ⟨0x2801, 0x2801, 0x05, 0x05, .u8, .rws, 0x410, 40, (some 0), (some 40)⟩,
  ⟨0x2801, 0x2801, 0x06, 0x06, .u32, .rws, 0x410, 16, (some 1), (some 4096)⟩,
  ⟨0x2801, 0x2801, 0x07, 0x07, .u16, .rw, 0x470, 0, (some 0), (some 1000)⟩,
  ⟨0x2801, 0x2801, 0x08, 0x08, .u16, .rws, 0x410, 100, (some 1), (some 10000)⟩,
  ⟨0x2802, 0x2802, 0x00, 0x00, .u8, .const, 0x000, 16, none, none⟩,
  ⟨0x2802, 0x2802, 0x01, 0x01, .u64, .ro, 0x000, 0, none, none⟩,
  ⟨0x2802, 0x2802, 0x02, 0x07, .u64, .ro, 0x000, 0, none, none⟩,
  ⟨0x2802, 0x2802, 0x08, 0x08, .u32, .ro, 0x000, 0, none, none⟩,
  ⟨0x2802, 0x2802, 0x09, 0x09, .u32, .ro, 0x000, 0, none, none⟩,
  ⟨0x2802, 0x2802, 0x0A, 0x0A, .u32, .ro, 0x000, 0, none, none⟩,
  ⟨0x2802, 0x2802, 0x0B, 0x0B, .u32, .ro, 0x000, 0, none, none⟩,
  ⟨0x2802, 0x2802, 0x0C, 0x0C, .u32, .ro, 0x000, 0, none, none⟩,
  ⟨0x2802, 0x2802, 0x0D, 0x0D, .u32, .ro, 0x000, 0, none, none⟩,
  ⟨0x2802, 0x2802, 0x0E, 0x0E, .u32, .ro, 0x000, 0, none, none⟩,
  ⟨0x2802, 0x2802, 0x0F, 0x0F, .u32, .ro, 0x000, 0, none, none⟩,
  ⟨0x2802, 0x2802, 0x10, 0x10, .u64, .ro, 0x000, 0, none, none⟩,
  ⟨0x2810, 0x2817, 0x00, 0x00, .u8, .const, 0x000, 10, none, none⟩,
  ⟨0x2810, 0x2817, 0x01, 0x01, .u8, .const, 0x000, 0, none, none⟩,
  ⟨0x2810, 0x2817, 0x02, 0x02, .u8, .const, 0x000, 0, none, none⟩,
  ⟨0x2810, 0x2817, 0x03, 0x03, .u16, .const, 0x000, 0, none, none⟩,
  ⟨0x2810, 0x2817, 0x04, 0x04, .mwatt, .const, 0x000, 0, none, none⟩,
  ⟨0x2810, 0x2817, 0x05, 0x05, .mwatt, .ro, 0x000, 0, none, none⟩,
  ⟨0x2810, 0x2817, 0x06, 0x06, .u64, .ro, 0x000, 0, none, none⟩,
  ⟨0x2810, 0x2817, 0x07, 0x07, .mwatt, .ro, 0x000, 0, none, none⟩,
  ⟨0x2810, 0x2817, 0x08, 0x08, .mwatt, .ro, 0x000, 0, none, none⟩,
  ⟨0x2810, 0x2817, 0x09, 0x09, .u16, .ro, 0x000, 4096, none, none⟩,
  ⟨0x2810, 0x2817, 0x0A, 0x0A, .u8, .ro, 0x000, 3, none, none⟩,
  ⟨0x2A00, 0x2AFF, 0x00, 0x00, .u8, .const, 0x000, 79, none, none⟩,
  ⟨0x2A00, 0x2AFF, 0x01, 0x01, .u8, .rws, 0x410, 1, (some 1), (some 255)⟩,
  ⟨0x2A00, 0x2AFF, 0x02, 0x02, .u8, .const, 0x000, 0, none, none⟩,
  ⟨0x2A00, 0x2AFF, 0x03, 0x03, .s32, .ro, 0x000, 0, none, none⟩,
  ⟨0x2A00, 0x2AFF, 0x04, 0x04, .u32, .ro, 0x000, 0, none, none⟩,
  ⟨0x2A00, 0x2AFF, 0x05, 0x05, .u8, .ro, 0x000, 255, none, none⟩,
  ⟨0x2A00, 0x2AFF, 0x06, 0x06, .bool, .ro, 0x000, 0, none, none⟩]

/-- Rows from index 0x2A00 on. -/
def objRows7 : List ObjRow := [
  ⟨0x2A00, 0x2AFF, 0x07, 0x07, .u32, .ro, 0x000, 0, none, none⟩,
  ⟨0x2A00, 0x2AFF, 0x08, 0x08, .u32, .ro, 0x000, 0, none, none⟩,
  ⟨0x2A00, 0x2AFF, 0x10, 0x2F, .u8, .rws, 0x410, 64, (some 0), (some 255)⟩,
  ⟨0x2A00, 0x2AFF, 0x30, 0x4F, .s32, .ro, 0x000, 0, none, none⟩,
  ⟨0x2C00, 0x2C00, 0x00, 0x00, .u8, .const, 0x000, 9, none, none⟩,
  ⟨0x2C00, 0x2C00, 0x01, 0x01, .bool, .rws, 0x410, 1, none, none⟩,
  ⟨0x2C00, 0x2C00, 0x02, 0x02, .u16, .rws, 0x410, 32, (some 1), (some 256)⟩,
  ⟨0x2C00, 0x2C00, 0x03, 0x03, .u32, .rws, 0x410, 65536, (some 65536), (some 4294967295)⟩,
  ⟨0x2C00, 0x2C00, 0x04, 0x04, .u16, .rws, 0x410, 256, (some 1), (some 1024)⟩,
  ⟨0x2C00, 0x2C00, 0x05, 0x05, .u8, .rws, 0x410, 0, (some 0), (some 15)⟩,
  ⟨0x2C00, 0x2C00, 0x06, 0x06, .u16, .rws, 0x410, 1024, (some 64), (some 65535)⟩,
  ⟨0x2C00, 0x2C00, 0x07, 0x07, .u8, .rws, 0x410, 64, (some 1), (some 255)⟩,
  ⟨0x2C00, 0x2C00, 0x08, 0x08, .u8, .rws, 0x410, 6, (some 0), (some 10)⟩,
  ⟨0x2C00, 0x2C00, 0x09, 0x09, .u32, .const, 0x000, 262143, none, none⟩,
  ⟨0x2C01, 0x2C01, 0x00, 0x00, .u8, .const, 0x000, 16, none, none⟩,
  ⟨0x2C01, 0x2C01, 0x01, 0x10, .u16, .rws, 0x410, 4096, none, none⟩,
  ⟨0x2C02, 0x2C02, 0x00, 0x00, .u8, .const, 0x000, 20, none, none⟩,
  ⟨0x2C02, 0x2C02, 0x01, 0x01, .u64, .ro, 0x000, 0, none, none⟩,
  ⟨0x2C02, 0x2C02, 0x02, 0x02, .u32, .ro, 0x000, 0, none, none⟩,
  ⟨0x2C02, 0x2C02, 0x03, 0x03, .u32, .ro, 0x000, 0, none, none⟩,
  ⟨0x2C02, 0x2C02, 0x04, 0x04, .u64, .ro, 0x000, 0, none, none⟩,
  ⟨0x2C02, 0x2C02, 0x05, 0x05, .u64, .ro, 0x000, 0, none, none⟩,
  ⟨0x2C02, 0x2C02, 0x06, 0x06, .u32, .ro, 0x000, 0, none, none⟩,
  ⟨0x2C02, 0x2C02, 0x07, 0x07, .u32, .ro, 0x000, 0, none, none⟩,
  ⟨0x2C02, 0x2C02, 0x08, 0x08, .u32, .ro, 0x000, 0, none, none⟩,
  ⟨0x2C02, 0x2C02, 0x09, 0x09, .u32, .ro, 0x000, 0, none, none⟩,
  ⟨0x2C02, 0x2C02, 0x0A, 0x0A, .u32, .ro, 0x000, 0, none, none⟩,
  ⟨0x2C02, 0x2C02, 0x0B, 0x0B, .u32, .ro, 0x000, 0, none, none⟩,
  ⟨0x2C02, 0x2C02, 0x0C, 0x0C, .u32, .ro, 0x000, 0, none, none⟩,
  ⟨0x2C02, 0x2C02, 0x0D, 0x0D, .u32, .ro, 0x000, 0, none, none⟩,
  ⟨0x2C02, 0x2C02, 0x0E, 0x0E, .u32, .ro, 0x000, 0, none, none⟩,
  ⟨0x2C02, 0x2C02, 0x0F, 0x0F, .u32, .ro, 0x000, 0, none, none⟩,
  ⟨0x2C02, 0x2C02, 0x10, 0x10, .u32, .ro, 0x000, 0, none, none⟩,
  ⟨0x2C02, 0x2C02, 0x11, 0x11, .u32, .ro, 0x000, 0, none, none⟩,
  ⟨0x2C02, 0x2C02, 0x12, 0x12, .u32, .ro, 0x000, 0, none, none⟩,
  ⟨0x2C02, 0x2C02, 0x13, 0x13, .u32, .ro, 0x000, 0, none, none⟩,
  ⟨0x2C02, 0x2C02, 0x14, 0x14, .u32, .ro, 0x000, 0, none, none⟩,
  ⟨0x2C03, 0x2C03, 0x00, 0x00, .u8, .const, 0x000, 3, none, none⟩,
  ⟨0x2C03, 0x2C03, 0x01, 0x01, .u32, .rw, 0x4F0, 0, (some 0), (some 262143)⟩,
  ⟨0x2C03, 0x2C03, 0x02, 0x02, .u64, .rws, 0x410, 0, none, none⟩]

/-- Rows from index 0x2C03 on. -/
def objRows8 : List ObjRow := [
  ⟨0x2C03, 0x2C03, 0x03, 0x03, .u64, .ro, 0x000, 0, none, none⟩,
  ⟨0x2C08, 0x2C08, 0x00, 0x00, .u8, .const, 0x000, 16, none, none⟩,
  ⟨0x2C08, 0x2C08, 0x01, 0x01, .bool, .rws, 0x410, 1, none, none⟩,
  ⟨0x2C08, 0x2C08, 0x02, 0x02, .u8, .ro, 0x000, 255, none, none⟩,
  ⟨0x2C08, 0x2C08, 0x03, 0x03, .u32, .rw, 0x470, 0, none, none⟩,
  ⟨0x2C08, 0x2C08, 0x04, 0x04, (.octets 4096 true), .wo, 0x470, 0, none, none⟩,
  ⟨0x2C08, 0x2C08, 0x05, 0x05, .bool, .wo, 0x470, 0, none, none⟩,
  ⟨0x2C08, 0x2C08, 0x06, 0x06, .u32, .ro, 0x000, 0, none, none⟩,
  ⟨0x2C08, 0x2C08, 0x07, 0x07, .u16, .ro, 0x000, 0, none, none⟩,
  ⟨0x2C08, 0x2C08, 0x08, 0x08, .u8, .ro, 0x000, 0, none, none⟩,
  ⟨0x2C08, 0x2C08, 0x09, 0x09, .u8, .ro, 0x000, 0, none, none⟩,
  ⟨0x2C08, 0x2C08, 0x0A, 0x0A, .bool, .wo, 0x4F0, 0, none, none⟩,
  ⟨0x2C08, 0x2C08, 0x0B, 0x0F, .u32, .ro, 0x000, 0, none, none⟩,
  ⟨0x2C08, 0x2C08, 0x10, 0x10, (.octets 32 false), .ro, 0x000, 0, none, none⟩,
  ⟨0x2C10, 0x2C17, 0x00, 0x00, .u8, .const, 0x000, 10, none, none⟩,
  ⟨0x2C10, 0x2C17, 0x01, 0x01, .bool, .rws, 0x410, 1, none, none⟩,
  ⟨0x2C10, 0x2C17, 0x02, 0x02, .u32, .ro, 0x000, 0, none, none⟩,
  ⟨0x2C10, 0x2C17, 0x03, 0x03, .u32, .ro, 0x000, 0, none, none⟩,
  ⟨0x2C10, 0x2C17, 0x04, 0x04, .u32, .ro, 0x000, 0, none, none⟩,
  ⟨0x2C10, 0x2C17, 0x05, 0x05, .s32, .ro, 0x000, 0, none, none⟩,
  ⟨0x2C10, 0x2C17, 0x06, 0x06, .u32, .ro, 0x000, 0, none, none⟩,
  ⟨0x2C10, 0x2C17, 0x07, 0x07, .u32, .ro, 0x000, 0, none, none⟩,
  ⟨0x2C10, 0x2C17, 0x08, 0x08, .u16, .ro, 0x000, 0, none, none⟩,
  ⟨0x2C10, 0x2C17, 0x09, 0x09, .u32, .ro, 0x000, 0, none, none⟩,
  ⟨0x2C10, 0x2C17, 0x0A, 0x0A, .u16, .ro, 0x000, 0, none, none⟩,
  ⟨0x2C20, 0x2C27, 0x00, 0x00, .u8, .const, 0x000, 65, none, none⟩,
  ⟨0x2C20, 0x2C27, 0x01, 0x41, .u32, .ro, 0x000, 0, none, none⟩,
  ⟨0x2C30, 0x2C4F, 0x00, 0x00, .u8, .const, 0x000, 65, none, none⟩,
  ⟨0x2C30, 0x2C4F, 0x01, 0x41, .u32, .ro, 0x000, 0, none, none⟩,
  ⟨0x2E00, 0x2EFF, 0x00, 0x00, .u8, .const, 0x000, 32, none, none⟩,
  ⟨0x2E00, 0x2EFF, 0x01, 0x20, .u8, .rws, 0x410, 8, (some 2), (some 64)⟩,
  ⟨0x3000, 0x3000, 0x00, 0x00, .u8, .const, 0x000, 23, none, none⟩,
  ⟨0x3000, 0x3000, 0x01, 0x01, .temp, .rws, 0x410, 320, (some 0), (some 1280)⟩,
  ⟨0x3000, 0x3000, 0x02, 0x02, .temp, .rws, 0x410, 512, (some 128), (some 2048)⟩,
  ⟨0x3000, 0x3000, 0x03, 0x03, .u8, .rws, 0x410, 3, (some 1), (some 15)⟩,
  ⟨0x3000, 0x3000, 0x04, 0x04, .temp, .rws, 0x410, 128, (some 32), (some 320)⟩,
  ⟨0x3000, 0x3000, 0x05, 0x05, .u8, .rws, 0x410, 5, (some 1), (some 20)⟩,
  ⟨0x3000, 0x3000, 0x06, 0x06, .time, .rws, 0x410, 2000000, (some 1000000), (some 100000000)⟩,
  ⟨0x3000, 0x3000, 0x07, 0x07, .u8, .rws, 0x410, 20, (some 10), (some 90)⟩,
  ⟨0x3000, 0x3000, 0x08, 0x08, .u8, .rws, 0x410, 70, (some 10), (some 100)⟩]

/-- Rows from index 0x3000 on. -/
def objRows9 : List ObjRow := [
  ⟨0x3000, 0x3000, 0x09, 0x09, .mwatt, .rws, 0x410, 200000, none, none⟩,
  ⟨0x3000, 0x3000, 0x0A, 0x0A, .temp, .rw, 0x404, 3840, (some 1920), (some 5120)⟩,
  ⟨0x3000, 0x3000, 0x0B, 0x0B, .time, .rw, 0x404, 30000000000, (some 1000000000), (some 600000000000)⟩,
  ⟨0x3000, 0x3000, 0x0C, 0x0C, .u8, .rw, 0x404, 3, (some 0), (some 3)⟩,
  ⟨0x3000, 0x3000, 0x0D, 0x0D, .u8, .rws, 0x410, 0, (some 0), (some 1)⟩,
  ⟨0x3000, 0x3000, 0x0E, 0x0E, .u8, .ro, 0x000, 100, none, none⟩,
  ⟨0x3000, 0x3000, 0x0F, 0x0F, .u32, .ro, 0x000, 0, none, none⟩,
  ⟨0x3000, 0x3000, 0x10, 0x10, .u32, .ro, 0x000, 0, none, none⟩,
  ⟨0x3000, 0x3000, 0x11, 0x11, .u32, .ro, 0x000, 0, none, none⟩,
  ⟨0x3000, 0x3000, 0x12, 0x12, .u8, .ro, 0x000, 0, none, none⟩,
  ⟨0x3000, 0x3000, 0x13, 0x13, .time, .ro, 0x000, 0, none, none⟩,
  ⟨0x3000, 0x3000, 0x14, 0x14, .u8, .ro, 0x000, 0, none, none⟩,
  ⟨0x3000, 0x3000, 0x15, 0x15, .temp, .ro, 0x000, 0, none, none⟩,
  ⟨0x3000, 0x3000, 0x16, 0x16, .u16, .ro, 0x000, 0, none, none⟩,
  ⟨0x3000, 0x3000, 0x17, 0x17, .time, .rw, 0x404, 1000000, (some 100000), (some 10000000)⟩,
  ⟨0x3001, 0x3003, 0x00, 0x00, .u8, .const, 0x000, 7, none, none⟩,
  ⟨0x3001, 0x3003, 0x01, 0x01, .temp, .rws, 0x410, 0, none, none⟩,
  ⟨0x3001, 0x3003, 0x02, 0x02, .temp, .rws, 0x410, 192, none, none⟩,
  ⟨0x3001, 0x3003, 0x03, 0x03, .temp, .rws, 0x410, 0, none, none⟩,
  ⟨0x3001, 0x3003, 0x04, 0x04, .temp, .rws, 0x410, 192, none, none⟩,
  ⟨0x3001, 0x3003, 0x05, 0x05, .temp, .rw, 0x404, 0, none, none⟩,
  ⟨0x3001, 0x3003, 0x06, 0x06, .temp, .rw, 0x404, 960, none, none⟩,
  ⟨0x3001, 0x3003, 0x07, 0x07, .u16, .rws, 0x410, 0, none, none⟩,
  ⟨0x3005, 0x3005, 0x00, 0x00, .u8, .const, 0x000, 8, none, none⟩,
  ⟨0x3005, 0x3005, 0x01, 0x08, .u8, .rws, 0x410, 0, (some 0), (some 15)⟩,
  ⟨0x3006, 0x3006, 0x00, 0x00, .u8, .const, 0x000, 8, none, none⟩,
  ⟨0x3006, 0x3006, 0x01, 0x08, .u8, .rws, 0x410, 0, (some 0), (some 15)⟩,
  ⟨0x3008, 0x3008, 0x00, 0x00, .u8, .const, 0x000, 11, none, none⟩,
  ⟨0x3008, 0x3008, 0x01, 0x01, .u8, .const, 0x000, 0, none, none⟩,
  ⟨0x3008, 0x3008, 0x02, 0x02, .time, .rws, 0x410, 100000000, (some 10000000), (some 10000000000)⟩,
  ⟨0x3008, 0x3008, 0x03, 0x03, .time, .rws, 0x410, 1000000000, (some 100000000), (some 60000000000)⟩,
  ⟨0x3008, 0x3008, 0x04, 0x04, .temp, .rws, 0x410, 2880, none, none⟩,
  ⟨0x3008, 0x3008, 0x05, 0x05, .u32, .rws, 0x410, 0, none, none⟩,
  ⟨0x3008, 0x3008, 0x06, 0x06, .temp, .rw, 0x4FC, 0, none, none⟩,
  ⟨0x3008, 0x3008, 0x07, 0x07, .u32, .rw, 0x4FC, 0, none, none⟩,
  ⟨0x3008, 0x3008, 0x08, 0x08, .bool, .wo, 0x4FC, 0, none, none⟩,
  ⟨0x3008, 0x3008, 0x09, 0x09, .u8, .ro, 0x000, 1, none, none⟩,
  ⟨0x3008, 0x3008, 0x0A, 0x0A, .bool, .ro, 0x000, 0, none, none⟩,
  ⟨0x3008, 0x3008, 0x0B, 0x0B, .u32, .ro, 0x000, 0, none, none⟩,
  ⟨0x3010, 0x304F, 0x00, 0x00, .u8, .const, 0x000, 12, none, none⟩]

/-- Rows from index 0x3010 on. -/
def objRows10 : List ObjRow := [
  ⟨0x3010, 0x304F, 0x01, 0x01, .u8, .const, 0x000, 0, none, none⟩,
  ⟨0x3010, 0x304F, 0x02, 0x02, .temp, .ro, 0x000, 0, none, none⟩,
  ⟨0x3010, 0x304F, 0x03, 0x03, .bool, .ro, 0x000, 0, none, none⟩,
  ⟨0x3010, 0x304F, 0x04, 0x04, .u8, .ro, 0x000, 7, none, none⟩,
  ⟨0x3010, 0x304F, 0x05, 0x05, .u16, .ro, 0x000, 0, none, none⟩,
  ⟨0x3010, 0x304F, 0x06, 0x0C, .temp, .rws, 0x410, 0, none, none⟩,
  ⟨0x3100, 0x321F, 0x00, 0x00, .u8, .const, 0x000, 12, none, none⟩,
  ⟨0x3100, 0x321F, 0x01, 0x01, .u8, .const, 0x000, 0, none, none⟩,
  ⟨0x3100, 0x321F, 0x02, 0x02, .u8, .ro, 0x000, 0, none, none⟩,
  ⟨0x3100, 0x321F, 0x03, 0x03, .temp, .ro, 0x000, 0, none, none⟩,
  ⟨0x3100, 0x321F, 0x04, 0x04, .temp, .ro, 0x000, 0, none, none⟩,
  ⟨0x3100, 0x321F, 0x05, 0x05, .temp, .ro, 0x000, 0, none, none⟩,
  ⟨0x3100, 0x321F, 0x06, 0x06, (.octets 12 false), .const, 0x000, 0, none, none⟩,
  ⟨0x3100, 0x321F, 0x07, 0x07, .temp, .const, 0x000, 0, none, none⟩,
  ⟨0x3100, 0x321F, 0x08, 0x08, .bool, .wo, 0x410, 0, none, none⟩,
  ⟨0x3100, 0x321F, 0x09, 0x09, .u32, .ro, 0x000, 0, none, none⟩,
  ⟨0x3100, 0x321F, 0x0A, 0x0A, .u32, .ro, 0x000, 0, none, none⟩,
  ⟨0x3100, 0x321F, 0x0B, 0x0B, .u32, .ro, 0x000, 0, none, none⟩,
  ⟨0x3100, 0x321F, 0x0C, 0x0C, .bool, .ro, 0x000, 0, none, none⟩,
  ⟨0x3400, 0x3400, 0x00, 0x00, .u8, .const, 0x000, 16, none, none⟩,
  ⟨0x3400, 0x3400, 0x01, 0x01, .u8, .ro, 0x000, 1, none, none⟩,
  ⟨0x3400, 0x3400, 0x02, 0x02, .u8, .ro, 0x000, 0, none, none⟩,
  ⟨0x3400, 0x3400, 0x03, 0x03, .bool, .rw, 0x404, 0, none, none⟩,
  ⟨0x3400, 0x3400, 0x04, 0x04, .u8, .rws, 0x410, 50, (some 10), (some 100)⟩,
  ⟨0x3400, 0x3400, 0x05, 0x05, .u8, .rws, 0x410, 2, (some 1), (some 8)⟩,
  ⟨0x3400, 0x3400, 0x06, 0x06, .time, .rw, 0x404, 100000, (some 10000), (some 10000000)⟩,
  ⟨0x3400, 0x3400, 0x07, 0x07, .time, .rws, 0x410, 100000, (some 1000), (some 10000000)⟩,
  ⟨0x3400, 0x3400, 0x08, 0x08, .u8, .wo, 0x7FF, 0, none, none⟩,
  ⟨0x3400, 0x3400, 0x09, 0x09, .u8, .wo, 0x7FF, 0, none, none⟩,
  ⟨0x3400, 0x3400, 0x0A, 0x0A, .u32, .ro, 0x000, 0, none, none⟩,
  ⟨0x3400, 0x3400, 0x0B, 0x0B, .u32, .ro, 0x000, 0, none, none⟩,
  ⟨0x3400, 0x3400, 0x0C, 0x0C, .u32, .ro, 0x000, 0, none, none⟩,
  ⟨0x3400, 0x3400, 0x0D, 0x0D, .time, .ro, 0x000, 0, none, none⟩,
  ⟨0x3400, 0x3400, 0x0E, 0x0E, .u8, .ro, 0x000, 0, none, none⟩,
  ⟨0x3400, 0x3400, 0x0F, 0x0F, .bool, .ro, 0x000, 0, none, none⟩,
  ⟨0x3400, 0x3400, 0x10, 0x10, .time, .rw, 0x404, 1000000, (some 10000), (some 100000000)⟩,
  ⟨0x3410, 0x342F, 0x00, 0x00, .u8, .const, 0x000, 15, none, none⟩,
  ⟨0x3410, 0x342F, 0x01, 0x01, .u8, .const, 0x000, 0, none, none⟩,
  ⟨0x3410, 0x342F, 0x02, 0x02, .u8, .ro, 0x000, 0, none, none⟩,
  ⟨0x3410, 0x342F, 0x03, 0x03, .u8, .rw, 0x4F0, 0, (some 0), (some 1)⟩]

/-- Rows from index 0x3410 on. -/
def objRows11 : List ObjRow := [
  ⟨0x3410, 0x342F, 0x04, 0x04, .mamp, .const, 0x000, 0, none, none⟩,
  ⟨0x3410, 0x342F, 0x05, 0x05, .time, .rw, 0x404, 2000, (some 100), (some 100000)⟩,
  ⟨0x3410, 0x342F, 0x06, 0x06, .time, .rw, 0x404, 100000, (some 10000), (some 10000000)⟩,
  ⟨0x3410, 0x342F, 0x07, 0x07, .time, .rw, 0x404, 1000, (some 100), (some 100000)⟩,
  ⟨0x3410, 0x342F, 0x08, 0x08, .u8, .rws, 0x410, 8, (some 1), (some 64)⟩,
  ⟨0x3410, 0x342F, 0x09, 0x09, .bool, .wo, 0x410, 0, none, none⟩,
  ⟨0x3410, 0x342F, 0x0A, 0x0A, .u32, .ro, 0x000, 0, none, none⟩,
  ⟨0x3410, 0x342F, 0x0B, 0x0B, .u32, .ro, 0x000, 0, none, none⟩,
  ⟨0x3410, 0x342F, 0x0C, 0x0C, .u32, .ro, 0x000, 0, none, none⟩,
  ⟨0x3410, 0x342F, 0x0D, 0x0D, .u32, .ro, 0x000, 0, none, none⟩,
  ⟨0x3410, 0x342F, 0x0E, 0x0E, .u32, .ro, 0x000, 0, none, none⟩,
  ⟨0x3410, 0x342F, 0x0F, 0x0F, .time, .ro, 0x000, 0, none, none⟩,
  ⟨0x4000, 0x4000, 0x00, 0x00, .u8, .const, 0x000, 8, none, none⟩,
  ⟨0x4000, 0x4000, 0x01, 0x01, .u8, .ro, 0x000, 0, none, none⟩,
  ⟨0x4000, 0x4000, 0x02, 0x02, .u32, .ro, 0x000, 0, none, none⟩,
  ⟨0x4000, 0x4000, 0x03, 0x03, .u32, .ro, 0x000, 0, none, none⟩,
  ⟨0x4000, 0x4000, 0x04, 0x04, .u32, .ro, 0x000, 0, none, none⟩,
  ⟨0x4000, 0x4000, 0x05, 0x05, .u32, .ro, 0x000, 0, none, none⟩,
  ⟨0x4000, 0x4000, 0x06, 0x06, .u32, .ro, 0x000, 0, none, none⟩,
  ⟨0x4000, 0x4000, 0x07, 0x07, .u32, .ro, 0x000, 0, none, none⟩,
  ⟨0x4000, 0x4000, 0x08, 0x08, .u32, .ro, 0x000, 0, none, none⟩,
  ⟨0x4001, 0x4001, 0x00, 0x00, .u8, .const, 0x000, 13, none, none⟩,
  ⟨0x4001, 0x4001, 0x01, 0x01, .u8, .rw, 0x400, 0, (some 0), (some 159)⟩,
  ⟨0x4001, 0x4001, 0x02, 0x02, .u8, .rw, 0x400, 0, (some 0), (some 1)⟩,
  ⟨0x4001, 0x4001, 0x03, 0x03, .u8, .rw, 0x400, 0, (some 0), (some 2)⟩,
  ⟨0x4001, 0x4001, 0x04, 0x04, .s32, .rw, 0x400, 0, none, none⟩,
  ⟨0x4001, 0x4001, 0x05, 0x05, .u32, .rw, 0x400, 0, none, none⟩,
  ⟨0x4001, 0x4001, 0x06, 0x06, .u32, .rw, 0x400, 0, none, none⟩,
  ⟨0x4001, 0x4001, 0x07, 0x07, .u32, .rw, 0x400, 0, none, none⟩,
  ⟨0x4001, 0x4001, 0x08, 0x08, .u32, .rw, 0x400, 0, none, none⟩,
  ⟨0x4001, 0x4001, 0x09, 0x09, .u32, .rw, 0x400, 16777216, none, none⟩,
  ⟨0x4001, 0x4001, 0x0A, 0x0A, .u32, .rw, 0x400, 1, (some 1), none⟩,
  ⟨0x4001, 0x4001, 0x0B, 0x0B, .u16, .rw, 0x400, 1, (some 1), none⟩,
  ⟨0x4001, 0x4001, 0x0C, 0x0C, .u8, .wo, 0x400, 0, (some 1), (some 2)⟩,
  ⟨0x4001, 0x4001, 0x0D, 0x0D, .u8, .ro, 0x000, 0, none, none⟩,
  ⟨0x4002, 0x4002, 0x00, 0x00, .u8, .const, 0x000, 13, none, none⟩,
  ⟨0x4002, 0x4002, 0x01, 0x04, .u16, .rw, 0x4F0, 0, none, none⟩,
  ⟨0x4002, 0x4002, 0x05, 0x05, .u8, .rw, 0x4F0, 0, (some 0), (some 1)⟩,
  ⟨0x4002, 0x4002, 0x06, 0x06, .u8, .rw, 0x4F0, 0, (some 0), (some 15)⟩,
  ⟨0x4002, 0x4002, 0x07, 0x07, .u8, .rw, 0x4F0, 0, (some 0), (some 6)⟩]

/-- Rows from index 0x4002 on. -/
def objRows12 : List ObjRow := [
  ⟨0x4002, 0x4002, 0x08, 0x08, .u8, .rw, 0x4F0, 0, none, none⟩,
  ⟨0x4002, 0x4002, 0x09, 0x09, .u16, .rw, 0x4F0, 0, (some 0), (some 16383)⟩,
  ⟨0x4002, 0x4002, 0x0A, 0x0A, .u8, .wo, 0x4F0, 0, (some 1), (some 3)⟩,
  ⟨0x4002, 0x4002, 0x0B, 0x0B, .u8, .ro, 0x000, 0, none, none⟩,
  ⟨0x4002, 0x4002, 0x0C, 0x0C, .u32, .ro, 0x000, 4294967295, none, none⟩,
  ⟨0x4002, 0x4002, 0x0D, 0x0D, .u64, .ro, 0x000, 0, none, none⟩,
  ⟨0x4003, 0x4003, 0x00, 0x00, .u8, .const, 0x000, 2, none, none⟩,
  ⟨0x4003, 0x4003, 0x01, 0x01, .u32, .rw, 0x4F0, 0, (some 0), (some 262143)⟩,
  ⟨0x4003, 0x4003, 0x02, 0x02, (.octets 4096 true), .ro, 0x000, 0, none, none⟩,
  ⟨0x4100, 0x419F, 0x00, 0x00, .u8, .const, 0x000, 24, none, none⟩,
  ⟨0x4100, 0x419F, 0x01, 0x01, .u8, .const, 0x000, 0, none, none⟩,
  ⟨0x4100, 0x419F, 0x02, 0x02, .u8, .const, 0x000, 0, none, none⟩,
  ⟨0x4100, 0x419F, 0x03, 0x09, .q, .rw, 0x4F4, 0, none, none⟩,
  ⟨0x4100, 0x419F, 0x0A, 0x0A, .u32, .rw, 0x4F0, 0, none, none⟩,
  ⟨0x4100, 0x419F, 0x0B, 0x0B, .mwatt, .rw, 0x4F0, 0, none, none⟩,
  ⟨0x4100, 0x419F, 0x0C, 0x0C, .bool, .wo, 0x7FF, 0, none, none⟩,
  ⟨0x4100, 0x419F, 0x0D, 0x0D, .u32, .ro, 0x000, 0, none, none⟩,
  ⟨0x4100, 0x419F, 0x0E, 0x0E, .bool, .ro, 0x000, 1, none, none⟩,
  ⟨0x4100, 0x419F, 0x0F, 0x0F, .s32, .ro, 0x000, 0, none, none⟩,
  ⟨0x4100, 0x419F, 0x10, 0x10, .s32, .ro, 0x000, 0, none, none⟩,
  ⟨0x4100, 0x419F, 0x11, 0x11, .u32, .rw, 0x4F0, 0, none, none⟩,
  ⟨0x4100, 0x419F, 0x12, 0x12, .u32, .rw, 0x4F0, 0, (some 1), none⟩,
  ⟨0x4100, 0x419F, 0x13, 0x13, .u32, .ro, 0x000, 0, none, none⟩,
  ⟨0x4100, 0x419F, 0x14, 0x14, .u32, .ro, 0x000, 0, none, none⟩,
  ⟨0x4100, 0x419F, 0x15, 0x15, .u32, .ro, 0x000, 0, none, none⟩,
  ⟨0x4100, 0x419F, 0x16, 0x16, .u32, .ro, 0x000, 0, none, none⟩,
  ⟨0x4100, 0x419F, 0x17, 0x17, .u32, .ro, 0x000, 0, none, none⟩,
  ⟨0x4100, 0x419F, 0x18, 0x18, .u16, .rw, 0x4F0, 0, none, none⟩,
  ⟨0x5000, 0x5000, 0x00, 0x00, .u8, .const, 0x000, 8, none, none⟩,
  ⟨0x5000, 0x5000, 0x01, 0x01, .u64, .rw, 0x7FE, 0, none, none⟩,
  ⟨0x5000, 0x5000, 0x02, 0x02, .u64, .ro, 0x000, 0, none, none⟩,
  ⟨0x5000, 0x5000, 0x03, 0x03, .u64, .ro, 0x000, 0, none, none⟩,
  ⟨0x5000, 0x5000, 0x04, 0x04, .u8, .ro, 0x000, 0, none, none⟩,
  ⟨0x5000, 0x5000, 0x05, 0x05, .u32, .ro, 0x000, 0, none, none⟩,
  ⟨0x5000, 0x5000, 0x06, 0x06, .u32, .ro, 0x000, 0, none, none⟩,
  ⟨0x5000, 0x5000, 0x07, 0x07, .u32, .ro, 0x000, 0, none, none⟩,
  ⟨0x5000, 0x5000, 0x08, 0x08, .u32, .ro, 0x000, 0, none, none⟩,
  ⟨0x5010, 0x504F, 0x00, 0x00, .u8, .const, 0x000, 13, none, none⟩,
  ⟨0x5010, 0x504F, 0x01, 0x01, .u8, .const, 0x000, 0, none, none⟩,
  ⟨0x5010, 0x504F, 0x02, 0x02, .u8, .rws, 0x410, 0, (some 0), (some 4)⟩]

/-- Rows from index 0x5010 on. -/
def objRows13 : List ObjRow := [
  ⟨0x5010, 0x504F, 0x03, 0x03, .u8, .rws, 0x410, 0, none, none⟩,
  ⟨0x5010, 0x504F, 0x04, 0x04, .bool, .rws, 0x410, 0, none, none⟩,
  ⟨0x5010, 0x504F, 0x05, 0x05, .u16, .rws, 0x410, 0, (some 1), (some 65535)⟩,
  ⟨0x5010, 0x504F, 0x06, 0x06, .time, .rws, 0x410, 0, (some 1000), (some 10000000000)⟩,
  ⟨0x5010, 0x504F, 0x07, 0x07, .u32, .ro, 0x000, 0, none, none⟩,
  ⟨0x5010, 0x504F, 0x08, 0x08, .u32, .ro, 0x000, 0, none, none⟩,
  ⟨0x5010, 0x504F, 0x09, 0x09, .u32, .ro, 0x000, 0, none, none⟩,
  ⟨0x5010, 0x504F, 0x0A, 0x0A, .u32, .ro, 0x000, 0, none, none⟩,
  ⟨0x5010, 0x504F, 0x0B, 0x0B, .u32, .ro, 0x000, 0, none, none⟩,
  ⟨0x5010, 0x504F, 0x0C, 0x0C, .u8, .ro, 0x000, 0, none, none⟩,
  ⟨0x5010, 0x504F, 0x0D, 0x0D, .u8, .ro, 0x000, 0, none, none⟩,
  ⟨0x5400, 0x5400, 0x00, 0x00, .u8, .const, 0x000, 8, none, none⟩,
  ⟨0x5400, 0x5400, 0x01, 0x01, .u64, .ro, 0x000, 0, none, none⟩,
  ⟨0x5400, 0x5400, 0x02, 0x02, .u64, .ro, 0x000, 1, none, none⟩,
  ⟨0x5400, 0x5400, 0x03, 0x03, .u16, .ro, 0x000, 0, none, none⟩,
  ⟨0x5400, 0x5400, 0x04, 0x04, .u32, .ro, 0x000, 0, none, none⟩,
  ⟨0x5400, 0x5400, 0x05, 0x05, .u32, .ro, 0x000, 0, none, none⟩,
  ⟨0x5400, 0x5400, 0x06, 0x06, .u32, .ro, 0x000, 0, none, none⟩,
  ⟨0x5400, 0x5400, 0x07, 0x07, .bool, .wo, 0x4F0, 0, none, none⟩,
  ⟨0x5400, 0x5400, 0x08, 0x08, .bool, .wo, 0x400, 0, none, none⟩,
  ⟨0x5401, 0x5401, 0x00, 0x00, .u8, .const, 0x000, 2, none, none⟩,
  ⟨0x5401, 0x5401, 0x01, 0x01, .u64, .rw, 0x7FE, 1, none, none⟩,
  ⟨0x5401, 0x5401, 0x02, 0x02, (.octets 32 false), .ro, 0x000, 0, none, none⟩,
  ⟨0x5402, 0x5402, 0x00, 0x00, .u8, .const, 0x000, 2, none, none⟩,
  ⟨0x5402, 0x5402, 0x01, 0x01, .u16, .rw, 0x7FE, 0, (some 0), (some 255)⟩,
  ⟨0x5402, 0x5402, 0x02, 0x02, (.octets 32 false), .ro, 0x000, 0, none, none⟩,
  ⟨0x5410, 0x5413, 0x00, 0x00, .u8, .const, 0x000, 5, none, none⟩,
  ⟨0x5410, 0x5413, 0x01, 0x01, .bool, .ro, 0x000, 0, none, none⟩,
  ⟨0x5410, 0x5413, 0x02, 0x02, .bool, .wo, 0x7FC, 0, none, none⟩,
  ⟨0x5410, 0x5413, 0x03, 0x03, .u32, .ro, 0x000, 0, none, none⟩,
  ⟨0x5410, 0x5413, 0x04, 0x04, .u32, .rw, 0x7FE, 0, (some 0), (some 16383)⟩,
  ⟨0x5410, 0x5413, 0x05, 0x05, (.octets 4096 true), .ro, 0x000, 0, none, none⟩,
  ⟨0x6000, 0x6000, 0x00, 0x00, .u8, .const, 0x000, 14, none, none⟩,
  ⟨0x6000, 0x6000, 0x01, 0x01, .bool, .rws, 0x410, 1, none, none⟩,
  ⟨0x6000, 0x6000, 0x02, 0x02, .u8, .rws, 0x410, 6, (some 0), (some 12)⟩,
  ⟨0x6000, 0x6000, 0x03, 0x03, .time, .rws, 0x410, 64000, (some 8000), (some 1000000)⟩,
  ⟨0x6000, 0x6000, 0x04, 0x04, .time, .rws, 0x410, 64000, (some 8000), (some 1000000)⟩,
  ⟨0x6000, 0x6000, 0x05, 0x05, .u8, .rws, 0x410, 125, (some 1), (some 255)⟩,
  ⟨0x6000, 0x6000, 0x06, 0x06, .u32, .rw, 0x404, 625341585, none, none⟩,
  ⟨0x6000, 0x6000, 0x07, 0x07, .bool, .rws, 0x410, 0, none, none⟩]

/-- Rows from index 0x6000 on. -/
def objRows14 : List ObjRow := [
  ⟨0x6000, 0x6000, 0x08, 0x08, .u8, .rws, 0x410, 3, (some 1), (some 15)⟩,
  ⟨0x6000, 0x6000, 0x09, 0x09, .time, .rws, 0x410, 3600000000000, (some 1000000000), (some 86400000000000)⟩,
  ⟨0x6000, 0x6000, 0x0A, 0x0A, .u8, .rws, 0x410, 8, (some 1), (some 32)⟩,
  ⟨0x6000, 0x6000, 0x0B, 0x0B, .mvolt, .const, 0x000, 800, none, none⟩,
  ⟨0x6000, 0x6000, 0x0C, 0x0C, .u8, .const, 0x000, 2, none, none⟩,
  ⟨0x6000, 0x6000, 0x0D, 0x0D, (.octets 32 false), .const, 0x000, 0, none, none⟩,
  ⟨0x6000, 0x6000, 0x0E, 0x0E, .bool, .ro, 0x000, 0, none, none⟩,
  ⟨0x6001, 0x6001, 0x00, 0x00, .u8, .const, 0x000, 16, none, none⟩,
  ⟨0x6001, 0x6001, 0x01, 0x01, .u64, .ro, 0x000, 0, none, none⟩,
  ⟨0x6001, 0x6001, 0x02, 0x02, .u64, .ro, 0x000, 0, none, none⟩,
  ⟨0x6001, 0x6001, 0x03, 0x03, .u32, .ro, 0x000, 0, none, none⟩,
  ⟨0x6001, 0x6001, 0x04, 0x04, .u32, .ro, 0x000, 0, none, none⟩,
  ⟨0x6001, 0x6001, 0x05, 0x05, .u32, .ro, 0x000, 0, none, none⟩,
  ⟨0x6001, 0x6001, 0x06, 0x06, .u32, .ro, 0x000, 0, none, none⟩,
  ⟨0x6001, 0x6001, 0x07, 0x07, .u32, .ro, 0x000, 0, none, none⟩,
  ⟨0x6001, 0x6001, 0x08, 0x08, .u32, .ro, 0x000, 0, none, none⟩,
  ⟨0x6001, 0x6001, 0x09, 0x09, .u32, .ro, 0x000, 0, none, none⟩,
  ⟨0x6001, 0x6001, 0x0A, 0x0A, .u64, .ro, 0x000, 0, none, none⟩,
  ⟨0x6001, 0x6001, 0x0B, 0x0B, .u32, .ro, 0x000, 0, none, none⟩,
  ⟨0x6001, 0x6001, 0x0C, 0x0C, .u32, .ro, 0x000, 0, none, none⟩,
  ⟨0x6001, 0x6001, 0x0D, 0x0D, .u32, .ro, 0x000, 0, none, none⟩,
  ⟨0x6001, 0x6001, 0x0E, 0x0E, .u32, .ro, 0x000, 0, none, none⟩,
  ⟨0x6001, 0x6001, 0x0F, 0x0F, .u32, .ro, 0x000, 0, none, none⟩,
  ⟨0x6001, 0x6001, 0x10, 0x10, .u32, .ro, 0x000, 0, none, none⟩,
  ⟨0x6002, 0x6002, 0x00, 0x00, .u8, .const, 0x000, 11, none, none⟩,
  ⟨0x6002, 0x6002, 0x01, 0x01, .u8, .rw, 0x400, 0, none, none⟩,
  ⟨0x6002, 0x6002, 0x02, 0x02, .u8, .wo, 0x400, 0, (some 1), (some 2)⟩,
  ⟨0x6002, 0x6002, 0x03, 0x03, .mvolt, .const, 0x000, 80, none, none⟩,
  ⟨0x6002, 0x6002, 0x04, 0x04, .time, .rw, 0x400, 1000000, (some 100000), (some 100000000)⟩,
  ⟨0x6002, 0x6002, 0x05, 0x05, .time, .rw, 0x400, 30000000000, (some 1000000000), (some 300000000000)⟩,
  ⟨0x6002, 0x6002, 0x06, 0x06, .u64, .rw, 0x400, 0, none, none⟩,
  ⟨0x6002, 0x6002, 0x07, 0x07, .u8, .ro, 0x000, 0, none, none⟩,
  ⟨0x6002, 0x6002, 0x08, 0x08, .mvolt, .ro, 0x000, 0, none, none⟩,
  ⟨0x6002, 0x6002, 0x09, 0x09, .u16, .ro, 0x000, 0, none, none⟩,
  ⟨0x6002, 0x6002, 0x0A, 0x0A, .time, .ro, 0x000, 0, none, none⟩,
  ⟨0x6002, 0x6002, 0x0B, 0x0B, .mvolt, .rws, 0x410, 400, (some 0), (some 1600)⟩,
  ⟨0x6003, 0x6003, 0x00, 0x00, .u8, .const, 0x000, 7, none, none⟩,
  ⟨0x6003, 0x6003, 0x01, 0x01, (.octets 32 false), .rw, 0x400, 0, none, none⟩,
  ⟨0x6003, 0x6003, 0x02, 0x02, .u64, .rw, 0x400, 0, none, none⟩,
  ⟨0x6003, 0x6003, 0x03, 0x03, .u8, .wo, 0x400, 0, (some 1), (some 2)⟩]

/-- Rows from index 0x6003 on. -/
def objRows15 : List ObjRow := [
  ⟨0x6003, 0x6003, 0x04, 0x04, .u8, .ro, 0x000, 0, none, none⟩,
  ⟨0x6003, 0x6003, 0x05, 0x05, .u32, .ro, 0x000, 0, none, none⟩,
  ⟨0x6003, 0x6003, 0x06, 0x06, .u32, .ro, 0x000, 0, none, none⟩,
  ⟨0x6003, 0x6003, 0x07, 0x07, .u32, .ro, 0x000, 0, none, none⟩,
  ⟨0x6004, 0x6004, 0x00, 0x00, .u8, .const, 0x000, 2, none, none⟩,
  ⟨0x6004, 0x6004, 0x01, 0x01, .u64, .wo, 0x4F0, 0, none, none⟩,
  ⟨0x6004, 0x6004, 0x02, 0x02, .u32, .ro, 0x000, 0, none, none⟩,
  ⟨0x6010, 0x610F, 0x00, 0x00, .u8, .const, 0x000, 10, none, none⟩,
  ⟨0x6010, 0x610F, 0x01, 0x01, .u32, .ro, 0x000, 0, none, none⟩,
  ⟨0x6010, 0x610F, 0x02, 0x02, .u32, .ro, 0x000, 0, none, none⟩,
  ⟨0x6010, 0x610F, 0x03, 0x03, .u32, .ro, 0x000, 0, none, none⟩,
  ⟨0x6010, 0x610F, 0x04, 0x04, .u32, .ro, 0x000, 0, none, none⟩,
  ⟨0x6010, 0x610F, 0x05, 0x05, .u8, .ro, 0x000, 0, none, none⟩,
  ⟨0x6010, 0x610F, 0x06, 0x06, .u32, .ro, 0x000, 0, none, none⟩,
  ⟨0x6010, 0x610F, 0x07, 0x07, .u32, .ro, 0x000, 0, none, none⟩,
  ⟨0x6010, 0x610F, 0x08, 0x08, .u8, .ro, 0x000, 0, none, none⟩,
  ⟨0x6010, 0x610F, 0x09, 0x09, .bool, .wo, 0x400, 0, none, none⟩,
  ⟨0x6010, 0x610F, 0x0A, 0x0A, .u32, .ro, 0x000, 0, none, none⟩,
  ⟨0x6200, 0x621F, 0x00, 0x00, .u8, .const, 0x000, 9, none, none⟩,
  ⟨0x6200, 0x621F, 0x01, 0x08, .mvolt, .ro, 0x000, 0, none, none⟩,
  ⟨0x6200, 0x621F, 0x09, 0x09, .u8, .ro, 0x000, 0, none, none⟩,
  ⟨0x6300, 0x633F, 0x00, 0x00, .u8, .const, 0x000, 6, none, none⟩,
  ⟨0x6300, 0x633F, 0x01, 0x01, .bool, .rw, 0x400, 0, none, none⟩,
  ⟨0x6300, 0x633F, 0x02, 0x02, .u32, .rw, 0x400, 0, none, none⟩,
  ⟨0x6300, 0x633F, 0x03, 0x03, .u8, .rw, 0x400, 0, (some 0), (some 63)⟩,
  ⟨0x6300, 0x633F, 0x04, 0x04, .u64, .rw, 0x400, 0, none, none⟩,
  ⟨0x6300, 0x633F, 0x05, 0x05, .time, .rw, 0x400, 100000, (some 1000), (some 10000000)⟩,
  ⟨0x6300, 0x633F, 0x06, 0x06, .u16, .rw, 0x400, 0, none, none⟩,
  ⟨0x7000, 0x7000, 0x00, 0x00, .u8, .const, 0x000, 15, none, none⟩,
  ⟨0x7000, 0x7000, 0x01, 0x01, .u8, .const, 0x000, 0, none, none⟩,
  ⟨0x7000, 0x7000, 0x02, 0x02, .u8, .const, 0x000, 0, (some 0), (some 15)⟩,
  ⟨0x7000, 0x7000, 0x03, 0x03, (.octets 6 false), .const, 0x000, 0, none, none⟩,
  ⟨0x7000, 0x7000, 0x04, 0x04, .u8, .const, 0x000, 0, (some 0), (some 15)⟩,
  ⟨0x7000, 0x7000, 0x05, 0x05, .u8, .ro, 0x000, 1, none, none⟩,
  ⟨0x7000, 0x7000, 0x06, 0x06, .time, .rw, 0x404, 2000, (some 0), (some 100000)⟩,
  ⟨0x7000, 0x7000, 0x07, 0x07, .mwatt, .ro, 0x000, 0, none, none⟩,
  ⟨0x7000, 0x7000, 0x08, 0x08, .u8, .ro, 0x000, 30, none, none⟩,
  ⟨0x7000, 0x7000, 0x09, 0x09, .u8, .ro, 0x000, 20, none, none⟩,
  ⟨0x7000, 0x7000, 0x0A, 0x0A, .u32, .ro, 0x000, 0, none, none⟩,
  ⟨0x7000, 0x7000, 0x0B, 0x0B, .u32, .ro, 0x000, 0, none, none⟩]

/-- Rows from index 0x7000 on. -/
def objRows16 : List ObjRow := [
  ⟨0x7000, 0x7000, 0x0C, 0x0C, .u32, .ro, 0x000, 0, none, none⟩,
  ⟨0x7000, 0x7000, 0x0D, 0x0D, .s32, .ro, 0x000, 0, none, none⟩,
  ⟨0x7000, 0x7000, 0x0E, 0x0E, .u32, .ro, 0x000, 0, none, none⟩,
  ⟨0x7000, 0x7000, 0x0F, 0x0F, .u32, .ro, 0x000, 0, none, none⟩,
  ⟨0x7001, 0x7001, 0x00, 0x00, .u8, .const, 0x000, 10, none, none⟩,
  ⟨0x7001, 0x7001, 0x01, 0x01, .mwatt, .rw, 0x4FC, 0, none, none⟩,
  ⟨0x7001, 0x7001, 0x02, 0x02, .u8, .rw, 0x414, 25, (some 0), (some 50)⟩,
  ⟨0x7001, 0x7001, 0x03, 0x03, .time, .const, 0x000, 10000000, none, none⟩,
  ⟨0x7001, 0x7001, 0x04, 0x04, .u16, .rws, 0x410, 200, (some 0), (some 1000)⟩,
  ⟨0x7001, 0x7001, 0x05, 0x05, .u8, .rws, 0x410, 30, (some 1), (some 100)⟩,
  ⟨0x7001, 0x7001, 0x06, 0x06, .u8, .rws, 0x410, 20, (some 1), (some 100)⟩,
  ⟨0x7001, 0x7001, 0x07, 0x07, .u16, .ro, 0x000, 1, none, none⟩,
  ⟨0x7001, 0x7001, 0x08, 0x08, .time, .rws, 0x410, 5000000000, (some 1000000000), (some 60000000000)⟩,
  ⟨0x7001, 0x7001, 0x09, 0x09, .u32, .ro, 0x000, 0, none, none⟩,
  ⟨0x7001, 0x7001, 0x0A, 0x0A, .u32, .ro, 0x000, 0, none, none⟩,
  ⟨0x7010, 0x701F, 0x00, 0x00, .u8, .const, 0x000, 9, none, none⟩,
  ⟨0x7010, 0x701F, 0x01, 0x01, (.octets 6 false), .const, 0x000, 0, none, none⟩,
  ⟨0x7010, 0x701F, 0x02, 0x02, .mwatt, .const, 0x000, 0, none, none⟩,
  ⟨0x7010, 0x701F, 0x03, 0x03, .u8, .ro, 0x000, 0, none, none⟩,
  ⟨0x7010, 0x701F, 0x04, 0x04, .u8, .ro, 0x000, 0, none, none⟩,
  ⟨0x7010, 0x701F, 0x05, 0x05, .mwatt, .ro, 0x000, 0, none, none⟩,
  ⟨0x7010, 0x701F, 0x06, 0x06, .mwatt, .ro, 0x000, 0, none, none⟩,
  ⟨0x7010, 0x701F, 0x07, 0x07, .mwatt, .ro, 0x000, 0, none, none⟩,
  ⟨0x7010, 0x701F, 0x08, 0x08, .u32, .ro, 0x000, 0, none, none⟩,
  ⟨0x7010, 0x701F, 0x09, 0x09, .u32, .ro, 0x000, 0, none, none⟩,
  ⟨0x7400, 0x7400, 0x00, 0x00, .u8, .const, 0x000, 8, none, none⟩,
  ⟨0x7400, 0x7400, 0x01, 0x01, .u8, .rw, 0x404, 0, (some 0), (some 2)⟩,
  ⟨0x7400, 0x7400, 0x02, 0x02, .u8, .rws, 0x410, 3, (some 2), (some 10)⟩,
  ⟨0x7400, 0x7400, 0x03, 0x03, .u8, .ro, 0x000, 0, none, none⟩,
  ⟨0x7400, 0x7400, 0x04, 0x04, .u8, .ro, 0x000, 0, none, none⟩,
  ⟨0x7400, 0x7400, 0x05, 0x05, .u32, .ro, 0x000, 0, none, none⟩,
  ⟨0x7400, 0x7400, 0x06, 0x06, .u32, .ro, 0x000, 0, none, none⟩,
  ⟨0x7400, 0x7400, 0x07, 0x07, .u64, .ro, 0x000, 0, none, none⟩,
  ⟨0x7400, 0x7400, 0x08, 0x08, .u32, .ro, 0x000, 0, none, none⟩,
  ⟨0x7410, 0x7413, 0x00, 0x00, .u8, .const, 0x000, 12, none, none⟩,
  ⟨0x7410, 0x7413, 0x01, 0x01, .u8, .ro, 0x000, 0, none, none⟩,
  ⟨0x7410, 0x7413, 0x02, 0x02, .u8, .ro, 0x000, 0, none, none⟩,
  ⟨0x7410, 0x7413, 0x03, 0x03, .u32, .ro, 0x000, 0, none, none⟩,
  ⟨0x7410, 0x7413, 0x04, 0x04, .u32, .ro, 0x000, 0, none, none⟩,
  ⟨0x7410, 0x7413, 0x05, 0x05, .u32, .ro, 0x000, 0, none, none⟩]

/-- Rows from index 0x7410 on. -/
def objRows17 : List ObjRow := [
  ⟨0x7410, 0x7413, 0x06, 0x06, .time, .rw, 0x404, 10000000, (some 1000000), (some 100000000)⟩,
  ⟨0x7410, 0x7413, 0x07, 0x07, .time, .ro, 0x000, 0, none, none⟩,
  ⟨0x7410, 0x7413, 0x08, 0x08, .u32, .ro, 0x000, 0, none, none⟩,
  ⟨0x7410, 0x7413, 0x09, 0x09, .u8, .rws, 0x410, 4, (some 2), (some 15)⟩,
  ⟨0x7410, 0x7413, 0x0A, 0x0A, .bool, .wo, 0x414, 0, none, none⟩,
  ⟨0x7410, 0x7413, 0x0B, 0x0B, .u32, .ro, 0x000, 0, none, none⟩,
  ⟨0x7410, 0x7413, 0x0C, 0x0C, .u32, .ro, 0x000, 0, none, none⟩,
  ⟨0x7420, 0x7420, 0x00, 0x00, .u8, .const, 0x000, 9, none, none⟩,
  ⟨0x7420, 0x7420, 0x01, 0x01, .u8, .rw, 0x4F0, 0, (some 0), (some 3)⟩,
  ⟨0x7420, 0x7420, 0x02, 0x02, .u32, .rw, 0x4F0, 0, (some 0), (some 98303)⟩,
  ⟨0x7420, 0x7420, 0x03, 0x03, (.octets 4096 true), .wo, 0x4F0, 0, none, none⟩,
  ⟨0x7420, 0x7420, 0x04, 0x04, .u8, .wo, 0x4F0, 0, (some 1), (some 3)⟩,
  ⟨0x7420, 0x7420, 0x05, 0x05, .u32, .ro, 0x000, 0, none, none⟩,
  ⟨0x7420, 0x7420, 0x06, 0x06, .time, .rw, 0x4F0, 1000000000, (some 100000000), (some 60000000000)⟩,
  ⟨0x7420, 0x7420, 0x07, 0x07, .u32, .ro, 0x000, 0, none, none⟩,
  ⟨0x7420, 0x7420, 0x08, 0x08, .u32, .ro, 0x000, 0, none, none⟩,
  ⟨0x7420, 0x7420, 0x09, 0x09, .u32, .const, 0x000, 0, none, none⟩,
  ⟨0x7480, 0x7480, 0x00, 0x00, .u8, .const, 0x000, 9, none, none⟩,
  ⟨0x7480, 0x7480, 0x01, 0x01, .u64, .ro, 0x000, 0, none, none⟩,
  ⟨0x7480, 0x7480, 0x02, 0x02, .u64, .ro, 0x000, 0, none, none⟩,
  ⟨0x7480, 0x7480, 0x03, 0x03, .u32, .ro, 0x000, 0, none, none⟩,
  ⟨0x7480, 0x7480, 0x04, 0x04, .u32, .ro, 0x000, 0, none, none⟩,
  ⟨0x7480, 0x7480, 0x05, 0x05, .u32, .ro, 0x000, 0, none, none⟩,
  ⟨0x7480, 0x7480, 0x06, 0x06, .u32, .ro, 0x000, 0, none, none⟩,
  ⟨0x7480, 0x7480, 0x07, 0x07, .u32, .ro, 0x000, 0, none, none⟩,
  ⟨0x7480, 0x7480, 0x08, 0x08, .u32, .ro, 0x000, 0, none, none⟩,
  ⟨0x7480, 0x7480, 0x09, 0x09, .u32, .ro, 0x000, 0, none, none⟩,
  ⟨0x7490, 0x7490, 0x00, 0x00, .u8, .const, 0x000, 8, none, none⟩,
  ⟨0x7490, 0x7490, 0x01, 0x05, .u16, .ro, 0x000, 0, none, none⟩,
  ⟨0x7490, 0x7490, 0x06, 0x06, .u32, .ro, 0x000, 0, none, none⟩,
  ⟨0x7490, 0x7490, 0x07, 0x07, .u32, .const, 0x000, 65536, none, none⟩,
  ⟨0x7490, 0x7490, 0x08, 0x08, .u32, .ro, 0x000, 0, none, none⟩,
  ⟨0x7500, 0x753F, 0x00, 0x00, .u8, .const, 0x000, 15, none, none⟩,
  ⟨0x7500, 0x753F, 0x01, 0x01, .u8, .const, 0x000, 0, none, none⟩,
  ⟨0x7500, 0x753F, 0x02, 0x02, .u8, .const, 0x000, 0, none, none⟩,
  ⟨0x7500, 0x753F, 0x03, 0x03, .u16, .const, 0x000, 0, none, none⟩,
  ⟨0x7500, 0x753F, 0x04, 0x04, .u32, .const, 0x000, 0, none, none⟩,
  ⟨0x7500, 0x753F, 0x05, 0x05, .time, .rw, 0x4FC, 100000, (some 1000), (some 1000000000)⟩,
  ⟨0x7500, 0x753F, 0x06, 0x06, .u32, .ro, 0x000, 0, none, none⟩,
  ⟨0x7500, 0x753F, 0x07, 0x07, .u32, .ro, 0x000, 0, none, none⟩]

/-- Rows from index 0x7500 on. -/
def objRows18 : List ObjRow := [
  ⟨0x7500, 0x753F, 0x08, 0x08, .u32, .ro, 0x000, 0, none, none⟩,
  ⟨0x7500, 0x753F, 0x09, 0x09, .u32, .ro, 0x000, 0, none, none⟩,
  ⟨0x7500, 0x753F, 0x0A, 0x0A, .u32, .ro, 0x000, 0, none, none⟩,
  ⟨0x7500, 0x753F, 0x0B, 0x0B, .u32, .ro, 0x000, 0, none, none⟩,
  ⟨0x7500, 0x753F, 0x0C, 0x0C, .u32, .ro, 0x000, 0, none, none⟩,
  ⟨0x7500, 0x753F, 0x0D, 0x0D, .u32, .ro, 0x000, 0, none, none⟩,
  ⟨0x7500, 0x753F, 0x0E, 0x0E, .u32, .ro, 0x000, 0, none, none⟩,
  ⟨0x7500, 0x753F, 0x0F, 0x0F, .u32, .ro, 0x000, 0, none, none⟩,
  ⟨0xF000, 0xF000, 0x00, 0x00, .u8, .const, 0x000, 3, none, none⟩,
  ⟨0xF000, 0xF000, 0x01, 0x01, (.octets 64 false), .ro, 0x000, 0, none, none⟩,
  ⟨0xF000, 0xF000, 0x02, 0x02, .u8, .ro, 0x000, 0, none, none⟩,
  ⟨0xF000, 0xF000, 0x03, 0x03, .u16, .rw, 0x400, 0, none, none⟩]

/-- Every row of the object tables. -/
def objRows : List ObjRow :=
  objRows0 ++ objRows1 ++ objRows2 ++ objRows3 ++ objRows4 ++ objRows5 ++ objRows6 ++ objRows7 ++ objRows8 ++ objRows9 ++ objRows10 ++ objRows11 ++ objRows12 ++ objRows13 ++ objRows14 ++ objRows15 ++ objRows16 ++ objRows17 ++ objRows18

/-- Whether a row describes an address. -/
def ObjRow.covers (r : ObjRow) (idx sub : Nat) : Bool := r.lo ≤ idx && idx ≤ r.hi && r.subLo ≤ sub && sub ≤ r.subHi

/-- The row of an address. -/
def objRow (idx sub : Nat) : Option ObjRow := objRows.find? (fun r => r.covers idx sub)

/-- Whether the manual defines an object at an index (R358). -/
def objExists (idx : Nat) : Bool := objRows.any (fun r => r.lo ≤ idx && idx ≤ r.hi)

/-- Size in bytes of a type (15 Types). -/
def ObjTy.size : ObjTy → Nat
  | .bool | .u8 => 1
  | .u16 | .s16 | .temp | .mvolt => 2
  | .u32 | .s32 | .mamp | .mwatt => 4
  | .u64 | .q | .time => 8
  | .octets n _ => n

/-- Whether a type is two's complement. -/
def ObjTy.signed : ObjTy → Bool
  | .s16 | .s32 | .temp => true
  | _ => false

/-- The key of an address in the object store. -/
def okey (idx sub : Nat) : Nat := idx * 256 + sub

end Sys2Proof.Machine
end

