-- ==== Sys2Proof/Machine/Objects.lean ====
section
/-! DEFINITION. The object store: what every object holds when nothing has set it, how its value is read and changed,
and the counters (15, 00 R11). Values are raw unsigned numbers of the object's size. -/

namespace Sys2Proof.Machine

/-- Rails, lanes and droop taps of a configuration (00 Configurations). -/
def railCount : Config → Nat
  | .full => 8
  | .core => 4

def laneCount : Config → Nat
  | .full => 96
  | .core => 48

def tapCount : Config → Nat
  | .full => 512
  | .core => 256

/-- Default of the programmed level, count and window of a Registrar pin (12 R293): E-class pins give a level, D-class
pins a count and a window in ns. -/
inductive PinDefault where
  | e (level : Nat) (held : Bool)
  | d (count : Nat) (window : Nat)
  deriving DecidableEq, Repr

/-- The Default column of R293 by pin number. -/
def pinDefault : Nat → PinDefault
  | 0 => .e 4 false    | 1 => .e 2 true     | 2 => .d 64 1000000   | 3 => .e 2 false
  | 4 => .e 1 false    | 5 => .e 2 true     | 6 => .d 16 1000000000 | 7 => .e 1 false
  | 8 => .e 1 false    | 9 => .e 1 false    | 10 => .e 2 false     | 11 => .e 3 true
  | 12 => .e 0 false   | 13 => .e 3 true    | 14 => .e 4 false     | 15 => .e 3 false
  | 16 => .e 2 false   | 17 => .e 1 false   | 18 => .e 0 false     | 19 => .e 2 false
  | 20 => .e 2 true    | 21 => .e 1 false   | 22 => .e 1 false     | 23 => .d 1024 1000000
  | 24 => .e 1 false   | 25 => .e 1 false   | 26 => .d 1024 1000000 | 27 => .d 64 1000000
  | 28 => .d 1024 1000000 | 29 => .d 16 1000000000 | 30 => .e 1 true | 31 => .e 0 false
  | 32 => .e 1 true    | 33 => .e 0 true    | 34 => .e 3 false     | 35 => .e 4 false
  | 36 => .e 0 false   | 37 => .e 2 false   | 38 => .e 2 true      | 39 => .e 1 true
  | 40 => .e 1 true    | 41 => .e 1 false   | 42 => .e 1 false     | 43 => .d 64 100000000
  | 44 => .e 2 false   | 45 => .d 64 1000000000 | 46 => .e 1 false | 47 => .e 1 false
  | 48 => .e 0 false   | 49 => .e 1 true    | 50 => .e 1 false     | 51 => .e 1 false
  | 52 => .d 64 1000000 | 53 => .d 16 1000000000 | 54 => .e 1 false | 55 => .e 1 false
  | 56 => .e 1 true    | 57 => .d 64 1000000000 | 58 => .d 1024 1000000 | 59 => .d 64 1000000000
  | 60 => .e 1 true    | 61 => .e 0 false   | 62 => .d 16 1000000000 | 63 => .d 16 1000000000
  | _ => .e 0 false

/-- Whether a pin is D-class. -/
def pinIsD (n : Nat) : Bool :=
  match pinDefault n with
  | .d _ _ => true
  | .e _ _ => false

/-- Whether a pin is marked held. -/
def pinIsHeld (n : Nat) : Bool :=
  match pinDefault n with
  | .e _ h => h
  | .d _ _ => false

/-- Default programmed level; every D-class pin latches at WARN (12 R293). -/
def pinLevel (n : Nat) : Nat :=
  match pinDefault n with
  | .e l _ => l
  | .d _ _ => 1

/-- Default droop thresholds of a band: MILD, DEEP, SEVERE (05 R124). -/
def droopThreshold (band kind : Nat) : Nat :=
  let t : Nat × Nat × Nat :=
    if band = 0 || band = 6 then (22, 14, 7) else if band = 7 then (24, 16, 8) else (20, 12, 6)
  if kind = 0 then t.1 else if kind = 1 then t.2.1 else t.2.2

/-- Default thermal thresholds in 1/64 degrees C by kind: warning, throttle, shutdown (09 R228). -/
def thermalThreshold (kind which : Nat) : Nat :=
  let t : Nat × Nat × Nat :=
    if kind = 0 then (95, 100, 115) else if kind = 1 then (90, 95, 105) else (100, 110, 120)
  64 * (if which = 0 then t.1 else if which = 1 then t.2.1 else t.2.2)

/-- Default region boundaries B1 to B7 by class (09 Temperature bands). -/
def regionBoundary (cls b : Nat) : Nat :=
  64 * ((if cls = 1 then [0, 45, 65, 75, 85, 90, 95] else [10, 40, 60, 75, 85, 90, 95]).getD (b - 1) 0)

/-- Default memory-band code of a band (09 R232). -/
def memBandCode (band : Nat) : Nat := [3, 0, 0, 0, 0, 5, 10, 10].getD band 0

/-- Type code of a law instance: 0 CURRENT, 1 POWER, 2 THERMAL, 3 TRACK, 4 VOLT, 5 BAL, 6 FILTER (08 Law types). -/
def lawType (i : Nat) : Nat :=
  if i < 8 then 4 else if i < 40 then (i - 8) % 4 else if i < 136 then 5 else 6

/-- Rail or lane a law instance serves (08 R199). -/
def lawServes (i : Nat) : Nat :=
  if i < 8 then i else if i < 40 then (i - 8) / 4 else if i < 136 then i - 40 else 0

/-- The stored value of an object, if something has set it. -/
def stored (od : Tbl Nat) (idx sub : Nat) : Option Nat :=
  if thas od (okey idx sub) then some (tget od (okey idx sub) 0) else none

/-- Stored value, else `d`. -/
def storedOr (od : Tbl Nat) (idx sub d : Nat) : Nat := (stored od idx sub).getD d

/-- A coefficient of type Q: value in bytes 0 to 3, shift in byte 4 (15 Types). -/
def qOf (c shift : Nat) : Nat := c % 2 ^ 32 + 2 ^ 32 * shift

/-- Rate in 1/65,536 credit per C-frame of a power in mW at a quantum in pJ (08 R202). -/
def rateOfMw (q p : Nat) : Nat := p * 65536000 / q

/-- Default coefficient slot of a law instance (08 Law types), at the default quantum; an image that sets another quantum
has the THERMAL slot set again at the end of BOOT. -/
def lawCoefficient (od : Tbl Nat) (i slot : Nat) : Nat :=
  let share := storedOr od (0x2810 + lawServes i) 4 0
  match lawType i, slot with
  | 0, 0 | 1, 0 | 2, 0 => qOf 1 6
  | 2, 1 => qOf (rateOfMw 62500 share / 6400) 0
  | 3, 0 => qOf 1 4
  | _, _ => 0

/-- Default target of a law instance. -/
def lawTarget (od : Tbl Nat) (i : Nat) : Nat :=
  match lawType i with
  | 0 => storedOr od (0x2200 + lawServes i) 5 0
  | 1 | 3 => storedOr od (0x2810 + lawServes i) 4 0
  | 2 => 5952
  | _ => 0

/-- Default following-error limit and time of a law instance. -/
def lawFollowing (od : Tbl Nat) (i : Nat) : Nat × Nat :=
  match lawType i with
  | 0 => (storedOr od (0x2200 + lawServes i) 5 0 / 20, 64)
  | 1 => (storedOr od (0x2810 + lawServes i) 4 0 / 20, 1000)
  | 2 => (128, 2000)
  | 4 => (400, 60)
  | _ => (0, 1)

/-- Objects of the image whose Name says that 0xFF means none or unused: an image that names nothing leaves them so. -/
def imageNone (idx sub : Nat) : Bool :=
  (sub = 1 && ((0x2410 ≤ idx && idx ≤ 0x242F) || (0x2440 ≤ idx && idx ≤ 0x247F) || (0x3010 ≤ idx && idx ≤ 0x304F)
      || (0x3100 ≤ idx && idx ≤ 0x321F) || (0x7500 ≤ idx && idx ≤ 0x753F)))
    || (sub = 2 && ((0x2810 ≤ idx && idx ≤ 0x2817) || (0x7500 ≤ idx && idx ≤ 0x753F)))

/-- Defaults that the Default column gives by reference to a rule or table, or by configuration. -/
def specialDefault (cfg : Config) (od : Tbl Nat) (idx sub : Nat) : Option Nat :=
  let f : Bool := cfg == .full
  if idx = 0x1000 && sub = 2 then some (if f then 0x401 else 0x402)
  else if idx = 0x1100 then
    match sub with
    | 1 => some (if f then 1 else 2)
    | 2 => some (laneCount cfg)
    | 3 => some (railCount cfg)
    | 4 => some (tapCount cfg)
    | 5 | 6 | 7 | 8 => some (natOfBool f)
    | _ => none
  else if (idx = 0x1201 || idx = 0x2001 || idx = 0x2002) && sub = 0 then some (railCount cfg)
  else if imageNone idx sub then some 0xFF
  else if 0x2440 ≤ idx && idx ≤ 0x247F && 6 ≤ sub then some (droopThreshold ((sub - 6) / 3) ((sub - 6) % 3))
  else if 0x3001 ≤ idx && idx ≤ 0x3003 && (sub = 1 || sub = 3 || sub = 5) then
    some (thermalThreshold (idx - 0x3001) ((sub - 1) / 2))
  else if idx = 0x3005 && 1 ≤ sub then some (memBandCode (sub - 1))
  else if idx = 0x3006 && 1 ≤ sub then some (sub - 1)
  else if 0x3010 ≤ idx && idx ≤ 0x304F && 6 ≤ sub then some (regionBoundary (storedOr od idx 1 0) (sub - 5))
  else if 0x3410 ≤ idx && idx ≤ 0x342F && sub = 3 then some (storedOr od idx 1 0 % 2)
  else if 0x4100 ≤ idx && idx ≤ 0x419F then
    let i := idx - 0x4100
    if sub = 1 then some (lawType i)
    else if sub = 2 then some (lawServes i)
    else if 3 ≤ sub && sub ≤ 9 then some (lawCoefficient od i (sub - 3))
    else if sub = 0x0A then some (lawTarget od i)
    else if sub = 0x0B then some (storedOr od (0x2810 + lawServes i) 4 0 * 13 / 10)
    else if sub = 0x11 then some (lawFollowing od i).1
    else if sub = 0x12 then some (lawFollowing od i).2
    else none
  else if 0x5010 ≤ idx && idx ≤ 0x504F then
    let n := idx - 0x5010
    match sub, pinDefault n with
    | 1, _ => some (natOfBool (pinIsD n))
    | 2, _ => some (pinLevel n)
    | 3, _ => some (max 3 (pinLevel n))
    | 5, .d c _ => some c
    | 6, .d _ w => some w
    | _, _ => none
  else none

/-- What an object holds: the value set by the image, by software or by the Governor, else its default (00 R11). -/
def State.obj (s : State) (idx sub : Nat) : Nat :=
  match stored s.od idx sub with
  | some v => v
  | none =>
    match specialDefault s.cfg s.od idx sub with
    | some v => v
    | none =>
      match objRow idx sub with
      | some r => r.dflt
      | none => 0

/-- An object as a truth value. -/
def State.flag (s : State) (idx sub : Nat) : Bool := s.obj idx sub != 0

/-- An object of a signed 16-bit type (S16, TEMP). -/
def State.obj16 (s : State) (idx sub : Nat) : Int := toSigned 16 (s.obj idx sub)

/-- An object of type S32. -/
def State.obj32 (s : State) (idx sub : Nat) : Int := toSigned 32 (s.obj idx sub)

/-- A time object as GCLK cycles. -/
def State.cyc (s : State) (idx sub : Nat) : Nat := cycles (s.obj idx sub)

/-- The state with an object set. -/
def State.setObj (s : State) (idx sub v : Nat) : State := { s with od := tset s.od (okey idx sub) v }

/-- A 32-bit counter advanced by `n`, saturating at 0xFFFF_FFFF. -/
def State.bumpBy (s : State) (idx sub n : Nat) : State := s.setObj idx sub (satU 32 (s.obj idx sub + n))

/-- A 32-bit counter advanced by one, saturating at 0xFFFF_FFFF. -/
def State.bump (s : State) (idx sub : Nat) : State := s.bumpBy idx sub 1

/-- A 64-bit counter advanced by `n`, saturating. -/
def State.bump64 (s : State) (idx sub n : Nat) : State := s.setObj idx sub (satU 64 (s.obj idx sub + n))

/-- Whether an object is one the Governor alone changes, kept in the store: a counter (cleared only by cold reset). -/
def isCounter (idx sub : Nat) : Bool :=
  match objRow idx sub with
  | some r => r.acc == .ro
  | none => false

/-! ### Instances and their records -/

def State.railCount (s : State) : Nat := Sys2Proof.Machine.railCount s.cfg
def State.laneCount (s : State) : Nat := Sys2Proof.Machine.laneCount s.cfg
def State.tapCount (s : State) : Nat := Sys2Proof.Machine.tapCount s.cfg

/-- Whether the image uses a rail: it is present and described (04 R80). -/
def State.railUsed (s : State) (r : Nat) : Bool := r < s.railCount && s.desc.rails.any (fun d => d.rail == r)

/-- Rails in use, ascending. -/
def State.railsUsed (s : State) : List Nat := (List.range s.railCount).filter s.railUsed

def State.rail (s : State) (r : Nat) : Rail := tget s.rails r {}
def State.setRail (s : State) (r : Nat) (v : Rail) : State := { s with rails := tset s.rails r v }
def State.modRail (s : State) (r : Nat) (f : Rail → Rail) : State := s.setRail r (f (s.rail r))

def State.lane (s : State) (n : Nat) : Lane := tget s.lanes n {}
def State.setLane (s : State) (n : Nat) (v : Lane) : State := { s with lanes := tset s.lanes n v }
def State.modLane (s : State) (n : Nat) (f : Lane → Lane) : State := s.setLane n (f (s.lane n))

/-- Rail of a lane, 0xFF for none (0x2100+n:01). -/
def State.laneRail (s : State) (n : Nat) : Nat := s.obj (0x2100 + n) 1

/-- Lanes assigned to a rail, ascending. -/
def State.railLanes (s : State) (r : Nat) : List Nat := (List.range s.laneCount).filter (fun n => s.laneRail n == r)

end Sys2Proof.Machine
end

