-- ==== Sys2Proof/Machine/Recorder.lean ====
section
/-! DEFINITION. TAI time, the event recorder and its records (12 Records, Daybook and Vitrine, Time). -/

namespace Sys2Proof.Machine

/-! ### Time -/

/-- TAI in ns: within a C-frame base + floor(cycle * 125 / 126); while GCLK is stopped 125 ns for every 4 oscillator
cycles (12 Time). Zero while the quality is UNSET. -/
def State.tai (s : State) : Nat :=
  if s.clock.quality = 0 then 0
  else
    match s.clock.stopped with
    | some t => s.clock.base + (s.tb.now - t) * 125 / 126 / 125 * 125
    | none => s.clock.base + nsOf (min (s.tb.now - s.tb.cStart) 1007)

/-- Time quality 2 or 3 falls to 1 LOCAL (12 R313). -/
def State.qualityFalls (s : State) : State :=
  { s with clock := { s.clock with quality := min s.clock.quality 1 } }

/-! ### Records -/

/-- SEAL of a record (12 R305). -/
def Record.seal (r : Record) : Nat := (r.seq % 2 ^ 16) ^^^ 0x5A5A

/-- The 32 bytes of a record (12 R305). -/
def Record.toBytes (r : Record) : List Byte :=
  bytesLE 6 r.seq ++ bytesLE 2 r.code ++ bytesLE 8 (r.time % 2 ^ 62 + 2 ^ 62 * (r.quality % 4)) ++ bytesLE 8 r.pa
    ++ bytesLE 6 r.pb ++ bytesLE 2 r.seal

/-- The TIME of a record enqueued now. -/
def State.stamp (s : State) (seq code pa pb : Nat) : Record :=
  { seq := seq % 2 ^ 48, code := code, time := s.tai, quality := s.clock.quality, pa := pa % 2 ^ 64, pb := pb % 2 ^ 48 }

/-- What the recorder enqueues for a group of (code, PA, PB) triples: the primary carries the group's size, a
continuation 0 (12 R306). -/
def State.groupEntries (s : State) (g : List (Nat × Nat × Nat)) (vit : Bool) : List Queued :=
  g.zipIdx.map (fun p =>
    { record := s.stamp (s.recorder.nextSeq + p.2) p.1.1 p.1.2.1 p.1.2.2, vitrine := vit,
      group := if p.2 = 0 then g.length else 0 })

/-- Enqueues a group of records whole, or drops it whole when the queue of 128 has no room: sequence numbers are
consumed either way and each record dropped is counted (12 R306, R308). -/
def State.enqueueGroup (s : State) (g : List (Nat × Nat × Nat)) (vit : Bool) : State :=
  let fits : Bool := s.recorder.queue.length + g.length ≤ 128
  let s1 : State := { s with recorder := { s.recorder with
    nextSeq := s.recorder.nextSeq + g.length
    queue := if fits then s.recorder.queue ++ s.groupEntries g vit else s.recorder.queue } }
  if fits then s1 else s1.bumpBy 0x5400 4 g.length

/-- Enqueues one record (12 R308). -/
def State.record (s : State) (code pa pb : Nat) (vit : Bool) : State := s.enqueueGroup [(code, pa, pb)] vit

/-- Writes the oldest queued record to Daybook slot SEQ mod 8,192 and, where its group is marked and fits, to the next
free Vitrine slot; REC_HEAD takes its SEQ (12 R308, R309). -/
def State.writeRecord (s : State) : State :=
  match s.recorder.queue with
  | [] => s
  | q :: rest =>
    let fits : Bool := s.recorder.vitrine.length + q.group ≤ 256
    let copy : Bool := q.vitrine && (if q.group = 0 then s.recorder.copying else fits)
    let written : List (PoisonAt × Nat) :=
      (.daybook, q.record.seq % 8192) :: (if copy then [(.vitrine, s.recorder.vitrine.length)] else [])
    let s1 : State := { s with poison := s.poison.filter (!written.contains ·), recorder := { s.recorder with
      queue := rest
      daybook := tset s.recorder.daybook (q.record.seq % 8192) q.record
      vitrine := if copy then s.recorder.vitrine ++ [q.record] else s.recorder.vitrine
      copying := copy
      head := q.record.seq } }
    if q.vitrine && q.group != 0 && !fits then s1.bump 0x5400 5 else s1

/-- The Daybook record of a sequence number, if it is still valid and present (12 R310, R311). -/
def State.daybookRecord (s : State) (seq : Nat) : Option Record :=
  if s.recorder.first ≤ seq && seq ≤ s.recorder.head && s.recorder.head < seq + 8192 then
    match (s.recorder.daybook.find? (fun p => p.1 == seq % 8192)) with
    | some p => if p.2.seq = seq then some p.2 else none
    | none => none
  else none

/-- The bytes a read of a record returns: 32 zero bytes for a cleared or empty slot (12 R310). -/
def recordBytes : Option Record → List Byte
  | some r => r.toBytes
  | none => List.replicate 32 0

/-- The content of a record read with poison: CODE 0xFFFF, every other byte 0 (12 R312). -/
def poisonedBytes : List Byte := List.replicate 6 0 ++ [0xFF, 0xFF] ++ List.replicate 24 0

end Sys2Proof.Machine
end

