-- ==== Sys2Proof/Machine/Icu.lean ====
section
/-! DEFINITION. The interrupt controller (13): source kinds, signals, conditions, offers, sleeping targets. The commands
on it are in Interrupts.lean. -/

namespace Sys2Proof.Machine

/-- Whether a source number is listed in 13 R317. -/
def srcListed (n : Nat) : Bool := n ≤ 0x0CB || (0x200 ≤ n && n ≤ 0x3FF)

/-- Whether a source is level (13 R317). -/
def srcLevel (n : Nat) : Bool := n < 0x0C0

/-- The Governor is in use at this instant: under standby clock stop the 100 ms of R48 start again. -/
def State.touch (s : State) : State :=
  { s with tb := { s.tb with lastUse := if s.gov.st == .standby then some s.tb.now else s.tb.lastUse } }

/-- Whether a command that needs GCLK can come while it is stopped: from the host's port or the management network. A
firmware core makes no access then. -/
def fromOutside : Instr → Bool
  | .claim a _ | .complete a _ _ | .targetConfigWrite a _ _ | .post a _ _ | .take a _ | .free a _ _ | .ackClear a _ _
  | .tostClear a _ _ | .mailboxMaskWrite a _ _ => a == 4
  | _ => true

/-- A command that comes while GCLK is stopped wakes the Governor and waits for lock (02 R48, 17 R417). None waits through
OFF or a reset. -/
def State.awaitClock (s : State) (c : Instr) : State :=
  if !s.tb.gclk && s.gov.st != .off && !s.gov.govRstLow && fromOutside c then
    { s with tb := { s.tb with waiting := s.tb.waiting ++ [c], waking := s.tb.waking || !s.gov.booting } }
  else s

/-- A register access, the command `c`, needs GCLK; while it is stopped the access waits for lock (17 R417). -/
def State.onBus (s : State) (c : Instr) (f : State → State) : Host.Outcome State Fault Refusal :=
  if s.tb.gclk && s.gov.st != .off then .next (f s.touch) else .next (s.awaitClock c)

/-- Target of an agent: cores 0 to 3, host software at HOST_IRQ_A; 7 for none. -/
def agentTarget (a : Nat) : Nat := if a ≤ 4 then a else 7

/-- Agent of a target: cores 0 to 3, host software for targets 4 and 5 (13 R321). -/
def targetAgent (t : Nat) : Nat := if t ≤ 3 then t else 4

/-- Sending and receiving agent of a channel, 0xFF for an unused channel (0x7500+c:01, :02; 13 R330). -/
def State.sender (s : State) (c : Nat) : Nat := (stored s.od (0x7500 + c) 1).getD 0xFF
def State.receiver (s : State) (c : Nat) : Nat := (stored s.od (0x7500 + c) 2).getD 0xFF

/-- Whether the image uses a channel. -/
def State.channelUsed (s : State) (c : Nat) : Bool := c < 64 && s.sender c != 0xFF && s.receiver c != 0xFF

/-- The Default target column of 13 R317. -/
def State.srcDefaultTarget (s : State) (n : Nat) : Nat :=
  if n < 0x40 then agentTarget (s.receiver n)
  else if n < 0x80 then 2
  else if n < 0xC0 then agentTarget (s.sender (n - 0x80))
  else if n < 0xC4 then n - 0xC0
  else if n < 0xC9 then 0
  else if n ≤ 0xCB then 3
  else 7

/-- Configuration of a source: what has been written, else the default target with priority 0 and no fallback
(13 R318). -/
def State.srcCfg (s : State) (n : Nat) : SrcCfg :=
  tget s.icu.cfg n { target := s.srcDefaultTarget n, prio := 0, fallback := 7 }

/-- Bit `n` of a bank of 64-bit words, unlisted words reading `d`. -/
def bankBit (b : Tbl W64) (n : Nat) (d : W64) : Bool := (tget b (n / 64) d).getLsbD (n % 64)

/-- Bank with bit `n` set or cleared. -/
def bankSet (b : Tbl W64) (n : Nat) (d : W64) (v : Bool) : Tbl W64 :=
  tmod b (n / 64) d (fun w => if v then w ||| (1#64 <<< (n % 64)) else w &&& ~~~(1#64 <<< (n % 64)))

def State.srcPending (s : State) (n : Nat) : Bool := bankBit s.icu.pend n 0
def State.srcMasked (s : State) (n : Nat) : Bool := bankBit s.icu.mask n (BitVec.allOnes 64)
def State.srcActive (s : State) (n : Nat) : Option Nat := tget s.icu.active n none

def State.target (s : State) (t : Nat) : Target := tget s.icu.targets t {}

def State.channel (s : State) (c : Nat) : Channel := tget s.channels c {}
def State.setChannel (s : State) (c : Nat) (v : Channel) : State := { s with channels := tset s.channels c v }
def State.modChannel (s : State) (c : Nat) (f : Channel → Channel) : State := s.setChannel c (f (s.channel c))
def Channel.slot (c : Channel) (b : Nat) : Slot := tget c.slots b {}
def Channel.setSlot (c : Channel) (b : Nat) (v : Slot) : Channel := { c with slots := tset c.slots b v }

def State.pin (s : State) (n : Nat) : Pin := tget s.pins n {}
def State.setPin (s : State) (n : Nat) (v : Pin) : State := { s with pins := tset s.pins n v }
def State.modPin (s : State) (n : Nat) (f : Pin → Pin) : State := s.setPin n (f (s.pin n))

/-- The present scopes of a pin's held cause without one of them. -/
def State.dropCause (s : State) (n kind idx : Nat) : State :=
  s.modPin n (fun p => { p with held := p.held.filter (· != (kind, idx)) })

/-- Whether a posted notice of a channel raises the notice interrupt: POSTED with its MBX_MASK bit at 0. -/
def Channel.notice (c : Channel) : Bool :=
  (List.range 32).any (fun b => (c.slot b).st == .posted && !c.mask.getLsbD b)

/-- The Asserted-while column of 13 R317. -/
def State.asserted (s : State) (n : Nat) : Bool :=
  if n < 0x40 then (s.channel n).notice
  else if n < 0x80 then (s.pin (n - 0x40)).latched && 1 ≤ (s.pin (n - 0x40)).eff
  else if n < 0xC0 then (s.channel (n - 0x80)).ack != 0 || (s.channel (n - 0x80)).tost != 0
  else false

/-- Whether a source is named by a valid watch entry (13 R327). -/
def State.watched (s : State) (n : Nat) : Bool :=
  (List.range 32).any (fun i =>
    let w := tget s.icu.watch i 0
    srcListed n && w.getLsbD 63 && w.toNat % 1024 == n)

/-- Whether a target is asleep: SLEEP set, or a core that is restarting (13 R325). -/
def State.asleep (s : State) (t : Nat) : Bool :=
  (s.target t).sleep || (t < 4 && ((tget s.cores t {}).st == .restarting || (tget s.cores t {}).st == .held))

/-- The pending bit of a source set; a source whose target is asleep starts to wait (13 R319, R326). -/
def State.setPending (s : State) (n : Nat) : State :=
  if s.srcPending n then s
  else
    { s with icu := { s.icu with
      pend := bankSet s.icu.pend n 0 true
      fallen := s.icu.fallen.filter (· != n)
      waitSince := if s.asleep (s.srcCfg n).target then tset s.icu.waitSince n (some s.tb.now) else s.icu.waitSince } }

/-- A signal of a source (13 R317, R319). While GCLK is stopped a source of the watch subset is held by the sub-island
(R327) and any other signal waits for no one: nothing else runs. -/
def State.signal (s : State) (n : Nat) : State :=
  if !srcListed n then s
  else if !s.tb.gclk then
    if s.watched n && !s.icu.heldSignals.contains n then
      { s with icu := { s.icu with heldSignals := s.icu.heldSignals ++ [n] } }
    else s
  else (s.bump64 0x7480 1 1).setPending n

/-- The target a pending source is offered to: its own, or its fallback target once it has moved (13 R320, R326). -/
def State.offerTarget (s : State) (n : Nat) : Nat :=
  let c := s.srcCfg n
  if s.icu.fallen.contains n && s.asleep c.target then c.fallback else c.target

/-- Whether a source may be offered to target `t` (13 R320). -/
def State.qualifies (s : State) (t n : Nat) : Bool :=
  srcListed n && s.srcPending n && (s.srcActive n).isNone && !s.srcMasked n && s.offerTarget n == t
    && (s.target t).thresh ≤ (s.srcCfg n).prio

/-- The better of two offers: the higher priority, then the lower number (13 R320). -/
def State.better (s : State) (best : Option Nat) (n : Nat) : Option Nat :=
  match best with
  | none => some n
  | some b => if (s.srcCfg b).prio < (s.srcCfg n).prio then some n else some b

/-- The offer of a target in this cycle (13 R320, R326). -/
def State.offer (s : State) (t : Nat) : Option Nat :=
  if s.asleep t then none
  else ((List.range 1024).filter (fun n => s.qualifies t n)).foldl s.better none

end Sys2Proof.Machine
end

