-- ==== Sys2Proof/Machine/Units.lean ====
section
/-! DEFINITION. Accessors of the units' instances, and what the state machine does to each unit when it stops, isolates
or clears it (06 R149, 07 R172, 01 R20, 10 R262). -/

namespace Sys2Proof.Machine

def State.domain (s : State) (d : Nat) : Domain := tget s.domains d {}
def State.setDomain (s : State) (d : Nat) (v : Domain) : State := { s with domains := tset s.domains d v }
def State.modDomain (s : State) (d : Nat) (f : Domain → Domain) : State := s.setDomain d (f (s.domain d))

def State.droop (s : State) (d : Nat) : Droop := tget s.droops d {}
def State.setDroop (s : State) (d : Nat) (v : Droop) : State := { s with droops := tset s.droops d v }
def State.modDroop (s : State) (d : Nat) (f : Droop → Droop) : State := s.setDroop d (f (s.droop d))

def State.tap (s : State) (t : Nat) : DroopTap := tget s.taps t {}
def State.setTap (s : State) (t : Nat) (v : DroopTap) : State := { s with taps := tset s.taps t v }
def State.modTap (s : State) (t : Nat) (f : DroopTap → DroopTap) : State := s.setTap t (f (s.tap t))

def State.senseTap (s : State) (t : Nat) : SenseTap := tget s.senseTaps t {}
def State.setSenseTap (s : State) (t : Nat) (v : SenseTap) : State := { s with senseTaps := tset s.senseTaps t v }

def State.array (s : State) (a : Nat) : ArrayAcc := tget s.arrays a {}
def State.setArray (s : State) (a : Nat) (v : ArrayAcc) : State := { s with arrays := tset s.arrays a v }
def State.modArray (s : State) (a : Nat) (f : ArrayAcc → ArrayAcc) : State := s.setArray a (f (s.array a))

def State.ring (s : State) (g : Nat) : RingAcc := tget s.rings g {}
def State.setRing (s : State) (g : Nat) (v : RingAcc) : State := { s with rings := tset s.rings g v }

def State.shaper (s : State) (r : Nat) : Shaper := tget s.shapers r {}
def State.setShaper (s : State) (r : Nat) (v : Shaper) : State := { s with shapers := tset s.shapers r v }
def State.modShaper (s : State) (r : Nat) (f : Shaper → Shaper) : State := s.setShaper r (f (s.shaper r))

def State.law (s : State) (i : Nat) : Law := tget s.laws i {}
def State.setLaw (s : State) (i : Nat) (v : Law) : State := { s with laws := tset s.laws i v }
def State.modLaw (s : State) (i : Nat) (f : Law → Law) : State := s.setLaw i (f (s.law i))

def State.sensor (s : State) (n : Nat) : Sensor := tget s.sensors n {}
def State.setSensor (s : State) (n : Nat) (v : Sensor) : State := { s with sensors := tset s.sensors n v }
def State.modSensor (s : State) (n : Nat) (f : Sensor → Sensor) : State := s.setSensor n (f (s.sensor n))

def State.region (s : State) (g : Nat) : Region := tget s.regions g {}
def State.setRegion (s : State) (g : Nat) (v : Region) : State := { s with regions := tset s.regions g v }

/-! ### What the descriptor says -/

/-- Droop rail of a domain, 0xFF for none (0x2410+d:01). -/
def State.droopRail (s : State) (d : Nat) : Nat := s.obj (0x2410 + d) 1

/-- Whether the image uses a domain: it names a droop rail (05 R122). -/
def State.domainUsed (s : State) (d : Nat) : Bool := d < 32 && s.droopRail d < s.railCount && s.railUsed (s.droopRail d)

def State.domainsUsed (s : State) : List Nat := (List.range 32).filter s.domainUsed

/-- Domain of an array, if the descriptor uses the array. -/
def State.arrayDomain (s : State) (a : Nat) : Option Nat := assoc s.desc.arrayDomain a

/-- Arrays the descriptor uses, ascending. -/
def State.arraysUsed (s : State) : List Nat := (List.range 256).filter (fun a => (s.arrayDomain a).isSome)

/-- Metering rail of an array: the droop rail of its domain (06 R143). -/
def State.arrayRail (s : State) (a : Nat) : Nat :=
  match s.arrayDomain a with
  | some d => s.droopRail d
  | none => 0xFF

def State.railArrays (s : State) (r : Nat) : List Nat := s.arraysUsed.filter (fun a => s.arrayRail a == r)

/-- Attributes of a domain (0x3410+d:01). -/
def State.initialOn (s : State) (d : Nat) : Bool := bit (s.obj (0x3410 + d) 1) 0
def State.alwaysOn (s : State) (d : Nat) : Bool := bit (s.obj (0x3410 + d) 1) 1
def State.autoWakes (s : State) (d : Nat) : Bool := bit (s.obj (0x3410 + d) 1) 2

/-- Tap group of a tap: 0xFE a sense tap, 0xFF none (0x2500+t:01). -/
def State.tapGroup (s : State) (t : Nat) : Nat := s.obj (0x2500 + t) 1

/-- Domain of a tap group, 0xFF for an unused one. An unset object of the image reads as unused. -/
def State.groupDomain (s : State) (g : Nat) : Nat := (stored s.od (0x2440 + g) 1).getD 0xFF

/-- Domain of a tap, 0xFF for one in no group. -/
def State.tapDomain (s : State) (t : Nat) : Nat := if s.tapGroup t < 64 then s.groupDomain (s.tapGroup t) else 0xFF

def State.groupTaps (s : State) (g : Nat) : List Nat := (List.range s.tapCount).filter (fun t => s.tapGroup t == g)

def State.domainGroups (s : State) (d : Nat) : List Nat := (List.range 64).filter (fun g => s.groupDomain g == d)

/-- Descriptor taps of a domain, those of absent instances left out. -/
def State.domainTaps (s : State) (d : Nat) : List Nat :=
  (List.range s.tapCount).filter (fun t => s.tapGroup t < 64 && s.groupDomain (s.tapGroup t) == d)

/-- Role of a rail in the Credit Unit: 0 unmetered, 1 metering, 2 coupled (0x2810+r:01). -/
def State.railRole (s : State) (r : Nat) : Nat := s.obj (0x2810 + r) 1

/-! ### Powered and power-good -/

/-- Whether a rail is power-good. -/
def Rail.good (v : Rail) : Bool := v.seq == .good

/-- Whether a domain is power-good: WAKING has ended and its stages are closed (10 R253). -/
def Domain.good (v : Domain) : Bool := v.st == .settling || v.st == .on || v.st == .draining

/-- Whether any rail is powered: ramping, power-good or falling. -/
def State.anyRailPowered (s : State) : Bool :=
  s.railsUsed.any (fun r => (s.rail r).seq == .good || (s.rail r).seq == .ramping || (s.rail r).seq == .discharging)

/-- States in which the credit and forecast units work on words (06, 07 R170). -/
def GovState.words : GovState → Bool
  | .ready | .run | .limit | .safe | .service => true
  | _ => false

/-- States in which ISSUEs are metered (06 Refill and answers by state). -/
def GovState.metering : GovState → Bool
  | .run | .limit | .safe | .service => true
  | _ => false

/-! ### Lanes -/

/-- Enabled, available and running lanes (03 Lane states). -/
def LaneSt.enabled : LaneSt → Bool
  | .warm | .active | .blind => true
  | _ => false

def LaneSt.available : LaneSt → Bool
  | .cold | .warm | .active | .blind => true
  | _ => false

def LaneSt.running : LaneSt → Bool
  | .active | .blind => true
  | _ => false

/-- A lane powered down: a retry ends with no outcome, COLD, no duty, no trim; markings of code 5, 6 and 7 and
UNASSIGNED stay (03 R51, R67, R89). -/
def Lane.down (l : Lane) : Lane :=
  match l.st with
  | .cold | .warm | .active | .blind | .retry =>
    { l with st := .cold, duty := 0, nextDuty := 0, theta := 0, tacc := 0, trim := 0, nearRun := 0, badRun := 0,
             retrying := false, retryLeft := 0, senseLost := false, ranAll := false, startDue := false,
             wakeEnd := none, parkEnd := none, forecastWake := false, retry := .none, observing := none,
             peakCut := false }
  | _ => l

/-- A retry ends with no outcome when its rail begins to power down (03 R67). -/
def Lane.endRetry (l : Lane) : Lane := if l.st == .retry then l.down else { l with observing := none }

/-- Every lane of the block powered down. -/
def State.lanesDown (s : State) : State := { s with lanes := s.lanes.map (fun p => (p.1, p.2.down)) }

/-! ### Droop and domains -/

/-- C-frame count and GCLK cycle of an instant (12 R307, 07 R174). -/
def State.frameOf (s : State) (t : Int) : Nat × Nat :=
  if (s.tb.cStart : Int) ≤ t then
    let diff := (t - s.tb.cStart).toNat
    (s.tb.cframe + diff / 1008, diff % 1008)
  else
    let diff := ((s.tb.cStart : Int) - t).toNat
    let back := ceilDiv diff 1008
    (s.tb.cframe - back, back * 1008 - diff)

/-- The close of a window is fixed: its event or its thermal request ends at cycle `t`, and the post time is the one in
force when it opened (05 R132). A close that stands is not moved. -/
def Droop.fixClose (v : Droop) (t : Nat) : Droop :=
  match v.window with
  | some w =>
    if v.thermal || w.closed.isSome then v else { v with window := some { w with closed := some (t + w.post) } }
  | none => v

/-- Cycles frozen and stretched up to instant `t` brought into the H-frame totals. -/
def Droop.account (v : Droop) (t : Nat) : Droop :=
  { v with
    frozenH := if v.frozen.isSome then v.frozenH + (t - v.frozenFrom) else v.frozenH
    stretchedH := if v.stretched.isSome then v.stretchedH + (t - v.stretchFrom) else v.stretchedH
    frozenFrom := max t v.frozenFrom
    stretchFrom := max t v.stretchFrom }

/-- Safe-point request to a domain's cell, steps (11 R275, 0x6000:0C). -/
def State.safeStretch (s : State) (d : Nat) : Nat := if (s.droop d).safeUses = 0 then 0 else s.obj 0x6000 0x0C

/-- What the core drives on oc_set: the larger of the droop stretch and the safe-point request (17 R406, 01 R12). -/
def State.ocSet (s : State) (d : Nat) : Nat := max (s.droop d).stretch (s.safeStretch d)

/-- The level that an OXS-C cell holds: at least what the core has raised it to, and 0 effect while isolated
(17 R406). -/
def State.ocLevel (s : State) (d : Nat) : Nat := max (s.droop d).oxsc (s.ocSet d)

/-- Whether a strobe of `want` is ignored by the cell in this cycle: it would lower the level while od_sev is high, or to
0 while od_deep is (17 R406). -/
def State.strobeHeld (s : State) (d want : Nat) : Bool :=
  want < s.ocLevel d && ((s.droop d).lineSev || (want = 0 && (s.droop d).lineDeep))

/-- The core's strobe after a request has been released: the cell falls to the largest request that remains, unless a line
holds it; a level that a line has latched and the core has not yet seen stays (01 R12, 17 R406). -/
def State.lowerStretch (s : State) (d : Nat) : State :=
  let want := max (s.ocSet d) (s.droop d).fast
  if s.strobeHeld d want then s else s.modDroop d (fun v => { v with oxsc := want })

/-- A domain event that is in progress ends now: counted once under its deepest level, and the close of a window that it
opened or extended is fixed (05 R132). -/
def State.finishEvent (s : State) (d : Nat) : State :=
  let v := s.droop d
  if v.active then
    let s := s.bump (0x2410 + d) (if v.deepest = 3 then 6 else if v.deepest = 2 then 5 else 4)
    let w : Droop := { v with
      active := false
      deepest := 0
      evMild := if v.deepest ≤ 1 then v.evMild + 1 else v.evMild
      evDeep := if v.deepest = 2 then v.evDeep + 1 else v.evDeep
      evSevere := if v.deepest = 3 then v.evSevere + 1 else v.evSevere }
    s.setDroop d (if 2 ≤ v.deepest then w.fixClose s.tb.now else w)
  else s

/-- Loss of power-good of a domain: level none, freeze and droop stretch ended, the domain event and its window's event
end now, its taps IDLE; a MASKED tap stays so (05 R123, R131, R136). -/
def State.droopLoss (s : State) (d : Nat) : State :=
  let s := (s.setDroop d ((s.droop d).account s.tb.now)).finishEvent d
  let s := s.setDroop d { (s.droop d) with
    level := 0
    stretch := 0
    stood := false
    frozen := none
    stretched := none
    long := false
    oxsc := 0
    lineDeep := false
    lineSev := false
    fast := 0
    indicAt := none }
  let s := s.dropCause 20 2 d
  each (s.domainTaps d) (fun s t => s.modTap t (fun p =>
    if p.st == .valid || p.st == .suspect || p.st == .missing then
      { p with st := .idle, suspect := 0, agreed := none, parityBad := false, reach := 0, run := 0 }
    else { p with reach := 0, run := 0 })) s

/-- A domain isolated with every stage fallen: FAULTED stays, every other domain in use becomes OFF (10 R259). -/
def State.isolateDomain (s : State) (d : Nat) : State :=
  let v := s.domain d
  let s := if v.good then s.droopLoss d else s
  s.setDomain d { (s.domain d) with
    st := if v.st == .faulted then .faulted else if v.st == .unused then .unused else .off
    stages := 0, iso := true, wanted := false, rushWait := none, retry := false, retryAt := none,
    stageAt := none, pgEnd := none, pgAt := none, isoAt := none, censusDone := false, censusEnd := none,
    drainEnd := none, after := .off, written := v.written && v.st == .off, meterFrom := false }

/-! ### Credit Unit -/

/-- Every account balance, filler allotment and reservation zero (06 Refill and answers by state). -/
def State.creditsZero (s : State) : State :=
  { s with
    arrays := s.arrays.map (fun p => (p.1, { p.2 with bal := 0, fil := 0, resv := none }))
    rings := s.rings.map (fun p => (p.1, { p.2 with bal := 0 }))
    shapers := s.shapers.map (fun p => (p.1, { p.2 with filler := 0 })) }

/-- An array balance limited to one C-frame of refill (06 R148, READY row). -/
def ArrayAcc.clip (v : ArrayAcc) : ArrayAcc := { v with bal := min v.bal (v.refill : Int) }

/-- Entry to READY: reservations cleared, filler allotments zero, balances limited (06 R149). -/
def State.creditsReady (s : State) : State :=
  { s with
    arrays := s.arrays.map (fun p => (p.1, { p.2.clip with fil := 0, resv := none }))
    shapers := s.shapers.map (fun p => (p.1, { p.2 with filler := 0 })) }

/-! ### The Tally -/

/-- A reason why a C-frame is not learned, in the order of R186. -/
def addReason (l : List Nat) (bit : Nat) : List Nat := if l.contains bit then l else l ++ [bit]

/-- The fit of a rail whose active set has been cleared is not made: the C-frame is not learned (07 R172, R186). -/
def State.dropFit (s : State) : Fit → State
  | .entry _ _ => s
  | .close r _ _ _ _ =>
    let s := s.bump (0x2C10 + r) 4
    { s with tally := { s.tally with learn := tmod s.tally.learn r {} (fun l =>
      { l with lastWhy := addReason l.lastWhy 7, reasons := 2 ^ 7 }) } }

/-- Poison of the Tally's group slots and horizon bins. -/
def ofTally (p : PoisonAt × Nat) : Bool := p.1 == .slot || p.1 == .horizon

/-- Announce queue, group slots, horizons and active sets cleared (07 R172). -/
def State.tallyClear (s : State) : State :=
  let s := each s.tally.fits State.dropFit s
  { s with
    tally := { s.tally with
      queue := []
      taken := []
      slots := []
      deferred := []
      inFlight := []
      loose := []
      railHor := []
      domHor := []
      fits := []
      learn := s.tally.learn.map (fun p => (p.1, { p.2 with snap := [], ended := [] })) }
    poison := s.poison.filter (!ofTally ·) }

/-- A reason for which the present C-frame is not learned on a rail arises; bit n of 0x2C10+r:0A (07 R186). -/
def State.unlearn (s : State) (r bit : Nat) : State :=
  { s with tally := { s.tally with learn := tmod s.tally.learn r {} (fun l =>
    { l with why := addReason l.why bit }) } }

/-- The same on every rail in use. -/
def State.unlearnAll (s : State) (bit : Nat) : State := each s.railsUsed (fun s r => s.unlearn r bit) s

/-- States in which the Tally learns (07 R186). -/
def GovState.learns : GovState → Bool
  | .run | .limit | .safe => true
  | _ => false

/-- A word of an SRAM written anew reads without poison. -/
def State.cleanse (s : State) (w : PoisonAt) (i : Nat) : State := { s with poison := s.poison.filter (· != (w, i)) }

/-! ### Loop Engine -/

/-- A running injection ends with a status: x is 0 from the next tick (08 R215). -/
def State.endInjection (s : State) (status : Nat) : State :=
  if s.injector.status = 1 || s.injector.status = 2 then
    ({ s with injector := { s.injector with status := status, stopping := true } } : State).signal 0x0C5
  else s

/-- A trigger event of the capture (08 R216): the first after arming, where its source and argument match. -/
def State.captureEvent (s : State) (source arg : Nat) : State :=
  if (s.capture.status = 1 || s.capture.status = 2) && !s.capture.seen && s.obj 0x4002 7 = source
      && (source = 1 || source = 5 || s.obj 0x4002 8 = arg) then
    { s with capture := { s.capture with seen := true, status := 3, trigC := s.tb.cframe } }
  else s

end Sys2Proof.Machine
end

