-- ==== Sys2Proof/Machine/Assay.lean ====
section
/-! DEFINITION. Shared operations of the Assayer: its entries, the counts of its fences, the safe point and abandonment
(11 R269 to R282). The commands are in Assayer.lean. -/

namespace Sys2Proof.Machine

def State.entry? (s : State) (e : Nat) : Option Entry := (s.assayer.entries.find? (fun p => p.1 == e)).map (·.2)

def State.setEntry (s : State) (e : Nat) (v : Entry) : State :=
  { s with assayer := { s.assayer with entries := tset s.assayer.entries e v } }

/-- The entry leaves the table, and the queue of mismatches. -/
def State.dropEntry (s : State) (e : Nat) : State :=
  { s with assayer := { s.assayer with
    entries := s.assayer.entries.filter (fun p => p.1 != e)
    thirds := s.assayer.thirds.filter (· != e) } }

/-- Whether an array is quarantined (0x2A00+a:06). -/
def State.quarantined (s : State) (a : Nat) : Bool := (s.array a).quarantined

/-- 0x6000:0E: some array is quarantined. -/
def State.degraded (s : State) : Bool := s.arrays.any (fun p => p.2.quarantined)

/-- An outcome of a covered group counted for its fence, or for the fence to come (R281). -/
def State.fenceCount (s : State) (window failed unassayed : Nat) : State :=
  if window = s.assayer.fenceWindow then
    { s with assayer := { s.assayer with
      openFailed := s.assayer.openFailed + failed
      openUnassayed := s.assayer.openUnassayed + unassayed } }
  else
    { s with assayer := { s.assayer with
      fences := s.assayer.fences.map (fun f =>
        if f.window = window then { f with failed := f.failed + failed, unassayed := f.unassayed + unassayed }
        else f) } }

/-- One use of the safe point given back: rail offset and domain stretch of the third array (R275). -/
def State.releaseSafe (s : State) (e : Entry) : State :=
  match e.third with
  | none => s
  | some a =>
    if e.st == .settling || e.st == .third then
      let d := (s.arrayDomain a).getD 32
      let r := s.arrayRail a
      let s := s.setRail r { (s.rail r) with safeUses := (s.rail r).safeUses - 1 }
      let s := s.setDroop d { (s.droop d) with safeUses := (s.droop d).safeUses - 1 }
      s.lowerStretch d
    else s

/-- The RELEASE word of a group (R270). -/
def releaseWord (e : Entry) : W64 :=
  BitVec.ofNat 64 (e.origin * 2 ^ 54 + e.origin * 2 ^ 46 + e.ring * 2 ^ 41 + e.tag * 2 ^ 28)

/-- A word appended to the request queue; only in NW-OXG4-F (R413). -/
def State.request (s : State) (w : W64) : State :=
  if s.cfg == .full then { s with assayer := { s.assayer with requests := s.assayer.requests ++ [w] } } else s

/-- An entry ends UNASSAYED for the reason whose counter is 0x6001:`sub`; a RELEASE is sent unless discarded (R273,
R276, R280). The event on pin 52 is the caller's. -/
def State.unassay (s : State) (k : Nat) (e : Entry) (sub : Nat) (release : Bool) : State :=
  let s := (s.dropEntry k).releaseSafe e
  let s := (s.bump 0x6001 sub).bump (0x6010 + e.origin) 0x0A
  let s := s.fenceCount e.window 0 1
  onlyIf release (fun s => s.request (releaseWord e)) s

/-- Every entry and queued third execution abandoned as UNASSAYED, RELEASE words discarded, the safe point released, the
request queue emptied (R280). Groups still GRANTED are forgotten with their slots (07 R172); the completion log stays.
Answers the number abandoned. -/
def State.abandonAssays (s : State) : State × Nat :=
  let n := s.assayer.entries.length
  let s := each s.assayer.entries (fun s p => s.unassay p.1 p.2 9 false) s
  ({ s with assayer := { s.assayer with requests := [], groups := s.assayer.groups.filter (·.doneAt.isSome) } }, n)

/-- A known-answer run stopped: what is pending is resolved as not run, the status reads 3 (R287). -/
def State.stopRun (s : State) : State :=
  let run := s.assayer.run
  if run.active then
    let s := s.bumpBy 0x6003 7 (run.todo.length + run.out.length)
    let s : State := { s with assayer := { s.assayer with run := { run with
      status := if run.sweep then run.status else 3
      active := false, todo := [], out := [] } } }
    if run.sweep then s else s.signal 0x0C6
  else s

/-- A running sweep aborted: trim 0, no vmin stored (R289); the run of its step stops. -/
def State.abortSweep (s : State) : State :=
  if s.assayer.sweep.status = 1 then
    let s := if s.assayer.run.sweep then s.stopRun else s
    let r := s.assayer.sweep.rail
    let s := s.setRail r { (s.rail r) with avs := 0 }
    ({ s with assayer := { s.assayer with sweep := { s.assayer.sweep with
      status := 3, trim := 0, settleEnd := none, stop := s.tb.now } } } : State).signal 0x0C7
  else s

/-- A fault aborts the service task: injection, sweep and run (R261). -/
def State.abortService (s : State) : State := ((s.endInjection 5).abortSweep).stopRun

end Sys2Proof.Machine
end

