-- ==== Sys2Proof/Machine/Transitions.lean ====
section
/-! DEFINITION. The Registrar's triggers and the Governor's state transitions (12 R294 to R300, 10 R260 to R262). A
trigger can cause a transition and a transition can bring Registrar events, so both run from one list of work. -/

namespace Sys2Proof.Machine

/-- State codes of 0x3400:01 (10 States). -/
def GovState.code : GovState → Nat
  | .off => 0 | .boot => 1 | .standby => 2 | .sequencing => 3 | .ready => 4 | .run => 5 | .limit => 6 | .safe => 7
  | .trip => 8 | .cooldown => 9 | .service => 10

/-- Rails that a trigger's scope names (12 R297): kind 0 all rails in use, 1 rail, 2 domain, 3 region. -/
def State.scopeRails (s : State) (kind idx : Nat) : List Nat :=
  match kind with
  | 1 => s.railsUsed.filter (· == idx)
  | 2 => s.railsUsed.filter (· == s.droopRail idx)
  | 3 => (s.desc.rails.filter (fun d => d.regions.contains idx && s.railUsed d.rail)).map (·.rail)
  | _ => s.railsUsed

/-- Whether some pin stands latched at SAFE or above. -/
def State.safeLatched (s : State) : Bool := (List.range 64).any (fun n => (s.pin n).latched && 3 ≤ (s.pin n).eff)

/-- Pins that nothing triggers in NW-OXG4-C (12 R293). -/
def corePinAbsent (n : Nat) : Bool := n == 30 || n == 31 || (46 ≤ n && n ≤ 53)

/-- trip_out (17 R398). -/
def State.tripOut (s : State) : Bool :=
  s.gov.st == .boot || s.gov.govRstLow || s.gov.st == .trip || s.gov.st == .cooldown || s.gov.st == .off

/-- The trip gate is in force while the sub-island's trip latch is set (17 R398). -/
def State.tripGate (s : State) : Bool := s.gov.tripLatch

/-- Whether commands of the units to lanes, gates, OXS-C cells and credit accounts are ignored (01 R20, 17 R398). -/
def State.forcedOff (s : State) : Bool := s.gov.tripLatch || s.gov.st == .trip || s.gov.st == .cooldown

/-- A domain event that falls to SAFE or TRIP entry: the AVS trim of every rail becomes 0 (04 R93). -/
def State.avsZero (s : State) : State :=
  each s.railsUsed (fun s r => s.modRail r (fun v => { v with avs := 0, avsHeld := true })) s

/-- A rail with every lane down: ramp, sheds, fires and pre-position end, the setpoint is 0 (04 R117). -/
def Rail.down (v : Rail) : Rail :=
  { v with
    seq := .off, goodOnce := false, rampUp := false, setpoint := 0, plan := 0, dwell := 0, dwellMax := 0, shed := none
    shedDue := false, stepDue := false, reLane := false, pairShed := false, forecastBar := false, fire := .armed
    inFire := false, fireSeen := false, trigAt := none, fireWas := none, lawDone := false, overruns := 0
    clamp := false, uvRun := 0, pgRun := 0, drail := 0, prePos := 0, preEnd := 0
    cutFrom := none, cutOn := false, cutCap := 0, backOff := false }

/-- Lanes of a rail that are available (03 Lane states). -/
def State.availableLanes (s : State) (r : Nat) : List Nat := (s.railLanes r).filter (fun n => (s.lane n).st.available)

/-- Lanes of a rail that are running, ascending. -/
def State.runningLanes (s : State) (r : Nat) : List Nat := (s.railLanes r).filter (fun n => (s.lane n).st.running)

/-- Lane floor of a rail (0x2200+r:06). -/
def State.laneFloor (s : State) (r : Nat) : Nat := s.obj (0x2200 + r) 6

/-- Whether the available lanes of a rail reach its lane floor (03 R65, R76). -/
def State.floorMet (s : State) (r : Nat) : Bool := s.laneFloor r ≤ (s.availableLanes r).length

/-- A rail powered off; its lanes are down already. -/
def State.railOff (s : State) (r : Nat) : State :=
  let s := s.setRail r (s.rail r).down
  if s.floorMet r then s.dropCause 11 1 r else s

/-- A shed in progress aborted (04 R102). -/
def State.abortShed (s : State) (r : Nat) : State :=
  let v := s.rail r
  if v.shed.isSome then (s.setRail r { v with shed := none, shedDue := false, dwell := 0, dwellMax := 0 }).bump (0x2200 + r) 0x24
  else s.setRail r { v with shedDue := false, dwell := 0, dwellMax := 0 }

/-- Every shed aborted: the state entered is one that bars sheds (04 R100, R102). -/
def State.abortSheds (s : State) : State := each s.railsUsed (fun s r => s.abortShed r) s

/-- The lanes of one rail powered down. -/
def State.railLanesDown (s : State) (r : Nat) : State :=
  each (s.railLanes r) (fun s n => s.setLane n (s.lane n).down) s

/-- What a transition or a trigger asks for next. -/
inductive Work where
  | trigger (pin kind idx cause pa : Nat)
  | events (pin count : Nat)
  | enter (new : GovState) (why : Nat)
  deriving DecidableEq, Repr

/-- A trigger as an item of work. -/
def HeldTrigger.work (t : HeldTrigger) : Work := .trigger t.pin t.kind t.idx t.cause t.pa

/-- States from which a latched SAFE-level fault leads to SAFE (10 R261). -/
def GovState.toSafe : GovState → Bool
  | .ready | .run | .limit => true
  | _ => false

/-- What the actions of an effective level ask for (12 R296): TRIP from every state of R261, SAFE where R261 allows it. -/
def State.levelWork (s : State) (n eff : Nat) : List Work :=
  if 4 ≤ eff then
    if s.gov.st == .off || s.gov.st == .trip then [] else [.enter .trip n]
  else if 3 ≤ eff then
    if s.gov.st.toSafe || (s.gov.st == .service && s.anyRailPowered) then [.enter .safe n] else []
  else []

/-- A latched SAFE-level fault in SERVICE with no rail powered aborts the service task (10 R261). -/
def State.serviceFault (s : State) (eff : Nat) : State :=
  if 3 ≤ eff && s.gov.st == .service && !s.anyRailPowered then s.abortService else s

/-- Muriri event of a latch or escalation at WARN or above (15 R375, R376): the queue holds 64, the oldest is dropped. -/
def State.queueEvent (s : State) (seq level pin : Nat) : State × List Work :=
  let full : Bool := 64 ≤ s.events.length
  let s1 : State := { s with events := (if full then s.events.drop 1 else s.events)
    ++ [{ seq := seq, level := level, pin := pin }] }
  if full then (s1.bump 0x1401 0x0B, [.events 59 1]) else (s1, [])

/-- Parameter B of a latch or escalation record (12 R307). -/
def pinPb (eff prog kind idx cause count : Nat) : Nat :=
  eff * 2 ^ 45 + prog * 2 ^ 42 + kind % 4 * 2 ^ 40 + idx % 256 * 2 ^ 32 + cause % 256 * 2 ^ 24 + min count (2 ^ 24 - 1)

/-- A pin latches or escalates: record, interrupt, Muriri event, scope, and what its level asks for (12 R294 to R298). -/
def State.arrive (s : State) (n kind idx cause pa : Nat) : State × List Work :=
  let p := s.pin n
  let mask := maskOf (s.scopeRails kind idx)
  let prog := s.obj (0x5010 + n) 2
  let eff := if p.latched then max p.eff (min (p.eff + 1) (s.obj (0x5010 + n) 3)) else prog
  let seq := s.recorder.nextSeq
  let vit : Bool := 3 ≤ eff || s.flag (0x5010 + n) 4
  let code := if p.latched then 0x0140 + n else 0x0100 + n
  let s := s.setPin n { p with
    latched := true, eff := eff, scope := if p.latched then p.scope ||| mask else mask }
  let s := if p.latched then (s.bump (0x5010 + n) 9).bump 0x5000 6 else (s.bump (0x5010 + n) 7).bump 0x5000 5
  let s := s.record code pa (pinPb eff prog kind idx cause (s.obj (0x5010 + n) 0x0B)) vit
  let s := if 1 ≤ eff then s.signal (0x040 + n) else s
  let q := if 1 ≤ eff then s.queueEvent seq eff n else (s, [])
  (q.1.serviceFault eff, s.levelWork n eff ++ q.2)

/-- Whether a trigger reaches the Registrar: the pin exists in this configuration, and while GCLK is stopped the
sub-island takes pins 0 and 35 and the watch subset (12 R293, R304). -/
def State.pinReached (s : State) (n : Nat) : Bool :=
  n < 64 && !(s.cfg == .core && corePinAbsent n) && (s.tb.gclk || n == 0 || n == 35 || s.watched (0x040 + n))

/-- `count` events of a D-class pin in one cycle: those that reach N trigger it, once in a cycle, and the rest stay in the
window (12 R295, R303). -/
def State.dEvents (s : State) (n count : Nat) : State × List HeldTrigger :=
  let p := s.pin n
  let open_ : Bool := p.count != 0 && s.tb.now ≤ p.winEnd
  let have_ := (if open_ then p.count else 0) + count
  let need := max 1 (s.obj (0x5010 + n) 5)
  let w := s.obj (0x5010 + n) 6
  let s := s.bumpBy (0x5010 + n) 0x0B count
  let s := s.setPin n { p with
    count := have_ % need
    winEnd := if open_ && have_ < need then p.winEnd else s.tb.now + cycles w }
  (s, if have_ < need then [] else
    [{ pin := n, kind := 4, idx := 0, cause := 0, pa := need % 2 ^ 32 * 2 ^ 32 + w / 1000 % 2 ^ 32 }])

/-- The record and marks of a transition, before its actions (10 R261, 12 R306). A trip in clock-stopped STANDBY restarts GCLK,
which stops in no other state (01 R26). -/
def State.mark (s : State) (new : GovState) (why : Nat) : State :=
  let old := s.gov.st
  let s := s.record 0x0200 (new.code * 2 ^ 56 + old.code * 2 ^ 48 + why % 256 * 2 ^ 40) 0 false
  let s := s.bump 0x3400 0x0C
  let wakes : Bool := new == .trip && !s.tb.gclk && !s.gov.booting && !s.gov.govRstLow
  let s : State := { s with tb := { s.tb with lastUse := none, waking := s.tb.waking || wakes } }
  let s : State := { s with gov := { s.gov with
    st := new
    prev := old
    entered := s.tb.now
    limitMark := false
    svcExit := if old == .service then false else s.gov.svcExit
    seqDown := if old == .service then false else s.gov.seqDown
    tripLatch := if old == .cooldown && new != .boot then false else s.gov.tripLatch
    meterWait := s.gov.meterWait && new == .limit
    prolonged := false
    critSince := none
    safeCapArm := if old == .safe then some false else s.gov.safeCapArm } }
  let s := if new.learns then s else s.unlearnAll 1
  let s := if old == .service then { s with test := { s.test with atb := 0, atbA := 0, atbB := 0 } } else s
  s.signal 0x0C9

/-- Entry to READY: host_rel, R149, R172 and R280. Answers the assays abandoned. -/
def State.enterReady (s : State) : State × Nat :=
  let s := s.creditsReady.tallyClear
  let s : State := { s with gov := { s.gov with hostRel := true, phase := .idle } }
  s.abandonAssays

/-- Entry to SAFE: cap from the next C-frame tick, R148, AVS trim 0, sheds end, service task aborted (10 R262). -/
def State.enterSafe (s : State) (from_ : GovState) : State :=
  let s := if from_ == .service then s.abortService else s
  let s := s.avsZero.abortSheds
  let s := each s.railsUsed (fun s r => s.modShaper r (fun v => { v with clip := v.clip || s.railRole r == 1 })) s
  { s with gov := { s.gov with
    safeCapArm := some true
    seqDown := false
    hostRel := if from_ == .sequencing then true else s.gov.hostRel
    phase := .idle } }

/-- Entry to TRIP: the trip latch, lanes, gates and accounts forced, the Tally and the Assayer cleared (01 R20, 09 R243,
07 R172, 11 R280). A trip that no thermal cause brought, not even in the same cycle, is recorded as non-thermal (09 R243). Answers the assays
abandoned. -/
def State.enterTrip (s : State) (why : Nat) : State × Nat :=
  let s : State := { s with gov := { s.gov with
    tripLatch := true
    tripCause := if why = 35 || s.gov.tripAsked then s.gov.tripCause else 4
    tripAsked := false
    hostRel := false
    seqDown := false
    phase := .idle
    safeCap := false
    safeCapArm := none } }
  let s := (s.abortService).avsZero
  let s := s.lanesDown
  let s := each s.railsUsed (fun s r => s.railOff r) s
  let s := each (List.range 32) (fun s d => s.isolateDomain d) s
  (s.creditsZero.tallyClear).abandonAssays

/-- Entry to RUN: the debit scale restarts, and from READY metering waits for the next C-frame tick (06 R149, R163). -/
def State.enterRun (s : State) (from_ : GovState) : State :=
  let s := each s.railsUsed (fun s r => s.modShaper r (fun v =>
    { v with sigma := 4096, sigmaRun := if from_ == .limit then v.sigmaRun else 0 })) s
  { s with gov := { s.gov with meterWait := s.gov.meterWait || from_ == .ready } }

/-- A transition that R261 has decided, with its actions. Leaving SERVICE ends an injection (08 R215). -/
def State.transit (s : State) (new : GovState) (why : Nat) : State × List Work :=
  let from_ := s.gov.st
  let s := s.mark new why
  let s := if from_ == .service then s.endInjection 5 else s
  match new with
  | .ready =>
    let q := s.enterReady
    (q.1, .events 52 q.2 :: if q.1.safeLatched then [.enter .safe 0xFF] else [])
  | .safe => (s.enterSafe from_, [])
  | .trip =>
    let q := s.enterTrip why
    (q.1, [.events 52 q.2])
  | .run => (s.enterRun from_, [])
  | .sequencing =>
    ({ s.abortSheds.creditsZero with gov := { s.gov with
      hostRel := if from_ == .standby || from_ == .cooldown then s.gov.hostRel else false } }, [])
  | .standby =>
    ({ s.creditsZero with gov := { s.gov with phase := .idle, seqDown := false } }, [])
  | .off | .boot | .cooldown => (s.creditsZero, [])
  | .service => (s.abortSheds, [])
  | .limit => (s, [])

/-- Whether a transition asked for is still one of R261's: no unit's request moves a Governor that is OFF, and a second
one for the state already entered has gone. -/
def State.wanted (s : State) (new : GovState) : Bool :=
  s.gov.st != new && s.gov.st != .off
    && (new != .safe || s.gov.st.toSafe || s.gov.st == .service || s.gov.st == .sequencing)

/-- One item of work. A trigger that comes while GCLK is stopped is kept for the Registrar; the trips act through the
sub-island at once (12 R304). -/
def State.doWork (s : State) : Work → State × List Work
  | .trigger n kind idx cause pa =>
    if !s.pinReached n then (s, [])
    else if !s.tb.gclk then
      ({ s with gov := { s.gov with heldTriggers := s.gov.heldTriggers ++ [{ pin := n, kind, idx, cause, pa }] } },
        if n = 0 || n = 35 then [.enter .trip n] else [])
    else if kind = 4 then s.arrive n 0 0 cause pa
    else (s.bump (0x5010 + n) 0x0B).arrive n kind idx cause pa
  | .events n count =>
    if s.pinReached n && count != 0 then ((s.dEvents n count).1, (s.dEvents n count).2.map HeldTrigger.work) else (s, [])
  | .enter new why => if s.wanted new then s.transit new why else (s, [])

/-- Work in order, what an item asks for before what was already waiting. -/
def State.work (fuel : Nat) (ws : List Work) (s : State) : State :=
  match fuel with
  | 0 => s
  | f + 1 =>
    match ws with
    | [] => s
    | w :: rest =>
      let q := s.doWork w
      q.1.work f (q.2 ++ rest)

/-- More items of work than one cause can bring: a TRIP entry abandons at most 4,096 assays. -/
def workFuel : Nat := 5000

/-! ### Triggers of one cycle (12 R303) -/

/-- Triggers of one pin in one cycle: one latch or one escalation, every trigger counted, every scope taken. A D-class
trigger has been counted with its events. -/
def State.latchPin (s : State) (ts : List HeldTrigger) : State × List Work :=
  match ts with
  | [] => (s, [])
  | t :: rest =>
    if s.pinReached t.pin then
      let mask := maskOf (rest.flatMap (fun u => s.scopeRails u.kind u.idx))
      let q := (s.bumpBy (0x5010 + t.pin) 0x0B (rest.filter (·.kind != 4)).length).doWork t.work
      (q.1.modPin t.pin (fun p => if p.latched then { p with scope := p.scope ||| mask } else p), q.2)
    else (s, [])

/-- Whether work is an entry to TRIP. -/
def Work.trips : Work → Bool
  | .enter .trip _ => true
  | _ => false

/-- Triggers of one cycle: each pin latches, in ascending order, and of what they ask for TRIP comes first (12 R303,
01 R28). -/
def State.latchAll (s : State) (ts : List HeldTrigger) : State :=
  let q := (List.range 64).foldl (fun (q : State × List Work) n =>
    let r := q.1.latchPin (ts.filter (·.pin == n))
    (r.1, q.2 ++ r.2)) (s, [])
  q.1.work workFuel (q.2.filter Work.trips ++ q.2.filter (fun w => !w.trips))

/-- Triggers: they latch at once, or with the others of the cycle whose command is running. -/
def State.raise (s : State) (ts : List HeldTrigger) : State :=
  match s.gov.gathered with
  | some l => { s with gov := { s.gov with gathered := some (l ++ ts) } }
  | none => s.latchAll ts

/-- A command that is everything its cycle brings: what it triggers latches together at its end (12 R303, 01 R28). -/
def State.oneCycle (f : State → State) (s : State) : State :=
  if s.gov.gathered.isSome then f s
  else
    let t := f { s with gov := { s.gov with gathered := some [] } }
    ({ t with gov := { t.gov with gathered := none } } : State).latchAll (t.gov.gathered.getD [])

/-- A trigger of a pin (12 R294). Scope kinds: 0 all rails, 1 rail, 2 domain, 3 region. -/
def State.trigger (s : State) (n kind idx cause pa : Nat) : State :=
  match s.gov.gathered with
  | some l => { s with gov := { s.gov with gathered := some (l ++ [{ pin := n, kind, idx, cause, pa }]) } }
  | none => s.work workFuel [.trigger n kind idx cause pa]

/-- Several triggers of one pin in one cycle (12 R303). -/
def State.triggerAll (s : State) (n kind cause : Nat) (ts : List (Nat × Nat)) : State :=
  s.raise (ts.map (fun t => { pin := n, kind := kind, idx := t.1, cause := cause, pa := t.2 }))

/-- Events of a D-class pin in one cycle (12 R295). -/
def State.dEventsNow (s : State) (n count : Nat) : State :=
  if s.pinReached n && count != 0 then (s.dEvents n count).1.raise (s.dEvents n count).2 else s

/-- One event of a D-class pin. -/
def State.dEvent (s : State) (n : Nat) : State := s.dEventsNow n 1

/-- A transition of R261. -/
def State.enter (s : State) (new : GovState) (why : Nat) : State := s.work workFuel [.enter new why]

/-- A held cause becomes present for a scope: its rising edge is a trigger (12 R294). -/
def State.raiseCause (s : State) (n kind idx cause pa : Nat) : State :=
  if (s.pin n).held.contains (kind, idx) then s
  else
    (if s.pinReached n then s.modPin n (fun p => { p with held := p.held ++ [(kind, idx)] }) else s).trigger n kind idx
      cause pa

/-- A held cause follows a condition. -/
def State.followCause (s : State) (n kind idx : Nat) (present : Bool) (cause pa : Nat) : State :=
  if present then s.raiseCause n kind idx cause pa else s.dropCause n kind idx

/-- A transient strobe: counted, no other action (12 R301). -/
def State.transient (s : State) (n : Nat) : State :=
  if s.pinReached n then (s.bump (0x5010 + n) 0x0A).bump 0x5000 8 else s

/-- Software acknowledges one latched pin: the bit clears, the level returns to the programmed one, the scope empties, a
clear record is written; a held cause still present latches again without record or event (12 R299). -/
def State.acknowledge (s : State) (n : Nat) : State :=
  let p := s.pin n
  if !p.latched then s
  else
    let prog := s.obj (0x5010 + n) 2
    let s := s.setPin n { p with latched := false, eff := prog, scope := 0 }
    let s := s.record (0x0180 + n) 0 (min (s.obj (0x5010 + n) 0x0B) (2 ^ 24 - 1)) false
    if p.held.isEmpty then s
    else
      let scope := maskOf (p.held.flatMap (fun h => s.scopeRails h.1 h.2))
      let s := s.setPin n { p with latched := true, eff := prog, scope := scope }
      let s := (s.bump (0x5010 + n) 8).bump 0x5000 7
      let s := if 1 ≤ prog then s.signal (0x040 + n) else s
      (s.serviceFault prog).work workFuel (s.levelWork n prog)

/-- Every written pin acknowledged, in ascending order (12 R299). -/
def State.acknowledgeWord (s : State) (w : W64) : State :=
  each ((List.range 64).filter (fun n => w.getLsbD n)) State.acknowledge s

/-- Whether a rail lies in the scope set of a pin that stands at DEGRADE or above (04 R112). -/
def State.degradeOn (s : State) (r : Nat) : Bool :=
  (List.range 64).any (fun n => (s.pin n).latched && 2 ≤ (s.pin n).eff && bit (s.pin n).scope r)

end Sys2Proof.Machine
end

