-- ==== Sys2Proof/Machine/AssayFlow.lean ====
section
/-! DEFINITION. How a tile group passes through the Assayer: selection, the duplicate, comparison, the vote, quarantine
and known-answer results (11 R268 to R280, R287). Everything here acts only in NW-OXG4-F. -/

namespace Sys2Proof.Machine

/-! ### Choice of arrays -/

/-- Requests pending on an array (11 R272). -/
def State.pendingOn (s : State) (a : Nat) : Nat :=
  (s.assayer.entries.filter (fun p =>
    (p.2.st == .comparing && p.2.dup == a && p.2.dupDigest.isNone) || (p.2.st == .third && p.2.third == some a))).length
    + (s.assayer.run.out.filter (fun o => o.1 == a)).length

/-- Whether a request of a kind with a ring and tag is pending on an array. -/
def State.requestPending (s : State) (a kind ring tag : Nat) : Bool :=
  s.assayer.entries.any (fun p => p.2.ring == ring && p.2.tag == tag &&
    ((kind == 1 && p.2.st == .comparing && p.2.dup == a && p.2.dupDigest.isNone)
      || (kind == 2 && p.2.st == .third && p.2.third == some a)))
    || (kind == 3 && s.assayer.run.out.any (fun o => o.1 == a && o.2.1 == tag))

/-- Whether an array may execute for an origin (11 R272). -/
def State.mayExecute (s : State) (origin a kind ring tag : Nat) : Bool :=
  match s.arrayDomain a with
  | none => false
  | some d =>
    !s.quarantined a && (s.domain d).st == .on && s.arrayDomain origin != some d && (s.droop d).window.isNone
      && s.pendingOn a < s.obj 0x6000 0x0A && !s.requestPending a kind ring tag

/-- First array from `start` upwards, modulo 256, that qualifies (11 R272). -/
def State.chooseArray (s : State) (start origin kind ring tag : Nat) (notDomain : Option Nat) : Option Nat :=
  ((List.range 256).map (fun k => (start + k) % 256)).find? (fun a =>
    s.mayExecute origin a kind ring tag && (notDomain.isNone || s.arrayDomain a != notDomain))

/-- Request word of a kind (11 R270). -/
def requestWord (kind target origin ring tag kidx kid : Nat) : W64 :=
  BitVec.ofNat 64 (kind * 2 ^ 62 + target * 2 ^ 54 + origin * 2 ^ 46 + ring * 2 ^ 41 + tag * 2 ^ 28 + kidx * 2 ^ 22 + kid * 2 ^ 6)

/-! ### Ends of an entry -/

/-- An entry ends UNASSAYED with its event on pin 52. -/
def State.unassayed (s : State) (k : Nat) (e : Entry) (sub : Nat) : State := (s.unassay k e sub true).dEvent 52

/-- Position of a lost vote within the loss window (11 R277). -/
def State.lostVotes (s : State) (a : Nat) : Nat :=
  ((tget s.assayer.lost a []).filter (fun t => s.tb.now ≤ t + s.cyc 0x6000 9)).length

/-- Fields common to the outcome records (12 R307, 0x0220 to 0x0222). -/
def State.outcomePa (s : State) (e : Entry) : Nat :=
  let fid := e.fence.getD 0xFFFF
  let answered : Bool := e.window != s.assayer.fenceWindow && !(s.assayer.fences.any (fun f => f.window == e.window))
  e.origin * 2 ^ 56 + e.ring * 2 ^ 51 + e.tag * 2 ^ 38 + fid * 2 ^ 22 + natOfBool answered * 2 ^ 21 + e.dup * 2 ^ 10
    + e.third.getD 0 * 4

/-- The record group of an outcome (12 R306, R307; 11 R284). -/
def State.outcomeGroup (s : State) (e : Entry) (code : Nat) : List (Nat × Nat × Nat) :=
  [(code, s.outcomePa e, e.grant),
   (0x0F01, e.digest.toNat, e.doneC.getD 0),
   (0x0F02, (e.dupDigest.getD 0).toNat, e.dupC),
   (0x0F03, (e.thirdDigest.getD 0).toNat, e.thirdC)]

/-- An array is quarantined (11 R277, 06 R145, R161): its account is emptied, the source raised, the record written. What
was pending on it is the caller's. -/
def State.quarantine (s : State) (a cause : Nat) : State :=
  let s := s.modArray a (fun v => { v with quarantined := true, bal := 0, fil := 0, resv := none })
  let s : State := { s with assayer := { s.assayer with qcause := tset s.assayer.qcause a cause } }
  let s := s.record 0x0223 (a * 2 ^ 56 + cause * 2 ^ 48) (s.lostVotes a) true
  let d := (s.arrayDomain a).getD 32
  let pa := a * 2 ^ 56 + cause * 2 ^ 48
  if (s.pin 49).held.contains (2, d) then s.trigger 49 2 d 0 pa else s.raiseCause 49 2 d 0 pa

/-- A known-answer request resolved as not run (11 R287). -/
def State.notRun (s : State) (a i : Nat) : State :=
  let run := s.assayer.run
  ({ s with assayer := { s.assayer with run := { run with
    out := run.out.filter (fun o => !(o.1 == a && o.2.1 == i)) } } } : State).bump 0x6003 7

/-- An INDETERMINATE outcome (11 R276): record, counts, pin 47; counted against origin and duplicate, and against the third
array where its digest differs from both. -/
def State.indeterminate (s : State) (k : Nat) (e : Entry) : State :=
  let g := s.outcomeGroup e 0x0221
  let pa := s.outcomePa e
  let against := [e.origin, e.dup] ++ (if e.thirdDigest.isSome then e.third.toList else [])
  let s : State := { s with assayer := { s.assayer with
    indet := against.foldl (fun t a => tset t a (satU 32 (tget t a 0 + 1))) s.assayer.indet } }
  let s := ((s.dropEntry k).releaseSafe e).request (releaseWord e)
  let s := (s.bump 0x6001 5).fenceCount e.window 1 0
  let s := s.enqueueGroup g true
  s.trigger 47 2 ((s.arrayDomain e.origin).getD 32) 0 pa

/-- One use of the safe point of a third array: its rail's offset and its domain's stretch (11 R275, 07 R186). -/
def State.takeSafe (s : State) (a : Nat) : State :=
  let d := (s.arrayDomain a).getD 32
  let s := s.modRail (s.arrayRail a) (fun v => { v with safeUses := v.safeUses + 1 })
  (s.modDroop d (fun v => { v with safeUses := v.safeUses + 1 })).unlearn (s.droopRail d) 4

/-- The duplicate of an entry moved to another array, or the entry ends UNASSAYED (11 R277). -/
def State.resendDup (s : State) (k : Nat) (e : Entry) : State :=
  match s.chooseArray (e.origin + s.obj 0x6000 5) e.origin 1 e.ring e.tag none with
  | some a => (s.setEntry k { e with dup := a }).request (requestWord 1 a e.origin e.ring e.tag 0 0)
  | none => s.unassayed k e 7

/-- The third execution of an entry moved to another array, which is sent once that array is at its safe point, or the
outcome is INDETERMINATE (11 R275, R277). The deadline is unchanged. -/
def State.resendThird (s : State) (k : Nat) (e : Entry) : State :=
  match s.chooseArray (e.origin + 2 * s.obj 0x6000 5) e.origin 2 e.ring e.tag (s.arrayDomain e.dup) with
  | some a =>
    let s := (s.releaseSafe e).takeSafe a
    s.setEntry k { e with third := some a, st := .settling }
  | none => s.indeterminate k e

/-- A known-answer request moved to another array, its time of sending kept, or resolved as not run (11 R277). -/
def State.resendAnswer (s : State) (a i t : Nat) : State :=
  match s.chooseArray (a + s.obj 0x6000 5) a 3 0 i none with
  | some b =>
    let run := s.assayer.run
    let s : State := { s with assayer := { s.assayer with run := { run with
      out := run.out.map (fun o => if o.1 == a && o.2.1 == i then (b, i, t) else o) } } }
    s.request (requestWord 3 b b 0 i i (s.obj (0x6300 + i) 6))
  | none => s.notRun a i

/-! ### The vote -/

/-- Third executions outstanding: at the safe point or on the way to it (11 R275). -/
def State.thirdsOut (s : State) : Nat :=
  (s.assayer.entries.filter (fun p => p.2.st == .settling || p.2.st == .third)).length

/-- The third array of a mismatch is chosen and its safe point requested (11 R275). -/
def State.startThird (s : State) (k : Nat) (e : Entry) : State :=
  match s.chooseArray (e.origin + 2 * s.obj 0x6000 5) e.origin 2 e.ring e.tag (s.arrayDomain e.dup) with
  | some a =>
    let s := s.takeSafe a
    s.setEntry k { e with third := some a, st := .settling }
  | none => s.indeterminate k e

/-- Waiting mismatches start while fewer than four third executions are outstanding (11 R275). -/
def State.startWaiting (s : State) : Nat → State
  | 0 => s
  | f + 1 =>
    match s.assayer.thirds with
    | [] => s
    | k :: rest =>
      if s.thirdsOut < 4 then
        let s : State := { s with assayer := { s.assayer with thirds := rest } }
        match s.entry? k with
        | some e => (s.startThird k e).startWaiting f
        | none => s.startWaiting f
      else s

/-- Everything pending on an array that has just been quarantined is sent elsewhere (11 R277). -/
def State.resendAll (s : State) (a : Nat) : State :=
  let dups := s.assayer.entries.filter (fun p => p.2.st == .comparing && p.2.dup == a && p.2.dupDigest.isNone)
  let thirds := s.assayer.entries.filter (fun p => (p.2.st == .settling || p.2.st == .third) && p.2.third == some a)
  let outs := s.assayer.run.out.filter (fun o => o.1 == a)
  let s := each dups (fun s p => s.resendDup p.1 p.2) s
  let s := each thirds (fun s p => s.resendThird p.1 p.2) s
  (each outs (fun s o => s.resendAnswer o.1 o.2.1 o.2.2) s).startWaiting 64

/-- A lost vote of an array, and its quarantine when the votes within the loss window reach the limit (11 R277). -/
def State.loseVote (s : State) (a : Nat) : State :=
  let s := s.bump (0x6010 + a) 4
  let s : State := { s with assayer := { s.assayer with
    lost := tset s.assayer.lost a ((s.tb.now :: tget s.assayer.lost a []).take 15) } }
  if s.obj 0x6000 8 ≤ s.lostVotes a && !s.quarantined a then (s.quarantine a 1).resendAll a else s

/-- A mismatch goes to the vote, waits for its place, or is INDETERMINATE where the queue of 64 is full (11 R274 to
R276). -/
def State.mismatch (s : State) (k : Nat) (e : Entry) : State :=
  let s := ((s.bump 0x6001 3).bump (0x6010 + e.origin) 3).bump (0x6010 + e.dup) 3
  if s.thirdsOut < 4 && s.assayer.thirds.isEmpty then s.startThird k e
  else if s.assayer.thirds.length < 64 then
    let s := s.setEntry k { e with st := .queued }
    { s with assayer := { s.assayer with thirds := s.assayer.thirds ++ [k] } }
  else s.indeterminate k e

/-- Whether an SRAM word reads with poison (12 R302). -/
def State.poisoned (s : State) (w : PoisonAt) (i : Nat) : Bool := s.poison.contains (w, i)

/-- Both digests are held: PASS, or a mismatch (11 R274). A poisoned entry ends UNASSAYED (R279). -/
def State.compare (s : State) (k : Nat) (e : Entry) : State :=
  match e.doneC, e.dupDigest with
  | some _, some d =>
    if s.poisoned .assayEntry k then (s.unassayed k e 8).dEvent 53
    else if e.digest = d then
      (((s.dropEntry k).bump64 0x6001 0x0A 1).request (releaseWord e))
    else s.mismatch k e
  | _, _ => s.setEntry k e

/-- The vote is decided by the third digest (11 R276); a poisoned entry ends UNASSAYED (R279). -/
def State.vote (s : State) (k : Nat) (e : Entry) (d : W64) : State :=
  if s.poisoned .assayEntry k then ((s.unassayed k e 8).dEvent 53).startWaiting 64
  else if d = e.digest || some d = e.dupDigest then
    let orig : Bool := d != e.digest
    let loser := if orig then e.origin else e.dup
    let g := s.outcomeGroup e (if orig then 0x0220 else 0x0222)
    let pa := s.outcomePa e
    let s := ((s.dropEntry k).releaseSafe e).request (releaseWord e)
    let s := if orig then (s.bump 0x6001 4).fenceCount e.window 1 0 else s.bump 0x6001 0x0E
    let s := s.enqueueGroup g orig
    let s := s.trigger (if orig then 46 else 48) 2 ((s.arrayDomain loser).getD 32) 0 pa
    (s.loseVote loser).startWaiting 64
  else (s.indeterminate k e).startWaiting 64

/-! ### Selection -/

/-- Seed of an array's sampling generator (11 R268). -/
def genSeed (seed a : Nat) : Nat :=
  let x := (seed ^^^ (a * 0x01000193)) % 2 ^ 32
  if x = 0 then 1 else x

/-- One advance of a sampling generator (11 R268). -/
def genStep (x : Nat) : Nat :=
  let x := x ^^^ (x * 2 ^ 13 % 2 ^ 32)
  let x := x ^^^ (x / 2 ^ 17)
  x ^^^ (x * 2 ^ 5 % 2 ^ 32)

/-- Whether a generator value samples at exponent k (11 R268). -/
def sampled (x k : Nat) : Bool := k == 0 || x / 2 ^ (32 - k) == 0

def State.generator (s : State) (a : Nat) : Nat := tget s.assayer.gens a (genSeed s.assayer.seed a)

/-- A free place of the entry table of 4,096. -/
def State.freeEntry (s : State) : Option Nat :=
  (List.range 4096).find? (fun k => (s.assayer.entries.all (fun p => p.1 != k)))

/-- A group without an entry is counted UNASSAYED (11 R276). -/
def State.unassayedGroup (s : State) (g : Group) (sub : Nat) : State :=
  (((s.bump 0x6001 sub).bump (0x6010 + g.array) 0x0A).fenceCount g.window 0 1).dEvent 52

/-- A selected group takes an entry and its duplicate is requested, or takes the case of the outcome table; `true` says
that the group is no longer an unselected one (11 R269 to R273). -/
def State.select (s : State) (g : Group) (tagged : Bool) : State × Bool :=
  let s := s.bump64 0x6001 (if tagged then 2 else 1) 1
  match s.freeEntry, s.chooseArray (g.array + s.obj 0x6000 5) g.array 1 g.ring g.tag none with
  | some k, some a =>
    let now := s.tb.now
    let limit := s.cyc 0x6000 3
    let e : Entry :=
      { origin := g.array, ring := g.ring, tag := g.tag, grant := g.grant, grantG := g.grantG,
        doneC := g.doneAt.map (fun _ => g.doneC), doneG := g.doneG, digest := g.digest, dup := a, selected := now, limit := limit,
        deadline := g.doneAt.map (fun t => max t now + limit), window := g.window, fence := g.fence, tagged := tagged }
    ((((s.setEntry k e).cleanse .assayEntry k).bump (0x6010 + g.array) 1).request (requestWord 1 a g.array g.ring g.tag 0 0), true)
  | none, _ => (s.unassayedGroup g 7, true)
  | some _, none => if tagged then (s.unassayedGroup g 7, true) else (s.bump 0x6001 0x0B, false)

/-- A GRANT of an eligible group: the generator advances, and the group is sampled or tagged with the assay enabled, else kept as
one that is not selected (11 R268, R269). -/
def State.assayGrant (s : State) (a ring tag : Nat) : State :=
  if s.cfg != .full then s
  else
    let x := genStep (s.generator a)
    let s : State := { s with assayer := { s.assayer with gens := tset s.assayer.gens a x } }
    let at_ := s.frameOf (s.tb.now + 7)
    let g : Group := { array := a, ring := ring, tag := tag, grant := at_.1, grantG := at_.2, window := s.assayer.fenceWindow }
    let tagged : Bool := match (s.droop ((s.arrayDomain a).getD 32)).window with
      | some w => (match w.closed with
        | some c => s.tb.now ≤ c
        | none => true)
      | none => false
    let q := if s.flag 0x6000 1 && (tagged || sampled x (s.obj 0x6000 2)) then s.select g tagged else (s, false)
    if q.2 then q.1 else { q.1 with assayer := { q.1.assayer with groups := q.1.assayer.groups ++ [g] } }

/-- An entry of a sampled group that is still GRANTED is window-tagged as well (11 R269). -/
def State.tagEntry (s : State) (k : Nat) (e : Entry) : State :=
  (s.setEntry k { e with tagged := true }).bump64 0x6001 2 1

/-- The open notice of a window: granted groups of the domain, and completed ones whose DONE lies at or after the open
count, are tagged (11 R269). A poisoned completion-log entry is dropped (R279). -/
def State.windowNotice (s : State) (d : Nat) (opened : Int) : State :=
  if s.cfg == .full && s.flag 0x6000 1 then
    let s := each (s.assayer.entries.filter (fun p => s.arrayDomain p.2.origin == some d && p.2.doneC.isNone
      && !p.2.tagged)) (fun s p => s.tagEntry p.1 p.2) s
    each s.assayer.groups (fun s g =>
      let hit : Bool := s.arrayDomain g.array == some d && (match g.doneAt with
        | none => true
        | some t => g.logged && opened ≤ (t : Int))
      if !hit then s
      else
        let s : State := { s with assayer := { s.assayer with groups := s.assayer.groups.filter (· != g) } }
        if g.doneAt.isSome && s.poisoned .completionLog (g.array * 8192 + g.tag) then s.dEvent 53
        else (s.select g true).1) s
  else s

/-! ### Known-answer requests -/

/-- Known-answer requests sent in order within the pending limit; what can no longer be run is resolved as not run, a
poisoned library entry included (11 R272, R279, R287). -/
def State.pumpRun (s : State) : State :=
  if !s.assayer.run.active then s
  else
    let todo := s.assayer.run.todo
    let s : State := { s with assayer := { s.assayer with run := { s.assayer.run with todo := [] } } }
    each todo (fun s q =>
      let a := q.1
      let i := q.2
      let on : Bool := match s.arrayDomain a with
        | some d => (s.domain d).st == .on && !s.quarantined a
        | none => false
      if !on then s.bump 0x6003 7
      else if s.poisoned .library i then (s.bump 0x6003 7).dEvent 53
      else if s.pendingOn a < s.obj 0x6000 0x0A then
        let s := s.request (requestWord 3 a a 0 i i (s.obj (0x6300 + i) 6))
        { s with assayer := { s.assayer with run := { s.assayer.run with
          out := s.assayer.run.out ++ [(a, i, s.tb.now)] } } }
      else { s with assayer := { s.assayer with run := { s.assayer.run with
        todo := s.assayer.run.todo ++ [q] } } }) s

/-- A place has come free: waiting mismatches start, and known-answer requests are sent (11 R272, R275). -/
def State.refill (s : State) : State := (s.startWaiting 64).pumpRun

/-! ### What the Tally passes -/

/-- The entry of a group, by origin, ring and tag, that a condition picks. -/
def State.entryOf (s : State) (a ring tag : Nat) (c : Entry → Bool) : Option (Nat × Entry) :=
  s.assayer.entries.find? (fun p => p.2.origin == a && p.2.ring == ring && p.2.tag == tag && c p.2)

/-- A group is forgotten that has no entry. -/
def State.dropGroup (s : State) (a ring tag : Nat) : State :=
  { s with assayer := { s.assayer with
    groups := s.assayer.groups.filter (fun g => !(g.array == a && g.ring == ring && g.tag == tag && g.doneAt.isNone)) } }

/-- Whether a group can still be tagged or is not yet done: its pre time, the last cycle included, has not passed
(11 R269, 01 R19). -/
def State.taggable (s : State) (g : Group) : Bool :=
  match g.doneAt with
  | some t => s.tb.now ≤ t + s.cyc 0x2400 1
  | none => true

/-- The completion log takes the DONE of a group that is not selected; the oldest of 8,192 is discarded (11 R269). The log
is in the order of the DONEs, after the groups that are still GRANTED or before them. Groups whose pre time has passed
leave it. -/
def State.logDone (s : State) (a ring tag : Nat) (digest : W64) (t : Nat) : State :=
  let f := s.frameOf t
  let live := s.assayer.groups.filter s.taggable
  let full : Bool := 8192 ≤ (live.filter (·.logged)).length
  let live := if full then (match live.find? (·.logged) with
      | some old => live.map (fun g => if g = old then { g with logged := false } else g)
      | none => live) else live
  let this : Group → Bool := fun g => g.array = a && g.ring = ring && g.tag = tag && g.doneAt.isNone
  let done := (live.filter this).map (fun g =>
    { g with doneAt := some t, doneC := f.1, doneG := f.2, digest := digest, logged := true })
  let s : State := { s with assayer := { s.assayer with groups := live.filter (fun g => !this g) ++ done } }
  let s := s.cleanse .completionLog (a * 8192 + tag)
  if full then s.bump 0x6001 0x10 else s

/-- The DONE of a ROLE 0 group, which came at instant `t`, with its digest (11 R269, R274, R279, R280; 07 R176). -/
def State.assayDone (s : State) (a ring tag : Nat) (poison matched : Bool) (digest : W64) (t : Nat) : State :=
  if s.cfg != .full then s
  else
    match s.entryOf a ring tag (fun e => e.doneC.isNone) with
    | some (k, e) =>
      if poison then ((((s.dropEntry k).releaseSafe e).request (releaseWord e)).bump 0x6001 0x0C).refill
      else if !matched then (s.unassayed k e 9).refill
      else s.compare k { e with
        doneC := some (s.frameOf t).1
        doneG := (s.frameOf t).2
        digest := digest
        deadline := some (max t e.selected + e.limit) }
    | none =>
      let known := s.assayer.groups.any (fun g => g.array == a && g.ring == ring && g.tag == tag && g.doneAt.isNone)
      if !known then s
      else if poison then (s.dropGroup a ring tag).bump 0x6001 0x0C
      else if !matched then s.dropGroup a ring tag
      else s.logDone a ring tag digest t

/-- A known-answer result (11 R287, R279). -/
def State.answerDone (s : State) (a i : Nat) (poison : Bool) (digest : W64) : State :=
  let run := s.assayer.run
  if !(run.out.any (fun o => o.1 == a && o.2.1 == i)) then s
  else if poison then s.notRun a i
  else
    let s : State := { s with assayer := { s.assayer with run := { run with
      out := run.out.filter (fun o => !(o.1 == a && o.2.1 == i)) } } }
    if digest.toNat = s.obj (0x6300 + i) 4 then (s.bump (0x6010 + a) 6).bump 0x6003 5
    else
      let s := (s.bump (0x6010 + a) 7).bump 0x6003 6
      let s : State := { s with assayer := { s.assayer with run := { s.assayer.run with
        failed := a :: s.assayer.run.failed } } }
      let s := s.trigger 50 2 ((s.arrayDomain a).getD 32) 0 (a * 2 ^ 56 + i * 2 ^ 48)
      if run.votes then s.loseVote a else s

/-- The DONE of a duplicate, third or known-answer execution, which came at instant `t` (11 R271 to R276, R279, R287). -/
def State.assayRole (s : State) (a ring tag role : Nat) (poison : Bool) (digest : W64) (t : Nat) : State :=
  if s.cfg != .full then s
  else if role = 3 then (s.answerDone a tag poison digest).pumpRun
  else
    match s.assayer.entries.find? (fun p => p.2.ring == ring && p.2.tag == tag &&
      ((role == 1 && p.2.st == .comparing && p.2.dup == a && p.2.dupDigest.isNone)
        || (role == 2 && p.2.st == .third && p.2.third == some a))) with
    | none => s
    | some (k, e) =>
      if role = 1 then
        let s := s.bump (0x6010 + a) 2
        if poison then (s.unassayed k e 8).refill
        else State.refill <| s.compare k { e with dupDigest := some digest, dupC := (s.frameOf t).1 }
      else
        let s := s.bump (0x6010 + a) 2
        if poison then (s.indeterminate k e).refill
        else State.pumpRun <| s.vote k { e with thirdDigest := some digest, thirdC := (s.frameOf t).1 } digest

/-- A group the Tally passes marked timed out (07 R178, 11 R280). -/
def State.assayTimedOut (s : State) (a ring tag : Nat) : State :=
  if s.cfg != .full then s
  else
    match s.entryOf a ring tag (fun e => e.doneC.isNone) with
    | some (k, e) => (s.unassayed k e 9).refill
    | none => s.dropGroup a ring tag

/-- A CANCEL that frees a GRANTED slot withdraws the group's entry with no outcome (11 R280). -/
def State.assayWithdraw (s : State) (a ring tag : Nat) : State :=
  if s.cfg != .full then s
  else
    match s.entryOf a ring tag (fun e => e.doneC.isNone) with
    | some (k, e) => ((((s.dropEntry k).releaseSafe e).request (releaseWord e)).bump 0x6001 0x0D).refill
    | none => s.dropGroup a ring tag

end Sys2Proof.Machine
end

