-- ==== Sys2Proof/Machine/Cooper.lean ====
section
/-! DEFINITION. What Rail Control and Phase Link share: periods and duties, the voltage law and the trims, setpoints, the
lane plan, capacity and derating (03 R57 to R76, 04 R82 to R112). The commands are in Lanes.lean, Rails.lean and
Frames.lean. -/

namespace Sys2Proof.Machine

/-! ### Periods and duties -/

/-- Switching period of a divider code in GCLK cycles (02 R32). -/
def periodCycles (code : Nat) : Nat := [1344, 1008, 672, 504, 336].getD code 672

/-- The same in edge steps, 16 to a cycle. -/
def periodSteps (code : Nat) : Nat := 16 * periodCycles code

/-- A time in ns in edge steps, rounded up at 16.128 to the ns (03 R79). -/
def stepsOfNs (ns : Nat) : Nat := (ns * 16128 + 999) / 1000

/-- Divider of a code: SYNC_IN periods in a switching period (02 R32). -/
def divider (code : Nat) : Nat := [32, 24, 16, 12, 8].getD code 16

/-- Whether the present F-frame tick is an f_sw boundary of the rail: the phase count is divisible by its divider
(02 R32). -/
def State.atBoundary (s : State) (r : Nat) : Bool := s.tb.phase % divider (s.rail r).code == 0

/-- Interleave angle of lane `k` of `n` (03 R57). -/
def angle (k n p : Nat) : Nat := if n = 0 then 0 else k * p / n

/-- Pulse width of a duty in edge steps after R56: none where the pulse is skipped. -/
def State.pulse (s : State) (n d : Nat) : Option Nat :=
  let p := periodSteps (s.rail (s.laneRail n)).code
  let ton := d * p / 65536
  let tmin := stepsOfNs (s.obj (0x2100 + n) 9)
  let toff := stepsOfNs (s.obj (0x2100 + n) 0x0B)
  if ton = 0 then none
  else if tmin ≤ ton then some (min ton (p - toff))
  else if tmin ≤ 2 * ton then some tmin
  else none

/-- Duty ceiling of a rail (04 R86). -/
def State.dutyMax (s : State) (r : Nat) : Nat :=
  let p := periodSteps (s.rail r).code
  let toff := ((s.railLanes r).map (fun n => stepsOfNs (s.obj (0x2100 + n) 0x0B))).foldl max 0
  65536 * (p - toff) / p

/-! ### Edges of pl_pwm (03 R54 to R59, 04 R105, R106) -/

/-- The present instant in edge steps: phase slews move the frame ticks by single steps (02 R46). -/
def State.stepsNow (s : State) : Nat := 16 * s.tb.now + (s.tb.moved % 16).toNat

/-- Width in edge steps of a lane's pulse at the duty in force; 0 where it has none. -/
def State.width (s : State) (n : Nat) : Nat := (s.pulse n (s.lane n).duty).getD 0

/-- Whether the period's leading edge has been emitted before instant `t`. -/
def Lane.begun (l : Lane) (t : Nat) : Bool := l.lead < l.trail && l.lead < t

/-- Edges after a tick at `t` at which a pulse width takes effect: an edge not yet emitted moves; the trailing edge of a pulse
already begun falls at its new place, at the tick where that has passed, and not before the minimum on-time (R55). -/
def Lane.retime (l : Lane) (t width tmin : Nat) : Lane :=
  if t ≤ l.lead then { l with trail := l.lead + width }
  else if l.begun t && t < l.trail then { l with trail := max (l.lead + width) (max t (l.lead + tmin)) }
  else l

/-- A switching period begins at `t`: the leading edge falls at the lane's angle, or the minimum off-time after the last
trailing edge where that is later (R54, R58). -/
def Lane.openPeriod (l : Lane) (t width toff : Nat) : Lane :=
  let last := if l.begun t then l.trail else l.lastTrail
  let lead := if last = 0 then t + l.theta else max (t + l.theta) (last + toff)
  { l with lastTrail := last, lead := lead, trail := lead + width }

/-- Every pulse of a lane ends at `t`: the next leading edge falls at its angle, delayed to `t` and the minimum off-time where
that is later (04 R106). -/
def Lane.endPulse (l : Lane) (t toff : Nat) : Lane :=
  if t < l.lead then
    let lead := max l.lead (t + toff)
    { l with lastTrail := t, lead := lead, trail := lead + (l.trail - l.lead) }
  else { l with lastTrail := t, trail := max l.lead (min l.trail t) }

/-- pl_en of a lane (03 Lane states). -/
def State.plEn (s : State) (n : Nat) : Bool :=
  (s.lane n).st.enabled || ((s.lane n).st == .retry && (s.lane n).retry == .enabled)

/-- Whether a lane's own pulse is high at instant `t`. -/
def Lane.high (l : Lane) (t : Nat) : Bool := (l.lead ≤ t && t < l.trail) || t < l.lastTrail

/-- pl_pwm of a lane now: its pulse while it runs; in an all-phase fire every enabled lane is high once its minimum off-time
has passed, but for one that has ended its own fire pulse (R56, 04 R105, R106). -/
def State.plPwm (s : State) (n : Nat) : Bool :=
  let l := s.lane n
  let v := s.rail (s.laneRail n)
  let t := s.stepsNow
  if !l.st.enabled || v.clamp then false
  else if v.fire == .firing then
    let f := 16 * v.fireAt
    let last := if l.begun f then l.trail else l.lastTrail
    !l.peakCut && ((l.st.running && l.high f) || last = 0 || last + stepsOfNs (s.obj (0x2100 + n) 0x0B) ≤ t)
  else l.st.running && l.high t

/-! ### Current sense -/

/-- Scaling of a decimator output to mA, in the widths of the rule (03 R60). -/
def laneCurrent (x : Nat) (offset : Int) (gain fs : Nat) : Int :=
  let p := toSigned 64 (ofSigned 64 (((x : Int) - 16384 - offset) * (gain : Int) * (fs : Int)))
  toSigned 32 (ofSigned 32 (asr p 28))

/-- One pl_isd bit counted: the run of equal bits, and whether it has stood at 128 (03 R61). -/
def bitStep (p : Nat × Bool × Bool) (b : Bool) : Nat × Bool × Bool :=
  let run := if b = p.2.1 then min 128 (p.1 + 1) else 1
  (run, b, p.2.2 || run = 128)

/-- The 32 bits of an F-frame counted from a run: the run, its bit, and whether the stream has been stuck in the frame. -/
def bitFrame (run : Nat) (last : Bool) (w : BitVec 32) : Nat × Bool × Bool :=
  (List.range 32).foldl (fun p i => bitStep p (w.getLsbD i)) (run, last, false)

/-- Whether a decimator output is plausible (03 R61). -/
def plausible (x : Nat) : Bool := 512 ≤ x && x ≤ 32256

/-- A rail's measured current: the sum over its running lanes, a BLIND lane at the mean of the ACTIVE ones (03 R62). The mean
is rounded down, and 0 with no ACTIVE lane (DESIGN CHOICE, log 10). -/
def State.railCurrent (s : State) (r : Nat) : Int :=
  let act := ((s.railLanes r).filter (fun n => (s.lane n).st == .active)).map (fun n => (s.lane n).current)
  let blind := ((s.railLanes r).filter (fun n => (s.lane n).st == .blind)).length
  let sum := act.foldl (· + ·) 0
  if act.isEmpty then 0 else sum + (blind : Int) * (sum / (act.length : Int))

/-- Open threshold of a lane in mA (03 R68), rounded down to whole mA (DESIGN CHOICE, log 10). -/
def State.openThreshold (s : State) (n : Nat) : Int := (s.obj (0x2100 + n) 7 * s.obj 0x2000 1 / 100 : Nat)

/-- Parameter A of the lane pins (12 R307). -/
def State.lanePa (s : State) (n : Nat) : Nat :=
  n * 2 ^ 56 + s.laneRail n * 2 ^ 48 + (s.lane n).duty * 2 ^ 32 + ofSigned 32 (s.lane n).current

/-- Parameter A of the rail pins (12 R307). -/
def State.railPa (s : State) (r x : Nat) : Nat :=
  r * 2 ^ 56 + (s.rail r).die * 2 ^ 40 + ofSigned 32 (s.rail r).current * 2 ^ 8 + x % 256

/-! ### Capacity and derating -/

/-- Lane capacity of a rail (03 R74). -/
def State.laneCapacity (s : State) (r : Nat) : Nat :=
  let l := (s.railLanes r).filter (fun n =>
    (s.lane n).st == .active || (s.lane n).st == .warm || (s.lane n).st == .cold)
  min (s.obj (0x2200 + r) 5) ((l.map (fun n => s.obj (0x2100 + n) 7)).foldl (· + ·) 0)

/-- Current limit that the CURRENT law uses (04 R112). -/
def State.currentLimit (s : State) (r : Nat) : Nat :=
  let lim := s.obj (0x2200 + r) 5
  let m := min lim (s.laneCapacity r)
  if s.degradeOn r then min m (lim * s.obj (0x2200 + r) 0x21 / 100) else m

/-- Capacity compared with present demand after it may have fallen from `before` (03 R75). -/
def State.capacityCheck (s : State) (r before : Nat) : State :=
  let cap := s.laneCapacity r
  let v := s.rail r
  if cap < before && (cap : Int) < v.iC && v.cutFrom.isNone then s.setRail r { v with cutFrom := some before } else s

/-- The lane-floor cause of a rail follows its available lanes (03 R76). -/
def State.floorCheck (s : State) (r : Nat) : State :=
  if s.floorMet r then s.dropCause 11 1 r
  else if s.gov.st == .sequencing then s
  else s.raiseCause 11 1 r 0 0

/-! ### Lane plan -/

/-- Add order: running lanes, then WARM, then COLD, each ascending (04 Lane plan). -/
def State.addOrder (s : State) (r : Nat) : List Nat :=
  s.runningLanes r ++ (s.railLanes r).filter (fun n => (s.lane n).st == .warm)
    ++ (s.railLanes r).filter (fun n => (s.lane n).st == .cold)

/-- Planning current of a lane, mA (04 Lane plan). -/
def State.planningCurrent (s : State) (r n : Nat) : Nat := s.obj (0x2200 + r) 0x13 * s.obj (0x2100 + n) 7 / 100

/-- Smallest count of the lanes listed, at least `floor`, whose currents sum to at least `i`. -/
def planCount (cur : List Nat) (i : Int) (sum n floor : Nat) : Nat :=
  match cur with
  | [] => n
  | c :: rest => if i ≤ (sum : Int) && floor ≤ n then n else planCount rest i (sum + c) (n + 1) floor

/-- N_plan(I) (04 Lane plan). -/
def State.nPlan (s : State) (r : Nat) (i : Int) : Nat :=
  planCount ((s.addOrder r).map (s.planningCurrent r)) i 0 0 (s.laneFloor r)

/-- A COLD lane starts to wake: pl_en rises `delay` cycles from now (03 R52). -/
def State.wakeLane (s : State) (n : Nat) (forecast : Bool) (delay : Nat) : State :=
  let l := s.lane n
  if l.st == .cold && l.wakeEnd.isNone then
    s.setLane n { l with wakeEnd := some (s.tb.now + delay + cycles (s.obj (0x2100 + n) 0x0A)), forecastWake := forecast }
  else s

/-- One lane added: a WARM lane runs from the next F-frame tick, a COLD lane after its wake time (03 R52). -/
def State.addLane (s : State) (n : Nat) (delay : Nat) : State :=
  let l := s.lane n
  if l.st.running then s
  else
    let s := s.wakeLane n false delay
    s.modLane n (fun l => { l with startDue := true, parkEnd := none, forecastWake := false })

/-- An add decided: N is at least `count`, and N lanes in add order run, a COLD one raising pl_en `delay` cycles from now
(04 R99). N is never lowered. -/
def State.raisePlan (s : State) (r count : Nat) (delay : Nat := 0) : State :=
  let v := s.rail r
  let n := max v.plan count
  each ((s.addOrder r).take n) (fun s k => s.addLane k delay) (s.setRail r { v with plan := n })

/-- Whether an add of the rail waits for its tick. -/
def State.addPending (s : State) (r : Nat) : Bool := (s.railLanes r).any (fun n => (s.lane n).startDue)

/-- Whether a shed is barred on a rail (04 R100). -/
def State.shedBarred (s : State) (r : Nat) : Bool :=
  let v := s.rail r
  v.forecastBar || s.addPending r || v.reLane || v.pairShed || v.fire != .armed || v.clamp || s.tb.cframe < s.tb.barEnd
    || s.gov.st == .sequencing || s.gov.st == .safe || s.gov.st == .service

/-- A lane leaves the running set: no duty, no trim, its state given (04 R89). -/
def Lane.stop (l : Lane) (st : LaneSt) : Lane := { l.down with st := st }

/-- The next switching period of a running lane begins at this boundary (03 R54, R58). -/
def State.nextPeriod (s : State) (n : Nat) : State :=
  s.modLane n (fun l => l.openPeriod s.stepsNow (s.width n) (stepsOfNs (s.obj (0x2100 + n) 0x0B)))

/-- Whether a lane's trim is frozen (03 R69, R70). -/
def Lane.frozen (l : Lane) : Bool := l.nearRun != 0 || l.retrying || l.senseLost

/-- A shed lane becomes WARM for the warm-park time (03 R52); the observation after a retry goes on (R67). -/
def State.parkLane (s : State) (n : Nat) : State :=
  s.modLane n (fun l => { l.stop .warm with parkEnd := some (s.tb.now + s.cyc 0x2000 2), observing := l.observing })

/-- Every running lane of a rail takes its k and angle (03 R57, R58). -/
def State.reinterleave (s : State) (r : Nat) : State :=
  let l := s.runningLanes r
  let p := periodSteps (s.rail r).code
  each l.zipIdx (fun s q => s.modLane q.1 (fun v => { v with theta := angle q.2 l.length p })) s

/-- A lane fault becomes lasting: the lane is FAULTED with its cause, the rail is derated, re-interleaves and checks its
floor, a shed in progress is aborted, and the pin is triggered (03 R66 to R76, 04 R102). -/
def State.faultLane (s : State) (n pin cause : Nat) : State :=
  let r := s.laneRail n
  let before := s.laneCapacity r
  let pa := s.lanePa n
  let ran := (s.lane n).st.running
  let s := s.modLane n (fun l => { l.stop .faulted with cause := cause })
  let s := (s.modRail r (fun v => { v with reLane := v.reLane || ran, plan := min v.plan (s.availableLanes r).length })).abortShed r
  let s := s.capacityCheck r before
  let s := s.trigger pin 1 r cause pa
  s.floorCheck r

/-- Whether a rail's current per running lane is at least four times a lane's open threshold (03 R68). -/
def State.loadedNow (s : State) (n : Nat) : Bool :=
  let r := s.laneRail n
  4 * s.openThreshold n * ((s.runningLanes r).length : Int) ≤ (s.rail r).current

/-- A load step: counted, a shed aborted, lanes added for the step threshold on top of the present current; COLD lanes
raise pl_en in cycle 2 of the F-frame (04 R99, R102). -/
def State.loadStep (s : State) (r : Nat) : State :=
  let s := (s.bump (0x2200 + r) 0x25).abortShed r
  let s := s.modRail r (fun v => { v with stepDue := false })
  s.raisePlan r (s.nPlan r ((s.rail r).current + (s.obj (0x2200 + r) 0x12 : Nat))) 2

/-! ### Setpoint -/

/-- Base setpoint: nominal minus AVS trim (04 Setpoint). -/
def State.baseSetpoint (s : State) (r : Nat) : Int := (s.obj (0x2200 + r) 1 : Int) - ((s.rail r).avs : Int)

/-- Target of the setpoint (01 R14): the larger of pre-position and safe-point offset, clamped to the rail limits. -/
def State.setpointTarget (s : State) (r : Nat) : Int :=
  let v := s.rail r
  let off := max v.prePos (if v.safeUses = 0 then 0 else s.obj 0x6000 0x0B)
  clampI (s.baseSetpoint r + (off : Int)) (s.obj (0x2200 + r) 2 : Nat) (s.obj (0x2200 + r) 3 : Nat)

/-- A value moved towards a target by at most `step`. -/
def slewTo (x : Int) (target : Int) (step : Nat) : Int :=
  if x < target then min target (x + (step : Int)) else max target (x - (step : Int))

/-! ### The voltage law -/

/-- Coefficient value and shift of a raw Q (15 Types). -/
def qValue (q : Nat) : Int := toSigned 32 q
def qShift (q : Nat) : Nat := q / 2 ^ 32 % 32

/-- One accumulation under sat64, and whether any so far has changed a value (04 R85, 08 R201). -/
def macTerm (p : Int × Bool) (sign : Int) (q : Nat) (x : Int) : Int × Bool :=
  let v := p.1 + sign * asr (qValue q * x) (qShift q)
  (satS 64 v, p.2 || satS 64 v != v)

/-- Feed-forward gain round(2^40 / vin16) of a stage input voltage in mV (04 R85). -/
def kff (vin : Nat) : Nat := if vin = 0 then 0 else roundDiv (2 ^ 40) (16 * vin)

/-- Accumulator of the voltage law over its histories: four error terms, three feedback terms (04 R85). -/
def lawAcc (coef : List Nat) (e w : List Int) : Int × Bool :=
  let p := (List.range 4).foldl (fun p i => macTerm p 1 (coef.getD i 0) (e.getD i 0)) (0, false)
  (List.range 3).foldl (fun p j => macTerm p (-1) (coef.getD (4 + j) 0) (w.getD j 0)) p

/-- Feed-forward term of a setpoint (04 R85). -/
def lawUff (sp : Int) (k : Nat) : Int := toSigned 32 (ofSigned 32 (asr (sp * (k : Int)) 16))

/-- What one evaluation of the voltage law gives: u, the duty in 1/65,536, the histories, and whether it saturated. -/
structure LawResult where
  u    : Int
  duty : Nat
  e    : List Int
  w    : List Int
  sat  : Bool
  deriving DecidableEq, Repr

/-- One evaluation of the voltage law (04 R85). `inj` is a signal added to u, which the history does not see (08 R213). -/
def lawEval (coef : List Nat) (e w : List Int) (err sp inj : Int) (k dmax : Nat) : LawResult :=
  let e1 := err :: e.take 3
  let uff := lawUff sp k
  let acc := lawAcc coef e1 w
  let s := uff + satS 32 acc.1
  let u := clampI (satS 32 s + inj) 0 ((dmax * 256 : Nat) : Int)
  { u := u
    duty := (asr u 8).toNat % 65536
    e := e1
    w := (u - uff - inj) :: w.take 2
    sat := acc.2 || satS 32 acc.1 != acc.1 || satS 32 s != s }

/-- Trim of one lane (04 R88): new accumulator from rail sums. -/
def trimStep (tacc i rat irail rsum : Int) (kbal shbal tlim : Nat) : Int :=
  let tgt := if rsum = 0 then 0 else (irail * rat).tdiv rsum
  let lim : Int := (tlim * 256 : Nat)
  clampI (tacc + asr ((tgt - i) * (kbal : Int)) shbal) (-lim) lim

/-! ### All-phase fire -/

/-- Whether the state is one in which a fire may engage (04 R104). -/
def GovState.fires : GovState → Bool
  | .sequencing | .ready | .run | .limit | .safe | .service => true
  | _ => false

/-- Fire level of a rail (04 R104). -/
def State.fireLevel (s : State) (r : Nat) : Int := s.baseSetpoint r - (s.obj (0x2200 + r) 0x16 : Int)

/-- A lowest valid sample seen: one at or above the fire level lets a sense-tap trigger qualify again (04 R104). -/
def State.sawLow (s : State) (r low : Nat) : State :=
  let back : Bool := s.fireLevel r ≤ (low : Int)
  s.modRail r (fun v => { v with fireSeen := v.fireSeen && !back })

/-- A qualified trigger of an all-phase fire (04 R104, R107): it engages, falls in lockout, or does nothing. An engaged
fire holds the histories of the voltage law as they stood before this F-frame's law (R87), adds every available lane, aborts a
shed and is a capture trigger. -/
def State.fireTrigger (s : State) (r : Nat) : State :=
  let v := s.rail r
  if v.fire != .armed then
    if v.fire == .lockout then s.bump (0x2200 + r) 0x2C else s.setRail r { v with trigAt := some s.tb.now }
  else if s.flag (0x2200 + r) 0x19 && v.goodOnce && !v.clamp && !v.senseLost && s.gov.st.fires then
    let was : FireUndo := { plan := v.plan, lanes := (s.railLanes r).map (fun n => (n, s.lane n)),
                            capStatus := s.capture.status, capSeen := s.capture.seen }
    let s := s.setRail r { v with
      fireWas := some was
      fire := .firing
      fireAt := s.tb.now
      inFire := true
      fires := v.fires + 1
      e := if v.lawDone then v.e0 else v.e
      w := if v.lawDone then v.w0 else v.w }
    let s := s.bump (0x2200 + r) 0x22
    let s := s.abortShed r
    let s := s.raisePlan r (s.availableLanes r).length
    let s := s.captureEvent 2 r
    if (s.rail r).fires = 17 then s.trigger 17 1 r 0 (s.railPa r 0) else s
  else s

/-- A clamp that begins in the cycle in which a fire has engaged wins: the fire is taken back (04 R113). -/
def State.voidFire (s : State) (r : Nat) : State :=
  let v := s.rail r
  match v.fireWas with
  | some u =>
    if v.fire == .firing && v.fireAt = s.tb.now then
      let s := s.setObj (0x2200 + r) 0x22 (s.obj (0x2200 + r) 0x22 - 1)
      let s := each u.lanes (fun s q => s.setLane q.1 q.2) s
      let s := s.modRail r (fun v => { v with fire := .armed, fires := v.fires - 1, plan := u.plan, inFire := false, fireWas := none })
      { s with capture := { s.capture with status := u.capStatus, seen := u.capSeen } }
    else s
  | none => s

/-- A fire ends and the rail enters lockout: every pulse falls, and a trigger of the ending cycle falls in lockout (04 R106,
R107, R113). A lane that has ended its own fire pulse fell then. -/
def State.endFire (s : State) (r : Nat) : State :=
  let v := s.rail r
  if v.fire == .firing then
    let t := s.stepsNow
    let s := each (s.railLanes r) (fun s n => s.modLane n (fun l =>
      if l.peakCut then { l with peakCut := false } else l.endPulse t (stepsOfNs (s.obj (0x2100 + n) 0x0B)))) s
    let s := s.modRail r (fun v => { v with fire := .lockout, fireAt := s.tb.now, trigAt := none })
    if v.trigAt = some s.tb.now then s.bump (0x2200 + r) 0x2C else s
  else s

end Sys2Proof.Machine
end

