-- ==== Sys2Proof/Machine/Droop.lean ====
section
/-! DEFINITION. The Droop Defence Unit (05): reports, levels and their actions, releases, excursion windows, tap failures,
and the ports of OXS-D and OXS-C (17 R404 to R406). -/

namespace Sys2Proof.Machine

/-! ### Groups and thresholds -/

def State.group (s : State) (g : Nat) : TapGroup := tget s.groups g {}

/-- Thermal region of a tap group (0x2440+g:02). -/
def State.groupRegion (s : State) (g : Nat) : Nat := s.obj (0x2440 + g) 2

/-- Domain band: the highest band among the regions of the domain's tap groups (09 R232). -/
def State.domainBand (s : State) (d : Nat) : Nat :=
  ((s.domainGroups d).map (fun g => (s.region (s.groupRegion g)).band)).foldl max 0

/-- Threshold of a band in the set of a group: 0 MILD, 1 DEEP, 2 SEVERE (05 R124). -/
def State.threshold (s : State) (g band kind : Nat) : Nat := s.obj (0x2440 + g) (6 + 3 * band + kind)

/-- A group takes the thresholds of its region's present band (05 R125, 01 R18). -/
def State.groupBand (s : State) (g : Nat) : State :=
  let b := (s.region (s.groupRegion g)).band
  let v : TapGroup := { band := b, mild := s.threshold g b 0, deep := s.threshold g b 1, severe := s.threshold g b 2 }
  { s with groups := tset s.groups g v }

/-- A tap whose reports are used: VALID or SUSPECT (05 Tap states). -/
def TapSt.used : TapSt → Bool
  | .valid | .suspect => true
  | _ => false

/-- Whether a group is blind: its domain is power-good, its census has decided its taps, and none of them is valid
(05 R138). -/
def State.groupBlind (s : State) (g : Nat) : Bool :=
  let d := s.groupDomain g
  d < 32 && (s.domain d).good && (s.domain d).censusDone && !((s.groupTaps g).any (fun t => (s.tap t).st.used))

def State.domainBlind (s : State) (d : Nat) : Bool := (s.domainGroups d).any s.groupBlind

/-- od_thr of a group (17 R405). -/
def State.odThr (s : State) (g : Nat) : Nat := (s.group g).deep * 64 + (s.group g).severe

/-- od_cfg of a tap (17 R405). -/
def State.odCfg (s : State) (t : Nat) : Nat :=
  if s.tapCount ≤ t then 3
  else
    match (s.tap t).st with
    | .valid | .suspect => 0
    | .masked | .missing | .unused => 3
    | .unassigned | .idle | .sense => if s.gov.st == .boot || s.gov.st == .off then 3 else 1

/-- Parameter A of the droop pins (12 R307). -/
def State.droopPa (s : State) (d t : Nat) : Nat :=
  d * 2 ^ 56 + t * 2 ^ 47 + s.tapGroup t % 64 * 2 ^ 41 + (s.droop d).lowest * 2 ^ 35
    + (match (s.domain d).st with
      | .unused => 0 | .off => 1 | .waking => 2 | .settling => 3 | .on => 4 | .draining => 5 | .gating => 6
      | .faulted => 7) * 2 ^ 32

/-- The blind cause of a domain follows its groups; a blind domain keeps one step of stretch (05 R138). -/
def State.blindCheck (s : State) (d : Nat) : State :=
  if s.domainBlind d then
    let v := s.droop d
    let s := s.setDroop d { v with
      stretch := max v.stretch 1
      oxsc := max v.oxsc 1
      stretched := if v.stretched.isNone then some s.tb.now else v.stretched
      stretchFrom := if v.stretched.isNone then s.tb.now else v.stretchFrom }
    let s := s.unlearn (s.droopRail d) 4
    s.raiseCause 20 2 d 0 (s.droopPa d 0)
  else s.dropCause 20 2 d

/-! ### Windows -/

/-- A window reaches its close count: its Daybook record, or the suppressed count (05 R132). -/
def State.closeWindow (s : State) (d : Nat) (w : Window) (closed : Nat) : State :=
  let f := s.frameOf w.opened
  let len := ((closed : Int) - w.opened).toNat
  let cause := natOfBool w.droop + 2 * natOfBool w.thermal
  let pa := f.1 * 2 ^ 16 + f.2 * 2 ^ 6 + w.deepest * 2 ^ 4 + cause * 2 ^ 2
  let pb := d * 2 ^ 40 + w.tap * 2 ^ 31 + w.lowest * 2 ^ 25 + min len (2 ^ 25 - 1)
  let s := s.modDroop d (fun v => { v with window := none })
  if s.windowRecs < s.obj 0x2400 0x0B then
    let s' := s.record 0x0210 pa pb false
    { s' with windowRecs := s.windowRecs + 1 }
  else s.bump 0x2400 0x0C

/-- A DEEP or SEVERE event or a thermal request opens the domain's window or extends the one that stands
(05 R132). -/
def State.openWindow (s : State) (d deepest : Nat) (thermal : Bool) : State :=
  let now := s.tb.now
  let opened : Int := (now : Int) - (s.cyc 0x2400 1 : Int)
  let s := match (s.droop d).window with
    | some w => (match w.closed with
      | some c => if (c : Int) < opened then s.closeWindow d w c else s
      | none => s)
    | none => s
  match (s.droop d).window with
  | some w =>
    s.modDroop d (fun v => { v with window := some { w with
      closed := none, droop := w.droop || !thermal, thermal := w.thermal || thermal, deepest := max w.deepest deepest } })
  | none =>
    let w : Window := { opened := opened, droop := !thermal, thermal := thermal, deepest := deepest, post := s.cyc 0x2400 2 }
    let s := s.modDroop d (fun v => { v with window := some w })
    (s.bump (0x2410 + d) 0x0A).windowNotice d opened

/-- The end of a domain event: freeze and droop stretch have both been released (05 R127 to R132). -/
def State.endEvent (s : State) (d : Nat) : State :=
  if (s.droop d).frozen.isNone && (s.droop d).stretch = 0 then s.finishEvent d else s

/-! ### Levels and their actions -/

/-- Whether the AVS back-off is suspended: a margin sweep of the rail runs in SERVICE (04 R94, 05 R140). -/
def State.sweeping (s : State) (r : Nat) : Bool :=
  s.gov.st == .service && s.assayer.sweep.status = 1 && s.assayer.sweep.rail = r

/-- A DEEP or SEVERE event: back-off, window, capture trigger, and the sweep's mark (05 R127, 04 R93, 11 R288). -/
def State.deepEvent (s : State) (d level : Nat) : State :=
  let r := s.droopRail d
  let s := if s.sweeping r then
      { s with assayer := { s.assayer with sweep := { s.assayer.sweep with events := d :: s.assayer.sweep.events } } }
    else s.modRail r (fun v => { v with backOff := true })
  let s := s.openWindow d level false
  s.captureEvent 3 d

/-- A rise into SEVERE: one fire request, and the SEVERE count of the H-frame (05 R127, Tap failures table). -/
def State.severeEvent (s : State) (d : Nat) : State :=
  let s := (s.bump (0x2410 + d) 7).modDroop d (fun v => { v with severeH := v.severeH + 1 })
  let s := s.fireTrigger (s.droopRail d)
  if (s.droop d).severeH = s.obj 0x2400 0x0A + 1 then s.trigger 22 2 d 0 (s.droopPa d (s.droop d).lowTap) else s

/-- The actions of an indication at a level: freeze, stretch, and, on a rise, the event's actions (05 R127 to R129). The
freeze counts from the cycle in which it governs GRANT decisions, 2 after the report (05 Response times). A rise into DEEP
or SEVERE restarts both clearance counts. -/
def State.indicate (s : State) (d level : Nat) : State :=
  if level = 0 then s
  else
    let now := s.tb.now
    let v := s.droop d
    let old := v.level
    let stretch := if level = 3 then 4 else if level = 2 then max v.stretch 1 else v.stretch
    let s := s.setDroop d { v with
      level := level
      active := true
      deepest := max v.deepest level
      frozen := if v.frozen.isSome then v.frozen else some (now + 2)
      frozenFrom := if v.frozen.isSome then v.frozenFrom else now + 2
      long := if v.frozen.isSome then v.long else false
      stretch := stretch
      stood := v.stood || 1 < stretch
      stretched := if v.stretched.isSome || stretch = 0 then v.stretched else some now
      stretchFrom := if v.stretched.isSome || stretch = 0 then v.stretchFrom else now
      oxsc := max v.oxsc stretch
      fast := if v.fast ≤ stretch then 0 else v.fast
      indicAt := if 2 ≤ level then some now else v.indicAt
      badMild := now
      badDeep := if 2 ≤ level then now else v.badDeep
      badSevere := if level = 3 || (level = 2 && old < 2) then now else v.badSevere }
    let s := s.unlearn (s.droopRail d) 4
    let s := if old < level && 2 ≤ level then s.deepEvent d level else s
    if old < level && level = 3 then s.severeEvent d else s

/-- Level of the domain from the latest reports of its valid taps (05 Levels and actions). -/
def State.domainLevel (s : State) (d : Nat) : Nat :=
  (((s.domainTaps d).filter (fun t => (s.tap t).st.used)).map (fun t => (s.tap t).reach)).foldl max 0

/-- A level that a line has latched and that has no matching report is an event at that level (05 R128). -/
def State.fastOnly (s : State) (d : Nat) : State :=
  let v := s.droop d
  if v.fast = 0 then s
  else
    let s := (s.modDroop d (fun v => { v with fast := 0 })).bump (0x2410 + d) 0x18
    s.indicate d (if v.fast = 4 then 3 else 2)

/-- The reports of the cycle of a latch, which arrive 6 cycles after it, have all come and none has matched it (05 R120,
R128). -/
def State.fastLate (s : State) (d : Nat) : State :=
  if (s.droop d).fastAt + 6 < s.tb.now then s.fastOnly d else s

/-- The level follows the reports: none, where the report that gave it is no longer there (05 Levels and actions). -/
def State.relevel (s : State) (d : Nat) : State := s.modDroop d (fun v => { v with level := s.domainLevel d })

/-- A tap is masked by a lasting fault (05 R134, R136); its group may become blind. -/
def State.maskTap (s : State) (t : Nat) : State :=
  let d := s.tapDomain t
  let s := s.modTap t (fun p => { p with
    st := .masked, suspect := 0, agreed := none, parityBad := false, reach := 0, maskedAt := some s.tb.now })
  let s := s.trigger 18 2 d 0 (s.droopPa d t)
  if d < 32 then (s.relevel d).blindCheck d else s

/-! ### Reports -/

/-- Number of ones of a word. -/
def ones (n w : Nat) : Nat := ((List.range n).filter (bit w)).length

/-- Even parity over the report and the sense voltage (17 R404). -/
def reportParity (rep : BitVec 10) (volts : BitVec 16) : Bool := (ones 10 rep.toNat + ones 16 volts.toNat) % 2 == 0

/-- Level that a report reaches under the thresholds of its group (05 Levels and actions, R120). -/
def reachOf (g : TapGroup) (code : Nat) (deepSeen severeSeen : Bool) : Nat :=
  if severeSeen || code ≤ g.severe then 3 else if deepSeen || code ≤ g.deep then 2 else if code ≤ g.mild then 1 else 0

/-- The lowest code of an open window and the tap that gave it (05 R132). -/
def Droop.note (v : Droop) (now t code : Nat) : Droop :=
  match v.window with
  | some w =>
    if code < w.lowest && (w.closed.all (fun c => now ≤ c)) then
      { v with window := some { w with lowest := code, tap := t } }
    else v
  | none => v

/-- A valid, parity-correct report of a valid tap is used (05 R127 to R130, R132, R133). The request lines are as its
captures drove them. -/
def State.useReport (s : State) (t d code : Nat) (deepSeen severeSeen : Bool) : State :=
  let g := s.group (s.tapGroup t)
  let hyst := s.obj 0x2400 3
  let now := s.tb.now
  let reach := reachOf g code deepSeen severeSeen
  let s := s.modTap t (fun p => { p with
    code := code, sum := p.sum + code, count := p.count + 1, reach := reach })
  let s := s.modDroop d (fun v => { v with
    lowest := if code < v.lowest then code else v.lowest
    lowTap := if code < v.lowest then t else v.lowTap
    fLow := min v.fLow code
    badMild := if code ≤ g.mild + hyst then now else v.badMild
    badDeep := if code ≤ g.deep + hyst || deepSeen || severeSeen then now else v.badDeep
    badSevere := if code ≤ g.severe + hyst || severeSeen then now else v.badSevere })
  let level := s.domainLevel d
  let s := if reach = level && level != 0 then s.indicate d level else s.relevel d
  let s := s.modDroop d (fun v => { v.note now t code with lineDeep := 2 ≤ level, lineSev := level = 3 })
  s.fastLate d

/-- A report whose parity fails is discarded, one event of pin 23; a second in a row masks the tap (05 R134). -/
def State.badReport (s : State) (t : Nat) : State :=
  let s := s.dEvent 23
  if (s.tap t).parityBad then s.maskTap t else s.modTap t (fun p => { p with parityBad := true, reach := 0 })

/-- A discarded report of a tap whose reports are used: the clearance counts restart, and a latch that it should have
matched is an event (05 Release, R128, R134). -/
def State.discardReport (s : State) (t d : Nat) : State :=
  let now := s.tb.now
  let s := s.modDroop d (fun v => { v with badMild := now, badDeep := now, badSevere := now })
  ((s.badReport t).relevel d).fastOnly d

/-- A report that passes parity after one that did not: the event was transient (05 R134). -/
def State.goodParity (s : State) (t : Nat) : State :=
  if (s.tap t).parityBad then
    ((s.modTap t (fun p => { p with parityBad := false })).bump (0x2500 + t) 6).transient 18
  else s

/-- Consecutive good reports of a tap in its domain's census; 256 of them are not lost again (05 R137). -/
def State.censusReport (s : State) (t d : Nat) (good : Bool) : State :=
  let census : Bool := d < 32 && (s.domain d).censusEnd.isSome && !(s.domain d).censusDone
  s.modTap t (fun p => { p with run := if !census then 0 else if good || 256 ≤ p.run then p.run + 1 else 0 })

/-- DROOP_REPORT (05 R120, R127, R128, R134, R137). -/
def execDroopReport (tap : Nat) (rep : BitVec 10) (volts : BitVec 16) (s : State) : Host.Outcome State Fault Refusal :=
  if s.tapCount ≤ tap then .next s
  else
    let ok := reportParity rep volts
    let valid := rep.getLsbD 6 && ok
    let code := rep.toNat % 64
    let d := s.tapDomain tap
    let s := s.modTap tap (fun p => { p with volts := if ok then volts else p.volts })
    match (s.tap tap).st with
    | .valid | .suspect =>
      if !ok then .next (s.discardReport tap d)
      else
        let s := s.goodParity tap
        if valid then .next (s.useReport tap d code (rep.getLsbD 7) (rep.getLsbD 8))
        else .next (((s.modTap tap (fun p => { p with reach := 0 })).relevel d).fastLate d)
    | .idle => .next (s.censusReport tap d valid)
    | .masked | .missing =>
      let s := s.censusReport tap d valid
      if d < 32 && !(s.domain d).good then .next s
      else
        let s := if ok then s else s.dEvent 23
        if d < 32 then .next (if (s.tap tap).maskedAt = some s.tb.now then s.fastOnly d else s.fastLate d) else .next s
    | .unused => .next (if ok then s else s.dEvent 23)
    | .sense | .unassigned =>
      if !ok then .next (s.badReport tap)
      else
        let s := s.goodParity tap
        .next (s.modTap tap (fun p => { p with
          code := if valid then code else p.code, seen := p.seen || valid }))

/-- FAST_PATH_STRETCH (05 R123, R126, 17 R405, R406): od_deep or od_sev, which only a VALID or SUSPECT tap of a
power-good domain drives, latches a level in the domain's cell. The domain's clock is stretched from here on. -/
def execFastPathStretch (domain : Nat) (sev : Bool) (s : State) : Host.Outcome State Fault Refusal :=
  if s.domainUsed domain && (s.domain domain).good && !s.forcedOff
      && (s.domainTaps domain).any (fun t => (s.tap t).st.used) then
    let lvl := if sev then 4 else 1
    let now := s.tb.now
    let set := s.ocSet domain
    let s := s.unlearn (s.droopRail domain) 4
    .next (s.modDroop domain (fun v => { v with
      oxsc := max v.oxsc lvl
      lineDeep := true
      lineSev := v.lineSev || sev
      fast := if set < lvl then max v.fast lvl else v.fast
      fastAt := if set < lvl && v.fast < lvl then now else v.fastAt
      stretched := if v.stretched.isNone then some now else v.stretched
      stretchFrom := if v.stretched.isNone then now else v.stretchFrom }))
  else .next s

/-! ### Release -/

/-- The core commands a droop stretch. The latch follows, unless a line holds it: then the stretch stays and the core
repeats the command in the next cycle (05 R129, 17 R406). The cycle of the command to 0 is still a stretched one. -/
def State.command (s : State) (d stretch : Nat) (deepLine sevLine : Bool) : State :=
  let s := s.modDroop d (fun v => { v with lineDeep := deepLine, lineSev := sevLine })
  let v := s.droop d
  let want := max (max stretch (s.safeStretch d)) v.fast
  if s.strobeHeld d want then s
  else
    let w := v.account s.tb.now
    let ends : Bool := stretch = 0 && v.fast = 0
    (s.setDroop d { w with
      stretch := stretch
      stood := if stretch = 0 then false else v.stood
      stretched := if ends then none else v.stretched
      stretchedH := if ends && v.stretched.isSome then w.stretchedH + 1 else w.stretchedH
      stepAt := s.tb.now
      oxsc := want }).endEvent d

/-- Instant of a release step that is due at `t`: a DEEP or SEVERE indication of that cycle wins, and the step waits for
the next step interval (05 R139). -/
def State.stepTime (s : State) (d t : Nat) : Nat :=
  let t := max s.tb.now t
  if (s.droop d).indicAt = some t then t + s.obj 0x2400 5 else t

/-- First cycle after the release time in which a threshold, last not cleared at `bad`, is clear (05 Release). -/
def State.clearAt (s : State) (bad : Nat) : Nat := bad + s.obj 0x2400 4 + 1

/-- First step interval after the last step at which the domain is also clear of DEEP (05 R129). -/
def State.lastStep (s : State) (d : Nat) : Nat :=
  let v := s.droop d
  let n := max 1 (ceilDiv (s.clearAt v.badDeep - v.stepAt) (s.obj 0x2400 5))
  v.stepAt + n * s.obj 0x2400 5

/-- STRETCH_RELEASE_STEP (05 R129, R138, R139). -/
def execStretchReleaseStep (domain : Nat) (deepLine sevLine : Bool) (s : State) :
    Host.Outcome State Fault Refusal :=
  let v := s.droop domain
  let due := v.stepAt + s.obj 0x2400 5
  if 4 ≤ v.stretch then
    .next ((s.atTime (s.stepTime domain (s.clearAt v.badSevere))).command domain 3 deepLine sevLine)
  else if 2 ≤ v.stretch then
    .next ((s.atTime (s.stepTime domain due)).command domain (v.stretch - 1) deepLine sevLine)
  else if v.stretch = 1 then
    if s.domainBlind domain then .next s
    else if v.stood then
      .next ((s.atTime (s.stepTime domain (s.lastStep domain))).command domain 0 deepLine sevLine)
    else .next ((s.atTime (s.clearAt v.badDeep)).command domain 0 deepLine sevLine)
  else .next (s.command domain 0 deepLine sevLine)

/-- FREEZE_RELEASE (05 R130). -/
def execFreezeRelease (domain : Nat) (s : State) : Host.Outcome State Fault Refusal :=
  let v := s.droop domain
  if v.frozen.isSome then
    let s := s.atTime (v.badMild + s.obj 0x2400 6 + 1)
    let w := v.account s.tb.now
    .next ((s.setDroop domain { w with frozen := none, level := 0 }).endEvent domain)
  else .next s

/-- LONG_FREEZE (05 R130): the source is raised once in a freeze, which continues. -/
def execLongFreeze (domain : Nat) (s : State) : Host.Outcome State Fault Refusal :=
  let v := s.droop domain
  match v.frozen with
  | some t =>
    if v.long then .next s
    else
      let s := (s.atTime (t + s.cyc 0x2400 9)).setDroop domain { v with long := true }
      .next (s.trigger 21 2 domain 0 (s.droopPa domain v.lowTap))
  | none => .next s

/-- EXCURSION_WINDOW_CLOSE (05 R132). -/
def execExcursionWindowClose (domain : Nat) (s : State) : Host.Outcome State Fault Refusal :=
  match (s.droop domain).window with
  | some w => (match w.closed with
    | some c => .next ((s.atTime c).closeWindow domain w c)
    | none => .next s)
  | none => .next s

/-! ### Disagreement -/

/-- TAP_DISAGREEMENT (05 R135): three F-frames make a tap SUSPECT, its retry F-frame decides. -/
def execTapDisagreement (tap : Nat) (s : State) : Host.Outcome State Fault Refusal :=
  let p := s.tap tap
  match p.st, p.agreed with
  | .valid, _ =>
    if 3 ≤ p.suspect then
      .next ((s.setTap tap { p with st := .suspect, suspect := 0, agreed := none }).bump (0x2500 + tap) 5)
    else .next s
  | .suspect, some true =>
    .next (((s.setTap tap { p with st := .valid, agreed := none }).bump (0x2500 + tap) 6).transient 18)
  | .suspect, some false => .next (s.maskTap tap)
  | _, _ => .next s

/-- Ascending insertion. -/
def insertNat (x : Nat) : List Nat → List Nat
  | [] => [x]
  | y :: rest => if x ≤ y then x :: y :: rest else y :: insertNat x rest

def sortNat (l : List Nat) : List Nat := l.foldr insertNat []

/-- Twice the median of a list; of an even number of values the mean of the middle two. -/
def median2 (l : List Nat) : Nat :=
  let m := sortNat l
  let n := m.length
  if n = 0 then 0
  else if n % 2 = 1 then 2 * m.getD (n / 2) 0 else m.getD (n / 2 - 1) 0 + m.getD (n / 2) 0

/-- Absolute difference. -/
def absDiff (a b : Nat) : Nat := (a - b) + (b - a)

/-- F-frame means of one group compared with their median (05 R135). The means are exact: each is taken in units of the
reciprocal of the product of the counts. -/
def State.compareGroup (s : State) (g : Nat) : State :=
  let l := (s.groupTaps g).filter (fun t => (s.tap t).st.used && 84 ≤ (s.tap t).count)
  let unit := (l.map (fun t => (s.tap t).count)).foldl (· * ·) 1
  let mean := fun t => (s.tap t).sum * (unit / (s.tap t).count)
  let med := median2 (l.map mean)
  let lim := 2 * s.obj 0x2400 8 * unit
  each l (fun s t => s.modTap t (fun p =>
    let agree : Bool := absDiff (2 * mean t) med ≤ lim
    if p.st == .suspect then { p with agreed := some agree }
    else { p with suspect := if agree then 0 else p.suspect + 1 })) s

/-- F-frame tick of the unit: latches without a matching report, means and comparison, histogram, then thresholds of the
bands in force (05 R125, R128, R133, R135). -/
def State.droopFrame (s : State) : State :=
  let s := each s.domainsUsed State.fastLate s
  let s := each ((List.range 64).filter (fun g => s.groupDomain g < 32)) (fun s g => (s.compareGroup g).groupBand g) s
  let s : State := { s with taps := s.taps.map (fun p => (p.1,
    { p.2 with mean := if p.2.count = 0 then p.2.mean else p.2.sum / p.2.count, sum := 0, count := 0 })) }
  { s with droops := s.droops.map (fun p => (p.1,
    if p.2.fLow < 64 then
      { p.2 with fLow := 64, hist := p.2.hist.set (p.2.fLow / 8) (p.2.hist.getD (p.2.fLow / 8) 0 + 1) }
    else p.2)) }

/-- H-frame tick of a domain: snapshot written in full, its sequence last, the running statistics restart (05 R133).
DESIGN CHOICE (log 132): the spec does not say what 0x2410+d:17 does past 2^32 - 1, and here it stays there. -/
def State.droopSnapshot (s : State) (d : Nat) : State :=
  let v := (s.droop d).account s.tb.now
  let s := (s.bump64 (0x2410 + d) 8 v.frozenH).bump64 (0x2410 + d) 9 v.stretchedH
  s.setDroop d { v with
    sLowest := v.lowest, sTap := v.lowTap, sHist := v.hist, sMild := v.evMild, sDeep := v.evDeep, sSevere := v.evSevere
    sFrozen := v.frozenH, sStretched := v.stretchedH, sSeq := satU 32 (v.sSeq + 1)
    lowest := 63, lowTap := 0, hist := [0, 0, 0, 0, 0, 0, 0, 0], evMild := 0, evDeep := 0, evSevere := 0
    frozenH := 0, stretchedH := 0, severeH := 0 }

end Sys2Proof.Machine
end

