-- ==== Sys2Proof/Machine/Sensors.lean ====
section
/-! DEFINITION. Temperature sensors and what is formed from them: reads, values and covers, regions and bands, thresholds,
the staircase, coolant validity, the restart criterion (09, 17 R407 to R409). The commands are in Thermal.lean. -/

namespace Sys2Proof.Machine

/-! ### Sensors -/

/-- Object of a sensor: on-die 0 to 255, stacks 256 to 271, external 272 to 287. -/
def sensorObj (n : Nat) : Nat := if n < 256 then 0x3100 + n else if n < 272 then 0x3200 + (n - 256) else 0x3210 + (n - 272)

/-- Kind of a sensor: 0 on-die, 1 memory stack, 2 external. -/
def sensorKind (n : Nat) : Nat := if n < 256 then 0 else if n < 272 then 1 else 2

/-- Threshold object of a kind. -/
def kindObj (k : Nat) : Nat := 0x3001 + k

/-- Region of a sensor, 0xFF for none. An unset object of the image reads as none. -/
def State.sensorRegion (s : State) (n : Nat) : Nat := (stored s.od (sensorObj n) 1).getD 0xFF

/-- Conversion of an external sensor. -/
def State.extSensor (s : State) (n : Nat) : Option ExtSensor := s.desc.external.find? (fun e => e.sensor == n - 272)

/-- Whether the descriptor uses a sensor. -/
def State.sensorUsed (s : State) (n : Nat) : Bool :=
  if n < 272 then s.sensorRegion n < 64 else n < 288 && (s.extSensor n).isSome

/-- Whether a stack's supply rail is power-good (R248). -/
def State.stackUp (s : State) (k : Nat) : Bool :=
  match assoc s.desc.stackSupply k with
  | some r => (s.rail r).good
  | none => false

/-- State of a sensor: a stack in use is OFF while its supply rail is not power-good (R248). -/
def State.sensorSt (s : State) (n : Nat) : SensSt :=
  if sensorKind n = 1 && s.sensorUsed n && !s.stackUp (n - 256) then .off else (s.sensor n).st

/-- Sensors of the descriptor, ascending. -/
def State.sensorsUsed (s : State) : List Nat := (List.range 288).filter s.sensorUsed

/-- A TEMP of 16 bits within −40 °C to 150 °C (R222). -/
def tempOk (v : Nat) : Option Int := let t := toSigned 16 v; if -2560 ≤ t && t ≤ 9600 then some t else none

/-- Even parity of a word. -/
def evenOnes (n w : Nat) : Bool := (ones n w) % 2 == 0

/-- Reading of an OXS-T report: valid, TEMP, parity (17 R407). -/
def onDieReading (w : BitVec 18) : Option Int :=
  if evenOnes 18 w.toNat && w.getLsbD 17 then tempOk (bits w.toNat 16 1) else none

/-- Reading of a memory-stack word: parity, valid, TEMP (17 R408). -/
def stackReading (w : BitVec 18) : Option Int :=
  if evenOnes 18 w.toNat && w.getLsbD 16 then tempOk (bits w.toNat 15 0) else none

/-- Parameter A of pins 32 to 42 (12 R307). -/
def State.thermalPa (s : State) (n : Nat) (v : Int) : Nat :=
  n * 2 ^ 48 + ofSigned 16 v * 2 ^ 32 + s.sensorRegion n % 256 * 2 ^ 24 + s.thermal.f * 2 ^ 16

/-- The thermal census finds a sensor missing (R224). -/
def State.sensorMissing (s : State) (n : Nat) : State :=
  (s.modSensor n (fun v => { v with st := .missing, fresh := false })).trigger 37 3 (s.sensorRegion n) 0 (s.thermalPa n 0)

/-- A read that has counted towards the census of a sensor; the third one ends it (R224). -/
def State.censusRead (s : State) (n : Nat) (good : Bool) : State :=
  let v := s.sensor n
  if sensorKind n = 1 || 3 ≤ v.reads then s
  else
    let s := s.setSensor n { v with reads := v.reads + 1, bad := v.bad || !good }
    if v.reads = 2 && (v.bad || !good) then s.sensorMissing n else s

/-- A read succeeds, alone or through its retry (R222, R223, R227). `restart` tells that a re-arm waited for it. -/
def State.readGood (s : State) (n : Nat) (t : Int) (retried restart : Bool) : State :=
  let s := if retried then (s.bump (sensorObj n) 9).transient 43 else s
  let s := s.modSensor n (fun v => { v with
    reading := t
    fresh := true
    fails := 0
    st := match v.st with
      | .quarantined | .failed | .missing => if restart then .valid else v.st
      | .unassigned | .off | .valid | .stale => .valid
      | .unused => .unused })
  s.censusRead n true

/-- A failed read counts (R222, R223, R227). -/
def State.readBad (s : State) (n : Nat) (restart : Bool) : State :=
  let s := (s.bump (sensorObj n) 0x0A).dEvent 43
  let v := s.sensor n
  let third : Bool := v.fails = 2
  let st : SensSt := match v.st with
    | .quarantined | .missing => if restart then .failed else v.st
    | .valid | .stale => if third then .failed else .stale
    | st => st
  let s := s.setSensor n { v with fails := v.fails + 1, fresh := false, st := st }
  let s := if st == .failed && v.st != .failed && third && !restart then
      s.trigger 36 3 (s.sensorRegion n) 0 (s.thermalPa n v.reading)
    else s
  s.censusRead n false

/-! ### Values and regions (R225) -/

/-- Neighbours of an on-die sensor and their weights: six pairs of sensor and weight. -/
def State.neighbours (s : State) (n : Nat) : List (Nat × Nat) :=
  let raw := s.obj (0x3100 + n) 6
  ((List.range 6).map (fun i => (raw / 256 ^ (2 * i) % 256, raw / 256 ^ (2 * i + 1) % 256))).filter (fun p => p.2 != 0)

def maxInt (l : List Int) : Option Int := match l with
  | [] => none
  | x :: rest => some (rest.foldl max x)

/-- Cover value of an on-die sensor. -/
def State.cover (s : State) (n : Nat) : Option Int :=
  if sensorKind n != 0 then none
  else
    let l := ((s.neighbours n).filter (fun p => s.sensorSt p.1 == .valid || s.sensorSt p.1 == .stale)).map
      (fun p => (s.sensor p.1).reading)
    (maxInt l).map (· + s.obj16 0x3000 1)

/-- Value in use of a sensor. -/
def State.sensorValue (s : State) (n : Nat) : Option Int :=
  match s.sensorSt n with
  | .valid | .stale => some (s.sensor n).reading
  | .quarantined | .failed | .missing => s.cover n
  | .off | .unassigned | .unused => none

/-- Class of a region: 0 logic, 1 memory, 0xFF unused; an unset object of the image reads as unused. -/
def State.regionClass (s : State) (g : Nat) : Nat := (stored s.od (0x3010 + g) 1).getD 0xFF

/-- The hottest of a list of sensors with values, the lowest number first. -/
def hottest (l : List (Nat × Int)) : Option (Nat × Int) :=
  l.foldl (fun b p => match b with
    | some x => if x.2 < p.2 then some p else some x
    | none => some p) none

/-- Sensors that have a value, with it. -/
def State.values (s : State) : List (Nat × Int) :=
  s.sensorsUsed.filterMap (fun n => (s.sensorValue n).map (fun v => (n, v)))

/-- Band boundary B_b of a region. -/
def State.boundary (s : State) (g b : Nat) : Int := s.obj16 (0x3010 + g) (5 + b)

/-- Band of a region at temperature `t` after band `cur` (R231). -/
def State.bandOf (s : State) (g cur : Nat) (t : Int) : Nat :=
  let up := ((List.range 7).filter (fun b => s.boundary g (b + 1) ≤ t)).foldl (fun m b => max m (b + 1)) 0
  if cur ≤ up then up
  else
    let h := s.obj16 0x3000 4
    (((List.range cur).filter (fun b => up ≤ b && t < s.boundary g (b + 1) - h)).head?).getD cur

/-- Whether a region is blind, given its temperature's validity (R225). A stack is readable unless it is OFF (R223). -/
def State.regionBlind (s : State) (g : Nat) : Bool :=
  s.gov.st.words && !(s.region g).valid &&
    (s.regionClass g == 0 || (s.regionClass g == 1 &&
      (List.range 16).any (fun k => s.sensorRegion (256 + k) == g && s.sensorSt (256 + k) != .off)))

/-- One region at a commit: temperature, hottest sensor, band (R225, R231). -/
def State.commitRegion (s : State) (vals : List (Nat × Int)) (g : Nat) : State :=
  let cur := (s.region g).band
  match hottest (vals.filter (fun p => s.sensorRegion p.1 == g)) with
  | some (n, t) => s.setRegion g { temp := t, valid := true, band := s.bandOf g cur t, hottest := n }
  | none => s.setRegion g { (s.region g) with valid := false, band := 7 }

/-- Regions in use. -/
def State.regionsUsed (s : State) : List Nat := (List.range 64).filter (fun g => s.regionClass g != 0xFF)

/-- A domain's band enters or leaves the near-limit set, or moves in a sweep (R233, 05 R132, 11 R288). -/
def State.bandMoved (s : State) (d old : Nat) : State :=
  let new := s.domainBand d
  let s := if old != new && s.assayer.sweep.status = 1 then
      { s with assayer := { s.assayer with sweep := { s.assayer.sweep with bands := d :: s.assayer.sweep.bands } } }
    else s
  if 6 ≤ new && old < 6 then (s.openWindow d 0 true).modDroop d (fun v => { v with thermal := true })
  else if new < 6 && 6 ≤ old then
    s.modDroop d (fun v =>
      let v := { v with thermal := false }
      if v.active && 2 ≤ v.deepest then v else v.fixClose s.tb.now)
  else s

/-! ### Thresholds (R228 to R230) -/

/-- Threshold of a kind: 0 warning, 1 throttle, 2 shutdown; and its hysteresis. -/
def State.threshOf (s : State) (k which : Nat) : Int := s.obj16 (kindObj k) (1 + 2 * which)
def State.threshHyst (s : State) (k which : Nat) : Int := s.obj16 (kindObj k) (2 + 2 * which)

/-- Sensors of a kind that reach a threshold. -/
def State.reaching (s : State) (vals : List (Nat × Int)) (k which : Nat) : List (Nat × Int) :=
  vals.filter (fun p => sensorKind p.1 == k && s.threshOf k which ≤ p.2)

/-- Whether a kind's threshold is cleared. -/
def State.cleared (s : State) (vals : List (Nat × Int)) (k which : Nat) : Bool :=
  (vals.filter (fun p => sensorKind p.1 == k)).all (fun p => p.2 < s.threshOf k which - s.threshHyst k which)

/-- The thermal-warning source follows one kind's warning threshold (R230). -/
def State.warnKind (s : State) (vals : List (Nat × Int)) (k : Nat) : State :=
  if thas s.thermal.warn k then
    if s.cleared vals k 0 then
      let g := tget s.thermal.warn k 0xFF
      let rest := s.thermal.warn.filter (fun p => p.1 != k)
      let s : State := { s with thermal := { s.thermal with warn := rest } }
      if rest.any (fun p => p.2 == g) then s else s.dropCause 32 3 g
    else s
  else
    match hottest (s.reaching vals k 0) with
    | some (n, v) =>
      let g := s.sensorRegion n
      let s : State := { s with thermal := { s.thermal with warn := tset s.thermal.warn k g } }
      s.raiseCause 32 3 g 0 (s.thermalPa n v)
    | none => s

/-! ### Staircase (R234 to R236) -/

/-- Package power of the last C-frame, mW. -/
def State.packagePower (s : State) : Nat := ((s.railsUsed.map (fun r => (s.rail r).power))).foldl (· + ·) 0

/-- Level at which the staircase engages (R234). -/
def State.engageLevel (s : State) : Nat :=
  let st := s.obj 0x3000 5
  let tdp := s.obj 0x2801 1
  let q := if tdp = 0 then 0 else s.packagePower * 100 / (st * tdp)
  min (100 - st) (max (s.obj 0x3000 7) (st * q - st))

/-- The staircase takes a new level; at 100 it is disengaged (R234, R235). -/
def State.setStair (s : State) (f : Nat) : State :=
  let was := s.thermal.f
  let s : State := { s with thermal := { s.thermal with f := min f 100, stepAt := s.tb.now } }
  if 100 ≤ f then s.dropCause 33 0 0
  else if was = 100 then s.raiseCause 33 0 0 0 (s.thermalPa s.thermal.hotSensor s.thermal.hotValue)
  else s

/-- The staircase at a commit. `blind`: some region is blind. A hot evaluation below the floor brings f up to it; such a step is
counted as one up (DESIGN CHOICE, log 134). -/
def State.staircase (s : State) (hot cool blind : Bool) : State :=
  let f := s.thermal.f
  let st := s.obj 0x3000 5
  let floor := s.obj 0x3000 7
  if blind then
    let want := min (if f = 100 && hot then s.engageLevel else f) (s.obj 0x3000 8)
    let s := if want < f then s.setStair want else s
    { s with thermal := { s.thermal with blind := true, stepAt := s.tb.now } }
  else
    let s : State := { s with thermal := { s.thermal with
      blind := false, stepAt := if s.thermal.blind then s.tb.now else s.thermal.stepAt } }
    if f = 100 then (if hot then s.setStair s.engageLevel else s)
    else if s.tb.now < s.thermal.stepAt + s.cyc 0x3000 6 then s
    else if hot then
      if f = floor then
        ({ s with thermal := { s.thermal with stepAt := s.tb.now } } : State).trigger 34 0 0 0
          (s.thermalPa s.thermal.hotSensor s.thermal.hotValue)
      else (s.setStair (max floor (f - st))).bump 0x3000 (if f < floor then 0x10 else 0x0F)
    else if cool then (s.setStair (f + st)).bump 0x3000 0x10
    else s

/-! ### Coolant (R237 to R240) -/

/-- Coolant data source: 0 none, 1 external, 2 management, 3 either. -/
def State.coolSource (s : State) : Nat := s.obj 0x3008 1

/-- Whether an update is recent enough. -/
def State.recent (s : State) (t : Option Nat) : Bool :=
  match t with
  | some t => s.tb.now < t + s.cyc 0x3008 2
  | none => false

/-- Whether coolant data is valid: a recent update from a selected source; for management data the flow must reach the
minimum, or the minimum be 0 (09 Coolant supervision). -/
def State.coolValid (s : State) : Bool :=
  (s.coolSource % 2 == 1 && s.recent s.thermal.coolExt)
    || (2 ≤ s.coolSource && s.recent s.thermal.coolMgmt && s.obj 0x3008 5 ≤ s.thermal.coolFlow)

/-- Whether some inlet's last reading is at or above the limit (R238, R240). -/
def State.inletHot (s : State) : Bool :=
  s.coolSource != 0 && s.thermal.inlets.any (fun p => s.obj16 0x3008 4 ≤ p.2)

/-- The time coolant data has been valid with its inlet below the limit starts or ends (R239). -/
def State.coolFollow (s : State) : State :=
  let good : Bool := s.coolValid && !s.inletHot
  { s with thermal := { s.thermal with
    coolSince := if good then (match s.thermal.coolSince with
      | some t => some t
      | none => some s.tb.now) else none } }

/-- An inlet reading from a selected source: external sensor `k`, or 16 for management, which has no sensor number (R238). -/
def State.inlet (s : State) (k : Nat) (t : Int) : State :=
  let s : State := { s with thermal := { s.thermal with inlets := tset s.thermal.inlets k t } }
  let pa := if k < 16 then s.thermalPa (272 + k) t else ofSigned 16 t * 2 ^ 32 + s.thermal.f * 2 ^ 16
  (s.followCause 40 0 0 s.inletHot 0 pa).coolFollow

/-- The no-coolant cap at the commit that finds data not valid in a state that needs it (R237). -/
def State.coolCommit (s : State) : State :=
  let s := s.coolFollow
  if s.coolSource = 0 then s
  else if s.gov.st.words && !s.coolValid && !s.thermal.coolCap then
    { s with thermal := { s.thermal with coolArm := some true } }
  else s

/-- The cap at the C-frame tick: a decision taken since takes effect, and it ends in states that do not need it. Answers
whether this is its first C-frame (06 R148). -/
def State.coolTick (s : State) (entered : Bool) : State × Bool :=
  let on : Bool := match s.thermal.coolArm with
    | some b => b
    | none => s.thermal.coolCap
  let on : Bool := (on || (entered && !s.coolValid)) && s.gov.st.words && s.coolSource != 0
  let was := s.thermal.coolCap
  let s : State := { s with thermal := { s.thermal with coolCap := on, coolArm := none } }
  if on && !was then ((s.bump 0x3008 0x0B).raiseCause 39 0 0 0 (s.thermal.f * 2 ^ 16), true)
  else if was && !on then (s.dropCause 39 0 0, false)
  else (s, false)

/-! ### Restart criterion (R244) -/

/-- Whether the reading of a sensor is used: it is VALID, or STALE, which is used like it (R223). -/
def State.readingUsed (s : State) (n : Nat) : Bool := s.sensorSt n == .valid || s.sensorSt n == .stale

/-- Every VALID or STALE on-die and external sensor reads below the restart temperature. -/
def State.restartCool (s : State) : Bool :=
  s.sensorsUsed.all (fun n => sensorKind n = 1 || !s.readingUsed n || (s.sensor n).reading < s.obj16 0x3000 0x0A)

/-- Each logic region in use has a VALID or STALE on-die sensor. -/
def State.restartCovered (s : State) : Bool :=
  (s.regionsUsed.filter (fun g => s.regionClass g == 0)).all (fun g =>
    (List.range 256).any (fun n => s.sensorRegion n == g && s.readingUsed n))

/-- The criterion at a commit in COOLDOWN, judged on the sensor states of `v` (R226, R244). -/
def State.criterion (s v : State) : State :=
  if s.gov.st == .cooldown then
    { s with gov := { s.gov with critSince :=
      if v.restartCool && v.restartCovered then (match s.gov.critSince with
        | some t => some t
        | none => some s.tb.now) else none } }
  else s

/-- Lowest of the cause codes of a trip (R243). -/
def lowestCode (causes : List Nat) : Nat := causes.foldl min 4

/-- Cause code in the record of a thermal trip: its causes in two bits each, the lowest lowest (R247; the form is a DESIGN
CHOICE, log 134). -/
def tripCode (causes : List Nat) : Nat :=
  let l := [1, 2, 3].filter causes.contains
  l.zipIdx.foldl (fun w p => w + p.1 * 4 ^ p.2) 0

/-- Causes that the cause code of a trip's record carries. -/
def tripCauses (code : Nat) : List Nat := [code % 4, code / 4 % 4, code / 16 % 4].filter (· != 0)

/-- The latch or escalation record of pin 35 written in this cycle carries further causes (R247). -/
def State.addCauses (s : State) (causes : List Nat) : State :=
  { s with recorder := { s.recorder with queue := s.recorder.queue.map (fun q =>
    if (q.record.code = 0x0123 || q.record.code = 0x0163) && q.record.time = s.tai then
      let old := q.record.pb / 2 ^ 24 % 256
      { q with record := { q.record with
        pb := q.record.pb - old * 2 ^ 24 + tripCode (tripCauses old ++ causes) * 2 ^ 24 } }
    else q) } }

/-- A thermal trip: cause, count and the thermal-shutdown source (R241 to R243). One that comes in the cycle in which TRIP has
been entered joins that trip; its record carries every thermal cause (R247). -/
def State.thermalTrip (s : State) (n : Nat) (v : Int) (causes : List Nat) : State :=
  if s.gov.st == .trip && s.gov.entered == s.tb.now then
    let s := if s.gov.tripCause = 4 then s.bump 0x3000 0x11 else s
    let s : State := { s with gov := { s.gov with tripCause := min s.gov.tripCause (lowestCode causes) } }
    if (s.pin 35).latched then (s.bump (0x5010 + 35) 0x0B).addCauses causes
    else s.trigger 35 0 0 (tripCode causes) (s.thermalPa n v)
  else
    let s := if s.gov.st == .trip || s.gov.st == .off then s
      else ({ s with gov := { s.gov with tripCause := lowestCode causes, tripAsked := true } } : State).bump 0x3000 0x11
    s.trigger 35 0 0 (tripCode causes) (s.thermalPa n v)

/-- The census of a stack starts when its supply rail becomes power-good (R224). -/
def State.stackCensus (s : State) (r : Nat) : State :=
  each ((List.range 16).filter (fun k => assoc s.desc.stackSupply k == some r && s.sensorUsed (256 + k))) (fun s k =>
    s.modSensor (256 + k) (fun v => { v with
      st := .off, reads := 0, fails := 0, bad := false, fresh := false, word := none, sampled := none
      censusEnd := some (s.tb.now + 1008000) })) s

end Sys2Proof.Machine
end

