-- ==== Sys2Proof/Machine/Assayer.lean ====
section
/-! DEFINITION. The Assayer's events: the request port, deadlines, contribution fences, known-answer runs and margin
sweeps (11 R270 to R289). -/

namespace Sys2Proof.Machine

/-! ### Requests and deadlines -/

/-- ASSAY_REQUEST_TRANSFER (17 R413): the oldest queued word leaves. -/
def execAssayRequestTransfer (s : State) : Host.Outcome State Fault Refusal :=
  match s.assayer.requests with
  | w :: rest => if s.tb.gclk then .next { s with assayer := { s.assayer with sent := w, requests := rest } } else .next s
  | [] => .next s

/-- DUPLICATE_DEADLINE (R273): the entry ends UNASSAYED. -/
def execDuplicateDeadline (entry : Nat) (s : State) : Host.Outcome State Fault Refusal :=
  match s.entry? entry with
  | some e =>
    match e.deadline with
    | some t => if e.st == .comparing then .next (((s.atTime t).unassayed entry e 6).pumpRun) else .next s
    | none => .next s
  | none => .next s

/-- Whether the safe point of an entry is reached: its rail's setpoint is at its target (R275). -/
def State.atSafePoint (s : State) (e : Entry) : Bool :=
  match e.third with
  | some a => e.st == .settling && ((s.rail (s.arrayRail a)).setpoint : Int) == s.setpointTarget (s.arrayRail a)
  | none => false

/-- THIRD_EXECUTION_REQUEST (R275): the first entry at its safe point is sent. A request sent again keeps its deadline
(R277). -/
def execThirdExecutionRequest (s : State) : Host.Outcome State Fault Refusal :=
  match s.assayer.entries.find? (fun p => s.atSafePoint p.2) with
  | some (k, e) =>
    let t := e.thirdDeadline.getD (s.tb.now + s.cyc 0x6000 4)
    let s := s.setEntry k { e with st := .third, thirdDeadline := some t }
    .next (s.request (requestWord 2 (e.third.getD 0) e.origin e.ring e.tag 0 0))
  | none => .next s

/-- THIRD_DEADLINE (R275, R276): the outcome is INDETERMINATE. -/
def execThirdDeadline (entry : Nat) (s : State) : Host.Outcome State Fault Refusal :=
  match s.entry? entry with
  | some e =>
    match e.thirdDeadline with
    | some t =>
      .next ((((s.atTime t).indeterminate entry e).startWaiting 64).pumpRun)
    | none => .next s
  | none => .next s

/-- An array's quarantine ends: its lost-vote history is cleared, its cause ends with the last of its domain (R278). -/
def State.endQuarantine (s : State) (a : Nat) : State :=
  if !s.quarantined a then s
  else
    let d := (s.arrayDomain a).getD 32
    let s := s.modArray a (fun v => { v with quarantined := false })
    let s : State := { s with assayer := { s.assayer with
      qcause := tset s.assayer.qcause a 0, lost := tset s.assayer.lost a [] } }
    if s.arrays.any (fun p => p.2.quarantined && (s.arrayDomain p.1).getD 32 == d) then s else s.dropCause 49 2 d

/-- A peer report: counted, recorded, its source raised (R283). -/
def State.peerReported (s : State) (w : Nat) : State :=
  ((s.bump 0x6004 2).record 0x0224 w 0 false).trigger 51 0 0 0 0

/-! ### Fences (R281, R282) -/

/-- Covered groups of an interval that are not resolved. -/
def State.unresolved (s : State) (window : Nat) : Nat :=
  (s.assayer.entries.filter (fun p => p.2.window == window)).length
    + (s.assayer.groups.filter (fun g => g.window == window && s.taggable g)).length

/-- XOR of bytes 1 to 7 of a word, XOR 0xA5. -/
def fenceCheck (w : Nat) : Nat := (List.range 7).foldl (fun c i => c ^^^ (w / 256 ^ (i + 1) % 256)) 0xA5

/-- Status word of a fence. -/
def fenceStatus (id mode complete degraded pending failed unassayed : Nat) : W64 :=
  let w := id * 2 ^ 48 + mode * 2 ^ 46 + complete * 2 ^ 45 + degraded * 2 ^ 44 + min pending 4095 * 2 ^ 32
    + min failed 4095 * 2 ^ 20 + min unassayed 4095 * 2 ^ 8
  BitVec.ofNat 64 (w + fenceCheck w)

/-- A status word leaves on cf_st. -/
def State.sendStatus (s : State) (w : W64) : State :=
  ({ s with assayer := { s.assayer with status := w } } : State).bump 0x6001 0x0F

/-- CONTRIBUTION_FENCE (R281, R282, R290, 17 R414): the fence closes an interval of GRANT decisions, that of its arrival cycle the
last; it is answered at once except in gated mode. -/
def execContributionFence (id : BitVec 16) (s : State) : Host.Outcome State Fault Refusal :=
  if !s.tb.gclk then .next s
  else if s.cfg != .full then
    .next { s with assayer := { s.assayer with status := fenceStatus id.toNat 2 1 0 0 0 0 } }
  else
    let w := s.assayer.fenceWindow
    let failed := s.assayer.openFailed
    let un := s.assayer.openUnassayed
    let deg := natOfBool s.degraded
    let now := s.frameOf s.tb.now
    let later (c g : Nat) : Bool := now.1 < c || (now.1 == c && now.2 < g)
    let s : State := { s with assayer := { s.assayer with
      fenceWindow := w + 1
      openFailed := 0
      openUnassayed := 0
      entries := s.assayer.entries.map (fun p =>
        if p.2.window != w then p
        else (p.1, if later p.2.grant p.2.grantG then { p.2 with window := w + 1 } else { p.2 with fence := some id.toNat }))
      groups := s.assayer.groups.map (fun g =>
        if g.window != w then g
        else if later g.grant g.grantG then { g with window := w + 1 } else { g with fence := some id.toNat }) } }
    let pend := s.unresolved w
    if 16 ≤ s.assayer.fences.length then .next (s.sendStatus (fenceStatus id.toNat 3 0 deg pend failed un))
    else if s.flag 0x6000 7 then
      .next { s with assayer := { s.assayer with fences := s.assayer.fences
        ++ [{ id := id.toNat, window := w, failed := failed, unassayed := un }] } }
    else .next (s.sendStatus (fenceStatus id.toNat 0 (natOfBool (pend = 0)) deg pend failed un))

/-- FENCE_ANSWER (R282): the first gated fence whose covered groups are all resolved is answered. -/
def execFenceAnswer (s : State) : Host.Outcome State Fault Refusal :=
  match s.assayer.fences.find? (fun f => s.unresolved f.window = 0) with
  | some f =>
    let s : State := { s with assayer := { s.assayer with fences := s.assayer.fences.filter (· != f) } }
    .next (s.sendStatus (fenceStatus f.id 1 1 (natOfBool s.degraded) 0 f.failed f.unassayed))
  | none => .next s

/-! ### Known-answer runs (R287) -/

/-- Whether a run, a sweep or an injection is in progress. -/
def State.serviceBusy (s : State) : Bool :=
  s.assayer.run.active || s.assayer.sweep.status = 1 || s.injector.status = 1 || s.injector.status = 2

/-- A run over arrays and library entries; the invalid and the absent are left out. -/
def State.beginRun (s : State) (arrays kernels : List Nat) (sweep votes : Bool) : State :=
  let ks := kernels.filter (fun i => s.flag (0x6300 + i) 1)
  let live := arrays.filter (fun a => match s.arrayDomain a with
    | some d => (s.domain d).st == .on && !s.quarantined a
    | none => false)
  let todo := live.flatMap (fun a => ks.map (fun i => (a, i)))
  let s := (s.setObj 0x6003 5 0).setObj 0x6003 6 0
  let run : AnswerRun := {
    status := if sweep then s.assayer.run.status else 1
    active := true
    sweep := sweep
    votes := votes
    todo := todo }
  ({ s with assayer := { s.assayer with run := run } } : State).pumpRun

/-- Why a start of a run is refused: an abort code, or 0. -/
def State.runRefusal (s : State) : Nat :=
  if s.gov.st != .service || !s.anyRailPowered || s.serviceBusy then 0x00040001 else 0

/-- A run of the selected arrays and entries. -/
def State.startKnown (s : State) : State :=
  s.beginRun (bitsOf 256 (s.obj 0x6003 1)) (bitsOf 64 (s.obj 0x6003 2)) false true

/-- KNOWN_ANSWER_TIMEOUT (R287): no DONE within the duration limit; not run. -/
def execKnownAnswerTimeout (array entry : Nat) (s : State) : Host.Outcome State Fault Refusal :=
  match s.assayer.run.out.find? (fun o => o.1 == array && o.2.1 == entry) with
  | some o => .next (((s.atTime (o.2.2 + s.cyc (0x6300 + entry) 5)).notRun array entry).pumpRun)
  | none => .next s

/-- Whether every request of the present run is resolved. -/
def AnswerRun.over (v : AnswerRun) : Bool := v.active && v.todo.isEmpty && v.out.isEmpty

/-- KNOWN_ANSWER_RUN_END (R287). -/
def execKnownAnswerRunEnd (s : State) : Host.Outcome State Fault Refusal :=
  let v := s.assayer.run
  if v.over && !v.sweep then
    .next (({ s with assayer := { s.assayer with run := { v with status := 2, active := false } } } : State).signal 0x0C6)
  else .next s

/-! ### Margin sweeps (R288, R289) -/

/-- The AVS trim written by the sweep; the settle time of the step starts (R288, 04 R94). -/
def State.sweepStep (s : State) (trim : Nat) : State :=
  let w := s.assayer.sweep
  let s := s.modRail w.rail (fun v => { v with avs := trim })
  { s with assayer := { s.assayer with sweep := { w with
    trim := trim, events := [], bands := [], settleEnd := some (s.tb.now + s.cyc 0x6002 4) } } }

/-- Why a start of a sweep is refused: an abort code, or 0 (R289). -/
def State.sweepRefusal (s : State) : Nat :=
  let r := s.obj 0x6002 1
  if s.gov.st != .service || s.serviceBusy || !(s.rail r).good then 0x00040001
  else if !s.railUsed r || s.railRole r != 1 then 0x00030002
  else 0

/-- A sweep of the selected rail starts at trim 0. -/
def State.startSweep (s : State) : State :=
  let r := s.obj 0x6002 1
  let live := s.domainsUsed.filter (fun d => s.droopRail d == r && (s.domain d).st == .on
    && s.arraysUsed.any (fun a => s.arrayDomain a == some d && !s.quarantined a))
  let w : Sweep := {
    status := 1
    start := s.tb.now
    rail := r
    live := live
    band0 := live.map (fun d => (d, s.domainBand d)) }
  ({ s with assayer := { s.assayer with sweep := w } } : State).sweepStep 0

/-- SWEEP_SETTLE_END (R288): the kernels of the step are run; fails are lost votes at trim 0 alone. -/
def execSweepSettleEnd (s : State) : Host.Outcome State Fault Refusal :=
  let w := s.assayer.sweep
  match w.settleEnd with
  | some t =>
    if w.status = 1 then
      let s := s.atTime t
      let s : State := { s with assayer := { s.assayer with sweep := { w with settleEnd := none } } }
      let arrays := s.arraysUsed.filter (fun a => w.live.contains ((s.arrayDomain a).getD 32))
      .next (s.beginRun arrays (bitsOf 64 (s.obj 0x6002 6)) true (w.trim = 0))
    else .next s
  | none => .next s

/-- The domains of a finished step judged (R288). -/
def State.judgeStep (s : State) : State :=
  let w := s.assayer.sweep
  let failed := s.assayer.run.failed
  let moved := w.live.filter (fun d => w.bands.contains d || s.domainBand d != tget w.band0 d 8)
  let found := (w.live.filter (fun d => !moved.contains d)).filter (fun d =>
    w.events.contains d || failed.any (fun a => s.arrayDomain a == some d))
  let live := w.live.filter (fun d => !moved.contains d && !found.contains d)
  let nom := s.obj (0x2200 + w.rail) 1
  { s with assayer := { s.assayer with sweep := { w with
    steps := w.steps + 1
    live := live
    found := w.found ++ found
    moved := w.moved ++ moved
    pass := live.foldl (fun p d => tset p d (nom - w.trim)) w.pass } } }

/-- A sweep that has run to its end: trim 0, results and vmin values stored (R288). -/
def State.finishSweep (s : State) : State :=
  let w := s.assayer.sweep
  let s := s.modRail w.rail (fun v => { v with avs := 0 })
  let keep := (w.found ++ w.live).filter (fun d => thas w.pass d)
  let vmin := keep.foldl (fun t d => tset t (d * 8 + tget w.band0 d 0) (tget w.pass d 0)) s.assayer.vmin
  let res := (w.found.map (fun d => (d, if thas w.pass d then 1 else 4))) ++ w.moved.map (fun d => (d, 2))
    ++ w.live.map (fun d => (d, 3))
  let s := each keep (fun s d => s.cleanse .vmin (d * 8 + tget w.band0 d 0)) s
  let results := res.foldl (fun t p => tset t p.1 p.2) s.assayer.results
  let s : State := { s with assayer := { s.assayer with
    vmin := vmin
    results := results
    sweep := { w with status := 2, trim := 0, stop := s.tb.now } } }
  s.signal 0x0C7

/-- SWEEP_STEP_COMPLETE (R288): the domains are judged; the sweep steps down by 5 mV or ends. -/
def execSweepStepComplete (s : State) : Host.Outcome State Fault Refusal :=
  if s.assayer.sweep.status = 1 && s.assayer.sweep.settleEnd.isNone && s.assayer.run.sweep && s.assayer.run.over then
    let s : State := { s with assayer := { s.assayer with run := { s.assayer.run with active := false } } }
    let s := s.judgeStep
    let w := s.assayer.sweep
    let nom := s.obj (0x2200 + w.rail) 1
    let low : Bool := nom < w.trim + 80 + s.obj (0x2200 + w.rail) 2
    if w.live.isEmpty || low || s.cyc 0x6002 5 < s.tb.now - w.start then .next s.finishSweep
    else .next (s.sweepStep (w.trim + 80))
  else .next s

end Sys2Proof.Machine
end

