-- ==== Sys2Proof/Machine/Epochs.lean ====
section
/-! DEFINITION. What moves together when an agent's epoch changes or a target falls asleep or wakes: pending sources,
completions by hardware, STALE and ORPHANED notices (13 R325, R326, R335, R336, R340). -/

namespace Sys2Proof.Machine

/-- The pending bit of a source cleared. -/
def State.clearPending (s : State) (n : Nat) : State :=
  { s with icu := { s.icu with
    pend := bankSet s.icu.pend n 0 false
    fallen := s.icu.fallen.filter (· != n)
    waitSince := tset s.icu.waitSince n none } }

/-- The active condition of a source ends; an asserted level source is signalled again (13 R322, R340). -/
def State.completeSource (s : State) (n : Nat) : State :=
  let s : State := { s with icu := { s.icu with active := tset s.icu.active n none } }
  if srcLevel n && s.asserted n then (s.bump 0x7480 6).setPending n else s

/-- Every source active for a target is completed by hardware (13 R340). -/
def State.completeTarget (s : State) (t : Nat) : State :=
  each ((s.icu.active.filter (fun p => p.2 == some t)).map (·.1)) State.completeSource s

/-- Pending sources configured for a target. -/
def State.pendingFor (s : State) (t : Nat) : List Nat :=
  (List.range 1024).filter (fun n => s.srcPending n && (s.srcCfg n).target == t)

/-- A target has fallen asleep: the sources pending for it start to wait (13 R326). -/
def State.waitFor (s : State) (t : Nat) : State :=
  each (s.pendingFor t) (fun s n =>
    if (tget s.icu.waitSince n none).isSome then s
    else { s with icu := { s.icu with waitSince := tset s.icu.waitSince n (some s.tb.now) } }) s

/-- A target that is awake again: the offers of its sources return to it (13 R326). -/
def State.wakeTarget (s : State) (t : Nat) : State :=
  if s.asleep t then s
  else each (s.pendingFor t) (fun s n =>
    { s with icu := { s.icu with
      fallen := s.icu.fallen.filter (· != n)
      waitSince := tset s.icu.waitSince n none } }) s

/-- SLEEP of a target set or cleared (13 R325, R326). -/
def State.setSleep (s : State) (t : Nat) (v : Bool) : State :=
  let s : State := { s with icu := { s.icu with targets := tset s.icu.targets t { s.target t with sleep := v } } }
  if s.asleep t then s.waitFor t else s.wakeTarget t

/-! ### Epochs -/

/-- Slot numbers of a channel that satisfy a condition, ascending. -/
def Channel.slotsWith (c : Channel) (p : Slot → Bool) : List Nat := (List.range 32).filter (fun b => p (c.slot b))

/-- The receiver's epoch has changed: POSTED notices become STALE, TAKEN slots FREE (13 R335). A notice carries one mark,
so an ORPHANED one stays as it is. -/
def State.staleChannel (s : State) (c : Nat) : State :=
  let ch := s.channel c
  let posted := ch.slotsWith (fun b => b.st == .posted && !b.orphaned)
  let taken := ch.slotsWith (fun b => b.st == .taken)
  let ch := each posted (fun ch b => ch.setSlot b { ch.slot b with stale := true }) ch
  let ch := each taken (fun ch b => ch.setSlot b {}) ch
  ((s.setChannel c ch).bumpBy (0x7500 + c) 0x0A posted.length).bumpBy (0x7500 + c) 0x0D taken.length

/-- The sender's epoch has changed: POSTED notices become ORPHANED, acknowledgements and timeouts clear (13 R336). -/
def State.orphanChannel (s : State) (c : Nat) : State :=
  let ch := s.channel c
  let posted := ch.slotsWith (fun b => b.st == .posted && !b.orphaned)
  let ch := each posted (fun ch b => ch.setSlot b { ch.slot b with stale := false, orphaned := true }) ch
  (s.setChannel c { ch with ack := 0, tost := 0 }).bumpBy (0x7500 + c) 0x0B posted.length

/-- Epoch of an agent (0x7490:01 to :05). -/
def State.epoch (s : State) (a : Nat) : Nat := tget s.epochs a 0

/-- Channels in use, ascending. -/
def State.channelsUsed (s : State) : List Nat := (List.range 64).filter s.channelUsed

/-- An agent's epoch changes (13 R335, R336). -/
def State.epochChange (s : State) (a : Nat) : State :=
  let s : State := { s with epochs := tset s.epochs a ((s.epoch a + 1) % 2 ^ 16) }
  let s := each (s.channelsUsed.filter (fun c => s.receiver c == a)) State.staleChannel s
  each (s.channelsUsed.filter (fun c => s.sender c == a)) State.orphanChannel s

end Sys2Proof.Machine
end

