-- ==== Sys2Proof/Machine/Interrupts.lean ====
section
/-! DEFINITION. Commands on the interrupt controller (13 R317 to R329): signals, doorbell, claim and completion, the plain
registers and their aliases, targets, the watch subset and fallback. -/

namespace Sys2Proof.Machine

/-- Sources of a 64-bit word whose bits are set, reserved sources left out (13 R317). -/
def wordSources (index : Nat) (word : W64) : List Nat :=
  ((List.range 64).filter (fun i => word.getLsbD i)).map (64 * index + ·) |>.filter srcListed

/-- SIGNAL (13 R319): a source's message reaches the controller. -/
def execSignal (source : Nat) (s : State) : Host.Outcome State Fault Refusal := .next (s.signal source)

/-- DOORBELL (13 R318): a software source is signalled; any other number is discarded and counted. -/
def execDoorbell (word : W64) (s : State) : Host.Outcome State Fault Refusal :=
  let n := bits word.toNat 9 0
  s.onBus (.doorbell word) (fun s => if 0x200 ≤ n then s.signal n else s.bump 0x7480 3)

/-- The claim word of a source (13, ICU_CLAIM_t). -/
def claimOf (n prio : Nat) (spurious : Bool) : W64 :=
  BitVec.ofNat 64 (2 ^ 63 + natOfBool spurious * 2 ^ 62 + prio % 4 * 2 ^ 16 + n % 1024)

/-- A target claims its offer (13 R321, R323). -/
def State.claimSource (s : State) (t n : Nat) : State :=
  let spurious := srcLevel n && !s.asserted n
  let w := claimOf n (s.srcCfg n).prio spurious
  let s := (s.clearPending n).bump64 0x7480 2 1
  let s : State := { s with icu := { s.icu with active := tset s.icu.active n (some t), claimWord := w } }
  if spurious then (s.bump 0x7480 5).dEvent 58 else s

/-- CLAIM (13 R321): a read of ICU_CLAIM_t. -/
def execClaim (agent target : Nat) (s : State) : Host.Outcome State Fault Refusal :=
  if 6 ≤ target then .next s
  else s.onBus (.claim agent target) (fun s =>
    let none_ : State := { s with icu := { s.icu with claimWord := 0 } }
    if targetAgent target != agent then none_.bump 0x7480 9
    else
      match s.offer target with
      | some n => s.claimSource target n
      | none => none_)

/-- COMPLETE (13 R322): a write to ICU_COMPLETE_t. -/
def execComplete (agent target : Nat) (word : W64) (s : State) : Host.Outcome State Fault Refusal :=
  let n := bits word.toNat 9 0
  if 6 ≤ target || 5 ≤ agent then .next s
  else s.onBus (.complete agent target word) (fun s => if s.srcActive n == some target then s.completeSource n else s.bump 0x7480 4)

/-- The 16-bit configuration field of a source (13, ICU_CFG_ONE.CFG). -/
def cfgOf (v : Nat) : SrcCfg := { target := bits v 14 12, prio := bits v 11 10, fallback := bits v 9 7 }

/-- A source takes a new configuration (13 R325); for a reserved source it is discarded (R317). Where its target changes,
the time it has waited for an asleep target starts again. -/
def State.configure (s : State) (n : Nat) (c : SrcCfg) : State :=
  if !srcListed n then s
  else
    let moved : Bool := (s.srcCfg n).target != c.target
    let wait := if !s.srcPending n || !s.asleep c.target then none
      else if moved then some s.tb.now else tget s.icu.waitSince n none
    { s with icu := { s.icu with
      cfg := tset s.icu.cfg n c
      fallen := if moved then s.icu.fallen.filter (· != n) else s.icu.fallen
      waitSince := tset s.icu.waitSince n wait } }

/-- CONFIGURE_SOURCE (13 R325, R329): a write to ICU_CFG_ONE. -/
def execConfigureSource (word : W64) (s : State) : Host.Outcome State Fault Refusal :=
  s.onBus (.configureSource word) (fun s => s.configure (bits word.toNat 41 32) (cfgOf (bits word.toNat 15 0)))

/-- PEND_SET (13 R329): the sources written as 1 are signalled. -/
def execPendSet (index : Nat) (word : W64) (s : State) : Host.Outcome State Fault Refusal :=
  if 16 ≤ index then .next s else s.onBus (.pendSet index word) (each (wordSources index word) State.signal)

/-- Software clears a pending bit; an asserted level source's bit is set again (13 R324). -/
def State.clearBySoftware (s : State) (n : Nat) : State :=
  let s := s.clearPending n
  if srcLevel n && s.asserted n then s.setPending n else s

/-- PEND_CLR (13 R324, R329). -/
def execPendClr (index : Nat) (word : W64) (s : State) : Host.Outcome State Fault Refusal :=
  if 16 ≤ index then .next s else s.onBus (.pendClr index word) (each (wordSources index word) State.clearBySoftware)

/-- The mask bit of a source. -/
def State.setMask (v : Bool) (s : State) (n : Nat) : State :=
  { s with icu := { s.icu with mask := bankSet s.icu.mask n (BitVec.allOnes 64) v } }

/-- MASK_SET (13 R329). -/
def execMaskSet (index : Nat) (word : W64) (s : State) : Host.Outcome State Fault Refusal :=
  if 16 ≤ index then .next s else s.onBus (.maskSet index word) (each (wordSources index word) (State.setMask true))

/-- MASK_CLR (13 R329). -/
def execMaskClr (index : Nat) (word : W64) (s : State) : Host.Outcome State Fault Refusal :=
  if 16 ≤ index then .next s else s.onBus (.maskClr index word) (each (wordSources index word) (State.setMask false))

/-- A whole ICU_PEND word (13 R328): each bit set or cleared. -/
def State.plainPend (s : State) (index : Nat) (word : W64) : State :=
  each (wordSources index word) State.setPending (each (wordSources index (~~~word)) State.clearBySoftware s)

/-- A whole ICU_MASK word. -/
def State.plainMask (s : State) (index : Nat) (word : W64) : State :=
  each (wordSources index word) (State.setMask true) (each (wordSources index (~~~word)) (State.setMask false) s)

/-- A whole ICU_CFG word: the configurations of sources 4k to 4k + 3. -/
def State.plainCfg (s : State) (k : Nat) (word : W64) : State :=
  each [0, 1, 2, 3] (fun s j => s.configure (4 * k + j) (cfgOf (bits word.toNat (16 * j + 15) (16 * j)))) s

/-- ICU_PLAIN_WRITE (13 R328). -/
def execIcuPlainWrite (reg : PlainReg) (index : Nat) (word : W64) (s : State) : Host.Outcome State Fault Refusal :=
  match reg with
  | .pend => if 16 ≤ index then .next s else s.onBus (.icuPlainWrite reg index word) (fun s => s.plainPend index word)
  | .mask => if 16 ≤ index then .next s else s.onBus (.icuPlainWrite reg index word) (fun s => s.plainMask index word)
  | .cfg => if 256 ≤ index then .next s else s.onBus (.icuPlainWrite reg index word) (fun s => s.plainCfg index word)

/-- TARGET_CONFIG_WRITE (13 R326): threshold and SLEEP of a target, by its own agent alone. -/
def execTargetConfigWrite (agent target : Nat) (word : W64) (s : State) : Host.Outcome State Fault Refusal :=
  if 6 ≤ target then .next s
  else s.onBus (.targetConfigWrite agent target word) (fun s =>
    if targetAgent target != agent then s.bump 0x7480 9
    else
      let s : State := { s with icu := { s.icu with
        targets := tset s.icu.targets target { s.target target with thresh := bits word.toNat 5 4 } } }
      s.setSleep target (word.getLsbD 0))

/-- WATCH_WRITE (13 R327): one entry of the watch subset. -/
def execWatchWrite (index : Nat) (word : W64) (s : State) : Host.Outcome State Fault Refusal :=
  if 32 ≤ index then .next s
  else s.onBus (.watchWrite index word) (fun s =>
    let w : W64 := word &&& 0x80000000000003FF#64
    { s with icu := { s.icu with watch := tset s.icu.watch index w } })

/-- Whether a target sleeps by its SLEEP bit and not because its core restarts (13 R325). -/
def State.dozing (s : State) (t : Nat) : Bool :=
  (s.target t).sleep && !(t < 4 && ((tget s.cores t {}).st == .restarting || (tget s.cores t {}).st == .held))

/-- WATCH_WAKE (13 R326): a watched source pending for an asleep target clears its SLEEP; a restarting core is not
woken. -/
def execWatchWake (source : Nat) (s : State) : Host.Outcome State Fault Refusal :=
  let t := (s.srcCfg source).target
  if s.tb.gclk && s.watched source && s.srcPending source && t < 6 && s.dozing t then
    .next ((s.bump 0x7480 7).setSleep t false)
  else .next s

/-- FALLBACK_OFFER (13 R326): after 10,080 cycles a source moves to its awake fallback target. -/
def execFallbackOffer (source : Nat) (s : State) : Host.Outcome State Fault Refusal :=
  let c := s.srcCfg source
  match tget s.icu.waitSince source none with
  | some since =>
    if s.tb.gclk && s.srcPending source && (s.srcActive source).isNone && s.asleep c.target && c.fallback < 6
        && !s.asleep c.fallback && !(s.watched source && s.dozing c.target) && !s.icu.fallen.contains source then
      let s := (s.atTime (since + 10080)).bump 0x7480 8
      .next { s with icu := { s.icu with fallen := s.icu.fallen ++ [source] } }
    else .next s
  | none => .next s

end Sys2Proof.Machine
end

