-- ==== Sys2Proof/Config.lean ====
section
/-! DEFINITION. What the spec leaves to the entropy source, to the integrator or to named cryptographic standards, and the
values it states nowhere. Each is an opaque constant: a statement that holds here holds for every value of it. -/

namespace Sys2Proof.Free

/-- The 16 bytes of the n-th challenge read from the entropy source (15 R377). -/
opaque challenge : Nat → BitVec 128

/-- HMAC-SHA-256(K, "MURIRI-AUTH" ‖ challenge ‖ session id ‖ serial number) (15 R377). -/
opaque response : BitVec 256 → BitVec 128 → Nat → Nat → BitVec 256

/-- First 16 bytes of HMAC-SHA-256(Ks, header ‖ body), with Ks = HMAC-SHA-256(K, "MURIRI-SKEY" ‖ challenge ‖ session id)
(15 R378). The list holds the bytes of header and body. -/
opaque tag : BitVec 256 → BitVec 128 → Nat → List Byte → BitVec 128

/-- Whether the SHA-384 of a list of bytes equals a 48-byte digest (14 R344). -/
opaque digestOk : List Byte → List Byte → Bool

/-- Whether an ECDSA P-384 signature over the header bytes verifies against the public key of a slot (14 R344). -/
opaque signatureOk : Nat → List Byte → List Byte → Bool

/-- Manufacturer code of IDCODE, the synthesis parameter TAP_MFR (19 Test access). -/
opaque tapMfr : BitVec 11

/-- The n-th value that the spec leaves open. -/
opaque value : Nat → Nat

end Sys2Proof.Free
end

