-- ==== Sys2Proof/Machine/Faults.lean ====
section
/-! DEFINITION. Events of the Registrar, the recorder, the time and the crash dumps that no object write brings (12 R294 to
R301, R308, R313 to R315, 18 R429). -/

namespace Sys2Proof.Machine

/-- FAULT_TRIGGER (12 R294): a trigger of an E-class pin with its scope, cause code and Parameter A. -/
def execFaultTrigger (pin scopeKind scopeIndex cause : Nat) (pa : W64) (s : State) : Host.Outcome State Fault Refusal :=
  if pin < 64 && !pinIsD pin && scopeKind < 4 then .next (s.trigger pin scopeKind scopeIndex cause pa.toNat) else .next s

/-- D_CLASS_EVENT (12 R295). -/
def execDClassEvent (pin : Nat) (s : State) : Host.Outcome State Fault Refusal :=
  if pin < 64 && pinIsD pin then .next (s.dEvent pin) else .next s

/-- D_CLASS_WINDOW_EXPIRY (12 R295): the window runs out and the count returns to 0. -/
def execDClassWindowExpiry (pin : Nat) (s : State) : Host.Outcome State Fault Refusal :=
  if pin < 64 && (s.pin pin).count != 0 then
    .next ((s.atTime (s.pin pin).winEnd).modPin pin (fun p => { p with count := 0 }))
  else .next s

/-- TRANSIENT_STROBE (12 R301). -/
def execTransientStrobe (pin : Nat) (s : State) : Host.Outcome State Fault Refusal := .next (s.transient pin)

/-- RECORD_WRITE (12 R308, R309): the recorder writes its oldest queued record. With GCLK stopped under standby clock stop the
sub-island still takes writes (01 R26); through a reset the queue waits until GCLK runs again. -/
def execRecordWrite (s : State) : Host.Outcome State Fault Refusal :=
  if s.tb.gclk || (!s.gov.booting && !s.gov.govRstLow) then .next s.writeRecord else .next s

/-! ### Time -/

/-- TIME as records carry it: TAI and quality (12 R305). -/
def State.timeField (s : State) : Nat := s.tai + 2 ^ 62 * s.clock.quality

/-- Time elapsed since the base that the present time adds to it. -/
def State.sinceBase (s : State) : Nat := if s.clock.stopped.isSome then 0 else nsOf (min (s.tb.now - s.tb.cStart) 1007)

/-- An accepted set (12 R313): the new time and quality apply, a record is written, and a move of more than 1 ms from a
time that was set triggers pin 61. -/
def State.setTime (s : State) (v q : Nat) : State :=
  let before := s.timeField
  let was := s.clock.quality
  let change : Int := (v : Int) - (s.tai : Int)
  let s : State := { s with clock := { s.clock with
    base := v - s.sinceBase
    quality := q
    lastSet := s.tb.now
    stopped := s.clock.stopped.map (fun _ => s.tb.now) } }
  let s := s.record 0x0250 before (ofSigned 48 (satS 48 change)) false
  if was != 0 && 1000000 < change.natAbs then s.trigger 61 0 0 0 0 else s

/-- Whether a set is refused (12 R313). -/
def State.timeRefused (s : State) (v q : Nat) : Bool := q < s.clock.quality || q < 2 || 3 < q || 2 ^ 62 ≤ v

/-- TIME_QUALITY_HOLD_EXPIRY (12 R313). -/
def execTimeQualityHoldExpiry (s : State) : Host.Outcome State Fault Refusal :=
  if 2 ≤ s.clock.quality then .next ((s.atTime (s.clock.lastSet + s.cyc 0x1300 5)).qualityFalls) else .next s

/-! ### Crash dumps -/

def State.dump (s : State) (c : Nat) : Dump := tget s.dumps c {}

/-- A byte of a core's crash-dump area (12 R314): zero while the area is empty or being cleared (18 R429). -/
def State.dumpByte (s : State) (c off : Nat) : Byte :=
  let d := s.dump c
  if !d.valid || d.clearing then 0
  else
    let head := bytesLE 4 0x4443584F ++ bytesLE 1 c ++ bytesLE 1 1 ++ bytesLE 2 d.cause ++ bytesLE 4 d.restarts
      ++ bytesLE 4 d.version ++ bytesLE 8 d.time ++ bytesLE 6 d.seq ++ bytesLE 2 0
    if off < 32 then head.getD off 0 else mread d.bytes off

/-- A crash is captured into an empty area; a valid area is kept, and while an area is being cleared the capture waits
(12 R315, 18 R429). -/
def State.captureDump (s : State) (c : Nat) (d : Dump) : State :=
  let k := tget s.cores c {}
  if (s.dump c).clearing && k.dumpWaits.isNone then
    { s with cores := tset s.cores c { k with dumpWaits := some d } }
  else if (s.dump c).clearing || (s.dump c).valid then s.bump (0x5410 + c) 3
  else { s with dumps := tset s.dumps c d }

/-- A write of 1 to 0x5410+c:02: the area is empty from now on, its clearing begins (12 R315, 18 R429). -/
def State.releaseDump (s : State) (c : Nat) : State := { s with dumps := tset s.dumps c { clearing := true } }

/-- DUMP_CLEAR_COMPLETE (18 R429): a capture that waited takes place. -/
def execDumpClearComplete (core : Nat) (s : State) : Host.Outcome State Fault Refusal :=
  if core < 4 && (s.dump core).clearing then
    let k := tget s.cores core {}
    .next { s with
      dumps := tset s.dumps core (k.dumpWaits.getD {})
      cores := tset s.cores core { k with dumpWaits := none } }
  else .next s

end Sys2Proof.Machine
end

