-- ==== Sys2Proof/Machine/Slots.lean ====
section
/-! DEFINITION. The Tally's group slots, signature entries and horizons, and what it passes to the Assayer (07). The
commands are in Tally.lean, Program.lean and Frames.lean. -/

namespace Sys2Proof.Machine

/-! ### Words (R167) -/

def wordKind (w : W64) : Nat := bits w.toNat 63 62
def wordArray (w : W64) : Nat := bits w.toNat 61 54
def wordRing (w : W64) : Nat := bits w.toNat 53 49
def wordRole (w : W64) : Nat := bits w.toNat 48 47
def wordTag (w : W64) : Nat := bits w.toNat 12 0

/-- Size units of a size code (R167). -/
def sizeOf (c : Nat) : Nat := (4 + c % 4) * 2 ^ (c / 4)

/-- The filler class key (R168). -/
def fillerKey : Nat := 0x3FFFF

/-- Instant at which an ISSUE that arrives now is decided (06 R153). -/
def State.grantTime (s : State) : Nat := s.tb.now + 7

/-! ### Slots -/

/-- Slot of an array and tag. -/
def slotKey (a tag : Nat) : Nat := a * 256 + tag % 256

def State.slot (s : State) (n : Nat) : GroupSlot := tget s.tally.slots n {}

/-- A slot written; what is written reads without poison. -/
def State.setSlot (s : State) (n : Nat) (v : GroupSlot) : State :=
  { s with
    tally := { s.tally with slots := tset s.tally.slots n v }
    poison := s.poison.filter (· != (.slot, n)) }

/-- The slot becomes FREE. -/
def State.freeSlot (s : State) (n : Nat) : State :=
  { s with
    tally := { s.tally with slots := s.tally.slots.filter (fun p => p.1 != n) }
    poison := s.poison.filter (· != (.slot, n)) }

/-- Array and full tag of a slot's group. -/
def slotArray (n : Nat) : Nat := n / 256
def GroupSlot.tag (v : GroupSlot) (n : Nat) : Nat := v.tagHi * 256 + n % 256

/-- Whether a slot holds the group of a ring and full tag in a state. A poisoned slot holds nothing (R195). -/
def State.holds (s : State) (n ring tag : Nat) (st : GroupSt) : Bool :=
  (s.slot n).st == st && (s.slot n).ring == ring && (s.slot n).tagHi == tag / 256 && !s.poisoned .slot n

/-- A poisoned slot that is read is counted, and its group is handled as never announced: its shares stay in the horizon
(R195). -/
def State.readSlot (s : State) (n : Nat) : State :=
  if s.poisoned .slot n then ((s.freeSlot n).bump 0x2C02 0x12).dEvent 29 else s

/-! ### Signature entries (R179, R180) -/

/-- The built-in default: A and B 8,192, the rest 0. -/
def builtInEntry : Nat := 8192 * 2 ^ 48 + 8192 * 2 ^ 32

/-- Family default that the image gives a class key, or the built-in default (R179). -/
def State.familyGiven (s : State) (key : Nat) : Nat := (assoc s.desc.families (key / 1024 % 256)).getD builtInEntry

/-- Family default of a class key; the built-in default where it reads with poison (R195). -/
def State.familyDefault (s : State) (key : Nat) : Nat :=
  if s.poisoned .family (key / 1024 % 256) then builtInEntry else s.familyGiven key

/-- A read of the family default by the Tally; one with poison is counted (R195). -/
def State.readFamily (s : State) (key : Nat) : State × Nat :=
  (if s.poisoned .family (key / 1024 % 256) then (s.bump 0x2C02 0x11).dEvent 29 else s, s.familyDefault key)

/-- An entry with its CONF field cleared. -/
def clearConf (e : Nat) : Nat := e - bits e 27 24 * 2 ^ 24

/-- Signature entry of a class key: what the image, software or learning has set, else the copy that BOOT made of its
family default with CONF 0 (R179). -/
def State.sigEntry (s : State) (key : Nat) : Nat :=
  if thas s.tally.sigs key then (tget s.tally.sigs key 0).toNat else clearConf (s.familyGiven key)

/-- An entry written; what is written reads without poison. -/
def State.setSig (s : State) (key e : Nat) : State :=
  { s with
    tally := { s.tally with sigs := tset s.tally.sigs key (BitVec.ofNat 64 e) }
    poison := s.poison.filter (· != (.signature, key)) }

/-- The signature entry as the Tally reads it; a poisoned one is rewritten from its family default (R180, R195). -/
def State.lookup (s : State) (key : Nat) : State × Nat :=
  if s.poisoned .signature key then
    let q := s.readFamily key
    let s := q.1.setSig key (clearConf q.2)
    let s : State := { s with tally := { s.tally with restored := key :: s.tally.restored } }
    ((s.bump 0x2C02 0x11).dEvent 29, q.2)
  else (s, s.sigEntry key)

def entryA (e : Nat) : Nat := bits e 63 48
def entryB (e : Nat) : Nat := bits e 47 32
/-- Duration in C-frames, DUR + 1. -/
def entryD (e : Nat) : Nat := bits e 31 28 + 1
def entryConf (e : Nat) : Nat := bits e 27 24
def entryLock (e : Nat) : Bool := bit e 23

/-- Size in units after the precision factor (R180). -/
def State.sizeUnits (s : State) (size prec : Nat) : Nat := sizeOf size * s.obj 0x2C01 (1 + prec) / 4096 % 2 ^ 32

/-- Largest prediction, credits with 8 fraction bits. -/
def maxP8 : Nat := 0x3FFFFF * 256

/-- Prediction of the table path in credits with 8 fraction bits (R180). -/
def tableP8 (units a b rho : Nat) : Nat := min (units * (255 * a + rho * b) / 1020) maxP8

/-- Learning features z0 and z1 of a group (R180). -/
def featureZ0 (units d : Nat) : Nat := min (units / d) 0xFFFFFF
def featureZ1 (z0 rho : Nat) : Nat := z0 * rho / 255

/-! ### Horizons (R182 to R184) -/

/-- Rails coupled to a metering rail, with their ratios (06 R143). -/
def State.coupledRails (s : State) (m : Nat) : List (Nat × Nat) :=
  (s.railsUsed.filter (fun c => s.railRole c == 2 && s.obj (0x2810 + c) 2 == m)).map (fun c => (c, s.obj (0x2810 + c) 3))

def noBins : List Nat := List.replicate 65 0

/-- Announced shares A_j of a rail and of a domain. -/
def State.railBins (s : State) (r : Nat) : List Nat := tget s.tally.railHor r noBins
def State.domBins (s : State) (d : Nat) : List Nat := tget s.tally.domHor d noBins

/-- Amount a group books into each bin: its share in bins b to b + d - 1, the remainder in bin b, what falls past bin 64
in bin 64 (R182). -/
def shares (p d b : Nat) : List Nat :=
  (List.range 65).map (fun j =>
    let inside := if b ≤ j && j < b + d && j < 64 then p / d else 0
    let past := if j = 64 then (b + d - max b 64) * (p / d) else 0
    inside + past + if j = min b 64 then p % d else 0)

/-- Bins with amounts added, saturating at 32 bits. -/
def addBins (h x : List Nat) : List Nat := List.zipWith (fun a b => satU 32 (a + b)) h x

/-- Bins with amounts subtracted, no lower than 0; bin 0 stays. -/
def subBins (h x : List Nat) : List Nat :=
  (List.zipWith (fun (a : Nat × Nat) b => if a.2 = 0 then a.1 else a.1 - b) h.zipIdx x)

/-- The amounts of a booking after `n` ticks. -/
def movedBins (x : List Nat) (n : Nat) : List Nat := (x.drop n ++ List.replicate (min n 65) 0).take 65

/-- Amounts scaled by a coupling ratio, bin by bin. -/
def scaleBins (kappa : Nat) (x : List Nat) : List Nat := x.map (fun v => v * kappa / 65536)

/-- Every horizon of an array's groups changed: its metering rail, the rails coupled to that, its domain (R182). -/
def State.bookBins (s : State) (a : Nat) (f : List Nat → (List Nat → List Nat) → List Nat) : State :=
  let m := s.arrayRail a
  let d := (s.arrayDomain a).getD 32
  let rails := (s.coupledRails m).foldl (fun t q => tset t q.1 (f (s.railBins q.1) (scaleBins q.2)))
    (tset s.tally.railHor m (f (s.railBins m) id))
  { s with tally := { s.tally with railHor := rails, domHor := tset s.tally.domHor d (f (s.domBins d) id) } }

/-- Contributions of a slot's group booked. Filler is not booked (R182). -/
def State.book (s : State) (n : Nat) : State :=
  let v := s.slot n
  if v.cls = fillerKey then s
  else s.bookBins (slotArray n) (fun h scale => addBins h (scale (shares v.p v.d v.bin)))

/-- Contributions of a slot's group withdrawn from the bins it still occupies (R182). -/
def State.withdraw (s : State) (n : Nat) : State :=
  let v := s.slot n
  if v.cls = fillerKey then s
  else
    s.bookBins (slotArray n) (fun h scale =>
      subBins h (movedBins (scale (shares v.p v.d v.bin)) (s.tb.cframe - v.placed)))

/-- A predicted group leaves its slot: its contributions are withdrawn (R173, R177, R178). -/
def State.dropPredicted (s : State) (n : Nat) : State := (s.withdraw n).freeSlot n

/-- Learned static term of a rail: the image's value until a fit changes it (R188). -/
def State.staticTerm (s : State) (r : Nat) : Nat := (tget s.tally.learn r {}).lst

/-- Horizon value E_j of a rail (R184). -/
def State.horizon (s : State) (r j : Nat) : Nat :=
  let a := (s.railBins r).getD j 0
  let l := tget s.tally.learn r {}
  match s.railRole r with
  | 1 => satU 32 (l.lst + a)
  | 2 => satU 32 (l.bc + a)
  | _ => l.bc

/-! ### Active groups (R185) -/

/-- What a granted group brings to the fit. -/
def State.activeOf (s : State) (n : Nat) : Active :=
  let v := s.slot n
  let z0 := featureZ0 (s.sizeUnits v.size v.prec) v.d
  { slot := n, cls := v.cls, xs := v.psig / v.d, share := v.p / v.d
    z0 := if v.source == .unannounced then 0 else z0
    z1 := if v.source == .unannounced then 0 else featureZ1 z0 v.dens }

/-- A group whose DONE has come in this C-frame stays active in it (R185). -/
def State.endActive (s : State) (n : Nat) : State :=
  let x := s.activeOf n
  { s with tally := { s.tally with learn := tmod s.tally.learn (s.arrayRail (slotArray n)) {} (fun l =>
    { l with ended := l.ended ++ [x] }) } }

/-! ### Fits (R187, R188) -/

/-- One entry update of the fit (R187). An entry that reads with poison, or has been restored in this C-frame, is skipped
(R195). -/
def State.fitEntry (s : State) (t : Int) (g : Active) : State :=
  let s := (s.lookup g.cls).1
  let e := s.sigEntry g.cls
  if entryLock e || s.tally.restored.contains g.cls then s
  else
    let a := (clampI ((entryA e : Int) + asr (t * (g.z0 : Int)) 16) 0 65535).toNat
    let b := (clampI ((entryB e : Int) + asr (t * (g.z1 : Int)) 16) 0 65535).toNat
    s.setSig g.cls (a * 2 ^ 48 + b * 2 ^ 32 + bits e 31 28 * 2 ^ 28 + min (entryConf e + 1) 15 * 2 ^ 24)

/-- Moving average with a shift of 6. -/
def average (old x : Int) : Int := old + asr (x - old) 6

/-- The end of a rail's fit: its static term, error averages and counts (R187, R188). -/
def State.closeFit (s : State) (r lst : Nat) (eps epsC : Int) (groups : Nat) : State :=
  let full : Bool := s.cfg == .full
  ({ s with tally := { s.tally with learn := tmod s.tally.learn r {} (fun l => { l with
    lst := lst
    nActive := groups
    meanErr := average l.meanErr eps
    meanAbs := (average l.meanAbs (eps.natAbs : Int)).toNat
    meanAbsC := if full then (average l.meanAbsC (epsC.natAbs : Int)).toNat else l.meanAbsC }) } } : State).bump
      (0x2C10 + r) 3

/-- The first steps of a C-frame's fits made, one entry update a cycle within `n` cycles. -/
def State.fitList (s : State) (n : Nat) : List Fit → State
  | [] => { s with tally := { s.tally with fits := [] } }
  | .entry t g :: rest =>
    match n with
    | 0 => { s with tally := { s.tally with fits := .entry t g :: rest } }
    | k + 1 => (s.fitEntry t g).fitList k rest
  | .close r lst eps epsC groups :: rest => (s.closeFit r lst eps epsC groups).fitList n rest

/-- The fits as they stand when cycle `c` of the C-frame begins: updates are written in cycles 8 to 1,007 (R187, R188). -/
def State.fitsAt (s : State) (c : Nat) : State :=
  if c < 8 then s
  else
    let k := min 1000 (c - 8)
    let s := s.fitList (k - s.tally.fitDone) s.tally.fits
    { s with tally := { s.tally with fitDone := max s.tally.fitDone k } }

/-- The fits as they stand now. -/
def State.fitNow (s : State) : State := s.fitsAt (s.tb.now - s.tb.cStart)

/-- The fits after every update that the C-frame has a cycle for; what is left is skipped, the static terms are not
(R187, 02 R40). Answers whether updates were skipped. -/
def State.fitEnd (s : State) : State × Bool :=
  let s := s.fitsAt 1008
  let rest := s.tally.fits
  let closes := rest.filter (fun f => match f with
    | .entry _ _ => false
    | .close _ _ _ _ _ => true)
  (s.fitList 0 closes, rest.length != closes.length)

/-! ### Groups that end without a DONE -/

/-- A GRANTED slot freed without a DONE and passed to the Assayer marked timed out (R178). -/
def State.timeOutSlot (s : State) (n : Nat) : State :=
  let v := s.slot n
  ((s.freeSlot n).bump 0x2C02 0x0B).assayTimedOut (slotArray n) v.ring (v.tag n)

/-- Slots of a domain's arrays in a state, ascending. -/
def State.domainSlots (s : State) (d : Nat) (st : GroupSt) : List Nat :=
  (s.tally.slots.filter (fun p => p.2.st == st && s.arrayDomain (slotArray p.1) == some d)).map (·.1)

/-- Every slot of a domain's arrays that holds a group in a state is read and freed (10 R255, R257). -/
def State.freeDomain (s : State) (d : Nat) (st : GroupSt) (f : State → Nat → State) : State :=
  each (s.domainSlots d st) (fun s n =>
    let s := s.readSlot n
    if (s.slot n).st == st then f s n else s) s

/-- Every GRANTED slot of a domain's arrays freed as timed out (10 R255, R257). -/
def State.timeOutDomain (s : State) (d : Nat) : State := s.freeDomain d .granted State.timeOutSlot

/-- Every PREDICTED slot of a domain's arrays withdrawn as though cancelled (10 R255). -/
def State.withdrawDomain (s : State) (d : Nat) : State := s.freeDomain d .predicted State.dropPredicted

/-- A running grant without a slot of its own starts, and the C-frame is not learned on its rail (R174, R186). -/
def State.addLoose (s : State) (a ring tag role : Nat) : State :=
  let r := s.arrayRail a
  let s : State := { s with tally := { s.tally with loose := s.tally.loose ++
    [{ array := a, ring := ring, tag := tag, role := role, rail := r, at_ := (s.frameOf s.grantTime).1 }] } }
  s.unlearn r 2

/-- The first loose grant of a group ends with its DONE. -/
def dropLoose (a ring tag role : Nat) : List LooseGrant → List LooseGrant
  | [] => []
  | g :: rest =>
    if g.array = a && g.ring = ring && g.tag = tag && g.role = role then rest else g :: dropLoose a ring tag role rest

end Sys2Proof.Machine
end

