-- ==== Sys2Proof/Machine/Credits.lean ====
section
/-! DEFINITION. The Credit Unit (06): accounts and their refill, ISSUE decisions, reservations, the ring sweep, the debit
scale and the slew envelope. The frame commands that use them are in Frames.lean. -/

namespace Sys2Proof.Machine

/-! ### Rates and refill -/

/-- Quantum in pJ. -/
def State.quantum (s : State) : Nat := s.obj 0x2800 1

/-- A rate in 1/65,536 credit per C-frame as mW. -/
def State.mwOfRate (s : State) (x : Nat) : Nat := satU 32 (x * s.quantum / 65536000)

/-- A power in mW as a rate in 1/65,536 credit per C-frame (R142). -/
def State.rateOf (s : State) (mw : Nat) : Nat := rateOfMw s.quantum mw

/-- TDP share of a rail as a rate. -/
def State.shareRate (s : State) (r : Nat) : Nat := s.rateOf (s.obj (0x2810 + r) 4)

/-- Equivalent rate of a metering rail: the least of its own allowed rate and those of its coupled rails over their
ratios (R144). -/
def State.equivalentRate (s : State) (m : Nat) : Nat :=
  ((s.coupledRails m).map (fun q => (s.shaper q.1).rate * 65536 / max 1 q.2)).foldl min (s.shaper m).rate

/-- Refill of a metering rail for this C-frame; 98 % of it in holdover (R144, 02 R44). -/
def State.railRefill (s : State) (m : Nat) : Nat :=
  let q := s.equivalentRate m
  if s.tb.tb == .holdover then q * 98 / 100 else q

/-- Whether an array takes part in refill and may be granted: not quarantined, its domain ON, its metering started
(R145, 10 R250, R253). -/
def State.arrayLive (s : State) (a : Nat) : Bool :=
  match s.arrayDomain a with
  | some d => (s.domain d).st == .on && (s.domain d).meterFrom && !s.quarantined a
  | none => false

def State.arrayWeight (s : State) (a : Nat) : Nat := s.obj (0x2A00 + a) 1

/-- Sum of the weights W of a rail's live arrays. -/
def State.weightSum (s : State) (m : Nat) : Nat :=
  (((s.railArrays m).filter s.arrayLive).map s.arrayWeight).foldl (· + ·) 0

/-- Cap of an array account, 1/65,536 credit. -/
def State.arrayCap (s : State) (a : Nat) : Nat := s.obj 0x2800 2 * (s.array a).refill

/-- Integer part of a balance in 1/65,536 credit, towards zero. -/
def intPart (x : Int) : Int := x.tdiv 65536

/-- One array at the C-frame tick: refill, cap or clip, cumulative counter, filler allotment (R145, R148, R160). -/
def State.refillArray (s : State) (m w refill : Nat) (clip : Bool) (a : Nat) : State :=
  if s.arrayLive a then
    let x := refill * s.arrayWeight a / max 1 w
    let cap := if clip then x else s.obj 0x2800 2 * x
    s.modArray a (fun v => { v with
      bal := satS 48 (min (v.bal + (x : Int)) (cap : Int))
      refill := x
      cum := (v.cum + x / 65536) % 2 ^ 48
      fil := satU 24 ((s.shaper m).filler * s.arrayWeight a / max 1 w / 65536)
      alloc := satU 24 ((s.shaper m).filler * s.arrayWeight a / max 1 w / 65536) })
  else s.modArray a (fun v => { v with bal := 0, refill := 0, fil := 0, alloc := 0 })

/-- Refill of a metering rail at the C-frame tick (R145, R148). Its balances are clipped in READY, at the events of R148
and where the refill has more than halved. -/
def State.refillRail (s : State) (m : Nat) (cap : Bool) : State :=
  let prev := (s.shaper m).refill
  let refill := s.railRefill m
  let clip : Bool := s.gov.st == .ready || cap || (s.shaper m).clip || 2 * refill < prev
  let w := s.weightSum m
  let s := each (s.railArrays m) (fun s a => s.refillArray m w refill clip a) s
  s.modShaper m (fun v => { v with refill := refill, clip := false })

/-- Metering rails in use. -/
def State.meteringRails (s : State) : List Nat := s.railsUsed.filter (fun r => s.railRole r == 1)

/-- Every account at the C-frame tick; nothing is refilled outside READY and the metering states. `cap`: the first
C-frame of the no-coolant cap (R148). -/
def State.refillAll (s : State) (cap : Bool) : State :=
  if s.gov.st.words then each s.meteringRails (fun s m => s.refillRail m cap) s
  else
    let s := s.creditsZero
    { s with
      arrays := s.arrays.map (fun p => (p.1, { p.2 with refill := 0, alloc := 0 }))
      shapers := s.shapers.map (fun p => (p.1, { p.2 with refill := 0, clip := false })) }

/-! ### Ring accounts (R146, R147) -/

def ringKey (a ring : Nat) : Nat := a * 32 + ring

def State.ringWeight (s : State) (a ring : Nat) : Nat := s.obj (0x2A00 + a) (0x10 + ring)

/-- Cap of a ring account in credits. -/
def State.ringCap (s : State) (a ring : Nat) : Nat :=
  (s.array a).refill / 65536 * s.ringWeight a ring * s.obj 0x2800 3 / 256

/-- Balance that an update of a ring account gives now. -/
def State.ringNow (s : State) (a ring : Nat) : Int :=
  let v := s.ring (ringKey a ring)
  let diff := ((s.array a).cum + 2 ^ 48 - v.snap) % 2 ^ 48
  satS 24 (min (v.bal + (diff * s.ringWeight a ring / 256 : Nat)) (s.ringCap a ring : Int))

/-- A ring account updated. -/
def State.ringUpdate (s : State) (a ring : Nat) : State :=
  s.setRing (ringKey a ring) { bal := s.ringNow a ring, snap := (s.array a).cum }

/-! ### ISSUE (R150 to R154, R169 to R175) -/

/-- The answer word on a port's answer channel (R169). -/
def answerWord (grant : Bool) (reason a ring role tag : Nat) : BitVec 32 :=
  BitVec.ofNat 32 (natOfBool grant * 2 ^ 31 + reason * 2 ^ 28 + a * 2 ^ 20 + ring * 2 ^ 15 + role * 2 ^ 13 + tag)

def State.answerPort (s : State) (port : Nat) (w : BitVec 32) : State :=
  { s with tally := { s.tally with answers := tset s.tally.answers port w } }

/-- A HOLD: counted and answered with its reason. -/
def State.hold (s : State) (port a ring role tag reason : Nat) : State :=
  ((s.bump64 0x2802 (if reason = 6 then 0x10 else 2 + reason) 1).bump (0x2A00 + a) 8).answerPort port
    (answerWord false reason a ring role tag)

/-- Slot that gives an ISSUE its prediction, if the group is committed: PREDICTED for ROLE 0, PREDICTED or GRANTED under
the origin for ROLE 1, where a GRANTED group never announced has none to give. A third execution always takes the
unannounced cost, and known-answer groups have no slot (R174, R175, 06 R150, 11 R272, R287). -/
def State.matchSlot (s : State) (a ring role origin tag : Nat) : Option Nat :=
  let n := slotKey (if role = 0 then a else origin) tag
  match role with
  | 0 => if s.holds n ring tag .predicted then some n else none
  | 1 =>
    if s.holds n ring tag .predicted || (s.holds n ring tag .granted && (s.slot n).source != .unannounced) then some n
    else none
  | _ => none

/-- Debit scale of an array's rail. -/
def State.sigmaOf (s : State) (a : Nat) : Nat := (s.shaper (s.arrayRail a)).sigma

/-- Cost of a normal group in credits (R150). -/
def State.cost (s : State) (a : Nat) (m : Option Nat) : Nat :=
  match m with
  | some n => min 0x3FFFFF (max 1 (ceilDiv ((s.slot n).p * s.sigmaOf a) (256 * 4096)))
  | none => s.obj 0x2800 4

/-- The Tally's part of a GRANT of an original group, whose time is that of the decision (R174, 06 R153). -/
def State.grantSlot (s : State) (a ring tag : Nat) (m : Option Nat) : State :=
  let n := slotKey a tag
  let old := s.slot n
  let at_ := s.frameOf s.grantTime
  let g : GroupSlot := { old with
    st := .granted
    grantC := at_.1
    grantG := at_.2 }
  match m with
  | some n => s.setSlot n g
  | none =>
    match (s.slot n).st with
    | .granted => (s.bump 0x2C02 0x14).addLoose a ring tag 0
    | _ =>
      let s := if (s.slot n).st == .predicted then (s.dropPredicted n).bump 0x2C02 8 else s
      let u : GroupSlot := {
        st := .granted
        tagHi := tag / 256
        ring := ring
        source := .unannounced
        grantC := at_.1
        grantG := at_.2 }
      (s.setSlot n u).unlearn (s.arrayRail a) 2

/-- A GRANT: counted, answered, and passed to the Tally and the Assayer (R151, R174, R175, 11 R268). The slot whose
pipeline it is in can defer a CANCEL (R177). -/
def State.grant (s : State) (port a ring role tag cost : Nat) (m : Option Nat) (filler : Bool) : State :=
  let s := (s.bump64 0x2802 1 1).bump (0x2A00 + a) 7
  let s := s.modShaper (s.arrayRail a) (fun v => { v with debited := v.debited + cost })
  let s := if role = 0 then s.grantSlot a ring tag m else s.addLoose a ring tag role
  let s := s.answerPort port (answerWord true 0 a ring role tag)
  if role = 0 && !filler then s.assayGrant a ring tag else s

/-- A normal ISSUE against its accounts (R151). -/
def State.decide (s : State) (port a ring role tag cost : Nat) (m : Option Nat) : State :=
  let s := s.ringUpdate a ring
  let v := s.array a
  let g := ringKey a ring
  let capr := s.ringCap a ring
  let capa := s.arrayCap a / 65536
  let needR : Int := (min cost capr : Nat)
  let needA : Int := (min cost capa : Nat)
  let bal : Int := max (intPart v.bal) 0
  let avail : Int := bal + (v.fil : Int)
  let reserved : Bool := match v.resv with
    | some x => x.ring != ring && avail - (cost : Int) < x.amount
    | none => false
  if reserved then s.hold port a ring role tag 4
  else if s.ringWeight a ring != 0 && needR ≤ (s.ring g).bal && needA ≤ avail then
    let fromF : Int := min (v.fil : Int) (max ((cost : Int) - bal) 0)
    let s := if capr < cost || capa < cost then s.bump 0x2802 8 else s
    let s := s.setArray a { v with
      fil := ((v.fil : Int) - fromF).toNat
      bal := satS 48 (v.bal - ((cost : Int) - fromF) * 65536)
      resv := match v.resv with
        | some x => if x.ring = ring then none else some x
        | none => none }
    let s := s.setRing g { (s.ring g) with bal := satS 24 ((s.ring g).bal - (cost : Int)) }
    s.grant port a ring role tag cost m false
  else
    let s := if avail < needA && v.resv.isNone then
        (s.setArray a { v with resv := some { ring := ring, amount := needA, last := s.tb.cframe } }).bump 0x2802 9
      else s
    s.hold port a ring role tag 0

/-- A filler ISSUE against the filler allotment; always held in NW-OXG4-C (R158, R160). -/
def State.decideFiller (s : State) (port a ring role tag : Nat) (m : Option Nat) : State :=
  let cost := s.obj 0x2801 6
  if s.cfg == .full && cost ≤ (s.array a).fil then
    (s.modArray a (fun v => { v with fil := v.fil - cost })).grant port a ring role tag cost m true
  else s.hold port a ring role tag 5

/-- Whether the Governor meters: a metering state, and past the first C-frame tick after READY (R149). -/
def State.metered (s : State) : Bool := s.gov.st.metering && !s.gov.meterWait && !s.forcedOff

/-- Whether a domain's issue is frozen: by a droop, or because it is not ON (01 R13, 10 R250). -/
def State.issueFrozen (s : State) (d : Nat) : Bool :=
  (s.droop d).frozen.isSome || (s.domain d).st != .on || !(s.domain d).meterFrom

/-- An ISSUE that names a used array (R151). -/
def State.issueUsed (s : State) (port a d ring role origin tag : Nat) : State :=
  let s := s.readSlot (slotKey (if role = 0 then a else origin) tag)
  let m := s.matchSlot a ring role origin tag
  let filler : Bool := match m with
    | some n => (s.slot n).cls == fillerKey
    | none => false
  let s := if m.isNone then (s.bump 0x2802 0x0F).dEvent 26 else s
  let cost := s.cost a m
  let s := s.modArray a (fun v => { v with resv := match v.resv with
    | some x => some (if x.ring = ring then { x with last := s.tb.cframe } else x)
    | none => none })
  let n := slotKey (if role = 0 then a else origin) tag
  let s : State := { s with tally := { s.tally with
    inFlight := (s.tally.inFlight.filter (fun q => s.tb.now ≤ q.2 + 8)) ++ if role = 3 then [] else [(n, s.tb.now)] } }
  if !s.metered then s.hold port a ring role tag 2
  else if s.issueFrozen d then s.hold port a ring role tag 1
  else if s.quarantined a then s.hold port a ring role tag 3
  else if filler then s.decideFiller port a ring role tag m
  else s.decide port a ring role tag cost m

/-- An ISSUE that names an array the descriptor does not use (R171). -/
def State.issueUnused (s : State) (port a ring role tag : Nat) : State :=
  let s := (s.bump 0x2C02 0x0F).bump64 0x2802 0x10 1
  (s.dEvent 28).answerPort port (answerWord false 6 a ring role tag)

/-- RESERVATION_EXPIRY (R152): the ring has not re-ISSUEd for the expiry. -/
def execReservationExpiry (array : Nat) (s : State) : Host.Outcome State Fault Refusal :=
  match (s.array array).resv with
  | some x =>
    if x.last + s.obj 0x2800 5 ≤ s.tb.cframe then
      .next (((s.modArray array (fun v => { v with resv := none })).bump 0x2802 0x0A).dEvent 27)
    else .next s
  | none => .next s

/-- RING_SWEEP (R147): every 100 C-frames the next ring account in global order is updated. -/
def execRingSweep (s : State) : Host.Outcome State Fault Refusal :=
  let g := s.sweepRing
  if s.tb.gclk && s.tb.cframe % 100 == 0 && s.tb.sweptC != some s.tb.cframe then
    let t := s.ringUpdate (g / 32) (g % 32)
    .next { t with sweepRing := (g + 1) % 8192, tb := { t.tb with sweptC := some s.tb.cframe } }
  else .next s

/-! ### Filler-command outputs (17 R412) -/

/-- fl_valid, fl_array and fl_alloc in a GCLK cycle of the C-frame: in RUN, LIMIT and SAFE, in cycles 1 to 256, the
allotment of array cycle - 1 where the descriptor uses it. -/
def State.fillerOut (s : State) (cycle : Nat) : Bool × Nat × Nat :=
  let a := cycle - 1
  if s.cfg == .full && (s.gov.st == .run || s.gov.st == .limit || s.gov.st == .safe) && 1 ≤ cycle && cycle ≤ 256
      && s.arraysUsed.contains a then (true, a, (s.array a).alloc)
  else (false, 0, 0)

/-! ### Debit scale (R163) -/

/-- Debit scale after a C-frame in which it is updated: sigma moves by at most 1/64 of its value, between 1 and 4. -/
def sigmaStep (sigma sm sd : Nat) : Nat :=
  let d := clampI ((sigma : Int) * ((sm : Int) - (sd : Int))) (-(sigma * sd : Nat)) ((sigma * sd : Nat) : Int)
  clampN ((sigma : Int) + d.tdiv (64 * sd : Nat)).toNat 4096 16384

/-- The debit scale of a metering rail at the C-frame tick, and its limit source. -/
def State.sigmaUpdate (s : State) (r : Nat) : State :=
  let v := s.shaper r
  let sm := v.winM.foldl (· + ·) 0
  let sd := v.winD.foldl (· + ·) 0
  if sd = 0 || sd * 65536 < 8 * v.refill then s
  else
    let sigma := sigmaStep v.sigma sm sd
    let run := if sigma = 16384 && sd < sm then v.sigmaRun + 1 else 0
    if run = 64 then (s.setShaper r { v with sigma := sigma, sigmaRun := 0 }).trigger 24 1 r 0 (s.railPa r 0)
    else s.setShaper r { v with sigma := sigma, sigmaRun := run }

/-- What the last C-frame measured and debited enters the 64-frame windows of a metering rail. -/
def State.sigmaWindow (s : State) (r : Nat) : State :=
  s.modShaper r (fun v => { v with
    winM := (v.measured / 65536 :: v.winM).take 64
    winD := (v.debited :: v.winD).take 64
    debited := 0 })

/-! ### Slew envelope and filler (R155 to R160) -/

/-- Step of the envelope in percent of the TDP share per ms, as a change of rate per C-frame. -/
def State.slewStep (s : State) (r pct : Nat) : Nat := s.shareRate r * pct / 100000

/-- A slew in force: the lower of the local value and that of the last budget entry (16 R389). -/
def slewPct (local_ : Nat) (entry : Option Nat) : Nat :=
  match entry with
  | some x => min local_ x
  | none => local_

/-- Up and down step of a rail (R155). -/
def State.upStep (s : State) (r : Nat) : Nat := s.slewStep r (slewPct (s.obj 0x2801 2) s.segment.up)
def State.downStep (s : State) (r : Nat) : Nat := s.slewStep r (slewPct (s.obj 0x2801 3) s.segment.down)

/-- Envelope target: the larger of last C-frame's energy and horizon bin 1 (R155). -/
def State.envTarget (s : State) (r : Nat) : Nat := max (s.shaper r).measured (s.horizon r 1 * 256)

/-- The ramp release of a C-frame: quiet count, and the dither that starts (R156). -/
def State.rampRelease (s : State) (r : Nat) : State :=
  let v := s.shaper r
  if v.env + s.upStep r < s.envTarget r then
    if s.gov.envOn && s.obj 0x2801 8 ≤ v.quiet then
      let s := s.setShaper r { v with quiet := 0, dither := s.dither }
      if s.dither = 0 then s else s.bump 0x2802 0x0E
    else s.setShaper r { v with quiet := 0 }
  else s.setShaper r { v with quiet := v.quiet + 1 }

/-- Upward bound of a rail: E + up step, or E while a dithered release holds it (R155, R156). -/
def State.upBound (s : State) (r : Nat) : Nat :=
  let v := s.shaper r
  if v.dither = 0 then v.env + s.upStep r else v.env

/-- Cycles 600 to 719: the target of the envelope within its steps, where one is in force, and whether a rail without
filler falls faster than its down step (R155, R157). -/
def State.envelopeAim (s : State) (r : Nat) : State :=
  if !s.gov.envOn then s.modShaper r (fun v => { v with envAim := v.env, drop := false })
  else
    let low := (s.shaper r).env - s.downStep r
    let t := s.envTarget r
    let up := s.upBound r
    let role := s.railRole r
    s.modShaper r (fun v => { v with envAim := clampN t low up, drop := role != 1 && t < low })

/-- Cycle 840: the rate, the winner and the envelope of the next C-frame are published, and a slew exception of the rail is
counted (R155 to R157, 08 R206, R207). -/
def State.publishRate (s : State) (r : Nat) : State :=
  let v := s.shaper r
  let mw := s.mwOfRate v.next
  if !v.competed then s.modShaper r (fun v => { v with mw := mw, drop := false })
  else
    let next := if s.gov.envOn then min v.envAim v.next else v.env
    let low := v.env - s.downStep r
    let role := s.railRole r
    let s := if s.gov.envOn && 4 ≤ v.won && v.won ≤ 8 && v.next < low then s.bump 0x2802 0x0C else s
    s.modShaper r (fun v => { v with
      mw := mw
      bound := v.won
      limiting := role != 0 && (v.won = 0 || v.won = 1 || v.won = 2 || v.won = 4)
      envNext := next
      envShown := next
      dither := if s.gov.envOn then v.dither - 1 else 0
      competed := false })

/-- Filler rate that R159 gives a metering rail before the cap. -/
def State.fillerWant (s : State) (r : Nat) : Nat :=
  let v := s.shaper r
  let b1 := s.horizon r 1 * 256
  min (v.envNext - b1) (v.next - b1)

/-- Whether filler is evaluated: RUN, LIMIT and SAFE (R158). -/
def State.fillerState (s : State) : Bool := s.gov.st == .run || s.gov.st == .limit || s.gov.st == .safe

/-- Filler rates for the next C-frame within the cap, and whether the cap limits one (R157 to R159). In NW-OXG4-C none is
commanded, and any that R159 gives counts. -/
def State.fillerRates (s : State) : State × Bool :=
  let rails := s.meteringRails
  let none_ := each rails (fun s r => s.modShaper r (fun v => { v with filler := 0 })) s
  if !s.fillerState then (none_, false)
  else if s.cfg == .core then (none_, rails.any (fun r => 0 < s.fillerWant r))
  else if !s.flag 0x2801 4 then (none_, false)
  else
    let sum := (rails.map s.fillerWant).foldl (· + ·) 0
    let cap := s.rateOf (s.obj 0x2801 1) * s.obj 0x2801 5 / 100
    let over_ : Bool := cap < sum
    (each rails (fun s r =>
      let f := s.fillerWant r
      s.modShaper r (fun v => { v with filler := if over_ then f * cap / sum else f })) s, over_)

/-- Cycle 840: the filler rates, and the count of a C-frame with an unfilled drop on any rail (R157 to R159). -/
def State.fillerCommit (s : State) : State :=
  let drop : Bool := s.railsUsed.any (fun r => (s.shaper r).drop)
  let q := s.fillerRates
  let s := if drop || q.2 then q.1.bump 0x2802 0x0D else q.1
  each s.railsUsed (fun s r => s.modShaper r (fun v => { v with drop := false })) s

end Sys2Proof.Machine
end

