-- ==== Sys2Proof/Machine/Gates.lean ====
section
/-! DEFINITION. What the Domain Sequencer does to domains and rails: wakes, stages, gating, and the two directions of
SEQUENCING (10, 04 R115 to R117, 17 R400). The commands are in Domains.lean and Sequence.lean. -/

namespace Sys2Proof.Machine

/-! ### SEQUENCING down: rails -/

/-- Sequence position of a rail (0x2200+r:1F). -/
def State.position (s : State) (r : Nat) : Nat := s.obj (0x2200 + r) 0x1F

/-- Rails in use at a position. -/
def State.positionRails (s : State) (p : Nat) : List Nat := s.railsUsed.filter (fun r => s.position r == p)

/-- Rails not yet off. -/
def State.railsLeft (s : State) : List Nat := s.railsUsed.filter (fun r => (s.rail r).seq != .off)

/-- The whole of SEQUENCING down, or of a power-down in SERVICE, has completed (10 R261). -/
def State.downDone (s : State) : State :=
  let s : State := { s with gov := { s.gov with phase := .idle } }
  if s.gov.st == .service then
    if s.gov.svcExit then s.enter .standby 0xFE else { s with gov := { s.gov with seqDown := false } }
  else s.enter .standby 0xFF

/-- A rail's power-down begins: the setpoint falls, or, before its ramp, nothing has to (04 R117). The discharge timeout
counts from here (DESIGN CHOICE, log 128). -/
def State.startDischarge (s : State) (r : Nat) : State :=
  let s := each (s.railLanes r) (fun s n => s.modLane n Lane.endRetry) s
  if (s.rail r).seq == .census then s.railOff r
  else (s.abortShed r).modRail r (fun v => { v with
    seq := .discharging, prePos := 0, deadline := s.tb.now + s.cyc 0x2003 3 })

/-- The rails at the highest position left power down; when none is left the sequence is done (04 R117). -/
def State.railsDownStep (s : State) : Nat → State
  | 0 => s
  | fuel + 1 =>
    let left := s.railsLeft
    if left.isEmpty then s.downDone
    else
      let p := (left.map s.position).foldl max 0
      let now := left.filter (fun r => s.position r == p)
      let s := each (now.filter (fun r => (s.rail r).seq != .discharging)) State.startDischarge s
      let s : State := { s with gov := { s.gov with phase := .railsDown, seqPos := p } }
      if now.all (fun r => (s.rail r).seq == .off) then s.railsDownStep fuel else s

/-- More than the positions a package can have. -/
def railFuel : Nat := 9

/-- A rail has discharged or run out of time: its lanes are COLD and the next position may follow (04 R117). -/
def State.discharged (s : State) (r : Nat) : State :=
  let s := (s.railLanesDown r).railOff r
  if s.gov.phase == .railsDown then s.railsDownStep railFuel else s

/-! ### Wakes -/

/-- Concurrent-wake condition of R251. -/
def State.wakeRoom (s : State) (d : Nat) : Bool :=
  ((s.domainsUsed.filter (fun o => s.droopRail o == s.droopRail d && (s.domain o).st == .waking)).length) < s.obj 0x3400 5

/-- Rush-current condition of R251: lane capacity less present demand. -/
def State.rushRoom (s : State) (d : Nat) : Bool :=
  let r := s.droopRail d
  (s.obj (0x3410 + d) 4 : Int) ≤ (s.laneCapacity r : Int) - (s.rail r).iC

/-- The concurrent-wake condition as a request finds it: wakes requested before it that can start count as started. -/
def State.wakeRoomAsked (s : State) (d : Nat) : Bool :=
  ((s.domainsUsed.filter (fun o => o != d && s.droopRail o == s.droopRail d && ((s.domain o).st == .waking
    || ((s.domain o).wanted && (s.domain o).st == .off && s.rushRoom o)))).length) < s.obj 0x3400 5

/-- The wake waits of every waiting domain up to now: a wait counts while the rush-current condition alone fails. It is brought up to
date when a wake starts, ends or is requested and at F-frame ticks; what changes between two of them counts from the second
(10 R252; DESIGN CHOICE, log 135). -/
def State.waitTick (s : State) : State :=
  each (s.domainsUsed.filter (fun d => (s.domain d).wanted && (s.domain d).st == .off)) (fun s d =>
    let alone : Bool := s.wakeRoomAsked d && !s.rushRoom d
    s.modDomain d (fun v => { v with
      waited := v.waited + (match v.rushWait with
        | some t => s.tb.now - t
        | none => 0)
      rushWait := if alone then some s.tb.now else none })) s

/-- A wake is requested of an OFF domain; one that has to wait is counted once (10 R251). -/
def State.wantWake (s : State) (d : Nat) : State :=
  let v := s.domain d
  if v.wanted then s
  else
    let room := s.wakeRoomAsked d
    let waits : Bool := !room || !s.rushRoom d
    let s := s.setDomain d { v with
      wanted := true
      rushWait := if room && !s.rushRoom d then some s.tb.now else none
      waited := 0
      retryAt := none }
    (if waits then s.bump (0x3410 + d) 0x0B else s).waitTick

/-! ### Gating -/

/-- Stages of a domain start to fall, the first after `delay`; go_iso is high (10 R254, R255, R259). -/
def State.startFall (s : State) (d delay : Nat) (after : AfterGating) : State :=
  let s := s.droopLoss d
  State.waitTick <| s.modDomain d (fun v => { v with
    st := .gating
    iso := true
    after := after
    stageAt := some (s.tb.now + delay)
    pgEnd := none
    pgAt := none
    isoAt := none
    drainEnd := none
    censusDone := false
    censusEnd := none
    meterFrom := false })

/-- An ON domain starts to drain: its predictions are withdrawn (10 R255). -/
def State.startDrain (s : State) (d : Nat) : State :=
  (s.modDomain d (fun v => { v with st := .draining, drainEnd := some (s.tb.now + s.cyc 0x3400 7) })).withdrawDomain d

/-- SEQUENCING down: domains drain and gate in descending number, at most the limit at once on a rail; when every domain
is OFF or FAULTED the rails follow (10 States). -/
def State.gateNext (s : State) : State :=
  if s.gov.phase == .gating then
    let s := each (List.range 32).reverse (fun s d =>
      match (s.domain d).st with
      | .waking | .settling => s.startFall d 0 .off
      | .on =>
        let busy := (s.domainsUsed.filter (fun o => s.droopRail o == s.droopRail d
          && ((s.domain o).st == .draining || (s.domain o).st == .gating))).length
        if busy < s.obj 0x3400 5 then s.startDrain d else s
      | .unused | .off | .draining | .gating | .faulted => s) s
    if s.domainsUsed.all (fun d => (s.domain d).st == .off || (s.domain d).st == .faulted) then
      s.railsDownStep railFuel
    else s
  else s

/-- SEQUENCING down starts: waiting wakes and retries end (10 States). A domain whose second miss brought it to GATING still
becomes FAULTED (10 R254). -/
def State.startDown (s : State) : State :=
  let s : State := { s with
    gov := { s.gov with seqDown := true, phase := .gating, hostRel := false }
    domains := s.domains.map (fun p => (p.1, { p.2 with
      wanted := false, rushWait := none, retryAt := none, retry := false
      after := if p.2.after == .fault then .fault else .off })) }
  s.gateNext

/-- A failure turns the sequence round (10 R261). -/
def State.seqFail (s : State) : State :=
  if s.gov.seqDown || s.gov.phase == .idle then s
  else s.startDown

/-! ### Completion of SEQUENCING up -/

/-- Whether every initial-on domain is ON. -/
def State.initialsOn (s : State) : Bool :=
  (s.domainsUsed.filter s.initialOn).all (fun d => (s.domain d).st == .on)

/-- Whether every rail in use is power-good. -/
def State.railsGood (s : State) : Bool := s.railsUsed.all (fun r => (s.rail r).good)

/-- With every rail power-good and every initial-on domain ON, SEQUENCING up passes to READY or SAFE; in SERVICE the state
stays (10 R261, R263). -/
def State.seqCheck (s : State) : State :=
  if s.gov.phase == .domains && s.initialsOn && s.railsGood then
    let s : State := { s with gov := { s.gov with phase := .idle } }
    -- at the end of SEQUENCING, ports in no group that have delivered a valid report become UNUSED (05 R137)
    let s := each ((List.range s.tapCount).filter (fun t => ((s.tap t).st == .unassigned || (s.tap t).st == .masked) && (s.tap t).seen
        && s.tapGroup t == 0xFF)) (fun s t =>
      (s.modTap t (fun p => { p with st := .unused })).record 0x0260 (1 * 2 ^ 56 + t * 2 ^ 40) 0 false) s
    if s.gov.st == .sequencing then (if s.safeLatched then s.enter .safe 0xFF else s.enter .ready 0xFF) else s
  else s

/-- Parameter A of pin 44. -/
def State.domainPa (s : State) (d : Nat) : Nat := s.droopPa d 0

/-- A wake that has failed for good: FAULTED, the source raised; in SEQUENCING up an initial-on domain ends the sequence
(10 R254, R257, R261). -/
def State.faultDomain (s : State) (d : Nat) : State :=
  let s := s.modDomain d (fun v => { v with st := .faulted, retry := false, wanted := false, retryAt := none })
  let s := s.trigger 44 2 d 0 (s.domainPa d)
  if s.gov.phase == .domains && s.initialOn d then s.seqFail else s

/-- A wake that missed its window with no stage raised, or whose stages have fallen: OFF through the retry delay, or
FAULTED when it was the retry (10 R254). -/
def State.missedWake (s : State) (d : Nat) : State :=
  if (s.domain d).retry then s.faultDomain d
  else s.modDomain d (fun v => { v with
    st := .off, retry := true, wanted := false, rushWait := none, retryAt := some (s.tb.now + s.cyc 0x3400 6) })

/-- The last stage of a domain in GATING has fallen (10 R254, R255, R259). -/
def State.fallen (s : State) (d : Nat) : State :=
  let v := s.domain d
  let s := s.setDomain d { v with stages := 0, stageAt := none, after := .off }
  let s := match v.after with
    | .off =>
      let s := s.modDomain d (fun v => { v with st := .off, retry := false, written := false, wanted := false })
      if v.wanted then s.wantWake d else s
    | .retry => s.missedWake d
    | .fault => s.faultDomain d
  s.gateNext

/-- A domain becomes ON once its census is over and go_iso has fallen (10 R253, R254, R257). -/
def State.domainOn (s : State) (d : Nat) : State :=
  let v := s.domain d
  if v.st == .settling && v.censusDone && !v.iso then
    let s := s.setDomain d { v with st := .on, retry := false, lastWake := nsOf (s.tb.now - v.wakeStart) }
    let s := s.bump (0x3410 + d) 0x0A
    let s := if v.retry then (s.bump (0x3410 + d) 0x0D).transient 44 else s
    s.seqCheck
  else s

/-! ### SEQUENCING up -/

/-- The census of a position's rails starts; the divider code, the sense exclusions and the sense faults of the last
sequencing are renewed (02 R33, 03 R64, 04 R83, R84). -/
def State.startCensus (s : State) (p : Nat) : State :=
  let s : State := { s with gov := { s.gov with phase := .rails, seqPos := p } }
  each (s.positionRails p) (fun s r =>
    let s := s.modRail r (fun v => { v.down with
      seq := .census, code := s.obj 0x1201 (1 + r), senseLost := false, senseGone := false
      censusFrom := s.tb.now, censusN := 0 })
    let s := each ((List.range s.laneCount).filter (fun n => s.laneRail n == r || s.laneRail n == 0xFF)) (fun s n =>
      s.modLane n (fun l => { l with good := 0, bad := false })) s
    let s := each (s.desc.senseRail.filter (fun q => q.2 == r)) (fun s q => s.setSenseTap q.1 {}) s
    s.dropCause 13 1 r) s

/-- Lowest position above `p`, if any. -/
def State.nextPosition (s : State) (p : Option Nat) : Option Nat :=
  let l := (s.railsUsed.map s.position).filter (fun q => match p with
    | some p => p < q
    | none => true)
  l.foldl (fun (b : Option Nat) q => match b with
    | some x => some (min x q)
    | none => some q) none

/-- The rails are up: each initial-on domain is woken in ascending number (10 R251). -/
def State.startDomains (s : State) : State :=
  let s : State := { s with gov := { s.gov with phase := .domains } }
  (each (s.domainsUsed.filter (fun d => s.initialOn d && (s.domain d).st == .off)) State.wantWake s).seqCheck

/-- SEQUENCING up starts: FAULTED domains return to OFF, and the stage supply is awaited (10 R258, 17 R400). -/
def State.startUp (s : State) : State :=
  let s : State := { s with
    gov := { s.gov with seqDown := false, phase := .supply, seqStart := s.tb.now }
    domains := s.domains.map (fun p => (p.1, { p.2 with
      st := if p.2.st == .faulted then .off else p.2.st, retry := false })) }
  match s.nextPosition none with
  | some p => { s with gov := { s.gov with seqPos := p } }
  | none => s.startDomains

/-- The first entry to STANDBY after BOOT with auto-start set begins SEQUENCING up (10 R261, 0x3400:03). -/
def State.autoStart (s : State) : State :=
  if s.gov.st == .standby && !s.gov.autoTried then
    let s : State := { s with gov := { s.gov with autoTried := true } }
    if s.flag 0x3400 3 then (s.enter .sequencing 0xFF).startUp else s
  else s

/-- A missed deadline of one rail: the source is raised and the sequence turns round (04 R116). -/
def State.railMissed (s : State) (r : Nat) : State := (s.trigger 16 1 r 0 (s.railPa r 0)).seqFail

end Sys2Proof.Machine
end

