-- ==== Sys2Proof/Machine/Engine.lean ====
section
/-! DEFINITION. The program engine of the Tally (07 Program engine): the program image, its checks, and one evaluation. -/

namespace Sys2Proof.Machine

/-! ### CRC-32 (IEEE 802.3) -/

/-- `n` shifts of the reflected CRC register. -/
def crcShift : Nat → Nat → Nat
  | 0, c => c
  | n + 1, c => crcShift n (if c % 2 = 1 then (c / 2) ^^^ 0xEDB88320 else c / 2)

/-- CRC-32 of bytes. -/
def crc32 (bs : List Byte) : Nat :=
  (bs.foldl (fun c b => crcShift 8 (c ^^^ b.toNat)) 0xFFFFFFFF) ^^^ 0xFFFFFFFF

/-! ### Image (Program image) -/

/-- A little-endian field of `n` bytes. -/
def Bank.field (b : Bank) (at_ n : Nat) : Nat := natLE (mreadBytes b.bytes at_ n)

def Bank.width (b : Bank) : Nat := b.field 10 1
def Bank.count (b : Bank) : Nat := b.field 11 1
def Bank.cycles (b : Bank) : Nat := b.field 14 2
def Bank.fallback (b : Bank) : Nat := b.field 16 1
def Bank.weightLen (b : Bank) : Nat := b.field 20 4
def Bank.paramLen (b : Bank) : Nat := b.field 24 4

/-- Whether a family uses the program. -/
def Bank.maps (b : Bank) (family : Nat) : Bool := bit (b.field (28 + family / 8) 1) (family % 8)

def Bank.instr (b : Bank) (i : Nat) : Nat := b.field (64 + 8 * i) 8

/-- Offsets of the weight and parameter sections. -/
def Bank.weightAt (b : Bank) : Nat := 64 + 8 * b.count
def Bank.paramAt (b : Bank) : Nat := b.weightAt + b.weightLen

/-- One int8 weight. -/
def Bank.weight (b : Bank) (i : Nat) : Int := toSigned 8 (b.field (b.weightAt + i) 1)

/-- One 8-byte parameter word, and values packed from a word on. -/
def Bank.param (b : Bank) (w : Nat) : Nat := b.field (b.paramAt + 8 * w) 8
def Bank.param32 (b : Bank) (w i : Nat) : Int := toSigned 32 (b.field (b.paramAt + 8 * w + 4 * i) 4)
def Bank.param16 (b : Bank) (w i : Nat) : Int := toSigned 16 (b.field (b.paramAt + 8 * w + 2 * i) 2)

/-! ### Evaluation state -/

/-- Registers of one evaluation (R189): vectors X and A, scalars S, masks M as bit sets, flags. -/
structure Eval where
  x : List (List Int) := [[], [], [], []]
  a : List (List Int) := [[], []]
  sc : List Int := [0, 0, 0, 0]
  m : List Nat := [0, 0]
  flags : Nat := 0
  out : Nat := 0
  deriving DecidableEq, Repr

/-- Saturation to int32. -/
def sat32 (i : Int) : Int := satS 32 i

/-- A vector of 64 lanes; lanes at and above the width read 0 (Program engine). -/
def lanesTo (w : Nat) (f : Nat → Int) : List Int := (List.range 64).map (fun i => if i < w then f i else 0)

def Eval.flagIf (v : Eval) (c : Bool) (i : Nat) : Eval := if c then { v with flags := v.flags ||| 2 ^ i } else v

/-- The inputs of an evaluation: features F0 to F15, and index sources 0 to 8 (R191). -/
structure EvalIn where
  feat : List Int
  src : List Nat
  psig : Nat
  deriving DecidableEq, Repr

/-- LOADF. -/
def Eval.loadf (v : Eval) (inp : EvalIn) (w i : Nat) : Eval :=
  { v with x := v.x.set (bits i 57 56) (lanesTo w (fun k =>
    if k < 16 && bit i (40 + k) then inp.feat.getD k 0 else 0)) }

/-- GATHER, lane form and row form. -/
def Eval.gather (v : Eval) (b : Bank) (inp : EvalIn) (w i : Nat) : Eval :=
  let xd := bits i 57 56
  if bit i 55 then
    let idx := inp.src.getD (bits i 54 51) 0
    let base := bits i 44 33
    let ok : Bool := idx < bits i 32 21
    { (v.flagIf (!ok) 1) with
      x := v.x.set xd (lanesTo w (fun k => if ok then b.weight ((base + idx) * 64 + k) else 0)) }
  else
    let xs := v.x.getD (bits i 54 53) []
    let xi := v.x.getD (bits i 52 51) []
    let at_ := fun k => ofSigned 8 (xi.getD k 0)
    let bad : Bool := (List.range w).any (fun k => w ≤ at_ k)
    { (v.flagIf bad 1) with
      x := v.x.set xd (lanesTo w (fun k => if at_ k < w then xs.getD (at_ k) 0 else 0)) }

/-- MATV. -/
def Eval.matv (v : Eval) (b : Bank) (w i : Nat) : Eval :=
  let ad := bits i 57 57
  let acc := bit i 56
  let xs := v.x.getD (bits i 55 54) []
  let rows := bits i 53 48 + 1
  let cols := bits i 47 42 + 1
  let base := bits i 41 30 * 64
  let old := v.a.getD ad []
  let exact : Nat → Int := fun k =>
    ((List.range cols).map (fun j => b.weight (base + k * cols + j) * xs.getD j 0)).foldl (· + ·) 0
      + if acc then old.getD k 0 else 0
  let bad : Bool := (List.range (min rows w)).any (fun k => exact k != sat32 (exact k))
  { (v.flagIf bad 0) with
    a := v.a.set ad (lanesTo w (fun k => if k < rows then sat32 (exact k) else if acc then old.getD k 0 else 0)) }

/-- A lane-wise stage that saturates to int32 and sets SAT. -/
def Eval.lane32 (v : Eval) (w : Nat) (l : List Int) (f : Nat → Int → Int) : Eval × List Int :=
  let bad : Bool := (List.range w).any (fun k => f k (l.getD k 0) != sat32 (f k (l.getD k 0)))
  (v.flagIf bad 0, lanesTo w (fun k => sat32 (f k (l.getD k 0))))

/-- The scaled and rounded product of SCALE and SCALEV. -/
def scaled (a m : Int) (sh : Nat) : Int := asr (a * m + if sh = 0 then 0 else (2 ^ (sh - 1) : Nat)) sh

/-- Condition codes of MASK: >, ≥, ≠. -/
def maskCond (c : Nat) (a t : Int) : Bool := if c = 0 then t < a else if c = 1 then t ≤ a else a != t

/-- One stage of a POST chain (R192). -/
def Eval.stage (v : Eval) (b : Bank) (w : Nat) (l : List Int) (d : Nat) : Eval × List Int :=
  match bits d 63 60 with
  | 0 => v.lane32 w l (fun k a => a + b.param32 (bits d 10 0) k)
  | 1 => v.lane32 w l (fun _ a => scaled a (toSigned 16 (bits d 47 32)) (bits d 28 24))
  | 2 => v.lane32 w l (fun k a => scaled a (b.param16 (bits d 10 0) k) (bits d 28 24))
  | 3 => (v, lanesTo w (fun k => max (l.getD k 0) 0))
  | 4 => (v, lanesTo w (fun k => clampI (l.getD k 0) (toSigned 24 (bits d 55 32)) (toSigned 24 (bits d 23 0))))
  | _ =>
    let t := toSigned 32 (bits d 47 16)
    let set := (List.range w).filter (fun k => maskCond (bits d 55 54) (l.getD k 0) t)
    ({ v with m := v.m.set (bits d 56 56) (maskOf set) }, l)

/-- `n` consecutive stages from a parameter word. -/
def Eval.stages (b : Bank) (w : Nat) : Nat → Nat → Eval × List Int → Eval × List Int
  | 0, _, q => q
  | n + 1, word, q => Eval.stages b w n (word + 1) (q.1.stage b w q.2 (b.param word))

/-- POST. -/
def Eval.post (v : Eval) (b : Bank) (w i : Nat) : Eval :=
  let q := Eval.stages b w (bits i 53 51 + 1) (bits i 50 40) (v, v.a.getD (bits i 57 57) [])
  if bit i 56 then { q.1 with a := q.1.a.set (bits i 54 54) q.2 }
  else
    let bad : Bool := (List.range w).any (fun k => clampI (q.2.getD k 0) (-128) 127 != q.2.getD k 0)
    { (q.1.flagIf bad 4) with
      x := q.1.x.set (bits i 55 54) (lanesTo w (fun k => clampI (q.2.getD k 0) (-128) 127)) }

/-- REDUCE. -/
def Eval.reduce (v : Eval) (w i : Nat) : Eval :=
  let l := v.a.getD (bits i 57 57) []
  let mask := bits i 54 53
  let take := (List.range w).filter (fun k => mask = 0 || bit (v.m.getD (mask - 1) 0) k)
  let vals := take.map (fun k => l.getD k 0)
  let r : Int := match bits i 56 55 with
    | 0 => vals.foldl (· + ·) 0
    | 1 => vals.foldl max (-2147483648)
    | _ => vals.foldl min 2147483647
  let v := (v.flagIf take.isEmpty 2).flagIf (r != sat32 r) 0
  { v with sc := v.sc.set (bits i 52 51) (sat32 r) }

/-- OUT. -/
def Eval.outp (v : Eval) (inp : EvalIn) (i : Nat) : Eval :=
  let x := asr (v.sc.getD (bits i 57 56) 0 * (bits i 54 39 : Int)) (bits i 38 34)
  let p := if bit i 55 then asr ((inp.psig : Int) * x) 12 else x
  let v := (v.flagIf (p < 0) 3).flagIf ((maxP8 : Int) < p) 0
  { v with out := (clampI p 0 (maxP8 : Nat)).toNat }

/-- One instruction (R191). -/
def Eval.run1 (v : Eval) (b : Bank) (inp : EvalIn) (w i : Nat) : Eval :=
  match bits i 63 58 with
  | 1 => v.loadf inp w i
  | 2 => v.gather b inp w i
  | 3 => v.matv b w i
  | 4 => v.post b w i
  | 5 => v.reduce w i
  | 6 => v.outp inp i
  | _ => v

/-- An evaluation of a bank's program. -/
def Bank.eval (b : Bank) (inp : EvalIn) : Eval :=
  ((List.range b.count).map b.instr).foldl (fun v i => v.run1 b inp b.width i) {}

/-- Bytes of the image that one instruction reads from the weight and parameter memories: offset and length (R190 to
R192). -/
def Bank.readsOf (b : Bank) (inp : EvalIn) (i : Nat) : List (Nat × Nat) :=
  match bits i 63 58 with
  | 2 =>
    let idx := inp.src.getD (bits i 54 51) 0
    if bit i 55 && idx < bits i 32 21 then [(b.weightAt + (bits i 44 33 + idx) * 64, b.width)] else []
  | 3 => [(b.weightAt + bits i 41 30 * 64, (bits i 53 48 + 1) * (bits i 47 42 + 1))]
  | 4 =>
    (List.range (bits i 53 51 + 1)).flatMap (fun k =>
      let d := b.param (bits i 50 40 + k)
      (b.paramAt + 8 * (bits i 50 40 + k), 8) :: (match bits d 63 60 with
        | 0 => [(b.paramAt + 8 * bits d 10 0, 4 * b.width)]
        | 2 => [(b.paramAt + 8 * bits d 10 0, 2 * b.width)]
        | _ => []))
  | _ => []

/-- What an evaluation reads. -/
def Bank.reads (b : Bank) (inp : EvalIn) : List (Nat × Nat) := ((List.range b.count).map b.instr).flatMap (b.readsOf inp)

/-! ### Checks (R193, R194) -/

/-- Cycles of one instruction. -/
def instrCycles (i : Nat) : Nat := if bits i 63 58 = 3 then ceilDiv ((bits i 53 48 + 1) * (bits i 47 42 + 1)) 256 else 1

/-- Whether `words` parameter words from `at_` lie inside the section. -/
def Bank.paramsIn (b : Bank) (at_ words : Nat) : Bool := 8 * (at_ + words) ≤ b.paramLen

/-- Whether a stage descriptor is within the limits. -/
def Bank.stageOk (b : Bank) (d : Nat) : Bool :=
  match bits d 63 60 with
  | 0 => b.paramsIn (bits d 10 0) 32
  | 1 | 3 => true
  | 2 => b.paramsIn (bits d 10 0) 16
  | 4 => toSigned 24 (bits d 55 32) ≤ toSigned 24 (bits d 23 0)
  | 5 => bits d 55 54 ≤ 2
  | _ => false

/-- Whether an instruction is within the limits for a width. -/
def Bank.instrOk (b : Bank) (w i : Nat) : Bool :=
  match bits i 63 58 with
  | 1 => (List.range 16).all (fun k => !bit i (40 + k) || k < w)
  | 2 =>
    if bit i 55 then
      bits i 54 51 ≤ 8 && 1 ≤ bits i 32 21 && 64 * (bits i 44 33 + bits i 32 21) ≤ b.weightLen
    else true
  | 3 =>
    bits i 53 48 + 1 ≤ w && bits i 47 42 + 1 ≤ w
      && bits i 41 30 * 64 + (bits i 53 48 + 1) * (bits i 47 42 + 1) ≤ b.weightLen
  | 4 =>
    let n := bits i 53 51 + 1
    b.paramsIn (bits i 50 40) n && (List.range n).all (fun k => b.stageOk (b.param (bits i 50 40 + k)))
  | 5 => bits i 56 55 ≤ 2 && bits i 54 53 ≤ 2
  | 6 => true
  | _ => false

/-- Number of instructions with an opcode. -/
def opCount (l : List Nat) (op : Nat) : Nat := (l.filter (fun i => bits i 63 58 = op)).length

/-- Refusal code of an image of `loaded` bytes, 0 for none. The checks are made in the order of R194. -/
def Bank.refusal (b : Bank) (loaded : Nat) : Nat :=
  let all := mreadBytes b.bytes 0 loaded
  let n := b.count
  let l := (List.range n).map b.instr
  let w := b.width
  if loaded < 64 || crc32 (all.take 60 ++ all.drop 64) != b.field 60 4 || b.field 8 2 != 64
      || 64 + 8 * n + b.weightLen + b.paramLen != loaded then 0x00030001
  else if b.field 0 4 != 0x50594C54 || b.field 4 2 != 1 || b.field 6 1 != 4 || b.field 7 1 != 2 then 0x00060001
  else if n = 0 || 64 < n || opCount l 6 != 1 || bits (l.getD (n - 1) 0) 63 58 != 6 || 8 < opCount l 3 || 4 < opCount l 4
      || w % 8 != 0 || w < 8 || 64 < w || !(l.all (b.instrOk w)) || b.weightLen % 64 != 0 || 262144 < b.weightLen
      || b.paramLen % 8 != 0 || 16384 < b.paramLen || b.field 12 1 != opCount l 4 || b.field 13 1 != 0
      || b.field 14 2 != (l.map instrCycles).foldl (· + ·) 0 || 32 ≤ b.fallback || b.field 17 3 != 0 then 0x00030002
  else 0

/-! ### Prediction of one word -/

/-- floor(log2 c) for c from 1 on. -/
def log2 (c : Nat) : Nat := Nat.log2 c

/-- Feature F5, the log of the table prediction (R191). -/
def logFeature (psig : Nat) : Nat :=
  let c := psig / 256
  if c = 0 then 0 else let e := log2 c; min 127 (4 * e + (4 * c / 2 ^ e - 4))

end Sys2Proof.Machine
end

