-- ==== Sys2Proof/Machine/Tally.lean ====
section
/-! DEFINITION. The Tally bus and the announce queue (07): ANNOUNCE, ISSUE, DONE and its digest, CANCEL, lookups with the
program engine, and slots left waiting. -/

namespace Sys2Proof.Machine

/-- An activity missed its commit point: its counter, and one event on the frame-overrun source (02 R40). -/
def State.overrun (s : State) (sub : Nat) : State := (s.bump 0x1202 sub).dEvent 2

/-- A dropped ANNOUNCE word bars sheds on every rail to the end of the 64th C-frame after its own (02 R40, 04 R102). -/
def State.announceOverrun (s : State) : State :=
  let s := (s.bump 0x2C02 2).overrun 5
  let s : State := { s with tb := { s.tb with barEnd := s.tb.cframe + 65 } }
  each s.railsUsed (fun s r => (s.abortShed r).modRail r (fun v => { v with barSeen := true })) s

/-! ### Ports -/

/-- A word waits for the digest of a DONE on its port; a DONE that is not processed leaves 0 in its place (R166). -/
def State.awaits (s : State) (port : Nat) : Option W64 := tget s.tally.awaiting port none

def State.setAwaits (s : State) (port : Nat) (w : Option W64) : State :=
  { s with tally := { s.tally with awaiting := tset s.tally.awaiting port w } }

/-- Whether a port takes words: it is one of four and GCLK runs (R166). -/
def State.portOpen (s : State) (port : Nat) : Bool := port < 4 && s.tb.gclk

/-- A word that names an unused array is discarded and counted (R170). -/
def State.unusedWord (s : State) : State := (s.bump 0x2C02 0x0F).dEvent 28

/-- Whether a DONE, ANNOUNCE or CANCEL is processed; if not, it is discarded and counted (R170). -/
def State.wordCheck (s : State) (w : W64) : State × Bool :=
  if !s.gov.st.words then (s.bump 0x2C02 0x0E, false)
  else if (s.arrayDomain (wordArray w)).isNone then (s.unusedWord, false)
  else (s, true)

/-- A DONE arrives: its group runs no longer from the next C-frame on (R185, R186). -/
def State.noteDone (s : State) (w : W64) : State :=
  let a := wordArray w
  let ring := wordRing w
  let tag := wordTag w
  let n := slotKey a tag
  if wordRole w = 0 && s.holds n ring tag .granted then s.setSlot n { s.slot n with doneC := some s.tb.cframe }
  else { s with tally := { s.tally with loose := dropLoose a ring tag (wordRole w) s.tally.loose } }

/-- The DONE of a group, which came at instant `t`, with its digest (R175, R176). -/
def State.finish (s : State) (w digest : W64) (t : Nat) : State :=
  let a := wordArray w
  let ring := wordRing w
  let tag := wordTag w
  let role := wordRole w
  let poison := w.getLsbD 46
  let n := slotKey a tag
  let s := if role = 0 then s.readSlot n else s
  if role = 0 then
    if s.holds n ring tag .granted then
      let s := if (s.slot n).doneC.getD s.tb.cframe = s.tb.cframe then s.endActive n else s
      (s.freeSlot n).assayDone a ring tag poison true digest t
    else (s.bump 0x2C02 0x0C).assayDone a ring tag poison false digest t
  else s.assayRole a ring tag role poison digest t

/-- The word after a DONE is its digest, whatever its kind (R166). -/
def State.acceptDigest (s : State) (port : Nat) (d digest : W64) : State :=
  let s := s.setAwaits port none
  if d = 0 then s else s.finish d digest (tget s.tally.doneAt port s.tb.now)

/-- DONE (R166, R170, R176). -/
def execDone (port : Nat) (word : W64) (s : State) : Host.Outcome State Fault Refusal :=
  if !s.portOpen port then .next s
  else
    match s.awaits port with
    | some d => .next (s.acceptDigest port d word)
    | none =>
      if wordKind word = 2 then
        let q := s.wordCheck word
        let s := if q.2 then q.1.noteDone word else q.1
        let s : State := { s with tally := { s.tally with doneAt := tset s.tally.doneAt port s.tb.now } }
        .next (s.setAwaits port (some (if q.2 then word else 0)))
      else .next s

/-- DONE_DIGEST (R166, R176). -/
def execDoneDigest (port : Nat) (word : W64) (s : State) : Host.Outcome State Fault Refusal :=
  if !s.portOpen port then .next s
  else
    match s.awaits port with
    | some d => .next (s.acceptDigest port d word)
    | none => .next s

/-! ### ANNOUNCE -/

/-- ANNOUNCE (R170, R181): the word enters the queue of 1,024 or is dropped as an overrun. -/
def execAnnounce (port : Nat) (word : W64) (s : State) : Host.Outcome State Fault Refusal :=
  if !s.portOpen port then .next s
  else
    match s.awaits port with
    | some d => .next (s.acceptDigest port d word)
    | none =>
      if wordKind word = 0 then
        let q := s.wordCheck word
        if !q.2 then .next q.1
        else if 1024 ≤ s.tally.queue.length then .next s.announceOverrun
        else
          let s : State := { s with tally := { s.tally with
            queue := s.tally.queue ++ [{ word := word, arrived := s.tb.cframe, at_ := s.tb.now }] } }
          .next (s.bump64 0x2C02 1 1)
      else .next s

/-- Announce lead of a ring. -/
def State.announceLead (s : State) (a ring : Nat) : Nat := s.obj (0x2E00 + a) (1 + ring)

/-- Features and index sources of a word for the program engine (R191). -/
def State.evalInputs (s : State) (w : W64) (e psig : Nat) : EvalIn :=
  let v := w.toNat
  let a := wordArray w
  let key := bits v 48 31
  let rho := bits v 26 19
  let prec := bits v 30 27
  let size := bits v 18 13
  let lead := s.announceLead a (wordRing w)
  let dom := (s.arrayDomain a).getD 0
  { feat := [(rho : Int) - 128, size, prec, wordRing w, lead, logFeature psig, bits e 31 28, entryConf e, dom, 64]
    src := [key / 1024, key % 1024, prec, size, wordRing w, a, dom, rho / 4, lead]
    psig := psig }

/-- The active bank, if the program engine is present, enabled and its bank not disabled (R189, R195). -/
def State.activeBank (s : State) : Option (Nat × Bank) :=
  match s.tally.active with
  | some b => if s.cfg == .full && s.flag 0x2C08 1 then some (b, tget s.tally.banks b {}) else none
  | none => none

/-- Words that may be evaluated in a C-frame (R189). -/
def Bank.budget (b : Bank) : Nat := min 128 (992 / max 1 b.cycles)

/-- Each flag set in an evaluation counts once, and all of them stick (R190). -/
def State.evalFlags (s : State) (flags : Nat) : State :=
  let s := each (List.range 5) (fun s i => if bit flags i then s.bump 0x2C08 (0x0B + i) else s) s
  { s with tally := { s.tally with sticky := s.tally.sticky ||| flags } }

/-- A program fallback: the table prediction is committed (R190). -/
def State.fallBack (s : State) : State :=
  { s.bump 0x2C02 6 with tally := { (s.bump 0x2C02 6).tally with fallbacksH := s.tally.fallbacksH + 1 } }

/-- Whether an evaluation reads a poisoned word of the weight or parameter memory of bank `nb` (R190, R195). -/
def State.poisonedEval (s : State) (nb : Nat) (b : Bank) (inp : EvalIn) : Bool :=
  s.poison.any (fun p => p.1 == .weights && p.2 / 65536 == nb && (b.reads inp).any (fun q =>
    q.1 < p.2 % 65536 * 8 + 8 && p.2 % 65536 * 8 < q.1 + q.2))

/-- Evaluation of a word whose family the program serves: the prediction and its source, which without an evaluation is
that of the table path (R189, R190, R195). -/
def State.evaluate (s : State) (nb : Nat) (b : Bank) (w : W64) (e psig : Nat) (source : PredSource) :
    State × Nat × PredSource :=
  if b.budget ≤ s.tally.evals then (s.bump 0x2C02 7, psig, source)
  else
    let s : State := { s with tally := { s.tally with evals := s.tally.evals + 1, evalsH := s.tally.evalsH + 1 } }
    if b.disabled then (s.fallBack, psig, .table)
    else if s.poisoned .program nb then
      let s : State := { s with tally := { s.tally with banks := tset s.tally.banks nb { b with disabled := true } } }
      ((s.fallBack.dEvent 29).raiseCause 30 0 0 0 0, psig, .table)
    else if s.poisonedEval nb b (s.evalInputs w e psig) then (s.fallBack.dEvent 29, psig, .table)
    else
      let v := b.eval (s.evalInputs w e psig)
      let s := s.evalFlags v.flags
      if v.flags &&& b.fallback = 0 then (s, v.out, .program) else (s.fallBack, psig, .table)

/-- The word at the front of the announce queue predicted (R180, R181, R189). -/
def State.predict (s : State) (x : Waiting) : State :=
  let v := x.word.toNat
  let key := bits v 48 31
  let q := s.lookup key
  let s := q.1
  let e := q.2
  let low : Bool := entryConf e < s.obj 0x2C00 5
  let f := if low then s.readFamily key else (s, e)
  let s := f.1
  let pe := f.2
  let units := s.sizeUnits (bits v 18 13) (bits v 30 27)
  let psig := tableP8 units (entryA pe) (entryB pe) (bits v 26 19)
  let source : PredSource := if low then .family else .table
  let r : State × Nat × PredSource := match s.activeBank with
    | some (nb, b) =>
      if b.maps (key / 1024) && key != fillerKey then s.evaluate nb b x.word e psig source else (s, psig, source)
    | none => (s, psig, source)
  let p : Prediction := {
    array := wordArray x.word
    ring := wordRing x.word
    tag := wordTag x.word
    cls := key
    prec := bits v 30 27
    dens := bits v 26 19
    size := bits v 18 13
    p := r.2.1
    psig := psig
    d := entryD pe
    source := r.2.2
    arrived := x.arrived }
  { r.1 with tally := { r.1.tally with taken := r.1.tally.taken ++ [p] } }

/-- ANNOUNCE_LOOKUP (R180, R181, R188): one word in each of cycles 0 to 999 of a C-frame, in the cycle after its arrival at
the earliest. A learning update written in that cycle is not yet seen. -/
def execAnnounceLookup (s : State) : Host.Outcome State Fault Refusal :=
  match s.tally.queue with
  | x :: rest =>
    let t := max s.tb.now (max s.tally.lookAt (x.at_ + 1))
    if t < s.tb.cStart + 1000 then
      let s := (s.atTime t).fitNow
      .next (({ s with tally := { s.tally with queue := rest, lookAt := t + 1 } } : State).predict x)
    else .next s
  | [] => .next s

/-- A taken word committed at cycle 1,007: slot, horizons, counts (R173, R181, R182). -/
def State.commitPrediction (s : State) (p : Prediction) : State :=
  let n := slotKey p.array p.tag
  let s := s.readSlot n
  let v := s.slot n
  if v.st == .granted then s.bump 0x2C02 9
  else
    let s := if v.st == .predicted then
        let same : Bool := v.ring == p.ring && v.tagHi == p.tag / 256
        let s := s.dropPredicted n
        if same then s else s.bump 0x2C02 8
      else s
    let lead := s.announceLead p.array p.ring
    let age := s.tb.cframe - p.arrived
    let s := if p.cls != fillerKey && lead ≤ age then s.bump 0x2C02 3 else s
    let g : GroupSlot := {
      st := .predicted
      tagHi := p.tag / 256
      ring := p.ring
      cls := p.cls
      prec := p.prec
      dens := p.dens
      size := p.size
      p := p.p
      psig := p.psig
      d := p.d
      bin := max 1 (lead - age)
      placed := s.tb.cframe
      source := p.source }
    let s := (s.setSlot n g).book n
    s.bump64 0x2C02 (if p.source == .program then 5 else 4) 1

/-- The words taken in this C-frame are committed (R181). -/
def State.commitTaken (s : State) : State :=
  each s.tally.taken State.commitPrediction { s with tally := { s.tally with taken := [] } }

/-! ### CANCEL -/

/-- A CANCEL applied to the slot it matches (R177, 06 R154, 11 R280). -/
def State.cancel (s : State) (w : W64) : State :=
  let a := wordArray w
  let ring := wordRing w
  let tag := wordTag w
  let n := slotKey a tag
  let s := s.readSlot n
  if s.holds n ring tag .predicted then s.dropPredicted n
  else if s.holds n ring tag .granted then
    (((s.freeSlot n).unlearn (s.arrayRail a) 3).bump 0x2802 0x0B).assayWithdraw a ring tag
  else s.bump 0x2C02 0x0D

/-- Instant of an ISSUE of a slot that is still before its debit (R177). -/
def State.inPipeline (s : State) (n : Nat) : Option Nat :=
  (s.tally.inFlight.find? (fun q => q.1 == n && s.tb.now ≤ q.2 + 8)).map (·.2)

/-- CANCEL (R170, R177). -/
def execCancel (port : Nat) (word : W64) (s : State) : Host.Outcome State Fault Refusal :=
  if !s.portOpen port then .next s
  else
    match s.awaits port with
    | some d => .next (s.acceptDigest port d word)
    | none =>
      if wordKind word = 3 then
        let q := s.wordCheck word
        if !q.2 then .next q.1
        else if (s.inPipeline (slotKey (wordArray word) (wordTag word))).isSome then
          .next { s with tally := { s.tally with deferred := s.tally.deferred ++ [word] } }
        else .next (s.cancel word)
      else .next s

/-- DEFERRED_CANCEL (R177): applied in the cycle after the ISSUE's debit. -/
def execDeferredCancel (s : State) : Host.Outcome State Fault Refusal :=
  match s.tally.deferred with
  | w :: rest =>
    let due := match s.tally.inFlight.find? (fun q => q.1 == slotKey (wordArray w) (wordTag w)) with
      | some q => q.2 + 9
      | none => s.tb.now
    .next ((({ s with tally := { s.tally with deferred := rest } } : State).atTime due).cancel w)
  | [] => .next s

/-! ### ISSUE -/

/-- ISSUE (06 R150 to R154, 07 R166, R169, R171, R174, R175). The tag match reads the slot 3 cycles after the arrival, so
that from cycle 1,004 on it sees the commits of cycle 1,007 (R183). -/
def execIssue (port : Nat) (word : W64) (s : State) : Host.Outcome State Fault Refusal :=
  if !s.portOpen port then .next s
  else
    match s.awaits port with
    | some d => .next (s.acceptDigest port d word)
    | none =>
      if wordKind word = 1 then
        let a := wordArray word
        match s.arrayDomain a with
        | some d =>
          let s := if s.tb.cStart + 1004 ≤ s.tb.now then s.commitTaken else s
          .next (s.issueUsed port a d (wordRing word) (wordRole word) (bits word.toNat 46 39) (wordTag word))
        | none => .next (s.issueUnused port a (wordRing word) (wordRole word) (wordTag word))
      else .next s

/-! ### Slots left waiting (R178) -/

/-- PREDICTED_SLOT_EXPIRY: its first bin has passed bin 0 by more than the expiry. -/
def execPredictedSlotExpiry (slot : Nat) (s : State) : Host.Outcome State Fault Refusal :=
  let s := s.readSlot slot
  let v := s.slot slot
  if v.st == .predicted && v.bin + s.obj 0x2C00 7 < s.tb.cframe - v.placed then
    .next ((s.dropPredicted slot).bump 0x2C02 0x0A)
  else .next s

/-- GRANTED_GROUP_TIMEOUT. -/
def execGrantedGroupTimeout (slot : Nat) (s : State) : Host.Outcome State Fault Refusal :=
  let s := s.readSlot slot
  let v := s.slot slot
  if v.st == .granted && v.doneC.isNone && s.obj 0x2C00 6 ≤ s.tb.cframe - v.grantC then .next (s.timeOutSlot slot) else .next s

/-! ### Ticks and learning (R184 to R188) -/

/-- Whether a domain is stretched, by its droop or by the safe point. -/
def State.stretchedNow (s : State) (d : Nat) : Bool := 0 < s.ocLevel d

/-- Reasons that hold at this instant for not learning on a rail (R186). -/
def State.standingReasons (s : State) (r : Nat) : List Nat :=
  let doms := s.domainsUsed.filter (fun d => s.droopRail d == r)
  let c : List Bool := [
    !(s.flag (0x2C10 + r) 1 && s.flag 0x2C00 1),
    !s.gov.st.learns,
    s.tally.loose.any (fun g => g.rail == r)
      || s.tally.slots.any (fun p => p.2.st == .granted && p.2.doneC.isNone && p.2.source == .unannounced && s.arrayRail (slotArray p.1) == r),
    false,
    doms.any (fun d => (s.droop d).frozen.isSome || s.stretchedNow d),
    s.tb.tb == .holdover,
    (s.railLanes r).any (fun n => (s.lane n).st == .blind)]
  (List.range 7).filter (fun i => c.getD i false)

/-- Ascending insertion by slot. -/
def insertActive (x : Active) : List Active → List Active
  | [] => [x]
  | y :: rest => if x.slot ≤ y.slot then x :: y :: rest else y :: insertActive x rest

/-- The active set of the C-frame that has ended, in slot order: the GRANT decided in it or before, the DONE not before it
(R185). -/
def State.activeSet (s : State) (r : Nat) : List Active :=
  let l := (s.tally.slots.filter (fun p => p.2.st == .granted && p.2.grantC < s.tb.cframe
    && p.2.doneC.all (fun c => s.tb.cframe ≤ c + 1) && s.arrayRail (slotArray p.1) == r)).map (fun p => s.activeOf p.1)
  (l ++ (tget s.tally.learn r {}).ended).foldr insertActive []

/-- Poisoned bins of horizon `h` set to 0: 0 to 7 those of the rails, from 8 on those of the domains (R195). -/
def State.restoreBins (s : State) (h : Nat) : State :=
  let bad := (List.range 65).filter (fun j => s.poisoned .horizon (65 * h + j))
  if bad.isEmpty then s
  else
    let clear := fun (l : List Nat) => l.zipIdx.map (fun q => if bad.contains q.2 then 0 else q.1)
    let s : State := { s with
      tally := if h < 8 then { s.tally with railHor := tset s.tally.railHor h (clear (s.railBins h)) }
        else { s.tally with domHor := tset s.tally.domHor (h - 8) (clear (s.domBins (h - 8))) }
      poison := s.poison.filter (fun p => !(p.1 == .horizon && p.2 / 65 == h)) }
    (s.bumpBy 0x2C02 0x13 bad.length).dEventsNow 29 bad.length

/-- Baseline of a coupled or unmetered rail (R184). -/
def baselineStep (bc m x sh : Nat) : Nat :=
  (clampI ((bc : Int) + asr (((m - x : Nat) : Int) - (bc : Int)) sh) 0 (2 ^ 32 - 1 : Nat)).toNat

/-- The fit of a rail for the C-frame just ended: counted as not learned, or the steps of the fit (R186, R187). -/
def State.planFit (s : State) (r : Nat) : State :=
  let l := tget s.tally.learn r {}
  let s : State := { s with tally := { s.tally with learn := tset s.tally.learn r { l with reasons := maskOf l.lastWhy } } }
  if !l.lastWhy.isEmpty then s.bump (0x2C10 + r) 4
  else
    let sum := fun (f : Active → Nat) => (l.snap.map f).foldl (· + ·) 0
    let eps := satS 32 ((l.m8 : Int) - ((l.lst + sum (·.xs) : Nat) : Int))
    let epsC := satS 32 ((l.m8 : Int) - ((l.lst + sum (·.share) : Nat) : Int))
    let cl := s.obj 0x2C00 4
    let nrm := s.obj 0x2C00 3 + cl * cl + sum (fun g => g.z0 * g.z0 + g.z1 * g.z1)
    let q := eps * (s.obj 0x2C00 2 : Int)
    let t := (q * 1024).tdiv (nrm : Int)
    let todo := l.snap.filter (fun g => !entryLock (s.sigEntry g.cls))
    let lst := (clampI ((l.lst : Int) + (q * ((cl * cl : Nat) : Int)).tdiv ((256 * nrm : Nat) : Int)) 0
      (2 ^ 32 - 1 : Nat)).toNat
    { s with tally := { s.tally with
      fits := s.tally.fits ++ todo.map (Fit.entry t) ++ [.close r lst eps epsC l.snap.length] } }

/-- The C-frame tick of the Tally: horizons move, the active sets are taken, baselines follow, the frame's reasons are
fixed (R184 to R186). `measured` has been latched before. -/
def State.tallyTick (s : State) : State :=
  let s := each (s.railsUsed ++ s.domainsUsed.map (· + 8)) State.restoreBins s
  let loose := s.tally.loose.filter (fun g => s.tb.cframe < g.at_ + s.obj 0x2C00 6)
  let move := fun (p : Nat × List Nat) => (p.1, p.2.drop 1 ++ [0])
  let s : State := { s with tally := { s.tally with
    railHor := s.tally.railHor.map move
    domHor := s.tally.domHor.map move
    restored := []
    fits := []
    fitDone := 0
    evals := 0 } }
  let s := each s.railsUsed (fun s r =>
    let snap := if s.railRole r = 1 then s.activeSet r else []
    let m8 := (s.shaper r).measured / 256
    { s with tally := { s.tally with learn := tmod s.tally.learn r {} (fun l => { l with
      snap := snap
      ended := []
      m8 := m8
      lastWhy := l.why ++ if snap.isEmpty then [7] else [] }) } }) s
  let s := each s.railsUsed (fun s r =>
    if s.railRole r = 1 then s
    else
      let m := s.obj (0x2810 + r) 2
      let sum := (((tget s.tally.learn m {}).snap).map (·.share)).foldl (· + ·) 0
      let x := if s.railRole r = 2 then sum * s.obj (0x2810 + r) 3 / 65536 else 0
      { s with tally := { s.tally with learn := tmod s.tally.learn r {} (fun l => { l with
        bc := baselineStep l.bc l.m8 x (s.obj 0x2C00 8) }) } }) s
  let s : State := { s with tally := { s.tally with loose := loose } }
  let s := each s.railsUsed (fun s r =>
    { s with tally := { s.tally with learn := tmod s.tally.learn r {} (fun l => { l with
      why := s.standingReasons r }) } }) s
  each (s.railsUsed.filter (fun r => s.railRole r == 1)) State.planFit s

/-- TALLY_COMMIT (R173, R181, R182, R187): cycle 1,007 of the C-frame. Updates that no cycle was left for are a
Tally-learning overrun (02 R40). -/
def execTallyCommit (s : State) : Host.Outcome State Fault Refusal :=
  if s.tb.gclk then
    .next (s.oneCycle (fun s =>
      let q := ((s.atTime (s.tb.cStart + 1007)).commitTaken).fitEnd
      if q.2 then q.1.overrun 6 else q.1))
  else .next s

end Sys2Proof.Machine
end

