-- ==== Sys2Proof/Machine/Loop.lean ====
section
/-! DEFINITION. The Loop Engine (08): coefficient sets, limit laws, filters, the injector, the capture buffer, following
error. The voltage law and the trims are evaluated in Frames.lean, where the frame commands are. -/

namespace Sys2Proof.Machine

/-! ### Instances -/

/-- Whether an instance exists in this configuration and serves a rail or lane in use (R199, R200). Filters are those
that the image gives an object. -/
def State.lawUsed (s : State) (i : Nat) : Bool :=
  if i < 40 then s.railUsed (lawServes i)
  else if i < 136 then i - 40 < s.laneCount && s.railUsed (s.laneRail (i - 40))
  else s.desc.filters.contains i

/-- Rail of an instance. -/
def State.lawRail (s : State) (i : Nat) : Nat :=
  if i < 40 then lawServes i else if i < 136 then s.laneRail (i - 40) else 0

/-- Staged coefficient set: c0 to c6 as raw Q values. -/
def State.staged (s : State) (i : Nat) : List Nat := (List.range 7).map (fun k => s.obj (0x4100 + i) (3 + k))

/-- A pending commit applied at the tick of its frame: staged to active and shadow, whose poison and loss it ends (R209,
R210, R218). -/
def State.applyCommit (s : State) (i : Nat) : State :=
  let v := s.law i
  if !v.pending then s
  else
    let set_ := s.staged i
    let s := s.setLaw i { v with active := set_, shadow := set_, pending := false, status := 2, lost := false }
    let s : State := { s with poison := s.poison.filter (fun p => !((p.1 == .coefficients || p.1 == .shadow) && p.2 == i)) }
    let s := s.bump 0x4000 6
    if v.lost then s.dropCause 5 1 (s.lawRail i) else s

/-- One evaluation of an instance that cannot complete: counted for its activity and its instance; a capture trigger
(R210, R217, 02 R40). -/
def State.lawOverrun (s : State) (i sub : Nat) : State :=
  ((s.overrun sub).bump (0x4100 + i) 0x14).captureEvent 5 0

/-- The active set as an evaluation reads it: with poison it is reloaded from the shadow, and with both poisoned it is
lost (R210, R215). -/
def State.readSet (s : State) (i : Nat) : State × Option (List Nat) :=
  let v := s.law i
  if !s.poisoned .coefficients i then (s, some v.active)
  else
    let s := s.dEvent 6
    if !s.poisoned .shadow i then
      let s : State := { s with poison := s.poison.filter (· != (.coefficients, i)) }
      (((s.setLaw i { v with active := v.shadow }).bump 0x4000 3).bump (0x4100 + i) 0x15, some v.shadow)
    else
      let s := ((s.dEvent 6).setLaw i { v with lost := true }).bump 0x4000 4
      let s := if s.obj 0x4001 1 = i then s.endInjection 5 else s
      (s.raiseCause 5 1 (s.lawRail i) 0 (s.railPa (s.lawRail i) i), none)

/-- H-frame tick: every shadow is read, and a poisoned one is rewritten from a clean active set (R210). -/
def State.repairShadow (s : State) (i : Nat) : State :=
  if !s.poisoned .shadow i then s
  else
    let s := s.dEvent 6
    if s.poisoned .coefficients i then s
    else
      let s : State := { s with poison := s.poison.filter (· != (.shadow, i)) }
      (s.modLaw i (fun v => { v with shadow := v.active })).bump 0x4000 8

/-- Poisoned histories, accumulators and held candidates restart (R210). -/
def State.repairState (s : State) (i : Nat) (rk : Int) : State :=
  if s.poisoned .lawState i then
    let s := s.dEvent 6
    let s : State := { s with poison := s.poison.filter (· != (.lawState, i)) }
    let s := s.bump 0x4000 5
    if i < 8 then s.modRail i (fun v => { v with e := [0, 0, 0, 0], w := [0, 0, 0] })
    else if i < 40 then s.modLaw i (fun v => { v with cand := rk })
    else if i < 136 then s.modLane (i - 40) (fun l => { l with tacc := 0 })
    else s.modLaw i (fun v => { v with xs := [0, 0], ys := [0, 0] })
  else s

/-! ### Injection (R213 to R215) -/

/-- Value injected into an instance at a point, 0 REF or 1 OUT: the x of its present frame, which an end of the injection
leaves until the next tick (R215, R218). -/
def State.injected (s : State) (i point : Nat) : Int :=
  if s.obj 0x4001 1 = i && s.obj 0x4001 2 = point then s.injector.x else 0

/-- Whether the present frame of an instance has an injection into it (R212). -/
def State.injecting (s : State) (i : Nat) : Bool :=
  (s.injector.status = 1 || s.injector.status = 2 || s.injector.stopping) && s.obj 0x4001 1 = i

/-- sin(2 pi j / 1,024) of the first quadrant, times 32,767 and rounded (R214). -/
def sineQuarter : List Nat :=
  [0, 201, 402, 603, 804, 1005, 1206, 1407, 1608, 1809, 2009, 2210, 2410, 2611, 2811, 3012]
    ++ [3212, 3412, 3612, 3811, 4011, 4210, 4410, 4609, 4808, 5007, 5205, 5404, 5602, 5800, 5998, 6195]
    ++ [6393, 6590, 6786, 6983, 7179, 7375, 7571, 7767, 7962, 8157, 8351, 8545, 8739, 8933, 9126, 9319]
    ++ [9512, 9704, 9896, 10087, 10278, 10469, 10659, 10849, 11039, 11228, 11417, 11605, 11793, 11980, 12167, 12353]
    ++ [12539, 12725, 12910, 13094, 13279, 13462, 13645, 13828, 14010, 14191, 14372, 14553, 14732, 14912, 15090, 15269]
    ++ [15446, 15623, 15800, 15976, 16151, 16325, 16499, 16673, 16846, 17018, 17189, 17360, 17530, 17700, 17869, 18037]
    ++ [18204, 18371, 18537, 18703, 18868, 19032, 19195, 19357, 19519, 19680, 19841, 20000, 20159, 20317, 20475, 20631]
    ++ [20787, 20942, 21096, 21250, 21403, 21554, 21705, 21856, 22005, 22154, 22301, 22448, 22594, 22739, 22884, 23027]
    ++ [23170, 23311, 23452, 23592, 23731, 23870, 24007, 24143, 24279, 24413, 24547, 24680, 24811, 24942, 25072, 25201]
    ++ [25329, 25456, 25582, 25708, 25832, 25955, 26077, 26198, 26319, 26438, 26556, 26674, 26790, 26905, 27019, 27133]
    ++ [27245, 27356, 27466, 27575, 27683, 27790, 27896, 28001, 28105, 28208, 28310, 28411, 28510, 28609, 28706, 28803]
    ++ [28898, 28992, 29085, 29177, 29268, 29358, 29447, 29534, 29621, 29706, 29791, 29874, 29956, 30037, 30117, 30195]
    ++ [30273, 30349, 30424, 30498, 30571, 30643, 30714, 30783, 30852, 30919, 30985, 31050, 31113, 31176, 31237, 31297]
    ++ [31356, 31414, 31470, 31526, 31580, 31633, 31685, 31736, 31785, 31833, 31880, 31926, 31971, 32014, 32057, 32098]
    ++ [32137, 32176, 32213, 32250, 32285, 32318, 32351, 32382, 32412, 32441, 32469, 32495, 32521, 32545, 32567, 32589]
    ++ [32609, 32628, 32646, 32663, 32678, 32692, 32705, 32717, 32728, 32737, 32745, 32752, 32757, 32761, 32765, 32766]
    ++ [32767]

/-- sintab of R214. -/
def sintab (j : Nat) : Int :=
  let j := j % 1024
  let q := sineQuarter
  if j ≤ 256 then (q.getD j 0 : Int)
  else if j ≤ 512 then (q.getD (512 - j) 0 : Int)
  else if j ≤ 768 then -(q.getD (j - 512) 0 : Int)
  else -(q.getD (1024 - j) 0 : Int)

/-- The value x of frame `n` of the waveform and the state of the generator for the next frame (R214). -/
def State.waveform (s : State) : Injector :=
  let v := s.injector
  let amp := s.obj32 0x4001 4
  match s.obj 0x4001 3 with
  | 0 => { v with x := if s.obj 0x4001 6 = 0 || v.n < s.obj 0x4001 6 then amp else 0, n := v.n + 1 }
  | 1 =>
    let dwell := s.obj 0x4001 0x0A
    { v with
      x := asr (amp * sintab (v.ph / 2 ^ 22)) 15
      ph := (v.ph + v.f) % 2 ^ 32
      f := if 0 < v.n && v.n % dwell = 0 then v.f * s.obj 0x4001 9 / 2 ^ 24 % 2 ^ 32 else v.f
      n := v.n + 1 }
  | _ =>
    let l := if v.n % s.obj 0x4001 0x0B = 0 then
        (v.lfsr * 2 + ((v.lfsr / 2 ^ 14 + v.lfsr / 2 ^ 13) % 2)) % 2 ^ 15
      else v.lfsr
    { v with lfsr := l, x := if l % 2 = 1 then amp else -amp, n := v.n + 1 }

/-- Whether the present frame is the last of an injection: the duration of a STEP or PRBS is reached with it, or a SINE has
passed its end word in it (R214, R215). -/
def State.injectionOver (s : State) : Bool :=
  match s.obj 0x4001 3 with
  | 1 => s.obj 0x4001 8 < s.injector.f
  | _ => s.obj 0x4001 6 != 0 && s.obj 0x4001 6 ≤ s.injector.n

/-- The injector at a tick of its instance's frame: a frame of the delay passes, or x is formed for the frame, 0 after the
last one (R214, R215). The frame is an F-frame for a VOLT instance. -/
def State.injectorTick (s : State) (volt : Bool) : State :=
  let v := s.injector
  if (s.obj 0x4001 1 < 8) != volt then s
  else if v.stopping then { s with injector := { v with x := 0, stopping := false } }
  else if v.status != 1 && v.status != 2 then s
  else if v.status = 1 && 0 < v.delay then { s with injector := { v with delay := v.delay - 1, x := 0 } }
  else if s.injectionOver then { s with injector := { v with x := 0 } }
  else { s with injector := s.waveform }

/-- Why a start is refused (R213): an abort code, or 0. -/
def State.injectionRefusal (s : State) : Nat :=
  let i := s.obj 0x4001 1
  let amp : Int := (s.obj32 0x4001 4).natAbs
  let limit : Int :=
    if i < 8 then (if s.obj 0x4001 2 = 0 then 480 else 6554)
    else if s.obj 0x4001 2 = 0 then (s.obj (0x4100 + i) 0x0A / 4 : Nat)
    else (s.obj (0x2810 + lawServes i) 4 / 4 : Nat)
  if s.gov.st != .service || s.injector.status = 1 || s.injector.status = 2 || s.assayer.sweep.status = 1 then 0x00040001
  else if 40 ≤ i || !s.lawUsed i || limit < amp then 0x00030002
  else if s.obj 0x4001 3 = 1 && (s.obj 0x4001 9 < 2 ^ 24 || s.obj 0x4001 8 < s.obj 0x4001 7) then 0x00030002
  else 0

/-- A start accepted: the delay counts from the next tick (R213, R218). -/
def State.startInjection (s : State) : State :=
  { s with injector := { status := 1, delay := s.obj 0x4001 5, f := s.obj 0x4001 7, x := s.injector.x } }

/-- INJECTION_DELAY_END (R214, R218): the waveform begins, a capture trigger. Its cycle is that of the tick that forms x for
the first time, before or after which the command may come. -/
def execInjectionDelayEnd (s : State) : Host.Outcome State Fault Refusal :=
  if s.injector.status = 1 && s.injector.delay = 0 then
    .next (({ s with injector := { s.injector with status := 2 } } : State).captureEvent 1 0)
  else .next s

/-- INJECTION_END (R215): the duration is reached or the end word passed. -/
def execInjectionEnd (s : State) : Host.Outcome State Fault Refusal :=
  if s.injector.status = 2 && s.injectionOver then .next (s.endInjection 3) else .next s

/-! ### Limit laws (R202 to R204) -/

/-- A power in mW, of either sign, as a rate. -/
def State.rateI (s : State) (mw : Int) : Int := (mw * 65536000).tdiv (s.quantum : Int)

/-- A current in mA at the rail's present setpoint as a rate (R202). -/
def State.rateMa (s : State) (r : Nat) (i : Int) : Int := (i * ((s.rail r).setpoint : Int) * 4096).tdiv (s.quantum : Int)

/-- A rate as mW, of either sign. -/
def State.mwI (s : State) (x : Int) : Int := (x * (s.quantum : Int)).tdiv 65536000

/-- Highest valid temperature of the regions that the descriptor assigns to a rail (R203). -/
def State.railTemp (s : State) (r : Nat) : Option Int :=
  let gs := (s.desc.rails.filter (fun d => d.rail == r)).flatMap (·.regions)
  maxInt ((gs.filter (fun g => (s.region g).valid)).map (fun g => (s.region g).temp))

/-- Ceilings of R16 in force on a rail, with their bound codes in ascending order (06 Winning bound code, R202). The
capacity-cut ceiling is that of R75. A cut or a SAFE cap asked for by cycle 600 enters the competition at that cycle, for the
C-frame from whose tick it is in force (R75, 10 R262). The slew envelope bounds the rate while the Governor meters (R149). -/
def State.ceilings (s : State) (r : Nat) : List (Nat × Nat) :=
  let share := s.obj (0x2810 + r) 4
  let tdp := max 1 (s.obj 0x2801 1)
  (if s.thermal.ceilF < 100 then [(4, s.rateOf (share * s.thermal.ceilF / 100))] else [])
    ++ (if s.gov.safeCapArm.getD s.gov.safeCap then [(5, s.rateOf (share * s.obj 0x3400 4 / 100))] else [])
    ++ (if s.thermal.coolCap then [(6, s.rateOf (s.obj 0x3000 9 * share / tdp))] else [])
    ++ (if (s.rail r).cutFrom.isSome then
        [(7, 9 * s.laneCapacity r * (s.rail r).setpoint * 65536 / (160 * max 1 s.quantum))] else [])
    ++ (match s.segment.ceiling with
      | some mw => [(8, s.rateOf (mw * share / tdp))]
      | none => [])
    ++ (if s.gov.envOn then [(9, s.upBound r)] else [])

/-- The rate rk that the laws of a rail start from in this C-frame (R202, R204). -/
def State.rateInForce (s : State) (r : Nat) : Nat :=
  if (s.shaper r).ran then (s.shaper r).rate
  else ((s.ceilings r).map (·.2)).foldl min (s.rateOf (s.obj (0x4100 + 11 + 4 * r) 0x0A))

/-- Candidate of a law: rk moved by the gain times the error, within the output maximum (R202). An injection at the OUT
point adds to it before the clamp (R213). -/
def State.candidate (s : State) (i : Nat) (rk e : Int) (q : Nat) (hi : Nat) : Int :=
  clampI (rk + asr (qValue q * e) (qShift q) + s.rateI (s.injected i 1)) 0 (s.rateOf hi : Int)

/-- Error of the limit law of type `t` of a rail: as a rate before sat32, in the type's own unit, and the measured value
(R202, R211). None where a THERMAL instance has no temperature to use (R203). -/
def State.lawError (s : State) (r t : Nat) (rk : Int) (set_ : List Nat) : Option (Int × Int × Int) :=
  let i := 8 + 4 * r + t
  let tgt : Int := (s.obj (0x4100 + i) 0x0A : Int) + s.injected i 0
  match t with
  | 0 =>
    let lim := min tgt (s.currentLimit r : Int)
    let im := (s.rail r).iC
    some (s.rateMa r lim - s.rateMa r im, lim - im, im)
  | 1 =>
    let m : Int := (s.shaper r).measured
    some (s.rateI tgt - m, tgt - s.mwI m, m)
  | 2 =>
    if s.thermal.newTemp then
      match s.railTemp r with
      | some th => some (asr ((tgt - th) * qValue (set_.getD 1 0)) (qShift (set_.getD 1 0)), tgt - th, th)
      | none => none
    else none
  | _ => some (s.rateI tgt - rk, tgt - s.mwI rk, rk)

/-- One limit law forms its candidate for the competition at cycle 600 (R202, R203). An evaluation that cannot complete
leaves none (R210). -/
def State.limitLaw (s : State) (r t : Nat) : State :=
  let i := 8 + 4 * r + t
  let s := s.applyCommit i
  let rk : Int := s.rateInForce r
  let s := s.repairState i rk
  let hi := s.obj (0x4100 + i) 0x0B
  let first : Bool := t = 2 && !(s.shaper r).ran
  let s := if first then s.modLaw i (fun v => { v with cand := (s.rateOf hi : Int) }) else s
  let q := s.readSet i
  let s := q.1
  let s := s.modLaw i (fun v => { v with next := none, tgt := (s.obj (0x4100 + i) 0x0A : Int) + s.injected i 0 })
  match q.2 with
  | none => s
  | some set_ =>
    match s.lawError r t rk set_ with
    | none =>
      let v := s.law i
      s.setLaw i { v with next := some (v.cand, v.err, v.shown) }
    | some (e, shown, m) =>
      let c := s.candidate i rk (satS 32 e) (set_.getD 0 0) hi
      let s := if satS 32 e != e then s.bump 0x4000 2 else s
      s.modLaw i (fun v => { v with next := some (c, satS 32 e, shown), meas := m })

/-- Whether the following-error condition of a limit law holds at this tick (R211). -/
def State.beyond (s : State) (r t : Nat) : Bool :=
  let i := 8 + 4 * r + t
  let lim : Int := s.obj (0x4100 + i) 0x11
  let tgt : Int := s.obj (0x4100 + i) 0x0A
  match t with
  | 0 => lim < (s.rail r).iC - min tgt (s.currentLimit r : Int)
  | 1 => lim < s.mwI ((s.shaper r).measured : Int) - tgt
  | 2 => match s.railTemp r with
    | some th => lim < th - tgt
    | none => false
  | _ => false

/-- Count of following-error frames of an instance after a frame whose condition is `beyond`; a limit of 0 disables the
test, and an injection holds the count (R211, R212). -/
def State.followFrame (s : State) (i : Nat) (beyond : Bool) : State :=
  if s.obj (0x4100 + i) 0x11 = 0 then s.modLaw i (fun v => { v with feRun := 0 })
  else if s.injecting i then s
  else s.modLaw i (fun v => { v with feRun := if beyond then v.feRun + 1 else 0 })

/-- Whether an instance's type has a following-error check. -/
def lawFollows (i : Nat) : Bool := lawType i = 0 || lawType i = 1 || lawType i = 2 || lawType i = 4

/-- FOLLOWING_ERROR (R211): the condition has held for the time; the count restarts. -/
def execFollowingError (inst : Nat) (s : State) : Host.Outcome State Fault Refusal :=
  let v := s.law inst
  if inst < 160 && s.lawUsed inst && lawFollows inst && s.obj (0x4100 + inst) 0x11 != 0
      && s.obj (0x4100 + inst) 0x12 ≤ v.feRun then
    let r := s.lawRail inst
    let s := (s.setLaw inst { v with feRun := 0 }).bump (0x4100 + inst) 0x13
    let s := s.trigger 4 1 r 0 (s.railPa r inst)
    .next (s.captureEvent 4 inst)
  else .next s

/-- The limit laws at the C-frame tick, in the states in which they run (R204). -/
def State.limitLaws (s : State) : State :=
  each s.railsUsed (fun s r =>
    if s.gov.st.words then
      let s := each [0, 1, 2, 3] (fun s t => (s.limitLaw r t).followFrame (8 + 4 * r + t) (s.beyond r t)) s
      s.modShaper r (fun v => { v with ran := true })
    else
      let s := each [0, 1, 2, 3] (fun s t => s.applyCommit (8 + 4 * r + t)) s
      s.modShaper r (fun v => { v with ran := false })) s

/-! ### Signals, filters and capture (R205, R216, R217) -/

/-- A signal by its code, as of now. -/
def State.signalValue (s : State) (sel : Nat) : Int :=
  let i := sel / 256
  let v := s.law i
  let r := s.lawRail i
  if 160 ≤ i then 0
  else
    match sel % 256 with
    | 1 => v.err
    | 2 => v.out
    | 3 => v.meas
    | 4 => v.tgt
    | 5 => if s.obj 0x4001 1 = i then s.injector.x else 0
    | 6 => (s.shaper r).next
    | 7 => (s.shaper r).bound
    | 8 => if i < 8 then ((s.rail r).low.getD 0 : Nat) else 0
    | 9 => if 40 ≤ i && i < 136 then ((s.lane (i - 40)).nextDuty : Nat) else 0
    | _ => 0

/-- One FILTER instance (R205). -/
def State.filterLaw (s : State) (i : Nat) : State :=
  let s := (s.applyCommit i).repairState i 0
  let q := s.readSet i
  let s := q.1
  match q.2 with
  | none => s.lawOverrun i 3
  | some c =>
    let v := s.law i
    let x := satS 32 (s.signalValue (s.obj (0x4100 + i) 0x18))
    let terms := [(1, 0, x), (1, 1, v.xs.getD 0 0), (1, 2, v.xs.getD 1 0), (-1, 3, v.ys.getD 0 0), (-1, 4, v.ys.getD 1 0)]
    let p := terms.foldl (fun p (t : Int × Nat × Int) => macTerm p t.1 (c.getD t.2.1 0) t.2.2) ((0 : Int), false)
    let y := satS 32 p.1
    let s := if p.2 || y != p.1 then s.bump 0x4000 2 else s
    s.setLaw i { v with err := x, shown := x, out := y, xs := [x, v.xs.getD 0 0], ys := [y, v.ys.getD 0 0] }

/-- Every FILTER instance that the image uses, in ascending order (R200). -/
def State.filters (s : State) : State := each (((List.range 24).map (· + 136)).filter s.lawUsed) State.filterLaw s

/-- Samples from the trigger sample to completion. -/
def State.captureRest (s : State) : Nat := 16384 - s.obj 0x4002 9

/-- The commit point of a frame of the capture's kind (R216). -/
def State.captureFrame (s : State) (kind : Nat) : State :=
  let v := s.capture
  if s.obj 0x4002 5 != kind || v.status = 0 || v.status = 4 || s.captureRest ≤ v.after then s
  else
    let next := (v.phase + 1) % 2 ^ s.obj 0x4002 6
    if v.phase != 0 then { s with capture := { v with phase := next } }
    else
      let sample := [1, 2, 3, 4].map (fun k => satS 32 (s.signalValue (s.obj 0x4002 k)))
      let samples := (sample :: v.samples).take 16384
      { s with capture := { v with
        samples := samples
        phase := next
        after := if v.seen then v.after + 1 else 0
        status := if v.status = 1 && s.obj 0x4002 9 ≤ samples.length then 2 else v.status } }

/-- The buffer rearranged: index of the trigger sample from the oldest (R216). -/
def State.closeCapture (s : State) : State :=
  let v := s.capture
  { s with capture := { v with
    status := 4
    trigIdx := if v.seen && 0 < v.after then v.samples.length - v.after else 0xFFFFFFFF } }

/-- CAPTURE_COMPLETE (R216): every sample after the trigger has been recorded. -/
def execCaptureComplete (s : State) : Host.Outcome State Fault Refusal :=
  if s.capture.status = 3 && s.captureRest ≤ s.capture.after then .next (s.closeCapture.signal 0x0C4) else .next s

/-- Arming: previous contents cleared (R216, R217). -/
def State.armCapture (s : State) : State :=
  { s with
    capture := { status := if s.obj 0x4002 9 = 0 then 2 else 1 }
    poison := s.poison.filter (·.1 != .capture) }

/-- A forced trigger: the next sample is the trigger sample. -/
def State.forceCapture (s : State) : State :=
  if (s.capture.status = 1 || s.capture.status = 2) && !s.capture.seen then
    { s with capture := { s.capture with seen := true, status := 3, trigC := s.tb.cframe } }
  else s

/-- A stop in this cycle. -/
def State.stopCapture (s : State) : State :=
  if 1 ≤ s.capture.status && s.capture.status ≤ 3 then s.closeCapture else s

/-- Word `k` of the buffer, oldest sample first, four S32 values each; 0 where nothing has been recorded since arming, and a
value of its own for a word that reads with poison (R217). -/
def State.captureWord (s : State) (k : Nat) : Nat :=
  if s.poisoned .capture k then 0x80000000
  else
    let n := s.capture.samples.length
    if n ≤ k / 4 then 0 else ofSigned 32 ((s.capture.samples.getD (n - 1 - k / 4) []).getD (k % 4) 0)

/-- A byte of the buffer. -/
def State.captureByte (s : State) (off : Nat) : Byte := (bytesLE 4 (s.captureWord (off / 4))).getD (off % 4) 0

/-! ### Competition (R206, R207) -/

/-- Candidates of a rail in the order of precedence: setpoint tracking, current, power, thermal, then the ceilings. -/
def State.sources (s : State) (r : Nat) : List (Nat × Nat) :=
  [3, 0, 1, 2].map (fun t => (t, (s.law (8 + 4 * r + t)).cand.toNat)) ++ s.ceilings r

/-- The first lowest source. -/
def lowest (l : List (Nat × Nat)) : Option (Nat × Nat) :=
  match l with
  | [] => none
  | x :: rest =>
    match lowest rest with
    | some y => if x.2 ≤ y.2 then some x else some y
    | none => some x

/-- A law's candidate enters the competition; one that is late enters with its last (02 R40). -/
def State.enterCandidate (s : State) (i : Nat) (late : Bool) : State :=
  let v := s.law i
  match v.next with
  | some (c, e, sh) =>
    if late then s.lawOverrun i 3
    else s.setLaw i { v with cand := c, err := e, shown := sh, out := c, next := none }
  | none => s.lawOverrun i 3

/-- The competition of one rail: its rate, winner and limiting flag for the next C-frame, and its envelope. -/
def State.compete (s : State) (r : Nat) : State :=
  match lowest (s.sources r) with
  | none => s
  | some (b, x) =>
    let old := (s.shaper r).won
    let s := s.modShaper r (fun v => { v with next := x, won := b, competed := true })
    let s := if b < 4 then s.bump (0x4100 + 8 + 4 * r + b) 0x16 else s
    let s := if b != old then s.captureEvent 6 r else s
    s.envelopeAim r

/-- C_FRAME_COMPETITION (R206, 06 R155 to R157): cycle 600, in the states in which the limit laws run. `lateLaws` names the
instances that missed cycle 600. -/
def execCFrameCompetition (lateLaws : List Nat) (s : State) : Host.Outcome State Fault Refusal :=
  if s.tb.gclk && s.gov.st.words then
    let s := s.atTime (s.tb.cStart + 600)
    .next (each (s.railsUsed.filter (fun r => (s.shaper r).ran)) (fun s r =>
      let s := each [0, 1, 2, 3] (fun s t => s.enterCandidate (8 + 4 * r + t) (lateLaws.contains (8 + 4 * r + t))) s
      (s.rampRelease r).compete r) s)
  else .next s

end Sys2Proof.Machine
end

