-- ==== Sys2Proof/Machine/Program.lean ====
section
/-! DEFINITION. Loading, checking and activating a Tally program (07 R194). -/

namespace Sys2Proof.Machine

def State.bank (s : State) (n : Nat) : Bank := tget s.tally.banks n {}

/-- The load status takes a value; a change is signalled (13 R317). -/
def State.setLoadStatus (s : State) (v : Nat) : State :=
  if s.tally.loadStatus = v then s
  else ({ s with tally := { s.tally with loadStatus := v } } : State).signal 0x0C8

/-- Bytes loaded into the inactive bank at the offset in force; a load at offset 0 begins a new image. -/
def State.loadProgram (s : State) (bs : List Byte) : State :=
  let n := s.tally.inactive
  let at_ := s.obj 0x2C08 3
  let old : Bank := if at_ = 0 then {} else s.bank n
  let b : Bank := { bytes := mwriteBytes old.bytes at_ bs, loaded := max old.loaded (at_ + bs.length) }
  let s : State := { s with
    tally := { s.tally with banks := tset s.tally.banks n b }
    poison := if at_ = 0 then s.poison.filter (fun p => !((p.1 == .program && p.2 == n) || (p.1 == .weights && p.2 / 65536 == n))) else s.poison }
  s.setLoadStatus 1

/-- The loaded image checked: an abort code, or 0. -/
def State.programRefusal (s : State) : Nat :=
  let b := s.bank s.tally.inactive
  b.refusal b.loaded

/-- An activation asked for: pending, or refused with its code. -/
def State.requestProgram (s : State) : State × Nat :=
  let code := s.programRefusal
  if code = 0 then (({ s with tally := { s.tally with activate := true } } : State).setLoadStatus 2, 0)
  else (s.setLoadStatus code, code)

/-- A pending activation at the C-frame tick: the banks change places and a disabled program is enabled again (R194,
R195). -/
def State.activateProgram (s : State) : State :=
  if !s.tally.activate then s
  else
    let n := s.tally.inactive
    let s : State := { s with tally := { s.tally with active := some n, inactive := 1 - n, activate := false } }
    (s.setLoadStatus 3).dropCause 30 0 0

end Sys2Proof.Machine
end

