-- ==== Sys2Proof/Machine/Frames.lean ====
section
/-! DEFINITION. The frame commands (02 Frames): F-frame tick and commit, C-frame tick and rate commit, H-frame tick, and
what each latches, evaluates and commits. -/

namespace Sys2Proof.Machine

/-! ### F-frame tick: lanes (03 R60 to R70) -/

/-- A sample of an ACTIVE lane judged: the count of implausible samples, the retry of 4, its success or its first failing
sample (R70). An implausible sample suspends open detection; the count of near-zero periods stands meanwhile. -/
def State.judgeSample (s : State) (n : Nat) (ok stuck : Bool) : State :=
  let l := s.lane n
  if l.st != .active || l.senseLost then s
  else if l.retrying then
    if !ok then s.setLane n { l with senseLost := true }
    else if 1 < l.retryLeft then s.setLane n { l with retryLeft := l.retryLeft - 1 }
    else ((s.setLane n { l with retrying := false, retryLeft := 0, badRun := 0 }).bump (0x2100 + n) 0x10).transient 9
  else
    let run := if ok then 0 else l.badRun + 1
    let lost : Bool := stuck || 3 ≤ run
    s.setLane n { l with
      badRun := run, retrying := lost, retryLeft := if lost then 4 else 0, openHeld := l.openHeld || !ok }

/-- Whether the F-frame that has ended lies in the census window of a rail (R64; that the window counts whole F-frames is a DESIGN
CHOICE, log 128). -/
def State.censusRuns (s : State) (r : Nat) : Bool := (s.rail r).seq == .census && (s.rail r).censusFrom + 168 ≤ s.tb.fStart

/-- Whether a census observes a lane: that of its rail, or, for a lane of no rail, that of any rail (R64). -/
def State.inCensus (s : State) (n : Nat) : Bool :=
  s.railsUsed.any (fun r => s.censusRuns r && (s.laneRail n == r || s.laneRail n == 0xFF))

/-- Whether a lane's decimator discards its bits: the first 96 after pl_clk restarts, three F-frames of them (17 R402). -/
def State.lanesMute (s : State) : Bool :=
  match s.tb.plAt with
  | some t => s.tb.now ≤ t + 3 * 168
  | none => false

/-- One lane sample latched: scaled, or replaced by the last plausible one (R60, R61), counted by a census (R64) and judged
(R70). -/
def State.latchLane (s : State) (q : LaneSample) : State :=
  let n := q.lane
  if s.laneCount ≤ n || s.lanesMute then s
  else
    let l := s.lane n
    let b := bitFrame l.bitRun l.lastBit q.bits
    let good : Bool := plausible q.x && !b.2.2
    let x := if plausible q.x && b.1 != 128 then q.x else l.lastX
    let i := laneCurrent x (s.obj16 (0x2100 + n) 6) (s.obj (0x2100 + n) 5) (s.obj (0x2100 + n) 4)
    let census := s.inCensus n
    let s := s.setLane n { l with
      lastX := x
      current := i
      bitRun := b.1
      lastBit := b.2.1
      good := if census && good then l.good + 1 else l.good
      bad := l.bad || (census && !good) }
    s.judgeSample n good b.2.2

/-- Marks of the present switching period of a lane after its sample (R68); at a boundary the period that ends keeps its
own. -/
def State.markLane (s : State) (n : Nat) : State :=
  let r := s.laneRail n
  let peak : Bool := (s.rail r).fire == .firing && (s.lane n).st.enabled
    && (s.obj (0x2100 + n) 8 : Int) < (s.lane n).current
  let s := if peak && !(s.lane n).peakCut then s.modLane n (fun l => { l.endPulse s.stepsNow 0 with peakCut := true }) else s
  if s.atBoundary r then s
  else s.modLane n (fun l => { l with
    below := l.below && l.current < s.openThreshold n
    loaded := l.loaded && s.loadedNow n })

/-- The duty in force from this tick moves the edges not yet emitted of a running lane (03 R55, R59). -/
def State.takeDuty (s : State) (n : Nat) : State :=
  if (s.lane n).st.running then
    s.modLane n (fun l => l.retime s.stepsNow (s.width n) (stepsOfNs (s.obj (0x2100 + n) 9)))
  else s

/-- An added lane that can run starts at this tick, with the duty committed for its rail and a provisional angle (R52,
R59, 04 R89). -/
def State.startLane (s : State) (n : Nat) : State :=
  let l := s.lane n
  let r := s.laneRail n
  if l.startDue && l.st == .warm then
    let v := s.rail r
    (s.setLane n { l with
      st := .active, startDue := false, parkEnd := none, forecastWake := false, tacc := 0, trim := 0, badRun := 0
      nearRun := 0, ranAll := false, retrying := false, retryLeft := 0, senseLost := false
      duty := v.drail, nextDuty := v.drail
      theta := s.tb.phase % divider v.code * 42 * 16 }).modRail r (fun v => { v with reLane := true })
    |>.modLane n (fun l => { l with lead := s.stepsNow, trail := s.stepsNow, lastTrail := 0 })
    |>.takeDuty n
  else (s.setLane n { l with duty := l.nextDuty }).takeDuty n

/-! ### F-frame tick: die voltage and sense taps (04 R81 to R84) -/

/-- Reports of a rail's valid sense taps over the F-frame that has ended. They are valid while the rail is at or above 0.30 V,
which the median of the reports tells (R81, R82; the measure is a DESIGN CHOICE, log 129). -/
def State.senseReports (s : State) (r : Nat) (taps : List TapSample) : List TapSample :=
  let l := taps.filter (fun q => q.tap < s.tapCount && s.desc.senseRail.contains (q.tap, r) && !(s.senseTap q.tap).excluded)
  if 9600 ≤ median2 (l.map (·.mean)) then l else []

/-- One sense tap against the median of its rail (R83); limits in 1/16 mV. -/
def State.judgeSense (s : State) (r med2 : Nat) (q : TapSample) : State :=
  let p := s.senseTap q.tap
  let bad : Bool := 800 < absDiff (2 * q.mean) med2 || s.obj (0x2200 + r) 3 + 3200 < q.mean
  let p := { p with mean := some q.mean }
  if p.confirmed then s.setSenseTap q.tap p
  else if p.retry then
    if bad then s.setSenseTap q.tap { p with confirmed := true }
    else ((s.setSenseTap q.tap { p with retry := false, suspect := 0 }).bump (0x2200 + r) 0x2A).transient 12
  else
    let run := if bad then p.suspect + 1 else 0
    s.setSenseTap q.tap { p with suspect := run, retry := run = 3 }

/-- Die voltage and extreme samples of a rail latched, its taps judged (R82, R83). -/
def State.latchRail (s : State) (taps : List TapSample) (r : Nat) : State :=
  let l := s.senseReports r taps
  let sum := (l.map (·.mean)).foldl (· + ·) 0
  let s := s.modRail r (fun v => { v with
    die := if l.isEmpty then v.die else sum / l.length
    dieValid := !l.isEmpty
    low := (l.map (·.low)).foldl (fun (b : Option Nat) x => some (match b with
      | some y => min x y
      | none => x)) none
    high := (l.map (·.high)).foldl (fun (b : Option Nat) x => some (match b with
      | some y => max x y
      | none => x)) none })
  let s := match (s.rail r).low with
    | some low => s.sawLow r low
    | none => s
  each l (fun s q => s.judgeSense r (median2 (l.map (·.mean))) q) s

/-! ### F-frame tick: rails -/

/-- Trim request in force of a rail: 0 with AVS disabled or without a valid vmin of every domain for its present band, a
blind group included (R91, 05 R138). -/
def State.avsRequest (s : State) (r : Nat) : Nat :=
  let ds := s.domainsUsed.filter (fun d => s.droopRail d == r)
  if !s.flag (0x2200 + r) 0x0C || s.cfg == .core
      || ds.any (fun d => tget s.assayer.vmin (d * 8 + s.domainBand d) 0 = 0 || s.domainBlind d) then 0
  else min (s.obj (0x2200 + r) 0x0A) (s.obj (0x2200 + r) 0x0B)

/-- A vmin value read with poison becomes invalid (11 R279). -/
def State.vminCheck (s : State) (r : Nat) : State :=
  each ((s.domainsUsed.filter (fun d => s.droopRail d == r)).map (fun d => d * 8 + s.domainBand d)) (fun s k =>
    if s.poisoned .vmin k then
      ({ s with
        assayer := { s.assayer with vmin := tset s.assayer.vmin k 0 }
        poison := s.poison.filter (· != (.vmin, k)) } : State).dEvent 53
    else s) s

/-- AVS trim at the F-frame tick: a back-off, then a lower request in full (R92, R93, R113). A margin sweep owns the trim
of its rail (R94). -/
def State.avsTick (s : State) (r : Nat) : State :=
  let s := if (s.rail r).backOff then
      (s.modRail r (fun v => { v with avs := v.avs - 80, avsBlock := 100, backOff := false })).bump (0x2200 + r) 0x2B
    else s
  if s.sweeping r then s
  else s.modRail r (fun v => { v with avs := min v.avs (s.avsRequest r) })

/-- Setpoint step of this tick; a ramp runs to the base setpoint, past power-good, and at the discharge level the lanes of a
falling rail become COLD (R90, R115, R117). -/
def State.setpointTick (s : State) (r : Nat) : State :=
  let v := s.rail r
  let ramp := s.obj (0x2200 + r) 0x1C
  match v.seq with
  | .off | .census => s
  | .ramping => s.setRail r { v with setpoint := (slewTo v.setpoint (s.baseSetpoint r) ramp).toNat }
  | .good => if v.rampUp then
      let x := (slewTo v.setpoint (s.baseSetpoint r) ramp).toNat
      s.setRail r { v with setpoint := x, rampUp := (x : Int) != s.baseSetpoint r }
    else s.setRail r { v with setpoint := (slewTo v.setpoint (s.setpointTarget r) (s.obj (0x2200 + r) 0x11)).toNat }
  | .discharging =>
    let x := min v.setpoint (slewTo v.setpoint (s.obj 0x2003 2 : Nat) ramp).toNat
    let s := s.setRail r { v with setpoint := x }
    if x ≤ s.obj 0x2003 2 then s.railLanesDown r else s

/-- Whether the undervoltage check applies to a rail (R111). -/
def State.uvChecked (s : State) (r : Nat) : Bool :=
  let v := s.rail r
  s.gov.st != .sequencing && v.fire == .armed && !v.inFire && !v.senseLost && v.goodOnce && v.dieValid

/-- Voltage checks on the die voltage just latched: clamp end, undervoltage count, power-good run, a lost sense (R84, R109,
R111, R115); the census window counts. -/
def State.voltageTick (s : State) (r : Nat) : State :=
  let ends : Bool := match (s.rail r).high with
    | some h => 2 * h < 2 * (s.rail r).setpoint + s.obj (0x2200 + r) 0x1A
    | none => true
  let uv := s.uvChecked r
  let off := ((s.rail r).die : Int) - s.baseSetpoint r
  let inBand : Bool := (s.rail r).dieValid && off.natAbs ≤ s.obj (0x2200 + r) 0x1D
  s.modRail r (fun v => { v with
    senseLost := v.senseLost || v.senseGone
    censusN := if s.censusRuns r then v.censusN + 1 else v.censusN
    lawDone := false
    fireWas := none
    clamp := v.clamp && !ends
    uvRun := if !uv then v.uvRun else if v.die < s.obj (0x2200 + r) 2 then v.uvRun + 1 else 0
    pgRun := if v.seq == .ramping && inBand then v.pgRun + 1 else 0
    inFire := v.fire == .firing })

/-- Rail current, its sums for the C-frame, and the load step (03 R62, 04 R99, R113). A tick on a C-frame boundary that
comes before the C-frame tick is the first of the new C-frame. -/
def State.currentTick (s : State) (r : Nat) : State :=
  let i := s.railCurrent r
  let prev := (s.rail r).current
  let s := s.modRail r (fun v => { v with
    current := i
    fMax := if s.tb.fStart < s.tb.cStart + 1008 then max v.fMax i else v.fMax
    accI := v.accI + i
    accP := v.accP + i * (v.die : Int)
    accN := v.accN + 1 })
  let step : Bool := (s.obj (0x2200 + r) 0x12 : Int) ≤ i - prev
    && ((s.rail r).seq == .good || (s.rail r).seq == .ramping)
  if !step then s
  else if (s.rail r).shed.isSome && s.atBoundary r then s.modRail r (fun v => { v with stepDue := true })
  else s.loadStep r

/-- Edge steps by which the next F-frame tick moves: one in a phase slew, later where the edges of SYNC_IN come later than the
phase counter (02 R46; the sign is a DESIGN CHOICE, log 130). -/
def Timebase.slewStep (v : Timebase) : Int := if v.slewLeft = 0 then 0 else if v.phaseErr < 0 then -1 else 1

/-- What an F-frame tick does in its cycle. -/
def State.fFrame (s : State) (lanes : List LaneSample) (taps : List TapSample) : State :=
  let m := s.tb.moved + s.tb.slewStep
  let t := s.tb.fStart + 168 + (m / 16 - s.tb.moved / 16)
  let s := s.atTime t.toNat
  let s : State := { s with tb := { s.tb with
    fStart := t.toNat, moved := m, phase := s.tb.phase + 4, slewLeft := s.tb.slewLeft - 1 } }
  let s := each lanes State.latchLane s
  let s := each s.railsUsed (fun s r => ((((s.latchRail taps r).voltageTick r).vminCheck r).avsTick r).setpointTick r) s
  let s := each s.railsUsed (fun s r =>
    let s := each (s.railLanes r) State.startLane s
    let s := s.currentTick r
    let s := if s.tb.fStart < s.tb.cStart + 1008 then
        s.modRail r (fun v => { v with barSeen := v.barSeen || s.shedBarred r })
      else s
    each (s.railLanes r) State.markLane s) s
  let s := each (List.range 8) State.applyCommit s
  let s := s.injectorTick true
  let s := if s.gov.phase == .domains then s.waitTick else s
  s.droopFrame

/-- F_FRAME_TICK (02 R34, R46, 03 R60 to R62, 04 R82 to R93, R99, R109, 05 R133, R135, 08 R209): cycle 0 of an F-frame. -/
def execFFrameTick (lanes : List LaneSample) (taps : List TapSample) (s : State) : Host.Outcome State Fault Refusal :=
  if s.tb.gclk then .next (s.oneCycle (fun s => s.fFrame lanes taps))
  else .next s

/-! ### F-frame commit -/

/-- Which operation of the voltage law an F-frame has (R85, R87). -/
inductive LawMode where
  | off | held | clamp | openLoop | closed
  deriving DecidableEq, Repr

def State.lawMode (s : State) (r : Nat) : LawMode :=
  let v := s.rail r
  if v.seq == .off || v.seq == .census then .off
  else if v.clamp then .clamp
  else if v.inFire then .held
  else if v.seq == .ramping && !v.dieValid then .openLoop
  else .closed

/-- Feed-forward gain of a rail from its stage input voltage (R85). -/
def State.railKff (s : State) (r : Nat) : Nat := kff (s.obj (0x2200 + r) 4)

/-- Setpoint that the law sees: the present one with an injection at the REF point, clamped as in R14 (08 R213). -/
def State.lawSetpoint (s : State) (r : Nat) : Int :=
  let sp : Int := (s.rail r).setpoint
  if s.injected r 0 = 0 then sp
  else clampI (sp + s.injected r 0) (s.obj (0x2200 + r) 2 : Nat) (s.obj (0x2200 + r) 3 : Nat)

/-- The voltage law of a rail; answers whether its duties are new (R85, R87). A law that cannot complete, or that is late,
holds the previous duties; an F-frame without an overrun ends a run of them (02 R40, R41, 08 R210). -/
def State.voltageLaw (s : State) (r : Nat) (late : Bool) : State × Bool :=
  let sp := s.lawSetpoint r
  let dmax := s.dutyMax r
  let s := s.modLaw r (fun l => { l with meas := ((s.rail r).die : Int), tgt := sp })
  match s.lawMode r with
  | .off | .held => (s.modRail r (fun v => { v with overruns := 0 }), false)
  | .clamp =>
    (s.modRail r (fun v => { v with w := (-(lawUff sp (s.railKff r))) :: v.w.take 2, drail := 0, overruns := 0 }), true)
  | .openLoop =>
    if late then ((s.lawOverrun r 1).modRail r (fun v => { v with overruns := v.overruns + 1 }), false)
    else
      let u := clampI (lawUff sp (s.railKff r)) 0 ((dmax * 256 : Nat) : Int)
      let s := s.modLaw r (fun l => { l with err := 0, shown := 0, out := u })
      (s.modRail r (fun v => { v with
        lawDone := true, e0 := v.e, w0 := v.w, e := 0 :: v.e.take 3, drail := (asr u 8).toNat % 65536, overruns := 0 }), true)
  | .closed =>
    let q := (s.repairState r 0).readSet r
    let s := q.1
    match q.2, late with
    | some c, false =>
      let v := s.rail r
      let err := if v.dieValid && !v.senseLost then sp - (v.die : Int) else 0
      let x := lawEval c v.e v.w err sp (s.injected r 1 * 256) (s.railKff r) dmax
      let s := s.setRail r { v with
        lawDone := true, e0 := v.e, w0 := v.w, e := x.e, w := x.w, drail := x.duty, overruns := 0 }
      let s := if x.sat then s.bump 0x4000 2 else s
      (s.modLaw r (fun l => { l with err := err, shown := err, out := x.u }), true)
    | _, _ => ((s.lawOverrun r 1).modRail r (fun v => { v with overruns := v.overruns + 1 }), false)

/-- Whether the following-error test of a VOLT instance is held (08 R212, 04 R82). -/
def State.voltHeld (s : State) (r : Nat) : Bool :=
  let v := s.rail r
  v.inFire || v.fire != .armed || v.clamp || v.seq != .good || v.senseLost || !v.dieValid

/-- The following-error test of a VOLT instance (08 R211). -/
def State.followVolt (s : State) (r : Nat) : State :=
  if s.voltHeld r then s
  else s.followFrame r (s.obj (0x4100 + r) 0x11 < (s.lawSetpoint r - ((s.rail r).die : Int)).natAbs)

/-- Trim of one ACTIVE lane (R88); `hold` leaves it as it was. -/
def State.trimLane (s : State) (r : Nat) (irail : Int) (rsum : Nat) (hold : Bool) (n : Nat) : State :=
  let s := s.repairState (40 + n) 0
  let l := s.lane n
  if hold || l.frozen then s
  else
    let rat : Int := (s.obj (0x2100 + n) 7 : Nat)
    let tgt := if rsum = 0 then 0 else (irail * rat).tdiv (rsum : Int)
    let tacc := trimStep l.tacc l.current rat irail rsum (s.obj (0x2200 + r) 0x28) (s.obj (0x2200 + r) 0x29)
      (s.obj (0x2200 + r) 0x1B)
    let s := s.setLane n { l with tacc := tacc, trim := asr tacc 8 }
    s.modLaw (40 + n) (fun v => { v with
      err := tgt - l.current, shown := tgt - l.current, out := asr tacc 8, meas := l.current, tgt := tgt })

/-- Duties of a rail committed: ACTIVE lanes with their trims, BLIND lanes at the mean of the ACTIVE duties of the
previous F-frame, every other lane 0 (R88, 03 R71). The mean is rounded down, and 0 with no ACTIVE lane (DESIGN CHOICE,
log 10). -/
def State.commitDuties (s : State) (r : Nat) : State :=
  let act := (s.railLanes r).filter (fun n => (s.lane n).st == .active)
  let mean := ((act.map (fun n => (s.lane n).duty)).foldl (· + ·) 0) / max 1 act.length
  let dmax := s.dutyMax r
  let drail := (s.rail r).drail
  let clamp := (s.rail r).clamp
  each (s.railLanes r) (fun s n => s.modLane n (fun l => { l with
    nextDuty := if clamp then 0
      else match l.st with
        | .active => (clampI ((drail : Int) + l.trim) 0 (dmax : Int)).toNat
        | .blind => mean
        | _ => 0 })) s

/-- The Cooper's level trigger in its window (04 R99). -/
def State.levelAdd (s : State) (r : Nat) : State :=
  let i := (s.rail r).current
  let add : Nat := ((s.runningLanes r).map (fun n => s.obj (0x2200 + r) 0x14 * s.obj (0x2100 + n) 7 / 100)).foldl (· + ·) 0
  let count := s.nPlan r i
  let adds : Bool := ((s.addOrder r).take (max (s.rail r).plan count)).any (fun n =>
    !(s.lane n).st.running && !(s.lane n).startDue)
  if ((s.rail r).seq == .good || (s.rail r).seq == .ramping) && (add : Int) < i && adds then
    let s := if (s.rail r).shed.isSome then s.abortShed r else s
    s.raisePlan r count
  else s

/-- What cycle 132 of an F-frame does. -/
def State.fFrameCommit (s : State) (lateLaws : List Nat) (lateTrims : Bool) : State :=
  let s := s.atTime (s.tb.fStart + 132)
  let s := if lateTrims then (s.overrun 2).captureEvent 5 0 else s
  let s := each s.railsUsed (fun s r =>
    let q := s.voltageLaw r (lateLaws.contains r)
    let s := q.1.followVolt r
    let act := (s.railLanes r).filter (fun n => (s.lane n).st == .active)
    let irail := (act.map (fun n => (s.lane n).current)).foldl (· + ·) 0
    let rsum := (act.map (fun n => s.obj (0x2100 + n) 7)).foldl (· + ·) 0
    let s := each act (fun s n => s.trimLane r irail rsum lateTrims n) s
    let s := if q.2 then s.commitDuties r else s
    s.levelAdd r) s
  (s.captureFrame 0)

/-- F_FRAME_COMMIT (04 R85 to R89, R99, 03 R71, 02 R40, 08 R216): cycle 132, with the trims and laws that are late named. -/
def execFFrameCommit (lateLaws : List Nat) (lateTrims : Bool) (s : State) : Host.Outcome State Fault Refusal :=
  if s.tb.gclk then .next (s.oneCycle (fun s => s.fFrameCommit lateLaws lateTrims))
  else .next s

/-- LOOP_OVERRUN (02 R41): the voltage law of a rail has overrun on six consecutive F-frames. -/
def execLoopOverrun (rail : Nat) (s : State) : Host.Outcome State Fault Refusal :=
  if s.railUsed rail && 6 ≤ (s.rail rail).overruns then
    .next ((s.modRail rail (fun v => { v with overruns := 0 })).trigger 3 1 rail 0 (s.railPa rail rail))
  else .next s

/-! ### C-frame tick -/

/-- Energy, mean current and power of the C-frame that has ended are latched (02 Frame schedules, 06 R142, 16 R386). -/
def State.latchEnergy (s : State) (r : Nat) : State :=
  let v := s.rail r
  let n : Int := max 1 v.accN
  let pj := (v.accP / (16 * n)).toNat
  let s := s.setRail r { v with
    iC := v.accI / n, power := pj / 1000, accI := 0, accP := 0, accN := 0 }
  let s := s.modShaper r (fun w => { w with measured := pj * 65536 / max 1 s.quantum })
  { s with segment := { s.segment with hEnergy := s.segment.hEnergy + pj / 1000 } }

/-- The shed dwell of a rail after a C-frame; the tick at cycle 0 is the first of the new C-frame (04 R101). -/
def State.dwellTick (s : State) (r : Nat) : State :=
  let v := s.rail r
  let counts : Bool := v.seq == .good && s.nPlan r v.fMax < v.plan && !v.barSeen
  let dwell := if counts then v.dwell + 1 else 0
  s.setRail r { v with
    dwell := dwell
    dwellMax := if counts then (if v.dwell = 0 then v.fMax else max v.dwellMax v.fMax) else 0
    shedDue := counts && v.shed.isNone && cframes (s.obj (0x2200 + r) 0x15) ≤ dwell
    fMax := v.current
    barSeen := s.shedBarred r }

/-- Balances on the metering rail of a rail are limited at this tick (06 R148). -/
def State.clipFor (s : State) (r : Nat) : State :=
  let m := if s.railRole r = 2 then s.obj (0x2810 + r) 2 else r
  if s.railRole m = 1 then s.modShaper m (fun v => { v with clip := true }) else s

/-- The capacity cut of a rail starts, follows or ends (03 R75). -/
def State.cutTick (s : State) (r : Nat) : State :=
  let v := s.rail r
  let cap := s.laneCapacity r
  match v.cutFrom with
  | none => s
  | some before =>
    if before ≤ cap then s.setRail r { v with cutFrom := none, cutOn := false, cutCap := 0 }
    else
      let fell : Bool := !v.cutOn || cap < v.cutCap
      let s := s.setRail r { v with cutOn := true, cutCap := cap }
      if fell then s.clipFor r else s

/-- The rate committed in the previous C-frame takes effect; the envelope goes on while the Governor meters, and starts at
the measured energy (06 R149, R155). -/
def State.rateTick (s : State) (r : Nat) : State :=
  s.modShaper r (fun v => { v with
    rate := v.next
    env := if s.gov.envOn && s.gov.st.metering && !s.gov.meterWait then v.envNext else v.measured })

/-- The rate in force in the first C-frame in which the limit laws run (08 R204). -/
def State.firstRate (s : State) (r : Nat) : State :=
  if s.gov.st.words && !(s.shaper r).ran then
    let rk := s.rateInForce r
    s.modShaper r (fun v => { v with rate := rk })
  else s

/-- An unmetered rail above its allowed rate on 1,000 consecutive C-frames raises its source (06 sources). -/
def State.budgetCheck (s : State) (r : Nat) : State :=
  if s.railRole r != 0 then s
  else
    let v := s.shaper r
    let run := if v.rate < v.measured && s.gov.st.words then v.overRun + 1 else 0
    if run = 1000 then (s.setShaper r { v with overRun := 0 }).trigger 25 1 r 0 (s.railPa r 0)
    else s.setShaper r { v with overRun := run }

/-- An accepted budget applies (16 R389). -/
def State.budgetTick (s : State) : State :=
  match s.segment.arm with
  | none => s
  | some g =>
    { s with
      segment := { s.segment with ceiling := some g.mw, up := some g.up, down := some g.down, arm := none }
      dither := g.dither.getD s.dither }

/-- The relock ends at the first C-frame tick with no phase error left (02 R46). -/
def State.slewTick (s : State) : State :=
  if s.tb.slew && s.tb.slewLeft = 0 then
    let s : State := { s with tb := { s.tb with tb := .locked, slew := false, relock := .none } }
    s.dropCause 1 0 0
  else s

/-- Whether a rail limits in the last committed C-frame or the staircase is engaged (10 R261). -/
def State.limited (s : State) : Bool := s.railsUsed.any (fun r => (s.shaper r).limiting) || s.thermal.f < 100

/-- Marks of a C-frame tick in the timebase: the count, the tick's instant, TAI, holdover time. The tick is an F-frame tick,
before or after which the command may come, so it has moved with the F-frame ticks of a phase slew (02 R46). -/
def State.countFrame (s : State) : State :=
  let m := s.tb.moved + (if s.tb.cStart + 924 < s.tb.fStart then 0 else s.tb.slewStep)
  let t := (s.tb.cStart + 1008 + (m / 16 - s.tb.movedC / 16) : Int).toNat
  let s := if s.tb.tb == .holdover then s.bump64 0x1200 4 1000 else s
  let s := s.atTime t
  { s with
    tb := { s.tb with cStart := t, movedC := m, cframe := (s.tb.cframe + 1) % 2 ^ 48 }
    clock := if s.clock.quality = 0 then s.clock else { s.clock with base := s.clock.base + 1000 } }

/-- What a C-frame tick does in its cycle, the transitions to LIMIT and of an automatic start apart. -/
def State.cFrame (s : State) : State :=
  let s := s.countFrame.slewTick
  let s := each s.railsUsed (fun s r => (((s.latchEnergy r).dwellTick r).cutTick r).rateTick r) s
  let fresh : Bool := s.railsUsed.all (fun r => !(s.shaper r).ran)
  let q := s.budgetTick.coolTick fresh
  let s : State := { q.1 with
    gov := { q.1.gov with
      meterWait := false
      envOn := q.1.gov.st.metering
      safeCap := q.1.gov.safeCapArm.getD q.1.gov.safeCap
      safeCapArm := none
      limitMark := q.1.gov.limitMark || q.1.limited }
    thermal := { q.1.thermal with ceilF := q.1.thermal.f }
    domains := q.1.domains.map (fun p => (p.1, { p.2 with
      meterFrom := p.2.st == .on || (p.2.st == .draining && p.2.meterFrom) })) }
  let s := (each s.railsUsed State.firstRate s).refillAll q.2
  let s := each s.meteringRails (fun s r =>
    let s := s.sigmaWindow r
    s.sigmaUpdate r) s
  let s := each s.railsUsed State.budgetCheck s
  let s := s.activateProgram.tallyTick
  let s := (s.injectorTick false).limitLaws
  let s : State := { s with thermal := { s.thermal with newTemp := false } }
  s.filters

/-- C_FRAME_TICK (02 R35, R46, 03 R75, 04 R101, 06 R144 to R149, R155, R163, 07 R184 to R186, R194, 08 R202 to R205,
09 R234, R237, 10 R250, R261, R262, 16 R389): cycle 0 of a C-frame. -/
def execCFrameTick (s : State) : Host.Outcome State Fault Refusal :=
  if s.tb.gclk then
    let s := s.oneCycle (fun s => s.cFrame)
    .next (if s.gov.st == .run && s.limited then s.enter .limit 0xFF else s.autoStart)
  else .next s

/-! ### Rate commit at cycle 840 -/

/-- Current rise of bin `j` over bin 0 in mA (04 R95). -/
def State.rise (s : State) (r j : Nat) : Nat :=
  let vb := (s.baseSetpoint r).toNat
  if vb = 0 then 0 else (s.horizon r j - s.horizon r 0) * s.quantum / (16 * vb)

/-- Bins 1 to `n` that hold a forecast step, with their rise (04 R95). -/
def State.steps (s : State) (r n : Nat) : List (Nat × Nat) :=
  (((List.range (min n 64)).map (· + 1)).map (fun j => (j, s.rise r j))).filter (fun q => s.obj (0x2200 + r) 0x12 ≤ q.2)

/-- Lead window and add horizon of a rail in C-frames (04 R96, R99). -/
def State.lead (s : State) (r : Nat) : Nat := s.obj (0x2200 + r) 0x0F
def State.addHorizon (s : State) (r : Nat) : Nat :=
  s.lead r + cframes (((s.railLanes r).map (fun n => s.obj (0x2100 + n) 0x0A)).foldl max 0)

/-- Pre-position target from the largest step in the lead window, else its hold (04 R96, R97). -/
def State.prePosition (s : State) (r : Nat) : State :=
  let l := s.steps r (s.lead r)
  if l.isEmpty then
    s.modRail r (fun v => if v.preEnd ≤ s.tb.cframe then { v with prePos := 0 } else v)
  else
    let top := (l.map (·.2)).foldl max 0
    let last := (l.map (·.1)).foldl max 0
    s.modRail r (fun v => { v with
      prePos := min (min 480 (s.obj (0x2200 + r) 0x27)) (top * s.obj (0x2200 + r) 0x0E / 100000)
      preEnd := s.tb.cframe + last + s.obj (0x2200 + r) 0x10 })

/-- Lanes for the forecast: adds for the lead window, wakes for the add horizon, the shed bar (04 R99, R100, R442). -/
def State.forecastLanes (s : State) (r : Nat) : State :=
  let near := s.steps r (s.lead r)
  let far := s.steps r (s.addHorizon r)
  let s := s.modRail r (fun v => { v with forecastBar := !far.isEmpty })
  if far.isEmpty then s
  else
    let i := (s.rail r).iC
    let s := if (s.rail r).shed.isSome then s.abortShed r else s
    let s := if near.isEmpty then s else s.raisePlan r (s.nPlan r (i + ((near.map (·.2)).foldl max 0 : Nat)))
    let n := s.nPlan r (i + ((far.map (·.2)).foldl max 0 : Nat))
    let s := each ((s.addOrder r).take n) (fun s k => s.wakeLane k true 0) s
    each (s.railLanes r) (fun s k => s.modLane k (fun l =>
      if (l.st == .warm || l.st == .cold) && l.forecastWake && !l.startDue then { l with parkEnd := some (s.tb.now + s.cyc 0x2000 2) } else l)) s

/-- A rate that is late: the lower of the rate in force and the lowest ceiling, which is the winner where it is lower
(02 R40). -/
def State.lateRate (s : State) (r : Nat) : State :=
  let now := (s.shaper r).rate
  match lowest (s.ceilings r) with
  | some (b, x) =>
    if x < now then s.modShaper r (fun v => { v with next := x, won := b })
    else s.modShaper r (fun v => { v with next := now, won := v.bound })
  | none => s.modShaper r (fun v => { v with next := now, won := v.bound })

/-- What cycle 840 of a C-frame does. -/
def State.cFrameCommit (s : State) (late : Bool) : State :=
  let s := s.atTime (s.tb.cStart + 840)
  let s := if late then
      each s.railsUsed State.lateRate ((s.overrun 4).captureEvent 5 0)
    else s
  let s := each s.railsUsed State.publishRate s
  let s := s.fillerCommit
  let s := each (s.railsUsed.filter (fun r => (s.rail r).seq == .good)) (fun s r =>
    (s.prePosition r).forecastLanes r) s
  (s.captureFrame 1)

/-- C_FRAME_RATE_COMMIT (04 R95 to R100, R442, 06 R157 to R159, 08 R206, 02 R40): cycle 840. A late rate is the lower of
the present rate and the lowest ceiling. -/
def execCFrameRateCommit (late : Bool) (s : State) : Host.Outcome State Fault Refusal :=
  if s.tb.gclk then .next (s.oneCycle (fun s => s.cFrameCommit late))
  else .next s

/-! ### H-frame tick -/

/-- AVS increases of a rail: at most 16 units, blocked after a back-off, deferred by a pre-position, none since SAFE or
TRIP until READY, RUN or LIMIT (04 R92, R93, R98). -/
def State.avsRaise (s : State) (r : Nat) : State :=
  let v := s.rail r
  let v := { v with
    avsBlock := v.avsBlock - 1
    avsHeld := v.avsHeld && !(s.gov.st == .ready || s.gov.st == .run || s.gov.st == .limit) }
  let req := s.avsRequest r
  if 0 < (s.rail r).avsBlock || v.avsHeld || 0 < v.prePos || s.sweeping r then s.setRail r v
  else s.setRail r { v with avs := if v.avs < req then min req (v.avs + 16) else v.avs }

/-- The trim request that CTL forms of a rail each H-frame: nominal less the largest vmin and guard of the rail's domains, within
the trim limit; 0 without AVS, or without a valid vmin of every domain (R91). -/
def State.ctlRequest (s : State) (r : Nat) : Nat :=
  let ds := s.domainsUsed.filter (fun d => s.droopRail d == r)
  let vs := ds.map (fun d => tget s.assayer.vmin (d * 8 + s.domainBand d) 0)
  if !s.flag (0x2200 + r) 0x0C || s.cfg == .core || ds.isEmpty || vs.contains 0 || ds.any s.domainBlind then 0
  else
    let need : Int := (s.obj (0x2200 + r) 1 : Int) - ((vs.foldl max 0 + s.obj 0x6002 0x0B : Nat) : Int)
    (clampI need 0 (s.obj (0x2200 + r) 0x0B : Nat)).toNat

/-- CTL writes the requests of every rail in its H-frame task, while it runs and the object is writable (R91). The moment, the
tick itself, and a rail with no domain are DESIGN CHOICES (log 129). -/
def State.ctlTick (s : State) (lateCores : List Nat) : State :=
  if (tget s.cores 0 {}).st == .running && !lateCores.contains 0
      && (s.gov.st == .ready || s.gov.st == .run || s.gov.st == .limit || s.gov.st == .service) then
    each s.railsUsed (fun s r => s.setObj (0x2200 + r) 0x0A (s.ctlRequest r)) s
  else s

/-- Rate of rise of one sensor (09 R246). -/
def State.riseCheck (s : State) (n : Nat) : State :=
  let v := s.sensor n
  let now := s.sensorValue n
  let lim : Int := s.obj (kindObj (sensorKind n)) 7
  let rose : Bool := lim != 0 && (match now, v.prevH with
    | some t, some p => lim < t - p
    | _, _ => false)
  let run := if rose then v.rise + 1 else 0
  let s := s.setSensor n { v with prevH := now, rise := run }
  if 2 ≤ run then
    let s := s.trigger 41 3 (s.sensorRegion n) 0 (s.thermalPa n (now.getD 0))
    if s.flag 0x3000 0x0D then { s with thermal := { s.thermal with rorHot := true } } else s
  else s

/-- Island share: the segment ceiling of a worker without its coordinator (16 R390). -/
def State.islandTick (s : State) : State :=
  if s.segment.role = 3 || s.segment.role = 4 then
    let half : Int := (s.obj 0x2801 1 / 2 : Nat)
    let b0 : Int := match s.segment.b0 with
      | some b => (b : Int)
      | none => half
    let h := min (s.segment.share + 1) 1000
    { s with segment := { s.segment with
      share := h, ceiling := some (b0 + ((half - b0) * (h : Int)).tdiv 1000).toNat } }
  else s

/-- LIMIT ends after one whole H-frame without limiting (10 R261). -/
def State.limitExit (s : State) : State :=
  let whole : Bool := s.gov.entered + 1008000 ≤ s.tb.cStart
  let clear : Bool := !s.gov.limitMark
  let s : State := { s with gov := { s.gov with limitMark := false } }
  if s.gov.st == .limit && whole && clear then s.enter .run 0xFF else s

/-- What an H-frame tick does in its cycle, the end of LIMIT apart. -/
def State.hFrame (s : State) (lateCores : List Nat) : State :=
  let s := each [0, 1, 2, 3] (fun s k => s.signal (0x0C0 + k)) s
  let s := each (lateCores.filter (· < 4)) (fun s c => (s.overrun 8).bump (0x7410 + c) 8) s
  let s := each s.domainsUsed State.droopSnapshot s
  let s := s.ctlTick lateCores
  let s := each s.railsUsed (fun s r => (s.avsRaise r).modRail r (fun v => { v with fires := 0 })) s
  let s := each (List.range 160) State.repairShadow s
  let s := each s.sensorsUsed State.riseCheck s
  let rate : Bool := s.tally.evalsH < 2 * s.tally.fallbacksH
  let s : State := { s with
    windowRecs := 0
    tally := { s.tally with evalsH := 0, fallbacksH := 0 }
    segment := { s.segment with
      hPower := s.segment.hEnergy / 1000, hEnergy := 0, hcount := s.segment.hcount + 1 } }
  let s := if rate then s.trigger 31 0 0 0 0 else s
  s.islandTick

/-- H_FRAME_TICK (02 R40, 04 R92, R93, R98, R108, 05 R133, 07 sources, 08 R210, 09 R246, 10 R261, 13 R317, 14, 16 R390):
`lateCores` names the cores whose H-frame task has not finished. -/
def execHFrameTick (lateCores : List Nat) (s : State) : Host.Outcome State Fault Refusal :=
  if s.tb.gclk && s.tb.cframe % 1000 == 0 then .next (s.oneCycle (fun s => s.hFrame lateCores)).limitExit
  else .next s

end Sys2Proof.Machine
end

