-- ==== Sys2Proof/Machine/Thermal.lean ====
section
/-! DEFINITION. The Thermal Unit's events (09): S-frame ticks and commits, sensor slots and words, trips, coolant, restart
and COOLDOWN. -/

namespace Sys2Proof.Machine

/-! ### S-frame -/

/-- Length of the present S-frame in C-frames (02 R38, R39). -/
def State.sLength (s : State) : Nat := if s.tb.near then 10 else 100

/-- Memory-band and timing-margin outputs take the codes of the present bands; those of stacks and domains not in use are 0
(R232, 17 R409). -/
def State.bandOutputs (s : State) : State :=
  let ms := fun k => if s.sensorUsed (256 + k) then s.obj 0x3005 (1 + (s.region (s.sensorRegion (256 + k))).band) else 0
  let tm := fun d => if s.domainUsed d then s.obj 0x3006 (1 + s.domainBand d) else 0
  { s with thermal := { s.thermal with
    msBand := (List.range 16).map (fun k => (k, ms k))
    domTm := (List.range 32).map (fun d => (d, tm d)) } }

/-- What a stack's word reads as at this instant: bad when none has come or it is older than the age limit (R222). -/
def State.stackNow (s : State) (k : Nat) : Option Int :=
  let v := s.sensor (256 + k)
  match v.word with
  | some w => if s.tb.now ≤ v.wordAt + s.cyc 0x3000 0x17 then stackReading w else none
  | none => none

/-- S_FRAME_TICK (R221, R227, R232, 02 R38, R39): the first reads of the on-die sensors in use start, stack words are
sampled, re-armed reads start, band outputs change. -/
def execSFrameTick (s : State) : Host.Outcome State Fault Refusal :=
  if s.tb.gclk && s.tb.cframe % s.sLength == 0 then
    let back : Bool := s.tb.near && 10 ≤ s.tb.nearRun && s.tb.cframe % 100 == 0
    let s : State := { s with tb := { s.tb with near := s.tb.near && !back, nearRun := if back then 0 else s.tb.nearRun } }
    let s := if s.tb.near then s.bump 0x1200 7 else s
    let s := each ((List.range 256).filter s.sensorUsed) (fun s n => s.modSensor n (fun v => { v with sampled := some none })) s
    let s := each ((List.range 16).filter (fun k => s.sensorUsed (256 + k) && s.stackUp k)) (fun s k =>
      s.modSensor (256 + k) (fun v => { v with sampled := some (s.stackNow k), again := none })) s
    let s := each ((List.range 272).filter (fun n => (s.sensor n).rearm)) (fun s n =>
      s.modSensor n (fun v => { v with rearm := false, rearmRead := true })) s
    .next (if s.gov.st == .boot || s.gov.st == .off then s else s.bandOutputs)
  else .next s

/-! ### Commit -/

/-- One on-die sensor whose first read has started, at a commit: first read, retry, or a counted failed read (R222). -/
def State.commitOnDie (s : State) (reads : List OnDieRead) (n : Nat) : State :=
  let restart := (s.sensor n).rearmRead
  let s := s.modSensor n (fun v => { v with sampled := none, rearmRead := false })
  match reads.find? (fun r => r.sensor == n) with
  | some r =>
    match r.first.bind onDieReading, r.retry.bind onDieReading with
    | some t, _ => s.readGood n t false restart
    | none, some t => s.readGood n t true restart
    | none, none => s.readBad n restart
  | none => s.readBad n restart

/-- Whether a read of an on-die sensor was not finished by its commit point (02 R40). -/
def unfinished (reads : List OnDieRead) (n : Nat) : Bool :=
  match reads.find? (fun r => r.sensor == n) with
  | some r => r.first.isNone || ((r.first.bind onDieReading).isNone && r.retry.isNone)
  | none => true

/-- One memory stack at a commit: the sampled word, else the word of its retry (R222). A stack in its census is judged by
its words alone (R224). -/
def State.commitStack (s : State) (k : Nat) : State :=
  let n := 256 + k
  let v := s.sensor n
  let s := s.setSensor n { v with sampled := none, again := none, rearmRead := false }
  if v.st == .off || v.sampled.isNone then s
  else
    match v.sampled.join, v.again with
    | some t, _ => s.readGood n t false v.rearmRead
    | none, some t => s.readGood n t true v.rearmRead
    | none, none => s.readBad n v.rearmRead

/-- An on-die or stack port outside the descriptor that delivers a valid report is UNUSED; before an image is loaded no port is
outside it (R224). -/
def State.surplusSensor (s : State) (n : Nat) : State :=
  if !s.gov.booting && (s.sensor n).st == .unassigned then
    (s.modSensor n (fun v => { v with st := .unused })).record 0x0260 ((if n < 256 then 2 else 3) * 2 ^ 56
      + (if n < 256 then n else n - 256) * 2 ^ 40) 0 false
  else s

/-- The cross-check of one on-die sensor over the sensors that were VALID before the commit (R226). -/
def State.crossCheck (s : State) (valid : List Nat) (n : Nat) : State :=
  let nb := (s.neighbours n).filter (fun p => valid.contains p.1 && (s.sensor p.1).fresh)
  if nb.length < 2 || !(s.sensor n).fresh then s
  else
    let num := (nb.map (fun p => (p.2 : Int) * (s.sensor p.1).reading)).foldl (· + ·) 0
    let den : Nat := (nb.map (·.2)).foldl (· + ·) 0
    let pred : Int := Int.tdiv num (Int.ofNat den) + s.obj16 (0x3100 + n) 7
    let v := s.sensor n
    let far : Bool := s.obj16 0x3000 2 < ((v.reading - pred).natAbs : Int)
    let count := if far then v.count + 1 else 0
    let quar : Bool := far && count = s.obj 0x3000 3
    let s := s.setSensor n { v with pred := pred, count := count, st := if quar then .quarantined else v.st }
    let s := if count = 1 then s.bump (0x3100 + n) 0x0B else s
    if quar then s.trigger 36 3 (s.sensorRegion n) 0 (s.thermalPa n v.reading) else s

/-- A state with the sensor states of an earlier one: every decision of a commit uses those of before it (R226). -/
def State.statesOf (s before : State) : State :=
  { s with sensors := s.sensors.map (fun p => (p.1, { p.2 with st := (before.sensor p.1).st })) }

/-- The digital shutdown check: sensors that trip, with the cause code of each (R242, R243). -/
def State.digitalTrips (s : State) : List (Nat × Int × Nat) :=
  (s.sensorsUsed.filter (fun n => s.sensorSt n == .valid && (s.sensor n).fresh)).filterMap (fun n =>
    let t := (s.sensor n).reading
    if n < 256 && 8000 ≤ t then some (n, t, 2)
    else if s.threshOf (sensorKind n) 2 ≤ t then some (n, t, 3)
    else none)

/-- Whether a VALID or STALE sensor lies within the near-band of its throttle threshold (02 R38, R223). -/
def State.nearFound (s : State) : Bool :=
  s.sensorsUsed.any (fun n => s.readingUsed n
    && s.threshOf (sensorKind n) 1 - s.obj16 0x1200 6 ≤ (s.sensor n).reading)

/-- The near rate after a commit (02 R38, R39). -/
def State.nearCommit (s : State) (found : Bool) : State :=
  if found then { s with tb := { s.tb with near := true, nearRun := 0 } }
  else if s.tb.near then { s with tb := { s.tb with nearRun := s.tb.nearRun + 1 } }
  else s

/-- Regions, bands, warnings and the staircase from the values of a commit (R225, R230 to R236). -/
def State.judge (s : State) (vals : List (Nat × Int)) : State :=
  let bands := s.domainsUsed.map (fun d => (d, s.domainBand d))
  let s := each s.regionsUsed (fun s g => s.commitRegion vals g) s
  let s := each bands (fun s p => s.bandMoved p.1 p.2) s
  let s : State := match hottest vals with
    | some (n, t) => { s with thermal := { s.thermal with hotValue := t, hotSensor := n } }
    | none => s
  let s := each (List.range 3) (fun s k => s.warnKind vals k) s
  let hot : Bool := (List.range 3).any (fun k => !(s.reaching vals k 1).isEmpty) || s.inletHot || s.thermal.rorHot
  let cool : Bool := (List.range 3).all (fun k => s.cleared vals k 1) && !s.inletHot
  let blind := s.regionsUsed.filter s.regionBlind
  let s := each s.regionsUsed (fun s g => s.followCause 38 3 g (s.regionBlind g) 0 (g * 2 ^ 24 + s.thermal.f * 2 ^ 16)) s
  let s : State := { s with thermal := { s.thermal with rorHot := false, newTemp := true } }
  s.staircase hot cool (!blind.isEmpty)

/-- One external read at the commit that follows it; that of a coolant sensor is an inlet reading (R221, R222, R238). -/
def State.commitExternal (s : State) (q : ExtRead) : State :=
  let n := 272 + q.sensor
  match q.value with
  | some t =>
    let s := s.readGood n t q.retried q.restart
    if ((s.extSensor n).map (·.coolant)).getD false && s.coolSource % 2 == 1 then s.inlet q.sensor t else s
  | none => s.readBad n q.restart

/-- Every read that a commit point finds completed, and those that it finds unfinished (R221, R224, 02 R40). -/
def State.commitReads (s : State) (reads : List OnDieRead) : State :=
  let started := (List.range 256).filter (fun n => s.sensorUsed n && (s.sensor n).sampled.isSome)
  let s := each started (fun s n => s.commitOnDie reads n) s
  let s := if started.any (unfinished reads) then s.overrun 7 else s
  let s := each ((reads.filter (fun r => r.sensor < 256 && !s.sensorUsed r.sensor
    && (r.first.bind onDieReading).isSome)).map (·.sensor)) State.surplusSensor s
  let s := each ((List.range 16).filter (fun k => s.sensorUsed (256 + k) && s.stackUp k)) State.commitStack s
  let done := s.thermal.extDone
  each done State.commitExternal { s with thermal := { s.thermal with extDone := [] } }

/-- What a commit point does in its cycle. Its decisions use the readings just committed and the sensor states of before it
(R226). -/
def State.commitPoint (s : State) (reads : List OnDieRead) : State :=
  let s := s.atTime (s.tb.cStart + 840)
  let before := (List.range 256).filter (fun n => s.sensorUsed n && s.sensorSt n == .valid)
  let old := s
  let s := s.commitReads reads
  let v := s.statesOf old
  let s := (s.nearCommit v.nearFound).judge v.values
  let trips := v.digitalTrips
  let s := each before (fun s n => s.crossCheck before n) s
  let s := each ((List.range 16).map (· + 272)) (fun s n => if s.sensorUsed n then
    s.modSensor n (fun v => { v with fresh := false }) else s) s
  let s := s.coolCommit.criterion v
  let causes := trips.map (·.2.2)
  match trips.find? (fun p => p.2.2 == lowestCode causes) with
  | some (n, t, _) => s.thermalTrip n t causes
  | none => s

/-- THERMAL_COMMIT (R221 to R237, R242, R244): cycle 840 of the last C-frame of the S-frame. -/
def execThermalCommit (reads : List OnDieRead) (s : State) : Host.Outcome State Fault Refusal :=
  if s.tb.gclk && (s.tb.cframe + 1) % s.sLength == 0 then .next (s.oneCycle (fun s => s.commitPoint reads))
  else .next s

/-! ### Slots and words -/

/-- External sensors in use, by number 0 to 15. -/
def State.externals (s : State) : List Nat := (List.range 16).filter (fun k => s.sensorUsed (272 + k))

/-- Reading of an external sensor under its descriptor conversion (R222). -/
def extReading (e : ExtSensor) (raw : BitVec 16) : Option Int :=
  let t := (raw.toNat : Int) * e.scale / 65536 + e.offset
  if -2560 ≤ t && t ≤ 9600 then some t else none

/-- The slot's read is over and waits for the commit; the round moves on (R221). -/
def State.slotDone (s : State) (k : Nat) (value : Option Int) (restart : Bool) : State :=
  { s with thermal := { s.thermal with
    extNext := k + 1
    extRetry := false
    extRestart := false
    extDone := s.thermal.extDone ++ [{ sensor := k, value, retried := s.thermal.extRetry, restart }] } }

/-- EXTERNAL_SENSOR_SLOT (R221, R222, R227, R237): the next external sensor in ascending order is read, or the read that failed
in the last slot is retried. A re-arm waits for the first read that starts after it. An update of a coolant sensor arrives
with its read, its inlet reading with the commit (DESIGN CHOICE, log 134). -/
def execExternalSensorSlot (raw : Option (BitVec 16)) (s : State) : Host.Outcome State Fault Refusal :=
  if !s.tb.gclk then .next s
  else
    match (s.externals.find? (fun k => s.thermal.extNext ≤ k)).or s.externals.head? with
    | none => .next s
    | some k =>
      let n := 272 + k
      match s.extSensor n with
      | none => .next s
      | some e =>
        let restart := if s.thermal.extRetry then s.thermal.extRestart else (s.sensor n).rearm
        let s := if s.thermal.extRetry then s else s.modSensor n (fun v => { v with rearm := false })
        match raw.bind (extReading e) with
        | some t =>
          let s := s.slotDone k (some t) restart
          if e.coolant && s.coolSource % 2 == 1 then
            .next ({ s with thermal := { s.thermal with coolExt := some s.tb.now } } : State).coolFollow
          else .next s
        | none =>
          if s.thermal.extRetry then .next (s.slotDone k none restart)
          else .next { s with thermal := { s.thermal with extNext := k, extRetry := true, extRestart := restart } }

/-- Instant at which the first reads of this S-frame are over and retries begin: 7 µs after its tick (R221, R222). -/
def State.retryStart (s : State) : Nat := s.tb.cStart - s.tb.cframe % s.sLength * 1008 + 7056

/-- MEMORY_STACK_WORD (R224, 17 R408): the word is captured; three valid words complete a stack's census. A word captured
while the first reads run is the one its retry samples. -/
def execMemoryStackWord (stack : Nat) (word : BitVec 18) (s : State) : Host.Outcome State Fault Refusal :=
  let n := 256 + stack
  if 16 ≤ stack || !s.tb.gclk then .next s
  else if !s.sensorUsed n then
    .next (if (stackReading word).isSome then s.surplusSensor n else s)
  else
    let s := s.modSensor n (fun v => { v with
      word := some word
      wordAt := s.tb.now
      again := if s.tb.now ≤ s.retryStart then stackReading word else v.again })
    let v := s.sensor n
    match v.censusEnd, stackReading word with
    | some _, some t =>
      if v.reads = 2 then
        .next (s.setSensor n { v with reads := 3, censusEnd := none, st := .valid, reading := t, count := 0 })
      else .next (s.setSensor n { v with reads := v.reads + 1 })
    | _, _ => .next s

/-- STACK_CENSUS_WINDOW_END (R224): a stack without three valid words is MISSING. -/
def execStackCensusWindowEnd (stack : Nat) (s : State) : Host.Outcome State Fault Refusal :=
  let n := 256 + stack
  match (s.sensor n).censusEnd with
  | some t => .next (((s.atTime t).modSensor n (fun v => { v with censusEnd := none })).sensorMissing n)
  | none => .next s

/-! ### Comparators -/

/-- A comparator asserts while gov_rst_n is low: the sub-island sets the latch and keeps the trigger for the Registrar (R243,
12 R304). -/
def State.tripInReset (s : State) (n : Nat) (t : Int) (code : Nat) : State :=
  let s := if s.gov.tripLatch then s else s.bump 0x3000 0x11
  { s with gov := { s.gov with
    tripLatch := true
    tripCause := code
    heldTriggers := s.gov.heldTriggers ++ [{ pin := 35, kind := 0, idx := 0, cause := code, pa := s.thermalPa n t }] } }

/-- OXS_T_TRIP (R241, R243): a comparator assertion in any powered state. -/
def execOxsTTrip (sensor : Nat) (s : State) : Host.Outcome State Fault Refusal :=
  if 256 ≤ sensor || s.gov.st == .off then .next s
  else
    let v := s.sensor sensor
    let s := s.setSensor sensor { v with tripped := true }
    let code := if v.programmed then 1 else 2
    if s.gov.govRstLow then .next (s.tripInReset sensor v.reading code)
    else .next (s.thermalTrip sensor v.reading [code])

/-- Every OXS-T cell programmed with the shutdown threshold and hysteresis, rounded down to 0.25 °C steps; a cell whose
echo fails twice keeps its setting and counts a failed read (09 Trip, 17 R407). -/
def State.programCells (s : State) (failed : List Nat) : State :=
  let thr := s.obj (kindObj 0) 5 / 16 * 16
  let hys := s.obj (kindObj 0) 6 / 16 * 16
  let s := each ((List.range 256).filter (fun n => !failed.contains n)) (fun s n =>
    s.modSensor n (fun v => { v with programmed := true, thr := thr, hys := hys })) s
  each (failed.filter (fun n => n < 256 && s.sensorUsed n)) (fun s n => s.readBad n false) s

/-- OXS_T_PROGRAM (17 R407): a retried program operation that succeeds leaves no other trace. -/
def execOxsTProgram (retried failed : List Nat) (s : State) : Host.Outcome State Fault Refusal :=
  if s.tb.gclk then .next (each (retried.filter (fun n => n < 256)) (fun s _ => s.transient 43) (s.programCells failed))
  else .next s

/-! ### Coolant -/

/-- COOLANT_TIMEOUT (R237): no update from a selected source within the timeout. The cap follows at the next commit. -/
def execCoolantTimeout (s : State) : Host.Outcome State Fault Refusal :=
  if s.coolSource = 0 then .next s
  else
    let last := max (s.thermal.coolExt.getD 0) (s.thermal.coolMgmt.getD 0)
    let s := if s.thermal.coolExt.isNone && s.thermal.coolMgmt.isNone then s else s.atTime (last + s.cyc 0x3008 2)
    .next s.coolFollow

/-- COOLANT_RECOVERY (R239): the cap is removed at the next C-frame tick. -/
def execCoolantRecovery (s : State) : Host.Outcome State Fault Refusal :=
  match s.thermal.coolSince with
  | some t =>
    if s.thermal.coolCap then
      let s := s.atTime (t + s.cyc 0x3008 3)
      .next (if s.coolValid && !s.inletHot then
          { s with thermal := { s.thermal with coolArm := some false } }
        else s.coolFollow)
    else .next s
  | none => .next s

/-! ### Leaving TRIP and COOLDOWN -/

/-- TRIP_ACTIONS_COMPLETE (10 R261): the first C-frame tick at least 1 µs after entry, with every lane off and every domain
isolated. -/
def execTripActionsComplete (s : State) : Host.Outcome State Fault Refusal :=
  if s.gov.st == .trip && s.gov.entered + 1008 ≤ s.tb.cStart then .next (s.enter .cooldown 0xFF) else .next s

/-- Seconds the sub-island keeps: auto-restarts within the last 3,600 s (R245). -/
def State.recentRestarts (s : State) : List Nat := s.gov.restarts.filter (fun t => s.tb.now < t + 3600 * 1008000000)

/-- The Governor leaves COOLDOWN after a thermal trip: a recorded auto-restart, or STANDBY (R244, R245). -/
def State.restart (s : State) : State :=
  if s.recentRestarts.length < s.obj 0x3000 0x0C then
    let s : State := { s with gov := { s.gov with restarts := (s.tb.now :: s.gov.restarts).take 3 } }
    let s := s.record 0x0230 s.recentRestarts.length s.gov.tripCause true
    (s.enter .sequencing 0xFF).startUp
  else (s.enter .standby 0xFF).autoStart

/-- RESTART_HOLD_COMPLETE (R244, R245); after scan or EXTEST only a reset leads out of COOLDOWN (17 R421, 19 R439), and
none before the configuration image has been loaded (DEDUCED, log 34). -/
def execRestartHoldComplete (s : State) : Host.Outcome State Fault Refusal :=
  if s.gov.st == .cooldown && !s.gov.scanMode && !s.gov.booting then
    if s.gov.tripCause = 4 then (if s.restartCool then .next (s.enter .standby 0xFF).autoStart else .next s)
    else
      match s.gov.critSince with
      | some t => .next (s.atTime (t + s.cyc 0x3000 0x0B)).restart
      | none => .next s
  else .next s

/-- COOLDOWN_PROLONGED (R244): 600 s in COOLDOWN. -/
def execCooldownProlonged (s : State) : Host.Outcome State Fault Refusal :=
  if s.gov.st == .cooldown && !s.gov.prolonged then
    let s := s.atTime (s.gov.entered + 600 * 1008000000)
    .next (({ s with gov := { s.gov with prolonged := true } } : State).trigger 42 0 0 0
      (s.thermalPa s.thermal.hotSensor s.thermal.hotValue))
  else .next s

end Sys2Proof.Machine
end

