-- ==== Sys2Proof/Machine/Views.lean ====
section
/-! DEFINITION. What a read of an object returns where the Governor forms the value: the RO objects of every unit, and the
RW and CONST objects that are windows on a unit's state (the object tables of 02 to 16). Values are raw numbers of the
object's size; an object of none of these functions holds its stored value. -/

namespace Sys2Proof.Machine

/-! ### State codes -/

def LaneSt.code : LaneSt → Nat
  | .unassigned => 0 | .cold => 1 | .warm => 2 | .active => 3 | .blind => 4 | .faulted => 5 | .missing => 6 | .unused => 7
  | .retry => 8

def TapSt.code : TapSt → Nat
  | .unassigned => 0 | .idle => 1 | .valid => 2 | .suspect => 3 | .masked => 4 | .missing => 5 | .unused => 6 | .sense => 7

def SensSt.code : SensSt → Nat
  | .unassigned => 0 | .off => 1 | .valid => 2 | .stale => 3 | .quarantined => 4 | .failed => 5 | .missing => 6
  | .unused => 7

def DomSt.code : DomSt → Nat
  | .unused => 0 | .off => 1 | .waking => 2 | .settling => 3 | .on => 4 | .draining => 5 | .gating => 6 | .faulted => 7

def CoreSt.code : CoreSt → Nat
  | .stopped => 0 | .booting => 1 | .running => 2 | .restarting => 3 | .held => 4

def TbState.code : TbState → Nat
  | .unlocked => 0 | .locked => 1 | .holdover => 2

def Presence.code : Presence → Nat
  | .absent => 0 | .present => 1 | .missing => 2

/-- State code of a tap; a port in no group becomes UNUSED at the end of SEQUENCING (05 Tap states, R137). -/
def State.tapCode (s : State) (t : Nat) : Nat := if s.tapGroup t = 0xFE then 7 else (s.tap t).st.code

/-! ### Timebase, time, rails and lanes -/

/-- Objects of 0x1200, 0x1300 and Phase Link and Rail Control (02, 12, 03, 04). -/
def State.viewRails (s : State) (idx sub : Nat) : Option Nat :=
  if idx = 0x1200 then
    match sub with
    | 2 => some s.tb.tb.code
    | 8 => some (ofSigned 16 s.tb.phaseErr)
    | _ => none
  else if idx = 0x1300 then
    match sub with
    | 1 => some s.tai
    | 2 => some s.clock.quality
    | _ => none
  else if idx = 0x2001 && 1 ≤ sub then some (s.laneCapacity (sub - 1))
  else if idx = 0x2002 && 1 ≤ sub then some (s.runningLanes (sub - 1)).length
  else if 0x2100 ≤ idx && idx ≤ 0x215F then
    let l := s.lane (idx - 0x2100)
    match sub with
    | 2 => some l.st.code
    | 3 => some l.cause
    | 0x0C => some (ofSigned 32 l.current)
    | 0x0D => some l.duty
    | 0x0E => some l.theta
    | _ => none
  else if 0x2200 ≤ idx && idx ≤ 0x2207 then
    let v := s.rail (idx - 0x2200)
    match sub with
    | 7 => some v.setpoint
    | 8 => some v.die
    | 9 => some (satU 32 v.current.toNat)
    | 0x0D => some v.prePos
    | 0x20 => some v.plan
    | 0x26 => some (if v.cutOn then 9 * s.laneCapacity (idx - 0x2200) * v.setpoint / 160000 else 0)
    | _ => none
  else none

/-- Objects of Droop Defence (05). -/
def State.viewDroop (s : State) (idx sub : Nat) : Option Nat :=
  if 0x2410 ≤ idx && idx ≤ 0x242F then
    let v := s.droop (idx - 0x2410)
    let now := v.account s.tb.now
    match sub with
    | 2 => some v.level
    | 3 => some v.stretch
    | 8 => some (satU 64 (s.obj idx 8 + now.frozenH))
    | 9 => some (satU 64 (s.obj idx 9 + now.stretchedH))
    | 0x0B => some v.sLowest
    | 0x0C => some v.sTap
    | 0x15 => some (v.sMild % 2 ^ 16 + v.sDeep % 2 ^ 16 * 2 ^ 16 + v.sSevere % 2 ^ 16 * 2 ^ 32)
    | 0x16 => some (satU 32 v.sFrozen + satU 32 v.sStretched * 2 ^ 32)
    | 0x17 => some v.sSeq
    | _ => if 0x0D ≤ sub && sub ≤ 0x14 then some (v.sHist.getD (sub - 0x0D) 0) else none
  else if 0x2440 ≤ idx && idx ≤ 0x247F then
    let g := idx - 0x2440
    match sub with
    | 3 => some (s.groupTaps g).length
    | 4 => some ((s.groupTaps g).filter (fun t => (s.tap t).st == .valid || (s.tap t).st == .suspect)).length
    | 5 => some (s.group g).band
    | _ => none
  else if 0x2500 ≤ idx && idx ≤ 0x26FF then
    match sub with
    | 2 => some (s.tapCode (idx - 0x2500))
    | 3 => some (s.tap (idx - 0x2500)).code
    | 4 => some (s.tap (idx - 0x2500)).mean
    | _ => none
  else none

/-- Objects of the Credit Unit (06). -/
def State.viewCredits (s : State) (idx sub : Nat) : Option Nat :=
  if idx = 0x2801 && sub = 7 then some s.dither
  else if 0x2810 ≤ idx && idx ≤ 0x2817 then
    let v := s.shaper (idx - 0x2810)
    match sub with
    | 5 => some v.mw
    | 6 => some v.refill
    | 7 => some (s.mwOfRate v.envShown)
    | 8 => some (s.mwOfRate v.filler)
    | 9 => some v.sigma
    | 0x0A => some v.bound
    | _ => none
  else if 0x2A00 ≤ idx && idx ≤ 0x2AFF then
    let a := idx - 0x2A00
    let v := s.array a
    match sub with
    | 2 => some (s.arrayRail a)
    | 3 => some (ofSigned 32 (intPart v.bal))
    | 4 => some v.fil
    | 5 => some (match v.resv with
      | some r => r.ring
      | none => 0xFF)
    | 6 => some (natOfBool v.quarantined)
    | _ => if 0x30 ≤ sub && sub ≤ 0x4F then some (ofSigned 32 (s.ringNow a (sub - 0x30))) else none
  else none

/-- Objects of the Tally (07). -/
def State.viewTally (s : State) (idx sub : Nat) : Option Nat :=
  let bank : Bank := (s.tally.active.map s.bank).getD {}
  let s := s.fitNow
  if idx = 0x2C03 then
    match sub with
    | 2 => some (s.sigEntry (s.obj 0x2C03 1))
    | 3 => some (s.familyDefault (s.obj 0x2C03 1))
    | _ => none
  else if idx = 0x2C08 then
    match sub with
    | 2 => some (s.tally.active.getD 0xFF)
    | 6 => some s.tally.loadStatus
    | 7 => some (if s.tally.active.isSome then bank.cycles else 0)
    | 8 => some (if s.tally.active.isSome then bank.budget else 0)
    | 9 => some s.tally.sticky
    | 0x10 => some (if s.tally.active.isSome then bank.field 28 32 else 0)
    | _ => none
  else if 0x2C10 ≤ idx && idx ≤ 0x2C17 then
    let l := tget s.tally.learn (idx - 0x2C10) {}
    let metering : Bool := s.railRole (idx - 0x2C10) == 1
    match sub with
    | 2 => some l.lst
    | 3 | 4 => if metering then none else some 0
    | 5 => some (if metering then ofSigned 32 l.meanErr else 0)
    | 6 => some (if metering then l.meanAbs else 0)
    | 7 => some (if metering then l.meanAbsC else 0)
    | 8 => some (if metering then l.nActive else 0)
    | 9 => some (if metering then 0 else l.bc)
    | 0x0A => some l.reasons
    | _ => none
  else if 0x2C20 ≤ idx && idx ≤ 0x2C27 && 1 ≤ sub then some (s.horizon (idx - 0x2C20) (sub - 1))
  else if 0x2C30 ≤ idx && idx ≤ 0x2C4F && 1 ≤ sub then some ((s.domBins (idx - 0x2C30)).getD (sub - 1) 0)
  else none

/-- Coolant state code (09, 0x3008:09). -/
def State.coolCode (s : State) : Nat :=
  if s.gov.st == .boot || s.gov.st == .off then 1
  else if s.coolSource = 0 then 4
  else if !s.coolValid then 1
  else if s.inletHot then 2
  else if s.thermal.coolCap then 3
  else 0

/-- Instance number of a sensor's object (09). -/
def objSensor (idx : Nat) : Nat :=
  if idx < 0x3200 then idx - 0x3100 else if idx < 0x3210 then 256 + (idx - 0x3200) else 272 + (idx - 0x3210)

/-- Objects of the Thermal Unit (09). -/
def State.viewThermal (s : State) (idx sub : Nat) : Option Nat :=
  if idx = 0x3000 then
    match sub with
    | 0x0E => some s.thermal.f
    | 0x12 => some s.recentRestarts.length
    | 0x13 => some (match s.gov.critSince with
      | some t => nsOf (s.tb.now - t)
      | none => 0)
    | 0x14 => some s.gov.tripCause
    | 0x15 => some (ofSigned 16 s.thermal.hotValue)
    | 0x16 => some s.thermal.hotSensor
    | _ => none
  else if idx = 0x3008 then
    match sub with
    | 9 => some s.coolCode
    | 0x0A => some (natOfBool s.thermal.coolCap)
    | _ => none
  else if 0x3010 ≤ idx && idx ≤ 0x304F then
    let g := s.region (idx - 0x3010)
    match sub with
    | 2 => some (ofSigned 16 g.temp)
    | 3 => some (natOfBool g.valid)
    | 4 => some g.band
    | 5 => some g.hottest
    | _ => none
  else if 0x3100 ≤ idx && idx ≤ 0x321F then
    let n := objSensor idx
    let v := s.sensor n
    match sub with
    | 2 => some (s.sensorSt n).code
    | 3 => some (ofSigned 16 v.reading)
    | 4 => some (ofSigned 16 ((s.sensorValue n).getD 0))
    | 5 => some (ofSigned 16 v.pred)
    | 0x0C => some (natOfBool v.tripped)
    | _ => none
  else none

/-- Objects of the state machine and the domains (10). -/
def State.viewGov (s : State) (idx sub : Nat) : Option Nat :=
  if idx = 0x3400 then
    match sub with
    | 1 => some s.gov.st.code
    | 2 => some (natOfBool s.gov.seqDown)
    | 0x0A => some s.gov.cmdStatus
    | 0x0D => some (nsOf (s.tb.now - s.gov.entered))
    | 0x0E => some s.gov.prev.code
    | 0x0F => some (natOfBool s.gov.hostRel)
    | _ => none
  else if 0x3410 ≤ idx && idx ≤ 0x342F then
    match sub with
    | 2 => some (s.domain (idx - 0x3410)).st.code
    | 0x0F => some (s.domain (idx - 0x3410)).lastWake
    | _ => none
  else none

/-- Normalized integral gain of a limit law in units of 2^-32 (08 R208). -/
def lawGain (c : Nat) : Nat := clampI (toSigned 32 (c % 2 ^ 32) * 2 ^ 32 / (2 ^ (c / 2 ^ 32 % 32) : Nat)) 0 (2 ^ 32 - 1) |>.toNat

/-- Objects of the Loop Engine (08). -/
def State.viewLoop (s : State) (idx sub : Nat) : Option Nat :=
  if idx = 0x4000 && sub = 1 then some (maskOf (s.railsUsed.filter (fun r => (s.shaper r).limiting)))
  else if idx = 0x4001 && sub = 0x0D then some s.injector.status
  else if idx = 0x4002 then
    match sub with
    | 0x0B => some s.capture.status
    | 0x0C => some s.capture.trigIdx
    | 0x0D => some s.capture.trigC
    | _ => none
  else if 0x4100 ≤ idx && idx ≤ 0x419F then
    let i := idx - 0x4100
    let v := s.law i
    match sub with
    | 1 => some (if s.lawUsed i then lawType i else 0xFF)
    | 0x0D => some v.status
    | 0x0E => some (natOfBool (v.active.isEmpty || v.active == s.staged i))
    | 0x0F => some (ofSigned 32 (satS 32 v.shown))
    | 0x10 => some (ofSigned 32 (satS 32 (if lawType i < 4 then s.mwI v.out else v.out)))
    | 0x17 => some (if lawType i < 3 then lawGain (v.active.getD 0 (s.obj idx 3)) else 0)
    | _ => none
  else none

/-! ### Registrar, recorder, Assayer -/

/-- A word with a bit for every pin that satisfies a condition. -/
def State.pinWord (s : State) (p : Pin → Nat → Bool) : Nat := maskOf ((List.range 64).filter (fun n => p (s.pin n) n))

/-- Highest effective level of a latched pin, or 0 (REG_SUMMARY.HIGHEST). -/
def State.highestLevel (s : State) : Nat :=
  (List.range 64).foldl (fun m n => if (s.pin n).latched then max m (s.pin n).eff else m) 0

/-- Status, cause and escalation words (12, Registrar registers). -/
def State.statusWord (s : State) : Nat := s.pinWord (fun p _ => p.latched)
def State.causeWord (s : State) : Nat := s.pinWord (fun p n => pinIsHeld n && !p.held.isEmpty)
def State.escWord (s : State) : Nat := s.pinWord (fun p n => p.latched && s.obj (0x5010 + n) 2 < p.eff)

/-- The 32 bytes of a record as one number, or what poison leaves of them (12 R310, R312). -/
def recordValue (poison : Bool) (r : Option Record) : Nat := natLE (if poison then poisonedBytes else recordBytes r)

/-- The record 0x5401:02 shows. -/
def State.daybookView (s : State) : Nat :=
  let seq := s.obj 0x5401 1
  recordValue (s.poisoned .daybook (seq % 8192) && (s.daybookRecord seq).isSome) (s.daybookRecord seq)

/-- The record 0x5402:02 shows. -/
def State.vitrineView (s : State) : Nat :=
  let i := s.obj 0x5402 1
  recordValue (s.poisoned .vitrine i && i < s.recorder.vitrine.length) s.recorder.vitrine[i]?

/-- Objects of the Registrar and the recorder (12). -/
def State.viewFaults (s : State) (idx sub : Nat) : Option Nat :=
  if idx = 0x5000 then
    match sub with
    | 1 => some s.statusWord
    | 2 => some s.causeWord
    | 3 => some s.escWord
    | 4 => some s.highestLevel
    | _ => none
  else if 0x5010 ≤ idx && idx ≤ 0x504F then
    let p := s.pin (idx - 0x5010)
    match sub with
    | 0x0C => some p.scope
    | 0x0D => some (if p.latched then p.eff else s.obj idx 2)
    | _ => none
  else if idx = 0x5400 then
    match sub with
    | 1 => some s.recorder.head
    | 2 => some s.recorder.first
    | 3 => some s.recorder.vitrine.length
    | _ => none
  else if idx = 0x5401 && sub = 2 then some s.daybookView
  else if idx = 0x5402 && sub = 2 then some s.vitrineView
  else if 0x5410 ≤ idx && idx ≤ 0x5413 && sub = 1 then
    some (natOfBool ((s.dump (idx - 0x5410)).valid && !(s.dump (idx - 0x5410)).clearing))
  else none

/-- Objects of the Assayer (11). -/
def State.viewAssayer (s : State) (idx sub : Nat) : Option Nat :=
  let w := s.assayer.sweep
  if idx = 0x6000 && sub = 0x0E then some (natOfBool s.degraded)
  else if idx = 0x6002 then
    match sub with
    | 7 => some w.status
    | 8 => some w.trim
    | 9 => some w.steps
    | 0x0A => some (if w.status = 0 then 0 else nsOf ((if w.status = 1 then s.tb.now else w.stop) - w.start))
    | _ => none
  else if idx = 0x6003 && sub = 4 then some s.assayer.run.status
  else if 0x6010 ≤ idx && idx ≤ 0x610F then
    match sub with
    | 5 => some (s.lostVotes (idx - 0x6010))
    | 8 => some (tget s.assayer.qcause (idx - 0x6010) 0)
    | _ => none
  else if 0x6200 ≤ idx && idx ≤ 0x621F then
    let d := idx - 0x6200
    if 1 ≤ sub && sub ≤ 8 then some (tget s.assayer.vmin (d * 8 + (sub - 1)) 0)
    else if sub = 9 then some (tget s.assayer.results d 0)
    else none
  else none

/-! ### Segment, host, cores, mailboxes, communication -/

/-- Role of the Governor in its segment: 0 none, 1 coordinator, 2 worker (16 R384). -/
def State.role (s : State) : Nat := s.obj 0x7000 1

def State.member (s : State) (m : Nat) : Member := tget s.segment.members m {}

/-- Demand of the Governor in mW: the larger of its measured package power and the highest forecast bin, capped at the TDP
(16 R386). -/
def State.ownDemand (s : State) : Nat :=
  let bin (j : Nat) : Nat := s.mwOfRate (((s.railsUsed.map (fun r => s.horizon r j)).foldl (· + ·) 0) * 256)
  min (((List.range 64).map (fun j => bin (j + 1))).foldl max s.segment.hPower) (s.obj 0x2801 1)

/-- Condition of a member; the coordinator itself is always present (16 R385). -/
def State.memberCond (s : State) (m : Nat) : Presence := if m = 0 && s.role = 1 then .present else (s.member m).cond

/-- Objects of segment coordination (16). -/
def State.viewSegment (s : State) (idx sub : Nat) : Option Nat :=
  if idx = 0x7000 then
    match sub with
    | 5 => some s.segment.role
    | 7 => some (s.segment.ceiling.getD 0)
    | 8 => some (slewPct (s.obj 0x2801 2) s.segment.up)
    | 9 => some (slewPct (s.obj 0x2801 3) s.segment.down)
    | 0x0D => some (ofSigned 32 (satS 32 s.segment.timeOffset))
    | _ => none
  else if idx = 0x7001 && sub = 7 then
    some (if s.role = 1 then maskOf ((List.range 16).filter (fun m => s.memberCond m == .present)) else 1)
  else if 0x7010 ≤ idx && idx ≤ 0x701F then
    let m := idx - 0x7010
    let own : Bool := m = 0 && s.role = 1
    match sub with
    | 3 => some (s.memberCond m).code
    | 4 => some (if own then s.gov.st.code else (s.member m).state)
    | 5 => some (s.member m).last
    | 6 => some (if own then s.segment.hPower else (s.member m).power)
    | 7 => some (if own then s.ownDemand else (s.member m).demand)
    | _ => none
  else none

def State.core (s : State) (c : Nat) : Core := tget s.cores c {}
def State.setCore (s : State) (c : Nat) (v : Core) : State := { s with cores := tset s.cores c v }
def State.modCore (s : State) (c : Nat) (f : Core → Core) : State := s.setCore c (f (s.core c))

def Core.bank (v : Core) (b : Nat) : FwBank := tget v.banks b {}

/-- Fuse readback, 64 bytes: serial number, key version, minimum security version, revoked slots and lock, the key words
reading 0 (15, 0xF000:01). The manual lays out no order of the fields; the order is the model's. -/
def Fuses.readback (f : Fuses) : Nat :=
  f.serial % 2 ^ 64 + f.keyVersion % 2 ^ 16 * 2 ^ 320 + f.minSecurity % 2 ^ 32 * 2 ^ 336 + f.revoked % 2 ^ 8 * 2 ^ 368
    + natOfBool f.lock * 2 ^ 376

/-- The lock table as 64 bytes: 16 pairs of index and session (15, 0x1410:03). -/
def Access.lockBytes (a : Access) : Nat := natLE (a.locks.flatMap (fun p => bytesLE 2 p.1 ++ bytesLE 2 p.2))

/-- Objects of the host interface, the cores, the interrupt and mailbox facilities, identity, locks and authentication, as
session `sess` reads them (13, 14, 15). -/
def State.viewHost (s : State) (sess idx sub : Nat) : Option Nat :=
  if idx = 0x1000 && sub = 4 then some s.test.fused.serial
  else if idx = 0x1400 && sub = 0x0C then some s.muriri.sessions.length
  else if idx = 0x1410 then
    match sub with
    | 3 => some s.access.lockBytes
    | 4 => some sess
    | _ => none
  else if idx = 0x1420 then
    match sub with
    | 3 => some (natOfBool (thas s.access.authed sess))
    | 5 => some s.test.fused.keyVersion
    | 7 => some (match s.access.block with
      | some t => nsOf (t - s.tb.now)
      | none => 0)
    | _ => none
  else if idx = 0x7400 then
    match sub with
    | 3 => some s.host.hostState
    | 4 => some s.host.sessions.length
    | _ => none
  else if 0x7410 ≤ idx && idx ≤ 0x7413 then
    let v := s.core (idx - 0x7410)
    match sub with
    | 1 => some v.st.code
    | 2 => some v.active
    | 3 => some (v.bank v.active).release
    | 7 => some v.lastRestart
    | 0x0B => some (v.bank (1 - v.active)).release
    | _ => none
  else if idx = 0x7420 then
    match sub with
    | 5 => some s.update.status
    | 9 => some s.test.fused.minSecurity
    | _ => none
  else if idx = 0x7490 && 1 ≤ sub && sub ≤ 5 then some (s.epoch (sub - 1))
  else if idx = 0xF000 then
    match sub with
    | 1 => some s.test.fused.readback
    | 2 => some (s.test.fused.revoked % 256)
    | 3 => some s.test.atb.toNat
    | _ => none
  else none

/-- Value of an object as session `sess` reads it. -/
def State.value (s : State) (sess idx sub : Nat) : Nat :=
  if sub = 0 then s.obj idx sub
  else
    let v : Option Nat :=
      if idx < 0x2000 then (s.viewHost sess idx sub).or (s.viewRails idx sub)
      else if idx < 0x2400 then s.viewRails idx sub
      else if idx < 0x2800 then s.viewDroop idx sub
      else if idx < 0x2C00 then s.viewCredits idx sub
      else if idx < 0x3000 then s.viewTally idx sub
      else if idx < 0x3400 then s.viewThermal idx sub
      else if idx < 0x4000 then s.viewGov idx sub
      else if idx < 0x5000 then s.viewLoop idx sub
      else if idx < 0x6000 then s.viewFaults idx sub
      else if idx < 0x7000 then s.viewAssayer idx sub
      else if idx < 0x7400 then s.viewSegment idx sub
      else s.viewHost sess idx sub
    v.getD (s.obj idx sub)

end Sys2Proof.Machine
end

