-- ==== Sys2Proof/Machine/Cores.lean ====
section
/-! DEFINITION. The firmware cores (14): images and their checks, crash, restart and hold, component faults, live update.
The commands that come as object writes are in Writes.lean. -/

namespace Sys2Proof.Machine

/-! ### Images -/

/-- The release field of an image header (14 Boot). -/
def imageRelease (f : FwImage) : Nat := f.major * 65536 + f.minor * 256 + f.patch

/-- Why an image is refused (R344), in the order of its list: abort code 0x0006_0001 for the release or the security
version, 0x0003_0001 for every other check (R349), or 0. -/
def State.imageRefusal (s : State) (core : Nat) (f : FwImage) : Nat :=
  if !(f.crcOk && f.magicOk && f.core == core) then 0x00030001
  else if f.major != 4 || f.minor != 2 then 0x00060001
  else if 2 ≤ f.keySlot || bit s.test.fused.revoked f.keySlot then 0x00030001
  else if f.security < s.test.fused.minSecurity then 0x00060001
  else if !(f.digestOk && f.signedOk) then 0x00030001
  else 0

/-- The header of a loaded bank read as an image (14 Boot): the digest covers bytes 256 to the image length and the
signature bytes 0 to 79. An image length beyond the bytes loaded fails the digest. -/
def FwBank.image (b : FwBank) : FwImage :=
  let at_ (a n : Nat) : Nat := natLE (mreadBytes b.bytes a n)
  let len := at_ 16 4
  { core := at_ 6 1
    crcOk := true
    magicOk := at_ 0 4 == 0x5746584F && at_ 4 2 == 1
    keySlot := at_ 7 1
    major := at_ 10 1
    minor := at_ 9 1
    patch := at_ 8 1
    security := at_ 12 4
    digestOk := 256 ≤ len && len ≤ 98304 && len ≤ b.loaded
      && Free.digestOk (mreadBytes b.bytes 256 (len - 256)) (mreadBytes b.bytes 32 48)
    signedOk := Free.signatureOk (at_ 7 1) (mreadBytes b.bytes 0 80) (mreadBytes b.bytes 80 96) }

/-! ### Restart and crash (R345, R346) -/

/-- What COM's restart takes from the paths it serves: reply caches, transfers, replies not yet posted (15 R366, R382, 14
R346). -/
def State.comDown (s : State) : State :=
  { s with
    muriri := { s.muriri with
      sessions := s.muriri.sessions.map (fun p => (p.1, { p.2 with cache := none, transfer := none })) }
    replies := s.replies.filter (fun r => s.sender r.channel != 3) }

/-- A core is halted and restarts from its active bank: its epoch advances, its interrupts are completed, its target is
asleep (R345, steps 3 to 5). Its kernel's data is cleared, and with it the component faults it has counted. -/
def State.beginRestart (s : State) (c : Nat) : State :=
  let s := s.modCore c (fun v => { v with st := .restarting, trapAt := s.tb.now, compFaults := [] })
  let s := ((s.epochChange c).completeTarget c).waitFor c
  if c = 3 then s.comDown else s

/-- The banks of a core exchange roles. -/
def Core.swap (v : Core) : Core := { v with active := 1 - v.active }

/-- An update is rolled back (R350): the banks exchange roles again. The restart is the caller's. -/
def State.rollBack (s : State) : State :=
  let s := s.modCore s.update.target Core.swap
  let s : State := { s with update := { s.update with status := 0x00070001, restarting := false } }
  (s.bump 0x7420 8).trigger 55 0 0 0 0

/-- Whether the core is the target of an update in probation or in its restart after activation. -/
def State.onProbation (s : State) (c : Nat) : Bool :=
  s.update.target == c && (s.update.status == 4 || s.update.restarting)

/-- Whether this is the cycle of an H-frame tick. -/
def State.atHTick (s : State) : Bool := s.tb.gclk && s.tb.cframe % 1000 == 0 && s.tb.now == s.tb.cStart

/-- The activation of an update that the crash of its core forestalls in the same cycle (R356). -/
def State.forestall (s : State) (c : Nat) : State :=
  if s.update.target == c && s.update.status == 3 && !s.update.restarting && s.atHTick then
    { s with update := { s.update with status := 2 } }
  else s

/-- Dump and record of a crash (R345 step 2, 12 R314, R315). -/
def State.crashDump (s : State) (c cause : Nat) (dump : CoreDump) : State :=
  let v := s.core c
  let restarts := s.obj (0x7410 + c) 4
  let seq := s.recorder.nextSeq
  let d : Dump := {
    valid := true
    cause := cause
    restarts := restarts
    version := (v.bank v.active).release
    time := s.timeField
    seq := seq
    bytes := mwriteBytes [] 32 (dump.bytes.take 16352) }
  let s := s.captureDump c d
  s.record 0x0240 (c * 2 ^ 56 + cause % 256 * 2 ^ 48 + dump.mepc.toNat * 2 ^ 16) restarts true

/-- Whether a core can crash: it has been released from reset and is not held. -/
def CoreSt.runs : CoreSt → Bool
  | .booting | .running | .restarting => true
  | .stopped | .held => false

/-- The core stays halted, its target asleep; pin 54 latches again (R346). -/
def State.holdCore (s : State) (c : Nat) : State := (s.modCore c (fun v => { v with st := .held })).trigger 54 0 0 0 0

/-- A core crash (R345, R346, R350): dump, record and pin 54; the update in probation is rolled back; the core restarts,
or is held when it has crashed too often within 60 s. -/
def State.crash (s : State) (c cause : Nat) (dump : CoreDump) : State :=
  let s := (s.forestall c).bump (0x7410 + c) 4
  let s := (s.crashDump c cause dump).trigger 54 0 0 0 0
  let recent := ((s.core c).crashes.filter (fun t => s.tb.now < t + cycles 60000000000)) ++ [s.tb.now]
  let s := s.modCore c (fun v => { v with crashes := recent })
  let s := if s.onProbation c then s.rollBack else s
  let s := s.beginRestart c
  if s.obj (0x7410 + c) 9 ≤ recent.length then s.holdCore c else s

/-- CORE_CRASH (R343, R345): a trap in machine mode, a poisoned read or an abort asked for by firmware. A poisoned read is
an event on pin 62. -/
def execCoreCrash (core cause : Nat) (dump : CoreDump) (s : State) : Host.Outcome State Fault Refusal :=
  if core < 4 && (s.core core).st.runs then
    .next ((if cause = 3 then s.dEvent 62 else s).crash core cause dump)
  else .next s

/-- WATCHDOG_EXPIRY (R346). -/
def execWatchdogExpiry (core : Nat) (dump : CoreDump) (s : State) : Host.Outcome State Fault Refusal :=
  if core < 4 && (s.core core).st == .running then .next (s.crash core 2 dump) else .next s

/-- CORE_START_TIMEOUT (14 Boot): no running flag 2 ms after release is handled as a crash. The manual names no dump cause
for it. -/
def execCoreStartTimeout (core : Nat) (dump : CoreDump) (s : State) : Host.Outcome State Fault Refusal :=
  if core < 4 && s.gov.st == .boot && ((s.core core).st == .stopped || (s.core core).st == .booting) then
    .next (({ s with free := s.free + 1 } : State).crash core (Free.value s.free % 2 ^ 16) dump)
  else .next s

/-- COMPONENT_FAULT (R343): the component starts again; the third fault of one component within 1 s is a crash. An access
fault is counted, a load of poisoned data is an event of pin 62, in that case too. -/
def execComponentFault (core component : Nat) (trap : UserTrap) (dump : CoreDump) (s : State) :
    Host.Outcome State Fault Refusal :=
  if core < 4 && component < 8 && (s.core core).st == .running then
    let v := s.core core
    let recent := v.compFaults.filter (fun p => s.tb.now < p.2 + cycles 1000000000)
    let s :=
      match trap with
      | .accessFault => s.bump (0x7410 + core) 0x0C
      | .illegal => s
      | .poison => s.dEvent 62
    if 2 ≤ (recent.filter (fun p => p.1 == component)).length then .next (s.crash core 4 dump)
    else
      .next ((s.setCore core { v with compFaults := recent ++ [(component, s.tb.now)] }).bump (0x7410 + core) 5)
  else .next s

/-- BANK_RELOAD_COMPLETE (R345): the boot ROM has read the bank again; a refused image holds the core. -/
def execBankReloadComplete (core : Nat) (img : FwImage) (s : State) : Host.Outcome State Fault Refusal :=
  if core < 4 && (s.core core).st == .restarting then
    if s.imageRefusal core img != 0 then .next ((s.trigger 55 0 0 0 0).holdCore core)
    else
      let s := s.modCore core (fun v => { v with banks := tset v.banks v.active { release := imageRelease img } })
      .next (if s.update.restarting && s.update.target == core then
          { s with update := { s.update with restartEnd := s.update.restartEnd + cycles 60000000 } }
        else s)
  else .next s

/-- COM serves again: idle timers go on from where they stood, loss timers from 0 (15 R371, R352). -/
def State.comUp (s : State) (away : Nat) : State :=
  { s with
    muriri := { s.muriri with sessions := s.muriri.sessions.map (fun p => (p.1, { p.2 with heardAt := p.2.heardAt + away })) }
    host := { s.host with sessions := s.host.sessions.map (fun p => (p.1, { p.2 with beatAt := s.tb.now })) } }

/-- A write of 1 to 0x7410+c:0A: a held core restarts (R346); its epoch has advanced at its crash (DEDUCED, log 107). -/
def State.releaseHeld (s : State) (c : Nat) : State :=
  if (s.core c).st == .held then s.modCore c (fun v => { v with st := .restarting, trapAt := s.tb.now }) else s

/-! ### Live update (R348 to R350) -/

/-- The inactive bank of the update's target core. -/
def State.updateBank (s : State) : FwBank := (s.core s.update.target).bank (1 - (s.core s.update.target).active)

def State.setUpdateBank (s : State) (b : FwBank) : State :=
  s.modCore s.update.target (fun v => { v with banks := tset v.banks (1 - v.active) b })

/-- A target is chosen: its inactive bank is cleared, status 1. -/
def State.updateBegin (s : State) (c : Nat) : State :=
  (({ s with update := { s.update with target := c, status := 1 } } : State).setUpdateBank {}).setObj 0x7420 1 c

/-- Bytes loaded at the offset in force. -/
def State.updateLoad (s : State) (bs : List Byte) : State :=
  let at_ := s.obj 0x7420 2
  let b := s.updateBank
  let s := s.setUpdateBank { bytes := mwriteBytes b.bytes at_ bs, loaded := max b.loaded (at_ + bs.length) }
  { s with update := { s.update with status := 1 } }

/-- The loaded image verified: status 2, or the refusal code, which also triggers pin 55 (R349). -/
def State.updateCheck (s : State) : State × Nat :=
  let b := s.updateBank
  let code := s.imageRefusal s.update.target b.image
  if code = 0 then
    ({ s.setUpdateBank { b with release := imageRelease b.image } with
        update := { s.update with status := 2 } }, 0)
  else (({ s with update := { s.update with status := code } } : State).trigger 55 0 0 0 0, code)

/-- An activation at the next H-frame tick. -/
def State.updateArm (s : State) : State := { s with update := { s.update with status := 3 } }

/-- An update given up: the inactive bank is cleared (R357). -/
def State.updateDrop (s : State) : State :=
  ({ s with update := { s.update with status := 0 } } : State).setUpdateBank {}

/-- UPDATE_ACTIVATION (R349): at the H-frame tick the core is halted with no dump and restarts from the other bank. -/
def execUpdateActivation (s : State) : Host.Outcome State Fault Refusal :=
  if s.tb.gclk && s.update.status = 3 && !s.update.restarting && s.tb.cframe % 1000 == 0 then
    let c := s.update.target
    let s := (s.modCore c Core.swap).bump (0x7410 + c) 4
    let s : State := { s with update := { s.update with restarting := true, restartEnd := s.tb.now + cycles 2000000 } }
    .next (s.beginRestart c)
  else .next s

/-- UPDATE_RESTART_TIMEOUT (R350): the restart after activation has not completed in time; the core restarts once more. -/
def execUpdateRestartTimeout (s : State) : Host.Outcome State Fault Refusal :=
  if s.update.restarting then
    let c := s.update.target
    .next ((((s.atTime s.update.restartEnd).rollBack).bump (0x7410 + c) 4).beginRestart c)
  else .next s

/-- PROBATION_END (R349). -/
def execProbationEnd (s : State) : Host.Outcome State Fault Refusal :=
  if s.update.status = 4 then
    let s := s.atTime s.update.probEnd
    .next (({ s with update := { s.update with status := 5 } } : State).bump 0x7420 7)
  else .next s

end Sys2Proof.Machine
end

