-- ==== Sys2Proof/Machine/Sessions.lean ====
section
/-! DEFINITION. Sessions, locks and authentication as the object engine keeps them (15 R365, R366, R377 to R379), and the
mailbox sessions of COM (14 R351 to R353). -/

namespace Sys2Proof.Machine

/-- Session of the G3 emulation and of the object window (15 R365). -/
def emulSession : Nat := 0xFFFE
def windowSession : Nat := 0xFFFF

/-- Whether a session is one of the two that are always open. -/
def fixedSession (sess : Nat) : Bool := sess == emulSession || sess == windowSession

/-- The mailbox session of an id, with its host-to-COM channel. -/
def State.mailSession (s : State) (sess : Nat) : Option (Nat × HostSession) :=
  s.host.sessions.find? (fun p => p.2.id == sess)

/-- Whether a session is open (15 R365). -/
def State.sessionOpen (s : State) (sess : Nat) : Bool :=
  fixedSession sess || (s.mailSession sess).isSome || thas s.muriri.sessions sess

/-- Whether a session is authenticated (15 R377). -/
def State.authenticated (s : State) (sess : Nat) : Bool := thas s.access.authed sess

/-- Whether a core runs. -/
def State.coreRuns (s : State) (c : Nat) : Bool := (s.core c).st == .running

/-- Whether COM runs: it presents every access but the object window's (15 R363). -/
def State.comRuns (s : State) : Bool := s.tb.gclk && s.coreRuns 3

/-- The next free session id from a pool position on: ascending, wrapping after 0xFFFD, skipping open ids (15 R365). -/
def State.freeId (s : State) (fuel n : Nat) : Nat :=
  match fuel with
  | 0 => n
  | f + 1 =>
    let n := if 0xFFFD < n || n = 0 then 1 else n
    if s.sessionOpen n then s.freeId f (n + 1) else n

/-- A session id assigned: the id, and the state whose pool stands behind it. At most twelve sessions are open. -/
def State.assignId (s : State) : Nat × State :=
  let n := s.freeId 16 s.access.nextId
  (n, { s with access := { s.access with nextId := if n = 0xFFFD then 1 else n + 1 } })

/-- What the object engine keeps for a session ends with it: locks, authentication, challenge (15 R366, R371, R379). -/
def State.forget (s : State) (sess : Nat) : State :=
  { s with access := { s.access with
    locks := s.access.locks.filter (fun p => p.2 != sess)
    authed := tdel s.access.authed sess
    challenges := tdel s.access.challenges sess } }

/-- A Muriri session closes (15 R371). -/
def State.closeMuriri (s : State) (sess : Nat) : State :=
  ({ s with muriri := { s.muriri with sessions := tdel s.muriri.sessions sess } } : State).forget sess

/-- The mailbox session of a channel closes (14 R351). -/
def State.closeMail (s : State) (ch : Nat) : State :=
  match s.host.sessions.find? (fun p => p.1 == ch) with
  | some p => ({ s with host := { s.host with sessions := tdel s.host.sessions ch } } : State).forget p.2.id
  | none => s

/-- Every mailbox session closes (14 R353). -/
def State.closeAllMail (s : State) : State := each (s.host.sessions.map (·.1)) State.closeMail s

/-! ### Locks -/

/-- Session that holds the lock of an index, if any. -/
def State.locker (s : State) (idx : Nat) : Option Nat := assoc s.access.locks idx

/-- Whether another session holds the lock of an index. -/
def State.lockedBy (s : State) (idx sess : Nat) : Bool :=
  match s.locker idx with
  | some o => o != sess
  | none => false

/-- A lock of an index taken by a session. -/
def State.takeLock (s : State) (idx sess : Nat) : State :=
  if (s.locker idx).isSome then s
  else { s with access := { s.access with locks := s.access.locks ++ [(idx, sess)] } }

/-- The lock of an index ends. -/
def State.dropLock (s : State) (idx : Nat) : State :=
  { s with access := { s.access with locks := s.access.locks.filter (fun p => p.1 != idx) } }

/-! ### Authentication -/

/-- A challenge read by a session: 16 new bytes from the entropy source (15 R377). -/
def State.newChallenge (s : State) (sess : Nat) : State × List Byte :=
  let ch := Free.challenge s.free
  ({ s with
      free := s.free + 1
      access := { s.access with challenges := tset s.access.challenges sess { bytes := ch, at_ := s.tb.now } } },
    bytesLE 16 ch.toNat)

/-- Whether responses are blocked (15 R377). -/
def State.blocked (s : State) : Bool :=
  match s.access.block with
  | some t => s.tb.now < t
  | none => false

/-- A failed response: counted, an event of pin 59; the third within 60 s blocks every response for 60 s. -/
def State.authFailed (s : State) : State :=
  let recent := s.access.fails.filter (fun t => s.tb.now < t + cycles 60000000000) ++ [s.tb.now]
  let full : Bool := 3 ≤ recent.length
  let s : State := { s with access := { s.access with
    fails := if full then [] else recent
    block := if full then some (s.tb.now + cycles 60000000000) else s.access.block } }
  (s.bump 0x1420 6).dEvent 59

/-- The challenge a response answers: read by the session within the last second. -/
def State.liveChallenge (s : State) (sess : Nat) : Option Challenge :=
  match s.access.challenges.find? (fun p => p.1 == sess) with
  | some p => if s.tb.now ≤ p.2.at_ + cycles 1000000000 then some p.2 else none
  | none => none

/-- A response written by a session: authenticated, or refused with its code (15 R377). -/
def State.respond (s : State) (sess : Nat) (r : BitVec 256) : State × Nat :=
  if s.blocked then (s, 0x00040002)
  else
    let used : State := { s with access := { s.access with challenges := tdel s.access.challenges sess } }
    match s.liveChallenge sess with
    | some c =>
      if r = Free.response s.test.fused.key c.bytes sess s.test.fused.serial then
        ({ used with access := { used.access with authed := tset used.access.authed sess c.bytes } }, 0)
      else (used.authFailed, 0x00040002)
    | none => (used.authFailed, 0x00040002)

/-- Authentication of a session ends. -/
def State.endAuth (s : State) (sess : Nat) : State :=
  { s with access := { s.access with authed := tdel s.access.authed sess } }

/-- AUTH_BLOCK_EXPIRY (15 R377): responses are accepted again. -/
def execAuthBlockExpiry (s : State) : Host.Outcome State Fault Refusal :=
  match s.access.block with
  | some t =>
    let s := s.atTime t
    .next { s with access := { s.access with block := none } }
  | none => .next s

end Sys2Proof.Machine
end

