-- ==== Sys2Proof/Machine/Resets.lean ====
section
/-! DEFINITION. Supplies, resets and clocks: what each reset leaves (10 R265, 12 R304, 13 R340, 16 R394, 17 R398 to R401,
R420), and how GCLK stops, locks, loses SYNC_IN and relocks (02 R42 to R48). -/

namespace Sys2Proof.Machine

/-! ### What survives -/

/-- What every reset keeps: the queue, the model's clock, the fuses, the test port outside the Governor's own resets. -/
def State.blank (s : State) : State :=
  { State.reset with
    pending := s.pending
    cfg := s.cfg
    free := s.free
    tb := { now := s.tb.now }
    test := { s.test with atb := 0, atbA := 0, atbB := 0 } }

/-- Mode of the host_if_sel strap, the default of 0x7400:01 (17 R401). -/
def strapMode (sel : BitVec 2) : Nat := min sel.toNat 2

/-- Sensors through a reset: all but what the cells hold themselves (09 R248). -/
def Sensor.kept (v : Sensor) : Sensor := { programmed := v.programmed, thr := v.thr, hys := v.hys, tripped := v.tripped }

/-- Whether an object keeps the value the image gave it until VGOV is removed (00 R6). -/
def constObject (key : Nat) : Bool :=
  match objRow (key / 256) (key % 256) with
  | some r => r.acc == .const
  | none => false

/-- Frozen and stretched cycles of the running H-frame brought into their counters, which the reset keeps (05 R141). -/
def State.droopTotals (s : State) : State :=
  each (s.droops.map (·.1)) (fun s d =>
    let v := (s.droop d).account s.tb.now
    (s.bump64 (0x2410 + d) 8 v.frozenH).bump64 (0x2410 + d) 9 v.stretchedH) s

/-- gov_rst_n and soft reset: everything is restored but recorder, dumps, trip latch, restart history, counters, time,
quarantines and lost votes (10 R265, 11 R278, 12 R313), and the CONST objects (00 R6). The image's other objects come back in the
BOOT that follows. -/
def State.fresh (s : State) : State :=
  let s := s.droopTotals
  { s.blank with
    gov := {
      st := s.gov.st
      prev := s.gov.prev
      entered := s.gov.entered
      tripLatch := s.gov.tripLatch
      tripCause := s.gov.tripCause
      restarts := s.gov.restarts
      govRstLow := s.gov.govRstLow
      strap := s.gov.strap
      scanMode := s.gov.scanMode
      constSet := s.gov.constSet }
    od := tset (s.od.filter (fun p => isCounter (p.1 / 256) (p.1 % 256) || (s.gov.constSet && constObject p.1)))
      (okey 0x7400 1) (strapMode s.gov.strap)
    recorder := s.recorder
    clock := s.clock
    dumps := s.dumps
    cores := (s.cores.filter (fun p => p.2.dumpWaits.isSome)).map (fun p => (p.1, { dumpWaits := p.2.dumpWaits }))
    arrays := (s.arrays.filter (fun p => p.2.quarantined)).map (fun p => (p.1, { quarantined := true }))
    assayer := { lost := s.assayer.lost, qcause := s.assayer.qcause, indet := s.assayer.indet }
    sensors := (s.sensors.filter (fun p => p.2.programmed || p.2.tripped)).map (fun p => (p.1, p.2.kept))
    poison := s.poison.filter (fun p => p.1 == .daybook || p.1 == .vitrine) }

/-! ### GCLK -/

/-- GCLK stops: no time quality above LOCAL, TB_STATE not locked (02 R48, 12 R313). -/
def State.stopGclk (s : State) : State :=
  let now := s.tb.now
  let s : State := { s with clock := { s.clock with base := s.tai, stopped := some now } }
  { s.qualityFalls with tb := { s.tb with
      gclk := false, waking := false, tb := .unlocked, relock := .none, slew := false, slewLeft := 0, lastUse := none } }

/-- What the always-on sub-island has kept reaches the units in the first cycle of GCLK (12 R304, 13 R327). -/
def State.drainHeld (s : State) : State :=
  let sigs := s.icu.heldSignals
  let trigs := s.gov.heldTriggers
  let s : State := { s with icu := { s.icu with heldSignals := [] }, gov := { s.gov with heldTriggers := [] } }
  let s := each sigs State.signal s
  s.raise trigs

/-- GCLK runs from now on, a frame of every kind begins (02 R35). After a standby clock stop the phase counter starts at 0 while
the C-frame count goes on: what the phase counter does over the stop is not said (DESIGN CHOICE, log 130). -/
def State.startGclk (s : State) : State :=
  let tai := s.tai
  let s : State := { s with
    clock := { s.clock with base := tai, stopped := none }
    tb := { s.tb with
      gclk := true, waking := false, cStart := s.tb.now, fStart := s.tb.now, phase := 0, moved := 0, movedC := 0
      plAt := some s.tb.now } }
  s.touch.drainHeld

/-- TB_STATE becomes holdover: counted, the source raised, no time quality above LOCAL (02 R42, R43, R45). -/
def State.holdover (s : State) : State :=
  let s : State := { s with tb := { s.tb with tb := .holdover, relock := .none, slew := false, slewLeft := 0 } }
  (((s.bump 0x1200 3).unlearnAll 5).qualityFalls).raiseCause 1 0 0 0 0

/-- SYNC_IN_LOSS (02 R42, R43). A loss in a relock ends the relock; TB_STATE is holdover already. -/
def execSyncInLoss (s : State) : Host.Outcome State Fault Refusal :=
  if !s.tb.gclk then .next s
  else
    match s.tb.tb with
    | .locked => .next s.holdover
    | .holdover => .next { s with tb := { s.tb with relock := .none, slew := false, slewLeft := 0 } }
    | .unlocked => .next s

/-- RELOCK_QUALIFIED (02 R46): 1,000 C-frames of good edges; the PLL is pulled to the frequency of SYNC_IN. -/
def execRelockQualified (s : State) : Host.Outcome State Fault Refusal :=
  if s.tb.gclk && s.tb.tb == .holdover && s.tb.relock == .none then
    .next { s with tb := { s.tb with relock := .pulling } }
  else .next s

/-- FREQUENCY_PULL_COMPLETE (02 R46): the phase error in edge steps is measured and the slew starts. -/
def execFrequencyPullComplete (err : Int) (s : State) : Host.Outcome State Fault Refusal :=
  if s.tb.gclk && s.tb.relock == .pulling && err.natAbs ≤ 336 then
    .next { s with tb := { s.tb with relock := .slewing, slew := true, slewLeft := err.natAbs, phaseErr := err } }
  else .next s

/-- In the first cycle of GCLK BOOT enters TRIP from a trip latch that is set (09 R243, 10 R261). -/
def State.bootTrip (s : State) : State :=
  if s.gov.st == .boot && s.gov.tripLatch then
    s.enter .trip (if 1 ≤ s.gov.tripCause && s.gov.tripCause ≤ 3 then 35 else 0xFF)
  else s

/-- CLOCK_FAILURE (02 R47): the sub-island enters TRIP through its own path. The tests are suspended while GCLK is stopped
on purpose and until it has locked; a relock that does not lock in 100 us is a failure too. -/
def execClockFailure (s : State) : Host.Outcome State Fault Refusal :=
  if s.tb.gclk || s.tb.waking then .next (s.trigger 0 0 0 0 0) else .next s

/-- GCLK_WAKE (02 R48): a wake event restarts GCLK; the PLL has still to lock. -/
def execGclkWake (s : State) : Host.Outcome State Fault Refusal :=
  if s.gov.st == .standby && !s.tb.gclk && !s.gov.govRstLow then
    .next { s with tb := { s.tb with waking := true } }
  else .next s

/-- Whether a notice is POSTED on any channel. -/
def State.anyPosted (s : State) : Bool :=
  s.channels.any (fun p => (List.range 32).any (fun b => (p.2.slot b).st == .posted))

/-- STANDBY_CLOCK_STOP (02 R48): on entry to STANDBY, or once 100 ms have passed with no request, frame or notice. -/
def execStandbyClockStop (s : State) : Host.Outcome State Fault Refusal :=
  if s.gov.st == .standby && s.tb.gclk && s.flag 0x1200 5 then
    match s.tb.lastUse with
    | none => .next s.stopGclk
    | some t => if s.anyPosted then .next s else .next (s.atTime (t + cycles 100000000)).stopGclk
  else .next s

/-! ### Resets -/

/-- COLD_RESET (10 R265, 17 R420): VGOV rises through 0.70 V; nothing but the fuses survives, and the BOOT that begins reads
them (19 R440). -/
def execColdReset (s : State) : Host.Outcome State Fault Refusal :=
  let b := s.blank
  let b : State := { b with gov := { b.gov with st := .off }, test := { fuses := s.test.fuses, fused := s.test.fuses } }
  .next (b.mark .boot 0xFF)

/-- VGOV_LOSS (10 R261, 17 R420): OFF; nothing but the fuses is kept. -/
def execVgovLoss (s : State) : Host.Outcome State Fault Refusal :=
  let b := s.blank
  .next { b with
    gov := { b.gov with st := .off, prev := s.gov.st, entered := s.tb.now }
    test := { fuses := s.test.fuses } }

/-- STRAP_SAMPLE (17 R401): 100 us after VGOV becomes valid, in BOOT. -/
def execStrapSample (sel : BitVec 2) (s : State) : Host.Outcome State Fault Refusal :=
  if s.gov.st == .boot then
    .next (({ s with gov := { s.gov with strap := sel } } : State).setObj 0x7400 1 (strapMode sel))
  else .next s

/-- GOV_RESET (10 R265, 17 R399): gov_rst_n qualified low; lanes off, domains isolated, everything reset but what R265
names. The state becomes BOOT when the pin rises. -/
def execGovReset (s : State) : Host.Outcome State Fault Refusal :=
  if s.gov.st == .off then .next s
  else
    let f := s.stopGclk.fresh
    .next { f with gov := { f.gov with govRstLow := true, scanMode := false } }

/-- GOV_RESET_RELEASE (10 R261, 17 R399): gov_rst_n is high; BOOT begins. -/
def execGovResetRelease (s : State) : Host.Outcome State Fault Refusal :=
  if s.gov.govRstLow then
    let s : State := { s with gov := { s.gov with govRstLow := false } }
    .next (s.mark .boot 0xFF)
  else .next s

/-- HOST_RESET (10 R261, R265, 13 R340, 14 R353, 15 R367): RUN and LIMIT go to READY, the interrupts of the host are
completed, its epoch changes, its sessions close, the object window is released. Not sampled while GCLK is stopped. -/
def execHostReset (s : State) : Host.Outcome State Fault Refusal :=
  if s.tb.gclk && s.gov.st != .off then
    let s := if s.gov.st == .run || s.gov.st == .limit then s.enter .ready 0xFF else s
    let s := (s.completeTarget 4).completeTarget 5
    let s := (s.setSleep 4 false).setSleep 5 false
    let s := (s.epochChange 4).closeAllMail
    .next { s with
      host := { s.host with hostState := 2 }
      window := { s.window with claimed := false } }
  else .next s

/-- Soft reset (10 R265): as gov_rst_n, with BOOT in the next cycle. -/
def State.softResetNow (s : State) : State :=
  let f := s.stopGclk.fresh
  f.mark .boot 0xFE

end Sys2Proof.Machine
end

