-- ==== Sys2Proof/Machine/Boot.lean ====
section
/-! DEFINITION. BOOT_COMPLETE: the configuration image checked and loaded, the firmware images checked, the units left as
they stand at the end of BOOT (14 Boot, 00 R1, R11, 03 R63, R64, 04 R80, 05 R122, 06 R143, R164, 07 R179, R188, R194, 08
R209, 11 R278, 12 R300, 13 R330, 16 R384, R390). -/

namespace Sys2Proof.Machine

/-- Whether no number of a list stands in it twice. -/
def distinct : List Nat → Bool
  | [] => true
  | x :: rest => !rest.contains x && distinct rest

/-- Whether an object can come from the image: it exists, and the Governor does not form it. -/
def imageObject (key : Nat) : Bool :=
  match objRow (key / 256) (key % 256) with
  | some r => r.acc != .ro && r.acc != .wo && key % 256 != 0
  | none => false

/-- Store entries that an image gives (00 R11): its objects, and those that its descriptor lists say again. -/
def Image.entries (img : Image) : List (Nat × Nat) :=
  img.objects.filter (fun p => imageObject p.1)
    ++ (img.laneRails.filter (fun p => p.1 < 96)).map (fun p => (okey (0x2100 + p.1) 1, p.2))
    ++ (img.tapGroups.filter (fun p => p.1 < 512)).map (fun p => (okey (0x2500 + p.1) 1, p.2))
    ++ (img.senseRail.filter (fun p => p.1 < 512)).map (fun p => (okey (0x2500 + p.1) 1, 0xFE))
    ++ (img.members.filter (fun p => p.1 < 16)).map (fun p => (okey (0x7010 + p.1) 1, p.2))

/-- Value of an image object in the raw form of its size. -/
def rawOf (key v : Nat) : Nat :=
  match objRow (key / 256) (key % 256) with
  | some r => v % 256 ^ r.ty.size
  | none => v

/-- The objects and the descriptor of an image, in the state they are checked in. The CONST objects keep what the first image
since VGOV became valid gave them (00 R6). -/
def State.withImage (s : State) (img : Image) : State :=
  { s with
    od := ((Image.entries img).filter (fun p => !s.gov.constSet || !constObject p.1)).foldl (fun od p => tset od p.1 (rawOf p.1 p.2)) s.od
    desc := {
      rails := img.rails
      senseRail := img.senseRail
      arrayDomain := img.arrayDomain
      stackSupply := img.stackSupply
      external := img.external
      families := img.families
      filters := ((List.range 24).map (· + 136)).filter (fun i =>
        (Image.entries img).any (fun p => p.1 / 256 == 0x4100 + i))
      coreUsesHrp := img.coreUsesHrp } }

/-! ### Descriptor checks, on the state with the image's objects -/

/-- Assignments that the objects of an image give under subindex 1 of the `n` instances from index `base`; 0xFF is none. -/
def Image.assigned (img : Image) (base n : Nat) : List (Nat × Nat) :=
  (img.objects.filter (fun p => base ≤ p.1 / 256 && p.1 / 256 < base + n && p.1 % 256 == 1 && p.2 % 256 != 0xFF)).map
    (fun p => (p.1 / 256 - base, p.2 % 256))

/-- Every lane assignment of an image, by its list or by an object. -/
def Image.lanePairs (img : Image) : List (Nat × Nat) := img.laneRails ++ Image.assigned img 0x2100 96

/-- Every tap assignment of an image: group, or 0xFE for a sense tap. -/
def Image.tapPairs (img : Image) : List (Nat × Nat) :=
  img.tapGroups ++ img.senseRail.map (fun p => (p.1, 0xFE)) ++ Image.assigned img 0x2500 512

/-- Whether some instance is assigned to two places. -/
def conflicting (l : List (Nat × Nat)) : Bool := l.any (fun p => l.any (fun q => p.1 == q.1 && p.2 != q.2))

/-- A list without its repeats. -/
def uniq : List Nat → List Nat
  | [] => []
  | x :: rest => if rest.contains x then uniq rest else x :: uniq rest

/-- R63: no lane on two rails, none on a rail that is not described. -/
def State.lanesWrong (s : State) (img : Image) : Bool :=
  !distinct (img.laneRails.map (·.1)) || conflicting (Image.lanePairs img)
    || (Image.lanePairs img).any (fun p => !s.railUsed p.2)

/-- R80 for one described rail. -/
def State.railWrong (s : State) (r : Nat) : Bool :=
  let o := 0x2200 + r
  let taps := (s.desc.senseRail.filter (fun p => p.2 == r)).length
  s.railCount ≤ r || [1, 2, 3].any (fun k => (stored s.od o k).isNone) || s.obj o 1 < s.obj o 2 || s.obj o 3 < s.obj o 1 || s.obj o 4 == 0 || s.obj o 5 == 0 || s.obj o 6 == 0
    || (stored s.od o 0x1F).isNone || taps < 2 || 8 < taps

/-- Rail that an object's figures belong to, if they belong to one (00 R3, 04 R80). -/
def railOf (idx sub : Nat) : Option Nat :=
  if 0x2200 ≤ idx && idx < 0x2208 then some (idx - 0x2200)
  else if 0x2810 ≤ idx && idx < 0x2818 then some (idx - 0x2810)
  else if 0x2C10 ≤ idx && idx < 0x2C18 then some (idx - 0x2C10)
  else if 0x2C20 ≤ idx && idx < 0x2C28 then some (idx - 0x2C20)
  else if 0x4100 ≤ idx && idx < 0x4108 then some (idx - 0x4100)
  else if 0x4108 ≤ idx && idx < 0x4128 then some ((idx - 0x4108) / 4)
  else if (idx == 0x1201 || idx == 0x2001 || idx == 0x2002) && 1 ≤ sub && sub ≤ 8 then some (sub - 1)
  else none

/-- R80: every described rail is whole, and no sense tap, domain or rail figure belongs to a rail not described or at or
above the configuration's count. -/
def State.railsWrong (s : State) (img : Image) : Bool :=
  s.desc.rails.any (fun d => s.railWrong d.rail)
    || s.desc.senseRail.any (fun p => !s.railUsed p.2)
    || (List.range 32).any (fun d => s.droopRail d != 0xFF && !s.railUsed (s.droopRail d))
    || img.stackSupply.any (fun p => s.railCount ≤ p.2) || img.statics.any (fun p => s.railCount ≤ p.1)
    || img.objects.any (fun p => match railOf (p.1 / 256) (p.1 % 256) with
      | some r => s.railCount ≤ r
      | none => false)

/-- R122: taps, groups and domains. An image whose thresholds break the order of R125 is loaded: that rule checks writes (DESIGN
CHOICE, log 131). -/
def State.tapsWrong (s : State) (img : Image) : Bool :=
  let groups := (List.range 64).filter (fun g => s.groupDomain g != 0xFF)
  let pairs := Image.tapPairs img
  let size (g : Nat) : Nat := (uniq ((pairs.filter (fun p => p.2 == g)).map (·.1))).length
  !distinct (img.tapGroups.map (·.1) ++ img.senseRail.map (·.1)) || conflicting pairs
    || groups.any (fun g => size g < 2 || 16 < size g || 64 ≤ (stored s.od (0x2440 + g) 2).getD 0xFF
      || !s.domainUsed (s.groupDomain g))
    || pairs.any (fun p => if p.2 = 0xFE then (assoc img.senseRail p.1).isNone else !groups.contains p.2)
    || s.domainsUsed.any (fun d =>
      let mine := groups.filter (fun g => s.groupDomain g == d)
      mine.isEmpty || 4 < mine.length || (mine.map size).foldl (· + ·) 0 < 8)

/-- R143: every array is metered on a metering rail, every coupled rail names one metering rail and a ratio. -/
def State.creditsWrong (s : State) : Bool :=
  s.arraysUsed.any (fun a => !s.railUsed (s.arrayRail a) || s.railRole (s.arrayRail a) != 1)
    || s.railsUsed.any (fun r => s.railRole r == 2
      && (s.railRole (s.obj (0x2810 + r) 2) != 1 || !s.railUsed (s.obj (0x2810 + r) 2) || s.obj (0x2810 + r) 3 == 0))

/-- R164 and R208: whether the integral gain of a CURRENT, POWER or THERMAL instance on a metering or coupled rail exceeds
1 / (2 (d + 1)), or the gain of a TRACK instance exceeds 1. -/
def State.gainWrong (s : State) (i q : Nat) : Bool :=
  let c := qValue q
  let d := s.obj 0x2800 6 + 2
  if lawType i < 3 then s.railRole (lawServes i) != 0 && ((2 ^ qShift q : Nat) : Int) < c * (2 * ((d : Int) + 1))
  else lawType i == 3 && ((2 ^ qShift q : Nat) : Int) < c

/-- R164: every limit law of a metering or coupled rail. -/
def State.gainsWrong (s : State) : Bool :=
  (List.range 40).any (fun i => s.lawUsed i && lawType i < 3 && s.gainWrong i (s.obj (0x4100 + i) 3))

/-- R300: no escalation limit below its pin's level. -/
def State.limitsWrong (s : State) : Bool := (List.range 64).any (fun n => s.obj (0x5010 + n) 3 < s.obj (0x5010 + n) 2)

/-- R330: channel pairs with two agents that differ, regions in multiples of 64 bytes inside the message RAM and apart. -/
def State.channelsWrong (s : State) : Bool :=
  let used := s.channelsUsed
  let base (c : Nat) : Nat := s.obj (0x7500 + c) 3
  let size (c : Nat) : Nat := s.obj (0x7500 + c) 4
  (List.range 64).any (fun c =>
    let pair := if c % 2 = 0 then c + 1 else c - 1
    s.channelUsed c && (s.sender c == s.receiver c || s.receiver pair != s.sender c || s.sender pair != s.receiver c))
    || used.any (fun c => base c % 64 != 0 || size c % 64 != 0 || 65536 < base c + size c)
    || used.any (fun c => used.any (fun o => o < c && base o < base c + size c && base c < base o + size o))

/-- R384: the segment role. -/
def State.segmentWrong (s : State) (img : Image) : Bool :=
  (s.role == 1 && (s.cfg == .core || s.obj 0x7000 2 != 0)) || (s.role == 2 && s.obj 0x7000 2 == 0)
    || 2 < s.role || !distinct (img.members.map (·.2))

/-- Tally program of the image as bank 0. -/
def Image.bank (img : Image) : Option Bank := img.program.map (fun bs => { bytes := mwriteBytes [] 0 bs, loaded := bs.length })

/-- R194: a program carried in the image passes the checks of an activation. -/
def Image.programWrong (img : Image) : Bool :=
  match Image.bank img with
  | some b => b.refusal b.loaded != 0
  | none => false

/-- Whether an image is a mismatch under R1. `s` holds its objects. -/
def State.imageWrong (s : State) (img : Image) : Bool :=
  img.major != 4 || img.minor != 2 || s.lanesWrong img || s.railsWrong img || s.tapsWrong img || s.creditsWrong
    || s.gainsWrong || s.limitsWrong || s.channelsWrong || s.segmentWrong img
    || (s.cfg == .full && Image.programWrong img)

/-- Whether the boot store has an acceptable firmware image for every core (R344). -/
def State.firmwareGood (s : State) (fw : List FwImage) : Bool :=
  [0, 1, 2, 3].all (fun c => fw.any (fun f => f.core == c && s.imageRefusal c f == 0))

/-! ### Units at the end of BOOT -/

/-- Lanes, taps and domains of the descriptor: COLD, IDLE, OFF (R64, 05 Tap states, 10 Domain states). A descriptor lane or tap at
or above the configuration's count is MISSING (R63, 05 R137). -/
def State.bootUnits (s : State) : State :=
  let s := each (List.range 96) (fun s n =>
    if !s.railUsed (s.laneRail n) then s
    else s.setLane n (if n < s.laneCount then { st := .cold } else { st := .missing, cause := 5 })) s
  let s := each (List.range 512) (fun s t =>
    if s.tapGroup t == 0xFF then s
    else s.setTap t { st := if s.tapCount ≤ t then .missing else if s.tapGroup t == 0xFE then .sense else .idle }) s
  each s.domainsUsed (fun s d => s.setDomain d { st := .off }) s

/-- Tally: entries and initial static terms of the image, and its program in bank 0, active (R179, R188, R194). -/
def State.bootTally (s : State) (img : Image) : State :=
  let s := each img.sigs (fun s p => s.setSig p.1 p.2) s
  let t := s.tally
  let program := if s.cfg == .full then Image.bank img else none
  { s with tally := { t with
      learn := img.statics.foldl (fun l p => tset l p.1 { lst := p.2 }) t.learn
      banks := match program with
        | some b => [(0, b)]
        | none => []
      active := if program.isSome then some 0 else none
      inactive := if program.isSome then 1 else 0
      loadStatus := if program.isSome then 3 else 0 } }

/-- Loop Engine: active and shadow sets as staged (R209). The THERMAL slots that the image does not give follow its quantum
(08 Law types). -/
def State.bootLaws (s : State) : State :=
  let q := s.obj 0x2800 1
  let s := each ((List.range 40).filter (fun i => lawType i == 2 && s.lawUsed i && q != 62500 && q != 0
      && (stored s.od (0x4100 + i) 4).isNone))
    (fun s i => s.setObj (0x4100 + i) 4 (qOf (rateOfMw q (s.obj (0x2810 + lawServes i) 4) / 6400) 0)) s
  each ((List.range 160).filter s.lawUsed) (fun s i => s.setLaw i { active := s.staged i, shadow := s.staged i }) s

/-- Interrupt controller: configuration, masks and watch subset of the image (13 R318, R327, R340). -/
def State.bootIcu (s : State) (img : Image) : State :=
  { s with icu := { s.icu with
    cfg := (img.icuConfig.filter (fun p => srcListed p.1)).foldl (fun t p => tset t p.1 (cfgOf p.2)) s.icu.cfg
    mask := (img.icuUnmasked.filter srcListed).foldl (fun m n => bankSet m n (BitVec.allOnes 64) false) s.icu.mask
    watch := (img.watch.take 32).zipIdx.map (fun p => (p.2, BitVec.ofNat 64 (2 ^ 63 + p.1 % 1024))) } }

/-- Cores run the images of the boot store from bank 0 (14 Boot). -/
def State.bootCores (s : State) (fw : List FwImage) : State :=
  each [0, 1, 2, 3] (fun s c =>
    match fw.find? (fun f => f.core == c && s.imageRefusal c f == 0) with
    | some f => (s.setCore c { s.core c with
        st := .running, active := 0, banks := [(0, { release := imageRelease f })] }).wakeTarget c
    | none => s) s

/-- The quarantine list of the image after cold reset; the causes of quarantined arrays are detected (11 R278, 12 R304). -/
def State.bootQuarantine (s : State) : State :=
  if s.cfg == .core then s
  else
    let listed := if s.gov.prev == .off then bitsOf 256 (s.obj 0x6000 0x0D) else []
    let s := each listed (fun s a =>
      let s := s.modArray a (fun v => { v with quarantined := true })
      { s with assayer := { s.assayer with qcause := tset s.assayer.qcause a 2 } }) s
    each ((s.arrays.filter (fun p => p.2.quarantined)).map (·.1)) (fun s a =>
      s.raiseCause 49 2 ((s.arrayDomain a).getD 32) 0 (a * 2 ^ 56 + tget s.assayer.qcause a 0 * 2 ^ 48)) s

/-- Segment role: NONE, or WAITING at half the TDP (16 R390, R394). -/
def State.bootSegment (s : State) : State :=
  if s.role = 0 then { s with segment := { s.segment with role := 0 } }
  else { s with segment := { s.segment with role := 1, ceiling := some (s.obj 0x2801 1 / 2), fedAt := s.tb.now } }

/-- Everything that BOOT loads, in the state in which it has been found good. -/
def State.bootLoad (s : State) (img : Image) (fw : List FwImage) : State :=
  let s := s.withImage img
  let s : State := { s with dither := s.obj 0x2801 7, assayer := { s.assayer with seed := s.obj 0x6000 6 } }
  ((((((s.bootUnits).bootTally img).bootLaws).bootIcu img).bootCores fw).bootQuarantine).bootSegment

/-- BOOT_COMPLETE (10 R261, 14 R344): an image that is refused latches pin 55 and holds the Governor in BOOT; else STANDBY,
and SEQUENCING where auto-start is set. Where BOOT was left for TRIP before its image was loaded, the loading completes in
TRIP or COOLDOWN (DEDUCED, log 34). -/
def execBootComplete (img : Image) (fw : List FwImage) (s : State) : Host.Outcome State Fault Refusal :=
  if s.gov.booting && s.tb.gclk && (s.gov.st == .boot || s.gov.st == .trip || s.gov.st == .cooldown) then
    if (s.withImage img).imageWrong img || !s.firmwareGood fw then .next (s.trigger 55 0 0 0 0)
    else
      let s := s.bootLoad img fw
      let s : State := { s with gov := { s.gov with booting := false, constSet := true } }
      if s.gov.st == .boot then .next ((s.enter .standby 0xFF).autoStart) else .next s
  else .next s

end Sys2Proof.Machine
end

