-- ==== Sys2Proof/Machine/Domains.lean ====
section
/-! DEFINITION. The Domain Sequencer's events: wakes, stages, power-good, gating, loss of power-good (10 R250 to R259), and
the census of a domain's droop taps (05 R123, R137). -/

namespace Sys2Proof.Machine

/-- A wake requested by a write of 1 (10 R251, R254, R259). -/
def State.requestWake (s : State) (d : Nat) : State :=
  let v := s.domain d
  let s := s.setDomain d { v with written := true }
  match v.st with
  | .off => if v.retryAt.isSome then s else s.wantWake d
  | .draining => s.modDomain d (fun v => { v with st := .on, drainEnd := none })
  | .gating => s.modDomain d (fun v => { v with wanted := true })
  | .unused | .waking | .settling | .on | .faulted => s

/-- A gating requested by a write of 0 (10 R252, R254, R255, R259). -/
def State.requestGate (s : State) (d : Nat) : State :=
  let v := s.domain d
  let s := s.setDomain d { v with written := true }
  match v.st with
  | .off => s.modDomain d (fun v => { v with wanted := false, rushWait := none, retry := false, retryAt := none })
  | .waking | .settling => s.startFall d 0 .off
  | .on => s.startDrain d
  | .gating => s.modDomain d (fun v => { v with
      wanted := false, after := match v.after with
        | .fault => .fault
        | .off | .retry => .off })
  | .unused | .draining | .faulted => s

/-- DOMAIN_WAKE_START (10 R251, R253): both conditions hold; WAKING, the first stage closes. -/
def execDomainWakeStart (domain : Nat) (s : State) : Host.Outcome State Fault Refusal :=
  let v := s.domain domain
  if v.wanted && v.st == .off && s.domainUsed domain && s.wakeRoom domain && s.rushRoom domain then
    .next <| State.waitTick (s.setDomain domain { v with
      st := .waking
      wanted := false
      rushWait := none
      iso := true
      stages := 1
      stageAt := some (s.tb.now + s.cyc (0x3410 + domain) 5)
      wakeStart := s.tb.now })
  else .next s

/-- DOMAIN_STAGE_STEP (10 R253 to R255): the next stage closes or opens. -/
def execDomainStageStep (domain : Nat) (s : State) : Host.Outcome State Fault Refusal :=
  let v := s.domain domain
  match v.stageAt with
  | none => .next s
  | some t =>
    let s := s.atTime t
    let next := s.tb.now + s.cyc (0x3410 + domain) 5
    if v.st == .waking then
      if v.stages < 3 then .next (s.setDomain domain { v with stages := v.stages + 1, stageAt := some next })
      else
        .next (s.setDomain domain { v with
          stages := 4, stageAt := none, pgEnd := some (s.tb.now + s.cyc (0x3410 + domain) 6) })
    else if v.st == .gating then
      if 1 < v.stages then .next (s.setDomain domain { v with stages := v.stages - 1, stageAt := some next })
      else .next (s.fallen domain)
    else .next s

/-- DOMAIN_POWER_GOOD (10 R253): go_pg high for 16 cycles within the window. -/
def execDomainPowerGood (domain : Nat) (s : State) : Host.Outcome State Fault Refusal :=
  let v := s.domain domain
  if v.st == .waking && v.pgEnd.isSome then
    .next <| State.waitTick (s.setDomain domain { v with
      st := .settling
      pgEnd := none
      pgAt := some s.tb.now
      isoAt := some (s.tb.now + s.cyc (0x3410 + domain) 7)
      censusDone := false
      censusEnd := none })
  else .next s

/-- DOMAIN_PG_WINDOW_MISS (10 R254): the stages fall; a retry follows, or FAULTED when this was the retry. -/
def execDomainPgWindowMiss (domain : Nat) (s : State) : Host.Outcome State Fault Refusal :=
  let v := s.domain domain
  match v.pgEnd with
  | some t =>
    if v.st == .waking then .next ((s.atTime t).startFall domain 0 (if v.retry then .fault else .retry)) else .next s
  | none => .next s

/-- DOMAIN_ISOLATION_RELEASE (10 R253): go_iso falls. -/
def execDomainIsolationRelease (domain : Nat) (s : State) : Host.Outcome State Fault Refusal :=
  let v := s.domain domain
  match v.isoAt with
  | some t =>
    if v.st == .settling then
      .next (((s.atTime t).setDomain domain { v with iso := false, isoAt := none }).domainOn domain)
    else .next s
  | none => .next s

/-- DOMAIN_RETRY_DELAY_END (10 R254): the wake is requested again. -/
def execDomainRetryDelayEnd (domain : Nat) (s : State) : Host.Outcome State Fault Refusal :=
  let v := s.domain domain
  match v.retryAt with
  | some t => if v.st == .off then .next ((s.atTime t).wantWake domain) else .next s
  | none => .next s

/-- WAKE_WAIT_EXPIRY (10 R252): in SEQUENCING up an initial-on wake has waited for the rush condition alone for the limit. -/
def execWakeWaitExpiry (domain : Nat) (s : State) : Host.Outcome State Fault Refusal :=
  let v := s.domain domain
  match v.rushWait with
  | some t =>
    if v.wanted && v.st == .off && s.initialOn domain && s.gov.st == .sequencing && s.gov.phase == .domains
        && !s.rushRoom domain then
      .next ((s.atTime (t + (s.cyc 0x3400 0x10 - v.waited))).missedWake domain)
    else .next s
  | none => .next s

/-- DRAIN_COMPLETE (10 R255): no slot of the domain's arrays is GRANTED; go_iso rises, the first stage falls 8 cycles
later. -/
def execDrainComplete (domain : Nat) (s : State) : Host.Outcome State Fault Refusal :=
  if (s.domain domain).st == .draining && (s.domainSlots domain .granted).isEmpty then
    .next (s.startFall domain 8 .off)
  else .next s

/-- DRAIN_TIMEOUT (10 R255): what is still GRANTED is freed, marked timed out. -/
def execDrainTimeout (domain : Nat) (s : State) : Host.Outcome State Fault Refusal :=
  let v := s.domain domain
  match v.drainEnd with
  | some t =>
    if v.st == .draining then
      .next ((((s.atTime t).timeOutDomain domain).bump (0x3410 + domain) 0x0C).startFall domain 8 .off)
    else .next s
  | none => .next s

/-- Whether announced work falls within a domain's wake lead (10 R256). -/
def State.workAhead (s : State) (d : Nat) : Bool :=
  (List.range (s.obj (0x3410 + d) 8)).any (fun j => (s.domBins d).getD (j + 1) 0 != 0)

/-- AUTO_WAKE (10 R256). The rail must be up and no power-down under way, as for the other two sources of a wake. -/
def execAutoWake (domain : Nat) (s : State) : Host.Outcome State Fault Refusal :=
  let v := s.domain domain
  if s.domainUsed domain && v.st == .off && !v.wanted && v.retryAt.isNone && s.autoWakes domain
      && (!v.written || s.obj (0x3410 + domain) 3 == 1) && s.workAhead domain && s.gov.st.words
      && (s.rail (s.droopRail domain)).good && !s.gov.seqDown then
    .next ((s.bump (0x3410 + domain) 0x0E).wantWake domain)
  else .next s

/-- DOMAIN_POWER_GOOD_LOSS (10 R257): isolated at once, slots freed as timed out, one retry. While SEQUENCING down the
domain is OFF as gated. -/
def execDomainPowerGoodLoss (domain : Nat) (s : State) : Host.Outcome State Fault Refusal :=
  let v := s.domain domain
  if v.good then
    let s := (s.timeOutDomain domain).isolateDomain domain
    let s := s.modDomain domain (fun w => { w with retry := v.retry, written := v.written, lostAt := some s.tb.now })
    if s.gov.seqDown then .next ((s.modDomain domain (fun w => { w with retry := false })).gateNext)
    else .next (s.missedWake domain)
  else .next s

/-! ### The domain census -/

/-- TAP_SETTLE_END (05 R123, R137): the census starts, with no report counted yet. -/
def execTapSettleEnd (domain : Nat) (s : State) : Host.Outcome State Fault Refusal :=
  let v := s.domain domain
  match v.pgAt with
  | some t =>
    if v.st == .settling && v.censusEnd.isNone && !v.censusDone then
      let s := s.atTime (t + s.cyc 0x2400 7)
      let s := each (s.domainTaps domain) (fun s t => s.modTap t (fun p => { p with run := 0 })) s
      .next (s.setDomain domain { v with censusEnd := some (s.tb.now + s.cyc 0x2400 0x0D) })
    else .next s
  | none => .next s

/-- Whether a tap has delivered its 256 reports (05 R137). -/
def State.tapFound (s : State) (t : Nat) : Bool := 256 ≤ (s.tap t).run

/-- The census ends: taps found are VALID, the others MISSING (05 R137). -/
def State.endCensus (s : State) (d : Nat) : State :=
  let taps := s.domainTaps d
  let lost := taps.filter (fun t => !s.tapFound t)
  let s := each taps (fun s t => s.modTap t (fun p =>
    { p with st := if 256 ≤ p.run then .valid else .missing, run := 0, suspect := 0, agreed := none, parityBad := false,
             reach := 0 })) s
  let s := s.modDomain d (fun v => { v with censusDone := true, censusEnd := none })
  let s := s.triggerAll 19 2 0 (lost.map (fun t => (d, s.droopPa d t)))
  (s.blindCheck d).domainOn d

/-- DOMAIN_CENSUS_COMPLETE (05 R137, 10 R253). -/
def execDomainCensusComplete (domain : Nat) (s : State) : Host.Outcome State Fault Refusal :=
  let v := s.domain domain
  if v.st == .settling && v.censusEnd.isSome && (s.domainTaps domain).all s.tapFound then .next (s.endCensus domain)
  else .next s

/-- DOMAIN_CENSUS_WINDOW_END (05 R137, 10 R253). -/
def execDomainCensusWindowEnd (domain : Nat) (s : State) : Host.Outcome State Fault Refusal :=
  let v := s.domain domain
  match v.censusEnd with
  | some t => if v.st == .settling then .next ((s.atTime t).endCensus domain) else .next s
  | none => .next s

end Sys2Proof.Machine
end

