-- ==== Sys2Proof/Machine/Commands.lean ====
section
/-! DEFINITION. The state commands of 0x3400:08: who may write them, in which states, and what they do (10 R261 to R264,
14 R351, 15 R365, R381). -/

namespace Sys2Proof.Machine

/-- Whether the mailbox session holds no metering control; false for a session that is not a mailbox session. -/
def State.withoutMetering (s : State) (sess : Nat) : Bool :=
  match s.mailSession sess with
  | some p => !p.2.metering
  | none => false

/-- Whether a session may not write a command at all (14 R351, 15 R365, R381). -/
def State.commandBarred (s : State) (sess code : Nat) : Bool :=
  (fixedSession sess && ((1 ≤ code && code ≤ 4) || code == 6))
    || (code == 6 && !s.authenticated sess)
    || (1 ≤ code && code ≤ 4 && s.withoutMetering sess)

/-- Whether rails and their sequences are down (R263). -/
def State.railsAreDown (s : State) : Bool := !s.anyRailPowered && s.gov.phase == .idle

/-- Whether a margin sweep or an injection runs. -/
def State.serviceTask (s : State) : Bool :=
  s.assayer.sweep.status == 1 || s.injector.status == 1 || s.injector.status == 2

/-- Legal in, with the conditions of RESUME and SERVICE_EXIT (R263); a code outside 1 to 8 is judged by its range. -/
def State.commandLegal (s : State) (code arg : Nat) : Bool :=
  let st := s.gov.st
  match code with
  | 1 => st == .standby || (st == .service && s.railsAreDown)
  | 2 => st == .ready || st == .run || st == .limit || st == .safe
  | 3 => st == .ready
  | 4 => st == .run || st == .limit
  | 5 => st == .safe && !s.safeLatched
  | 6 => st == .standby || st == .ready
  | 7 => st == .service && !s.serviceTask && (arg != 1 || (s.railsGood && s.initialsOn))
  | 8 => st == .boot || st == .standby || st == .cooldown || (st == .service && s.railsAreDown)
  | _ => true

/-- Code and argument outside their ranges (R263). -/
def commandOut (code arg : Nat) : Bool := code == 0 || 8 < code || (code == 7 && 1 < arg)

/-- POWER_ON: SEQUENCING up, or the same sequence with the state staying SERVICE. -/
def State.powerOnNow (s : State) : State :=
  if s.gov.st == .service then s.startUp else (s.enter .sequencing 0xFE).startUp

/-- POWER_OFF: SEQUENCING down. -/
def State.powerOffNow (s : State) : State := (s.enter .sequencing 0xFE).startDown

/-- METER_ON, METER_OFF, RESUME. -/
def State.meterOnNow (s : State) : State := s.enter .run 0xFE
def State.meterOffNow (s : State) : State := s.enter .ready 0xFE
def State.resumeNow (s : State) : State := s.enter .ready 0xFE

/-- SERVICE_ENTER. -/
def State.serviceEnterNow (s : State) : State := s.enter .service 0xFE

/-- SERVICE_EXIT: with argument 1 to READY, with 0 a power-down that ends in STANDBY. -/
def State.serviceExitNow (s : State) (arg : Nat) : State :=
  if arg = 1 then s.enter .ready 0xFE
  else ({ s with gov := { s.gov with svcExit := true } } : State).startDown

/-- An accepted command: its status is 0, its effect starts (R263). -/
def State.stateCommand (s : State) (code arg : Nat) : State :=
  let s : State := { s with gov := { s.gov with cmdStatus := 0 } }
  match code with
  | 1 => s.powerOnNow
  | 2 => s.powerOffNow
  | 3 => s.meterOnNow
  | 4 => s.meterOffNow
  | 5 => s.resumeNow
  | 6 => s.serviceEnterNow
  | 7 => s.serviceExitNow arg
  | 8 => s.softResetNow
  | _ => s

/-- A refused command: its status is the abort code; a refusal by state is counted and is an event of pin 45 (R263). -/
def State.commandRefused (s : State) (code : Nat) : State :=
  let s : State := { s with gov := { s.gov with cmdStatus := code } }
  if code = 0x00040001 then (s.bump 0x3400 0x0B).dEvent 45 else s

end Sys2Proof.Machine
end

