-- ==== Sys2Proof/Machine/Rules.lean ====
section
/-! DEFINITION. What the object engine checks before an access (15 R358 to R362, R381): absence, existence, access class,
authorization, length, state, range, serving core; and the rules of the units that the Writable in and Name columns refer
to. Every check answers an abort code, 0 where it passes. -/

namespace Sys2Proof.Machine

/-- The first code that is not 0 (R362). -/
def firstCode : List Nat → Nat
  | [] => 0
  | c :: rest => if c = 0 then firstCode rest else c

/-- A code answered when a check fails. -/
def codeIf (c : Bool) (code : Nat) : Nat := if c then code else 0

/-! ### Orders 1 to 3: absence and existence -/

/-- Whether an index belongs to a unit or instance that NW-OXG4-C lacks (00 R3). -/
def absentInCore (idx : Nat) : Bool :=
  (0x2130 ≤ idx && idx ≤ 0x215F) || (0x2204 ≤ idx && idx ≤ 0x2207) || (0x2814 ≤ idx && idx ≤ 0x2817)
    || (0x2C14 ≤ idx && idx ≤ 0x2C17) || (0x2C24 ≤ idx && idx ≤ 0x2C27) || (0x2600 ≤ idx && idx ≤ 0x26FF)
    || (0x4104 ≤ idx && idx ≤ 0x4107) || (0x4118 ≤ idx && idx ≤ 0x4127) || (0x4158 ≤ idx && idx ≤ 0x4187)
    || (0x6000 ≤ idx && idx ≤ 0x6004) || (0x6010 ≤ idx && idx ≤ 0x610F) || (0x6200 ≤ idx && idx ≤ 0x621F)
    || (0x6300 ≤ idx && idx ≤ 0x633F) || idx == 0x2C08 || idx == 0x7001 || (0x7010 ≤ idx && idx ≤ 0x701F)

/-- Subindices of an index present that belong to an absent rail or to the absent filler (00 R3, Configurations). -/
def absentSubInCore (idx sub : Nat) : Bool :=
  ((idx == 0x1201 || idx == 0x2001 || idx == 0x2002) && 5 ≤ sub && sub ≤ 8)
    || (idx == 0x2801 && 4 ≤ sub && sub ≤ 6) || (0x2A00 ≤ idx && idx ≤ 0x2AFF && sub == 4)

/-- Whether an address is absent in this configuration. -/
def State.absent (s : State) (idx sub : Nat) : Bool := s.cfg == .core && (absentInCore idx || absentSubInCore idx sub)

/-- Whether an index is absent as a whole in this configuration. -/
def State.indexAbsent (s : State) (idx : Nat) : Bool := s.cfg == .core && absentInCore idx

/-- Orders 1 to 3 (R358, R362); in the service range the authorization comes before the absence of an object (R380). -/
def State.presenceCode (s : State) (sess idx sub : Nat) : Nat :=
  if s.absent idx sub then 0x00050001
  else if 0xF000 ≤ idx && !objExists idx && !s.authenticated sess then 0x00040002
  else if !objExists idx then 0x00010001
  else codeIf (objRow idx sub).isNone 0x00010002

/-! ### Order 5: access class -/

def readClassCode (r : ObjRow) : Nat := codeIf (r.acc == .wo) 0x00020002

def writeClassCode (r : ObjRow) : Nat := codeIf (r.acc == .const || r.acc == .ro) 0x00020001

/-! ### Order 6: authorization and locks -/

/-- A lock request (R366). -/
def State.lockCode (s : State) (sess idx : Nat) : Nat :=
  if s.indexAbsent idx then 0x00050001
  else if !objExists idx then 0x00010001
  else codeIf (fixedSession sess || s.lockedBy idx sess || ((s.locker idx).isNone && 16 ≤ s.access.locks.length)) 0x00040002

/-- An unlock request (R366). -/
def State.unlockCode (s : State) (sess idx : Nat) : Nat :=
  if s.indexAbsent idx then 0x00050001
  else if !objExists idx then 0x00010001
  else codeIf (s.lockedBy idx sess) 0x00040002

/-- Authorization of a read (R380, R381). -/
def State.readAuthCode (s : State) (sess idx : Nat) : Nat := codeIf (0xF000 ≤ idx && !s.authenticated sess) 0x00040002

/-- Authorization of a write of raw value `v` (R365, R366, R379 to R381). -/
def State.writeAuthCode (s : State) (sess idx sub v : Nat) : Nat :=
  if (0xF000 ≤ idx || idx == 0x7420) && !s.authenticated sess then 0x00040002
  else if s.lockedBy idx sess then 0x00040002
  else if idx == 0x3400 && sub == 8 && s.commandBarred sess v then 0x00040002
  else if idx == 0x1420 && sub == 2 && fixedSession sess then 0x00040002
  else if idx == 0x1410 && sub == 1 then s.lockCode sess v
  else if idx == 0x1410 && sub == 2 then s.unlockCode sess v
  else 0

/-! ### Order 7: length -/

/-- Most bytes of an object whose Name says "up to n bytes". -/
def ObjTy.upTo : ObjTy → Option Nat
  | .octets n true => some n
  | _ => none

/-- Length of a write (R359). -/
def writeLengthCode (r : ObjRow) (len : Nat) : Nat :=
  match r.ty.upTo with
  | some n => codeIf (len == 0 || n < len) 0x00030001
  | none => codeIf (len != r.ty.size) 0x00030001

/-- Requested length of a read, which only an "up to" object looks at. -/
def readLengthCode (r : ObjRow) (len : Nat) : Nat :=
  match r.ty.upTo with
  | some n => codeIf (len == 0 || n < len) 0x00030001
  | none => 0

/-! ### Order 8: state -/

/-- A read that the present condition forbids: the capture buffer before it is complete (08 R217). -/
def State.readStateCode (s : State) (idx sub : Nat) : Nat :=
  codeIf (idx == 0x4003 && sub == 2 && 1 ≤ s.capture.status && s.capture.status ≤ 3) 0x00040001

/-- States in which an instance may be committed (08 R209). -/
def commitStates (i : Nat) (st : GovState) : Bool :=
  match st with
  | .standby | .ready | .service => true
  | .run | .limit | .safe => lawType i != 4
  | .off | .boot | .sequencing | .trip | .cooldown => false

/-- Conditions beyond the Writable in column: rules of the units that refuse with 0x0004_0001. -/
def State.conditionBars (s : State) (idx sub v : Nat) : Bool :=
  if idx == 0x2C08 && sub == 4 then s.tally.activate
  else if 0x4100 ≤ idx && idx ≤ 0x419F then
    ((3 ≤ sub && sub ≤ 9) && (s.law (idx - 0x4100)).pending)
      || (sub == 0x0C && ((s.law (idx - 0x4100)).pending || !commitStates (idx - 0x4100) s.gov.st))
  else if idx == 0x3400 && sub == 8 then !s.commandLegal v (s.obj 0x3400 9)
  else if idx == 0x4001 && sub == 0x0C then v == 1 && s.injectionRefusal == 0x00040001
  else if idx == 0x6003 && sub == 3 then v == 1 && s.runRefusal == 0x00040001
  else if idx == 0x6002 && sub == 2 then v == 1 && s.sweepRefusal == 0x00040001
  else if 0x6300 ≤ idx && idx ≤ 0x633F then s.assayer.run.active || s.assayer.sweep.status == 1
  else if idx == 0x7420 then
    let busy : Bool := s.update.status == 3 || s.update.status == 4
    if 1 ≤ sub && sub ≤ 3 then busy
    else sub == 4 && ((v == 1 && busy) || (v == 2 && s.update.status != 2) || (v == 3 && busy))
  else false

/-- State of a write (R361). -/
def State.writeStateCode (s : State) (r : ObjRow) (idx sub v : Nat) : Nat :=
  codeIf (!bit r.states s.gov.st.code || s.conditionBars idx sub v) 0x00040001

/-! ### Order 9: range -/

/-- The encoding of a value: BOOL and Q (R359). -/
def encodingBad (ty : ObjTy) (v : Nat) : Bool :=
  match ty with
  | .bool => 1 < v
  | .q => 31 < v / 2 ^ 32 % 256 || 2 ^ 40 ≤ v
  | _ => false

/-- A raw value as the number it stands for. -/
def rawInt (ty : ObjTy) (v : Nat) : Int := if ty.signed then toSigned (8 * ty.size) v else (v : Int)

/-- The range of the Name column. -/
def ObjRow.out (r : ObjRow) (v : Nat) : Bool :=
  (match r.min with
    | some lo => rawInt r.ty v < lo
    | none => false)
    || (match r.max with
      | some hi => hi < rawInt r.ty v
      | none => false)

/-- Lower and upper neighbour of a droop threshold must keep SEVERE < DEEP < MILD ≤ 62 (05 R125). -/
def State.droopOut (s : State) (idx sub v : Nat) : Bool :=
  let base := sub - (sub - 6) % 3
  let t (k : Nat) : Nat := if base + k = sub then v else s.obj idx (base + k)
  !(t 2 < t 1 && t 1 < t 0 && t 0 ≤ 62)

/-- Thresholds and hystereses of a kind (09 R229). -/
def State.thermalOut (s : State) (idx sub v : Nat) : Bool :=
  let t (k : Nat) : Int := toSigned 16 (if sub = k then v else s.obj idx k)
  if sub = 2 || sub = 4 || sub = 6 then toSigned 16 v < 32 || 1280 < toSigned 16 v
  else if sub = 1 || sub = 3 || sub = 5 then
    !(t 1 < t 3 && t 3 < t 5) || (idx == 0x3001 && (t 5 < 6400 || 8000 < t 5))
  else false

/-- Boundaries of a region ascend with gaps of at least twice a band hysteresis (09 R231). -/
def boundariesOut (b : Nat → Int) (hys : Int) : Bool :=
  [6, 7, 8, 9, 10, 11].any (fun k => b (k + 1) - b k < 2 * hys)

def State.boundaryOut (s : State) (idx sub v : Nat) : Bool :=
  boundariesOut (fun k => toSigned 16 (if k = sub then v else s.obj idx k)) (s.obj16 0x3000 4)

/-- A band hysteresis that the boundaries of some region do not admit (09 R231). -/
def State.hysteresisOut (s : State) (v : Nat) : Bool :=
  (List.range 64).any (fun g => boundariesOut (fun k => s.obj16 (0x3010 + g) k) (toSigned 16 v))

/-- Coefficient slots that a law type has (08 Law types). -/
def lawSlots (type : Nat) : Nat :=
  match type with
  | 0 | 1 | 3 => 1
  | 2 => 2
  | 4 => 7
  | 6 => 5
  | _ => 0

/-- Range rules of a law instance (08 R208, R220). -/
def State.lawOut (s : State) (i sub v : Nat) : Bool :=
  let ty := lawType i
  let usable : Bool := s.lawUsed i && ty != 5
  if 3 ≤ sub && sub ≤ 9 then v != 0 && lawSlots ty ≤ sub - 3
  else if sub = 0x0A || sub = 0x0B then !usable || (v != 0 && 4 ≤ ty)
  else if sub = 0x11 || sub = 0x12 then !usable || (v != 0 && !(ty == 0 || ty == 1 || ty == 2 || ty == 4))
  else if sub = 0x18 then !usable || (v != 0 && ty != 6)
  else if sub = 0x0C then v == 1 && (ty == 5 || !s.lawUsed i || s.gainWrong i (s.obj (0x4100 + i) 3))
  else false

/-- A pin's levels (12 R293, R298, R300). -/
def State.pinOut (s : State) (n sub v : Nat) : Bool :=
  if sub = 2 then s.obj (0x5010 + n) 3 < v || ((n == 0 || n == 35) && v != 4)
  else if sub = 3 then v < s.obj (0x5010 + n) 2 || 4 < v || ((n == 0 || n == 35) && v != 4)
  else false

/-- Whether a routing word of the analogue test buses is out of range (19 R441). -/
def State.atbOut (s : State) (w : BitVec 16) : Bool :=
  let kind := bits w.toNat 14 12
  let inst := bits w.toNat 8 0
  let other := if w.getLsbD 15 then s.test.atbA else s.test.atbB
  bits w.toNat 11 9 != 0 || 5 < kind
    || (match kind with
      | 0 => false
      | 1 => 2 < inst
      | 2 => 255 < inst || !s.sensorUsed inst
      | 3 => s.tapCount ≤ inst || s.tapGroup inst == 0xFF
      | _ => !s.domainUsed inst)
    || (kind != 0 && other.toNat % 2 ^ 15 == w.toNat % 2 ^ 15)

/-- Rules of the units that refuse with 0x0003_0002 beyond the Name column. -/
def State.unitOut (s : State) (idx sub v : Nat) (len : Nat) : Bool :=
  if idx == 0x1300 then sub == 4 && s.timeRefused (s.obj 0x1300 3) v
  else if 0x2200 ≤ idx && idx ≤ 0x2207 then
    (sub == 0x0A && s.obj idx 0x0B < v) || (sub == 0x13 && s.obj idx 0x14 ≤ v) || (sub == 0x14 && v ≤ s.obj idx 0x13)
  else if 0x2440 ≤ idx && idx ≤ 0x247F then 6 ≤ sub && s.droopOut idx sub v
  else if idx == 0x2C03 then sub == 2 && v % 2 ^ 23 != 0
  else if idx == 0x3000 then sub == 4 && s.hysteresisOut v
  else if 0x3001 ≤ idx && idx ≤ 0x3003 then s.thermalOut idx sub v
  else if 0x3010 ≤ idx && idx ≤ 0x304F then 6 ≤ sub && s.boundaryOut idx sub v
  else if idx == 0x3400 then sub == 8 && commandOut v (s.obj 0x3400 9)
  else if 0x3410 ≤ idx && idx ≤ 0x342F then
    sub == 3 && (!s.domainUsed (idx - 0x3410) || (v == 0 && s.alwaysOn (idx - 0x3410)))
  else if idx == 0x4001 then sub == 0x0C && v == 1 && s.injectionRefusal == 0x00030002
  else if idx == 0x4003 then sub == 1 && v % 16 != 0
  else if 0x4100 ≤ idx && idx ≤ 0x419F then s.lawOut (idx - 0x4100) sub v
  else if 0x5010 ≤ idx && idx ≤ 0x504F then s.pinOut (idx - 0x5010) sub v
  else if 0x5410 ≤ idx && idx ≤ 0x5413 then sub == 4 && v % 8 != 0
  else if idx == 0x6002 then sub == 2 && v == 1 && s.sweepRefusal == 0x00030002
  else if idx == 0x7420 then sub == 3 && 98304 < s.obj 0x7420 2 + len
  else if idx == 0xF000 then sub == 3 && s.atbOut (BitVec.ofNat 16 v)
  else false

/-- Range of a write. -/
def State.writeRangeCode (s : State) (r : ObjRow) (idx sub v len : Nat) : Nat :=
  codeIf (encodingBad r.ty v || r.out v || s.unitOut idx sub v len) 0x00030002

/-! ### Order 10: the serving core -/

/-- The core that serves an object, if firmware does (R364, Object directory). -/
def servedBy (idx sub : Nat) : Option Nat :=
  if idx == 0x1400 || idx == 0x1401 || idx == 0x1410 || idx == 0x1420 || (0x7000 ≤ idx && idx ≤ 0x73FF) || idx == 0x7400 then some 3
  else if 0x3100 ≤ idx && idx ≤ 0x321F && sub == 8 then some 1
  else if idx == 0x7420 then some 0
  else none

/-- A core that does not run cannot serve, and an access may be late (14 R342, R364). -/
def State.servingCode (s : State) (idx sub : Nat) : Nat :=
  match servedBy idx sub with
  | some c => codeIf (!s.coreRuns c || s.access.late) 0x00070001
  | none => 0

end Sys2Proof.Machine
end

