-- ==== Sys2Proof/Machine/Dictionary.lean ====
section
/-! DEFINITION. The object engine (15): what an accepted write does, what a read returns, and the two operations every path
uses, `readObject` and `writeObject`. -/

namespace Sys2Proof.Machine

/-! ### Effects of accepted writes, unit by unit. Each answers the state and an abort code, 0 where the write stands. -/

/-- A FAULTED or BLIND lane returns to COLD (03 R73). -/
def State.rearmLane (s : State) (n : Nat) : State :=
  let l := s.lane n
  if l.st == .faulted || l.st == .blind then
    let r := s.laneRail n
    let s := s.setLane n { l.stop .cold with cause := 0 }
    let s := if l.st == .blind then s.modRail r (fun v => { v with reLane := true, pairShed := false }) else s
    s.floorCheck r
  else s

/-- A MASKED tap returns to VALID, or to IDLE while its domain is not power-good (05 R136). -/
def State.rearmTap (s : State) (t : Nat) : State :=
  if (s.tap t).st == .masked then
    let d := s.tapDomain t
    let good : Bool := d < 32 && (s.domain d).good
    let s := s.modTap t (fun p => { p with
      st := if s.tapGroup t == 0xFE then .sense else if s.tapGroup t == 0xFF then .unassigned else if good then .valid
        else .idle
      suspect := 0
      agreed := none
      parityBad := false
      reach := 0 })
    if good then s.blindCheck d else s
  else s

/-- The quantum: every balance, filler allotment and cumulative counter becomes 0 (06 R142). -/
def State.setQuantum (s : State) (v : Nat) : State :=
  let s := s.setObj 0x2800 1 v
  { s with
    arrays := s.arrays.map (fun p => (p.1, { p.2 with bal := 0, fil := 0, cum := 0 }))
    rings := s.rings.map (fun p => (p.1, { p.2 with bal := 0, snap := 0 })) }

/-- A re-arm waits for the sensor's next read (09 R227, R247). -/
def State.rearmSensor (s : State) (n : Nat) : State :=
  let st := s.sensorSt n
  if st == .quarantined || st == .failed || st == .missing then
    s.modSensor n (fun v => { v with rearm := true, rearmRead := false, count := 0 })
  else s

/-- A management coolant update: inlet temperature and flow apply together (09 Coolant supervision). -/
def State.coolantCommit (s : State) : State :=
  if s.coolSource < 2 then s
  else ({ s with thermal := { s.thermal with coolMgmt := some s.tb.now, coolFlow := s.obj 0x3008 7 } } : State).inlet 16
    (s.obj16 0x3008 6)

/-- A domain request (10 R251, R252). A gating request in the cycle of a loss of power-good is void (10 R259). -/
def State.domainRequest (s : State) (d v : Nat) : State :=
  if v != 1 && (s.domain d).lostAt == some s.tb.now then s
  else
    let s := s.setObj (0x3410 + d) 3 v
    if v = 1 then s.requestWake d else s.requestGate d

/-- A FAULTED domain returns to OFF (10 R258). -/
def State.rearmDomain (s : State) (d : Nat) : State :=
  if (s.domain d).st == .faulted then s.modDomain d (fun v => { v with st := .off, retry := false }) else s

/-- A coefficient commit becomes pending (08 R209). -/
def State.commitLaw (s : State) (i : Nat) : State := s.modLaw i (fun v => { v with pending := true, status := 1 })

/-- The analogue test buses routed: the bus named carries the node named, and nothing else (19 R441). -/
def State.routeAtb (s : State) (w : BitVec 16) : State :=
  let node : BitVec 16 := if bits w.toNat 14 12 = 0 then 0 else w
  { s with test := { s.test with
    atb := w
    atbA := if w.getLsbD 15 then s.test.atbA else node
    atbB := if w.getLsbD 15 then node else s.test.atbB } }

/-- A continuous rating written: the lane capacity may fall (03 R75). -/
def State.setRating (s : State) (n v : Nat) : State :=
  let r := s.laneRail n
  let before := s.laneCapacity r
  (s.setObj (0x2100 + n) 7 v).capacityCheck r before

/-- Effects of Phase Link, Rail Control, Droop Defence and Credit Unit objects. -/
def State.effectPower (s : State) (idx sub v : Nat) : Option (State × Nat) :=
  if 0x2100 ≤ idx && idx ≤ 0x215F && sub == 0x11 then some (if v = 1 then s.rearmLane (idx - 0x2100) else s, 0)
  else if 0x2100 ≤ idx && idx ≤ 0x215F && sub == 7 then some (s.setRating (idx - 0x2100) v, 0)
  else if 0x2500 ≤ idx && idx ≤ 0x26FF && sub == 7 then some (if v = 1 then s.rearmTap (idx - 0x2500) else s, 0)
  else if idx == 0x2800 && sub == 1 then some (s.setQuantum v, 0)
  else if idx == 0x2801 && sub == 7 then some ({ s with dither := v }, 0)
  else none

/-- Effects of Tally objects. -/
def State.effectTally (s : State) (idx sub v : Nat) (bs : List Byte) : Option (State × Nat) :=
  if idx == 0x2C03 && sub == 2 then some ((s.fitsAt (s.tb.now - s.tb.cStart + 1)).setSig (s.obj 0x2C03 1) v, 0)
  else if idx == 0x2C08 then
    match sub with
    | 4 => some (s.loadProgram bs, 0)
    | 5 => some (if v = 1 then s.requestProgram else (s, 0))
    | 0x0A => some (if v = 1 then { s with tally := { s.tally with sticky := 0 } } else s, 0)
    | _ => none
  else none

/-- Effects of Loop Engine objects. -/
def State.effectLoop (s : State) (idx sub v : Nat) : Option (State × Nat) :=
  if idx == 0x4001 && sub == 0x0C then some (if v = 1 then s.startInjection else s.endInjection 4, 0)
  else if idx == 0x4002 && sub == 0x0A then
    some (if v = 1 then s.armCapture else if v = 2 then s.forceCapture else s.stopCapture, 0)
  else if 0x4100 ≤ idx && idx ≤ 0x419F && sub == 0x0C then some (if v = 1 then s.commitLaw (idx - 0x4100) else s, 0)
  else none

/-- Effects of Thermal Unit, state machine and domain objects. -/
def State.effectStates (s : State) (idx sub v : Nat) : Option (State × Nat) :=
  if 0x3100 ≤ idx && idx ≤ 0x321F && sub == 8 then some (if v = 1 then s.rearmSensor (objSensor idx) else s, 0)
  else if idx == 0x3008 && sub == 8 then some (if v = 1 then s.coolantCommit else s, 0)
  else if idx == 0x3400 && sub == 8 then some (s.stateCommand v (s.obj 0x3400 9), 0)
  else if 0x3410 ≤ idx && idx ≤ 0x342F then
    match sub with
    | 3 => some (s.domainRequest (idx - 0x3410) v, 0)
    | 9 => some (if v = 1 then s.rearmDomain (idx - 0x3410) else s, 0)
    | _ => none
  else if idx == 0x1200 && sub == 5 then some ((s.setObj 0x1200 5 v).touch, 0)
  else none

/-- Effects of Registrar, recorder and time objects. -/
def State.effectFaults (s : State) (idx sub v : Nat) : Option (State × Nat) :=
  if idx == 0x5000 && sub == 1 then some (s.acknowledgeWord (BitVec.ofNat 64 v), 0)
  else if idx == 0x5400 && sub == 7 then
    some (if v = 1 then { s with recorder := { s.recorder with first := s.recorder.head + 1 } } else s, 0)
  else if idx == 0x5400 && sub == 8 then
    some (if v = 1 then { s with
      recorder := { s.recorder with vitrine := [], copying := false }
      poison := s.poison.filter (·.1 != .vitrine) } else s, 0)
  else if 0x5410 ≤ idx && idx ≤ 0x5413 && sub == 2 then some (if v = 1 then s.releaseDump (idx - 0x5410) else s, 0)
  else if idx == 0x1300 && sub == 4 then some (s.setTime (s.obj 0x1300 3) v, 0)
  else none

/-- Effects of Assayer objects. -/
def State.effectAssay (s : State) (idx sub v : Nat) : Option (State × Nat) :=
  if idx == 0x6002 && sub == 2 then some (if v = 1 then s.startSweep else s.abortSweep, 0)
  else if idx == 0x6003 && sub == 3 then some (if v = 1 then s.startKnown else s.stopRun, 0)
  else if idx == 0x6004 && sub == 1 then some (s.peerReported v, 0)
  else if 0x6300 ≤ idx && idx ≤ 0x633F then some ((s.setObj idx sub v).cleanse .library (idx - 0x6300), 0)
  else if 0x6010 ≤ idx && idx ≤ 0x610F && sub == 9 then some (if v = 1 then s.endQuarantine (idx - 0x6010) else s, 0)
  else none

/-- Effects of firmware, locks, authentication and service objects. -/
def State.effectHost (s : State) (sess idx sub v : Nat) (bs : List Byte) : Option (State × Nat) :=
  if idx == 0x1410 && sub == 1 then some (s.takeLock v sess, 0)
  else if idx == 0x1410 && sub == 2 then some (s.dropLock v, 0)
  else if idx == 0x1420 && sub == 2 then some (s.respond sess (BitVec.ofNat 256 v))
  else if idx == 0x1420 && sub == 4 then some (if v = 1 then s.endAuth sess else s, 0)
  else if 0x7410 ≤ idx && idx ≤ 0x7413 && sub == 0x0A then some (if v = 1 then s.releaseHeld (idx - 0x7410) else s, 0)
  else if idx == 0x7420 then
    match sub with
    | 1 => some (s.updateBegin v, 0)
    | 3 => some (s.updateLoad bs, 0)
    | 4 => some (if v = 1 then s.updateCheck else (if v = 2 then s.updateArm else s.updateDrop, 0))
    | _ => none
  else if idx == 0xF000 && sub == 3 then some (s.routeAtb (BitVec.ofNat 16 v), 0)
  else none

/-- What an accepted write does: an effect of its unit, else the object takes the value. -/
def State.writeEffect (s : State) (sess idx sub v : Nat) (bs : List Byte) : State × Nat :=
  let e : Option (State × Nat) :=
    if idx < 0x2000 then (s.effectHost sess idx sub v bs).or ((s.effectFaults idx sub v).or (s.effectStates idx sub v))
    else if idx < 0x2C00 then s.effectPower idx sub v
    else if idx < 0x3000 then s.effectTally idx sub v bs
    else if idx < 0x4000 then s.effectStates idx sub v
    else if idx < 0x5000 then s.effectLoop idx sub v
    else if idx < 0x6000 then s.effectFaults idx sub v
    else if idx < 0x7000 then s.effectAssay idx sub v
    else s.effectHost sess idx sub v bs
  e.getD (s.setObj idx sub v, 0)

/-! ### Reads -/

/-- `n` bytes of a buffer of `size` from offset `at_`. Bytes past its end are stated nowhere: free values. -/
def State.bufferBytes (s : State) (f : Nat → Byte) (size at_ n : Nat) : State × List Byte :=
  ({ s with free := if at_ + n ≤ size then s.free else s.free + n },
    (List.range n).map (fun i => if at_ + i < size then f (at_ + i) else BitVec.ofNat 8 (Free.value (s.free + i))))

/-- Each poisoned word of the capture buffer that a read covers is an event of pin 6 (08 R210, R217). -/
def State.bufferPoison (s : State) (at_ n : Nat) : State :=
  s.dEventsNow 6 (s.poison.filter (fun p => p.1 == .capture && at_ < 4 * p.2 + 4 && 4 * p.2 < at_ + n)).length

/-- A read of a record with poison is counted and is an event of pin 63 (12 R312). -/
def State.readPoison (s : State) (idx sub : Nat) : State :=
  let bad : Bool :=
    if idx == 0x5401 && sub == 2 then
      s.poisoned .daybook (s.obj 0x5401 1 % 8192) && (s.daybookRecord (s.obj 0x5401 1)).isSome
    else if idx == 0x5402 && sub == 2 then s.poisoned .vitrine (s.obj 0x5402 1) && s.obj 0x5402 1 < s.recorder.vitrine.length
    else false
  if bad then (s.bump 0x5400 6).dEvent 63 else s

/-- What an accepted read returns, with what reading changes. -/
def State.readEffect (s : State) (sess idx sub len : Nat) (r : ObjRow) : State × List Byte :=
  if idx == 0x1420 && sub == 1 then s.newChallenge sess
  else if idx == 0x4003 && sub == 2 then
    (s.bufferPoison (s.obj 0x4003 1) len).bufferBytes s.captureByte 262144 (s.obj 0x4003 1) len
  else if 0x5410 ≤ idx && idx ≤ 0x5413 && sub == 5 then
    s.bufferBytes (s.dumpByte (idx - 0x5410)) 16384 (s.obj idx 4) len
  else (s.readPoison idx sub, bytesLE r.ty.size (s.value sess idx sub))

/-! ### The two operations -/

/-- Subindex of 0x1402 that counts an abort code (15, abort-code list). -/
def codeCounter (code : Nat) : Nat :=
  match code with
  | 0x00010001 => 3
  | 0x00010002 => 4
  | 0x00020001 => 5
  | 0x00020002 => 6
  | 0x00030001 => 7
  | 0x00030002 => 8
  | 0x00040001 => 9
  | 0x00040002 => 0x0A
  | 0x00050001 => 0x0B
  | 0x00060001 => 0x0C
  | _ => 0x0D

/-- The answer to a late access comes at its bound of 100 us (R364). -/
def State.lateAnswer (s : State) : State :=
  if s.access.late then
    let s := s.atTime (s.tb.now + cycles 100000)
    { s with access := { s.access with late := false } }
  else s

/-- A refusal: counted, answered, nothing else (R362). -/
def State.refuse (s : State) (code : Nat) : State :=
  let s := if code = 0x00070001 then s.lateAnswer else s
  let s := s.bump 0x1402 (codeCounter code)
  let s := if code = 0x00050001 then s.bump 0x1100 9 else s
  { s with answer := { code := code, data := [] } }

/-- The code of a read (R362). `early` is the schema and epoch check of order 4. -/
def State.readCode (s : State) (sess idx sub len early : Nat) : Nat :=
  match objRow idx sub with
  | some r =>
    firstCode [s.presenceCode sess idx sub, early, readClassCode r, s.readAuthCode sess idx, readLengthCode r len,
      s.readStateCode idx sub, s.servingCode idx sub]
  | none => s.presenceCode sess idx sub

/-- A read of one subindex by a session (R363). -/
def State.readObject (s : State) (sess idx sub len early : Nat) : State :=
  let code := s.readCode sess idx sub len early
  if code != 0 then s.refuse code
  else
    match objRow idx sub with
    | some r =>
      let q := s.readEffect sess idx sub len r
      { q.1.bump64 0x1402 1 1 with answer := { code := 0, data := q.2 } }
    | none => s

/-- The checks of a write up to and including the state check (R362, R373). -/
def State.writeCodeEarly (s : State) (sess idx sub v len early : Nat) : Nat :=
  match objRow idx sub with
  | some r =>
    firstCode [s.presenceCode sess idx sub, early, writeClassCode r, s.writeAuthCode sess idx sub v, writeLengthCode r len,
      s.writeStateCode r idx sub v]
  | none => s.presenceCode sess idx sub

/-- The code of a write (R362). -/
def State.writeCode (s : State) (sess idx sub v len early : Nat) : Nat :=
  match objRow idx sub with
  | some r =>
    firstCode [s.writeCodeEarly sess idx sub v len early, s.writeRangeCode r idx sub v len, s.servingCode idx sub]
  | none => s.presenceCode sess idx sub

/-- What the refusal of a write counts beside its code (R361, 08 R209, 10 R263, 12 R313). -/
def State.refuseWrite (s : State) (idx sub code : Nat) : State :=
  let s := if code = 0x00040001 then s.bump 0x1402 0x0E else s
  let s := if idx == 0x3400 && sub == 8 then s.commandRefused code else s
  let s := if idx == 0x1300 && sub == 4 && code = 0x00030002 then s.bump 0x1300 6 else s
  let s := if 0x4100 ≤ idx && idx ≤ 0x419F && sub == 0x0C && code != 0x00050001 then
      let s := s.bump 0x4000 7
      if code = 0x00030002 then s.modLaw (idx - 0x4100) (fun v => { v with status := code }) else s
    else s
  s.refuse code

/-- A write of one subindex by a session (R361 to R363). -/
def State.writeObject (s : State) (sess idx sub : Nat) (bs : List Byte) (early : Nat) : State :=
  let v := natLE bs
  let code := s.writeCode sess idx sub v bs.length early
  if code != 0 then s.refuseWrite idx sub code
  else
    let q := s.writeEffect sess idx sub v bs
    if q.2 != 0 then q.1.refuseWrite idx sub q.2
    else { q.1.bump64 0x1402 2 1 with answer := { code := 0, data := [] } }

/-! ### Rows of the command table that write one object -/

/-- Whether a session's access reaches the object engine: it is open, GCLK runs, and COM presents what is not the object
window's (R363, 02 R48). -/
def State.presents (s : State) (sess : Nat) : Bool :=
  s.tb.gclk && s.gov.st != .off && s.sessionOpen sess && (sess == windowSession || s.comRuns)

/-- Bytes of a raw value in the size of its type; a value that does not fit makes a longer write. -/
def valueBytes (idx sub v : Nat) : List Byte :=
  match objRow idx sub with
  | some r => if v < 256 ^ r.ty.size then bytesLE r.ty.size v else bytesLE (r.ty.size + 1) v
  | none => bytesLE 1 v

/-- A session writes a value to an object. -/
def State.writeRow (s : State) (sess idx sub v : Nat) : Host.Outcome State Fault Refusal :=
  if s.presents sess then .next (s.touch.writeObject sess idx sub (valueBytes idx sub v) 0) else .next s

/-- A session writes bytes to an object. -/
def State.writeBytesRow (s : State) (sess idx sub : Nat) (bs : List Byte) : Host.Outcome State Fault Refusal :=
  if s.presents sess then .next (s.touch.writeObject sess idx sub bs 0) else .next s

/-- A session writes a state command (10 R263). -/
def State.commandRow (s : State) (sess code : Nat) : Host.Outcome State Fault Refusal := s.writeRow sess 0x3400 8 code

end Sys2Proof.Machine
end

