-- ==== Sys2Proof/Machine/G3.lean ====
section
/-! DEFINITION. The emulated G3 register block (14 R355, 18 R430 to R433), and the completion of a core's restart, with
which COM goes on to serve the accesses that wait (14 R345, R349). -/

namespace Sys2Proof.Machine

/-- Host interface mode: 0 messages, 1 emulation, 2 both (0x7400:01). -/
def State.emulates (s : State) : Bool := s.obj 0x7400 1 != 0

/-- G3 state code (R431). -/
def GovState.g3Code : GovState → Nat
  | .off => 0
  | .boot => 1
  | .standby | .sequencing | .service => 2
  | .ready | .run => 3
  | .limit => 4
  | .safe => 5
  | .trip | .cooldown => 6

/-! ### Reads -/

/-- An object read by the emulation session: the state after it and the raw value, 0 where it is refused. -/
def State.g3Get (s : State) (idx sub : Nat) : State × Nat :=
  let s := s.readObject emulSession idx sub 0 0
  (s, natLE s.answer.data)

/-- Rails whose POWER targets G3_PLIMIT stands for, and the law instance of each. -/
def powerLaw (r : Nat) : Nat := 0x4100 + (9 + 4 * r)

/-- The sum of the POWER targets of the rails in use (R430). -/
def State.g3Targets (s : State) : State × Nat :=
  s.railsUsed.foldl (fun q r =>
    let g := q.1.g3Get (powerLaw r) 0x0A
    (g.1, q.2 + g.2)) (s, 0)

/-- A value truncated towards zero and saturated to a field of 32 bits, unsigned or signed (R430). -/
def g3Unsigned (i : Int) : Nat := satU 32 i.toNat
def g3Signed (i : Int) : Nat := ofSigned 32 (satS 32 i)

/-- What a read of a G3 register returns (R430, R431). -/
def State.g3Value (s : State) (o : Nat) : State × Nat :=
  let conv (idx sub : Nat) (f : Nat → Nat) : State × Nat :=
    let g := s.g3Get idx sub
    (g.1, f g.2)
  if o = 0 then (s, 0x4E570304)
  else if o = 4 then
    let a := s.g3Get 0x3400 1
    let b := a.1.g3Get 0x3400 0x0F
    (b.1, s.gov.st.g3Code + natOfBool s.safeLatched * 2 ^ 8 + b.2 % 2 * 2 ^ 9)
  else if 0x010 ≤ o && o ≤ 0x01C && o % 4 = 0 then conv (0x2200 + (o - 0x010) / 4) 7 (fun v => v / 16)
  else if 0x020 ≤ o && o ≤ 0x02C && o % 4 = 0 then
    conv (0x2200 + (o - 0x020) / 4) 9 (fun v => g3Unsigned (Int.tdiv (toSigned 32 v) 100))
  else if o = 0x030 then
    let g := s.g3Targets
    (g.1, satU 32 (g.2 / 1000))
  else if o = 0x034 then conv 0x3000 0x15 (fun v => g3Signed (asr (toSigned 16 v) 3))
  else if o = 0x038 then conv 0x3001 1 (fun v => g3Signed (asr (toSigned 16 v) 3))
  else if o = 0x03C then conv 0x3001 3 (fun v => g3Signed (asr (toSigned 16 v) 3))
  else if o = 0x040 then conv 0x3001 7 (fun v => v / 8)
  else if o = 0x044 then (s, s.statusWord % 2 ^ 32)
  else if o = 0x048 then (s, s.statusWord / 2 ^ 32)
  else if o = 0x04C then conv 0x3000 0x0E id
  else if o = 0x050 then conv 0x5400 1 (fun v => v % 2 ^ 32)
  else (s, 0)

/-! ### Writes -/

/-- An emulated write that is refused: discarded and counted (R355). -/
def State.g3Refused (s : State) : State := s.bump 0x7400 8

/-- An object write by the emulation session; a value that its type does not hold is out of range. -/
def State.g3Put (s : State) (idx sub v : Nat) : State :=
  let s := s.writeObject emulSession idx sub (valueBytes idx sub v) 0
  if s.answer.code != 0 then s.g3Refused else s

/-- A threshold in 1/8 written to an object in 1/64 of `w` bits (R430). -/
def State.g3Scaled (s : State) (idx sub w : Nat) (v : Int) (signed : Bool) : State :=
  let fits : Bool := if signed then satS w v == v else v == satU w v.toNat
  if fits then s.g3Put idx sub (ofSigned w v) else (s.refuse 0x00030002).g3Refused

/-- G3_CTRL (R432). -/
def State.g3Ctrl (s : State) (w : Nat) : State :=
  if bit w 0 || bit w 1 then
    ({ s with gov := { s.gov with cmdStatus := 0x00040002 } } : State).g3Refused
  else if bit w 2 then s.g3Put 0x3400 8 5
  else s

/-- G3_PLIMIT (R433). -/
def State.g3Plimit (s : State) (p : Nat) : State :=
  let t := s.obj 0x2801 1
  if p = 0 || 13 * t < p * 10000 then s.g3Refused
  else each s.railsUsed (fun s r => s.g3Put (powerLaw r) 0x0A (p * 1000 * s.obj (0x2810 + r) 4 / t)) s

/-- A write of a G3 register (R430, R432, R433). -/
def State.g3Apply (s : State) (o w : Nat) : State :=
  if o = 0x008 then s.g3Ctrl w
  else if o = 0x030 then s.g3Plimit w
  else if o = 0x038 then s.g3Scaled 0x3001 1 16 (toSigned 32 w * 8) true
  else if o = 0x03C then s.g3Scaled 0x3001 3 16 (toSigned 32 w * 8) true
  else if o = 0x040 then s.g3Scaled 0x3001 7 16 ((w : Int) * 8) false
  else if o = 0x044 then s.g3Put 0x5000 1 w
  else if o = 0x048 then s.g3Put 0x5000 1 (w * 2 ^ 32)
  else s.g3Refused

/-! ### The queue (R355) -/

/-- COM serves one access. -/
def State.g3Serve (s : State) (a : G3Access) : State :=
  let s := s.bump64 0x7400 7 1
  if a.write then s.g3Apply a.offset (a.word.toNat % 2 ^ 32)
  else
    let g := s.g3Value a.offset
    { g.1 with host := { g.1.host with read := BitVec.ofNat 64 g.2 } }

/-- COM serves every access that waits, in arrival order. -/
def State.g3Drain (s : State) : State :=
  let all := s.host.queue ++ s.host.waiting
  each all State.g3Serve { s with host := { s.host with queue := [], waiting := [] } }

/-- An access to the block: refused in mode 0, else queued, or made to wait for a place, and served when COM runs. -/
def State.g3Access (s : State) (write : Bool) (o : Nat) (word : W64) : State :=
  if !s.emulates then
    if write then s.g3Refused else { s with host := { s.host with read := 0 } }
  else
    let a : G3Access := { write := write, offset := o, word := word, at_ := s.tb.now }
    let h := s.host
    let s : State :=
      if h.queue.length < 16 then { s with host := { h with queue := h.queue ++ [a] } }
      else { s with host := { h with waiting := h.waiting ++ [a] } }
    if s.comRuns then s.g3Drain else s

/-- A write of a G3 register through the port. -/
def State.g3Write (s : State) (o : Nat) (word : W64) : Host.Outcome State Fault Refusal :=
  s.onBus (.registerWrite (0x20000 + 2 * o) 0xFF word) (fun s => s.g3Access true o word)

/-- G3_READ (R355, R430). -/
def execG3Read (offset : Nat) (s : State) : Host.Outcome State Fault Refusal :=
  if offset < 0x10000 && offset % 4 = 0 then s.onBus (.g3Read offset) (fun s => s.g3Access false offset 0) else .next s

/-- Places in the queue taken by the accesses that wait. -/
def State.g3Refill (s : State) : State :=
  let room := 16 - s.host.queue.length
  { s with host := { s.host with queue := s.host.queue ++ s.host.waiting.take room, waiting := s.host.waiting.drop room } }

/-- An access that COM has not served, or that has found no place, 2 us after its issue (R355). -/
def State.g3Expire (s : State) (a : G3Access) : State :=
  let s := (s.atTime (a.at_ + 2016)).bump 0x7400 6
  let s : State := { s with host := { s.host with queue := s.host.queue.erase a, waiting := s.host.waiting.erase a } }
  let s := s.g3Refill
  if a.write then s else { s with host := { s.host with read := BitVec.allOnes 64 } }

/-- G3_READ_TIMEOUT (R355): the oldest read not served returns all ones. -/
def execG3ReadTimeout (s : State) : Host.Outcome State Fault Refusal :=
  match (s.host.queue ++ s.host.waiting).find? (fun a => !a.write) with
  | some a => .next (s.g3Expire a)
  | none => .next s

/-- G3_WRITE_QUEUE_TIMEOUT (R355): the oldest write that has found no place is discarded. -/
def execG3WriteQueueTimeout (s : State) : Host.Outcome State Fault Refusal :=
  match s.host.waiting.find? (fun a => a.write) with
  | some a => .next (s.g3Expire a)
  | none => .next s

/-- G3_POWER_REQUEST (R432): a write of G3_CTRL. -/
def execG3PowerRequest (word : W64) (s : State) : Host.Outcome State Fault Refusal := s.g3Write 0x008 word

/-- G3_PLIMIT_WRITE (R433). -/
def execG3PlimitWrite (word : W64) (s : State) : Host.Outcome State Fault Refusal := s.g3Write 0x030 word

/-- Offset of a threshold register. -/
def g3ThresholdOffset : G3Threshold → Nat
  | .warn => 0x038
  | .throttle => 0x03C
  | .ror => 0x040

/-- G3_THRESHOLD_WRITE (R430). -/
def execG3ThresholdWrite (reg : G3Threshold) (word : W64) (s : State) : Host.Outcome State Fault Refusal :=
  s.g3Write (g3ThresholdOffset reg) word

/-- G3_FAULT_CLEAR (R430): a write of G3_FAULT_LO or G3_FAULT_HI. -/
def execG3FaultClear (high : Bool) (word : W64) (s : State) : Host.Outcome State Fault Refusal :=
  s.g3Write (if high then 0x048 else 0x044) word

/-! ### A core's restart completes -/

/-- CORE_RESTART_COMPLETE (14 R345, R349, R355): the kernel has set its running flag; an activated update enters probation. -/
def execCoreRestartComplete (core : Nat) (s : State) : Host.Outcome State Fault Refusal :=
  let v := s.core core
  if core < 4 && v.st == .restarting then
    let s := s.setCore core { v with st := .running, lastRestart := nsOf (s.tb.now - v.trapAt) }
    let s := s.wakeTarget core
    let s := if core = 3 then (s.comUp (s.tb.now - v.trapAt)).g3Drain else s
    .next (if s.update.restarting && s.update.target == core then
        { s with update := { s.update with status := 4, restarting := false, probEnd := s.tb.now + s.cyc 0x7420 6 } }
      else s)
  else .next s

end Sys2Proof.Machine
end

