-- ==== Sys2Proof/Machine/Lanes.lean ====
section
/-! DEFINITION. Phase Link's events (03): stage faults and their retry, open lanes, sense failure, wake and park times,
and the f_sw boundary. -/

namespace Sys2Proof.Machine

/-- Whether pl_flt_n of a lane is watched for a new stage fault: pl_en is high and its wake time has passed, or the lane
is re-enabled by a retry (03 R53, R67). -/
def Lane.watched (l : Lane) : Bool := (l.st.enabled && l.wakeEnd.isNone) || (l.st == .retry && l.retry == .enabled)

/-- Whether an assertion now falls within the retry observation time (03 R67). -/
def Lane.observed (l : Lane) (now : Nat) : Bool :=
  match l.observing with
  | some t => now ≤ t
  | none => false

/-- A stage fault that gets its retry: RETRY, out of the running set, the rail derated (03 R66). -/
def State.startRetry (s : State) (n : Nat) : State :=
  let r := s.laneRail n
  let before := s.laneCapacity r
  let ran := (s.lane n).st.running
  let s := s.modLane n (fun l => { l.stop .retry with retry := .waiting, faultAt := s.tb.now })
  let s := (s.modRail r (fun v => { v with
    reLane := v.reLane || ran, plan := min v.plan (s.availableLanes r).length })).abortShed r
  (s.capacityCheck r before).floorCheck r

/-- Whether an open fault of a lane is lasting in this cycle: four near-zero periods, in a Cooper window (03 R69). -/
def State.openNow (s : State) (n : Nat) : Bool :=
  (s.lane n).st == .active && 4 ≤ (s.lane n).nearRun && s.tb.fStart + 132 ≤ s.tb.now && s.tb.now ≤ s.tb.fStart + 167

/-- STAGE_FAULT (03 R66, R67, R71, R77): pl_flt_n low for 8 cycles on a watched lane. Lasting at once on a BLIND lane, within
the retry observation time, and with a lasting open fault in the same cycle, which the record names; otherwise the lane takes
its retry. -/
def execStageFault (lane : Nat) (s : State) : Host.Outcome State Fault Refusal :=
  let l := s.lane lane
  if lane < s.laneCount && l.watched then
    if l.st == .blind || l.observed s.tb.now || s.openNow lane then .next (s.faultLane lane 7 1)
    else .next (s.startRetry lane)
  else .next s

/-- STAGE_FAULT_RETRY_ENABLE (03 R67): pl_flt_n has been high for the retry delay since its release, and pl_en rises. One that had
not been released by the release limit is not retried. -/
def execStageFaultRetryEnable (q : StageRelease) (s : State) : Host.Outcome State Fault Refusal :=
  let l := s.lane q.lane
  if l.st == .retry && l.retry == .waiting && q.low < s.cyc 0x2000 5 then
    let s := s.atTime (l.faultAt + q.low + s.cyc 0x2000 3)
    .next (s.setLane q.lane { l with
      retry := .enabled
      wakeEnd := some (s.tb.now + cycles (s.obj (0x2100 + q.lane) 0x0A))
      observing := some (s.tb.now + s.cyc 0x2000 4) })
  else .next s

/-- STAGE_FAULT_RELEASE_LIMIT (03 R67): pl_flt_n low for the release limit without ever releasing. -/
def execStageFaultReleaseLimit (lane : Nat) (s : State) : Host.Outcome State Fault Refusal :=
  let l := s.lane lane
  if l.st == .retry && l.retry == .waiting then
    .next ((s.atTime (l.faultAt + s.cyc 0x2000 5)).faultLane lane 7 1)
  else .next s

/-- STAGE_FAULT_RETRY_OBSERVATION_END (03 R67): no second assertion within the observation time, so the event was
transient. -/
def execStageFaultRetryObservationEnd (lane : Nat) (s : State) : Host.Outcome State Fault Refusal :=
  let l := s.lane lane
  match l.observing with
  | some t =>
    let s := s.atTime t
    .next (((s.setLane lane { l with observing := none }).bump (0x2100 + lane) 0x10).transient 7)
  | none => .next s

/-- LANE_WAKE_END (03 R52, R67, 04 R442): the lane becomes WARM; a selected one runs from the next F-frame tick. The park
time of a lane woken for a forecast counts from the last C-frame with a step. A lane that comes WARM out of a stage-fault
retry is parked like a shed one (DESIGN CHOICE, log 128). -/
def execLaneWakeEnd (lane : Nat) (s : State) : Host.Outcome State Fault Refusal :=
  let l := s.lane lane
  match l.wakeEnd with
  | some t =>
    let s := s.atTime t
    .next (s.setLane lane { l with
      st := .warm
      wakeEnd := none
      retry := .none
      parkEnd := if l.startDue then none else if l.forecastWake then l.parkEnd else some (s.tb.now + s.cyc 0x2000 2) })
  | none => .next s

/-- WARM_PARK_EXPIRY (03 R52): a parked lane that no add has selected becomes COLD. -/
def execWarmParkExpiry (lane : Nat) (s : State) : Host.Outcome State Fault Refusal :=
  let l := s.lane lane
  match l.parkEnd with
  | some t =>
    if l.st == .warm && !l.startDue then
      .next ((s.atTime t).setLane lane { l.stop .cold with observing := l.observing })
    else .next s
  | none => .next s

/-- LANE_OPEN (03 R69): four consecutive near-zero periods are lasting. -/
def execLaneOpen (lane : Nat) (s : State) : Host.Outcome State Fault Refusal :=
  if (s.lane lane).st == .active && 4 ≤ (s.lane lane).nearRun then .next (s.faultLane lane 8 2) else .next s

/-- LANE_SENSE_FAILURE (03 R70 to R72): a failing sample of the retry makes the lane BLIND; with another BLIND lane on the
rail both stop at the next f_sw boundary. -/
def execLaneSenseFailure (lane : Nat) (s : State) : Host.Outcome State Fault Refusal :=
  let l := s.lane lane
  if l.st == .active && l.senseLost then
    let r := s.laneRail lane
    let before := s.laneCapacity r
    let pa := s.lanePa lane
    let other := (s.railLanes r).any (fun n => (s.lane n).st == .blind)
    let s := s.setLane lane { l with
      st := .blind, cause := 3, retrying := false, retryLeft := 0, senseLost := false, badRun := 0, nearRun := 0
      tacc := 0, trim := 0 }
    let s := if other then (s.modRail r (fun v => { v with pairShed := true })).abortShed r else s
    let s := (s.capacityCheck r before).unlearn r 6
    .next (s.trigger 9 1 r 3 pa)
  else .next s

/-- Whether open detection is suspended on a lane: from its first implausible sample until it is ACTIVE again (03 R70). -/
def Lane.openSuspended (l : Lane) : Bool := l.badRun != 0 || l.retrying || l.senseLost

/-- Near-zero evaluation of one lane over the period that ends (03 R68, R69), and the marks of the next period, whose first
sample is the one just latched. A period that fails the third condition and one of the first two resets the count, and a
period in which open detection was suspended leaves it (DESIGN CHOICE, log 128). -/
def State.endPeriod (s : State) (n : Nat) : State :=
  let l := s.lane n
  let t := s.stepsNow
  let near := l.ranAll && l.begun t && t ≤ l.lead + periodSteps (s.rail (s.laneRail n)).code && l.below
  let run := if l.openHeld || l.openSuspended then l.nearRun else if !near then 0 else if l.loaded then l.nearRun + 1
    else l.nearRun
  let s := s.setLane n { l with
    nearRun := run
    openHeld := l.openSuspended
    below := l.current < s.openThreshold n
    loaded := s.loadedNow n
    ranAll := l.st == .active }
  let s := if run = 2 && l.nearRun = 1 then s.bump (0x2100 + n) 0x0F else s
  if run = 0 && 2 ≤ l.nearRun then s.transient 8 else s

/-- The pair of BLIND lanes of a rail becomes FAULTED with cause 4 (03 R72). -/
def State.shedBlindPair (s : State) (r : Nat) : State :=
  let pair := (s.railLanes r).filter (fun n => (s.lane n).st == .blind)
  let ts := pair.map (fun n => (r, s.lanePa n))
  let s := each pair (fun s n => s.modLane n (fun l => { l.stop .faulted with cause := 4 })) s
  let s := s.modRail r (fun v => { v with pairShed := false, plan := min v.plan (s.availableLanes r).length })
  (s.triggerAll 9 1 4 ts).floorCheck r

/-- A shed takes effect: the highest-numbered running lanes above the new count become WARM (04 R101, R102). A BLIND lane
stays BLIND (03 R71), so the lanes that stop are ACTIVE ones (DESIGN CHOICE, log 128). -/
def State.applyShed (s : State) (r count : Nat) : State :=
  let act := (s.runningLanes r).filter (fun n => (s.lane n).st == .active)
  let s := each (act.drop (act.length - ((s.runningLanes r).length - count))) (fun s n => s.parkLane n) s
  s.modRail r (fun v => { v with shed := none, plan := count, dwell := 0, dwellMax := 0 })

/-- What a rail's f_sw boundary does in its cycle. -/
def State.fSwBoundary (s : State) (rail : Nat) : State :=
  let s := each ((s.railLanes rail).filter (fun n => (s.lane n).st == .active)) (fun s n => s.endPeriod n) s
  let s := if (s.rail rail).pairShed then s.shedBlindPair rail else s
  let s := match (s.rail rail).shed with
    | some count => s.applyShed rail count
    | none => s
  let s := if (s.rail rail).stepDue then s.loadStep rail else s
  let s := (s.modRail rail (fun v => { v with reLane := false })).reinterleave rail
  (each (s.runningLanes rail) (fun s n => s.nextPeriod n) s)

/-- F_SW_BOUNDARY (03 R54, R58, R68 to R72, 04 R101): the period that ends is evaluated, then every change of the lane count
is applied in one re-interleave, and the next period of every running lane begins. -/
def execFSwBoundary (rail : Nat) (s : State) : Host.Outcome State Fault Refusal :=
  if s.railUsed rail && s.atBoundary rail then .next (s.oneCycle (fun s => s.fSwBoundary rail))
  else .next s

end Sys2Proof.Machine
end

