-- ==== Sys2Proof/Machine/Mailbox.lean ====
section
/-! DEFINITION. Mailbox channels (13 R330 to R337): posting, taking, freeing, acknowledgements, timeouts. -/

namespace Sys2Proof.Machine

/-- A write to a register of a channel by the agent named in its Meaning; on an unused channel it is discarded and counted
in 0x7490:06, by another agent in 0x7500+c:0E (R330, 13 Mailbox registers). -/
def State.onChannel (s : State) (c : Nat) (own : Bool) (f : State → State) : State :=
  if !s.channelUsed c then s.bump 0x7490 6
  else if !own then s.bump (0x7500 + c) 0x0E
  else f s

/-- A write of a channel register by command `i`, when it reaches the block. -/
def State.channelWrite (s : State) (i : Instr) (c : Nat) (own : Bool) (f : State → State) : Host.Outcome State Fault Refusal :=
  if c < 64 then s.onBus i (fun s => s.onChannel c own f) else .next s

/-- Whether the message lies within the channel's region and is long enough for a header (R331). -/
def State.messageFits (s : State) (c off len : Nat) : Bool :=
  let base := s.obj (0x7500 + c) 3
  24 ≤ len && base ≤ off && off + len ≤ base + s.obj (0x7500 + c) 4

/-- A byte of the message RAM as the host reads it, and COM a header: 0 in a word with poison (18 R428). -/
def State.messageByte (s : State) (off : Nat) : Byte := if s.poisoned .message (off / 8) then 0 else mread s.mram off

/-- The words with poison among `n` bytes of the message RAM at an offset. -/
def State.messagePoison (s : State) (off n : Nat) : Nat :=
  ((List.range ((off + n + 7) / 8 - off / 8)).filter (fun i => s.poisoned .message (off / 8 + i))).length

/-- Bytes that a core writes to the message RAM; a word written whole loses its poison (18 R428). -/
def State.fillMessage (s : State) (off : Nat) (bs : List Byte) : State :=
  { s with
    mram := mwriteBytes s.mram off bs
    poison := s.poison.filter (fun p => !(p.1 == .message && off ≤ 8 * p.2 && 8 * p.2 + 8 ≤ off + bs.length)) }

/-- Firmware writes the message it has formed for a channel before it posts it (R331, R338). -/
def State.placeReply (s : State) (c off len : Nat) : State :=
  match s.replies.find? (fun r => r.channel == c) with
  | some r => { s.fillMessage off (r.bytes.take len) with replies := s.replies.erase r }
  | none => s

/-- A post that is accepted (R331). -/
def State.acceptPost (s : State) (c slot off len : Nat) : State :=
  let old := (s.channel c).slot slot
  let s := if old.st == .posted then s.bump (0x7500 + c) 0x0C else s
  let v : Slot := {
    st := .posted
    offset := off
    length := len
    epoch := s.epoch (s.sender c)
    due := s.tb.now + s.cyc (0x7500 + c) 5 }
  let s := (s.modChannel c (fun ch => ch.setSlot slot v)).bump (0x7500 + c) 6
  if (s.channel c).mask.getLsbD slot then s else s.signal c

/-- A post: accepted into a FREE or ORPHANED slot when the message fits, else refused and one event of pin 57 (R331). -/
def State.post (s : State) (c slot off len : Nat) : State :=
  let v := (s.channel c).slot slot
  if (v.st == .free || (v.st == .posted && v.orphaned)) && s.messageFits c off len then
    let s := if s.sender c < 4 then s.placeReply c off len else s
    s.acceptPost c slot off len
  else (s.bump (0x7500 + c) 7).dEvent 57

/-- POST (R331): a write of MBX_POST. -/
def execPost (agent channel : Nat) (word : W64) (s : State) : Host.Outcome State Fault Refusal :=
  let w := word.toNat
  s.channelWrite (.post agent channel word) channel (s.sender channel == agent) (fun s => s.post channel (bits w 52 48) (bits w 15 0) (bits w 47 32))

/-- The word a take returns for a notice (13, MBX_TAKE). -/
def takeWordOf (slot : Nat) (v : Slot) : W64 :=
  BitVec.ofNat 64 (2 ^ 63 + natOfBool v.stale * 2 ^ 62 + natOfBool v.orphaned * 2 ^ 61 + slot % 32 * 2 ^ 48
    + v.length % 2 ^ 16 * 2 ^ 32 + v.epoch % 2 ^ 16 * 2 ^ 16 + v.offset % 2 ^ 16)

/-- What a take read of a channel returns. -/
def State.takeReads (s : State) (c : Nat) (w : W64) : State := s.modChannel c (fun ch => { ch with takeWord := w })

/-- A notice taken: acknowledged by hardware, or, with the ORPHANED mark, freed at once (R332). -/
def State.takeNotice (s : State) (c slot : Nat) : State :=
  let v := (s.channel c).slot slot
  let s := (s.takeReads c (takeWordOf slot v)).bump (0x7500 + c) 8
  if v.orphaned then s.modChannel c (fun ch => ch.setSlot slot {})
  else
    (s.modChannel c (fun ch =>
      { ch.setSlot slot { v with st := .taken } with ack := ch.ack ||| (1#64 <<< slot) })).signal (0x080 + c)

/-- TAKE (R332): a read of MBX_TAKE by the receiver; a read by another agent returns 0 and is counted. -/
def execTake (agent channel : Nat) (s : State) : Host.Outcome State Fault Refusal :=
  if 64 ≤ channel then .next s
  else s.onBus (.take agent channel) (fun s =>
    let nothing := s.takeReads channel 0
    if !s.channelUsed channel then nothing
    else if s.receiver channel != agent then nothing.bump (0x7500 + channel) 0x0E
    else
      match (s.channel channel).slotsWith (fun v => v.st == .posted) with
      | b :: _ => s.takeNotice channel b
      | [] => nothing)

/-- The TAKEN slots named by a word become FREE (R333). -/
def State.freeSlots (s : State) (c : Nat) (word : W64) : State :=
  s.modChannel c (fun ch =>
    each (ch.slotsWith (fun v => v.st == .taken)) (fun ch b => if word.getLsbD b then ch.setSlot b {} else ch) ch)

/-- FREE (R333): a write of MBX_FREE by the receiver. -/
def execFree (agent channel : Nat) (word : W64) (s : State) : Host.Outcome State Fault Refusal :=
  s.channelWrite (.free agent channel word) channel (s.receiver channel == agent) (fun s => s.freeSlots channel word)

/-- ACK_CLEAR (R336, R337): the sender writes 1 to bits of MBX_ACK. -/
def execAckClear (agent channel : Nat) (word : W64) (s : State) : Host.Outcome State Fault Refusal :=
  s.channelWrite (.ackClear agent channel word) channel (s.sender channel == agent) (fun s =>
    s.modChannel channel (fun ch => { ch with ack := ch.ack &&& ~~~word }))

/-- TOST_CLEAR (R334, R337): the sender writes 1 to bits of MBX_TOST. -/
def execTostClear (agent channel : Nat) (word : W64) (s : State) : Host.Outcome State Fault Refusal :=
  s.channelWrite (.tostClear agent channel word) channel (s.sender channel == agent) (fun s =>
    s.modChannel channel (fun ch => { ch with tost := ch.tost &&& ~~~word }))

/-- MBX_MASK written; a POSTED notice that it unmasks signals the notice source (R317). -/
def State.maskNotices (s : State) (c : Nat) (word : W64) : State :=
  let ch := s.channel c
  let m : W64 := word &&& 0xFFFFFFFF#64
  let unmasked : Bool := (List.range 32).any (fun b => (ch.slot b).st == .posted && ch.mask.getLsbD b && !m.getLsbD b)
  let s := s.setChannel c { ch with mask := m }
  if unmasked then s.signal c else s

/-- MAILBOX_MASK_WRITE (R317): the receiver writes MBX_MASK. -/
def execMailboxMaskWrite (agent channel : Nat) (word : W64) (s : State) : Host.Outcome State Fault Refusal :=
  s.channelWrite (.mailboxMaskWrite agent channel word) channel (s.receiver channel == agent) (fun s => s.maskNotices channel word)

/-- A notice withdrawn by its timeout (R334). -/
def State.withdrawNotice (s : State) (c slot : Nat) : State :=
  let s := s.modChannel c (fun ch => { ch.setSlot slot {} with tost := ch.tost ||| (1#64 <<< slot) })
  ((s.bump (0x7500 + c) 9).dEvent 57).signal (0x080 + c)

/-- NOTICE_TIMEOUT (R334): a POSTED notice without the ORPHANED mark whose timer expires. -/
def execNoticeTimeout (channel slot : Nat) (s : State) : Host.Outcome State Fault Refusal :=
  let v := (s.channel channel).slot slot
  if channel < 64 && slot < 32 && s.tb.gclk && v.st == .posted && !v.orphaned then
    .next ((s.atTime v.due).withdrawNotice channel slot)
  else .next s

end Sys2Proof.Machine
end

