-- ==== Sys2Proof/Machine/Messages.lean ====
section
/-! DEFINITION. What COM does with the mailbox messages it has taken: object access, attach, heartbeat, detach, and the
heartbeats and loss timers of host sessions (13 R338, 14 R351 to R353, 15 Object-access messages). -/

namespace Sys2Proof.Machine

/-- The header of a message (13 Message header). -/
structure MsgHeader where
  version : Nat
  flags   : Nat
  size    : Nat
  kind    : Nat
  session : Nat
  length  : Nat
  seq     : Nat
  deriving DecidableEq, Repr

def msgObjectRead : Nat := 0x0001
def msgObjectWrite : Nat := 0x0002
def msgStateCommand : Nat := 0x0003
def msgAttach : Nat := 0x0010
def msgHeartbeat : Nat := 0x0011
def msgDetach : Nat := 0x0012

/-- A request type that COM serves, from the direction column of the message types. -/
def msgKnown (kind : Nat) : Bool :=
  kind == msgObjectRead || kind == msgObjectWrite || kind == msgStateCommand || kind == msgAttach || kind == msgHeartbeat
    || kind == msgDetach

/-- The header at an offset of the message RAM. -/
def State.header (s : State) (off : Nat) : MsgHeader :=
  let field (a n : Nat) : Nat := natLE ((List.range n).map (fun i => s.messageByte (off + a + i)))
  { version := field 0 1, flags := field 1 1, size := field 2 2, kind := field 4 2, session := field 6 2,
    length := field 8 4, seq := field 12 4 }

/-- The payload of a message at an offset. -/
def State.payload (s : State) (off : Nat) (h : MsgHeader) : List Byte := mreadBytes s.mram (off + 24) h.length

/-- Bytes of a message (13 Message header). -/
def msgBytes (flags kind session seq reqseq status : Nat) (payload : List Byte) : List Byte :=
  bytesLE 1 3 ++ bytesLE 1 flags ++ bytesLE 2 24 ++ bytesLE 2 kind ++ bytesLE 2 session ++ bytesLE 4 payload.length
    ++ bytesLE 4 seq ++ bytesLE 4 reqseq ++ bytesLE 4 status ++ payload

/-- The channel that runs the reverse way of a channel (13 Mailbox channels). -/
def pairedChannel (c : Nat) : Nat := if c % 2 = 0 then c + 1 else c - 1

/-- A message formed for a channel; its sender chooses the sequence. -/
def State.formMessage (s : State) (c flags kind session reqseq status : Nat) (payload : List Byte) : State :=
  let m : Reply := { channel := c, bytes := msgBytes flags kind session (Free.value s.free) reqseq status payload }
  { s with
    free := s.free + 1
    replies := s.replies ++ [m] }

/-- The one reply to a request that expects one (R338); a reply is answered by none. -/
def State.reply (s : State) (c : Nat) (h : MsgHeader) (status : Nat) (payload : List Byte) : State :=
  if bit h.flags 1 || bit h.flags 0 then s else s.formMessage (pairedChannel c) 1 h.kind h.session h.seq status payload

/-- A header that COM refuses: status 0x0006_0001 or 0x0001_0001, counted in 0x7500+c:0F (R338). -/
def headerStatus (h : MsgHeader) : Nat :=
  if h.version != 3 || h.size != 24 then 0x00060001 else codeIf (!msgKnown h.kind) 0x00010001

/-- Why a request of a pair is refused before it is served: its session, and a payload that its notice does not cover
(R338, R351). -/
def State.requestStatus (s : State) (c len : Nat) (h : MsgHeader) : Nat :=
  let own : Bool :=
    match s.host.sessions.find? (fun p => p.1 == c) with
    | some p => p.2.id == h.session
    | none => false
  if h.kind != msgAttach && !own then 0x00060001 else codeIf (len < 24 + h.length) 0x00030001

/-- COM serves a message that it has taken, if it is of the kind `kind`: a bad header and a bad session are answered with
their status, and a reply is served by `f` too where it is one that COM awaits. A header word with poison is read as zero
and is an event of pin 62; a payload with poison ends COM's component before it has served the message, by a
COMPONENT_FAULT of its own (R343, 18 R428; DEDUCED, log 136). -/
def State.serve (s : State) (c slot kind : Nat) (f : State → MsgHeader → List Byte → State) :
    Host.Outcome State Fault Refusal :=
  let v := (s.channel c).slot slot
  let h := s.header v.offset
  if !(c < 64 && slot < 32 && s.comRuns && s.channelUsed c && s.receiver c == 3 && v.st == .taken) then .next s
  else if headerStatus h != 0 then
    .next (((each (List.range (s.messagePoison v.offset 24)) (fun s _ => s.dEvent 62) s).bump (0x7500 + c) 0x0F).reply c h (headerStatus h) [])
  else if h.kind != kind || (bit h.flags 0 && kind != msgHeartbeat) then .next s
  else if s.requestStatus c v.length h != 0 then .next (s.reply c h (s.requestStatus c v.length h) [])
  else if s.messagePoison v.offset (24 + h.length) != 0 then .next s
  else .next (f s h (s.payload v.offset h))

/-- OBJECT_READ (R338, 15 Object-access messages). -/
def execObjectRead (channel slot : Nat) (s : State) : Host.Outcome State Fault Refusal :=
  s.serve channel slot msgObjectRead (fun s h p =>
    if p.length < 8 then s.reply channel h 0x00030001 (bytesLE 4 0)
    else
      let s := s.readObject h.session (natLE (p.take 2)) (natLE ((p.drop 2).take 1)) (natLE ((p.drop 4).take 2)) 0
      s.reply channel h s.answer.code (bytesLE 4 s.answer.data.length ++ s.answer.data))

/-- OBJECT_WRITE (R338, 15 Object-access messages). -/
def execObjectWrite (channel slot : Nat) (s : State) : Host.Outcome State Fault Refusal :=
  s.serve channel slot msgObjectWrite (fun s h p =>
    let n := natLE ((p.drop 4).take 4)
    if p.length < 8 || p.length - 8 < n then s.reply channel h 0x00030001 []
    else
      let s := s.writeObject h.session (natLE (p.take 2)) (natLE ((p.drop 2).take 1)) ((p.drop 8).take n) 0
      s.reply channel h s.answer.code [])

/-! ### Attach, heartbeat, detach -/

/-- Release and configuration epoch as an Attach reply carries them. -/
def oxgVersion : Nat := 0x00040200

/-- Why an Attach is refused (R351). -/
def State.attachStatus (s : State) (c period release : Nat) : Nat :=
  if release / 2 ^ 8 % 2 ^ 24 != oxgVersion / 2 ^ 8 then 0x00060001
  else if thas s.host.sessions c || 4 ≤ s.host.sessions.length then 0x00040002
  else codeIf (period != 0 && (period < 10 || 1000 < period)) 0x00030002

/-- The session that an accepted Attach opens (R351), and the Attach reply. -/
def State.openMail (s : State) (c : Nat) (h : MsgHeader) (driver period : Nat) (asks : Bool) : State :=
  let n := s.assignId
  let granted : Bool := asks && !(s.host.sessions.any (fun p => p.2.metering))
  let v : HostSession := {
    id := n.1
    driver := driver
    period := if period = 0 then 100 else period
    metering := granted
    beatAt := s.tb.now
    sentAt := s.tb.now }
  let s := n.2
  let s : State := { s with host := { s.host with hostState := 1, sessions := tset s.host.sessions c v } }
  let s := s.dropCause 56 0 0
  s.reply c h 0
    (bytesLE 2 n.1 ++ bytesLE 2 (s.epoch 4) ++ bytesLE 2 v.period ++ bytesLE 1 s.gov.st.code ++ bytesLE 1 (natOfBool granted)
      ++ bytesLE 4 oxgVersion ++ bytesLE 4 (s.obj 0x1000 5))

/-- ATTACH (R351). -/
def execAttach (channel slot : Nat) (s : State) : Host.Outcome State Fault Refusal :=
  if s.sender channel != 4 then .next s
  else s.serve channel slot msgAttach (fun s h p =>
    let field (a n : Nat) : Nat := natLE ((p.drop a).take n)
    if p.length < 12 then s.reply channel h 0x00030001 []
    else
      let status := s.attachStatus channel (field 4 2) (field 8 4)
      if status != 0 then s.reply channel h status []
      else s.openMail channel h (field 0 4) (field 4 2) (bit (field 6 2) 0))

/-- The loss timer of a session restarted (R352). -/
def State.beat (s : State) (c : Nat) : State :=
  { s with host := { s.host with
    sessions := s.host.sessions.map (fun p => if p.1 = c then (p.1, { p.2 with beatAt := s.tb.now }) else p) } }

/-- HEARTBEAT (R352): a request, which is answered with no payload, or a reply to COM's own. -/
def execHeartbeat (channel slot : Nat) (s : State) : Host.Outcome State Fault Refusal :=
  s.serve channel slot msgHeartbeat (fun s h _ =>
    let s := s.beat channel
    if bit h.flags 0 then s else s.reply channel h 0 [])

/-- DETACH (R351, R353): the session closes; after the last one the host is detached. -/
def execDetach (channel slot : Nat) (s : State) : Host.Outcome State Fault Refusal :=
  s.serve channel slot msgDetach (fun s h _ =>
    let s := s.closeMail channel
    let s := if s.host.sessions.isEmpty then { s with host := { s.host with hostState := 2 } } else s
    s.reply channel h 0 [])

/-- A time in ms as GCLK cycles. -/
def msCycles (ms : Nat) : Nat := cycles (ms * 1000000)

/-- HEARTBEAT_SEND (R352): at a session's period COM sends a Heartbeat on its pair. -/
def execHeartbeatSend (sess : Nat) (s : State) : Host.Outcome State Fault Refusal :=
  match s.mailSession sess with
  | some p =>
    if s.comRuns then
      let s := s.atTime (p.2.sentAt + msCycles p.2.period)
      let count := (s.host.beats + 1) % 2 ^ 32
      let s : State := { s with host := { s.host with
        beats := count
        sessions := tset s.host.sessions p.1 { p.2 with sentAt := s.tb.now } } }
      .next (s.formMessage (pairedChannel p.1) 0 msgHeartbeat sess 0 0
        (bytesLE 2 (s.epoch 3) ++ bytesLE 1 s.gov.st.code ++ bytesLE 1 s.highestLevel ++ bytesLE 4 count))
    else .next s
  | none => .next s

/-- HOST_LOST (R353): a session's loss timer reaches the loss multiple of its period. -/
def execHostLost (sess : Nat) (s : State) : Host.Outcome State Fault Refusal :=
  match s.mailSession sess with
  | some p =>
    if s.comRuns then
      let s := s.atTime (p.2.beatAt + msCycles (s.obj 0x7400 2 * p.2.period))
      let s := (s.epochChange 4).closeAllMail
      let s : State := { s with host := { s.host with hostState := 3 } }
      .next ((s.bump 0x7400 5).raiseCause 56 0 0 0 0)
    else .next s
  | none => .next s

end Sys2Proof.Machine
end

