-- ==== Sys2Proof/Machine/Muriri.lean ====
section
/-! DEFINITION. Muriri over the management port (15 R368 to R376, R378, R382): frames, sessions, requests, segmented
transfers, events. MAC addresses are numbers whose least significant byte is the first one. -/

namespace Sys2Proof.Machine

/-! ### Frames -/

def broadcastMac : Nat := 0xFFFFFFFFFFFF

/-- A field of a frame body. -/
def field (b : List Byte) (a n : Nat) : Nat := natLE ((b.drop a).take n)

/-- The body of a received frame; what follows it is padding. -/
def bodyOf (f : Frame) : List Byte := f.body.take f.bodyLen

/-- The 16-byte header (15 Frames). -/
def headerBytes (version kind session seq bodyLen schema flags epoch : Nat) : List Byte :=
  bytesLE 1 version ++ bytesLE 1 kind ++ bytesLE 2 session ++ bytesLE 2 seq ++ bytesLE 2 bodyLen ++ bytesLE 2 schema
    ++ bytesLE 2 flags ++ bytesLE 4 epoch

/-- The 16-byte entries of a BUDGET: reserved fields 0. -/
def budgetEntriesClean (b : List Byte) (n : Nat) : Bool :=
  (List.range n).all (fun i => field b (12 + 16 * i + 1) 1 < 4 && field b (12 + 16 * i + 10) 6 == 0)

/-- Whether the body of a kind lacks a field that the kind has, or a reserved field of it is not 0; true for a kind that
the Governor does not receive (R369, 16 Messages). -/
def bodyBad (kind : Nat) (b : List Byte) : Bool :=
  let n := b.length
  match kind with
  | 0x01 => n < 8 || field b 4 4 != 0
  | 0x02 => false
  | 0x10 => n < 4 || field b 3 1 != 0
  | 0x11 => n < 4 || n < 4 + field b 3 1
  | 0x12 | 0x13 => n < 6 || field b 3 1 != 0
  | 0x14 => n < 8 || 1 < field b 3 1 || field b 6 2 != 0 || n < 8 + field b 4 2
  | 0x15 => n < 4 || field b 3 1 != 0
  | 0x16 => n < 8 || field b 2 2 != 0
  | 0x31 => n < 8 || field b 6 2 != 0
  | 0x40 => n < 16 || field b 8 8 != 0
  | 0x41 => n < 12 || field b 10 2 != 0 || n < 12 + 16 * field b 8 1 || !budgetEntriesClean b (field b 8 1)
  | 0x42 => n < 24 || 1 < field b 7 1 || field b 21 3 != 0
  | _ => true

/-- Whether a frame is dropped as malformed (R369). -/
def malformed (f : Frame) : Bool :=
  f.version != 1 || f.body.length < f.bodyLen || 1032 < f.bodyLen || f.flags / 2 != 0 || bodyBad f.kind (bodyOf f)

/-- Whether a frame's destination is the Governor, or the fleet's broadcast (15 Frames, 16 Messages). -/
def State.addressed (s : State) (f : Frame) : Bool :=
  f.dst == s.obj 0x1400 1 || (f.dst == broadcastMac && (f.kind == 0x40 || f.kind == 0x41))

/-- Whether the Governor receives a frame: addressed to it, or of a kind that 16 assigns to broadcast (R368). -/
def State.hears (s : State) (f : Frame) : Bool :=
  s.comRuns && s.addressed f

/-- A frame the Governor sends: counted, its completion signalled. -/
def State.send (s : State) (f : OutFrame) : State :=
  let s : State := { s with muriri := { s.muriri with tx := s.muriri.tx ++ [f] } }
  (s.bump64 0x1401 2 1).signal 0x0CB

/-- A frame of a session, with its tag once the session is authenticated (R378). -/
def State.frameFor (s : State) (dst kind sess seq : Nat) (body : List Byte) : OutFrame :=
  let header (flags : Nat) := headerBytes 1 kind sess seq body.length (s.obj 0x1000 8) flags (s.obj 0x1000 5)
  let tag : Option (BitVec 128) :=
    match s.access.authed.find? (fun p => p.1 == sess) with
    | some p => some (Free.tag s.test.fused.key p.2 sess (header 1 ++ body))
    | none => none
  { dst := dst, kind := kind, session := sess, seq := seq, body := body, tag := tag }

/-- A drop counted in 0x1401 with one event of pin 59. -/
def State.dropFrame (s : State) (counter : Nat) : State := (s.bump 0x1401 counter).dEvent 59

/-- A frame is received: the frames sent for the last one are gone from the port. -/
def State.receive (s : State) (f : Frame) (f' : State → State) : State :=
  let s := s.touch
  let s : State := { s with muriri := { s.muriri with tx := [] } }
  let s := (s.bump64 0x1401 1 1).signal 0x0CA
  if malformed f then s.dropFrame 3 else f' s

/-- A frame addressed to the Governor while GCLK is stopped is taken in by the sub-island and waits for lock (17 R418). In BOOT
nothing is taken in. -/
def State.takeIn (s : State) (c : Instr) (f : Frame) : State := if s.addressed f && !s.gov.booting then s.awaitClock c else s

/-- A received frame of a kind, or a malformed one, by command `c`. -/
def State.onFrame (s : State) (c : Instr) (f : Frame) (kind : Nat) (f' : State → State) : Host.Outcome State Fault Refusal :=
  if s.hears f && (f.kind == kind || malformed f) then .next (s.receive f f') else .next (s.takeIn c f)

/-- The schema and epoch check of a request (R369): the code 0x0006_0001 or 0. -/
def State.earlyCode (s : State) (f : Frame) : Nat :=
  codeIf (f.schema / 256 != s.obj 0x1000 8 / 256 || (f.epoch != 0 && f.epoch != s.obj 0x1000 5)) 0x00060001

/-! ### Sessions -/

def State.muSession (s : State) (sess : Nat) : Option MuSession :=
  match s.muriri.sessions.find? (fun p => p.1 == sess) with
  | some p => some p.2
  | none => none

def State.setMu (s : State) (sess : Nat) (v : MuSession) : State :=
  { s with muriri := { s.muriri with sessions := tset s.muriri.sessions sess v } }

/-- A change of a session that may have closed meanwhile. -/
def State.modMu (s : State) (sess : Nat) (f : MuSession → MuSession) : State :=
  match s.muSession sess with
  | some v => s.setMu sess (f v)
  | none => s

/-- Whether the tag of a frame is missing or wrong although its session is authenticated (R378). -/
def State.tagBad (s : State) (f : Frame) : Bool :=
  match s.access.authed.find? (fun p => p.1 == f.session) with
  | some p =>
    let header := headerBytes f.version f.kind f.session f.seq f.bodyLen f.schema f.flags f.epoch
    f.flags % 2 != 1 || f.tag != some (Free.tag s.test.fused.key p.2 f.session (header ++ bodyOf f))
  | none => false

/-- A frame of a session: from the bound address, with the tag that the session needs; its idle timer restarts (R370,
R371, R378). -/
def State.inSession (s : State) (f : Frame) (f' : State → MuSession → State) : State :=
  match s.muSession f.session with
  | some v =>
    if v.mac != f.src then s.dropFrame 5
    else if s.tagBad f then s.dropFrame 4
    else
      let v := { v with heardAt := s.tb.now }
      f' (s.setMu f.session v) v
  | none => s.dropFrame 5

/-- ABORT from the Governor: the transfer is abandoned (R374). -/
def State.abandon (s : State) (sess code : Nat) : State :=
  match s.muSession sess with
  | some v =>
    match v.transfer with
    | some t =>
      let s := s.send (s.frameFor v.mac 0x16 sess t.seq (bytesLE 2 t.seq ++ bytesLE 2 0 ++ bytesLE 4 code))
      (s.setMu sess { v with transfer := none }).bump 0x1401 8
    | none => s
  | none => s

/-- A new request answered with one REPLY, which the session keeps; `after` acts once the reply is sent. A duplicate is
answered from the cache (R372); a transfer that is open is abandoned first (R374). -/
def State.muRequest (s : State) (f : Frame) (run : State → State × List Byte) (after : State → OutFrame → State) : State :=
  s.inSession f (fun s v =>
    if v.lastSeq == some f.seq && v.cache.isSome then
      match v.cache with
      | some r => (s.bump 0x1401 6).send r
      | none => s
    else
      let s := s.abandon f.session 0x00070001
      let q := run s
      let r := q.1.frameFor f.src 0x20 f.session f.seq q.2
      let s := q.1.send r
      after (s.modMu f.session (fun v => { v with lastSeq := some f.seq, cache := some r, opened := false })) r)

/-- The session that a repeated OPEN has opened already (R372). -/
def State.openedBy (s : State) (f : Frame) : Option OutFrame :=
  match s.muriri.sessions.find? (fun p => p.2.mac == f.src && p.2.lastSeq == some f.seq && p.2.opened) with
  | some p => p.2.cache
  | none => none

/-- An OPEN: refused for its schema or epoch, or beyond the eighth session, else a session bound to its source (R370). -/
def State.openSession (s : State) (f : Frame) : State :=
  match s.openedBy f with
  | some r => (s.bump 0x1401 6).send r
  | none =>
    let code := firstCode [s.earlyCode f, codeIf (s.obj 0x1400 0x0B ≤ s.muriri.sessions.length) 0x00040002]
    if code != 0 then s.send (s.frameFor f.src 0x20 0 f.seq (bytesLE 4 code))
    else
      let n := s.assignId
      let s := n.2
      let r := s.frameFor f.src 0x20 n.1 f.seq
        (bytesLE 4 0 ++ bytesLE 2 n.1 ++ bytesLE 1 s.gov.st.code ++ bytesLE 1 0 ++ bytesLE 4 (s.obj 0x1000 5))
      (s.setMu n.1 { mac := f.src, heardAt := s.tb.now, lastSeq := some f.seq, cache := some r }).send r

/-- OPEN (R370). -/
def execMuOpen (f : Frame) (s : State) : Host.Outcome State Fault Refusal := s.onFrame (.muOpen f) f 0x01 (fun s => s.openSession f)

/-- A CLOSE: the reply still carries the session's tag (R371, R372). -/
def State.closeSession (s : State) (f : Frame) : State :=
  s.inSession f (fun s v =>
    if v.lastSeq == some f.seq && v.cache.isSome then
      match v.cache with
      | some r => (s.bump 0x1401 6).send r
      | none => s
    else
      let s := s.abandon f.session 0x00070001
      let code := s.earlyCode f
      let r := s.frameFor f.src 0x20 f.session f.seq (bytesLE 4 code)
      if code != 0 then
        (s.modMu f.session (fun v => { v with lastSeq := some f.seq, cache := some r, opened := false })).send r
      else (s.closeMuriri f.session).send r)

/-- CLOSE (R371). -/
def execMuClose (f : Frame) (s : State) : Host.Outcome State Fault Refusal := s.onFrame (.muClose f) f 0x02 (fun s => s.closeSession f)

/-! ### Expedited transfers (R373) -/

/-- Checks of orders 1 to 7 for a READ: an object of more than 8 bytes needs a segmented transfer. -/
def State.shortReadCode (s : State) (sess idx sub early : Nat) : Nat :=
  match objRow idx sub with
  | some r =>
    firstCode [s.presenceCode sess idx sub, early, readClassCode r, s.readAuthCode sess idx, codeIf (8 < r.ty.size) 0x00030001]
  | none => 0

/-- What a READ does and answers. -/
def State.shortRead (s : State) (f : Frame) : State × List Byte :=
  let b := bodyOf f
  let idx := field b 0 2
  let sub := field b 2 1
  let early := s.earlyCode f
  let code := s.shortReadCode f.session idx sub early
  let s := if code != 0 then s.refuse code else s.readObject f.session idx sub 0 early
  (s, if s.answer.code != 0 then bytesLE 4 s.answer.code
    else bytesLE 4 0 ++ bytesLE 2 s.answer.data.length ++ bytesLE 2 0 ++ s.answer.data)

/-- READ (R373). -/
def execMuRead (f : Frame) (s : State) : Host.Outcome State Fault Refusal :=
  s.onFrame (.muRead f) f 0x10 (fun s => s.muRequest f (fun s => s.shortRead f) (fun s _ => s))

/-- Checks of orders 1 to 7 for a WRITE, which carries 1 to 8 bytes. -/
def State.shortWriteCode (s : State) (sess idx sub v len early : Nat) : Nat :=
  match objRow idx sub with
  | some r =>
    firstCode [s.presenceCode sess idx sub, early, writeClassCode r, s.writeAuthCode sess idx sub v, codeIf (8 < len) 0x00030001]
  | none => 0

/-- What a WRITE does and answers. -/
def State.shortWrite (s : State) (f : Frame) : State × List Byte :=
  let b := bodyOf f
  let idx := field b 0 2
  let sub := field b 2 1
  let data := (b.drop 4).take (field b 3 1)
  let early := s.earlyCode f
  let code := s.shortWriteCode f.session idx sub (natLE data) data.length early
  let s := if code != 0 then s.refuseWrite idx sub code else s.writeObject f.session idx sub data early
  (s, bytesLE 4 s.answer.code)

/-- WRITE (R373). -/
def execMuWrite (f : Frame) (s : State) : Host.Outcome State Fault Refusal :=
  s.onFrame (.muWrite f) f 0x11 (fun s => s.muRequest f (fun s => s.shortWrite f) (fun s _ => s))

/-! ### Segmented transfers (R373, R374) -/

/-- Bytes of segment `k` of a transfer of `total` bytes. -/
def segmentLength (total k : Nat) : Nat := min 1024 (total - 1024 * k)

/-- Whether segment `k` is the last. -/
def segmentLast (total k : Nat) : Bool := total ≤ 1024 * (k + 1)

/-- Instant of the next segment timeout. -/
def State.segmentDue (s : State) : Nat := s.tb.now + s.cyc 0x1400 0x0A

/-- Segment `t.next` of a read sent. -/
def State.sendSegment (s : State) (sess mac : Nat) (t : Transfer) : State :=
  let k := t.next
  let n := segmentLength t.total k
  let r := s.frameFor mac 0x14 sess t.seq
    (bytesLE 2 t.seq ++ bytesLE 1 k ++ bytesLE 1 (natOfBool (segmentLast t.total k)) ++ bytesLE 2 n ++ bytesLE 2 0
      ++ (t.data.drop (1024 * k)).take n)
  (s.modMu sess (fun v => { v with transfer := some { t with misses := 0, due := s.segmentDue, last := r } })).send r

/-- What a READ INIT does and answers: the value is captured. -/
def State.captureRead (s : State) (f : Frame) : State × List Byte :=
  let b := bodyOf f
  let s := s.readObject f.session (field b 0 2) (field b 2 1) (field b 4 2) (s.earlyCode f)
  (s, if s.answer.code != 0 then bytesLE 4 s.answer.code
    else bytesLE 4 0 ++ bytesLE 2 s.answer.data.length ++ bytesLE 2 0)

/-- The first segment of an accepted READ INIT. -/
def State.startRead (s : State) (f : Frame) (r : OutFrame) : State :=
  if s.answer.code != 0 then s
  else
    let b := bodyOf f
    s.sendSegment f.session f.src {
      write := false
      index := field b 0 2
      sub := field b 2 1
      total := s.answer.data.length
      seq := f.seq
      next := 0
      data := s.answer.data
      last := r }

/-- READ_INIT (R373). -/
def execMuReadInit (f : Frame) (s : State) : Host.Outcome State Fault Refusal :=
  s.onFrame (.muReadInit f) f 0x12 (fun s => s.muRequest f (fun s => s.captureRead f) (fun s r => s.startRead f r))

/-- What a WRITE INIT does and answers: the checks up to and including the state check. -/
def State.checkWrite (s : State) (f : Frame) : State × List Byte :=
  let b := bodyOf f
  let idx := field b 0 2
  let sub := field b 2 1
  let code := s.writeCodeEarly f.session idx sub 0 (field b 4 2) (s.earlyCode f)
  let s := if code != 0 then s.refuseWrite idx sub code else { s with answer := { code := 0, data := [] } }
  (s, bytesLE 4 s.answer.code)

/-- An accepted WRITE INIT waits for its first segment. -/
def State.startWrite (s : State) (f : Frame) (r : OutFrame) : State :=
  if s.answer.code != 0 then s
  else
    let b := bodyOf f
    let t : Transfer := {
      write := true
      index := field b 0 2
      sub := field b 2 1
      total := field b 4 2
      seq := f.seq
      next := 0
      data := []
      due := s.segmentDue
      last := r }
    s.modMu f.session (fun v => { v with transfer := some t })

/-- WRITE_INIT (R373). -/
def execMuWriteInit (f : Frame) (s : State) : Host.Outcome State Fault Refusal :=
  s.onFrame (.muWriteInit f) f 0x13 (fun s => s.muRequest f (fun s => s.checkWrite f) (fun s r => s.startWrite f r))

/-- SEGMENT ACK from the Governor. -/
def State.ackFrame (s : State) (f : Frame) (seq k : Nat) : OutFrame :=
  s.frameFor f.src 0x15 f.session f.seq (bytesLE 2 seq ++ bytesLE 1 k ++ bytesLE 1 0)

/-- The last segment has arrived: the write is applied as a whole with every check made again, and answered. -/
def State.applySegments (s : State) (f : Frame) (t : Transfer) (data : List Byte) : State :=
  let s := s.writeObject f.session t.index t.sub data (s.earlyCode f)
  let r := s.frameFor f.src 0x20 f.session t.seq (bytesLE 4 s.answer.code)
  (s.modMu f.session (fun v => { v with transfer := none, cache := some r })).send r

/-- A segment of the open write. -/
def State.takeSegment (s : State) (f : Frame) (t : Transfer) : State :=
  let b := bodyOf f
  let k := field b 2 1
  let n := field b 4 2
  if k < t.next then s.send (s.ackFrame f t.seq k)
  else if k != t.next || n != segmentLength t.total k || bit (field b 3 1) 0 != segmentLast t.total k then
    s.abandon f.session 0x00030001
  else
    let data := t.data ++ (b.drop 8).take n
    if segmentLast t.total k then s.applySegments f t data
    else
      let r := s.ackFrame f t.seq k
      let t := { t with next := k + 1, data := data, misses := 0, due := s.segmentDue, last := r }
      (s.modMu f.session (fun v => { v with transfer := some t })).send r

/-- A repeat of the last segment of a write that has been applied: its reply again (R372). -/
def State.segmentDone (s : State) (v : MuSession) (seq : Nat) : State :=
  match v.cache with
  | some r => if v.lastSeq == some seq then (s.bump 0x1401 6).send r else s
  | none => s

/-- SEGMENT (R373, R374). -/
def execMuSegment (f : Frame) (s : State) : Host.Outcome State Fault Refusal :=
  s.onFrame (.muSegment f) f 0x14 (fun s => s.inSession f (fun s v =>
    let seq := field (bodyOf f) 0 2
    match v.transfer with
    | some t => if t.write && t.seq == seq then s.takeSegment f t else s
    | none => s.segmentDone v seq))

/-- SEGMENT_ACK (R373): the next segment of the read, or the end of the transfer. -/
def execMuSegmentAck (f : Frame) (s : State) : Host.Outcome State Fault Refusal :=
  s.onFrame (.muSegmentAck f) f 0x15 (fun s => s.inSession f (fun s v =>
    let b := bodyOf f
    match v.transfer with
    | some t =>
      if t.write || t.seq != field b 0 2 || t.next != field b 2 1 then s
      else if segmentLast t.total t.next then s.setMu f.session { v with transfer := none }
      else s.sendSegment f.session f.src { t with next := t.next + 1 }
    | none => s))

/-- ABORT (R374): the requester ends the transfer, nothing is applied. -/
def execMuAbort (f : Frame) (s : State) : Host.Outcome State Fault Refusal :=
  s.onFrame (.muAbort f) f 0x16 (fun s => s.inSession f (fun s v =>
    match v.transfer with
    | some t => if t.seq = field (bodyOf f) 0 2 then s.setMu f.session { v with transfer := none } else s
    | none => s))

/-- SEGMENT_TIMEOUT (R374): the last frame again, or, at the second timeout in a row, the transfer is abandoned. -/
def execSegmentTimeout (sess : Nat) (s : State) : Host.Outcome State Fault Refusal :=
  match s.muSession sess with
  | some v =>
    match v.transfer with
    | some t =>
      if !s.comRuns then .next s
      else
        let s := s.atTime t.due
        let s : State := { s with muriri := { s.muriri with tx := [] } }
        if t.misses = 0 then
          let t' := { t with misses := 1, due := s.segmentDue }
          .next (((s.setMu sess { v with transfer := some t' }).bump 0x1401 7).send t.last)
        else .next ((s.abandon sess 0x00070001).dEvent 59)
    | none => .next s
  | none => .next s

/-- SESSION_IDLE_TIMEOUT (R371). -/
def execSessionIdleTimeout (sess : Nat) (s : State) : Host.Outcome State Fault Refusal :=
  match s.muSession sess with
  | some v => if s.comRuns then .next ((s.atTime (v.heardAt + s.cyc 0x1400 9)).closeMuriri sess) else .next s
  | none => .next s

/-- MALFORMED_FRAME (R369). -/
def execMalformedFrame (f : Frame) (s : State) : Host.Outcome State Fault Refusal :=
  if s.hears f && malformed f then .next (s.receive f id) else .next (s.takeIn (.malformedFrame f) f)

/-- FRAME_DISCARDED (R368): a frame that is not Muriri's, or with a bad FCS. -/
def execFrameDiscarded (badFcs : Bool) (s : State) : Host.Outcome State Fault Refusal :=
  if s.tb.gclk && s.gov.st != .off then .next (s.touch.bump 0x1401 (if badFcs then 0x0D else 0x0C)) else .next s

/-! ### Events (R375, R376) -/

/-- The first event of the queue is dropped. -/
def State.dropEvent (s : State) : State := (({ s with events := s.events.drop 1 } : State).bump 0x1401 0x0B).dEvent 59

/-- The record of an event, if it is still in the Daybook; a record read with poison has no content (12 R312). -/
def State.eventRecord (s : State) (seq : Nat) : Option (State × List Byte) :=
  match s.daybookRecord seq with
  | some r =>
    if s.poisoned .daybook (seq % 8192) then some ((s.bump 0x5400 6).dEvent 63, poisonedBytes) else some (s, r.toBytes)
  | none => none

/-- An EVENT frame; its sequence is stated nowhere. -/
def State.sendEvent (s : State) (e : Event) (record : List Byte) : State :=
  let f := s.frameFor (s.obj 0x1400 6) 0x30 0 (Free.value s.free % 2 ^ 16)
    (bytesLE 1 e.level ++ bytesLE 1 e.pin ++ bytesLE 2 0 ++ record)
  ({ s with free := s.free + 1 } : State).send f

/-- The event of a sequence number becomes `e`. -/
def State.setEvent (s : State) (e : Event) : State :=
  { s with events := s.events.map (fun x => if x.seq = e.seq then e else x) }

/-- EVENT_SEND (R375): the first event not yet sent, once its record is written; one whose record has left the Daybook is
dropped. -/
def execEventSend (s : State) : Host.Outcome State Fault Refusal :=
  match s.events.find? (fun e => e.sentAt.isNone) with
  | some e =>
    if !s.comRuns || s.recorder.head < e.seq then .next s
    else
      let s : State := { s with muriri := { s.muriri with tx := [] } }
      match s.eventRecord e.seq with
      | some q => .next ((((q.1.setEvent { e with sentAt := some s.tb.now }).sendEvent e q.2)).bump 0x1401 9)
      | none =>
        .next ((({ s with events := s.events.filter (fun x => x.seq != e.seq) } : State).bump 0x1401 0x0B).dEvent 59)
  | none => .next s

/-- EVENT_RETRANSMIT (R376): the oldest unacknowledged event again, or dropped after its repeats or with its record gone. -/
def execEventRetransmit (s : State) : Host.Outcome State Fault Refusal :=
  match s.events with
  | e :: _ =>
    match e.sentAt with
    | some t =>
      if !s.comRuns then .next s
      else
        let s := s.atTime (t + s.cyc 0x1400 7)
        let s : State := { s with muriri := { s.muriri with tx := [] } }
        if s.obj 0x1400 8 ≤ e.repeats then .next s.dropEvent
        else
          match s.eventRecord e.seq with
          | some q =>
            let e' := { e with sentAt := some s.tb.now, repeats := e.repeats + 1 }
            .next (((q.1.setEvent e').sendEvent e' q.2).bump 0x1401 0x0A)
          | none => .next s.dropEvent
    | none => .next s
  | [] => .next s

/-- EVENT_ACK (R376): every queued event up to its sequence is acknowledged. An acknowledgement that carries a session must
come from it (R370); one with session 0 is taken from any source. -/
def execEventAck (f : Frame) (s : State) : Host.Outcome State Fault Refusal :=
  let taken (s : State) : State :=
    { s with events := s.events.filter (fun e => field (bodyOf f) 0 6 < e.seq) }
  s.onFrame (.eventAck f) f 0x31 (fun s => if f.session = 0 then taken s else s.inSession f (fun s _ => taken s))

end Sys2Proof.Machine
end

