-- ==== Sys2Proof/Machine/Rails.lean ====
section
/-! DEFINITION. Rail Control's events outside sequencing (04): sense taps, all-phase fire, voltage protection, shed
decisions. -/

namespace Sys2Proof.Machine

/-- Rail that a tap senses, if the descriptor names it as a sense tap (04 R80). -/
def State.senseRail (s : State) (t : Nat) : Option Nat := assoc s.desc.senseRail t

/-- Sense taps of a rail that are present and not excluded. -/
def State.sensesOf (s : State) (r : Nat) : List Nat :=
  ((s.desc.senseRail.filter (fun p => p.2 == r && p.1 < s.tapCount)).map (·.1)).filter (fun t => !(s.senseTap t).excluded)

/-- SENSE_TAP_EXCLUSION (04 R83, R84): a tap that has failed its retry is excluded; with the last one the rail's sense is
lost from the next F-frame tick. -/
def execSenseTapExclusion (tap : Nat) (s : State) : Host.Outcome State Fault Refusal :=
  match s.senseRail tap with
  | some r =>
    if (s.senseTap tap).confirmed && !(s.senseTap tap).excluded then
      let s := s.setSenseTap tap { (s.senseTap tap) with excluded := true, retry := false, suspect := 0 }
      let s := s.trigger 12 1 r 0 (s.railPa r tap)
      if (s.sensesOf r).isEmpty then
        .next ((s.modRail r (fun v => { v with senseGone := true })).raiseCause 13 1 r 0 (s.railPa r tap))
      else .next s
    else .next s
  | none => .next s

/-- ALL_PHASE_FIRE (04 R104): the lowest valid sample below the fire level in two cycles is one trigger for each crossing. -/
def execAllPhaseFire (rail low : Nat) (s : State) : Host.Outcome State Fault Refusal :=
  if s.railUsed rail && (low : Int) < s.fireLevel rail then
    if (s.rail rail).fireSeen then .next s
    else .next ((s.modRail rail (fun v => { v with fireSeen := true })).fireTrigger rail)
  else .next (s.sawLow rail low)

/-- Whether a lowest valid sample has recovered to the release level (04 R106). -/
def State.recovered (s : State) (rail low : Nat) : Bool :=
  s.baseSetpoint rail - (s.obj (0x2200 + rail) 0x17 : Int) ≤ (low : Int)

/-- FIRE_END (04 R106, R108): recovery of the lowest sample, else one switching period has passed. -/
def execFireEnd (rail low : Nat) (s : State) : Host.Outcome State Fault Refusal :=
  let v := s.rail rail
  if v.fire == .firing then
    let t := s.sawLow rail low
    if s.recovered rail low then .next (t.endFire rail)
    else .next (((t.atTime (v.fireAt + periodCycles v.code)).endFire rail).bump (0x2200 + rail) 0x23)
  else .next s

/-- The first instant from now on that lies in a Cooper window, cycles 132 to 167 of an F-frame. -/
def State.cooperAt (s : State) : Nat :=
  let k := (s.tb.now - s.tb.fStart) % 168
  if k < 132 then s.tb.now + (132 - k) else s.tb.now

/-- FIRE_REARM (04 R107): the first Cooper window after the lockout periods in which the lowest sample has recovered. -/
def execFireRearm (rail low : Nat) (s : State) : Host.Outcome State Fault Refusal :=
  let v := s.rail rail
  if v.fire == .lockout && s.recovered rail low then
    let s := (s.sawLow rail low).atTime (v.fireAt + s.obj (0x2200 + rail) 0x18 * periodCycles v.code)
    .next ((s.atTime s.cooperAt).modRail rail (fun v => { v with fire := .armed }))
  else .next s

/-- Whether a rail's voltage protections act: it is powered and its sense is not lost (04 R84, R115). -/
def Rail.guarded (v : Rail) : Bool := v.seq != .off && v.seq != .census && !v.senseLost

/-- A lane in an overvoltage clamp that begins at `t`: its pulse ends and its duty becomes 0 (04 R109). -/
def Lane.clamp (l : Lane) (t : Nat) : Lane :=
  let e := l.endPulse t 0
  { e with trail := if t < e.lead then e.lead else e.trail, duty := 0, nextDuty := 0 }

/-- OVERVOLTAGE_CLAMP (04 R109, R113): every pulse of the rail ends, any fire ends, one that engaged in this cycle has not
engaged, the committed duties become 0. -/
def execOvervoltageClamp (rail high : Nat) (s : State) : Host.Outcome State Fault Refusal :=
  let v := s.rail rail
  if s.railUsed rail && v.guarded && !v.clamp && v.setpoint + s.obj (0x2200 + rail) 0x1A < high then
    let s := ((s.voidFire rail).endFire rail).abortShed rail
    let s := s.modRail rail (fun v => { v with clamp := true, drail := 0 })
    let s := each (s.railLanes rail) (fun s n => s.modLane n (fun l => l.clamp s.stepsNow)) s
    .next (s.bump (0x2200 + rail) 0x2D)
  else .next s

/-- RAIL_OVERVOLTAGE (04 R110): above the rail maximum plus the margin for 1,008 cycles. -/
def execRailOvervoltage (rail high : Nat) (s : State) : Host.Outcome State Fault Refusal :=
  let v := s.rail rail
  if s.railUsed rail && v.guarded && s.obj (0x2200 + rail) 3 + s.obj (0x2200 + rail) 0x1A < high then
    .next (s.trigger 14 1 rail 0 (s.railPa rail 0))
  else .next s

/-- RAIL_UNDERVOLTAGE (04 R111): the die voltage below the rail minimum in 8 checked F-frames. -/
def execRailUndervoltage (rail : Nat) (s : State) : Host.Outcome State Fault Refusal :=
  let v := s.rail rail
  if s.railUsed rail && 8 ≤ v.uvRun then
    let pa := s.railPa rail 0
    .next ((s.setRail rail { v with uvRun := 0 }).trigger 15 1 rail 0 pa)
  else .next s

/-- SHED_DECISION (04 R101): the dwell has been reached and no bar applies; the shed takes effect at the next f_sw
boundary and the dwell restarts. -/
def execShedDecision (rail : Nat) (s : State) : Host.Outcome State Fault Refusal :=
  let v := s.rail rail
  if v.shedDue && !s.shedBarred rail then
    let count := max (s.laneFloor rail) (s.nPlan rail v.dwellMax)
    .next (s.setRail rail { v with
      shedDue := false
      dwell := 0
      dwellMax := 0
      shed := if count < v.plan then some count else none })
  else .next s

end Sys2Proof.Machine
end

