-- ==== Sys2Proof/Machine/Window.lean ====
section
/-! DEFINITION. The object window (15 R367) and the late answer of a serving core (15 R364). -/

namespace Sys2Proof.Machine

def State.setWindow (s : State) (w : ObjWindow) : State := { s with window := w }

/-- OBJECT_WINDOW_CLAIM (R367): a read of OBJ_CLAIM. -/
def execObjectWindowClaim (s : State) : Host.Outcome State Fault Refusal :=
  s.onBus .objectWindowClaim (fun s =>
    if s.window.claimed then s.setWindow { s.window with got := false }
    else s.setWindow { s.window with claimed := true, got := true, usedAt := s.tb.now })

/-- OBJECT_WINDOW_RELEASE (R367): a write of OBJ_RELEASE. -/
def execObjectWindowRelease (word : W64) (s : State) : Host.Outcome State Fault Refusal :=
  s.onBus (.objectWindowRelease word) (fun s => if word.getLsbD 0 then s.setWindow { s.window with claimed := false } else s)

/-- The last access of the window completes: DONE, RLEN and CODE together, a read's data at the start of OBJ_DATA. -/
def State.windowDone (s : State) (code : Nat) (data : List Byte) : State :=
  s.setWindow { s.window with
    isDone := true
    rlen := data.length
    code := code
    data := mwriteBytes s.window.data 0 data }

/-- A write to OBJ_CMD: accepted only while the window is claimed; the access follows OP (R367). -/
def State.windowCommand (s : State) (word : W64) : State :=
  let w := word.toNat
  let idx := bits w 55 40
  let sub := bits w 39 32
  let len := bits w 12 0
  if !s.window.claimed then s.bump 0x1402 0x0F
  else
    let s := s.setWindow { s.window with isDone := false, usedAt := s.tb.now }
    match bits w 63 62 with
    | 1 =>
      let s := s.readObject windowSession idx sub len 0
      s.windowDone s.answer.code s.answer.data
    | 2 =>
      let s := s.writeObject windowSession idx sub (mreadBytes s.window.data 0 len) 0
      s.windowDone s.answer.code []
    | _ =>
      let s := s.refuse 0x00030002
      s.windowDone s.answer.code []

/-- OBJECT_WINDOW_READ (R367): OBJ_CMD with the read code. -/
def execObjectWindowRead (word : W64) (s : State) : Host.Outcome State Fault Refusal :=
  s.onBus (.objectWindowRead word) (fun s => s.windowCommand word)

/-- OBJECT_WINDOW_WRITE (R367): OBJ_CMD with the write code. -/
def execObjectWindowWrite (word : W64) (s : State) : Host.Outcome State Fault Refusal :=
  s.onBus (.objectWindowWrite word) (fun s => s.windowCommand word)

/-- OBJECT_WINDOW_IDLE_RELEASE (R367): 100 ms claimed without a command. -/
def execObjectWindowIdleRelease (s : State) : Host.Outcome State Fault Refusal :=
  if s.tb.gclk && s.window.claimed then
    let s := s.atTime (s.window.usedAt + cycles 100000000)
    .next (s.setWindow { s.window with claimed := false })
  else .next s

/-- OBJECT_ACCESS_TIMEOUT (R364): the core that serves the next core-served access does not complete it within 100 us. -/
def execObjectAccessTimeout (s : State) : Host.Outcome State Fault Refusal :=
  .next { s with access := { s.access with late := true } }

end Sys2Proof.Machine
end

