-- ==== Sys2Proof/Machine/Writes.lean ====
section
/-! DEFINITION. The commands that are an access to one object: each is a write, or a read, by a session through the object
engine, whose checks and effects are in Rules.lean and Dictionary.lean. -/

namespace Sys2Proof.Machine

/-- LANE_REARM (03 R73). -/
def execLaneRearm (sess lane value : Nat) (s : State) : Host.Outcome State Fault Refusal :=
  if lane < 96 then s.writeRow sess (0x2100 + lane) 0x11 value else .next s

/-- AVS_TRIM_REQUEST (04 R91, R92). -/
def execAvsTrimRequest (sess rail value : Nat) (s : State) : Host.Outcome State Fault Refusal :=
  if rail < 8 then s.writeRow sess (0x2200 + rail) 0x0A value else .next s

/-- TAP_REARM (05 R136). -/
def execTapRearm (sess tap value : Nat) (s : State) : Host.Outcome State Fault Refusal :=
  if tap < 512 then s.writeRow sess (0x2500 + tap) 7 value else .next s

/-- DROOP_THRESHOLD_WRITE (05 R125). -/
def execDroopThresholdWrite (sess group sub value : Nat) (s : State) : Host.Outcome State Fault Refusal :=
  if group < 64 && 6 ≤ sub && sub ≤ 0x1D then s.writeRow sess (0x2440 + group) sub value else .next s

/-- QUANTUM_WRITE (06 R142). -/
def execQuantumWrite (sess value : Nat) (s : State) : Host.Outcome State Fault Refusal :=
  s.writeRow sess 0x2800 1 value

/-- SIGNATURE_ENTRY_WRITE (07 R198): the entry at the index in force. -/
def execSignatureEntryWrite (sess : Nat) (value : W64) (s : State) : Host.Outcome State Fault Refusal :=
  s.writeRow sess 0x2C03 2 value.toNat

/-- PROGRAM_LOAD_DATA (07 R194). -/
def execProgramLoadData (sess : Nat) (data : List Byte) (s : State) : Host.Outcome State Fault Refusal :=
  s.writeBytesRow sess 0x2C08 4 data

/-- PROGRAM_ACTIVATE (07 R194). -/
def execProgramActivate (sess value : Nat) (s : State) : Host.Outcome State Fault Refusal :=
  s.writeRow sess 0x2C08 5 value

/-- CLEAR_STICKY_FLAGS (07, 0x2C08:0A). -/
def execClearStickyFlags (sess value : Nat) (s : State) : Host.Outcome State Fault Refusal :=
  s.writeRow sess 0x2C08 0x0A value

/-- COEFFICIENT_COMMIT (08 R208, R209). -/
def execCoefficientCommit (sess inst value : Nat) (s : State) : Host.Outcome State Fault Refusal :=
  if inst < 160 then s.writeRow sess (0x4100 + inst) 0x0C value else .next s

/-- INJECTION_START (08 R213). -/
def execInjectionStart (sess : Nat) (s : State) : Host.Outcome State Fault Refusal := s.writeRow sess 0x4001 0x0C 1

/-- INJECTION_STOP (08 R215). -/
def execInjectionStop (sess : Nat) (s : State) : Host.Outcome State Fault Refusal := s.writeRow sess 0x4001 0x0C 2

/-- CAPTURE_ARM (08 R216). -/
def execCaptureArm (sess : Nat) (s : State) : Host.Outcome State Fault Refusal := s.writeRow sess 0x4002 0x0A 1

/-- CAPTURE_FORCE_TRIGGER (08 R216). -/
def execCaptureForceTrigger (sess : Nat) (s : State) : Host.Outcome State Fault Refusal :=
  s.writeRow sess 0x4002 0x0A 2

/-- CAPTURE_STOP (08 R216). -/
def execCaptureStop (sess : Nat) (s : State) : Host.Outcome State Fault Refusal := s.writeRow sess 0x4002 0x0A 3

/-- SENSOR_REARM (09 R227). -/
def execSensorRearm (sess sensor value : Nat) (s : State) : Host.Outcome State Fault Refusal :=
  if sensor < 288 then s.writeRow sess (sensorObj sensor) 8 value else .next s

/-- COOLANT_UPDATE_COMMIT (09 R237). -/
def execCoolantUpdateCommit (sess value : Nat) (s : State) : Host.Outcome State Fault Refusal :=
  s.writeRow sess 0x3008 8 value

/-- DOMAIN_WAKE_REQUEST (10 R251). -/
def execDomainWakeRequest (sess domain : Nat) (s : State) : Host.Outcome State Fault Refusal :=
  if domain < 32 then s.writeRow sess (0x3410 + domain) 3 1 else .next s

/-- DOMAIN_GATE_REQUEST (10 R252, R255). -/
def execDomainGateRequest (sess domain : Nat) (s : State) : Host.Outcome State Fault Refusal :=
  if domain < 32 then s.writeRow sess (0x3410 + domain) 3 0 else .next s

/-- DOMAIN_REARM (10 R258). -/
def execDomainRearm (sess domain value : Nat) (s : State) : Host.Outcome State Fault Refusal :=
  if domain < 32 then s.writeRow sess (0x3410 + domain) 9 value else .next s

/-- POWER_ON (10 R263). -/
def execPowerOn (sess : Nat) (s : State) : Host.Outcome State Fault Refusal := s.commandRow sess 1

/-- POWER_OFF (10 R263). -/
def execPowerOff (sess : Nat) (s : State) : Host.Outcome State Fault Refusal := s.commandRow sess 2

/-- METER_ON (10 R263). -/
def execMeterOn (sess : Nat) (s : State) : Host.Outcome State Fault Refusal := s.commandRow sess 3

/-- METER_OFF (10 R263). -/
def execMeterOff (sess : Nat) (s : State) : Host.Outcome State Fault Refusal := s.commandRow sess 4

/-- RESUME (10 R263). -/
def execResume (sess : Nat) (s : State) : Host.Outcome State Fault Refusal := s.commandRow sess 5

/-- SERVICE_ENTER (10 R263). -/
def execServiceEnter (sess : Nat) (s : State) : Host.Outcome State Fault Refusal := s.commandRow sess 6

/-- SOFT_RESET (10 R263, R265). -/
def execSoftReset (sess : Nat) (s : State) : Host.Outcome State Fault Refusal := s.commandRow sess 8

/-- RELEASE_QUARANTINE (11 R278). -/
def execReleaseQuarantine (sess array value : Nat) (s : State) : Host.Outcome State Fault Refusal :=
  if array < 256 then s.writeRow sess (0x6010 + array) 9 value else .next s

/-- PEER_REPORT (11 R283). -/
def execPeerReport (sess : Nat) (word : W64) (s : State) : Host.Outcome State Fault Refusal :=
  s.writeRow sess 0x6004 1 word.toNat

/-- KNOWN_ANSWER_START (11 R287). -/
def execKnownAnswerStart (sess : Nat) (s : State) : Host.Outcome State Fault Refusal := s.writeRow sess 0x6003 3 1

/-- KNOWN_ANSWER_STOP (11 R287). -/
def execKnownAnswerStop (sess : Nat) (s : State) : Host.Outcome State Fault Refusal := s.writeRow sess 0x6003 3 2

/-- SWEEP_START (11 R288, R289). -/
def execSweepStart (sess : Nat) (s : State) : Host.Outcome State Fault Refusal := s.writeRow sess 0x6002 2 1

/-- SWEEP_STOP (11 R289). -/
def execSweepStop (sess : Nat) (s : State) : Host.Outcome State Fault Refusal := s.writeRow sess 0x6002 2 2

/-- FAULT_ACKNOWLEDGE (12 R299). -/
def execFaultAcknowledge (sess : Nat) (word : W64) (s : State) : Host.Outcome State Fault Refusal :=
  s.writeRow sess 0x5000 1 word.toNat

/-- DAYBOOK_CLEAR (12 R310). -/
def execDaybookClear (sess value : Nat) (s : State) : Host.Outcome State Fault Refusal :=
  s.writeRow sess 0x5400 7 value

/-- VITRINE_CLEAR (12 R310). -/
def execVitrineClear (sess value : Nat) (s : State) : Host.Outcome State Fault Refusal :=
  s.writeRow sess 0x5400 8 value

/-- DUMP_RELEASE (12 R315, 18 R429). -/
def execDumpRelease (sess core value : Nat) (s : State) : Host.Outcome State Fault Refusal :=
  if core < 4 then s.writeRow sess (0x5410 + core) 2 value else .next s

/-- RELEASE_HOLD (14 R346). -/
def execReleaseHold (sess core value : Nat) (s : State) : Host.Outcome State Fault Refusal :=
  if core < 4 then s.writeRow sess (0x7410 + core) 0x0A value else .next s

/-- UPDATE_TARGET (14 R348). -/
def execUpdateTarget (sess core : Nat) (s : State) : Host.Outcome State Fault Refusal := s.writeRow sess 0x7420 1 core

/-- UPDATE_LOAD_DATA (14 R348). -/
def execUpdateLoadData (sess : Nat) (data : List Byte) (s : State) : Host.Outcome State Fault Refusal :=
  s.writeBytesRow sess 0x7420 3 data

/-- UPDATE_VERIFY (14 R349). -/
def execUpdateVerify (sess : Nat) (s : State) : Host.Outcome State Fault Refusal := s.writeRow sess 0x7420 4 1

/-- UPDATE_ACTIVATE (14 R349). -/
def execUpdateActivate (sess : Nat) (s : State) : Host.Outcome State Fault Refusal := s.writeRow sess 0x7420 4 2

/-- UPDATE_ABORT (14 R357). -/
def execUpdateAbort (sess : Nat) (s : State) : Host.Outcome State Fault Refusal := s.writeRow sess 0x7420 4 3

/-- LOCK (15 R366). -/
def execLock (sess index : Nat) (s : State) : Host.Outcome State Fault Refusal := s.writeRow sess 0x1410 1 index

/-- UNLOCK (15 R366). -/
def execUnlock (sess index : Nat) (s : State) : Host.Outcome State Fault Refusal := s.writeRow sess 0x1410 2 index

/-- AUTH_RESPONSE (15 R377). -/
def execAuthResponse (sess : Nat) (response : BitVec 256) (s : State) : Host.Outcome State Fault Refusal :=
  s.writeRow sess 0x1420 2 response.toNat

/-- END_AUTHENTICATION (15 R379). -/
def execEndAuthentication (sess value : Nat) (s : State) : Host.Outcome State Fault Refusal :=
  s.writeRow sess 0x1420 4 value

/-- SERVICE_EXIT (10 R263): the argument is written first, then the command. -/
def execServiceExit (sess arg : Nat) (s : State) : Host.Outcome State Fault Refusal :=
  if s.presents sess && arg < 256 then
    .next ((s.touch.writeObject sess 0x3400 9 (bytesLE 1 arg) 0).writeObject sess 0x3400 8 (bytesLE 1 7) 0)
  else .next s

/-- TIME_SET (12 R313): the value is written first; the write of the quality applies both. -/
def execTimeSet (sess : Nat) (value : W64) (quality : Nat) (s : State) : Host.Outcome State Fault Refusal :=
  if s.presents sess && quality < 256 then
    .next ((s.touch.writeObject sess 0x1300 3 (bytesLE 8 value.toNat) 0).writeObject sess 0x1300 4 (bytesLE 1 quality) 0)
  else .next s

/-- AUTH_CHALLENGE (15 R377): a read of 0x1420:01. -/
def execAuthChallenge (sess : Nat) (s : State) : Host.Outcome State Fault Refusal :=
  if s.presents sess then .next (s.touch.readObject sess 0x1420 1 0 0) else .next s

/-- ATB_ROUTE (19 R441): an object write, or, with no session, a write through the instrument network's router, which acts
in any state and changes nothing where the word is out of range. -/
def execAtbRoute (sess : Option Nat) (word : BitVec 16) (s : State) : Host.Outcome State Fault Refusal :=
  match sess with
  | some n => s.writeRow n 0xF000 3 word.toNat
  | none => if s.gov.st != .off && !s.atbOut word then .next (s.routeAtb word) else .next s

end Sys2Proof.Machine
end

