-- ==== Sys2Proof/Machine/Registers.lean ====
section
/-! DEFINITION. The Host Register Port window (18, 17 R415): what each register reads as, and what a write does. Reads that
change state (ICU_CLAIM, MBX_TAKE, OBJ_CLAIM, the G3 block) are commands of their own and are not in the read map. -/

namespace Sys2Proof.Machine

/-! ### Reads (18 R423 to R426, 12 Registrar registers, 12 Reading records, 13, 15) -/

/-- Value of an object as a mirror field reads it (R424); fields that fuses or the image give read 0 during BOOT (R425). -/
def State.mirror (s : State) (idx sub : Nat) : Nat := s.value windowSession idx sub

def State.identity (s : State) (idx sub : Nat) : Nat := if s.gov.st == .boot then 0 else s.mirror idx sub

/-- OXG_CAP (00 Configurations). -/
def oxgCap : Config → Nat
  | .full => 0x00020060800000F1
  | .core => 0x0001003040000002

/-- Identity block. -/
def State.readIdentity (s : State) (a : Nat) : Nat :=
  match a with
  | 0x00 => 0x00040200
  | 0x08 => oxgCap s.cfg
  | 0x10 => s.mirror 0x1000 2 * 2 ^ 32 + s.mirror 0x1000 1
  | 0x18 => s.identity 0x1000 4
  | 0x20 => s.identity 0x1000 6 * 2 ^ 32 + s.identity 0x1000 5
  | 0x28 => s.mirror 0x1000 8 * 2 ^ 32 + s.identity 0x1000 9
  | _ => 0

/-- OXG_TIMEBASE (02). -/
def State.timebaseWord (s : State) : Nat :=
  s.tb.tb.code * 2 ^ 62 + natOfBool s.tb.near * 2 ^ 61 + natOfBool s.tb.slew * 2 ^ 60
    + (s.tb.fStart - s.tb.cStart) / 168 % 6 * 2 ^ 48 + s.tb.cframe % 2 ^ 48

/-- Byte of a core in OXG_CORES. -/
def State.coreByte (s : State) (c : Nat) : Nat :=
  s.mirror (0x7410 + c) 1 % 8 + s.mirror (0x7410 + c) 2 % 2 * 8 + s.mirror (0x5410 + c) 1 % 2 * 16

/-- Global state and command block. -/
def State.readGlobal (s : State) (a : Nat) : Nat :=
  match a with
  | 0x1000 =>
    s.mirror 0x3000 0x0E * 2 ^ 32 + s.mirror 0x4000 1 % 256 * 2 ^ 24 + s.mirror 0x3400 0x0F * 2 ^ 17 + s.mirror 0x3400 2 * 2 ^ 16
      + s.mirror 0x3400 0x0E * 2 ^ 8 + s.mirror 0x3400 1
  | 0x1008 => s.timebaseWord
  | 0x1010 => s.timeField
  | 0x1020 => s.mirror 0x3400 0x0B % 2 ^ 32 * 2 ^ 32 + s.mirror 0x3400 0x0A
  | 0x1028 => s.epoch 3 * 2 ^ 48 + s.epoch 2 * 2 ^ 32 + s.epoch 1 * 2 ^ 16 + s.epoch 0
  | 0x1030 => s.coreByte 3 * 2 ^ 24 + s.coreByte 2 * 2 ^ 16 + s.coreByte 1 * 2 ^ 8 + s.coreByte 0
  | 0x1038 => s.mirror 0x3400 0x0D
  | 0x1040 => s.gov.strap.toNat * 2 ^ 24 + s.mirror 0x7400 1 * 2 ^ 16 + s.epoch 4
  | _ => 0

/-- A source's CFG field as it reads. -/
def State.cfgField (s : State) (n : Nat) : Nat :=
  let c := s.srcCfg n
  if srcListed n then natOfBool (srcLevel n) * 2 ^ 15 + c.target % 8 * 2 ^ 12 + c.prio % 4 * 2 ^ 10 + c.fallback % 8 * 2 ^ 7
  else 0

/-- Interrupt controller block. -/
def State.readIcu (s : State) (a : Nat) : Nat :=
  if a = 0x2000 then 0x2046000400
  else if 0x20C0 ≤ a && a < 0x20F0 then
    let t := (a - 0x20C0) / 8
    natOfBool (s.offer t).isSome * 2 ^ 8 + (s.target t).thresh % 4 * 2 ^ 4 + natOfBool (s.target t).sleep
  else if 0x2100 ≤ a && a < 0x2180 then (tget s.icu.pend ((a - 0x2100) / 8) 0).toNat
  else if 0x2180 ≤ a && a < 0x2200 then (tget s.icu.mask ((a - 0x2180) / 8) (BitVec.allOnes 64)).toNat
  else if 0x2400 ≤ a && a < 0x2C00 then
    let k := (a - 0x2400) / 8
    s.cfgField (4 * k + 3) * 2 ^ 48 + s.cfgField (4 * k + 2) * 2 ^ 32 + s.cfgField (4 * k + 1) * 2 ^ 16 + s.cfgField (4 * k)
  else if 0x2C00 ≤ a && a < 0x2D00 then (tget s.icu.watch ((a - 0x2C00) / 8) 0).toNat
  else 0

/-- Mailbox block; the registers of an unused channel read 0 (13 R330). -/
def State.readMailbox (s : State) (a : Nat) : Nat :=
  let c := (a - 0x4000) / 64
  let ch := s.channel c
  if !s.channelUsed c then 0
  else
    match (a - 0x4000) % 64 with
    | 0x08 => maskOf (ch.slotsWith (fun v => v.st == .posted))
    | 0x10 => ch.mask.toNat
    | 0x20 => ch.ack.toNat
    | 0x28 => ch.tost.toNat
    | 0x38 => maskOf (ch.slotsWith (fun v => v.st == .taken || (v.st == .posted && !v.orphaned)))
    | _ => 0

/-- Number of latched pins. -/
def State.latchedCount (s : State) : Nat := ((List.range 64).filter (fun n => (s.pin n).latched)).length

/-- Registrar block. -/
def State.readRegistrar (s : State) (a : Nat) : Nat :=
  match a with
  | 0x8000 => s.statusWord
  | 0x8008 => s.causeWord
  | 0x8010 => s.escWord
  | 0x8018 => s.latchedCount * 2 ^ 8 + natOfBool s.safeLatched * 2 ^ 3 + s.highestLevel
  | _ => 0

/-- A byte of the Vitrine window. -/
def State.vitrineByte (s : State) (off : Nat) : Byte :=
  let i := off / 32
  (if s.poisoned .vitrine i && i < s.recorder.vitrine.length then poisonedBytes
    else recordBytes s.recorder.vitrine[i]?).getD (off % 32) 0

/-- The record a Daybook slot holds, unless it lies below REC_FIRST (12 R310). -/
def State.slotRecord (s : State) (k : Nat) : Option Record :=
  match s.recorder.daybook.find? (fun p => p.1 == k) with
  | some p => if s.recorder.first ≤ p.2.seq then some p.2 else none
  | none => none

/-- A byte of the Daybook page. -/
def State.daybookByte (s : State) (off : Nat) : Byte :=
  let k := 512 * s.recorder.page + off / 32
  let r := s.slotRecord k
  (if s.poisoned .daybook k && r.isSome then poisonedBytes else recordBytes r).getD (off % 32) 0

/-- Eight bytes as a word. -/
def wordOf (f : Nat → Byte) (off : Nat) : Nat := natLE ((List.range 8).map (fun i => f (off + i)))

/-- Recorder block. -/
def State.readRecorder (s : State) (a : Nat) : Nat :=
  if 0xA000 ≤ a && a < 0xC000 then wordOf s.vitrineByte (a - 0xA000)
  else if 0xC000 ≤ a then wordOf s.daybookByte (a - 0xC000)
  else
    match a with
    | 0x9000 => s.recorder.head
    | 0x9008 => s.recorder.first
    | 0x9010 => s.obj 0x5400 5 * 2 ^ 32 + s.recorder.vitrine.length
    | 0x9018 => s.obj 0x5400 4 * 2 ^ 32 + s.obj 0x5400 6
    | 0x9020 => s.recorder.page
    | _ => 0

/-- Object window. -/
def State.readWindow (s : State) (a : Nat) : Nat :=
  let w := s.window
  if 0x11000 ≤ a then wordOf (mread w.data) (a - 0x11000)
  else if a = 0x10018 then
    natOfBool w.isDone * 2 ^ 62 + natOfBool w.claimed * 2 ^ 61 + w.rlen % 2 ^ 13 * 2 ^ 32 + w.code % 2 ^ 32
  else 0

/-- What a read of the window returns at a multiple of 8; 0 at a reserved offset (17 R415). -/
def State.register (s : State) (a : Nat) : W64 :=
  BitVec.ofNat 64 (
    if a < 0x1000 then s.readIdentity a
    else if a < 0x2000 then s.readGlobal a
    else if a < 0x4000 then s.readIcu a
    else if a < 0x5000 then s.readMailbox a
    else if 0x8000 ≤ a && a < 0x9000 then s.readRegistrar a
    else if 0x9000 ≤ a && a < 0x10000 then s.readRecorder a
    else if 0x10000 ≤ a && a < 0x12000 then s.readWindow a
    else if 0x40000 ≤ a && a < 0x50000 then wordOf s.messageByte (a - 0x40000)
    else if 0x80000 ≤ a && a < 0x90000 then
      wordOf (fun o => s.dumpByte ((a - 0x80000) / 0x4000) o) ((a - 0x80000) % 0x4000)
    else 0)

/-- A host read through the port: the word, and the state after it. The read of a message word with poison is counted in
0x7490:08 and is an event of pin 57 (R428); any other read of this map changes nothing. No command of the table is this
read. -/
def State.hostRead (s : State) (a : Nat) : W64 × State :=
  (s.register a,
    if 0x40000 ≤ a && a < 0x50000 && s.poisoned .message ((a - 0x40000) / 8) then (s.bump 0x7490 8).dEvent 57 else s)

/-! ### Writes -/

/-- The bytes of a word whose strobes are set, written to a memory (17 R415). -/
def strobedWrite (m : List Host.Cell) (a : Nat) (strobes : BitVec 8) (word : W64) : List Host.Cell :=
  each (List.range 8) (fun m i =>
    if strobes.getLsbD i then mwrite m (a + i) (BitVec.ofNat 8 (word.toNat / 256 ^ i)) else m) m

/-- A write to the message RAM; a whole word clears the poison of it (R428). -/
def State.writeMessage (s : State) (off : Nat) (strobes : BitVec 8) (word : W64) : State :=
  { s with
    mram := strobedWrite s.mram off strobes word
    poison := if strobes = 0xFF then s.poison.filter (· != (.message, off / 8)) else s.poison }

/-- OXG_CMD: ARG to 0x3400:09, then CODE to 0x3400:08, by session 0xFFFF (R427). -/
def State.oxgCmd (s : State) (w : Nat) : State :=
  (s.writeObject windowSession 0x3400 9 (bytesLE 1 (bits w 15 8)) 0).writeObject windowSession 0x3400 8 (bytesLE 1 (bits w 7 0)) 0

/-- REC_CTRL.CLR_DB (12 R310). -/
def State.recCtrl (s : State) (w : Nat) : State :=
  let legal : Bool := s.gov.st == .ready || s.gov.st == .run || s.gov.st == .limit || s.gov.st == .safe || s.gov.st == .service
  if bit w 0 && legal then { s with recorder := { s.recorder with first := s.recorder.head + 1 } } else s

/-- A write of a register of the interrupt controller, by agent 4. -/
def State.writeIcu (s : State) (a : Nat) (word : W64) : Host.Outcome State Fault Refusal :=
  if a = 0x2008 then execDoorbell word s
  else if a = 0x2010 then execConfigureSource word s
  else if 0x2040 ≤ a && a < 0x20A0 then if a % 16 = 8 then execComplete 4 ((a - 0x2040) / 16) word s else .next s
  else if 0x20C0 ≤ a && a < 0x20F0 then execTargetConfigWrite 4 ((a - 0x20C0) / 8) word s
  else if 0x2100 ≤ a && a < 0x2180 then execIcuPlainWrite .pend ((a - 0x2100) / 8) word s
  else if 0x2180 ≤ a && a < 0x2200 then execIcuPlainWrite .mask ((a - 0x2180) / 8) word s
  else if 0x2200 ≤ a && a < 0x2280 then execPendSet ((a - 0x2200) / 8) word s
  else if 0x2280 ≤ a && a < 0x2300 then execPendClr ((a - 0x2280) / 8) word s
  else if 0x2300 ≤ a && a < 0x2380 then execMaskSet ((a - 0x2300) / 8) word s
  else if 0x2380 ≤ a && a < 0x2400 then execMaskClr ((a - 0x2380) / 8) word s
  else if 0x2400 ≤ a && a < 0x2C00 then execIcuPlainWrite .cfg ((a - 0x2400) / 8) word s
  else if 0x2C00 ≤ a && a < 0x2D00 then execWatchWrite ((a - 0x2C00) / 8) word s
  else .next s

/-- A write of a mailbox register, by agent 4. A register that only reads discards it; on an unused channel every write is
counted (13 R330). -/
def State.writeMailbox (s : State) (a : Nat) (word : W64) : Host.Outcome State Fault Refusal :=
  let c := (a - 0x4000) / 64
  match (a - 0x4000) % 64 with
  | 0x00 => execPost 4 c word s
  | 0x10 => execMailboxMaskWrite 4 c word s
  | 0x20 => execAckClear 4 c word s
  | 0x28 => execTostClear 4 c word s
  | 0x30 => execFree 4 c word s
  | _ => s.channelWrite (.registerWrite a 0xFF word) c true id

/-- A write of any other register. -/
def State.writePlain (s : State) (a : Nat) (word : W64) : State :=
  match a with
  | 0x1018 => s.oxgCmd word.toNat
  | 0x8000 => s.acknowledgeWord word
  | 0x9020 => { s with recorder := { s.recorder with page := bits word.toNat 3 0 } }
  | 0x9028 => s.recCtrl word.toNat
  | _ => s

/-- REGISTER_WRITE (17 R415, 18 R423): a write of the window at a multiple of 8, by agent 4. Strobes are honoured in the
message RAM and in OBJ_DATA; elsewhere a write without all of them is discarded, as is one to a reserved offset. -/
def execRegisterWrite (addr : Nat) (strobes : BitVec 8) (word : W64) (s : State) : Host.Outcome State Fault Refusal :=
  if addr % 8 != 0 then .next s
  else if 0x40000 ≤ addr && addr < 0x50000 then s.onBus (.registerWrite addr strobes word) (fun s => s.writeMessage (addr - 0x40000) strobes word)
  else if 0x11000 ≤ addr && addr < 0x12000 then
    s.onBus (.registerWrite addr strobes word) (fun s => s.setWindow { s.window with data := strobedWrite s.window.data (addr - 0x11000) strobes word })
  else if strobes != 0xFF then s.onBus (.registerWrite addr strobes word) id
  else if 0x2000 ≤ addr && addr < 0x4000 then s.writeIcu addr word
  else if 0x4000 ≤ addr && addr < 0x5000 then s.writeMailbox addr word
  else if addr = 0x10008 then execObjectWindowRelease word s
  else if addr = 0x10010 then execObjectWindowWrite word s
  else if 0x20000 ≤ addr && addr < 0x40000 then s.g3Write ((addr - 0x20000) / 2) word
  else s.onBus (.registerWrite addr strobes word) (fun s => s.writePlain addr word)

end Sys2Proof.Machine
end

