-- ==== Sys2Proof/Machine/Segment.lean ====
section
/-! DEFINITION. Segment coordination (16): budget formation and allocation at the coordinator, acceptance and island share
at a worker, acknowledgements, time. -/

namespace Sys2Proof.Machine

def State.setMember (s : State) (m : Nat) (v : Member) : State :=
  { s with segment := { s.segment with members := tset s.segment.members m v } }

/-- MAC address of a member in the coordinator's table, 0 for an id not in use (R384). -/
def State.memberMac (s : State) (m : Nat) : Nat := s.obj (0x7010 + m) 1

/-- Member ids of the table, ascending. -/
def State.memberIds (s : State) : List Nat := (List.range 16).filter (fun m => 1 ≤ m && s.memberMac m != 0)

/-- Package TDP of a member, the coordinator's own for id 0. -/
def State.memberTdp (s : State) (m : Nat) : Nat := if m = 0 then s.obj 0x2801 1 else s.obj (0x7010 + m) 2

/-- The cause of pin 60: a worker in ISLAND or REFUSED (R390), a shortfall (R387), a mismatched acknowledgement or a BUDGET
of another coordinator (R391). -/
def State.fleetCause (s : State) : State :=
  s.followCause 60 0 0
    (s.segment.role == 3 || s.segment.role == 4 || s.segment.shortfall || s.segment.foreign.isSome
      || s.segment.members.any (fun p => p.2.mismatch)) 0 0

/-! ### Budget formation -/

/-- The condition of a member at a formation (R385). -/
def State.judgeMember (s : State) (m : Nat) : State :=
  let v := s.member m
  let acks := (v.acked :: v.acks).take 3
  let v := { v with acks := acks, acked := false }
  let none3 : Bool := !(acks.any id)
  s.setMember m (
    if acks.headD false then { v with cond := .present }
    else if v.cond == .present && none3 then { v with cond := .missing, missingAt := s.tb.now }
    else if v.cond == .missing && v.missingAt + s.cyc 0x7001 8 ≤ s.tb.now then { v with cond := .absent }
    else v)

/-- A member as the allocation sees it. -/
structure Claim where
  id      : Nat
  missing : Bool
  active  : Bool
  tdp     : Nat
  floor   : Nat
  demand  : Nat
  last    : Nat
  deriving DecidableEq, Repr

/-- Members that receive an entry, ascending (R387). -/
def State.claims (s : State) : List Claim :=
  (0 :: s.memberIds).filterMap (fun m =>
    let v := s.member m
    let cond := s.memberCond m
    if cond == .absent then none
    else
      let st := if m = 0 then s.gov.st.code else v.state
      some {
        id := m
        missing := cond == .missing
        active := cond == .present && !v.mismatch && (st == GovState.run.code || st == GovState.limit.code)
        tdp := s.memberTdp m
        floor := s.memberTdp m * s.obj 0x7001 2 / 100
        demand := if m = 0 then s.ownDemand else v.demand
        last := v.last })

def sumOf (l : List Claim) (f : Claim → Nat) : Nat := (l.map f).foldl (· + ·) 0

/-- Demand of an active member within its floor and its TDP. -/
def Claim.want (c : Claim) : Nat := clampN c.demand c.floor c.tdp

/-- What the missing members leave of the segment budget (R387). -/
def available (budget : Nat) (cs : List Claim) : Nat := budget - sumOf (cs.filter (·.missing)) (·.last)

/-- Whether the floors do not fit (R387). -/
def shortfall (budget : Nat) (cs : List Claim) : Bool := available budget cs < sumOf (cs.filter (!·.missing)) (·.floor)

/-- Budget of a member (R387). -/
def allot (budget : Nat) (cs : List Claim) (c : Claim) : Nat :=
  let here := cs.filter (!·.missing)
  let active := here.filter (·.active)
  let avail := available budget cs
  if c.missing then c.last
  else if shortfall budget cs then c.floor * avail / sumOf here (·.floor)
  else if !c.active then c.floor
  else
    let rest := avail - sumOf (here.filter (!·.active)) (·.floor)
    let sw := sumOf active Claim.want
    let sf := sumOf active (·.floor)
    if sw ≤ rest then min c.tdp (c.want + (rest - sw) * c.tdp / sumOf active (·.tdp))
    else c.floor + (c.want - c.floor) * (rest - sf) / (sw - sf)

/-- Dither offset of a member: ((m + salt) mod 16) * spread / 16 C-frames (R387). -/
def State.memberDither (s : State) (m : Nat) : Nat := (m + s.obj 0x7000 4) % 16 * s.obj 0x7001 4 / 16

/-- A BUDGET entry (16 Messages). -/
def State.entryBytes (s : State) (c : Claim) (mw : Nat) : List Byte :=
  bytesLE 1 c.id ++ bytesLE 1 (natOfBool (!c.missing && !c.active) + 2 * natOfBool c.missing)
    ++ bytesLE 2 (s.memberDither c.id) ++ bytesLE 4 mw ++ bytesLE 1 (s.obj 0x7001 5) ++ bytesLE 1 (s.obj 0x7001 6) ++ bytesLE 6 0

/-- The budget a Governor applies from the next C-frame tick (R389). -/
def State.armBudget (s : State) (role : Nat) (g : Grant) : State :=
  ({ s with segment := { s.segment with role := role, arm := some g, fedAt := s.tb.now } } : State).fleetCause

/-- A frame of this chapter, with session 0; its header sequence is stated nowhere (16 Messages). -/
def State.sendFleet (s : State) (kind : Nat) (body : List Byte) : State :=
  let f := s.frameFor broadcastMac kind 0 (Free.value s.free % 2 ^ 16) body
  ({ s with free := s.free + 1 } : State).send f

/-- Budgets formed, sent, and the own entry applied (R387). -/
def State.formBudget (s : State) : State :=
  let s := each s.memberIds State.judgeMember s
  let cs := s.claims
  let total := s.obj 0x7001 1
  let short := shortfall total cs
  let given := cs.map (fun c => (c, allot total cs c))
  let body := bytesLE 4 s.segment.bseq ++ bytesLE 4 total ++ bytesLE 1 cs.length ++ bytesLE 1 s.gov.st.code ++ bytesLE 2 0
    ++ given.flatMap (fun p => s.entryBytes p.1 p.2)
  let s := each (given.filter (fun p => !p.1.missing)) (fun s p =>
    s.setMember p.1.id { s.member p.1.id with last := p.2 }) s
  let s : State := { s with
    segment := { s.segment with shortfall := short, bseq := (s.segment.bseq + 1) % 2 ^ 32 }
    muriri := { s.muriri with tx := [] } }
  let s := if short then s.bump 0x7001 0x0A else s
  let s := s.sendFleet 0x41 body
  s.armBudget 5 {
    mw := (s.member 0).last
    up := s.obj 0x7001 5
    down := s.obj 0x7001 6
    dither := some (s.memberDither 0) }

/-- Whether this is the C-frame of every n-th H-frame tick since BOOT. -/
def State.everyH (s : State) (n : Nat) : Bool :=
  s.tb.cframe % 1000 == 0 && s.segment.hcount != 0 && s.segment.hcount % n == 0

/-- Whether the Governor coordinates at present: its role, its COM and its state (16 Messages). -/
def State.coordinates (s : State) : Bool := s.role == 1 && s.comRuns && s.gov.st != .off && s.gov.st != .boot

/-- BUDGET_FORMATION (R385, R387). -/
def execBudgetFormation (s : State) : Host.Outcome State Fault Refusal :=
  if s.coordinates && s.everyH 10 then .next s.formBudget else .next s

/-! ### A worker -/

/-- The three tests of R388 on a frame's header beyond its source: schema and configuration epoch. -/
def State.sameSchema (s : State) (f : Frame) : Bool := f.schema == s.obj 0x1000 8 && f.epoch == s.obj 0x1000 5

/-- The entry of a BUDGET for a member id. -/
def entryFor (b : List Byte) (id : Nat) : Option Grant :=
  match (List.range (field b 8 1)).find? (fun i => field b (12 + 16 * i) 1 == id) with
  | some i =>
    some {
      mw := field b (12 + 16 * i + 4) 4
      up := field b (12 + 16 * i + 8) 1
      down := field b (12 + 16 * i + 9) 1
      dither := some (field b (12 + 16 * i + 2) 2) }
  | none => none

/-- BUDGET ACK (16 Messages). -/
def State.ackBudget (s : State) (f : Frame) (seq : Nat) : State :=
  let degraded := if s.cfg == .core then 0 else natOfBool s.degraded
  s.send (s.frameFor f.src 0x42 0 f.seq
    (bytesLE 4 seq ++ bytesLE 1 (s.obj 0x7000 2) ++ bytesLE 1 s.gov.st.code ++ bytesLE 1 s.segment.role
      ++ bytesLE 1 degraded ++ bytesLE 4 (s.obj 0x2801 1) ++ bytesLE 4 s.segment.hPower ++ bytesLE 4 s.ownDemand
      ++ bytesLE 1 s.clock.quality ++ bytesLE 3 0))

/-- A BUDGET accepted and acknowledged; its entry for the worker, if it has one, is the worker's budget (R388 to R390). -/
def State.acceptBudget (s : State) (f : Frame) : State :=
  let b := bodyOf f
  let seq := field b 0 4
  let s := ({ s with segment := { s.segment with lastSeq := some seq } } : State).bump 0x7000 0x0A
  let s := match entryFor b (s.obj 0x7000 2) with
    | some g => ({ s with segment := { s.segment with b0 := some g.mw } } : State).armBudget 2 g
    | none => s
  s.ackBudget f seq

/-- A BUDGET refused: the worker enters REFUSED, from where the island share counts anew (R388, R390). -/
def State.refuseBudget (s : State) : State :=
  let share := if s.segment.role = 4 then s.segment.share else 0
  (({ s with segment := { s.segment with role := 4, share := share, arm := none } } : State).bump 0x7000 0x0B).fleetCause

/-- A BUDGET at a worker (R388). -/
def State.workerBudget (s : State) (f : Frame) : State :=
  if f.src != s.obj 0x7000 3 then s.bump 0x7000 0x0F
  else if !s.sameSchema f then s.refuseBudget
  else if s.segment.lastSeq == some (field (bodyOf f) 0 4) then s
  else s.acceptBudget f

/-- A BUDGET of another coordinator: counted, the cause of pin 60 for 1 s (R391). -/
def State.foreignBudget (s : State) : State :=
  let s := s.bump 0x7001 9
  ({ s with segment := { s.segment with foreign := some (s.tb.now + cycles 1000000000) } } : State).fleetCause

/-- BUDGET (R388, R391). A Governor with no role ignores it (R384). -/
def execBudget (f : Frame) (s : State) : Host.Outcome State Fault Refusal :=
  s.onFrame (.budget f) f 0x41 (fun s =>
    match s.role with
    | 1 => s.foreignBudget
    | 2 => s.workerBudget f
    | _ => s)

/-- COORDINATOR_LOSS (R390): 50 ms with no accepted budget take a following worker to ISLAND. -/
def execCoordinatorLoss (s : State) : Host.Outcome State Fault Refusal :=
  if s.tb.gclk && s.segment.role = 2 then
    let s := s.atTime (s.segment.fedAt + cycles 50000000)
    .next (({ s with segment := { s.segment with role := 3, share := 0 } } : State).bump 0x7000 0x0C).fleetCause
  else .next s

/-- FOREIGN_BUDGET_CAUSE_END (R391). -/
def execForeignBudgetCauseEnd (s : State) : Host.Outcome State Fault Refusal :=
  match s.segment.foreign with
  | some t =>
    let s := s.atTime t
    .next ({ s with segment := { s.segment with foreign := none } } : State).fleetCause
  | none => .next s

/-! ### Acknowledgements -/

/-- An acknowledgement that the coordinator ignores; the first from each of 16 addresses writes record 0x0260 (R391). -/
def State.ignoreAck (s : State) (f : Frame) : State :=
  let s := s.bump 0x7001 9
  if s.segment.unknown.contains f.src || 16 ≤ s.segment.unknown.length then s
  else
    ({ s with segment := { s.segment with unknown := s.segment.unknown ++ [f.src] } } : State).record 0x0260
      (4 * 2 ^ 56 + field (bodyOf f) 4 1 * 2 ^ 40) f.src false

/-- An acknowledgement of a member (R391). -/
def State.memberAck (s : State) (f : Frame) (m : Nat) : State :=
  let b := bodyOf f
  let bad := !s.sameSchema f
  let s := s.bump (0x7010 + m) 9
  let s := if bad then s.bump (0x7010 + m) 8 else s
  (s.setMember m { s.member m with
    acked := true
    state := field b 5 1
    power := field b 12 4
    demand := field b 16 4
    mismatch := bad }).fleetCause

/-- BUDGET_ACK (R391). -/
def execBudgetAck (f : Frame) (s : State) : Host.Outcome State Fault Refusal :=
  s.onFrame (.budgetAck f) f 0x42 (fun s =>
    if s.role != 1 then s
    else
      match s.memberIds.find? (fun m => s.memberMac m == f.src) with
      | some m => if field (bodyOf f) 4 1 = m then s.memberAck f m else s.ignoreAck f
      | none => s.ignoreAck f)

/-! ### Time (R392) -/

/-- TIME_BROADCAST (R392): at every 1,000th H-frame tick while the coordinator's quality is REFERENCE. -/
def execTimeBroadcast (s : State) : Host.Outcome State Fault Refusal :=
  if s.coordinates && s.everyH 1000 && s.clock.quality = 3 then
    let s : State := { s with muriri := { s.muriri with tx := [] } }
    .next (s.sendFleet 0x40 (bytesLE 8 s.timeField ++ bytesLE 8 0))
  else .next s

/-- A TIME accepted: the offset is published; the time is adopted below REFERENCE, else a large offset triggers pin 61. -/
def State.workerTime (s : State) (f : Frame) (rxTime : Nat) : State :=
  let sent : Nat := field (bodyOf f) 0 8 % 2 ^ 62
  let offset : Int := (sent : Int) + (s.obj 0x7000 6 : Int) - (rxTime : Int)
  let s : State := { s with segment := { s.segment with timeOffset := offset } }
  if s.clock.quality < 3 then (s.setTime ((s.tai : Int) + offset).toNat 2).bump 0x7000 0x0E
  else if 1000000 < offset.natAbs then s.trigger 61 0 0 0 0
  else s

/-- TIME (R392), under the first three tests of R388. -/
def execTime (f : Frame) (rxTime : Nat) (s : State) : Host.Outcome State Fault Refusal :=
  s.onFrame (.time f rxTime) f 0x40 (fun s =>
    if s.role = 2 && f.src == s.obj 0x7000 3 && s.sameSchema f then s.workerTime f rxTime else s)

end Sys2Proof.Machine
end

