-- ==== Sys2Proof/Machine/Sequence.lean ====
section
/-! DEFINITION. The events of SEQUENCING (03 R64, R65, 04 R115 to R117, 17 R400): stage supply, lane census, ramps,
power-good, discharge. -/

namespace Sys2Proof.Machine

/-- A lane that the census has looked at (03 R64): assigned lanes are COLD or MISSING, an unassigned lane that is found
becomes UNUSED and is recorded. One that is UNUSED stays so where a later census does not find it (DESIGN CHOICE, log 128). -/
def State.censusLane (s : State) (n : Nat) (found : Bool) : State :=
  let l := s.lane n
  if s.laneRail n < s.railCount then
    s.setLane n { l.down with st := if found then .cold else .missing, cause := if found then 0 else 5 }
  else if found && l.st == .unassigned then
    (s.setLane n { l with st := .unused }).record 0x0260 (n * 2 ^ 40) 0 false
  else s

/-- Instant by which a ramp from `start` must be power-good (04 R115). -/
def State.rampDeadline (s : State) (r start : Nat) : Nat :=
  let rise := ((s.baseSetpoint r) - (start : Int)).toNat
  s.tb.now + ceilDiv rise (s.obj (0x2200 + r) 0x1C) * 168 + s.cyc (0x2200 + r) 0x1E

/-- The ramp of a rail starts, with clear histories (04 R87, R115). -/
def State.startRamp (s : State) (r : Nat) : State :=
  let start := if (s.rail r).dieValid && 4800 ≤ (s.rail r).die then (s.rail r).die else 0
  let s := s.modRail r (fun v => { v with
    seq := .ramping, rampUp := true, setpoint := start, pgRun := 0, deadline := s.rampDeadline r start
    e := [0, 0, 0, 0], w := [0, 0, 0], lawDone := false, overruns := 0 })
  s.raisePlan r (s.nPlan r 0)

/-- Whether a census has found a lane: every sample of the 64 F-frames was plausible and the stream never stuck (03 R64). -/
def Lane.found (l : Lane) : Bool := 64 ≤ l.good && !l.bad

/-- LANE_CENSUS_COMPLETE (03 R64, R65, R76): the 64 F-frames have passed. `stuck` are the lanes whose stream turned stuck after the
last F-frame tick of the window, which no latched sample shows. Missing lanes raise their source once for the rail in this
cycle; the floor check decides whether the rail ramps. -/
def execLaneCensusComplete (rail : Nat) (stuck : List Nat) (s : State) : Host.Outcome State Fault Refusal :=
  if (s.rail rail).seq == .census && s.gov.phase == .rails && 64 ≤ (s.rail rail).censusN then
    let lanes := (List.range s.laneCount).filter (fun n => s.laneRail n == rail || s.laneRail n == 0xFF)
    let s := each lanes (fun s n => s.censusLane n ((s.lane n).found && !stuck.contains n)) s
    let lost := (s.railLanes rail).filter (fun n => (s.lane n).st == .missing)
    let s := s.triggerAll 10 1 5 (lost.map (fun n => (rail, s.lanePa n)))
    let s := s.floorCheck rail
    if (s.rail rail).seq != .census then .next s
    else if s.floorMet rail then .next (s.startRamp rail)
    else .next (s.railMissed rail)
  else .next s

/-- With every rail at the position power-good the next position follows after the delay, and after the last one the
domains (04 R115, 10 States). -/
def State.positionDone (s : State) : State :=
  if s.gov.phase == .rails && (s.positionRails s.gov.seqPos).all (fun r => (s.rail r).good) then
    match s.nextPosition (some s.gov.seqPos) with
    | some _ => { s with gov := { s.gov with phase := .delay, seqStart := s.tb.now } }
    | none => s.startDomains
  else s

/-- RAIL_POWER_GOOD (04 R115): 16 consecutive F-frames within the band. The census of the memory stacks that the rail
supplies starts (09 R224). -/
def execRailPowerGood (rail : Nat) (s : State) : Host.Outcome State Fault Refusal :=
  let v := s.rail rail
  if v.seq == .ramping && 16 ≤ v.pgRun then
    .next (((s.setRail rail { v with seq := .good, goodOnce := true }).stackCensus rail).positionDone)
  else .next s

/-- RAIL_POWER_GOOD_MISS (04 R116): the deadline has passed. -/
def execRailPowerGoodMiss (rail : Nat) (s : State) : Host.Outcome State Fault Refusal :=
  let v := s.rail rail
  if v.seq == .ramping then .next ((s.atTime v.deadline).railMissed rail) else .next s

/-- INTER_RAIL_DELAY_END (04 R115): the census of the next position starts. -/
def execInterRailDelayEnd (s : State) : Host.Outcome State Fault Refusal :=
  if s.gov.phase == .delay then
    let s := s.atTime (s.gov.seqStart + s.cyc 0x2003 1)
    match s.nextPosition (some s.gov.seqPos) with
    | some p => .next (s.startCensus p)
    | none => .next s.startDomains
  else .next s

/-- STAGE_SUPPLY_QUALIFIED (17 R400): stg_pg high for 1 ms; the census of the first position starts. -/
def execStageSupplyQualified (s : State) : Host.Outcome State Fault Refusal :=
  if s.gov.phase == .supply then .next (s.startCensus s.gov.seqPos) else .next s

/-- STAGE_SUPPLY_TIMEOUT (17 R400): 100 ms without it are a missed deadline of the rails at the first position. -/
def execStageSupplyTimeout (s : State) : Host.Outcome State Fault Refusal :=
  if s.gov.phase == .supply then
    let s := s.atTime (s.gov.seqStart + cycles 100000000)
    let ts := (s.positionRails s.gov.seqPos).map (fun r => (r, s.railPa r 0))
    .next ((s.triggerAll 16 1 0 ts).seqFail)
  else .next s

/-- RAIL_DISCHARGE_DONE (04 R117): every valid sample lies below the discharge level. -/
def execRailDischargeDone (rail high : Nat) (s : State) : Host.Outcome State Fault Refusal :=
  if (s.rail rail).seq == .discharging && high < s.obj 0x2003 2 then .next (s.discharged rail) else .next s

/-- RAIL_DISCHARGE_TIMEOUT (04 R117): recorded at NOTE level. -/
def execRailDischargeTimeout (rail : Nat) (s : State) : Host.Outcome State Fault Refusal :=
  let v := s.rail rail
  if v.seq == .discharging then
    .next (((s.atTime v.deadline).record 0x0261 (rail * 2 ^ 56) 0 false).discharged rail)
  else .next s

end Sys2Proof.Machine
end

