-- ==== Sys2Proof/Machine/TestAccess.lean ====
section
/-! DEFINITION. Test access (17 R421, 19 R439, R440): scan mode, the TAP's instructions and the instruments. The analogue
test buses are in Writes.lean. -/

namespace Sys2Proof.Machine

/-- The test logic has taken the ports: the sub-island's trip latch is set and the Governor is in TRIP until a reset; while
gov_rst_n is low the BOOT that follows enters TRIP from the latch (17 R421, 19 R439). -/
def State.portsTaken (s : State) : State :=
  if s.gov.govRstLow then { s with gov := { s.gov with tripLatch := true, tripCause := 4 } }
  else
    let s := s.enter .trip 0xFF
    { s with gov := { s.gov with tripLatch := true, tripCause := 4, scanMode := true } }

/-- SCAN_MODE_ENTRY (17 R421): scan_mode rises while VGOV is valid. -/
def execScanModeEntry (s : State) : Host.Outcome State Fault Refusal := if s.gov.st == .off then .next s else .next s.portsTaken

/-- The TAP's instruction register loaded; without VGOV nothing loads. -/
def State.loadIr (s : State) (code : BitVec 8) : State :=
  if s.gov.st == .off then s else { s with test := { s.test with ir := code } }

/-- EXTEST (19 R439): loads only while trip_out is asserted, otherwise it is BYPASS. -/
def execExtest (s : State) : Host.Outcome State Fault Refusal :=
  if s.gov.st == .off then .next s
  else if s.tripOut then .next (s.portsTaken.loadIr 0x00)
  else .next (s.loadIr 0xFF)

/-- SAMPLE_PRELOAD (19 Boundary scan). -/
def execSamplePreload (s : State) : Host.Outcome State Fault Refusal := .next (s.loadIr 0x01)

/-- The device identification register: MAJOR, product code, manufacturer code, 1 (19 Boundary scan). -/
def idcodeWord (cfg : Config) : BitVec 32 :=
  let product : Nat := match cfg with
    | .full => 0x0401
    | .core => 0x0402
  BitVec.ofNat 32 (0x4 * 2 ^ 28 + product * 2 ^ 12 + Free.tapMfr.toNat * 2 + 1)

/-- IDCODE (19 Boundary scan). -/
def execIdcode (s : State) : Host.Outcome State Fault Refusal :=
  if s.gov.st == .off then .next s
  else
    let s := s.loadIr 0x02
    .next { s with test := { s.test with idcode := idcodeWord s.cfg } }

/-- INSTR (19 Boundary scan): the instrument network is selected. -/
def execInstr (s : State) : Host.Outcome State Fault Refusal := .next (s.loadIr 0x10)

/-- Whether a code of the TAP is listed as an instruction other than BYPASS. -/
def tapListed (code : BitVec 8) : Bool := code == 0x00 || code == 0x01 || code == 0x02 || code == 0x10

/-- BYPASS (19 Boundary scan): the code 0xFF and every code not listed. -/
def execBypass (code : BitVec 8) (s : State) : Host.Outcome State Fault Refusal :=
  if tapListed code then .next s else .next (s.loadIr code)

/-! ### Instruments (19 R440) -/

/-- An instrument that acts only while trip_out is asserted. -/
def State.instrument (s : State) (f : Test → Test) : Host.Outcome State Fault Refusal :=
  if s.gov.st != .off && s.tripOut then .next { s with test := f s.test } else .next s

/-- Fuses after a write before the manufacturing lock. -/
def Fuses.program (u : Fuses) (field : FuseField) (v : Nat) : Fuses :=
  match field with
  | .serial => { u with serial := v % 2 ^ 64 }
  | .key => { u with key := BitVec.ofNat 256 v }
  | .keyVersion => { u with keyVersion := v % 2 ^ 16 }
  | .revokeSlot => { u with revoked := u.revoked ||| 2 ^ (v % 8) }
  | .minSecurity => { u with minSecurity := v % 2 ^ 32 }
  | .lock => { u with lock := u.lock || v != 0 }

/-- Fuses after a write: once the lock is blown only a revocation bit, or a higher minimum security version (R440). -/
def Fuses.write (u : Fuses) (field : FuseField) (v : Nat) : Fuses :=
  if !u.lock then u.program field v
  else
    match field with
    | .revokeSlot => u.program .revokeSlot v
    | .minSecurity => if u.minSecurity < v % 2 ^ 32 then u.program .minSecurity v else u
    | .serial | .key | .keyVersion | .lock => u

/-- FUSE_WRITE (R440). What BOOT has read of the fuses stays until the next cold reset. -/
def execFuseWrite (field : FuseField) (value : Nat) (s : State) : Host.Outcome State Fault Refusal :=
  s.instrument (fun t => { t with fuses := t.fuses.write field value })

/-- MEMORY_BIST (R440): the result of a group of SRAMs. -/
def execMemoryBist (group : Nat) (pass : Bool) (s : State) : Host.Outcome State Fault Refusal :=
  s.instrument (fun t => { t with bist := tset t.bist group pass })

/-- OXS_T_TRIM (R440): offset and slope of a cell. -/
def execOxsTTrim (sensor : Nat) (offset slope : Int) (s : State) : Host.Outcome State Fault Refusal :=
  if sensor < 256 then s.instrument (fun t => { t with trims := tset t.trims sensor (offset, slope) }) else .next s

/-- CLOCK_TRIM (R440): trim of the 32 MHz oscillator. -/
def execClockTrim (value : Int) (s : State) : Host.Outcome State Fault Refusal :=
  s.instrument (fun t => { t with clockTrim := value })

end Sys2Proof.Machine
end

