-- ==== Sys2Proof/Machine/Wake.lean ====
section
/-! DEFINITION. PLL_LOCK: GCLK runs, and what has waited for it is served (02 R35, R45, R48, 17 R417, R418). -/

namespace Sys2Proof.Machine

/-- A command that waited for GCLK, served as it would be now (02 R48). -/
def State.serveOne (c : Instr) (s : State) : Host.Outcome State Fault Refusal :=
  match c with
  | .doorbell w => execDoorbell w s
  | .claim a t => execClaim a t s
  | .complete a t w => execComplete a t w s
  | .configureSource w => execConfigureSource w s
  | .pendSet i w => execPendSet i w s
  | .pendClr i w => execPendClr i w s
  | .maskSet i w => execMaskSet i w s
  | .maskClr i w => execMaskClr i w s
  | .icuPlainWrite r i w => execIcuPlainWrite r i w s
  | .targetConfigWrite a t w => execTargetConfigWrite a t w s
  | .watchWrite i w => execWatchWrite i w s
  | .post a c w => execPost a c w s
  | .take a c => execTake a c s
  | .free a c w => execFree a c w s
  | .ackClear a c w => execAckClear a c w s
  | .tostClear a c w => execTostClear a c w s
  | .mailboxMaskWrite a c w => execMailboxMaskWrite a c w s
  | .objectWindowClaim => execObjectWindowClaim s
  | .objectWindowRelease w => execObjectWindowRelease w s
  | .objectWindowRead w => execObjectWindowRead w s
  | .objectWindowWrite w => execObjectWindowWrite w s
  | .g3Read o => execG3Read o s
  | .registerWrite a b w => execRegisterWrite a b w s
  | .muOpen f => execMuOpen f s
  | .muClose f => execMuClose f s
  | .muRead f => execMuRead f s
  | .muWrite f => execMuWrite f s
  | .muReadInit f => execMuReadInit f s
  | .muWriteInit f => execMuWriteInit f s
  | .muSegment f => execMuSegment f s
  | .muSegmentAck f => execMuSegmentAck f s
  | .muAbort f => execMuAbort f s
  | .malformedFrame f => execMalformedFrame f s
  | .eventAck f => execEventAck f s
  | .budget f => execBudget f s
  | .budgetAck f => execBudgetAck f s
  | .time f t => execTime f t s
  | _ => .next s

/-- One waiting command served; what it makes of the state stands. -/
def State.served (s : State) (c : Instr) : State :=
  match State.serveOne c s with
  | .next t => t
  | _ => s

/-- Every waiting command served in the order of arrival. -/
def State.serveWaiting (s : State) : State :=
  each s.tb.waiting State.served { s with tb := { s.tb with waiting := [] } }

/-- PLL_LOCK (02 R35, R45, R48): in BOOT, after a standby clock stop, and after a trip in one, GCLK runs once the PLL has locked,
to SYNC_IN or to the oscillator; commands that waited for it are served. Without SYNC_IN after a standby clock stop the
Governor goes to holdover as in BOOT (DESIGN CHOICE, log 130). -/
def execPllLock (syncPresent : Bool) (s : State) : Host.Outcome State Fault Refusal :=
  if !s.tb.gclk && !s.gov.govRstLow && s.gov.st != .off && (s.gov.booting || s.tb.waking) then
    let s := s.startGclk
    let s := if syncPresent then ({ s with tb := { s.tb with tb := .locked } } : State).dropCause 1 0 0 else s.holdover
    .next s.bootTrip.serveWaiting
  else .next s

end Sys2Proof.Machine
end

