-- ==== Sys2Proof/Machine/Dispatch.lean ====
section
/-! DEFINITION. Which definition gives each command its meaning: one arm per constructor of `Instr`. -/

namespace Sys2Proof.Machine

/-- The effect of a command on everything but the queue. -/
def exec (i : Instr) (s : State) : Host.Outcome State Fault Refusal :=
  match i with
  | .coldReset => Sys2Proof.Machine.execColdReset s
  | .vgovLoss => Sys2Proof.Machine.execVgovLoss s
  | .strapSample sel => Sys2Proof.Machine.execStrapSample sel s
  | .govReset => Sys2Proof.Machine.execGovReset s
  | .govResetRelease => Sys2Proof.Machine.execGovResetRelease s
  | .hostReset => Sys2Proof.Machine.execHostReset s
  | .bootComplete img fw => Sys2Proof.Machine.execBootComplete img fw s
  | .coreStartTimeout core dump => Sys2Proof.Machine.execCoreStartTimeout core dump s
  | .syncInLoss => Sys2Proof.Machine.execSyncInLoss s
  | .relockQualified => Sys2Proof.Machine.execRelockQualified s
  | .frequencyPullComplete err => Sys2Proof.Machine.execFrequencyPullComplete err s
  | .pllLock syncPresent => Sys2Proof.Machine.execPllLock syncPresent s
  | .clockFailure => Sys2Proof.Machine.execClockFailure s
  | .gclkWake => Sys2Proof.Machine.execGclkWake s
  | .standbyClockStop => Sys2Proof.Machine.execStandbyClockStop s
  | .fFrameTick lanes taps => Sys2Proof.Machine.execFFrameTick lanes taps s
  | .fFrameCommit lateLaws lateTrims => Sys2Proof.Machine.execFFrameCommit lateLaws lateTrims s
  | .fSwBoundary rail => Sys2Proof.Machine.execFSwBoundary rail s
  | .cFrameTick => Sys2Proof.Machine.execCFrameTick s
  | .cFrameCompetition lateLaws => Sys2Proof.Machine.execCFrameCompetition lateLaws s
  | .cFrameRateCommit late => Sys2Proof.Machine.execCFrameRateCommit late s
  | .tallyCommit => Sys2Proof.Machine.execTallyCommit s
  | .sFrameTick => Sys2Proof.Machine.execSFrameTick s
  | .thermalCommit reads => Sys2Proof.Machine.execThermalCommit reads s
  | .hFrameTick lateCores => Sys2Proof.Machine.execHFrameTick lateCores s
  | .loopOverrun rail => Sys2Proof.Machine.execLoopOverrun rail s
  | .laneCensusComplete rail stuck => Sys2Proof.Machine.execLaneCensusComplete rail stuck s
  | .stageFault lane => Sys2Proof.Machine.execStageFault lane s
  | .stageFaultRetryEnable release => Sys2Proof.Machine.execStageFaultRetryEnable release s
  | .stageFaultReleaseLimit lane => Sys2Proof.Machine.execStageFaultReleaseLimit lane s
  | .laneWakeEnd lane => Sys2Proof.Machine.execLaneWakeEnd lane s
  | .warmParkExpiry lane => Sys2Proof.Machine.execWarmParkExpiry lane s
  | .laneOpen lane => Sys2Proof.Machine.execLaneOpen lane s
  | .laneSenseFailure lane => Sys2Proof.Machine.execLaneSenseFailure lane s
  | .laneRearm sess lane value => Sys2Proof.Machine.execLaneRearm sess lane value s
  | .senseTapExclusion tap => Sys2Proof.Machine.execSenseTapExclusion tap s
  | .allPhaseFire rail low => Sys2Proof.Machine.execAllPhaseFire rail low s
  | .fireEnd rail low => Sys2Proof.Machine.execFireEnd rail low s
  | .fireRearm rail low => Sys2Proof.Machine.execFireRearm rail low s
  | .overvoltageClamp rail high => Sys2Proof.Machine.execOvervoltageClamp rail high s
  | .railOvervoltage rail high => Sys2Proof.Machine.execRailOvervoltage rail high s
  | .railUndervoltage rail => Sys2Proof.Machine.execRailUndervoltage rail s
  | .avsTrimRequest sess rail value => Sys2Proof.Machine.execAvsTrimRequest sess rail value s
  | .shedDecision rail => Sys2Proof.Machine.execShedDecision rail s
  | .interRailDelayEnd => Sys2Proof.Machine.execInterRailDelayEnd s
  | .stageSupplyQualified => Sys2Proof.Machine.execStageSupplyQualified s
  | .stageSupplyTimeout => Sys2Proof.Machine.execStageSupplyTimeout s
  | .railPowerGood rail => Sys2Proof.Machine.execRailPowerGood rail s
  | .railPowerGoodMiss rail => Sys2Proof.Machine.execRailPowerGoodMiss rail s
  | .railDischargeDone rail high => Sys2Proof.Machine.execRailDischargeDone rail high s
  | .railDischargeTimeout rail => Sys2Proof.Machine.execRailDischargeTimeout rail s
  | .fastPathStretch domain sev => Sys2Proof.Machine.execFastPathStretch domain sev s
  | .droopReport tap rep volts => Sys2Proof.Machine.execDroopReport tap rep volts s
  | .stretchReleaseStep domain deepLine sevLine => Sys2Proof.Machine.execStretchReleaseStep domain deepLine sevLine s
  | .freezeRelease domain => Sys2Proof.Machine.execFreezeRelease domain s
  | .longFreeze domain => Sys2Proof.Machine.execLongFreeze domain s
  | .excursionWindowClose domain => Sys2Proof.Machine.execExcursionWindowClose domain s
  | .tapDisagreement tap => Sys2Proof.Machine.execTapDisagreement tap s
  | .tapRearm sess tap value => Sys2Proof.Machine.execTapRearm sess tap value s
  | .droopThresholdWrite sess group sub value => Sys2Proof.Machine.execDroopThresholdWrite sess group sub value s
  | .tapSettleEnd domain => Sys2Proof.Machine.execTapSettleEnd domain s
  | .domainCensusComplete domain => Sys2Proof.Machine.execDomainCensusComplete domain s
  | .domainCensusWindowEnd domain => Sys2Proof.Machine.execDomainCensusWindowEnd domain s
  | .issue port word => Sys2Proof.Machine.execIssue port word s
  | .reservationExpiry array => Sys2Proof.Machine.execReservationExpiry array s
  | .ringSweep => Sys2Proof.Machine.execRingSweep s
  | .quantumWrite sess value => Sys2Proof.Machine.execQuantumWrite sess value s
  | .announce port word => Sys2Proof.Machine.execAnnounce port word s
  | .announceLookup => Sys2Proof.Machine.execAnnounceLookup s
  | .done port word => Sys2Proof.Machine.execDone port word s
  | .doneDigest port word => Sys2Proof.Machine.execDoneDigest port word s
  | .cancel port word => Sys2Proof.Machine.execCancel port word s
  | .deferredCancel => Sys2Proof.Machine.execDeferredCancel s
  | .predictedSlotExpiry slot => Sys2Proof.Machine.execPredictedSlotExpiry slot s
  | .grantedGroupTimeout slot => Sys2Proof.Machine.execGrantedGroupTimeout slot s
  | .signatureEntryWrite sess value => Sys2Proof.Machine.execSignatureEntryWrite sess value s
  | .programLoadData sess data => Sys2Proof.Machine.execProgramLoadData sess data s
  | .programActivate sess value => Sys2Proof.Machine.execProgramActivate sess value s
  | .clearStickyFlags sess value => Sys2Proof.Machine.execClearStickyFlags sess value s
  | .coefficientCommit sess inst value => Sys2Proof.Machine.execCoefficientCommit sess inst value s
  | .followingError inst => Sys2Proof.Machine.execFollowingError inst s
  | .injectionStart sess => Sys2Proof.Machine.execInjectionStart sess s
  | .injectionDelayEnd => Sys2Proof.Machine.execInjectionDelayEnd s
  | .injectionStop sess => Sys2Proof.Machine.execInjectionStop sess s
  | .injectionEnd => Sys2Proof.Machine.execInjectionEnd s
  | .captureArm sess => Sys2Proof.Machine.execCaptureArm sess s
  | .captureForceTrigger sess => Sys2Proof.Machine.execCaptureForceTrigger sess s
  | .captureStop sess => Sys2Proof.Machine.execCaptureStop sess s
  | .captureComplete => Sys2Proof.Machine.execCaptureComplete s
  | .externalSensorSlot raw => Sys2Proof.Machine.execExternalSensorSlot raw s
  | .memoryStackWord stack word => Sys2Proof.Machine.execMemoryStackWord stack word s
  | .sensorRearm sess sensor value => Sys2Proof.Machine.execSensorRearm sess sensor value s
  | .oxsTTrip sensor => Sys2Proof.Machine.execOxsTTrip sensor s
  | .oxsTProgram retried failed => Sys2Proof.Machine.execOxsTProgram retried failed s
  | .coolantUpdateCommit sess value => Sys2Proof.Machine.execCoolantUpdateCommit sess value s
  | .coolantTimeout => Sys2Proof.Machine.execCoolantTimeout s
  | .coolantRecovery => Sys2Proof.Machine.execCoolantRecovery s
  | .restartHoldComplete => Sys2Proof.Machine.execRestartHoldComplete s
  | .cooldownProlonged => Sys2Proof.Machine.execCooldownProlonged s
  | .tripActionsComplete => Sys2Proof.Machine.execTripActionsComplete s
  | .domainWakeRequest sess domain => Sys2Proof.Machine.execDomainWakeRequest sess domain s
  | .domainGateRequest sess domain => Sys2Proof.Machine.execDomainGateRequest sess domain s
  | .domainWakeStart domain => Sys2Proof.Machine.execDomainWakeStart domain s
  | .domainStageStep domain => Sys2Proof.Machine.execDomainStageStep domain s
  | .domainPowerGood domain => Sys2Proof.Machine.execDomainPowerGood domain s
  | .domainPgWindowMiss domain => Sys2Proof.Machine.execDomainPgWindowMiss domain s
  | .domainIsolationRelease domain => Sys2Proof.Machine.execDomainIsolationRelease domain s
  | .domainRetryDelayEnd domain => Sys2Proof.Machine.execDomainRetryDelayEnd domain s
  | .wakeWaitExpiry domain => Sys2Proof.Machine.execWakeWaitExpiry domain s
  | .drainComplete domain => Sys2Proof.Machine.execDrainComplete domain s
  | .drainTimeout domain => Sys2Proof.Machine.execDrainTimeout domain s
  | .autoWake domain => Sys2Proof.Machine.execAutoWake domain s
  | .domainPowerGoodLoss domain => Sys2Proof.Machine.execDomainPowerGoodLoss domain s
  | .domainRearm sess domain value => Sys2Proof.Machine.execDomainRearm sess domain value s
  | .powerOn sess => Sys2Proof.Machine.execPowerOn sess s
  | .powerOff sess => Sys2Proof.Machine.execPowerOff sess s
  | .meterOn sess => Sys2Proof.Machine.execMeterOn sess s
  | .meterOff sess => Sys2Proof.Machine.execMeterOff sess s
  | .resume sess => Sys2Proof.Machine.execResume sess s
  | .serviceEnter sess => Sys2Proof.Machine.execServiceEnter sess s
  | .serviceExit sess arg => Sys2Proof.Machine.execServiceExit sess arg s
  | .softReset sess => Sys2Proof.Machine.execSoftReset sess s
  | .assayRequestTransfer => Sys2Proof.Machine.execAssayRequestTransfer s
  | .duplicateDeadline entry => Sys2Proof.Machine.execDuplicateDeadline entry s
  | .thirdExecutionRequest => Sys2Proof.Machine.execThirdExecutionRequest s
  | .thirdDeadline entry => Sys2Proof.Machine.execThirdDeadline entry s
  | .releaseQuarantine sess array value => Sys2Proof.Machine.execReleaseQuarantine sess array value s
  | .contributionFence id => Sys2Proof.Machine.execContributionFence id s
  | .fenceAnswer => Sys2Proof.Machine.execFenceAnswer s
  | .peerReport sess word => Sys2Proof.Machine.execPeerReport sess word s
  | .knownAnswerStart sess => Sys2Proof.Machine.execKnownAnswerStart sess s
  | .knownAnswerStop sess => Sys2Proof.Machine.execKnownAnswerStop sess s
  | .knownAnswerTimeout array entry => Sys2Proof.Machine.execKnownAnswerTimeout array entry s
  | .knownAnswerRunEnd => Sys2Proof.Machine.execKnownAnswerRunEnd s
  | .sweepStart sess => Sys2Proof.Machine.execSweepStart sess s
  | .sweepStop sess => Sys2Proof.Machine.execSweepStop sess s
  | .sweepSettleEnd => Sys2Proof.Machine.execSweepSettleEnd s
  | .sweepStepComplete => Sys2Proof.Machine.execSweepStepComplete s
  | .faultTrigger pin scopeKind scopeIndex cause pa => Sys2Proof.Machine.execFaultTrigger pin scopeKind scopeIndex cause pa s
  | .dClassEvent pin => Sys2Proof.Machine.execDClassEvent pin s
  | .dClassWindowExpiry pin => Sys2Proof.Machine.execDClassWindowExpiry pin s
  | .transientStrobe pin => Sys2Proof.Machine.execTransientStrobe pin s
  | .faultAcknowledge sess word => Sys2Proof.Machine.execFaultAcknowledge sess word s
  | .recordWrite => Sys2Proof.Machine.execRecordWrite s
  | .daybookClear sess value => Sys2Proof.Machine.execDaybookClear sess value s
  | .vitrineClear sess value => Sys2Proof.Machine.execVitrineClear sess value s
  | .timeSet sess value quality => Sys2Proof.Machine.execTimeSet sess value quality s
  | .timeQualityHoldExpiry => Sys2Proof.Machine.execTimeQualityHoldExpiry s
  | .dumpRelease sess core value => Sys2Proof.Machine.execDumpRelease sess core value s
  | .dumpClearComplete core => Sys2Proof.Machine.execDumpClearComplete core s
  | .signal source => Sys2Proof.Machine.execSignal source s
  | .doorbell word => Sys2Proof.Machine.execDoorbell word s
  | .claim agent target => Sys2Proof.Machine.execClaim agent target s
  | .complete agent target word => Sys2Proof.Machine.execComplete agent target word s
  | .configureSource word => Sys2Proof.Machine.execConfigureSource word s
  | .pendSet index word => Sys2Proof.Machine.execPendSet index word s
  | .pendClr index word => Sys2Proof.Machine.execPendClr index word s
  | .maskSet index word => Sys2Proof.Machine.execMaskSet index word s
  | .maskClr index word => Sys2Proof.Machine.execMaskClr index word s
  | .icuPlainWrite reg index word => Sys2Proof.Machine.execIcuPlainWrite reg index word s
  | .targetConfigWrite agent target word => Sys2Proof.Machine.execTargetConfigWrite agent target word s
  | .watchWrite index word => Sys2Proof.Machine.execWatchWrite index word s
  | .watchWake source => Sys2Proof.Machine.execWatchWake source s
  | .fallbackOffer source => Sys2Proof.Machine.execFallbackOffer source s
  | .post agent channel word => Sys2Proof.Machine.execPost agent channel word s
  | .take agent channel => Sys2Proof.Machine.execTake agent channel s
  | .free agent channel word => Sys2Proof.Machine.execFree agent channel word s
  | .ackClear agent channel word => Sys2Proof.Machine.execAckClear agent channel word s
  | .tostClear agent channel word => Sys2Proof.Machine.execTostClear agent channel word s
  | .mailboxMaskWrite agent channel word => Sys2Proof.Machine.execMailboxMaskWrite agent channel word s
  | .noticeTimeout channel slot => Sys2Proof.Machine.execNoticeTimeout channel slot s
  | .objectRead channel slot => Sys2Proof.Machine.execObjectRead channel slot s
  | .objectWrite channel slot => Sys2Proof.Machine.execObjectWrite channel slot s
  | .attach channel slot => Sys2Proof.Machine.execAttach channel slot s
  | .heartbeat channel slot => Sys2Proof.Machine.execHeartbeat channel slot s
  | .detach channel slot => Sys2Proof.Machine.execDetach channel slot s
  | .heartbeatSend sess => Sys2Proof.Machine.execHeartbeatSend sess s
  | .hostLost sess => Sys2Proof.Machine.execHostLost sess s
  | .coreCrash core cause dump => Sys2Proof.Machine.execCoreCrash core cause dump s
  | .watchdogExpiry core dump => Sys2Proof.Machine.execWatchdogExpiry core dump s
  | .componentFault core component trap dump => Sys2Proof.Machine.execComponentFault core component trap dump s
  | .bankReloadComplete core img => Sys2Proof.Machine.execBankReloadComplete core img s
  | .coreRestartComplete core => Sys2Proof.Machine.execCoreRestartComplete core s
  | .releaseHold sess core value => Sys2Proof.Machine.execReleaseHold sess core value s
  | .updateTarget sess core => Sys2Proof.Machine.execUpdateTarget sess core s
  | .updateLoadData sess data => Sys2Proof.Machine.execUpdateLoadData sess data s
  | .updateVerify sess => Sys2Proof.Machine.execUpdateVerify sess s
  | .updateActivate sess => Sys2Proof.Machine.execUpdateActivate sess s
  | .updateAbort sess => Sys2Proof.Machine.execUpdateAbort sess s
  | .updateActivation => Sys2Proof.Machine.execUpdateActivation s
  | .updateRestartTimeout => Sys2Proof.Machine.execUpdateRestartTimeout s
  | .probationEnd => Sys2Proof.Machine.execProbationEnd s
  | .g3Read offset => Sys2Proof.Machine.execG3Read offset s
  | .g3ReadTimeout => Sys2Proof.Machine.execG3ReadTimeout s
  | .g3WriteQueueTimeout => Sys2Proof.Machine.execG3WriteQueueTimeout s
  | .g3PowerRequest word => Sys2Proof.Machine.execG3PowerRequest word s
  | .g3PlimitWrite word => Sys2Proof.Machine.execG3PlimitWrite word s
  | .g3ThresholdWrite reg word => Sys2Proof.Machine.execG3ThresholdWrite reg word s
  | .g3FaultClear high word => Sys2Proof.Machine.execG3FaultClear high word s
  | .objectWindowClaim => Sys2Proof.Machine.execObjectWindowClaim s
  | .objectWindowRelease word => Sys2Proof.Machine.execObjectWindowRelease word s
  | .objectWindowRead word => Sys2Proof.Machine.execObjectWindowRead word s
  | .objectWindowWrite word => Sys2Proof.Machine.execObjectWindowWrite word s
  | .objectWindowIdleRelease => Sys2Proof.Machine.execObjectWindowIdleRelease s
  | .objectAccessTimeout => Sys2Proof.Machine.execObjectAccessTimeout s
  | .lock sess index => Sys2Proof.Machine.execLock sess index s
  | .unlock sess index => Sys2Proof.Machine.execUnlock sess index s
  | .authChallenge sess => Sys2Proof.Machine.execAuthChallenge sess s
  | .authResponse sess response => Sys2Proof.Machine.execAuthResponse sess response s
  | .endAuthentication sess value => Sys2Proof.Machine.execEndAuthentication sess value s
  | .authBlockExpiry => Sys2Proof.Machine.execAuthBlockExpiry s
  | .muOpen f => Sys2Proof.Machine.execMuOpen f s
  | .muClose f => Sys2Proof.Machine.execMuClose f s
  | .muRead f => Sys2Proof.Machine.execMuRead f s
  | .muWrite f => Sys2Proof.Machine.execMuWrite f s
  | .muReadInit f => Sys2Proof.Machine.execMuReadInit f s
  | .muWriteInit f => Sys2Proof.Machine.execMuWriteInit f s
  | .muSegment f => Sys2Proof.Machine.execMuSegment f s
  | .muSegmentAck f => Sys2Proof.Machine.execMuSegmentAck f s
  | .muAbort f => Sys2Proof.Machine.execMuAbort f s
  | .segmentTimeout sess => Sys2Proof.Machine.execSegmentTimeout sess s
  | .sessionIdleTimeout sess => Sys2Proof.Machine.execSessionIdleTimeout sess s
  | .malformedFrame f => Sys2Proof.Machine.execMalformedFrame f s
  | .eventSend => Sys2Proof.Machine.execEventSend s
  | .eventRetransmit => Sys2Proof.Machine.execEventRetransmit s
  | .eventAck f => Sys2Proof.Machine.execEventAck f s
  | .budgetFormation => Sys2Proof.Machine.execBudgetFormation s
  | .budget f => Sys2Proof.Machine.execBudget f s
  | .budgetAck f => Sys2Proof.Machine.execBudgetAck f s
  | .timeBroadcast => Sys2Proof.Machine.execTimeBroadcast s
  | .time f rxTime => Sys2Proof.Machine.execTime f rxTime s
  | .coordinatorLoss => Sys2Proof.Machine.execCoordinatorLoss s
  | .scanModeEntry => Sys2Proof.Machine.execScanModeEntry s
  | .extest => Sys2Proof.Machine.execExtest s
  | .samplePreload => Sys2Proof.Machine.execSamplePreload s
  | .idcode => Sys2Proof.Machine.execIdcode s
  | .instr => Sys2Proof.Machine.execInstr s
  | .bypass code => Sys2Proof.Machine.execBypass code s
  | .fuseWrite field value => Sys2Proof.Machine.execFuseWrite field value s
  | .memoryBist group pass => Sys2Proof.Machine.execMemoryBist group pass s
  | .oxsTTrim sensor offset slope => Sys2Proof.Machine.execOxsTTrim sensor offset slope s
  | .clockTrim value => Sys2Proof.Machine.execClockTrim value s
  | .atbRoute sess word => Sys2Proof.Machine.execAtbRoute sess word s
  | .registerWrite addr strobes word => Sys2Proof.Machine.execRegisterWrite addr strobes word s
  | .stageFaultRetryObservationEnd lane => Sys2Proof.Machine.execStageFaultRetryObservationEnd lane s
  | .stackCensusWindowEnd stack => Sys2Proof.Machine.execStackCensusWindowEnd stack s
  | .frameDiscarded badFcs => Sys2Proof.Machine.execFrameDiscarded badFcs s
  | .foreignBudgetCauseEnd => Sys2Proof.Machine.execForeignBudgetCauseEnd s

end Sys2Proof.Machine
end

