-- ==== Sys2Proof/Safety.lean ====
section
/-! DEFINITION. What counts as a safe run: the outcomes that stop one, the runs from a state, what every command keeps, and
the invariant of every step. -/

namespace Sys2Proof.Machine

/-- The outcome of a step is a next state. -/
def completes (o : Host.Outcome State Fault Refusal) : Prop := ∃ t, o = .next t

/-- States that a run from `s` passes through. -/
inductive Reaches (s : State) : State → Prop where
  | refl : Reaches s s
  | step {t u : State} : Reaches s t → Sys2Proof.Machine.step t = .next u → Reaches s u

/-- No step of a run from `s` stops. -/
def Safe (s : State) : Prop := ∀ t, Reaches s t → completes (Sys2Proof.Machine.step t)

/-- A Governor in TRIP or COOLDOWN has its trip latch set (09 R243). -/
def tripKept (st : GovState) (latch : Bool) : Bool := !(st == .trip || st == .cooldown) || latch

/-- The trip latch of a state is as R243 of 09 says. -/
def State.trip (s : State) : Bool := tripKept s.gov.st s.gov.tripLatch

/-- What a command keeps whatever it does: the queue, the configuration, the direction of time, the canonical form of the
message RAM, the trip latch of TRIP and COOLDOWN, and that no triggers are being collected. -/
def Evolves (s t : State) : Prop :=
  t.pending = s.pending ∧ t.cfg = s.cfg ∧ s.tb.now ≤ t.tb.now ∧
    (Memory.wf s.mram = true → Memory.wf t.mram = true) ∧ (s.trip = true → t.trip = true) ∧
    (s.gov.gathered = none → t.gov.gathered = none)

/-- The invariant of every step: the message RAM is in canonical form, TRIP and COOLDOWN hold the trip latch, and between
commands no triggers are being collected. -/
def State.Sound (s : State) : Prop := Memory.wf s.mram = true ∧ s.trip = true ∧ s.gov.gathered = none

/-- What faults, records, interrupts and transitions leave alone, whatever they ask for (12 R294 to R301, 10 R261, R262):
every part of the state but the Governor's own registers, the counters of the store, pins, recorder, interrupt controller,
Muriri event queue, and the power, credit, forecast, injection and assay state that entering SAFE, READY or TRIP changes. -/
@[simp] abbrev Spares (t s : State) : Prop :=
  t.pending = s.pending ∧ t.cfg = s.cfg ∧ t.free = s.free ∧ t.desc = s.desc ∧ t.clock = s.clock ∧ t.dumps =
    s.dumps ∧ t.channels = s.channels ∧ t.epochs = s.epochs ∧ t.mram = s.mram ∧ t.replies = s.replies ∧ t.senseTaps
    = s.senseTaps ∧ t.groups = s.groups ∧ t.windowRecs = s.windowRecs ∧ t.sweepRing = s.sweepRing ∧ t.dither =
    s.dither ∧ t.laws = s.laws ∧ t.capture = s.capture ∧ t.sensors = s.sensors ∧ t.regions = s.regions ∧ t.thermal =
    s.thermal ∧ t.cores = s.cores ∧ t.update = s.update ∧ t.host = s.host ∧ t.answer = s.answer ∧ t.window =
    s.window ∧ t.access = s.access ∧ t.muriri = s.muriri ∧ t.segment = s.segment ∧
    t.poison.filter (!ofTally ·) = s.poison.filter (!ofTally ·) ∧ t.tb.now =
    s.tb.now ∧ t.tb.gclk = s.tb.gclk ∧ t.tb.cStart = s.tb.cStart ∧ t.tb.fStart = s.tb.fStart ∧ t.tb.cframe =
    s.tb.cframe ∧ t.tb.tb = s.tb.tb ∧ t.tb.phase = s.tb.phase ∧ t.tb.waiting = s.tb.waiting

/-- A trigger of pin `n` at this instant latches it below SAFE level and asks for nothing more: GCLK runs, the pin is not
latched, its programmed level is NOTE, WARN or DEGRADE (12 R296), the Muriri event queue has room (15 R375), and no operation
collects the triggers of its cycle. -/
abbrev State.calm (s : State) (n : Nat) : Prop :=
  s.tb.gclk = true ∧ s.gov.gathered = none ∧ n < 64 ∧ (s.pin n).latched = false ∧ s.obj (0x5010 + n) 2 < 3 ∧ s.events.length < 64

/-- The states differ at most where the Registrar and the recorder keep what they note: the counters of the store, pins,
records, interrupts and Muriri events. -/
def Noted (t s : State) : Prop :=
  t = { s with od := t.od, pins := t.pins, recorder := t.recorder, icu := t.icu, events := t.events }

/-- Only the object store and the answer of the object engine differ. -/
def Answered (t s : State) : Prop := t = { s with od := t.od, answer := t.answer }

/-- A write of raw value `v` to an object by a session that has reached the object engine passes every check of R362 of 15:
the object exists, the value fits its type, and no check answers a code. -/
def State.admits (s : State) (sess idx sub v : Nat) : Bool :=
  match objRow idx sub with
  | some r => v < 256 ^ r.ty.size && s.writeCode sess idx sub v r.ty.size 0 == 0
  | none => false

/-- The session can present an access (15 R363), and the write passes every check of R362. -/
def State.accepts (s : State) (sess idx sub v : Nat) : Bool := s.presents sess && s.touch.admits sess idx sub v

/-- The same for a write of bytes to an object that takes up to n bytes (15 R359). -/
def State.acceptsBytes (s : State) (sess idx sub : Nat) (bs : List Byte) : Bool :=
  s.presents sess && s.touch.writeCode sess idx sub (natLE bs) bs.length 0 == 0

/-- A register access through the ports acts: GCLK runs and the Governor has its supply (17 R417). -/
abbrev State.busUp (s : State) : Prop := s.tb.gclk = true ∧ s.gov.st ≠ .off

/-- The header of the message in a slot of a channel. -/
def State.slotHeader (s : State) (c slot : Nat) : MsgHeader := s.header ((s.channel c).slot slot).offset

/-- COM serves the request of a kind in a slot it has taken: nothing that R338 of 13 and R351 of 14 check refuses it. -/
abbrev State.serves (s : State) (c slot kind : Nat) : Prop :=
  c < 64 ∧ slot < 32 ∧ s.comRuns = true ∧ s.channelUsed c = true ∧ s.receiver c = 3 ∧
    ((s.channel c).slot slot).st = .taken ∧ headerStatus (s.slotHeader c slot) = 0 ∧ (s.slotHeader c slot).kind = kind ∧
    bit (s.slotHeader c slot).flags 0 = false ∧
    s.messagePoison ((s.channel c).slot slot).offset (24 + (s.slotHeader c slot).length) = 0 ∧
    s.requestStatus c ((s.channel c).slot slot).length (s.slotHeader c slot) = 0

/-- A reply that COM has formed for the pair of a channel, behind those of `l` (13 R338). -/
def Replied (t : State) (l : List Reply) (c : Nat) (h : MsgHeader) (status : Nat) (payload : List Byte) : Prop :=
  if bit h.flags 1 then t.replies = l
  else ∃ seq, t.replies = l ++ [{ channel := pairedChannel c, bytes := msgBytes 1 h.kind h.session seq h.seq status payload }]

/-- A G3 access is served at once: the port acts, emulation is on, COM runs and nothing waits (14 R355). -/
abbrev State.emulNow (s : State) : Prop :=
  s.busUp ∧ s.emulates = true ∧ s.comRuns = true ∧ s.host.queue = [] ∧ s.host.waiting = []

/-- The state in which COM serves such an access: it is counted in 0x7400:07. -/
def State.emulBase (s : State) : State := s.touch.bump64 0x7400 7 1

/-- Muriri takes a frame: it is the Governor's, well formed, and of a kind (15 R368, R369). -/
abbrev State.gets (s : State) (f : Frame) (kind : Nat) : Prop := s.hears f = true ∧ malformed f = false ∧ f.kind = kind

/-- The state after the receipt of a frame: counted, its interrupt signalled, the port free of the frames sent before. -/
def State.received (s : State) : State :=
  (({ s.touch with muriri := { s.muriri with tx := [] } } : State).bump64 0x1401 1 1).signal 0x0CA

/-- A frame of an open session `v`: from its address, with the tag it needs (15 R370, R378). -/
abbrev State.bound (s : State) (f : Frame) (v : MuSession) : Prop :=
  s.muSession f.session = some v ∧ v.mac = f.src ∧ s.tagBad f = false

/-- The state after the receipt of a frame of session `v`: its idle timer has restarted (15 R371). -/
def State.heard (s : State) (f : Frame) (v : MuSession) : State :=
  s.received.setMu f.session { v with heardAt := s.tb.now }

/-- An event of D-class pin `n` at this instant is only counted (12 R295). -/
abbrev State.quiet (s : State) (n : Nat) : Prop := (s.pin n).count + 1 < s.obj (0x5010 + n) 5

/-- An accepted write as the object engine closes it: counted in 0x1402:02 and answered with no code (15 R363). -/
def State.wrote (s : State) : State := { s.bump64 0x1402 2 1 with answer := { code := 0, data := [] } }

end Sys2Proof.Machine
end

