-- ==== Sys2Proof/Certificates/Slice0/Obligations.lean ====
section
/-! DEFINITION. The statements for the provers. -/

open Sys2Proof Sys2Proof.Machine

/-- A step at a state whose queue starts with a command is exec of that command on the state with the rest of the queue. -/
def Obligations.StepRunsFront : Prop :=
  ∀ (c : Instr) (rest : List Instr) (s : State), s.pending = c :: rest → step s = exec c { s with pending := rest }

/-- A step at a state with an empty queue completes, advances the clock of the model by one GCLK cycle and changes nothing
else (the model's choice, assumption log 1). -/
def Obligations.IdleStep : Prop :=
  ∀ s : State, s.pending = [] → step s = .next { s with tb := { s.tb with now := s.tb.now + 1 } }

/-- Every command, with any operands and in any state, answers a next state. The command leaves the queue and the
configuration alone, the clock of the model does not run back, the message RAM keeps its canonical form, a Governor in
TRIP or COOLDOWN keeps its trip latch set (R243), and where no triggers are being collected none are afterwards. -/
def Obligations.EveryCommandEvolves : Prop :=
  ∀ (c : Instr) (s : State), ∃ t, exec c s = .next t ∧ Evolves s t

/-- From every state in which the message RAM is in canonical form, TRIP and COOLDOWN hold the trip latch and no triggers
are being collected, a step answers a state with the same three properties. -/
def Obligations.StepKeepsSound : Prop :=
  ∀ s t : State, s.Sound → step s = .next t → t.Sound

/-- A step with a command at the front of the queue answers a next state whose queue is the rest, and no run from any
state comes to a fault or a refusal. -/
def Obligations.QueueIsServed : Prop :=
  (∀ (c : Instr) (rest : List Instr) (s : State), s.pending = c :: rest →
    ∃ t, step s = .next t ∧ t.pending = rest ∧ s.tb.now ≤ t.tb.now) ∧
  ∀ s : State, Safe s

/-- The state after reset satisfies the invariant: the message RAM lists nothing, the Governor is in BOOT with the trip
latch clear, GCLK does not run yet and TB_STATE is unlocked, no command is pending, no pin is latched, the next record
has sequence 1 and both record areas are empty, every lane is UNASSIGNED, every rail is off, and every domain is
unused and isolated. -/
def Obligations.ResetState : Prop :=
  State.reset.Sound ∧ State.reset.mram = [] ∧ State.reset.gov.st = .boot ∧ State.reset.gov.tripLatch = false ∧
    State.reset.tb.gclk = false ∧ State.reset.tb.tb = .unlocked ∧ State.reset.pending = [] ∧ State.reset.pins = [] ∧
    State.reset.recorder.nextSeq = 1 ∧ State.reset.recorder.daybook = [] ∧ State.reset.recorder.vitrine = [] ∧
    (∀ n, (State.reset.lane n).st = .unassigned) ∧ (∀ r, (State.reset.rail r).seq = .off) ∧
    ∀ d, (State.reset.domain d).st = .unused ∧ (State.reset.domain d).iso = true

/-- COLD_RESET in any state: BOOT with the trip latch clear and an empty restart history, GCLK stopped, no pin latched,
both record areas and the dumps empty; lanes, rails, domains, arrays, sensors, Tally, Assayer, Muriri, host port,
access control and message RAM at their reset values; the fuses kept and read. VGOV_LOSS in any state: OFF with the
trip latch clear, GCLK stopped, no pin latched, the recorder empty, no lane or rail record, an empty object store; the
fuses kept. STRAP_SAMPLE in BOOT: host_if_sel 0, 1 and 2 or 3 set 0x7400:01 to 0, 1 and 2, the sample is kept, and
nothing else changes; in another state nothing does. GOV_RESET in OFF does nothing; in any other state gov_rst_n reads
low, GCLK stops, the state, the trip latch and its cause, the restart history, the recorder, the dumps and the fuses
are kept, and pins, lanes, rails, domains, laws, Muriri, the host port and access control are at their reset values.
GOV_RESET_RELEASE with gov_rst_n low: BOOT, entered from the state before, the pin high, the trip latch kept, and what
no transition touches kept; with the pin high nothing happens. HOST_RESET with GCLK running, outside OFF: the host
state reads 2, the object window is released and every mailbox session of the host is closed, while message RAM,
Muriri, the firmware cores and the sensors are kept. Outside RUN and LIMIT the Governor, the rails, the lanes and the
domains are kept too. From RUN or LIMIT with no duplicate in the Assayer, the Governor comes to READY where no latched
pin has SAFE level and to SAFE where one has. With GCLK stopped, or in OFF, nothing happens. -/
def Obligations.Resets : Prop :=
  ((∀ s : State, ∃ t, exec .coldReset s = .next t ∧ t.gov.st = .boot ∧ t.gov.tripLatch = false ∧ t.gov.restarts = [] ∧
    t.tb.gclk = false ∧ t.pins = [] ∧ t.recorder.daybook = [] ∧ t.recorder.vitrine = [] ∧ t.dumps = [] ∧ t.lanes = [] ∧
    t.rails = [] ∧ t.domains = [] ∧ t.arrays = [] ∧ t.sensors = [] ∧ t.tally = {} ∧ t.assayer = {} ∧ t.muriri = {} ∧
    t.host = {} ∧ t.access = {} ∧ t.mram = [] ∧ t.test.fuses = s.test.fuses ∧ t.test.fused = s.test.fuses) ∧
  (∀ s : State, ∃ t, exec .vgovLoss s = .next t ∧ t.gov.st = .off ∧ t.gov.tripLatch = false ∧ t.tb.gclk = false ∧
    t.pins = [] ∧ t.recorder = {} ∧ t.lanes = [] ∧ t.rails = [] ∧ t.od = [] ∧ t.test.fuses = s.test.fuses) ∧
  (∀ (sel : BitVec 2) (s : State), s.gov.st = .boot → exec (.strapSample sel) s =
    .next (({ s with gov := { s.gov with strap := sel } } : State).setObj 0x7400 1 (if sel = 0 then 0 else if sel = 1 then 1 else 2))) ∧
  (∀ (sel : BitVec 2) (s : State), s.gov.st ≠ .boot → exec (.strapSample sel) s = .next s) ∧
  (∀ s : State, s.gov.st ≠ .off → ∃ t, exec .govReset s = .next t ∧ t.gov.govRstLow = true ∧ t.tb.gclk = false ∧
    t.gov.st = s.gov.st ∧ t.gov.tripLatch = s.gov.tripLatch ∧ t.gov.tripCause = s.gov.tripCause ∧
    t.gov.restarts = s.gov.restarts ∧ t.recorder = s.recorder ∧ t.dumps = s.dumps ∧ t.pins = [] ∧ t.lanes = [] ∧
    t.rails = [] ∧ t.domains = [] ∧ t.laws = [] ∧ t.muriri = {} ∧ t.host = {} ∧ t.access = {} ∧
    t.test.fuses = s.test.fuses) ∧
  (∀ s : State, s.gov.st = .off → exec .govReset s = .next s) ∧
  (∀ s : State, s.gov.govRstLow = true → ∃ t, exec .govResetRelease s = .next t ∧ t.gov.st = .boot ∧
    t.gov.prev = s.gov.st ∧ t.gov.govRstLow = false ∧ t.gov.tripLatch = s.gov.tripLatch ∧ Spares t s) ∧
  ∀ s : State, s.gov.govRstLow = false → exec .govResetRelease s = .next s) ∧
  ((∀ s : State, s.tb.gclk = true → s.gov.st ≠ .off → ∃ t, exec .hostReset s = .next t ∧ t.host.hostState = 2 ∧
    t.window.claimed = false ∧ t.host.sessions = [] ∧ t.mram = s.mram ∧ t.muriri = s.muriri ∧ t.cores = s.cores ∧
    t.sensors = s.sensors ∧
    (s.gov.st ≠ .run → s.gov.st ≠ .limit → t.gov = s.gov ∧ t.rails = s.rails ∧ t.lanes = s.lanes ∧ t.domains = s.domains) ∧
    (s.gov.st = .run ∨ s.gov.st = .limit → s.assayer.entries = [] →
      t.gov.st = if s.safeLatched then .safe else .ready)) ∧
  ∀ s : State, s.tb.gclk = false ∨ s.gov.st = .off → exec .hostReset s = .next s)

/-- In BOOT, TRIP or COOLDOWN with GCLK running and no image loaded since the last reset: an image or boot store that is
refused under R1 or R344 latches pin 55 where no triggers are being collected, the Governor goes on waiting for an
image, and its descriptor and cores are kept; an accepted one puts its descriptor in place and four cores run. From
BOOT with an accepted image, auto-start clear, and no array quarantined before or listed by the image, the Governor
comes to STANDBY. Elsewhere nothing happens. -/
def Obligations.BootOutcome : Prop :=
  (∀ (img : Image) (fw : List FwImage) (s : State), s.gov.st = .boot ∨ s.gov.st = .trip ∨ s.gov.st = .cooldown →
    s.gov.booting = true → s.tb.gclk = true →
    ((s.withImage img).imageWrong img = true ∨ s.firmwareGood fw = false) →
    ∃ t, exec (.bootComplete img fw) s = .next t ∧ (s.gov.gathered = none → (t.pin 55).latched = true) ∧
      t.gov.booting = true ∧ Spares t s) ∧
  (∀ (img : Image) (fw : List FwImage) (s : State), s.gov.st = .boot ∨ s.gov.st = .trip ∨ s.gov.st = .cooldown →
    s.gov.booting = true → s.tb.gclk = true →
    (s.withImage img).imageWrong img = false → s.firmwareGood fw = true →
    ∃ t, exec (.bootComplete img fw) s = .next t ∧ t.gov.booting = false ∧ t.desc = (s.withImage img).desc ∧
      (∀ c, c < 4 → (t.core c).st = .running) ∧
      (s.gov.st = .boot → (s.cfg = .core ∨ (s.arrays = [] ∧ (s.withImage img).obj 0x6000 0x0D = 0)) →
        (s.withImage img).flag 0x3400 3 = false → t.gov.st = .standby)) ∧
  ∀ (img : Image) (fw : List FwImage) (s : State),
    s.gov.booting = false ∨ s.tb.gclk = false ∨ (s.gov.st ≠ .boot ∧ s.gov.st ≠ .trip ∧ s.gov.st ≠ .cooldown) →
    exec (.bootComplete img fw) s = .next s

/-- PLL_LOCK with GCLK stopped, gov_rst_n high, outside OFF, in BOOT or while the PLL locks: GCLK runs, the frames and the
phase counter start at this instant (after a standby clock stop the model's choice, log 130), the C-frame count is
kept, TB_STATE is locked with SYNC_IN and holdover without it (after a standby clock stop the model's choice, log
130), BOOT with the trip latch set is left for TRIP, and then every access that waited for GCLK is served in order of
arrival. Elsewhere it does nothing. CLOCK_FAILURE with GCLK running or locking, outside OFF, with pin 0 at TRIP level
and not latched and no triggers being collected, takes the Governor to TRIP; with GCLK stopped and not locking it does
nothing. GCLK_WAKE in STANDBY with GCLK stopped and gov_rst_n high: the PLL starts to lock and nothing else changes.
STANDBY_CLOCK_STOP in STANDBY with GCLK running and the stop enabled: with no use since entry GCLK stops at once,
TB_STATE is unlocked and no time quality stays above LOCAL; after a use it stops so 100 ms after the last use, unless
a notice is POSTED: then nothing happens. In each case time base and clock apart nothing changes. SYNC_IN_LOSS with
GCLK running and TB_STATE locked: TB_STATE is holdover, no time quality stays above LOCAL, and the counter 0x1200:03
grows by one; in holdover a loss ends a relock in progress and changes nothing else. RELOCK_QUALIFIED in holdover with
no relock in progress starts the frequency pull and changes nothing else. FREQUENCY_PULL_COMPLETE during the pull,
with an error of at most 336 edge steps, starts the slew with as many edge steps left as the error, keeps the error,
and changes nothing else. -/
def Obligations.ClockEvents : Prop :=
  ((∀ (sync : Bool) (s : State), s.tb.gclk = false → s.gov.govRstLow = false → s.gov.st ≠ .off →
    (s.gov.booting = true ∨ s.tb.waking = true) → ∃ u : State, exec (.pllLock sync) s = .next u.serveWaiting ∧ u.tb.gclk = true ∧
    u.tb.now = s.tb.now ∧ u.tb.cStart = s.tb.now ∧ u.tb.fStart = s.tb.now ∧ u.tb.phase = 0 ∧ u.tb.cframe = s.tb.cframe ∧
    u.tb.tb = (if sync then .locked else .holdover) ∧ u.tb.waiting = s.tb.waiting ∧
    (s.gov.st = .boot → s.gov.tripLatch = true → u.gov.st = .trip)) ∧
  (∀ (sync : Bool) (s : State), s.tb.gclk = true ∨ s.gov.govRstLow = true ∨ s.gov.st = .off ∨
    (s.gov.booting = false ∧ s.tb.waking = false) → exec (.pllLock sync) s = .next s) ∧
  (∀ s : State, (s.tb.gclk = true ∨ s.tb.waking = true) → s.gov.st ≠ .off → s.gov.gathered = none →
    (s.pin 0).latched = false → 4 ≤ s.obj 0x5010 2 → ∃ t, exec .clockFailure s = .next t ∧ t.gov.st = .trip ∧ Spares t s) ∧
  (∀ s : State, s.tb.gclk = false → s.tb.waking = false → exec .clockFailure s = .next s) ∧
  (∀ s : State, s.gov.st = .standby → s.tb.gclk = false → s.gov.govRstLow = false →
    exec .gclkWake s = .next { s with tb := { s.tb with waking := true } }) ∧
  (∀ s : State, s.gov.st = .standby → s.tb.gclk = true → s.flag 0x1200 5 = true → s.tb.lastUse = none →
    ∃ t, exec .standbyClockStop s = .next t ∧ t.tb.gclk = false ∧ t.tb.now = s.tb.now ∧ t.tb.cframe = s.tb.cframe ∧
      t.tb.tb = .unlocked ∧ t.clock.quality ≤ 1 ∧ t = { s with tb := t.tb, clock := t.clock }) ∧
  ∀ (u : Nat) (s : State), s.gov.st = .standby → s.tb.gclk = true → s.flag 0x1200 5 = true → s.tb.lastUse = some u →
    if s.anyPosted then exec .standbyClockStop s = .next s
    else ∃ t, exec .standbyClockStop s = .next t ∧ t.tb.gclk = false ∧ t.tb.tb = .unlocked ∧ t.clock.quality ≤ 1 ∧
      t.tb.now = max s.tb.now (u + 100800000) ∧ t = { s with tb := t.tb, clock := t.clock }) ∧
  ((∀ s : State, s.tb.gclk = true → s.tb.tb = .locked → ∃ t, exec .syncInLoss s = .next t ∧ t.tb.tb = .holdover ∧
    t.clock.quality = min s.clock.quality 1 ∧ t.tb.now = s.tb.now ∧ t.tb.cframe = s.tb.cframe ∧
    t.obj 0x1200 3 = min (s.obj 0x1200 3 + 1) 0xFFFFFFFF) ∧
  (∀ s : State, s.tb.gclk = true → s.tb.tb = .holdover →
    exec .syncInLoss s = .next { s with tb := { s.tb with relock := .none, slew := false, slewLeft := 0 } }) ∧
  (∀ s : State, s.tb.gclk = true → s.tb.tb = .holdover → s.tb.relock = .none →
    exec .relockQualified s = .next { s with tb := { s.tb with relock := .pulling } }) ∧
  ∀ (err : Int) (s : State), s.tb.gclk = true → s.tb.relock = .pulling → err.natAbs ≤ 336 →
    exec (.frequencyPullComplete err) s = .next { s with tb := { s.tb with
      relock := .slewing, slew := true, slewLeft := err.natAbs, phaseErr := err } })

/-- With GCLK running. F_FRAME_TICK: the F-frame begins 168 cycles after the last, moved by the phase slew's edge steps
(R46); the phase counter advances by 4, the C-frame is kept, and, once pl_clk has run for three F-frames (R402), a
plausible sample of a lane that ends no run of 128 equal pl_isd bits is the lane's last plausible sample and gives its
current as R60 says. F_FRAME_COMMIT: the clock comes to cycle 132 of the F-frame, no frame moves, and each used rail's
law has its die voltage as measured value and its setpoint as target; in open loop, where its law is not late, the
output is the feed-forward within the duty limits. C_FRAME_TICK: the C-frame begins 1,008 cycles after the last, moved
by the slew, and is counted; an accepted segment budget comes in force. C_FRAME_COMPETITION with the state in which
words are taken, no law late and a candidate of every limit law: the clock comes to cycle 600, the candidates enter,
and the lowest source wins as the next rate. C_FRAME_RATE_COMMIT: the clock comes to cycle 840; where it is not late a
competed rail publishes rate and winner. TALLY_COMMIT: the clock comes to cycle 1,007 and no prediction waits.
H_FRAME_TICK on a multiple of 1,000 C-frames: the H-frame is counted, its energy becomes power, and window records,
evaluations and fallbacks count from 0; off that grid it does nothing. With GCLK stopped no tick or commit does
anything. -/
def Obligations.FrameTicks : Prop :=
  (∀ (lanes : List LaneSample) (taps : List TapSample) (s : State), s.tb.gclk = true →
    ∃ t, exec (.fFrameTick lanes taps) s = .next t ∧ t.tb.phase = s.tb.phase + 4 ∧
      t.tb.fStart = (s.tb.fStart + 168 + ((s.tb.moved + s.tb.slewStep) / 16 - s.tb.moved / 16) : Int).toNat ∧
      t.tb.now = max s.tb.now t.tb.fStart ∧ t.tb.cStart = s.tb.cStart ∧ t.tb.cframe = s.tb.cframe ∧
      ∀ q ∈ lanes, (∀ p ∈ lanes, p.lane = q.lane → p = q) → q.lane < s.laneCount → plausible q.x = true →
        (bitFrame (s.lane q.lane).bitRun (s.lane q.lane).lastBit q.bits).1 ≠ 128 →
        (∀ u, s.tb.plAt = some u → u + 504 < t.tb.now) → (t.lane q.lane).lastX = q.x ∧ (t.lane q.lane).current =
          laneCurrent q.x (s.obj16 (0x2100 + q.lane) 6) (s.obj (0x2100 + q.lane) 5) (s.obj (0x2100 + q.lane) 4)) ∧
  (∀ (lateLaws : List Nat) (lateTrims : Bool) (s : State), s.tb.gclk = true →
    ∃ t, exec (.fFrameCommit lateLaws lateTrims) s = .next t ∧ t.tb.now = max s.tb.now (s.tb.fStart + 132) ∧
      t.tb.fStart = s.tb.fStart ∧ t.tb.phase = s.tb.phase ∧ t.tb.cStart = s.tb.cStart ∧ t.tb.cframe = s.tb.cframe ∧
      ∀ r, s.railUsed r = true → (t.law r).meas = (s.rail r).die ∧ (t.law r).tgt = s.lawSetpoint r ∧
        (s.lawMode r = .openLoop → lateLaws.contains r = false →
          (t.law r).out = clampI (lawUff (s.lawSetpoint r) (s.railKff r)) 0 ((s.dutyMax r * 256 : Nat) : Int))) ∧
  (∀ s : State, s.tb.gclk = true → ∃ t, exec .cFrameTick s = .next t ∧
    (s.tb.slewLeft = 0 → s.tb.moved = s.tb.movedC → t.tb.cStart = s.tb.cStart + 1008) ∧
    t.tb.now = max s.tb.now t.tb.cStart ∧
    t.tb.cStart = (s.tb.cStart + 1008 + ((s.tb.moved + (if s.tb.cStart + 924 < s.tb.fStart then 0 else s.tb.slewStep)) / 16
      - s.tb.movedC / 16) : Int).toNat ∧
    t.tb.cframe = (s.tb.cframe + 1) % 2 ^ 48 ∧ t.tb.fStart = s.tb.fStart ∧ t.segment.arm = none ∧
    ∀ g, s.segment.arm = some g → t.segment.ceiling = some g.mw ∧ t.segment.up = some g.up ∧ t.segment.down = some g.down ∧
      t.dither = g.dither.getD s.dither) ∧
  (∀ s : State, s.tb.gclk = true → s.gov.st.words = true →
    (∀ r, s.railUsed r = true → (s.shaper r).ran = true → ∀ k, k < 4 → (s.law (8 + 4 * r + k)).next.isSome = true) →
    ∃ t, exec (.cFrameCompetition []) s = .next t ∧ t.tb.now = max s.tb.now (s.tb.cStart + 600) ∧
      t.tb.cStart = s.tb.cStart ∧ t.tb.cframe = s.tb.cframe ∧
      ∀ r, s.railUsed r = true → (s.shaper r).ran = true →
        (∀ k, k < 4 → ∀ c e h, (s.law (8 + 4 * r + k)).next = some (c, e, h) → (t.law (8 + 4 * r + k)).cand = c) ∧
        ∀ b x, lowest (t.sources r) = some (b, x) → (t.shaper r).next = x ∧ (t.shaper r).won = b) ∧
  (∀ (late : Bool) (s : State), s.tb.gclk = true → ∃ t, exec (.cFrameRateCommit late) s = .next t ∧
    t.tb.now = max s.tb.now (s.tb.cStart + 840) ∧ t.tb.cStart = s.tb.cStart ∧ t.tb.cframe = s.tb.cframe ∧
    (late = false → ∀ r, s.railUsed r = true → (s.shaper r).competed = true →
      (t.shaper r).mw = s.mwOfRate (s.shaper r).next ∧ (t.shaper r).bound = (s.shaper r).won ∧
      (t.shaper r).competed = false)) ∧
  (∀ s : State, s.tb.gclk = true → ∃ t, exec .tallyCommit s = .next t ∧ t.tally.taken = [] ∧
    t.tb.now = max s.tb.now (s.tb.cStart + 1007) ∧ t.tb.cStart = s.tb.cStart ∧ t.tb.cframe = s.tb.cframe) ∧
  (∀ (late : List Nat) (s : State), s.tb.gclk = true → s.tb.cframe % 1000 = 0 →
    ∃ t, exec (.hFrameTick late) s = .next t ∧ t.windowRecs = 0 ∧ t.tally.evalsH = 0 ∧ t.tally.fallbacksH = 0 ∧
      t.segment.hcount = s.segment.hcount + 1 ∧ t.segment.hPower = s.segment.hEnergy / 1000 ∧ t.segment.hEnergy = 0 ∧
      t.tb.cframe = s.tb.cframe) ∧
  (∀ (late : List Nat) (s : State), s.tb.cframe % 1000 ≠ 0 → exec (.hFrameTick late) s = .next s) ∧
  ∀ (c : Instr) (s : State), s.tb.gclk = false → (c = .cFrameTick ∨ c = .tallyCommit ∨ (∃ l p, c = .fFrameTick l p) ∨
    (∃ l b, c = .fFrameCommit l b) ∨ (∃ l, c = .cFrameCompetition l) ∨ (∃ b, c = .cFrameRateCommit b) ∨
    ∃ l, c = .hFrameTick l) → exec c s = .next s

/-- S_FRAME_TICK with GCLK running on the S-frame grid starts a read of every on-die sensor in use, at no cost of time;
off the grid or with GCLK stopped it does nothing. THERMAL_COMMIT with GCLK running in the last C-frame of the S-frame
comes to cycle 840 and moves no frame; a started read of an on-die sensor in use that is good at its first word gives
the sensor its reading, ends its count of failed reads, and is over; in another C-frame or with GCLK stopped it does
nothing. LOOP_OVERRUN of a used rail with six overruns in a row restarts the count and, with GCLK running and no
triggers being collected, latches pin 3; of another rail it does nothing. -/
def Obligations.SlowFrames : Prop :=
  (∀ (n : Nat) (s : State), s.tb.gclk = true → s.tb.cframe % s.sLength = 0 → n < 256 → s.sensorUsed n = true →
    ∃ t, exec .sFrameTick s = .next t ∧ (t.sensor n).sampled.isSome = true ∧ t.tb.cframe = s.tb.cframe ∧
      t.tb.now = s.tb.now) ∧
  (∀ s : State, s.tb.gclk = false ∨ s.tb.cframe % s.sLength ≠ 0 → exec .sFrameTick s = .next s) ∧
  (∀ (reads : List OnDieRead) (s : State), s.tb.gclk = true → (s.tb.cframe + 1) % s.sLength = 0 →
    ∃ t, exec (.thermalCommit reads) s = .next t ∧ t.tb.now = max s.tb.now (s.tb.cStart + 840) ∧
      t.tb.cStart = s.tb.cStart ∧ t.tb.cframe = s.tb.cframe ∧
      ∀ n q v, n < 256 → s.sensorUsed n = true → (s.sensor n).sampled.isSome = true →
        reads.find? (fun r => r.sensor == n) = some q → q.first.bind onDieReading = some v →
        (t.sensor n).reading = v ∧ (t.sensor n).fails = 0 ∧ (t.sensor n).sampled = none) ∧
  (∀ (reads : List OnDieRead) (s : State), s.tb.gclk = false ∨ (s.tb.cframe + 1) % s.sLength ≠ 0 →
    exec (.thermalCommit reads) s = .next s) ∧
  (∀ (rail : Nat) (s : State), s.railUsed rail = true → 6 ≤ (s.rail rail).overruns →
    ∃ t, exec (.loopOverrun rail) s = .next t ∧ (t.rail rail).overruns = 0 ∧ Spares t s ∧
      (s.tb.gclk = true → s.gov.gathered = none → (t.pin 3).latched = true)) ∧
  ∀ (rail : Nat) (s : State), s.railUsed rail = false ∨ (s.rail rail).overruns < 6 →
    exec (.loopOverrun rail) s = .next s

/-- GCLK runs. EXTERNAL_SENSOR_SLOT reads the next external sensor in order and changes nothing but sensors and the
thermal state: a good read waits for the commit point with its value, ends the slot and moves on to the next sensor,
and takes up a re-arm that waited; a coolant sensor selected as a source counts as updated now. A first bad read keeps
the slot for its retry and takes up the re-arm. A bad retry waits for the commit point as a failed read and moves on.
No other sensor changes. MEMORY_STACK_WORD of a used stack keeps the word and its instant; in its census a good word
counts, and the third makes the stack VALID with its reading; nothing but that sensor changes. STACK_CENSUS_WINDOW_END
of a stack in its census, with pin 37 calm, makes the stack MISSING at the end of the window and only notes it;
without a census it does nothing. -/
def Obligations.ThermalReads : Prop :=
  (∀ (raw : Option (BitVec 16)) (k : Nat) (e : ExtSensor) (v : Int) (s : State), s.tb.gclk = true →
    (s.externals.find? (fun k => s.thermal.extNext ≤ k)).or s.externals.head? = some k → s.extSensor (272 + k) = some e →
    raw.bind (extReading e) = some v → ∃ t, exec (.externalSensorSlot raw) s = .next t ∧
      t.thermal.extDone = s.thermal.extDone ++ [{
        sensor := k
        value := some v
        retried := s.thermal.extRetry
        restart := if s.thermal.extRetry then s.thermal.extRestart else (s.sensor (272 + k)).rearm }] ∧
      t.thermal.extNext = k + 1 ∧ t.thermal.extRetry = false ∧
      (s.thermal.extRetry = false → (t.sensor (272 + k)).rearm = false) ∧
      (e.coolant = true → s.coolSource % 2 = 1 → t.thermal.coolExt = some s.tb.now) ∧
      (∀ n, n ≠ 272 + k → t.sensor n = s.sensor n) ∧ t = { s with sensors := t.sensors, thermal := t.thermal }) ∧
  (∀ (raw : Option (BitVec 16)) (k : Nat) (e : ExtSensor) (s : State), s.tb.gclk = true →
    (s.externals.find? (fun k => s.thermal.extNext ≤ k)).or s.externals.head? = some k → s.extSensor (272 + k) = some e →
    raw.bind (extReading e) = none → s.thermal.extRetry = false → ∃ t, exec (.externalSensorSlot raw) s = .next t ∧
      t.thermal = { s.thermal with extNext := k, extRetry := true, extRestart := (s.sensor (272 + k)).rearm } ∧
      t.sensor (272 + k) = { s.sensor (272 + k) with rearm := false } ∧
      (∀ n, n ≠ 272 + k → t.sensor n = s.sensor n) ∧ t = { s with sensors := t.sensors, thermal := t.thermal }) ∧
  (∀ (raw : Option (BitVec 16)) (k : Nat) (e : ExtSensor) (s : State), s.tb.gclk = true →
    (s.externals.find? (fun k => s.thermal.extNext ≤ k)).or s.externals.head? = some k → s.extSensor (272 + k) = some e →
    raw.bind (extReading e) = none → s.thermal.extRetry = true → exec (.externalSensorSlot raw) s =
      .next { s with thermal := { s.thermal with
        extNext := k + 1
        extRetry := false
        extRestart := false
        extDone := s.thermal.extDone ++
          [{ sensor := k, value := none, retried := true, restart := s.thermal.extRestart }] } }) ∧
  (∀ (k : Nat) (w : BitVec 18) (s : State), s.tb.gclk = true → k < 16 → s.sensorUsed (256 + k) = true →
    ∃ t, exec (.memoryStackWord k w) s = .next t ∧ (t.sensor (256 + k)).word = some w ∧
      (t.sensor (256 + k)).wordAt = s.tb.now ∧
      (∀ v, (s.sensor (256 + k)).censusEnd.isSome = true → stackReading w = some v →
        if (s.sensor (256 + k)).reads = 2 then (t.sensor (256 + k)).st = .valid ∧ (t.sensor (256 + k)).reading = v ∧
          (t.sensor (256 + k)).censusEnd = none
        else (t.sensor (256 + k)).reads = (s.sensor (256 + k)).reads + 1) ∧
      (∀ n, n ≠ 256 + k → t.sensor n = s.sensor n) ∧ t = { s with sensors := t.sensors }) ∧
  (∀ (k u : Nat) (s : State), (s.sensor (256 + k)).censusEnd = some u → s.calm 37 →
    ∃ t, exec (.stackCensusWindowEnd k) s = .next t ∧ (t.sensor (256 + k)).st = .missing ∧
      (t.sensor (256 + k)).censusEnd = none ∧ (∀ n, n ≠ 256 + k → t.sensor n = s.sensor n) ∧
      t.tb = { s.tb with now := max s.tb.now u } ∧ Noted t { s with tb := t.tb, sensors := t.sensors }) ∧
  ∀ (k : Nat) (s : State), (s.sensor (256 + k)).censusEnd = none → exec (.stackCensusWindowEnd k) s = .next s

/-- OXS_T_TRIP of an on-die cell outside OFF: the cell holds the trip. With gov_rst_n low the trip latch is set with the
cause, 1 for a programmed cell and 2 else, and the trigger is held for the Governor. With it high, outside TRIP, with
no triggers being collected, pin 35 not latched and at TRIP level, and room for a Muriri event, the Governor comes to
TRIP with the latch set and that cause. OXS_T_PROGRAM with GCLK running: a cell that does not fail is programmed with
the shutdown threshold and hysteresis in steps of 16, its state kept. TRIP_ACTIONS_COMPLETE in TRIP once a C-frame has
begun after it: COOLDOWN, the latch kept, and what no transition touches kept; before, nothing. RESTART_HOLD_COMPLETE
in COOLDOWN with no scan since the last reset and an image loaded: after a trip of cause 4 with the restart criterion
met and the first STANDBY past, STANDBY with the latch clear; after a thermal trip the hold ends at its instant, and,
with fewer auto-restarts in the last hour than allowed and a rail to sequence, the restart is in the history and the
Governor sequences from the lowest position; with no more allowed it comes to STANDBY with the history kept.
COOLDOWN_PROLONGED in COOLDOWN with pin 42 calm: 600 s after entry the pin latches, which is only noted, once. -/
def Obligations.ThermalShutdown : Prop :=
  (∀ (n : Nat) (s : State), n < 256 → s.gov.st ≠ .off → s.gov.govRstLow = true →
    ∃ t, exec (.oxsTTrip n) s = .next t ∧ (t.sensor n).tripped = true ∧ t.gov.tripLatch = true ∧
      t.gov.tripCause = (if (s.sensor n).programmed then 1 else 2) ∧
      (∃ h : HeldTrigger, h.pin = 35 ∧ h.kind = 0 ∧ t.gov.heldTriggers = s.gov.heldTriggers ++ [h]) ∧
      t = { s with
        sensors := t.sensors
        od := t.od
        gov := { s.gov with tripLatch := true, tripCause := t.gov.tripCause, heldTriggers := t.gov.heldTriggers } }) ∧
  (∀ (n : Nat) (s : State), n < 256 → s.gov.st ≠ .off → s.gov.st ≠ .trip → s.gov.govRstLow = false →
    s.gov.gathered = none → (s.pin 35).latched = false → 4 ≤ s.obj 0x5033 2 → s.events.length < 64 →
    ∃ t, exec (.oxsTTrip n) s = .next t ∧ (t.sensor n).tripped = true ∧ t.gov.st = .trip ∧ t.gov.tripLatch = true ∧
      t.gov.tripCause = (if (s.sensor n).programmed then 1 else 2)) ∧
  (∀ (retried failed : List Nat) (n : Nat) (s : State), s.tb.gclk = true → n < 256 → failed.contains n = false →
    ∃ t, exec (.oxsTProgram retried failed) s = .next t ∧ (t.sensor n).programmed = true ∧
      (t.sensor n).thr = s.obj (kindObj 0) 5 / 16 * 16 ∧ (t.sensor n).hys = s.obj (kindObj 0) 6 / 16 * 16 ∧
      (t.sensor n).st = (s.sensor n).st) ∧
  (∀ s : State, s.gov.st = .trip → s.gov.entered + 1008 ≤ s.tb.cStart → ∃ t, exec .tripActionsComplete s = .next t ∧
    t.gov.st = .cooldown ∧ t.gov.entered = s.tb.now ∧ t.gov.tripLatch = s.gov.tripLatch ∧ Spares t s) ∧
  (∀ s : State, s.gov.st ≠ .trip ∨ s.tb.cStart < s.gov.entered + 1008 → exec .tripActionsComplete s = .next s) ∧
  (∀ s : State, s.gov.st = .cooldown → s.gov.scanMode = false → s.gov.booting = false → s.gov.tripCause = 4 →
    s.restartCool = true → s.gov.autoTried = true → ∃ t, exec .restartHoldComplete s = .next t ∧ t.gov.st = .standby ∧
      t.gov.tripLatch = false ∧ Spares t s) ∧
  (∀ (u : Nat) (s : State), s.gov.st = .cooldown → s.gov.scanMode = false → s.gov.booting = false → s.gov.tripCause ≠ 4 →
    s.gov.critSince = some u → ∃ t, exec .restartHoldComplete s = .next t ∧
      t.tb.now = max s.tb.now (u + s.cyc 0x3000 0x0B) ∧
      if (s.atTime (u + s.cyc 0x3000 0x0B)).recentRestarts.length < s.obj 0x3000 0x0C then
        t.gov.restarts = (t.tb.now :: s.gov.restarts).take 3 ∧
        ∀ p, s.nextPosition none = some p → t.gov.st = .sequencing ∧ t.gov.phase = .supply ∧ t.gov.seqPos = p ∧
          t.gov.tripLatch = false
      else t.gov.restarts = s.gov.restarts ∧ (s.gov.autoTried = true → t.gov.st = .standby ∧ t.gov.tripLatch = false)) ∧
  ∀ s : State, s.gov.st = .cooldown → s.gov.prolonged = false → s.calm 42 → ∃ t, exec .cooldownProlonged s = .next t ∧
    t.gov = { s.gov with prolonged := true } ∧ (t.pin 42).latched = true ∧ Noted t { s with tb := t.tb, gov := t.gov } ∧
    t.tb = { s.tb with now := max s.tb.now (s.gov.entered + 604800000000) }

/-- COOLANT_TIMEOUT with a coolant source selected: where an update has arrived the clock comes to the timeout after the
last one, and the recovery time no longer runs; with no source it does nothing. COOLANT_RECOVERY while the recovery
time runs and the cap is in force: the clock comes to its end, and with valid coolant data and no inlet at its limit
the cap ends at the next C-frame tick, else the recovery time no longer runs; otherwise it does nothing. Nothing else
changes. Accepted writes. SENSOR_REARM of a quarantined, failed or missing sensor: the re-arm waits for its next read.
COOLANT_UPDATE_COMMIT with management as a source: the update counts at this instant with the flow and the inlet
temperature of its objects. DOMAIN_WAKE_REQUEST of an OFF domain that waits for no retry: a wake is wanted; of other
domains at most the accounting of their wake waits changes. DOMAIN_GATE_REQUEST of an ON domain that has not lost
power-good in this cycle, with no poison: DRAINING to its deadline. DOMAIN_REARM of a FAULTED domain: OFF. No other
sensor or domain changes. -/
def Obligations.CoolantEvents : Prop :=
  ((∀ s : State, s.coolSource ≠ 0 → exec .coolantTimeout s = .next { s with
    tb := { s.tb with now := (if s.thermal.coolExt.isNone && s.thermal.coolMgmt.isNone then s.tb.now
      else max s.tb.now (max (s.thermal.coolExt.getD 0) (s.thermal.coolMgmt.getD 0) + s.cyc 0x3008 2)) }
    thermal := { s.thermal with coolSince := none } }) ∧
  (∀ s : State, s.coolSource = 0 → exec .coolantTimeout s = .next s) ∧
  (∀ (u : Nat) (s : State), s.thermal.coolSince = some u → s.thermal.coolCap = true → exec .coolantRecovery s = .next { s with
      tb := { s.tb with now := max s.tb.now (u + s.cyc 0x3008 3) }
      thermal := (if (s.atTime (u + s.cyc 0x3008 3)).coolValid && !s.inletHot then { s.thermal with coolArm := some false }
        else { s.thermal with coolSince := none }) }) ∧
  ∀ s : State, s.thermal.coolSince = none ∨ s.thermal.coolCap = false → exec .coolantRecovery s = .next s) ∧
  ((∀ (sess n : Nat) (s : State), n < 288 → s.accepts sess (sensorObj n) 8 1 →
    (s.sensorSt n = .quarantined ∨ s.sensorSt n = .failed ∨ s.sensorSt n = .missing) →
    ∃ t, exec (.sensorRearm sess n 1) s = .next t ∧
      t.sensor n = { s.sensor n with rearm := true, rearmRead := false, count := 0 } ∧
      (∀ k, k ≠ n → t.sensor k = s.sensor k) ∧ Answered t { s.touch with sensors := t.sensors }) ∧
  (∀ (sess : Nat) (s : State), s.accepts sess 0x3008 8 1 → 2 ≤ s.coolSource →
    ∃ t, exec (.coolantUpdateCommit sess 1) s = .next t ∧
      t.thermal.coolMgmt = some s.tb.now ∧ t.thermal.coolFlow = s.obj 0x3008 7 ∧
      tget t.thermal.inlets 16 0 = s.obj16 0x3008 6 ∧
      Spares t { s with thermal := t.thermal, answer := t.answer }) ∧
  (∀ (sess d : Nat) (s : State), d < 32 → s.accepts sess (0x3410 + d) 3 1 → (s.domain d).st = .off →
    (s.domain d).retryAt = none → ∃ t, exec (.domainWakeRequest sess d) s = .next t ∧ (t.domain d).st = .off ∧
      (t.domain d).wanted = true ∧ (t.domain d).written = true ∧ t.obj (0x3410 + d) 3 = 1 ∧
      (∀ k, k ≠ d → t.domain k =
        { s.domain k with waited := (t.domain k).waited, rushWait := (t.domain k).rushWait }) ∧ Answered t { s.touch with domains := t.domains }) ∧
  (∀ (sess d : Nat) (s : State), d < 32 → s.accepts sess (0x3410 + d) 3 0 → (s.domain d).st = .on →
    (s.domain d).lostAt ≠ some s.tb.now → s.poison = [] →
    ∃ t, exec (.domainGateRequest sess d) s = .next t ∧
      t.domain d = { s.domain d with
        written := true, st := .draining, drainEnd := some (s.tb.now + s.cyc 0x3400 7) } ∧
      t.obj (0x3410 + d) 3 = 0 ∧ (∀ k, k ≠ d → t.domain k = s.domain k) ∧
      Spares t { s with answer := t.answer }) ∧
  ∀ (sess d : Nat) (s : State), d < 32 → s.accepts sess (0x3410 + d) 9 1 → (s.domain d).st = .faulted →
    ∃ t, exec (.domainRearm sess d 1) s = .next t ∧ t.domain d = { s.domain d with st := .off, retry := false } ∧
      (∀ k, k ≠ d → t.domain k = s.domain k) ∧ Answered t { s.touch with domains := t.domains })

/-- STAGE_FAULT on a watched lane that exists: a BLIND lane, one within its observation time, or one whose lasting open
condition stands in the same Cooper window becomes FAULTED with cause 1; any other lane enters RETRY, waiting, with
this instant as its fault time, and with pin 11 calm no other lane changes and nothing but lanes, rails, counters,
pins, recorder, interrupts and events. On a lane that is not watched or does not exist it does nothing. On a lane in
RETRY that waits, STAGE_FAULT_RETRY_ENABLE, with a low time of the fault line under the release limit, comes to the
retry delay after the release and enables the lane with its wake and observation times; STAGE_FAULT_RELEASE_LIMIT
comes to the limit and makes it FAULTED with cause 1; on any other lane each does nothing.
STAGE_FAULT_RETRY_OBSERVATION_END of a lane under observation comes to its end, ends it, and changes else only
counters; of any other lane it does nothing. LANE_OPEN of an ACTIVE lane with four near-zero periods makes it FAULTED
with cause 2; else it does nothing. -/
def Obligations.StageFaults : Prop :=
  (∀ (n : Nat) (s : State), n < s.laneCount → (s.lane n).watched = true →
    ((s.lane n).st = .blind ∨ (s.lane n).observed s.tb.now = true ∨ s.openNow n = true) →
    ∃ t, exec (.stageFault n) s = .next t ∧ (t.lane n).st = .faulted ∧ (t.lane n).cause = 1 ∧ Spares t s) ∧
  (∀ (n : Nat) (s : State), n < s.laneCount → (s.lane n).watched = true → (s.lane n).st ≠ .blind →
    (s.lane n).observed s.tb.now = false → s.openNow n = false → s.calm 11 →
    ∃ t, exec (.stageFault n) s = .next t ∧ (t.lane n).st = .retry ∧ (t.lane n).retry = .waiting ∧
      (t.lane n).faultAt = s.tb.now ∧ (∀ k, k ≠ n → t.lane k = s.lane k) ∧
      Noted t { s with lanes := t.lanes, rails := t.rails }) ∧
  (∀ (n low : Nat) (s : State), (s.lane n).st = .retry → (s.lane n).retry = .waiting → low < s.cyc 0x2000 5 →
    ∃ t, exec (.stageFaultRetryEnable ⟨n, low⟩) s = .next t ∧ (t.lane n).retry = .enabled ∧ (t.lane n).st = .retry ∧
      t.tb.now = max s.tb.now ((s.lane n).faultAt + low + s.cyc 0x2000 3) ∧
      (t.lane n).wakeEnd = some (t.tb.now + cycles (s.obj (0x2100 + n) 0x0A)) ∧
      (t.lane n).observing = some (t.tb.now + s.cyc 0x2000 4) ∧ (∀ k, k ≠ n → t.lane k = s.lane k) ∧
      t = { s with tb := { s.tb with now := t.tb.now }, lanes := t.lanes }) ∧
  (∀ (n : Nat) (s : State), (s.lane n).st = .retry → (s.lane n).retry = .waiting →
    ∃ t, exec (.stageFaultReleaseLimit n) s = .next t ∧ (t.lane n).st = .faulted ∧ (t.lane n).cause = 1 ∧
      t.tb.now = max s.tb.now ((s.lane n).faultAt + s.cyc 0x2000 5)) ∧
  (∀ (n u : Nat) (s : State), (s.lane n).observing = some u →
    ∃ t, exec (.stageFaultRetryObservationEnd n) s = .next t ∧ t.lane n = { s.lane n with observing := none } ∧
      (∀ k, k ≠ n → t.lane k = s.lane k) ∧ t.tb = { s.tb with now := max s.tb.now u } ∧
      t = { s with tb := t.tb, lanes := t.lanes, od := t.od }) ∧
  (∀ (n : Nat) (s : State), (s.lane n).st = .active → 4 ≤ (s.lane n).nearRun →
    ∃ t, exec (.laneOpen n) s = .next t ∧ (t.lane n).st = .faulted ∧ (t.lane n).cause = 2 ∧ Spares t s) ∧
  (∀ (n : Nat) (s : State), s.laneCount ≤ n ∨ (s.lane n).watched = false → exec (.stageFault n) s = .next s) ∧
  (∀ (n low : Nat) (s : State), ((s.lane n).st = .retry → (s.lane n).retry ≠ .waiting) →
    exec (.stageFaultRetryEnable ⟨n, low⟩) s = .next s ∧ exec (.stageFaultReleaseLimit n) s = .next s) ∧
  (∀ (n : Nat) (s : State), (s.lane n).observing = none → exec (.stageFaultRetryObservationEnd n) s = .next s) ∧
  ∀ (n : Nat) (s : State), (s.lane n).st ≠ .active ∨ (s.lane n).nearRun < 4 → exec (.laneOpen n) s = .next s

/-- LANE_WAKE_END of a lane whose wake time runs comes to its end: the lane is WARM, no retry and no wake time run, and a
lane that no add has selected and no forecast has woken parks for the warm-park time; only that lane and the clock
change. WARM_PARK_EXPIRY of a parked WARM lane that no add has selected comes to the end of its time: the lane is COLD
and parks no more; only that lane and the clock change. LANE_SENSE_FAILURE of an ACTIVE lane whose sense retry failed,
with pin 9 calm: the lane is BLIND with cause 3, no other lane changes, and beside lanes, rails and learning only
counters, pins, recorder, interrupts and events do. F_SW_BOUNDARY of a used rail at a boundary of its switching
period: no re-interleave waits any more; with no pair shed, no shed and no load step waiting the k-th running lane
takes angle k of the running lanes and keeps its state. Where the named condition does not hold each of the four does
nothing. -/
def Obligations.LaneTimers : Prop :=
  (∀ (n u : Nat) (s : State), (s.lane n).wakeEnd = some u → ∃ t, exec (.laneWakeEnd n) s = .next t ∧
    (t.lane n).st = .warm ∧ (t.lane n).wakeEnd = none ∧ (t.lane n).retry = .none ∧ (t.lane n).startDue = (s.lane n).startDue ∧
    ((s.lane n).startDue = false → (s.lane n).forecastWake = false →
      (t.lane n).parkEnd = some (max s.tb.now u + s.cyc 0x2000 2)) ∧
    (∀ k, k ≠ n → t.lane k = s.lane k) ∧
    t = { s with tb := { s.tb with now := max s.tb.now u }, lanes := t.lanes }) ∧
  (∀ (n u : Nat) (s : State), (s.lane n).parkEnd = some u → (s.lane n).st = .warm → (s.lane n).startDue = false →
    ∃ t, exec (.warmParkExpiry n) s = .next t ∧ (t.lane n).st = .cold ∧ (t.lane n).parkEnd = none ∧
      (∀ k, k ≠ n → t.lane k = s.lane k) ∧
      t = { s with tb := { s.tb with now := max s.tb.now u }, lanes := t.lanes }) ∧
  (∀ (n : Nat) (s : State), (s.lane n).st = .active → (s.lane n).senseLost = true → s.calm 9 →
    ∃ t, exec (.laneSenseFailure n) s = .next t ∧ (t.lane n).st = .blind ∧ (t.lane n).cause = 3 ∧
      (∀ k, k ≠ n → t.lane k = s.lane k) ∧
      Noted t { s with lanes := t.lanes, rails := t.rails, tally := t.tally }) ∧
  (∀ (r : Nat) (s : State), s.railUsed r = true → s.atBoundary r = true →
    ∃ t, exec (.fSwBoundary r) s = .next t ∧ (t.rail r).reLane = false ∧ Spares t s) ∧
  (∀ (r k n : Nat) (s : State), s.railUsed r = true → s.atBoundary r = true → (s.rail r).pairShed = false →
    (s.rail r).shed = none → (s.rail r).stepDue = false → (s.runningLanes r)[k]? = some n →
    ∃ t, exec (.fSwBoundary r) s = .next t ∧
      (t.lane n).theta = angle k (s.runningLanes r).length (periodSteps (s.rail r).code) ∧ (t.lane n).st = (s.lane n).st) ∧
  (∀ (n : Nat) (s : State), (s.lane n).wakeEnd = none → exec (.laneWakeEnd n) s = .next s) ∧
  (∀ (n : Nat) (s : State), ((s.lane n).parkEnd = none ∨ (s.lane n).st ≠ .warm ∨ (s.lane n).startDue = true) →
    exec (.warmParkExpiry n) s = .next s) ∧
  (∀ (n : Nat) (s : State), ((s.lane n).st ≠ .active ∨ (s.lane n).senseLost = false) → exec (.laneSenseFailure n) s = .next s) ∧
  ∀ (r : Nat) (s : State), (s.railUsed r = false ∨ s.atBoundary r = false) → exec (.fSwBoundary r) s = .next s

/-- ALL_PHASE_FIRE with a lowest sample below the fire level of a used rail, no sample since the last recovery having been
below it: an armed rail in a state where fires engage starts to fire at this instant, counts the fire, has no shed in
progress, and nothing changes but rails (this rail only), lanes, counters and the capture, where it has fired 16 times
not before; a rail in lockout only counts the trigger and holds it as seen. A trigger already seen, and any on a rail
not used, change nothing. FIRE_END of a firing rail: recovered, it is in lockout from this instant; else the clock
comes to the end of the switching period, and it is in lockout from there. FIRE_REARM of a rail in lockout that has
recovered: it is armed in the first Cooper window from the end of the lockout periods on. OVERVOLTAGE_CLAMP of a used,
guarded rail above its setpoint and margin: the clamp stands, no fire does, the rail's duty and that of every lane of
it is 0. SHED_DECISION due with no bar: the dwell restarts, and a shed planned goes to a count under the plan and not
under the lane floor. Where its condition does not hold each does nothing. -/
def Obligations.FireAndClamp : Prop :=
  (∀ (r low : Nat) (s : State), s.railUsed r = true → (low : Int) < s.fireLevel r → (s.rail r).fireSeen = false →
    (s.rail r).fire = .armed → s.flag (0x2200 + r) 0x19 = true → (s.rail r).goodOnce = true → (s.rail r).clamp = false →
    (s.rail r).senseLost = false → s.gov.st.fires = true → (s.rail r).fires ≠ 16 →
    ∃ t, exec (.allPhaseFire r low) s = .next t ∧ (t.rail r).fire = .firing ∧ (t.rail r).fireAt = s.tb.now ∧
      (t.rail r).inFire = true ∧ (t.rail r).fires = (s.rail r).fires + 1 ∧ (t.rail r).shed = none ∧
      (∀ k, k ≠ r → t.rail k = s.rail k) ∧
      t = { s with rails := t.rails, lanes := t.lanes, od := t.od, capture := t.capture }) ∧
  (∀ (r low : Nat) (s : State), s.railUsed r = true → (low : Int) < s.fireLevel r → (s.rail r).fireSeen = false →
    (s.rail r).fire = .lockout → exec (.allPhaseFire r low) s = .next
      ((s.modRail r (fun v => { v with fireSeen := true })).bump (0x2200 + r) 0x2C)) ∧
  (∀ (r low : Nat) (s : State), (s.rail r).fire = .firing → s.recovered r low = true →
    ∃ t, exec (.fireEnd r low) s = .next t ∧ (t.rail r).fire = .lockout ∧ (t.rail r).fireAt = s.tb.now ∧
      (∀ k, k ≠ r → t.rail k = s.rail k) ∧ t = { s with rails := t.rails, lanes := t.lanes, od := t.od }) ∧
  (∀ (r low : Nat) (s : State), (s.rail r).fire = .firing → s.recovered r low = false →
    ∃ t, exec (.fireEnd r low) s = .next t ∧ (t.rail r).fire = .lockout ∧
      (t.rail r).fireAt = max s.tb.now ((s.rail r).fireAt + periodCycles (s.rail r).code) ∧
      t.tb = { s.tb with now := (t.rail r).fireAt } ∧ t = { s with tb := t.tb, rails := t.rails, lanes := t.lanes, od := t.od }) ∧
  (∀ (r low : Nat) (s : State), (s.rail r).fire = .lockout → s.recovered r low = true →
    ∃ t, exec (.fireRearm r low) s = .next t ∧ (t.rail r).fire = .armed ∧
      t.tb.now = (s.atTime ((s.rail r).fireAt + s.obj (0x2200 + r) 0x18 * periodCycles (s.rail r).code)).cooperAt ∧
      (∀ k, k ≠ r → t.rail k = s.rail k) ∧ t = { s with tb := { s.tb with now := t.tb.now }, rails := t.rails }) ∧
  (∀ (r high : Nat) (s : State), s.railUsed r = true → (s.rail r).guarded = true → (s.rail r).clamp = false →
    (s.rail r).setpoint + s.obj (0x2200 + r) 0x1A < high →
    ∃ t, exec (.overvoltageClamp r high) s = .next t ∧ (t.rail r).clamp = true ∧ (t.rail r).fire ≠ .firing ∧
      (t.rail r).drail = 0 ∧ (∀ n, n ∈ s.railLanes r → (t.lane n).duty = 0 ∧ (t.lane n).nextDuty = 0) ∧
      t = { s with rails := t.rails, lanes := t.lanes, od := t.od, capture := t.capture }) ∧
  (∀ (r : Nat) (s : State), (s.rail r).shedDue = true → s.shedBarred r = false →
    ∃ t, exec (.shedDecision r) s = .next t ∧ (t.rail r).shedDue = false ∧ (t.rail r).dwell = 0 ∧
      (∀ c, (t.rail r).shed = some c → c < (s.rail r).plan ∧ s.laneFloor r ≤ c) ∧ (∀ k, k ≠ r → t.rail k = s.rail k) ∧
      t = { s with rails := t.rails }) ∧
  (∀ (r low : Nat) (s : State), s.railUsed r = true → (low : Int) < s.fireLevel r → (s.rail r).fireSeen = true →
    exec (.allPhaseFire r low) s = .next s) ∧
  (∀ (r low : Nat) (s : State), (s.rail r).fire ≠ .firing → exec (.fireEnd r low) s = .next s) ∧
  (∀ (r low : Nat) (s : State), ((s.rail r).fire ≠ .lockout ∨ s.recovered r low = false) →
    exec (.fireRearm r low) s = .next s) ∧
  (∀ (r high : Nat) (s : State), (s.railUsed r = false ∨ (s.rail r).guarded = false ∨ (s.rail r).clamp = true ∨
    high ≤ (s.rail r).setpoint + s.obj (0x2200 + r) 0x1A) → exec (.overvoltageClamp r high) s = .next s) ∧
  ∀ (r : Nat) (s : State), ((s.rail r).shedDue = false ∨ s.shedBarred r = true) → exec (.shedDecision r) s = .next s

/-- With GCLK running and no operation gathering triggers: SENSE_TAP_EXCLUSION of a tap of a rail whose retry has failed,
not yet excluded, excludes it, changes no other sense tap, no message RAM and no sensor and moves no clock, and
latches pin 12. RAIL_OVERVOLTAGE of a used, guarded rail above its limit and margin latches pin 14, and where pin 14
was not latched and stands at TRIP level takes a Governor that is not OFF to TRIP. RAIL_UNDERVOLTAGE of a used rail
with eight F-frames counted latches pin 15 and restarts the count. Where its condition on the tap or rail does not
hold each does nothing. -/
def Obligations.RailFaults : Prop :=
  (∀ (tap r : Nat) (s : State), s.tb.gclk = true → s.gov.gathered = none → s.senseRail tap = some r →
    (s.senseTap tap).confirmed = true → (s.senseTap tap).excluded = false → ∃ t, exec (.senseTapExclusion tap) s = .next t ∧
      (t.senseTap tap).excluded = true ∧ (∀ k, k ≠ tap → t.senseTap k = s.senseTap k) ∧ (t.pin 12).latched = true ∧
      t.tb.now = s.tb.now ∧ t.mram = s.mram ∧ t.sensors = s.sensors) ∧
  (∀ (r high : Nat) (s : State), s.tb.gclk = true → s.gov.gathered = none → s.railUsed r = true → (s.rail r).guarded = true →
    s.obj (0x2200 + r) 3 + s.obj (0x2200 + r) 0x1A < high →
    ∃ t, exec (.railOvervoltage r high) s = .next t ∧ (t.pin 14).latched = true ∧ Spares t s ∧
      ((s.pin 14).latched = false → 4 ≤ s.obj 0x501E 2 → s.gov.st ≠ .off → t.gov.st = .trip)) ∧
  (∀ (r : Nat) (s : State), s.tb.gclk = true → s.gov.gathered = none → s.railUsed r = true → 8 ≤ (s.rail r).uvRun →
    ∃ t, exec (.railUndervoltage r) s = .next t ∧ (t.pin 15).latched = true ∧ (t.rail r).uvRun = 0 ∧ Spares t s) ∧
  (∀ (tap : Nat) (s : State), (s.senseRail tap = none ∨ (s.senseTap tap).confirmed = false ∨ (s.senseTap tap).excluded = true) →
    exec (.senseTapExclusion tap) s = .next s) ∧
  (∀ (r high : Nat) (s : State), (s.railUsed r = false ∨ (s.rail r).guarded = false ∨
    high ≤ s.obj (0x2200 + r) 3 + s.obj (0x2200 + r) 0x1A) → exec (.railOvervoltage r high) s = .next s) ∧
  ∀ (r : Nat) (s : State), (s.railUsed r = false ∨ (s.rail r).uvRun < 8) → exec (.railUndervoltage r) s = .next s

/-- STAGE_SUPPLY_QUALIFIED while the supply is awaited starts the census of every used rail at the position;
INTER_RAIL_DELAY_END in the delay comes to its end and starts it at the next position. LANE_CENSUS_COMPLETE of a rail
in census with its 64 F-frames sampled: each lane of the rail is COLD when all 64 of its samples were good and its
stream has not turned stuck since, and MISSING with cause 5 when not; with all found and the lane floor met the rail
ramps. RAIL_POWER_GOOD of a ramping rail after 16 F-frames makes it good; out of the rails phase only rails and
sensors change, and in it, with every other rail of the position good and another position to come, the delay starts.
With GCLK running and no operation gathering triggers RAIL_POWER_GOOD_MISS of a ramping rail comes to its deadline,
STAGE_SUPPLY_TIMEOUT while the supply is awaited for a rail comes to 100 ms after its start, and each latches pin 16.
RAIL_DISCHARGE_DONE of a discharging rail below the level, at once, and RAIL_DISCHARGE_TIMEOUT of a discharging rail,
at its deadline, leave it off with setpoint 0. A miss, discharge or good event of a rail not ramping or discharging, a
census of a rail not in census, and a supply or delay event in another phase do nothing. -/
def Obligations.SequencingEvents : Prop :=
  (∀ (r : Nat) (s : State), s.gov.phase = .supply → s.railUsed r = true → s.position r = s.gov.seqPos →
    ∃ t, exec .stageSupplyQualified s = .next t ∧ t.gov = { s.gov with phase := .rails } ∧ (t.rail r).seq = .census ∧
      (t.rail r).code = s.obj 0x1201 (1 + r) ∧ t.tb = s.tb) ∧
  (∀ (p r : Nat) (s : State), s.gov.phase = .delay → s.nextPosition (some s.gov.seqPos) = some p → s.railUsed r = true →
    s.position r = p → ∃ t, exec .interRailDelayEnd s = .next t ∧ t.gov = { s.gov with phase := .rails, seqPos := p } ∧
      (t.rail r).seq = .census ∧ t.tb = { s.tb with now := max s.tb.now (s.gov.seqStart + s.cyc 0x2003 1) }) ∧
  (∀ (r n : Nat) (stuck : List Nat) (s : State), (s.rail r).seq = .census → s.gov.phase = .rails → 64 ≤ (s.rail r).censusN →
    s.railUsed r = true → n ∈ s.railLanes r → ∃ t, exec (.laneCensusComplete r stuck) s = .next t ∧
      (t.lane n).st = (if 64 ≤ (s.lane n).good ∧ (s.lane n).bad = false ∧ n ∉ stuck then .cold else .missing) ∧
      (t.lane n).cause = (if 64 ≤ (s.lane n).good ∧ (s.lane n).bad = false ∧ n ∉ stuck then 0 else 5)) ∧
  (∀ (r : Nat) (stuck : List Nat) (s : State), (s.rail r).seq = .census → s.gov.phase = .rails →
    64 ≤ (s.rail r).censusN → s.railUsed r = true →
    (∀ n ∈ s.railLanes r, 64 ≤ (s.lane n).good ∧ (s.lane n).bad = false ∧ n ∉ stuck) →
    s.laneFloor r ≤ (s.railLanes r).length →
    ∃ t, exec (.laneCensusComplete r stuck) s = .next t ∧ (t.rail r).seq = .ramping ∧ (t.rail r).rampUp = true) ∧
  (∀ (r : Nat) (s : State), (s.rail r).seq = .ramping → 16 ≤ (s.rail r).pgRun → s.gov.phase ≠ .rails →
    ∃ t, exec (.railPowerGood r) s = .next t ∧ t.rail r = { s.rail r with seq := .good, goodOnce := true } ∧
      t = { s with rails := t.rails, sensors := t.sensors }) ∧
  (∀ (r p : Nat) (s : State), (s.rail r).seq = .ramping → 16 ≤ (s.rail r).pgRun → s.gov.phase = .rails →
    (∀ k ∈ s.positionRails s.gov.seqPos, k ≠ r → (s.rail k).seq = .good) → s.nextPosition (some s.gov.seqPos) = some p →
    ∃ t, exec (.railPowerGood r) s = .next t ∧ t.rail r = { s.rail r with seq := .good, goodOnce := true } ∧
      t.gov = { s.gov with phase := .delay, seqStart := s.tb.now } ∧
      t = { s with gov := t.gov, rails := t.rails, sensors := t.sensors }) ∧
  (∀ (r : Nat) (s : State), s.tb.gclk = true → s.gov.gathered = none → (s.rail r).seq = .ramping →
    ∃ t, exec (.railPowerGoodMiss r) s = .next t ∧ t.tb.now = max s.tb.now (s.rail r).deadline ∧ (t.pin 16).latched = true) ∧
  (∀ (r : Nat) (s : State), s.tb.gclk = true → s.gov.gathered = none → s.gov.phase = .supply → s.railUsed r = true → s.position r = s.gov.seqPos →
    ∃ t, exec .stageSupplyTimeout s = .next t ∧ t.tb.now = max s.tb.now (s.gov.seqStart + 100800000) ∧
      (t.pin 16).latched = true) ∧
  (∀ (r high : Nat) (s : State), (s.rail r).seq = .discharging → high < s.obj 0x2003 2 →
    ∃ t, exec (.railDischargeDone r high) s = .next t ∧ (t.rail r).seq = .off ∧ (t.rail r).setpoint = 0 ∧
      t.tb.now = s.tb.now) ∧
  (∀ (r : Nat) (s : State), (s.rail r).seq = .discharging →
    ∃ t, exec (.railDischargeTimeout r) s = .next t ∧ (t.rail r).seq = .off ∧ (t.rail r).setpoint = 0 ∧
      t.tb.now = max s.tb.now (s.rail r).deadline) ∧
  (∀ s : State, s.gov.phase ≠ .supply → exec .stageSupplyQualified s = .next s ∧ exec .stageSupplyTimeout s = .next s) ∧
  (∀ s : State, s.gov.phase ≠ .delay → exec .interRailDelayEnd s = .next s) ∧
  (∀ (r : Nat) (stuck : List Nat) (s : State), (s.rail r).seq ≠ .census → exec (.laneCensusComplete r stuck) s = .next s) ∧
  (∀ (r : Nat) (s : State), (s.rail r).seq ≠ .ramping →
    exec (.railPowerGood r) s = .next s ∧ exec (.railPowerGoodMiss r) s = .next s) ∧
  ∀ (r high : Nat) (s : State), (s.rail r).seq ≠ .discharging →
    exec (.railDischargeDone r high) s = .next s ∧ exec (.railDischargeTimeout r) s = .next s

/-- DROOP_REPORT of a port at or above the tap count changes nothing. A valid, parity-correct report of a VALID tap whose
last report was good gives the tap its code and sense voltage, enters the means and moves no clock; where the level it
reaches is MILD or DEEP and no other used tap of the domain reaches a higher one, where no fast-path latch stands and
no group waits for the Assayer, the domain stands at that level with its issue freeze in force and its event begun, at
DEEP with a stretch, and no other domain's droop state changes. A report of a VALID tap whose parity fails leaves
code, sense voltage and sum as they were. A report of an IDLE tap changes taps only. FAST_PATH_STRETCH in a used
domain with power-good and a tap used, not forced off, raises the latched level of its cell to 4 or 1 and changes else
only that domain's droop state and learning; in any other domain it does nothing. -/
def Obligations.DroopReports : Prop :=
  (∀ (k : Nat) (rep : BitVec 10) (v : BitVec 16) (s : State), s.tapCount ≤ k → exec (.droopReport k rep v) s = .next s) ∧
  (∀ (k : Nat) (rep : BitVec 10) (v : BitVec 16) (s : State), k < s.tapCount → (s.tap k).st = .valid →
    (s.tap k).parityBad = false → reportParity rep v = true → rep.getLsbD 6 = true →
    ∃ t, exec (.droopReport k rep v) s = .next t ∧ (t.tap k).code = rep.toNat % 64 ∧ (t.tap k).volts = v ∧
      (t.tap k).sum = (s.tap k).sum + rep.toNat % 64 ∧ (t.tap k).count = (s.tap k).count + 1 ∧ t.tb.now = s.tb.now) ∧
  (∀ (k d lv : Nat) (rep : BitVec 10) (v : BitVec 16) (s : State), k < s.tapCount → (s.tap k).st = .valid →
    (s.tap k).parityBad = false → reportParity rep v = true → rep.getLsbD 6 = true → s.tapGroup k < 64 →
    s.groupDomain (s.tapGroup k) = d →
    reachOf (s.group (s.tapGroup k)) (rep.toNat % 64) (rep.getLsbD 7) (rep.getLsbD 8) = lv → 1 ≤ lv → lv ≤ 2 →
    (∀ j ∈ s.domainTaps d, j ≠ k → (s.tap j).st.used = true → (s.tap j).reach ≤ lv) → (s.droop d).fast = 0 →
    s.assayer.groups = [] →
    ∃ t, exec (.droopReport k rep v) s = .next t ∧ (t.droop d).level = lv ∧ (t.droop d).frozen.isSome = true ∧
      (t.droop d).active = true ∧ (lv = 2 → 1 ≤ (t.droop d).stretch) ∧ ∀ e, e ≠ d → t.droop e = s.droop e) ∧
  (∀ (k : Nat) (rep : BitVec 10) (v : BitVec 16) (s : State), k < s.tapCount → (s.tap k).st = .valid →
    reportParity rep v = false → ∃ t, exec (.droopReport k rep v) s = .next t ∧ (t.tap k).code = (s.tap k).code ∧
      (t.tap k).volts = (s.tap k).volts ∧ (t.tap k).sum = (s.tap k).sum) ∧
  (∀ (d : Nat) (sev : Bool) (s : State), s.domainUsed d = true → (s.domain d).good = true → s.forcedOff = false →
    (s.domainTaps d).any (fun t => (s.tap t).st.used) = true → ∃ t, exec (.fastPathStretch d sev) s = .next t ∧
      (t.droop d).oxsc = max (s.droop d).oxsc (if sev then 4 else 1) ∧ (t.droop d).lineDeep = true ∧
      (t.droop d).stretched.isSome = true ∧ (∀ e, e ≠ d → t.droop e = s.droop e) ∧
      t = { s with droops := t.droops, tally := t.tally }) ∧
  (∀ (d : Nat) (sev : Bool) (s : State), (s.domainUsed d = false ∨ (s.domain d).good = false ∨ s.forcedOff = true ∨
    (s.domainTaps d).any (fun t => (s.tap t).st.used) = false) → exec (.fastPathStretch d sev) s = .next s) ∧
  ∀ (k : Nat) (rep : BitVec 10) (v : BitVec 16) (s : State), k < s.tapCount → (s.tap k).st = .idle →
    ∃ t, exec (.droopReport k rep v) s = .next t ∧ t = { s with taps := t.taps }

/-- STRETCH_RELEASE_STEP with the request lines read low: from four steps the stretch is three once the SEVERE release
time has passed, from two or three it falls by one at a step time, and from one, in a domain that is not blind, to
none at the last step time or, where it stood at one only, at the DEEP clearance; a blind domain keeps its one step.
With the severe line read high, no safe-point use and no fast-path latch, a stretch of four keeps. FREEZE_RELEASE of a
frozen domain: the freeze and the level end in the cycle after the MILD release time; not frozen, nothing changes.
LONG_FREEZE of a freeze not yet marked, with pin 21 calm, comes to its limit, marks it and latches pin 21.
EXCURSION_WINDOW_CLOSE of a window with a close count comes to it and ends the window; without one it does nothing.
TAP_DISAGREEMENT: a third disagreement makes a VALID tap SUSPECT, agreement in the retry VALID again, disagreement
MASKED; on a tap of another state, and of one that has none of these, it does nothing. The clauses name what else
changes: the clock, counters, and for a window the recorder; of a masked tap they state no more than that other units
stay. -/
def Obligations.DroopReleases : Prop :=
  (∀ (d : Nat) (dl sl : Bool) (s : State), 4 ≤ (s.droop d).stretch → sl = false →
    ∃ t, exec (.stretchReleaseStep d dl sl) s = .next t ∧ (t.droop d).stretch = 3 ∧
      t.tb = { s.tb with now := s.stepTime d (s.clearAt (s.droop d).badSevere) } ∧
      (∀ e, e ≠ d → t.droop e = s.droop e) ∧ t = { s with tb := t.tb, droops := t.droops, od := t.od }) ∧
  (∀ (d : Nat) (dl sl : Bool) (s : State), 2 ≤ (s.droop d).stretch → (s.droop d).stretch < 4 → sl = false →
    ∃ t, exec (.stretchReleaseStep d dl sl) s = .next t ∧ (t.droop d).stretch = (s.droop d).stretch - 1 ∧
      t.tb = { s.tb with now := s.stepTime d ((s.droop d).stepAt + s.obj 0x2400 5) } ∧
      (∀ e, e ≠ d → t.droop e = s.droop e) ∧ t = { s with tb := t.tb, droops := t.droops, od := t.od }) ∧
  (∀ (d : Nat) (dl sl : Bool) (s : State), (s.droop d).stretch = 1 → s.domainBlind d = false → dl = false →
    sl = false →
    ∃ t, exec (.stretchReleaseStep d dl sl) s = .next t ∧ (t.droop d).stretch = 0 ∧
      t.tb.now = max s.tb.now (if (s.droop d).stood then s.stepTime d (s.lastStep d) else s.clearAt (s.droop d).badDeep) ∧
      (∀ e, e ≠ d → t.droop e = s.droop e) ∧ t = { s with tb := t.tb, droops := t.droops, od := t.od }) ∧
  (∀ (d : Nat) (s : State), (s.droop d).frozen.isSome = true →
    ∃ t, exec (.freezeRelease d) s = .next t ∧ (t.droop d).frozen = none ∧ (t.droop d).level = 0 ∧
      t.tb = { s.tb with now := max s.tb.now ((s.droop d).badMild + s.obj 0x2400 6 + 1) } ∧
      (∀ e, e ≠ d → t.droop e = s.droop e) ∧ t = { s with tb := t.tb, droops := t.droops, od := t.od }) ∧
  (∀ (d u : Nat) (s : State), (s.droop d).frozen = some u → (s.droop d).long = false → s.calm 21 →
    ∃ t, exec (.longFreeze d) s = .next t ∧ t.droop d = { s.droop d with long := true } ∧ (t.pin 21).latched = true ∧
      (∀ e, e ≠ d → t.droop e = s.droop e) ∧
      t.tb = { s.tb with now := max s.tb.now (u + s.cyc 0x2400 9) } ∧ Noted t { s with tb := t.tb, droops := t.droops }) ∧
  (∀ (d c : Nat) (w : Window) (s : State), (s.droop d).window = some w → w.closed = some c →
    ∃ t, exec (.excursionWindowClose d) s = .next t ∧ t.droop d = { s.droop d with window := none } ∧
      (∀ e, e ≠ d → t.droop e = s.droop e) ∧ t.tb = { s.tb with now := max s.tb.now c } ∧
      t = { s with tb := t.tb, droops := t.droops, od := t.od, recorder := t.recorder, windowRecs := t.windowRecs }) ∧
  (∀ (k : Nat) (s : State), (s.tap k).st = .valid → 3 ≤ (s.tap k).suspect →
    ∃ t, exec (.tapDisagreement k) s = .next t ∧ (t.tap k).st = .suspect ∧ (∀ j, j ≠ k → t.tap j = s.tap j) ∧
      t = { s with taps := t.taps, od := t.od }) ∧
  (∀ (k : Nat) (s : State), (s.tap k).st = .suspect → (s.tap k).agreed = some true →
    ∃ t, exec (.tapDisagreement k) s = .next t ∧ (t.tap k).st = .valid ∧ (∀ j, j ≠ k → t.tap j = s.tap j) ∧
      t = { s with taps := t.taps, od := t.od }) ∧
  (∀ (k : Nat) (s : State), (s.tap k).st = .suspect → (s.tap k).agreed = some false →
    ∃ t, exec (.tapDisagreement k) s = .next t ∧ (t.tap k).st = .masked ∧ Spares t s) ∧
  (∀ (d : Nat) (dl sl : Bool) (s : State), (s.droop d).stretch = 1 → s.domainBlind d = true →
    exec (.stretchReleaseStep d dl sl) s = .next s) ∧
  (∀ (d : Nat) (dl sl : Bool) (s : State), 4 ≤ (s.droop d).stretch → sl = true → (s.droop d).safeUses = 0 →
    (s.droop d).fast = 0 → ∃ t, exec (.stretchReleaseStep d dl sl) s = .next t ∧ (t.droop d).stretch = (s.droop d).stretch ∧
      (t.droop d).lineSev = true ∧ t = { s with tb := t.tb, droops := t.droops }) ∧
  (∀ (d : Nat) (s : State), (s.droop d).frozen = none →
    exec (.freezeRelease d) s = .next s ∧ exec (.longFreeze d) s = .next s) ∧
  (∀ (d : Nat) (s : State), (s.droop d).long = true → exec (.longFreeze d) s = .next s) ∧
  (∀ (d : Nat) (s : State), (∀ w, (s.droop d).window = some w → w.closed = none) →
    exec (.excursionWindowClose d) s = .next s) ∧
  ∀ (k : Nat) (s : State), ((s.tap k).st ≠ .valid ∨ (s.tap k).suspect < 3) →
    ((s.tap k).st ≠ .suspect ∨ (s.tap k).agreed = none) → exec (.tapDisagreement k) s = .next s

/-- DOMAIN_WAKE_START of a used, OFF domain that wants to wake, with both conditions met: WAKING with the first stage
closed. DOMAIN_STAGE_STEP in WAKING closes the next stage, and with the fourth opens the power-good window.
DOMAIN_POWER_GOOD in WAKING within the window: SETTLING with the isolation delay running. DOMAIN_ISOLATION_RELEASE in
SETTLING, outside the domains phase of SEQUENCING: go_iso falls, and with the census done the domain is ON.
DOMAIN_RETRY_DELAY_END of an OFF domain asks for the wake again; AUTO_WAKE, where R256 allows it, asks for it.
DOMAIN_PG_WINDOW_MISS in WAKING opens the stages, a retry or, at the second time, a fault to follow. WAKE_WAIT_EXPIRY
of an OFF domain waiting for inrush alone in SEQUENCING comes to the end of the limit on the waits counted; the domain
is OFF, or FAULTED where it was its retry. Of other domains at most the accounting of their wake waits changes, but
for the last event, which states nothing of them. Each does nothing to a domain not in the state it needs. -/
def Obligations.DomainWake : Prop :=
  (∀ (d : Nat) (s : State), (s.domain d).wanted = true → (s.domain d).st = .off → s.domainUsed d = true →
    s.wakeRoom d = true → s.rushRoom d = true → ∃ t, exec (.domainWakeStart d) s = .next t ∧ (t.domain d).st = .waking ∧
      (t.domain d).stages = 1 ∧ (t.domain d).iso = true ∧ (t.domain d).wanted = false ∧
      (t.domain d).stageAt = some (s.tb.now + s.cyc (0x3410 + d) 5) ∧ (t.domain d).wakeStart = s.tb.now ∧
      (∀ e, e ≠ d → t.domain e = { s.domain e with waited := (t.domain e).waited, rushWait := (t.domain e).rushWait }) ∧ t = { s with domains := t.domains }) ∧
  (∀ (d u : Nat) (s : State), (s.domain d).stageAt = some u → (s.domain d).st = .waking →
    ∃ t, exec (.domainStageStep d) s = .next t ∧ t.tb = { s.tb with now := max s.tb.now u } ∧
      ((s.domain d).stages < 3 → t.domain d = { s.domain d with
        stages := (s.domain d).stages + 1, stageAt := some (t.tb.now + s.cyc (0x3410 + d) 5) }) ∧
      (3 ≤ (s.domain d).stages → t.domain d = { s.domain d with
        stages := 4, stageAt := none, pgEnd := some (t.tb.now + s.cyc (0x3410 + d) 6) }) ∧
      (∀ e, e ≠ d → t.domain e = s.domain e) ∧ t = { s with tb := t.tb, domains := t.domains }) ∧
  (∀ (d : Nat) (s : State), (s.domain d).st = .waking → (s.domain d).pgEnd.isSome = true →
    ∃ t, exec (.domainPowerGood d) s = .next t ∧ (t.domain d).st = .settling ∧ (t.domain d).pgAt = some s.tb.now ∧
      (t.domain d).isoAt = some (s.tb.now + s.cyc (0x3410 + d) 7) ∧ (t.domain d).pgEnd = none ∧
      (t.domain d).censusDone = false ∧ (∀ e, e ≠ d → t.domain e = { s.domain e with waited := (t.domain e).waited, rushWait := (t.domain e).rushWait }) ∧ t = { s with domains := t.domains }) ∧
  (∀ (d u : Nat) (s : State), (s.domain d).isoAt = some u → (s.domain d).st = .settling → s.gov.phase ≠ .domains →
    ∃ t, exec (.domainIsolationRelease d) s = .next t ∧ (t.domain d).iso = false ∧ (t.domain d).isoAt = none ∧
      (t.domain d).st = (if (s.domain d).censusDone then .on else .settling) ∧
      t.tb = { s.tb with now := max s.tb.now u } ∧ (∀ e, e ≠ d → t.domain e = s.domain e) ∧
      t = { s with tb := t.tb, domains := t.domains, od := t.od }) ∧
  (∀ (d u : Nat) (s : State), (s.domain d).retryAt = some u → (s.domain d).st = .off → (s.domain d).wanted = false →
    ∃ t, exec (.domainRetryDelayEnd d) s = .next t ∧ (t.domain d).wanted = true ∧ (t.domain d).retryAt = none ∧
      t.tb = { s.tb with now := max s.tb.now u } ∧ (∀ e, e ≠ d → t.domain e = { s.domain e with waited := (t.domain e).waited, rushWait := (t.domain e).rushWait }) ∧
      t = { s with tb := t.tb, domains := t.domains, od := t.od }) ∧
  (∀ (d : Nat) (s : State), s.domainUsed d = true → (s.domain d).st = .off → (s.domain d).wanted = false →
    (s.domain d).retryAt = none → s.autoWakes d = true →
    ((s.domain d).written = false ∨ s.obj (0x3410 + d) 3 = 1) → s.workAhead d = true →
    s.gov.st.words = true → (s.rail (s.droopRail d)).good = true → s.gov.seqDown = false →
    ∃ t, exec (.autoWake d) s = .next t ∧ (t.domain d).wanted = true ∧ (∀ e, e ≠ d → t.domain e = { s.domain e with waited := (t.domain e).waited, rushWait := (t.domain e).rushWait }) ∧
      t = { s with domains := t.domains, od := t.od }) ∧
  (∀ (d u : Nat) (s : State), (s.domain d).pgEnd = some u → (s.domain d).st = .waking →
    ∃ t, exec (.domainPgWindowMiss d) s = .next t ∧ (t.domain d).st = .gating ∧ (t.domain d).iso = true ∧
      (t.domain d).after = (if (s.domain d).retry then .fault else .retry) ∧
      (t.domain d).stageAt = some (max s.tb.now u) ∧ t.tb = { s.tb with now := max s.tb.now u } ∧
      (∀ e, e ≠ d → t.domain e = { s.domain e with waited := (t.domain e).waited, rushWait := (t.domain e).rushWait }) ∧
      t = { s with tb := t.tb, domains := t.domains, droops := t.droops, taps := t.taps, pins := t.pins, od := t.od }) ∧
  (∀ (d u : Nat) (s : State), (s.domain d).wanted = true → (s.domain d).st = .off → s.initialOn d = true →
    s.gov.st = .sequencing → s.gov.phase = .domains → s.rushRoom d = false → (s.domain d).rushWait = some u →
    ∃ t, exec (.wakeWaitExpiry d) s = .next t ∧ (t.domain d).st = (if (s.domain d).retry then .faulted else .off) ∧
      t.tb.now = max s.tb.now (u + (s.cyc 0x3400 0x10 - (s.domain d).waited))) ∧
  (∀ (d : Nat) (s : State), ((s.domain d).wanted = false ∨ (s.domain d).st ≠ .off ∨ s.wakeRoom d = false ∨
    s.rushRoom d = false) → exec (.domainWakeStart d) s = .next s) ∧
  (∀ (d : Nat) (s : State), (s.domain d).st ≠ .waking →
    exec (.domainPowerGood d) s = .next s ∧ exec (.domainPgWindowMiss d) s = .next s) ∧
  (∀ (d : Nat) (s : State), (s.domain d).st ≠ .settling → exec (.domainIsolationRelease d) s = .next s) ∧
  (∀ (d : Nat) (s : State), (s.domain d).st ≠ .off → exec (.domainRetryDelayEnd d) s = .next s ∧
    exec (.autoWake d) s = .next s ∧ exec (.wakeWaitExpiry d) s = .next s) ∧
  ∀ (d : Nat) (s : State), (s.domain d).stageAt = none → exec (.domainStageStep d) s = .next s

/-- DOMAIN_STAGE_STEP in GATING opens the next stage, and after the last one a domain that only gates, wants no wake and
is not part of a power-down is OFF. DRAIN_COMPLETE of a DRAINING domain with no granted slot, and DRAIN_TIMEOUT of a
DRAINING domain at the end of its time, raise go_iso and let the first stage fall 8 cycles later.
DOMAIN_POWER_GOOD_LOSS of a domain with power-good isolates it with every stage open: OFF, or FAULTED when it was the
retry and no power-down is under way. TAP_SETTLE_END in SETTLING comes to the settling time after power-good and
starts the census. DOMAIN_CENSUS_COMPLETE with 256 reports of every tap, pin 20 calm and outside the domains phase,
makes every tap VALID, and the domain ON where go_iso has fallen. DOMAIN_CENSUS_WINDOW_END makes every tap of the
domain without its 256 reports MISSING, or, where the source of a missing tap has taken the Governor to TRIP, IDLE.
Each does nothing to a domain not in the state it needs. -/
def Obligations.DomainGating : Prop :=
  (∀ (d u : Nat) (s : State), (s.domain d).stageAt = some u → (s.domain d).st = .gating → 1 < (s.domain d).stages →
    ∃ t, exec (.domainStageStep d) s = .next t ∧ t.tb = { s.tb with now := max s.tb.now u } ∧
      t.domain d = { s.domain d with
        stages := (s.domain d).stages - 1, stageAt := some (t.tb.now + s.cyc (0x3410 + d) 5) } ∧
      (∀ e, e ≠ d → t.domain e = s.domain e) ∧ t = { s with tb := t.tb, domains := t.domains }) ∧
  (∀ (d u : Nat) (s : State), (s.domain d).stageAt = some u → (s.domain d).st = .gating → (s.domain d).stages ≤ 1 →
    (s.domain d).after = .off → (s.domain d).wanted = false → s.gov.phase ≠ .gating →
    ∃ t, exec (.domainStageStep d) s = .next t ∧ (t.domain d).st = .off ∧ (t.domain d).stages = 0 ∧
      t.tb = { s.tb with now := max s.tb.now u } ∧ (∀ e, e ≠ d → t.domain e = s.domain e) ∧
      t = { s with tb := t.tb, domains := t.domains }) ∧
  (∀ (d : Nat) (s : State), (s.domain d).st = .draining → s.domainSlots d .granted = [] →
    ∃ t, exec (.drainComplete d) s = .next t ∧ (t.domain d).st = .gating ∧ (t.domain d).iso = true ∧
      (t.domain d).stageAt = some (s.tb.now + 8) ∧ (t.domain d).after = .off ∧ (∀ e, e ≠ d → t.domain e = { s.domain e with waited := (t.domain e).waited, rushWait := (t.domain e).rushWait }) ∧
      t = { s with domains := t.domains, droops := t.droops, taps := t.taps, pins := t.pins, od := t.od }) ∧
  (∀ (d u : Nat) (s : State), (s.domain d).drainEnd = some u → (s.domain d).st = .draining →
    ∃ t, exec (.drainTimeout d) s = .next t ∧ (t.domain d).st = .gating ∧ (t.domain d).iso = true ∧
      t.tb.now = max s.tb.now u ∧ (t.domain d).stageAt = some (t.tb.now + 8)) ∧
  (∀ (d : Nat) (s : State), (s.domain d).good = true → ∃ t, exec (.domainPowerGoodLoss d) s = .next t ∧
    ((s.domain d).retry = false → (t.domain d).st = .off) ∧
    ((s.domain d).retry = true → s.gov.seqDown = false → (t.domain d).st = .faulted) ∧
    (t.domain d).iso = true ∧ (t.domain d).stages = 0 ∧ t.tb.now = s.tb.now) ∧
  (∀ (d u : Nat) (s : State), (s.domain d).pgAt = some u → (s.domain d).st = .settling → (s.domain d).censusEnd = none →
    (s.domain d).censusDone = false → ∃ t, exec (.tapSettleEnd d) s = .next t ∧
      t.tb = { s.tb with now := max s.tb.now (u + s.cyc 0x2400 7) } ∧
      (t.domain d).censusEnd = some (t.tb.now + s.cyc 0x2400 0x0D) ∧ (∀ k ∈ s.domainTaps d, (t.tap k).run = 0) ∧
      (∀ e, e ≠ d → t.domain e = s.domain e) ∧ t = { s with tb := t.tb, taps := t.taps, domains := t.domains }) ∧
  (∀ (d : Nat) (s : State), (s.domain d).st = .settling → (s.domain d).censusEnd.isSome = true →
    (∀ k ∈ s.domainTaps d, 256 ≤ (s.tap k).run) → s.calm 20 → s.gov.phase ≠ .domains →
    ∃ t, exec (.domainCensusComplete d) s = .next t ∧ (t.domain d).censusDone = true ∧ (t.domain d).censusEnd = none ∧
      (∀ k ∈ s.domainTaps d, (t.tap k).st = .valid) ∧
      (t.domain d).st = (if (s.domain d).iso then .settling else .on)) ∧
  (∀ (d u k : Nat) (s : State), (s.domain d).censusEnd = some u → (s.domain d).st = .settling → k ∈ s.domainTaps d →
    (s.tap k).run < 256 → ∃ t, exec (.domainCensusWindowEnd d) s = .next t ∧ t.tb.now = max s.tb.now u ∧
      ((t.tap k).st = .missing ∨ ((t.tap k).st = .idle ∧ t.gov.st = .trip))) ∧
  (∀ (d : Nat) (s : State), (s.domain d).st ≠ .draining →
    exec (.drainComplete d) s = .next s ∧ exec (.drainTimeout d) s = .next s) ∧
  (∀ (d : Nat) (s : State), (s.domain d).good = false → exec (.domainPowerGoodLoss d) s = .next s) ∧
  ∀ (d : Nat) (s : State), (s.domain d).st ≠ .settling → exec (.tapSettleEnd d) s = .next s ∧
    exec (.domainCensusComplete d) s = .next s ∧ exec (.domainCensusWindowEnd d) s = .next s

/-- ISSUE on an open port on which no digest is awaited. An array the descriptor does not use: HOLD with reason 6. A used
array with the group of the word in a PREDICTED slot, ROLE 0, no poison and no prediction to commit in this cycle:
HOLD with reason 2 where the Governor does not meter, else 1 where the domain's issue is frozen, else 3 where the
array is quarantined, the slot kept and nothing changed but Tally, arrays and counters; in the other case, where the
group is no filler, ring and array can pay the cost and no other ring holds a reservation, a GRANT, and in NW-OXG4-C
the slot is GRANTED and the ring pays the cost. On a closed port, and with a word of another kind, nothing changes. -/
def Obligations.IssueAnswers : Prop :=
  (∀ (port : Nat) (w : W64) (s : State), s.portOpen port = true → s.awaits port = none → wordKind w = 1 →
    s.arrayDomain (wordArray w) = none → ∃ t, exec (.issue port w) s = .next t ∧
      tget t.tally.answers port 0 = answerWord false 6 (wordArray w) (wordRing w) (wordRole w) (wordTag w)) ∧
  (∀ (port d : Nat) (w : W64) (s : State), s.portOpen port = true → s.awaits port = none → wordKind w = 1 →
    wordRole w = 0 → s.arrayDomain (wordArray w) = some d → s.poison = [] →
    (s.tb.now < s.tb.cStart + 1004 ∨ s.tally.taken = []) →
    s.holds (slotKey (wordArray w) (wordTag w)) (wordRing w) (wordTag w) .predicted = true →
    (s.metered = false ∨ s.issueFrozen d = true ∨ s.quarantined (wordArray w) = true) →
    ∃ t, exec (.issue port w) s = .next t ∧
      tget t.tally.answers port 0 = answerWord false
        (if s.metered = false then 2 else if s.issueFrozen d = true then 1 else 3)
        (wordArray w) (wordRing w) 0 (wordTag w) ∧
      t.slot (slotKey (wordArray w) (wordTag w)) = s.slot (slotKey (wordArray w) (wordTag w)) ∧
      t = { s with tally := t.tally, arrays := t.arrays, od := t.od }) ∧
  (∀ (port d cost : Nat) (w : W64) (s : State), s.portOpen port = true → s.awaits port = none → wordKind w = 1 →
    wordRole w = 0 → s.arrayDomain (wordArray w) = some d → s.poison = [] →
    (s.tb.now < s.tb.cStart + 1004 ∨ s.tally.taken = []) →
    s.holds (slotKey (wordArray w) (wordTag w)) (wordRing w) (wordTag w) .predicted = true →
    (s.slot (slotKey (wordArray w) (wordTag w))).cls ≠ fillerKey →
    s.metered = true → s.issueFrozen d = false → s.quarantined (wordArray w) = false →
    s.cost (wordArray w) (some (slotKey (wordArray w) (wordTag w))) = cost →
    (∀ x, (s.array (wordArray w)).resv = some x → x.ring = wordRing w) →
    s.ringWeight (wordArray w) (wordRing w) ≠ 0 →
    (min cost (s.ringCap (wordArray w) (wordRing w)) : Nat) ≤ s.ringNow (wordArray w) (wordRing w) →
    (min cost (s.arrayCap (wordArray w) / 65536) : Nat) ≤
      max (intPart (s.array (wordArray w)).bal) 0 + ((s.array (wordArray w)).fil : Int) →
    ∃ t, exec (.issue port w) s = .next t ∧
      tget t.tally.answers port 0 = answerWord true 0 (wordArray w) (wordRing w) 0 (wordTag w) ∧
      (s.cfg = .core → (t.slot (slotKey (wordArray w) (wordTag w))).st = .granted ∧
        (t.ring (ringKey (wordArray w) (wordRing w))).bal =
          satS 24 (s.ringNow (wordArray w) (wordRing w) - (cost : Int)))) ∧
  (∀ (port : Nat) (w : W64) (s : State), s.portOpen port = false → exec (.issue port w) s = .next s) ∧
  ∀ (port : Nat) (w : W64) (s : State), s.awaits port = none → wordKind w ≠ 1 → exec (.issue port w) s = .next s

/-- RESERVATION_EXPIRY of a reservation whose ring has not re-ISSUEd for the expiry of 0x2800:05 ends it and counts it in
0x2802:0A; before that, and of an array with none, it does nothing. RING_SWEEP with GCLK running in a C-frame whose
number is a multiple of 100, once in that C-frame, updates the next ring account to its present balance and moves to
the one after it, of 8,192; at any other time it does nothing. DEFERRED_CANCEL of a PREDICTED group, with no poison:
the group's slot is freed and the word leaves the list, with nothing changed but the clock and the Tally; with no word
deferred it does nothing. PREDICTED_SLOT_EXPIRY of a slot whose first bin has passed by more than the expiry frees the
slot, keeps every other slot and changes else only counters. GRANTED_GROUP_TIMEOUT of a slot granted for the timeout,
its DONE not seen, frees the slot. Both of an unpoisoned slot; of one in another state, or before the time, they do
nothing. -/
def Obligations.CreditAndSlotTimers : Prop :=
  ((∀ (a : Nat) (x : Reservation) (s : State), (s.array a).resv = some x → x.last + s.obj 0x2800 5 ≤ s.tb.cframe →
    ∃ t, exec (.reservationExpiry a) s = .next t ∧ (t.array a).resv = none ∧
      t.obj 0x2802 0x0A = min (s.obj 0x2802 0x0A + 1) 0xFFFFFFFF ∧ Spares t s) ∧
  (∀ s : State, s.tb.gclk = true → s.tb.cframe % 100 = 0 → s.tb.sweptC ≠ some s.tb.cframe →
    exec .ringSweep s = .next { s with
      tb := { s.tb with sweptC := some s.tb.cframe }
      rings := tset s.rings (ringKey (s.sweepRing / 32) (s.sweepRing % 32))
        { bal := s.ringNow (s.sweepRing / 32) (s.sweepRing % 32), snap := (s.array (s.sweepRing / 32)).cum }
      sweepRing := (s.sweepRing + 1) % 8192 }) ∧
  (∀ s : State, (s.tb.gclk = false ∨ s.tb.cframe % 100 ≠ 0 ∨ s.tb.sweptC = some s.tb.cframe) →
    exec .ringSweep s = .next s) ∧
  ∀ (a : Nat) (s : State), (∀ x, (s.array a).resv = some x → s.tb.cframe < x.last + s.obj 0x2800 5) →
    exec (.reservationExpiry a) s = .next s) ∧
  ((∀ (w : W64) (rest : List W64) (s : State), s.tally.deferred = w :: rest → s.poison = [] →
    s.holds (slotKey (wordArray w) (wordTag w)) (wordRing w) (wordTag w) .predicted = true →
    ∃ t, exec .deferredCancel s = .next t ∧ (t.slot (slotKey (wordArray w) (wordTag w))).st = .free ∧
      t.tally.deferred = rest ∧ s.tb.now ≤ t.tb.now ∧ t = { s with tb := { s.tb with now := t.tb.now }, tally := t.tally }) ∧
  (∀ (n : Nat) (s : State), s.poisoned .slot n = false → (s.slot n).st = .predicted →
    (s.slot n).bin + s.obj 0x2C00 7 < s.tb.cframe - (s.slot n).placed →
    ∃ t, exec (.predictedSlotExpiry n) s = .next t ∧ (t.slot n).st = .free ∧ (∀ k, k ≠ n → t.slot k = s.slot k) ∧
      t = { s with tally := t.tally, od := t.od }) ∧
  (∀ (n : Nat) (s : State), s.poisoned .slot n = false → (s.slot n).st = .granted → (s.slot n).doneC = none →
    s.obj 0x2C00 6 ≤ s.tb.cframe - (s.slot n).grantC →
    ∃ t, exec (.grantedGroupTimeout n) s = .next t ∧ (t.slot n).st = .free ∧ Spares t s) ∧
  (∀ s : State, s.tally.deferred = [] → exec .deferredCancel s = .next s) ∧
  (∀ (n : Nat) (s : State), s.poisoned .slot n = false → ((s.slot n).st ≠ .predicted ∨
    s.tb.cframe - (s.slot n).placed ≤ (s.slot n).bin + s.obj 0x2C00 7) → exec (.predictedSlotExpiry n) s = .next s) ∧
  ∀ (n : Nat) (s : State), s.poisoned .slot n = false → ((s.slot n).st ≠ .granted ∨ (s.slot n).doneC.isSome = true ∨
    s.tb.cframe - (s.slot n).grantC < s.obj 0x2C00 6) → exec (.grantedGroupTimeout n) s = .next s)

/-- On an open port with no digest awaited, in a state that takes words: an ANNOUNCE of a used array enters the queue with
its C-frame and cycle while it holds fewer than 1,024 words; an overrun bars sheds for 64 C-frames after the present
one and moves no clock. A DONE of a used array waits for its digest, its cycle is noted, and the GRANTED slot of an
original group takes this C-frame as its DONE. With a digest awaited the next word of the port, of any kind, is that
digest: of a DONE not processed it is dropped; of an original group that is GRANTED, with no poison, it frees the slot
(in NW-OXG4-C). ANNOUNCE_LOOKUP, with no poison and no program bank in use, takes the first queued word at its turn,
before cycle 1,000, into the C-frame's predictions. CANCEL of a used array's PREDICTED group with no ISSUE of it in
its pipeline frees its slot; with one it is deferred. On a closed port none of these words does anything. -/
def Obligations.TallyWords : Prop :=
  (∀ (port : Nat) (w : W64) (s : State), s.portOpen port = true → s.awaits port = none → wordKind w = 0 →
    s.gov.st.words = true → (s.arrayDomain (wordArray w)).isSome = true → s.tally.queue.length < 1024 →
    ∃ t, exec (.announce port w) s = .next t ∧
      t.tally = { s.tally with queue := s.tally.queue ++ [{ word := w, arrived := s.tb.cframe, at_ := s.tb.now }] } ∧
      t = { s with tally := t.tally, od := t.od }) ∧
  (∀ (port : Nat) (w : W64) (s : State), s.portOpen port = true → s.awaits port = none → wordKind w = 0 →
    s.gov.st.words = true → (s.arrayDomain (wordArray w)).isSome = true → 1024 ≤ s.tally.queue.length →
    ∃ t, exec (.announce port w) s = .next t ∧ t.tb.barEnd = s.tb.cframe + 65 ∧ t.tb.now = s.tb.now) ∧
  (∀ (port : Nat) (w : W64) (s : State), s.portOpen port = true → s.awaits port = none → wordKind w = 2 →
    s.gov.st.words = true → (s.arrayDomain (wordArray w)).isSome = true →
    ∃ t, exec (.done port w) s = .next t ∧ t.awaits port = some w ∧ tget t.tally.doneAt port 0 = s.tb.now ∧
      (wordRole w = 0 → s.holds (slotKey (wordArray w) (wordTag w)) (wordRing w) (wordTag w) .granted = true →
        t.slot (slotKey (wordArray w) (wordTag w)) =
          { s.slot (slotKey (wordArray w) (wordTag w)) with doneC := some s.tb.cframe }) ∧
      t = { s with tally := t.tally }) ∧
  (∀ (port : Nat) (w : W64) (s : State), s.portOpen port = true → s.awaits port = some 0 →
    exec (.doneDigest port w) s = .next { s with tally := { s.tally with awaiting := tset s.tally.awaiting port none } }) ∧
  (∀ (port : Nat) (d w : W64) (s : State), s.portOpen port = true → s.awaits port = some d → d ≠ 0 → wordRole d = 0 →
    s.cfg = .core → s.poison = [] →
    s.holds (slotKey (wordArray d) (wordTag d)) (wordRing d) (wordTag d) .granted = true →
    ∃ t, exec (.doneDigest port w) s = .next t ∧ t.awaits port = none ∧
      (t.slot (slotKey (wordArray d) (wordTag d))).st = .free ∧ t = { s with tally := t.tally }) ∧
  (∀ (x : Waiting) (rest : List Waiting) (s : State), s.tally.queue = x :: rest →
    max s.tb.now (max s.tally.lookAt (x.at_ + 1)) < s.tb.cStart + 1000 → s.poison = [] → s.activeBank = none →
    ∃ t, exec .announceLookup s = .next t ∧ t.tally.queue = rest ∧ t.tally.taken.length = s.tally.taken.length + 1 ∧
      t.tb = { s.tb with now := max s.tb.now (max s.tally.lookAt (x.at_ + 1)) } ∧ t.tally.lookAt = t.tb.now + 1 ∧
      t = { s with tb := t.tb, tally := t.tally, od := t.od }) ∧
  (∀ (port : Nat) (w : W64) (s : State), s.portOpen port = true → s.awaits port = none → wordKind w = 3 →
    s.gov.st.words = true → (s.arrayDomain (wordArray w)).isSome = true →
    s.inPipeline (slotKey (wordArray w) (wordTag w)) = none →
    s.holds (slotKey (wordArray w) (wordTag w)) (wordRing w) (wordTag w) .predicted = true →
    ∃ t, exec (.cancel port w) s = .next t ∧ (t.slot (slotKey (wordArray w) (wordTag w))).st = .free ∧
      t = { s with tally := t.tally }) ∧
  (∀ (port : Nat) (w : W64) (s : State), s.portOpen port = true → s.awaits port = none → wordKind w = 3 →
    s.gov.st.words = true → (s.arrayDomain (wordArray w)).isSome = true →
    (s.inPipeline (slotKey (wordArray w) (wordTag w))).isSome = true →
    exec (.cancel port w) s = .next { s with tally := { s.tally with deferred := s.tally.deferred ++ [w] } }) ∧
  (∀ (port : Nat) (d w : W64) (s : State), s.awaits port = some d →
    exec (.issue port w) s = exec (.doneDigest port w) s ∧ exec (.announce port w) s = exec (.doneDigest port w) s ∧
    exec (.done port w) s = exec (.doneDigest port w) s ∧ exec (.cancel port w) s = exec (.doneDigest port w) s) ∧
  ∀ (port : Nat) (w : W64) (s : State), s.portOpen port = false → exec (.announce port w) s = .next s ∧
    exec (.done port w) s = .next s ∧ exec (.doneDigest port w) s = .next s ∧ exec (.cancel port w) s = .next s

/-- FOLLOWING_ERROR held for its time on an instance in use that watches it, with pin 4 calm: the count restarts, no other
instance changes and pin 4 is latched; on any other it does nothing. INJECTION_DELAY_END with the delay run out: the
injection runs, and nothing else changes but the capture. INJECTION_END of a running injection that is over: its
status is 3 and it is stopping. CAPTURE_COMPLETE with the samples after the trigger taken: the capture is complete
with status 4 and its samples kept. The last two change else only counters, pins, recorder, interrupts and events. In
any other state of the injector or the capture each does nothing. -/
def Obligations.LoopEvents : Prop :=
  (∀ (i : Nat) (s : State), i < 160 → s.lawUsed i = true → lawFollows i = true → s.obj (0x4100 + i) 0x11 ≠ 0 →
    s.obj (0x4100 + i) 0x12 ≤ (s.law i).feRun → s.calm 4 → ∃ t, exec (.followingError i) s = .next t ∧
      t.law i = { s.law i with feRun := 0 } ∧ (∀ k, k ≠ i → t.law k = s.law k) ∧ (t.pin 4).latched = true ∧
      Noted t { s with laws := t.laws, capture := t.capture }) ∧
  (∀ s : State, s.injector.status = 1 → s.injector.delay = 0 → ∃ t, exec .injectionDelayEnd s = .next t ∧
    t.injector = { s.injector with status := 2 } ∧ t = { s with injector := t.injector, capture := t.capture }) ∧
  (∀ s : State, s.injector.status = 2 → s.injectionOver = true → ∃ t, exec .injectionEnd s = .next t ∧
    t.injector = { s.injector with status := 3, stopping := true } ∧ Noted t { s with injector := t.injector }) ∧
  (∀ s : State, s.capture.status = 3 → s.captureRest ≤ s.capture.after → ∃ t, exec .captureComplete s = .next t ∧
    t.capture.status = 4 ∧ t.capture.samples = s.capture.samples ∧ Noted t { s with capture := t.capture }) ∧
  (∀ (i : Nat) (s : State), (160 ≤ i ∨ s.lawUsed i = false ∨ lawFollows i = false ∨ s.obj (0x4100 + i) 0x11 = 0 ∨
    (s.law i).feRun < s.obj (0x4100 + i) 0x12) → exec (.followingError i) s = .next s) ∧
  (∀ s : State, (s.injector.status ≠ 1 ∨ s.injector.delay ≠ 0) → exec .injectionDelayEnd s = .next s) ∧
  (∀ s : State, (s.injector.status ≠ 2 ∨ s.injectionOver = false) → exec .injectionEnd s = .next s) ∧
  ∀ s : State, (s.capture.status ≠ 3 ∨ s.capture.after < s.captureRest) → exec .captureComplete s = .next s

/-- ASSAY_REQUEST_TRANSFER with GCLK running: the oldest request word leaves on the request port, and nothing else
changes; with no word, or with GCLK stopped, it does nothing. DUPLICATE_DEADLINE of an entry being compared comes to
its deadline; the entry is gone and counted UNASSAYED in 0x6001:06. THIRD_EXECUTION_REQUEST in NW-OXG4-F: the first
entry at its safe point is sent, its deadline is the one it has or else runs from now, and nothing else changes.
THIRD_DEADLINE of an entry that has one comes to it, and with no mismatch waiting the entry is gone and counted
INDETERMINATE in 0x6001:05. With no such entry the last three do nothing. -/
def Obligations.AssayRequests : Prop :=
  (∀ (w : W64) (rest : List W64) (s : State), s.assayer.requests = w :: rest → s.tb.gclk = true →
    exec .assayRequestTransfer s = .next { s with assayer := { s.assayer with sent := w, requests := rest } }) ∧
  (∀ (k u : Nat) (e : Entry) (s : State), s.entry? k = some e → e.deadline = some u → e.st = .comparing →
    ∃ t, exec (.duplicateDeadline k) s = .next t ∧ t.tb.now = max s.tb.now u ∧ t.entry? k = none ∧
      t.obj 0x6001 6 = min (s.obj 0x6001 6 + 1) 0xFFFFFFFF) ∧
  (∀ (k a : Nat) (e : Entry) (s : State), s.cfg = .full →
    s.assayer.entries.find? (fun p => s.atSafePoint p.2) = some (k, e) → e.third = some a →
    exec .thirdExecutionRequest s = .next { s with assayer := { s.assayer with
      entries := tset s.assayer.entries k { e with
        st := .third, thirdDeadline := some (e.thirdDeadline.getD (s.tb.now + s.cyc 0x6000 4)) }
      requests := s.assayer.requests ++ [requestWord 2 a e.origin e.ring e.tag 0 0] } }) ∧
  (∀ (k u : Nat) (e : Entry) (s : State), s.entry? k = some e → e.thirdDeadline = some u →
    ∃ t, exec (.thirdDeadline k) s = .next t ∧ t.tb.now = max s.tb.now u) ∧
  (∀ (k u : Nat) (e : Entry) (s : State), s.entry? k = some e → e.thirdDeadline = some u →
    s.assayer.thirds = [] → ∃ t, exec (.thirdDeadline k) s = .next t ∧ t.entry? k = none ∧
      t.obj 0x6001 5 = min (s.obj 0x6001 5 + 1) 0xFFFFFFFF) ∧
  (∀ s : State, (s.assayer.requests = [] ∨ s.tb.gclk = false) → exec .assayRequestTransfer s = .next s) ∧
  (∀ (k : Nat) (s : State), s.entry? k = none →
    exec (.duplicateDeadline k) s = .next s ∧ exec (.thirdDeadline k) s = .next s) ∧
  ∀ s : State, s.assayer.entries.find? (fun p => s.atSafePoint p.2) = none →
    exec .thirdExecutionRequest s = .next s

/-- CONTRIBUTION_FENCE with GCLK running. In NW-OXG4-C: answered COMPLETE with MODE 2 and counts 0. In NW-OXG4-F a fence
closes its interval: the counts of the open interval become its own and start again from 0, and every entry left in it
bears its number; with 16 fences held it is answered at once with MODE 3; in gated mode it waits at the end of the
list; otherwise it is answered at once with what is pending. FENCE_ANSWER: the first gated fence with nothing
unresolved leaves the list and is answered COMPLETE with its counts; with none such it does nothing. Nothing else
changes but the Assayer and the counters. With GCLK stopped a fence does nothing. -/
def Obligations.ContributionFences : Prop :=
  (∀ (id : BitVec 16) (s : State), s.tb.gclk = true → s.cfg = .core → exec (.contributionFence id) s =
    .next { s with assayer := { s.assayer with status := fenceStatus id.toNat 2 1 0 0 0 0 } }) ∧
  (∀ (id : BitVec 16) (s : State), s.tb.gclk = true → s.cfg = .full → ∃ t, exec (.contributionFence id) s = .next t ∧
    t.assayer.fenceWindow = s.assayer.fenceWindow + 1 ∧ t.assayer.openFailed = 0 ∧ t.assayer.openUnassayed = 0 ∧
    (∀ p ∈ t.assayer.entries, p.2.window = s.assayer.fenceWindow → p.2.fence = some id.toNat) ∧
    (16 ≤ s.assayer.fences.length → t.assayer.fences = s.assayer.fences ∧ t.assayer.status = fenceStatus id.toNat 3 0
      (natOfBool s.degraded) (t.unresolved s.assayer.fenceWindow) s.assayer.openFailed s.assayer.openUnassayed) ∧
    (s.assayer.fences.length < 16 → s.flag 0x6000 7 = true → t.assayer.status = s.assayer.status ∧
      t.assayer.fences = s.assayer.fences ++ [
        ⟨id.toNat, s.assayer.fenceWindow, s.assayer.openFailed, s.assayer.openUnassayed⟩]) ∧
    (s.assayer.fences.length < 16 → s.flag 0x6000 7 = false → t.assayer.fences = s.assayer.fences ∧
      t.assayer.status = fenceStatus id.toNat 0 (natOfBool (t.unresolved s.assayer.fenceWindow = 0))
        (natOfBool s.degraded) (t.unresolved s.assayer.fenceWindow) s.assayer.openFailed s.assayer.openUnassayed) ∧
    t = { s with assayer := t.assayer, od := t.od }) ∧
  (∀ (f : Fence) (s : State), s.assayer.fences.find? (fun f => s.unresolved f.window = 0) = some f →
    ∃ t, exec .fenceAnswer s = .next t ∧ t.assayer = { s.assayer with
        fences := s.assayer.fences.filter (· != f)
        status := fenceStatus f.id 1 1 (natOfBool s.degraded) 0 f.failed f.unassayed } ∧
      t.obj 0x6001 0x0F = min (s.obj 0x6001 0x0F + 1) 0xFFFFFFFF ∧
      t = { s with assayer := t.assayer, od := t.od }) ∧
  (∀ (id : BitVec 16) (s : State), s.tb.gclk = false → exec (.contributionFence id) s = .next s) ∧
  ∀ s : State, s.assayer.fences.find? (fun f => s.unresolved f.window = 0) = none → exec .fenceAnswer s = .next s

/-- KNOWN_ANSWER_TIMEOUT of a request out comes to its limit; with nothing left to send the request is resolved as not run
and counted, and nothing else changes but the Assayer and counters. KNOWN_ANSWER_RUN_END of a run that is over and no
sweep's: its status is 2 and it is not active. SWEEP_SETTLE_END of a running sweep that settles: the settle time of
the step has ended, at that time. SWEEP_STEP_COMPLETE of a running sweep with its run over: the run is no longer
active; past the sweep's time limit the sweep ends with trim 0 on its rail; otherwise it ends so or goes 5 mV further
with a new settle time. It changes else only rails, poison, counters, pins, recorder, interrupts and events. In any
other condition each does nothing. -/
def Obligations.AssayRuns : Prop :=
  (∀ (a i u : Nat) (s : State), s.assayer.run.out.find? (fun o => o.1 == a && o.2.1 == i) = some (a, i, u) →
    ∃ t, exec (.knownAnswerTimeout a i) s = .next t ∧ t.tb.now = max s.tb.now (u + s.cyc (0x6300 + i) 5) ∧
      (s.assayer.run.todo = [] → t.obj 0x6003 7 = min (s.obj 0x6003 7 + 1) 0xFFFFFFFF ∧
        t.assayer.run.out = s.assayer.run.out.filter (fun o => !(o.1 == a && o.2.1 == i)) ∧
        t = { s with tb := { s.tb with now := t.tb.now }, assayer := t.assayer, od := t.od })) ∧
  (∀ s : State, s.assayer.run.over = true → s.assayer.run.sweep = false → ∃ t, exec .knownAnswerRunEnd s = .next t ∧
    Noted t { s with assayer := { s.assayer with run := { s.assayer.run with status := 2, active := false } } }) ∧
  (∀ (u : Nat) (s : State), s.assayer.sweep.settleEnd = some u → s.assayer.sweep.status = 1 →
    ∃ t, exec .sweepSettleEnd s = .next t ∧ t.tb.now = max s.tb.now u ∧ t.assayer.sweep.settleEnd = none) ∧
  (∀ s : State, s.assayer.sweep.status = 1 → s.assayer.sweep.settleEnd = none → s.assayer.run.sweep = true →
    s.assayer.run.over = true → ∃ t, exec .sweepStepComplete s = .next t ∧ t.assayer.run.active = false ∧
      ((t.assayer.sweep.status = 2 ∧ t.assayer.sweep.trim = 0 ∧ (t.rail s.assayer.sweep.rail).avs = 0) ∨
        (t.assayer.sweep.status = 1 ∧ t.assayer.sweep.trim = s.assayer.sweep.trim + 80 ∧
          t.assayer.sweep.settleEnd = some (s.tb.now + s.cyc 0x6002 4) ∧
          (t.rail s.assayer.sweep.rail).avs = s.assayer.sweep.trim + 80 ∧
          s.tb.now - s.assayer.sweep.start ≤ s.cyc 0x6002 5)) ∧
      Noted t { s with assayer := t.assayer, rails := t.rails, poison := t.poison }) ∧
  (∀ (a i : Nat) (s : State), s.assayer.run.out.find? (fun o => o.1 == a && o.2.1 == i) = none →
    exec (.knownAnswerTimeout a i) s = .next s) ∧
  (∀ s : State, (s.assayer.run.over = false ∨ s.assayer.run.sweep = true) → exec .knownAnswerRunEnd s = .next s) ∧
  (∀ s : State, (s.assayer.sweep.settleEnd = none ∨ s.assayer.sweep.status ≠ 1) → exec .sweepSettleEnd s = .next s) ∧
  ∀ s : State, (s.assayer.sweep.status ≠ 1 ∨ s.assayer.run.over = false) → exec .sweepStepComplete s = .next s

/-- Accepted writes. LANE_REARM of a FAULTED or BLIND lane: COLD with no cause. AVS_TRIM_REQUEST and
DROOP_THRESHOLD_WRITE: the object holds the value, and nothing else changes but counters, the answer and the time of
last use. TAP_REARM of a MASKED tap with pin 20 calm: SENSE or UNASSIGNED where it is in no group, VALID in a domain
with power-good, else IDLE, its suspect count 0; no other tap changes, and beside droop state and learning only
counters, pins, recorder, interrupts, events and the answer. QUANTUM_WRITE: the object holds the value and every array
and ring balance and filler allotment is 0. -/
def Obligations.LaneTapAndCreditWrites : Prop :=
  (∀ (sess n : Nat) (s : State), n < 96 → s.accepts sess (0x2100 + n) 0x11 1 →
    ((s.lane n).st = .faulted ∨ (s.lane n).st = .blind) → ∃ t, exec (.laneRearm sess n 1) s = .next t ∧
      (t.lane n).st = .cold ∧ (t.lane n).cause = 0 ∧ Spares t { s with answer := t.answer }) ∧
  (∀ (sess r v : Nat) (s : State), r < 8 → s.accepts sess (0x2200 + r) 0x0A v →
    ∃ t, exec (.avsTrimRequest sess r v) s = .next t ∧ t.obj (0x2200 + r) 0x0A = v ∧ Answered t s.touch) ∧
  (∀ (sess n : Nat) (s : State), n < 512 → s.accepts sess (0x2500 + n) 7 1 → (s.tap n).st = .masked → s.calm 20 →
    ∃ t, exec (.tapRearm sess n 1) s = .next t ∧ (t.tap n).suspect = 0 ∧
      (t.tap n).st = (if s.tapGroup n = 0xFE then .sense else if s.tapGroup n = 0xFF then .unassigned
        else if s.tapDomain n < 32 ∧ (s.domain (s.tapDomain n)).good = true then .valid else .idle) ∧
      (∀ k, k ≠ n → t.tap k = s.tap k) ∧
      Noted t { s.touch with taps := t.taps, droops := t.droops, tally := t.tally, answer := t.answer }) ∧
  (∀ (sess g k v : Nat) (s : State), g < 64 → 6 ≤ k → k ≤ 0x1D → s.accepts sess (0x2440 + g) k v →
    ∃ t, exec (.droopThresholdWrite sess g k v) s = .next t ∧ t.obj (0x2440 + g) k = v ∧ Answered t s.touch) ∧
  ∀ (sess v : Nat) (s : State), s.accepts sess 0x2800 1 v → ∃ t, exec (.quantumWrite sess v) s = .next t ∧
    t.obj 0x2800 1 = v ∧ (∀ a, (t.array a).bal = 0 ∧ (t.array a).fil = 0) ∧ (∀ k, (t.ring k).bal = 0) ∧
    t = { s.touch with arrays := t.arrays, rings := t.rings, od := t.od, answer := t.answer }

/-- Accepted writes. SIGNATURE_ENTRY_WRITE: the entry at the index of 0x2C03:01 takes the value, after the updates of the
C-frame due by then; where none is left to make, nothing else changes but the place in their list and what an accepted
write changes. PROGRAM_LOAD_DATA: the bytes stand in the inactive bank from the offset of 0x2C08:03, offset 0 begins a
new image, and the load status is 1. PROGRAM_ACTIVATE: an image the checks pass is pending with status 2; any other is
refused with its code, which is then the load status. CLEAR_STICKY_FLAGS clears 0x2C08:09. Nothing else changes but
poison at a load, counters, pins, recorder, interrupts, events, the answer and the time of last use. -/
def Obligations.TallyWrites : Prop :=
  (∀ (sess : Nat) (v : W64) (s : State), s.accepts sess 0x2C03 2 v.toNat →
    ∃ t, exec (.signatureEntryWrite sess v) s = .next t ∧ tget t.tally.sigs (s.obj 0x2C03 1) 0 = v ∧
      Spares t { s with answer := t.answer } ∧ (s.tally.fits = [] → Answered t { s.touch with
        tally := { s.tally with sigs := tset s.tally.sigs (s.obj 0x2C03 1) v, fitDone := t.tally.fitDone }
        poison := t.poison })) ∧
  (∀ (sess : Nat) (bs : List Byte) (s : State), s.acceptsBytes sess 0x2C08 4 bs →
    ∃ t, exec (.programLoadData sess bs) s = .next t ∧ t.tally.loadStatus = 1 ∧
      t.bank s.tally.inactive = {
        bytes := mwriteBytes (if s.obj 0x2C08 3 = 0 then [] else (s.bank s.tally.inactive).bytes) (s.obj 0x2C08 3) bs
        loaded := max (if s.obj 0x2C08 3 = 0 then 0 else (s.bank s.tally.inactive).loaded)
          (s.obj 0x2C08 3 + bs.length) } ∧
      Noted t { s.touch with tally := t.tally, poison := t.poison, answer := t.answer }) ∧
  (∀ (sess : Nat) (s : State), s.accepts sess 0x2C08 5 1 → ∃ t, exec (.programActivate sess 1) s = .next t ∧
    t.tally = { s.tally with
      activate := s.tally.activate || (s.programRefusal == 0)
      loadStatus := if s.programRefusal = 0 then 2 else s.programRefusal } ∧ t.answer.code = s.programRefusal ∧
    Noted t { s.touch with tally := t.tally, answer := t.answer }) ∧
  ∀ (sess : Nat) (s : State), s.accepts sess 0x2C08 0x0A 1 → ∃ t, exec (.clearStickyFlags sess 1) s = .next t ∧
    Answered t { s.touch with tally := { s.tally with sticky := 0 } }

/-- Accepted writes. COEFFICIENT_COMMIT: the commit is pending with status 1, and no other instance changes.
INJECTION_START: the injector waits with the delay and frequency of its objects. INJECTION_STOP of a waiting or
running injection: status 4, and it is stopping. CAPTURE_ARM: an empty capture with no poison, status 2 where no
samples before the trigger are asked for and 1 otherwise. CAPTURE_FORCE_TRIGGER of a capture that waits for its
trigger: status 3 with the C-frame of the trigger. CAPTURE_STOP of a capture under way: status 4 with the samples
kept. Nothing else changes but counters, the answer and the time of last use, and at INJECTION_STOP pins, recorder,
interrupts and events. -/
def Obligations.LoopWrites : Prop :=
  (∀ (sess i : Nat) (s : State), i < 160 → s.accepts sess (0x4100 + i) 0x0C 1 →
    ∃ t, exec (.coefficientCommit sess i 1) s = .next t ∧ t.law i = { s.law i with pending := true, status := 1 } ∧
      (∀ k, k ≠ i → t.law k = s.law k) ∧ Answered t { s.touch with laws := t.laws }) ∧
  (∀ (sess : Nat) (s : State), s.accepts sess 0x4001 0x0C 1 → ∃ t, exec (.injectionStart sess) s = .next t ∧
    Answered t { s.touch with injector := { status := 1, delay := s.obj 0x4001 5, f := s.obj 0x4001 7, x := s.injector.x } }) ∧
  (∀ (sess : Nat) (s : State), s.accepts sess 0x4001 0x0C 2 → (s.injector.status = 1 ∨ s.injector.status = 2) →
    ∃ t, exec (.injectionStop sess) s = .next t ∧ t.injector = { s.injector with status := 4, stopping := true } ∧
      Noted t { s.touch with injector := t.injector, answer := t.answer }) ∧
  (∀ (sess : Nat) (s : State), s.accepts sess 0x4002 0x0A 1 → ∃ t, exec (.captureArm sess) s = .next t ∧
    Answered t { s.touch with capture := { status := if s.obj 0x4002 9 = 0 then 2 else 1 }, poison := t.poison } ∧
    (∀ k, t.poisoned .capture k = false)) ∧
  (∀ (sess : Nat) (s : State), s.accepts sess 0x4002 0x0A 2 → (s.capture.status = 1 ∨ s.capture.status = 2) →
    s.capture.seen = false → ∃ t, exec (.captureForceTrigger sess) s = .next t ∧
      Answered t { s.touch with capture := { s.capture with seen := true, status := 3, trigC := s.tb.cframe } }) ∧
  ∀ (sess : Nat) (s : State), s.accepts sess 0x4002 0x0A 3 → 1 ≤ s.capture.status → s.capture.status ≤ 3 →
    ∃ t, exec (.captureStop sess) s = .next t ∧ t.capture.status = 4 ∧ t.capture.samples = s.capture.samples ∧
      Answered t { s.touch with capture := t.capture }

/-- Accepted commands of 0x3400:08; each leaves the command status 0. POWER_ON from STANDBY with a rail to sequence:
SEQUENCING from the lowest position, waiting for the stage supply. POWER_OFF with a used domain ON: SEQUENCING down,
gating, host_rel low. METER_ON: RUN, metering from the next C-frame tick. METER_OFF with no assay held: READY, or SAFE
at once while a SAFE-level pin stands latched, the queue and the slots of the Tally empty. RESUME with no assay held:
READY. SERVICE_ENTER: SERVICE. SERVICE_EXIT with argument 1 and no assay held: READY or SAFE as METER_OFF; with
argument 0, every used domain OFF or FAULTED and no rail left: STANDBY. SOFT_RESET: BOOT with GCLK stopped, pins and
lanes empty, the Vitrine, dumps and trip latch kept, and no command lost from the queue. -/
def Obligations.StateCommands : Prop :=
  (∀ (sess p : Nat) (s : State), s.accepts sess 0x3400 8 1 → s.gov.st = .standby → s.nextPosition none = some p →
    ∃ t, exec (.powerOn sess) s = .next t ∧ t.gov.st = .sequencing ∧ t.gov.prev = .standby ∧ t.gov.phase = .supply ∧
      t.gov.seqPos = p ∧ t.gov.seqStart = s.tb.now ∧ t.gov.cmdStatus = 0 ∧ Spares t { s with answer := t.answer }) ∧
  (∀ (sess d : Nat) (s : State), s.accepts sess 0x3400 8 2 → d ∈ s.domainsUsed → (s.domain d).st = .on →
    ∃ t, exec (.powerOff sess) s = .next t ∧ t.gov.st = .sequencing ∧ t.gov.phase = .gating ∧ t.gov.seqDown = true ∧
      t.gov.hostRel = false ∧ t.gov.cmdStatus = 0) ∧
  (∀ (sess : Nat) (s : State), s.accepts sess 0x3400 8 3 → ∃ t, exec (.meterOn sess) s = .next t ∧ t.gov.st = .run ∧
    t.gov.prev = .ready ∧ t.gov.meterWait = true ∧ t.gov.entered = s.tb.now ∧ t.gov.cmdStatus = 0 ∧ Spares t { s with answer := t.answer }) ∧
  (∀ (sess : Nat) (s : State), s.accepts sess 0x3400 8 4 → s.assayer.entries = [] →
    ∃ t, exec (.meterOff sess) s = .next t ∧ t.gov.st = (if s.safeLatched then .safe else .ready) ∧
      t.gov.hostRel = true ∧ t.gov.cmdStatus = 0 ∧ t.tally.queue = [] ∧ t.tally.slots = [] ∧ Spares t { s with answer := t.answer }) ∧
  (∀ (sess : Nat) (s : State), s.accepts sess 0x3400 8 5 → s.assayer.entries = [] →
    ∃ t, exec (.resume sess) s = .next t ∧ t.gov.st = .ready ∧ t.gov.prev = .safe ∧ t.gov.hostRel = true ∧
      t.gov.cmdStatus = 0 ∧ Spares t { s with answer := t.answer }) ∧
  (∀ (sess : Nat) (s : State), s.accepts sess 0x3400 8 6 → ∃ t, exec (.serviceEnter sess) s = .next t ∧
    t.gov.st = .service ∧ t.gov.prev = s.gov.st ∧ t.gov.entered = s.tb.now ∧ t.gov.cmdStatus = 0 ∧ Spares t { s with answer := t.answer }) ∧
  (∀ (sess : Nat) (s : State), s.accepts sess 0x3400 9 1 → ((s.touch.setObj 0x3400 9 1).wrote).admits sess 0x3400 8 7 →
    s.assayer.entries = [] → ∃ t, exec (.serviceExit sess 1) s = .next t ∧ t.gov.hostRel = true ∧
      t.gov.st = (if s.safeLatched then .safe else .ready) ∧ t.gov.cmdStatus = 0) ∧
  (∀ (sess : Nat) (s : State), s.accepts sess 0x3400 9 0 → ((s.touch.setObj 0x3400 9 0).wrote).admits sess 0x3400 8 7 →
    (∀ d, (s.domain d).st = .off ∨ (s.domain d).st = .unused ∨ (s.domain d).st = .faulted) →
    (∀ d ∈ s.domainsUsed, (s.domain d).st ≠ .unused) → s.railsLeft = [] →
    ∃ t, exec (.serviceExit sess 0) s = .next t ∧ t.gov.st = .standby ∧ t.gov.prev = .service ∧ t.gov.cmdStatus = 0) ∧
  ∀ (sess : Nat) (s : State), s.accepts sess 0x3400 8 8 → ∃ t, exec (.softReset sess) s = .next t ∧ t.gov.st = .boot ∧
    t.gov.prev = s.gov.st ∧ t.tb.gclk = false ∧ t.tb.now = s.tb.now ∧ t.gov.tripLatch = s.gov.tripLatch ∧ t.recorder.vitrine = s.recorder.vitrine ∧ t.dumps = s.dumps ∧
    t.pins = [] ∧ t.lanes = [] ∧ t.pending = s.pending

/-- Accepted writes. RELEASE_QUARANTINE of a quarantined array: released, its cause and lost votes cleared, no other array
changed. PEER_REPORT in NW-OXG4-F: counted in 0x6004:02, and with pin 51 calm the pin is latched and nothing else
changes but what notes and the answer. KNOWN_ANSWER_START with no poison: an active run with status 1, its counts of
passes and failures 0. KNOWN_ANSWER_STOP of an active run that is no sweep's: the run ends with status 3 and nothing
pending. SWEEP_START: a sweep of the selected rail from this instant at trim 0 in its settle time. SWEEP_STOP of a
running sweep: status 3 with trim 0 on the rail and no settle time. Each changes else only what its clause names. -/
def Obligations.AssayWrites : Prop :=
  (∀ (sess a : Nat) (s : State), a < 256 → s.accepts sess (0x6010 + a) 9 1 → s.quarantined a = true →
    ∃ t, exec (.releaseQuarantine sess a 1) s = .next t ∧ t.quarantined a = false ∧
      (∀ k, k ≠ a → t.array k = s.array k) ∧ t.assayer = { s.assayer with
        qcause := tset s.assayer.qcause a 0, lost := tset s.assayer.lost a [] } ∧
      Noted t { s.touch with arrays := t.arrays, assayer := t.assayer, answer := t.answer }) ∧
  (∀ (sess : Nat) (w : W64) (s : State), s.accepts sess 0x6004 1 w.toNat → s.cfg = .full →
    ∃ t, exec (.peerReport sess w) s = .next t ∧ t.obj 0x6004 2 = min (s.obj 0x6004 2 + 1) 0xFFFFFFFF ∧
      Spares t { s with answer := t.answer } ∧
      (s.calm 51 → (t.pin 51).latched = true ∧ Noted t { s.touch with answer := t.answer })) ∧
  (∀ (sess : Nat) (s : State), s.accepts sess 0x6003 3 1 → s.poison = [] →
    ∃ t, exec (.knownAnswerStart sess) s = .next t ∧ t.assayer.run.active = true ∧ t.assayer.run.status = 1 ∧
      t.assayer.run.sweep = false ∧ t.obj 0x6003 5 = 0 ∧ t.obj 0x6003 6 = 0 ∧
      t = { s.touch with assayer := t.assayer, od := t.od, answer := t.answer }) ∧
  (∀ (sess : Nat) (s : State), s.accepts sess 0x6003 3 2 → s.assayer.run.active = true → s.assayer.run.sweep = false →
    ∃ t, exec (.knownAnswerStop sess) s = .next t ∧ t.assayer = { s.assayer with
        run := { s.assayer.run with status := 3, active := false, todo := [], out := [] } } ∧
      Noted t { s.touch with assayer := t.assayer, answer := t.answer }) ∧
  (∀ (sess : Nat) (s : State), s.accepts sess 0x6002 2 1 → ∃ t, exec (.sweepStart sess) s = .next t ∧
    t.assayer.sweep.status = 1 ∧ t.assayer.sweep.start = s.tb.now ∧ t.assayer.sweep.rail = s.obj 0x6002 1 ∧
    t.assayer.sweep.trim = 0 ∧ t.assayer.sweep.settleEnd = some (s.tb.now + s.cyc 0x6002 4) ∧
    (t.rail (s.obj 0x6002 1)).avs = 0 ∧
    t = { s.touch with assayer := t.assayer, rails := t.rails, od := t.od, answer := t.answer }) ∧
  ∀ (sess : Nat) (s : State), s.accepts sess 0x6002 2 2 → s.assayer.sweep.status = 1 →
    ∃ t, exec (.sweepStop sess) s = .next t ∧ t.assayer.sweep.status = 3 ∧ t.assayer.sweep.trim = 0 ∧
      t.assayer.sweep.settleEnd = none ∧ (t.rail s.assayer.sweep.rail).avs = 0 ∧
      Noted t { s.touch with assayer := t.assayer, rails := t.rails, answer := t.answer }

/-- Accepted writes. FAULT_ACKNOWLEDGE of pins with no held cause: every written latched pin is cleared to its programmed
level with no scope, every other pin is unchanged. Of one latched pin programmed below SAFE whose cause is held: it
stands latched at its programmed level, its causes kept, counted in its subindex 08, and no other pin changes.
DAYBOOK_CLEAR: the first valid record follows the head. VITRINE_CLEAR: it is empty, with no poison in it.
DUMP_RELEASE: the area is empty and being cleared. TIME_SET, where both its writes are accepted: the time base, the
quality and the instant of the last set are those of this set. Nothing else changes but what notes, the answer and the
time of last use; of TIME_SET, no unit that the shared frame names. -/
def Obligations.RecordWrites : Prop :=
  (∀ (sess : Nat) (w : W64) (s : State), s.accepts sess 0x5000 1 w.toNat →
    (∀ n < 64, w.getLsbD n = true → (s.pin n).held = []) → ∃ t, exec (.faultAcknowledge sess w) s = .next t ∧
      (∀ n < 64, t.pin n = if w.getLsbD n && (s.pin n).latched then
        { s.pin n with latched := false, eff := s.obj (0x5010 + n) 2, scope := 0 } else s.pin n) ∧
      Noted t { s.touch with answer := t.answer }) ∧
  (∀ (sess n : Nat) (w : W64) (s : State), s.accepts sess 0x5000 1 w.toNat → n < 64 →
    (∀ k < 64, w.getLsbD k = decide (k = n)) → (s.pin n).latched = true → (s.pin n).held ≠ [] →
    s.obj (0x5010 + n) 2 < 3 → ∃ t, exec (.faultAcknowledge sess w) s = .next t ∧ (t.pin n).latched = true ∧
      (t.pin n).eff = s.obj (0x5010 + n) 2 ∧ (t.pin n).held = (s.pin n).held ∧
      t.obj (0x5010 + n) 8 = min (s.obj (0x5010 + n) 8 + 1) 0xFFFFFFFF ∧
      (∀ k, k ≠ n → t.pin k = s.pin k) ∧ Noted t { s.touch with answer := t.answer }) ∧
  (∀ (sess : Nat) (s : State), s.accepts sess 0x5400 7 1 → ∃ t, exec (.daybookClear sess 1) s = .next t ∧
    Answered t { s.touch with recorder := { s.recorder with first := s.recorder.head + 1 } }) ∧
  (∀ (sess : Nat) (s : State), s.accepts sess 0x5400 8 1 → ∃ t, exec (.vitrineClear sess 1) s = .next t ∧
    Answered t { s.touch with
        recorder := { s.recorder with vitrine := [], copying := false }
        poison := s.poison.filter (fun p => p.1 != .vitrine) }) ∧
  (∀ (sess c : Nat) (s : State), c < 4 → s.accepts sess (0x5410 + c) 2 1 →
    ∃ t, exec (.dumpRelease sess c 1) s = .next t ∧
      Answered t { s.touch with dumps := tset s.dumps c { clearing := true } }) ∧
  ∀ (sess q : Nat) (v : W64) (s : State), s.accepts sess 0x1300 3 v.toNat → q < 256 →
    ((s.touch.setObj 0x1300 3 v.toNat).wrote).admits sess 0x1300 4 q →
    ∃ t, exec (.timeSet sess v q) s = .next t ∧ t.clock.base = v.toNat - s.sinceBase ∧ t.clock.quality = q ∧
      t.clock.lastSet = s.tb.now ∧ Spares t { s with clock := t.clock, answer := t.answer }

/-- Accepted writes. UPDATE_TARGET: the target with status 1 and an empty inactive bank. UPDATE_LOAD_DATA: the bytes stand
in that bank from the offset of 0x7420:02, status 1. UPDATE_VERIFY: status 2 where the loaded image passes, else the
abort code, which the answer also gives. UPDATE_ACTIVATE: status 3. UPDATE_ABORT: status 0 and an empty bank.
RELEASE_HOLD of a held core: it restarts at this instant. No other core changes; at UPDATE_VERIFY the statement says
of cores nothing. -/
def Obligations.FirmwareWrites : Prop :=
  (∀ (sess c : Nat) (s : State), s.accepts sess 0x7420 1 c → ∃ t, exec (.updateTarget sess c) s = .next t ∧
    t.update = { s.update with target := c, status := 1 } ∧ t.updateBank = {} ∧ t.obj 0x7420 1 = c ∧
    (∀ k, k ≠ c → t.core k = s.core k) ∧
    Answered t { s.touch with update := t.update, cores := t.cores }) ∧
  (∀ (sess : Nat) (bs : List Byte) (s : State), s.acceptsBytes sess 0x7420 3 bs →
    ∃ t, exec (.updateLoadData sess bs) s = .next t ∧ t.update = { s.update with status := 1 } ∧
      t.updateBank.bytes = mwriteBytes s.updateBank.bytes (s.obj 0x7420 2) bs ∧
      t.updateBank.loaded = max s.updateBank.loaded (s.obj 0x7420 2 + bs.length) ∧
      (∀ k, k ≠ s.update.target → t.core k = s.core k) ∧
      Answered t { s.touch with update := t.update, cores := t.cores }) ∧
  (∀ (sess : Nat) (s : State), s.accepts sess 0x7420 4 1 → ∃ t, exec (.updateVerify sess) s = .next t ∧
    t.answer.code = s.imageRefusal s.update.target s.updateBank.image ∧
    t.update = { s.update with status := if t.answer.code = 0 then 2 else t.answer.code } ∧
    Spares t { s with update := t.update, cores := t.cores, answer := t.answer }) ∧
  (∀ (sess : Nat) (s : State), s.accepts sess 0x7420 4 2 → ∃ t, exec (.updateActivate sess) s = .next t ∧
    Answered t { s.touch with update := { s.update with status := 3 } }) ∧
  (∀ (sess : Nat) (s : State), s.accepts sess 0x7420 4 3 → ∃ t, exec (.updateAbort sess) s = .next t ∧
    t.update = { s.update with status := 0 } ∧ t.updateBank = {} ∧
    Answered t { s.touch with update := t.update, cores := t.cores }) ∧
  ∀ (sess c : Nat) (s : State), c < 4 → s.accepts sess (0x7410 + c) 0x0A 1 → (s.core c).st = .held →
    ∃ t, exec (.releaseHold sess c 1) s = .next t ∧
      t.core c = { s.core c with st := .restarting, trapAt := s.tb.now } ∧
      (∀ k, k ≠ c → t.core k = s.core k) ∧ Answered t { s.touch with cores := t.cores }

/-- LOCK accepted: the session holds the lock of the index. UNLOCK accepted: nobody does. AUTH_CHALLENGE by a session that
may read the object: 16 bytes of the entropy source answered and kept for the session with this instant. AUTH_RESPONSE
accepted: while blocked it is refused with 0x0004_0002 and changes no authentication; the right answer to a live
challenge authenticates the session; any other uses the challenge up, is counted in 0x1420:06 and refused.
END_AUTHENTICATION accepted ends it. ATB_ROUTE puts the node of the word on the bus it names: by an accepted object
write, or with no session through the instrument network, for a word in range while the Governor is not OFF. -/
def Obligations.AccessWrites : Prop :=
  (∀ (sess i : Nat) (s : State), s.accepts sess 0x1410 1 i → ∃ t, exec (.lock sess i) s = .next t ∧
    t.locker i = some sess ∧ (∀ k, k ≠ i → t.locker k = s.locker k) ∧
    Answered t { s.touch with access := t.access }) ∧
  (∀ (sess i : Nat) (s : State), s.accepts sess 0x1410 2 i → ∃ t, exec (.unlock sess i) s = .next t ∧
    t.locker i = none ∧ (∀ k, k ≠ i → t.locker k = s.locker k) ∧ Answered t { s.touch with access := t.access }) ∧
  (∀ (sess : Nat) (s : State), s.presents sess = true → s.touch.readCode sess 0x1420 1 0 0 = 0 →
    ∃ t, exec (.authChallenge sess) s = .next t ∧ t.free = s.free + 1 ∧
      t.answer = { code := 0, data := bytesLE 16 (Free.challenge s.free).toNat } ∧
      t.access = { s.access with
        challenges := tset s.access.challenges sess { bytes := Free.challenge s.free, at_ := s.tb.now } } ∧
      Answered t { s.touch with free := t.free, access := t.access }) ∧
  (∀ (sess : Nat) (r : BitVec 256) (s : State), s.accepts sess 0x1420 2 r.toNat → s.blocked = true →
    ∃ t, exec (.authResponse sess r) s = .next t ∧ t.answer.code = 0x00040002 ∧ Answered t s.touch) ∧
  (∀ (sess : Nat) (r : BitVec 256) (c : Challenge) (s : State), s.accepts sess 0x1420 2 r.toNat → s.blocked = false →
    s.liveChallenge sess = some c → r = Free.response s.test.fused.key c.bytes sess s.test.fused.serial →
    ∃ t, exec (.authResponse sess r) s = .next t ∧ t.authenticated sess = true ∧ t.answer.code = 0 ∧
      t.access.challenges = tdel s.access.challenges sess ∧ Answered t { s.touch with access := t.access }) ∧
  (∀ (sess : Nat) (r : BitVec 256) (s : State), s.accepts sess 0x1420 2 r.toNat → s.blocked = false →
    (∀ c, s.liveChallenge sess = some c → r ≠ Free.response s.test.fused.key c.bytes sess s.test.fused.serial) →
    ∃ t, exec (.authResponse sess r) s = .next t ∧ t.answer.code = 0x00040002 ∧
      t.obj 0x1420 6 = min (s.obj 0x1420 6 + 1) 0xFFFFFFFF ∧ t.access.authed = s.access.authed ∧
      t.access.challenges = tdel s.access.challenges sess ∧
      Spares t { s with access := t.access, answer := t.answer }) ∧
  (∀ (sess : Nat) (s : State), s.accepts sess 0x1420 4 1 → ∃ t, exec (.endAuthentication sess 1) s = .next t ∧
    t.authenticated sess = false ∧ (∀ k, k ≠ sess → t.authenticated k = s.authenticated k) ∧
    Answered t { s.touch with access := t.access }) ∧
  (∀ (sess : Nat) (w : BitVec 16) (s : State), s.accepts sess 0xF000 3 w.toNat →
    ∃ t, exec (.atbRoute (some sess) w) s = .next t ∧ t.test.atb = w ∧
      Answered t { s.touch with test := (s.routeAtb w).test }) ∧
  ∀ (w : BitVec 16) (s : State), s.gov.st ≠ .off → s.atbOut w = false → exec (.atbRoute none w) s = .next { s with
    test := { s.test with
      atb := w
      atbA := if w.getLsbD 15 then s.test.atbA else if bits w.toNat 14 12 = 0 then 0 else w
      atbB := if w.getLsbD 15 then (if bits w.toNat 14 12 = 0 then 0 else w) else s.test.atbB } }

/-- An accepted write of a value other than 1 to a re-arm, commit, clear or release object changes nothing but the time of
last use, the count of writes and the answer. A write of the quantum that is refused answers its abort code, empty,
keeps the quantum and changes nothing but counters and the time of last use; POWER_ON refused by state answers
0x0004_0001, leaves it in the command status and is counted in 0x3400:0B. A write of the quantum by a session that can
present no access does nothing. -/
def Obligations.WritesWithoutEffect : Prop :=
  (∀ (sess n v : Nat) (s : State), v ≠ 1 →
    (n < 96 → s.accepts sess (0x2100 + n) 0x11 v → exec (.laneRearm sess n v) s = .next s.touch.wrote) ∧
    (n < 512 → s.accepts sess (0x2500 + n) 7 v → exec (.tapRearm sess n v) s = .next s.touch.wrote) ∧
    (s.accepts sess (0x2C08) 0x0A v → exec (.clearStickyFlags sess v) s = .next s.touch.wrote) ∧
    (n < 160 → s.accepts sess (0x4100 + n) 0x0C v → exec (.coefficientCommit sess n v) s = .next s.touch.wrote) ∧
    (n < 288 → s.accepts sess (sensorObj n) 8 v → exec (.sensorRearm sess n v) s = .next s.touch.wrote) ∧
    (s.accepts sess (0x3008) 8 v → exec (.coolantUpdateCommit sess v) s = .next s.touch.wrote) ∧
    (n < 32 → s.accepts sess (0x3410 + n) 9 v → exec (.domainRearm sess n v) s = .next s.touch.wrote) ∧
    (n < 256 → s.accepts sess (0x6010 + n) 9 v → exec (.releaseQuarantine sess n v) s = .next s.touch.wrote) ∧
    (s.accepts sess (0x5400) 7 v → exec (.daybookClear sess v) s = .next s.touch.wrote) ∧
    (s.accepts sess (0x5400) 8 v → exec (.vitrineClear sess v) s = .next s.touch.wrote) ∧
    (n < 4 → s.accepts sess (0x5410 + n) 2 v → exec (.dumpRelease sess n v) s = .next s.touch.wrote) ∧
    (n < 4 → s.accepts sess (0x7410 + n) 0x0A v → exec (.releaseHold sess n v) s = .next s.touch.wrote) ∧
    (s.accepts sess (0x1420) 4 v → exec (.endAuthentication sess v) s = .next s.touch.wrote) ∧
    (s.accepts sess (0x2C08) 5 v → exec (.programActivate sess v) s = .next s.touch.wrote)) ∧
  (∀ (sess v : Nat) (s : State), s.presents sess = true → v < 2 ^ 32 → s.touch.writeCode sess 0x2800 1 v 4 0 ≠ 0 →
    ∃ t, exec (.quantumWrite sess v) s = .next t ∧
      t.answer = { code := s.touch.writeCode sess 0x2800 1 v 4 0, data := [] } ∧ t.obj 0x2800 1 = s.obj 0x2800 1 ∧
      Answered t s.touch) ∧
  (∀ (sess : Nat) (s : State), s.presents sess = true → s.touch.writeCode sess 0x3400 8 1 1 0 = 0x00040001 →
    ∃ t, exec (.powerOn sess) s = .next t ∧ t.answer = { code := 0x00040001, data := [] } ∧
      t.gov.cmdStatus = 0x00040001 ∧ t.obj 0x3400 0x0B = min (s.obj 0x3400 0x0B + 1) 0xFFFFFFFF ∧
      Spares t { s with answer := t.answer }) ∧
  ∀ (sess v : Nat) (s : State), s.presents sess = false → exec (.quantumWrite sess v) s = .next s

/-- FAULT_TRIGGER of an E-class pin that is reached, with no operation gathering triggers. Pin calm: it latches at its
programmed level with the scope of the trigger, the trigger counter advances, and only what notes changes. Latched,
with GCLK running, room in the event queue and a level that stays below SAFE: one level up to its limit, scopes
joined. With GCLK running and the pin not latched: programmed to TRIP, with the Governor neither OFF nor in TRIP, the
Governor is in TRIP with its latch set, host_rel low and no lane running; programmed to SAFE, from a state that goes
to SAFE and with room in the event queue, it is in SAFE. While GCLK is stopped a trigger of a pin other than 0 and 35
is kept. Of a D-class pin and of a pin not reached it does nothing. -/
def Obligations.FaultTriggers : Prop :=
  (∀ (n k i c : Nat) (pa : W64) (s : State), pinIsD n = false → k < 4 → s.pinReached n = true → s.calm n →
    ∃ t, exec (.faultTrigger n k i c pa) s = .next t ∧ t.pin n = { s.pin n with
        latched := true, eff := s.obj (0x5010 + n) 2, scope := maskOf (s.scopeRails k i) } ∧
      (∀ m, m ≠ n → t.pin m = s.pin m) ∧ t.obj (0x5010 + n) 0x0B = min (s.obj (0x5010 + n) 0x0B + 1) 0xFFFFFFFF ∧
      t.recorder.nextSeq = s.recorder.nextSeq + 1 ∧ Noted t s) ∧
  (∀ (n k i c : Nat) (pa : W64) (s : State), pinIsD n = false → k < 4 → n < 64 → s.pinReached n = true →
    s.gov.gathered = none → s.tb.gclk = true → s.events.length < 64 → (s.pin n).latched = true →
    max (s.pin n).eff (min ((s.pin n).eff + 1) (s.obj (0x5010 + n) 3)) < 3 →
    ∃ t, exec (.faultTrigger n k i c pa) s = .next t ∧ t.pin n = { s.pin n with
        eff := max (s.pin n).eff (min ((s.pin n).eff + 1) (s.obj (0x5010 + n) 3))
        scope := (s.pin n).scope ||| maskOf (s.scopeRails k i) } ∧
      (∀ m, m ≠ n → t.pin m = s.pin m) ∧ t.obj (0x5010 + n) 9 = min (s.obj (0x5010 + n) 9 + 1) 0xFFFFFFFF ∧ Noted t s) ∧
  (∀ (n k i c : Nat) (pa : W64) (s : State), pinIsD n = false → k < 4 → n < 64 → s.pinReached n = true →
    s.gov.gathered = none → s.tb.gclk = true → (s.pin n).latched = false → 4 ≤ s.obj (0x5010 + n) 2 → s.gov.st ≠ .off → s.gov.st ≠ .trip →
    ∃ t, exec (.faultTrigger n k i c pa) s = .next t ∧ t.gov.st = .trip ∧ t.gov.tripLatch = true ∧
      t.gov.hostRel = false ∧ (t.pin n).latched = true ∧ (∀ l < s.laneCount, (t.lane l).st.running = false) ∧
      Spares t s) ∧
  (∀ (n k i c : Nat) (pa : W64) (s : State), pinIsD n = false → k < 4 → n < 64 → s.pinReached n = true →
    s.gov.gathered = none → s.tb.gclk = true → s.events.length < 64 → (s.pin n).latched = false → s.obj (0x5010 + n) 2 = 3 →
    s.gov.st.toSafe = true → ∃ t, exec (.faultTrigger n k i c pa) s = .next t ∧ t.gov.st = .safe ∧
      t.gov.prev = s.gov.st ∧ (t.pin n).latched = true ∧ (t.pin n).eff = 3 ∧ Spares t s) ∧
  (∀ (n k i c : Nat) (pa : W64) (s : State), pinIsD n = false → k < 4 → n ≠ 0 → n ≠ 35 → s.pinReached n = true →
    s.gov.gathered = none → s.tb.gclk = false → exec (.faultTrigger n k i c pa) s = .next { s with gov := { s.gov with
      heldTriggers := s.gov.heldTriggers ++ [{ pin := n, kind := k, idx := i, cause := c, pa := pa.toNat }] } }) ∧
  (∀ (n k i c : Nat) (pa : W64) (s : State), pinIsD n = true → exec (.faultTrigger n k i c pa) s = .next s) ∧
  ∀ (n k i c : Nat) (pa : W64) (s : State), s.pinReached n = false → s.gov.gathered = none →
    exec (.faultTrigger n k i c pa) s = .next s

/-- D_CLASS_EVENT of a D-class pin that is reached: below the count N it only counts, within the open window or in a
window opened now; the event that reaches N on a calm pin within its window latches it at its programmed level and the
count is 0. Of an E-class pin and of a pin not reached it does nothing. D_CLASS_WINDOW_EXPIRY of a pin that counts:
the count is 0 at the end of the window; of one that does not, nothing. TRANSIENT_STROBE of a pin that is reached:
counted in its subindex 0A and in 0x5000:08, and nothing else; of one not reached, nothing. -/
def Obligations.DClassPins : Prop :=
  (∀ (n : Nat) (s : State), n < 64 → pinIsD n = true → s.pinReached n = true → (s.pin n).count ≠ 0 →
    s.tb.now ≤ (s.pin n).winEnd → (s.pin n).count + 1 < s.obj (0x5010 + n) 5 →
    ∃ t, exec (.dClassEvent n) s = .next t ∧ t.pins = tset s.pins n { s.pin n with count := (s.pin n).count + 1 } ∧
      t.obj (0x5010 + n) 0x0B = min (s.obj (0x5010 + n) 0x0B + 1) 0xFFFFFFFF ∧
      t = { s with pins := t.pins, od := t.od }) ∧
  (∀ (n : Nat) (s : State), n < 64 → pinIsD n = true → s.pinReached n = true →
    ((s.pin n).count = 0 ∨ (s.pin n).winEnd < s.tb.now) → 1 < s.obj (0x5010 + n) 5 →
    ∃ t, exec (.dClassEvent n) s = .next t ∧ t.pins = tset s.pins n { s.pin n with
        count := 1, winEnd := s.tb.now + cycles (s.obj (0x5010 + n) 6) } ∧
      t = { s with pins := t.pins, od := t.od }) ∧
  (∀ (n : Nat) (s : State), pinIsD n = true → s.pinReached n = true → s.calm n → (s.pin n).count ≠ 0 →
    s.tb.now ≤ (s.pin n).winEnd → (s.pin n).count + 1 = s.obj (0x5010 + n) 5 →
    ∃ t, exec (.dClassEvent n) s = .next t ∧ (t.pin n).latched = true ∧ (t.pin n).count = 0 ∧
      (t.pin n).eff = s.obj (0x5010 + n) 2 ∧ (∀ m, m ≠ n → t.pin m = s.pin m) ∧ Noted t s) ∧
  (∀ (n : Nat) (s : State), n < 64 → (s.pin n).count ≠ 0 → exec (.dClassWindowExpiry n) s = .next { s with
    tb := { s.tb with now := max s.tb.now (s.pin n).winEnd }, pins := tset s.pins n { s.pin n with count := 0 } }) ∧
  (∀ (n : Nat) (s : State), s.pinReached n = true → ∃ t, exec (.transientStrobe n) s = .next t ∧
    t.obj (0x5010 + n) 0x0A = min (s.obj (0x5010 + n) 0x0A + 1) 0xFFFFFFFF ∧
    t.obj 0x5000 8 = min (s.obj 0x5000 8 + 1) 0xFFFFFFFF ∧ t = { s with od := t.od }) ∧
  (∀ (n : Nat) (s : State), s.pinReached n = false → exec (.transientStrobe n) s = .next s ∧
    exec (.dClassEvent n) s = .next s) ∧
  (∀ (n : Nat) (s : State), pinIsD n = false → exec (.dClassEvent n) s = .next s) ∧
  ∀ (n : Nat) (s : State), (s.pin n).count = 0 → exec (.dClassWindowExpiry n) s = .next s

/-- RECORD_WRITE while GCLK runs, or while it does not outside BOOT and gov_rst_n: the oldest queued record leaves the
queue, stands in Daybook slot SEQ mod 8,192, and REC_HEAD is its SEQ; a record marked for the Vitrine that begins a
group follows into it where the group fits, else it is counted in 0x5400:05; an unmarked one does not. With no record
queued it does nothing. TIME_QUALITY_HOLD_EXPIRY with a quality of 2 or more comes to the end of the hold, and the
quality is 1; with a lower one it does nothing. DUMP_CLEAR_COMPLETE of an area being cleared: a capture that waited
takes the area, else the area is empty; of another it does nothing. -/
def Obligations.RecorderEvents : Prop :=
  (∀ (q : Queued) (rest : List Queued) (s : State),
    (s.tb.gclk = true ∨ (s.gov.booting = false ∧ s.gov.govRstLow = false)) → s.recorder.queue = q :: rest →
    ∃ t, exec .recordWrite s = .next t ∧ t.recorder.queue = rest ∧ t.recorder.head = q.record.seq ∧
      t.recorder.daybook = tset s.recorder.daybook (q.record.seq % 8192) q.record ∧
      (q.vitrine = false → t.recorder.vitrine = s.recorder.vitrine) ∧
      (q.vitrine = true → q.group ≠ 0 → s.recorder.vitrine.length + q.group ≤ 256 →
        t.recorder.vitrine = s.recorder.vitrine ++ [q.record]) ∧
      (q.vitrine = true → q.group ≠ 0 → 256 < s.recorder.vitrine.length + q.group →
        t.recorder.vitrine = s.recorder.vitrine ∧ t.obj 0x5400 5 = min (s.obj 0x5400 5 + 1) 0xFFFFFFFF) ∧
      t = { s with recorder := t.recorder, od := t.od, poison := t.poison }) ∧
  (∀ s : State, 2 ≤ s.clock.quality → exec .timeQualityHoldExpiry s = .next { s with
    tb := { s.tb with now := max s.tb.now (s.clock.lastSet + s.cyc 0x1300 5) }
    clock := { s.clock with quality := 1 } }) ∧
  (∀ (c : Nat) (s : State), c < 4 → (s.dump c).clearing = true → ∃ t, exec (.dumpClearComplete c) s = .next t ∧
    t.dumps = tset s.dumps c ((s.core c).dumpWaits.getD {}) ∧ t.core c = { s.core c with dumpWaits := none } ∧
      t = { s with dumps := t.dumps, cores := t.cores }) ∧
  (∀ s : State, s.recorder.queue = [] → exec .recordWrite s = .next s) ∧
  (∀ s : State, s.clock.quality < 2 → exec .timeQualityHoldExpiry s = .next s) ∧
  ∀ (c : Nat) (s : State), (s.dump c).clearing = false → exec (.dumpClearComplete c) s = .next s

/-- With GCLK running SIGNAL of a listed source sets its pending bit and is counted; of a pending source it is only
counted; of a number not listed it does nothing. With the ports up: DOORBELL makes a software source pending; a number
below 0x200 is only counted. CLAIM of a target by its own agent takes the offer: active for the target, in the claim
word, counted where it is spurious and otherwise no longer pending; by another agent it reads 0 and is counted.
COMPLETE ends the active condition of a source active for the target; a level source still asserted is then pending,
else the pending bits stay; any other completion is counted. With GCLK running WATCH_WAKE of a watched, pending source
wakes its dozing target and is counted; FALLBACK_OFFER of a source that waits, pending and not active, its target
asleep, its fallback awake, not watched and not yet moved, comes to 10,080 cycles after its wait began, moves the
offer to the fallback target and is counted. Nothing else changes but the interrupt controller, counters and, of
register accesses, the time of last use. -/
def Obligations.InterruptFlow : Prop :=
  (∀ (n : Nat) (s : State), s.tb.gclk = true → srcListed n = true → ∃ t, exec (.signal n) s = .next t ∧
    t.srcPending n = true ∧ (∀ m, m ≠ n → t.srcPending m = s.srcPending m) ∧
    t.obj 0x7480 1 = satU 64 (s.obj 0x7480 1 + 1) ∧ (s.srcPending n = true → t.icu = s.icu) ∧
    t = { s with icu := t.icu, od := t.od }) ∧
  (∀ (w : W64) (s : State), s.busUp → 0x200 ≤ bits w.toNat 9 0 → ∃ t, exec (.doorbell w) s = .next t ∧
    t.srcPending (bits w.toNat 9 0) = true ∧ t = { s.touch with icu := t.icu, od := t.od }) ∧
  (∀ (w : W64) (s : State), s.busUp → bits w.toNat 9 0 < 0x200 → ∃ t, exec (.doorbell w) s = .next t ∧
    t.obj 0x7480 3 = min (s.obj 0x7480 3 + 1) 0xFFFFFFFF ∧ t = { s.touch with od := t.od }) ∧
  (∀ (tt n : Nat) (s : State), s.busUp → tt < 6 → s.offer tt = some n →
    ∃ t, exec (.claim (targetAgent tt) tt) s = .next t ∧ t.srcActive n = some tt ∧
      t.icu.claimWord = claimOf n (s.srcCfg n).prio (srcLevel n && !s.asserted n) ∧ Spares t s ∧
      ((srcLevel n && !s.asserted n) = true → t.obj 0x7480 5 = min (s.obj 0x7480 5 + 1) 0xFFFFFFFF) ∧
      ((srcLevel n && !s.asserted n) = false → t.srcPending n = false ∧
        t = { s.touch with icu := t.icu, od := t.od })) ∧
  (∀ (a tt : Nat) (s : State), s.busUp → tt < 6 → targetAgent tt ≠ a → ∃ t, exec (.claim a tt) s = .next t ∧
    t.icu = { s.icu with claimWord := 0 } ∧ t.obj 0x7480 9 = min (s.obj 0x7480 9 + 1) 0xFFFFFFFF ∧
    t = { s.touch with icu := t.icu, od := t.od }) ∧
  (∀ (a tt : Nat) (w : W64) (s : State), s.busUp → a < 5 → tt < 6 → s.srcActive (bits w.toNat 9 0) = some tt →
    ∃ t, exec (.complete a tt w) s = .next t ∧ t.srcActive (bits w.toNat 9 0) = none ∧
      ((srcLevel (bits w.toNat 9 0) && s.asserted (bits w.toNat 9 0)) = true → t.srcPending (bits w.toNat 9 0) = true) ∧
      ((srcLevel (bits w.toNat 9 0) && s.asserted (bits w.toNat 9 0)) = false → t.icu.pend = s.icu.pend) ∧
      t = { s.touch with icu := t.icu, od := t.od }) ∧
  (∀ (a tt : Nat) (w : W64) (s : State), s.busUp → a < 5 → tt < 6 → s.srcActive (bits w.toNat 9 0) ≠ some tt →
    ∃ t, exec (.complete a tt w) s = .next t ∧ t.obj 0x7480 4 = min (s.obj 0x7480 4 + 1) 0xFFFFFFFF ∧
      t = { s.touch with od := t.od }) ∧
  (∀ (n : Nat) (s : State), s.tb.gclk = true → s.watched n = true → s.srcPending n = true → (s.srcCfg n).target < 6 →
    s.dozing (s.srcCfg n).target = true → ∃ t, exec (.watchWake n) s = .next t ∧
      (t.target (s.srcCfg n).target).sleep = false ∧ t.obj 0x7480 7 = min (s.obj 0x7480 7 + 1) 0xFFFFFFFF ∧
      t.icu.pend = s.icu.pend ∧ t = { s with icu := t.icu, od := t.od }) ∧
  (∀ (n u : Nat) (s : State), tget s.icu.waitSince n none = some u → s.tb.gclk = true → s.srcPending n = true →
    s.srcActive n = none → s.asleep (s.srcCfg n).target = true → (s.srcCfg n).fallback < 6 →
    s.asleep (s.srcCfg n).fallback = false → s.watched n = false → s.icu.fallen.contains n = false →
    ∃ t, exec (.fallbackOffer n) s = .next t ∧ t.offerTarget n = (s.srcCfg n).fallback ∧
      t.tb.now = max s.tb.now (u + 10080) ∧ t.obj 0x7480 8 = min (s.obj 0x7480 8 + 1) 0xFFFFFFFF ∧
      t = { s with tb := { s.tb with now := t.tb.now }, icu := t.icu, od := t.od }) ∧
  (∀ (n : Nat) (s : State), srcListed n = false → exec (.signal n) s = .next s) ∧
  (∀ (n : Nat) (s : State), ((s.srcPending n = false ∨ s.watched n = false) ∨ s.dozing (s.srcCfg n).target = false) →
    exec (.watchWake n) s = .next s) ∧
  ∀ (n : Nat) (s : State), (tget s.icu.waitSince n none = none ∨ s.srcPending n = false) →
    exec (.fallbackOffer n) s = .next s

/-- With the ports up and an index in range. PEND_SET, PEND_CLR, MASK_SET and MASK_CLR change only the listed sources
written as 1 in the word; a cleared level source still asserted is pending. ICU_PLAIN_WRITE gives every listed source
of the word its bit, a level source still asserted staying pending, or its 16-bit configuration. CONFIGURE_SOURCE
changes only the listed source it names. TARGET_CONFIG_WRITE sets threshold and SLEEP of the agent's own target, and
no other target changes; another agent's write is counted. WATCH_WRITE sets one entry. Nothing else changes but the
interrupt controller, the time of last use and, where the clause names them, counters. An index out of range does
nothing. -/
def Obligations.InterruptRegisters : Prop :=
  (∀ (i : Nat) (w : W64) (s : State), s.busUp → i < 16 → ∃ t, exec (.pendSet i w) s = .next t ∧
    (∀ n, t.srcPending n = (s.srcPending n || (srcListed n && n / 64 == i && w.getLsbD (n % 64)))) ∧
    t = { s.touch with icu := t.icu, od := t.od }) ∧
  (∀ (i : Nat) (w : W64) (s : State), s.busUp → i < 16 → ∃ t, exec (.pendClr i w) s = .next t ∧
    (∀ n, t.srcPending n = if srcListed n && n / 64 == i && w.getLsbD (n % 64) then srcLevel n && s.asserted n
      else s.srcPending n) ∧ t = { s.touch with icu := t.icu }) ∧
  (∀ (i : Nat) (w : W64) (s : State), s.busUp → i < 16 → ∃ t, exec (.maskSet i w) s = .next t ∧
    (∀ n, t.srcMasked n = (s.srcMasked n || (srcListed n && n / 64 == i && w.getLsbD (n % 64)))) ∧
    t = { s.touch with icu := { s.icu with mask := t.icu.mask } }) ∧
  (∀ (i : Nat) (w : W64) (s : State), s.busUp → i < 16 → ∃ t, exec (.maskClr i w) s = .next t ∧
    (∀ n, t.srcMasked n = (s.srcMasked n && !(srcListed n && n / 64 == i && w.getLsbD (n % 64)))) ∧
    t = { s.touch with icu := { s.icu with mask := t.icu.mask } }) ∧
  (∀ (i : Nat) (w : W64) (s : State), s.busUp → i < 16 → ∃ t, exec (.icuPlainWrite .pend i w) s = .next t ∧
    (∀ n, t.srcPending n = if srcListed n && n / 64 == i then w.getLsbD (n % 64) || (srcLevel n && s.asserted n)
      else s.srcPending n) ∧ t = { s.touch with icu := t.icu }) ∧
  (∀ (i : Nat) (w : W64) (s : State), s.busUp → i < 16 → ∃ t, exec (.icuPlainWrite .mask i w) s = .next t ∧
    (∀ n, t.srcMasked n = if srcListed n && n / 64 == i then w.getLsbD (n % 64) else s.srcMasked n) ∧
    t = { s.touch with icu := { s.icu with mask := t.icu.mask } }) ∧
  (∀ (i : Nat) (w : W64) (s : State), s.busUp → i < 256 → ∃ t, exec (.icuPlainWrite .cfg i w) s = .next t ∧
    (∀ n, t.srcCfg n = if srcListed n && n / 4 == i then cfgOf (bits w.toNat (16 * (n % 4) + 15) (16 * (n % 4)))
      else s.srcCfg n) ∧ t = { s.touch with icu := t.icu }) ∧
  (∀ (w : W64) (s : State), s.busUp → ∃ t, exec (.configureSource w) s = .next t ∧
    (∀ n, t.srcCfg n = if srcListed n && n == bits w.toNat 41 32 then cfgOf (bits w.toNat 15 0) else s.srcCfg n) ∧
    t = { s.touch with icu := t.icu }) ∧
  (∀ (k : Nat) (w : W64) (s : State), s.busUp → k < 6 → ∃ t, exec (.targetConfigWrite (targetAgent k) k w) s = .next t ∧
    t.target k = { thresh := bits w.toNat 5 4, sleep := w.getLsbD 0 } ∧ (∀ j, j ≠ k → t.target j = s.target j) ∧
    t = { s.touch with icu := t.icu }) ∧
  (∀ (a k : Nat) (w : W64) (s : State), s.busUp → k < 6 → targetAgent k ≠ a →
    ∃ t, exec (.targetConfigWrite a k w) s = .next t ∧ t.obj 0x7480 9 = min (s.obj 0x7480 9 + 1) 0xFFFFFFFF ∧
      t = { s.touch with od := t.od }) ∧
  (∀ (i : Nat) (w : W64) (s : State), s.busUp → i < 32 → exec (.watchWrite i w) s = .next { s.touch with
    icu := { s.icu with watch := tset s.icu.watch i (w &&& 0x80000000000003FF#64) } }) ∧
  (∀ (i : Nat) (w : W64) (s : State), 16 ≤ i → exec (.pendSet i w) s = .next s ∧ exec (.pendClr i w) s = .next s ∧
    exec (.maskSet i w) s = .next s ∧ exec (.maskClr i w) s = .next s) ∧
  ∀ (i a : Nat) (w : W64) (s : State), (32 ≤ i → exec (.watchWrite i w) s = .next s) ∧
    (6 ≤ i → exec (.targetConfigWrite a i w) s = .next s ∧ exec (.claim a i) s = .next s ∧ exec (.complete a i w) s = .next s)

/-- FREE by the receiver of a used channel: every TAKEN slot named by the write becomes FREE, and a bit that names a slot
in any other condition is ignored. No other slot, no other channel and nothing else changes. -/
def Obligations.FreeReturnsBuffers : Prop :=
  ∀ (c : Nat) (w : W64) (s : State), s.busUp → c < 64 → s.channelUsed c = true →
    ∃ t, exec (.free (s.receiver c) c w) s = .next t ∧
      (∀ b < 32, w.getLsbD b = true → ((s.channel c).slot b).st = .taken → ((t.channel c).slot b) = {}) ∧
      (∀ b, (b < 32 → w.getLsbD b = true → ((s.channel c).slot b).st ≠ .taken) →
        (t.channel c).slot b = (s.channel c).slot b) ∧
      (t.channel c) = { s.channel c with slots := (t.channel c).slots } ∧ (∀ k, k ≠ c → t.channel k = s.channel k) ∧
      t = { s.touch with channels := t.channels }

/-- With the ports up, on a used channel. POST by the sender of a message that fits into a FREE slot, or into a POSTED one
that is orphaned: POSTED with the sender's epoch and its timer running, counted, no other slot changed; with a message
that does not fit, into a TAKEN slot or a POSTED one not orphaned: it is counted and leaves the channels as they were.
TAKE by the receiver returns the lowest POSTED slot: TAKEN and acknowledged, or FREE without an acknowledgement where
it is orphaned, counted; with none it reads 0. With GCLK running NOTICE_TIMEOUT of a POSTED notice that is not
orphaned comes to its time: FREE, its bit of MBX_TOST set, counted; of any other slot it does nothing. With the ports
up. ACK_CLEAR and TOST_CLEAR by the sender of a used channel clear the bits written as 1, and change nothing else but
the time of last use. MAILBOX_MASK_WRITE by its receiver sets the mask of 32 bits, and changes else only interrupts
and counters. ACK_CLEAR, TOST_CLEAR and POST by another agent than the sender only count in 0x7500+c:0E; FREE and
MAILBOX_MASK_WRITE on an unused channel only in 0x7490:06. Of a channel above 63 each does nothing. -/
def Obligations.MailboxRules : Prop :=
  ((∀ (c : Nat) (w : W64) (s : State), s.busUp → c < 64 → s.channelUsed c = true →
    (((s.channel c).slot (bits w.toNat 52 48)).st = .free ∨ (((s.channel c).slot (bits w.toNat 52 48)).st = .posted ∧
      ((s.channel c).slot (bits w.toNat 52 48)).orphaned = true)) →
    s.messageFits c (bits w.toNat 15 0) (bits w.toNat 47 32) = true → ∃ t, exec (.post (s.sender c) c w) s = .next t ∧
      (t.channel c).slot (bits w.toNat 52 48) = {
        st := .posted, offset := bits w.toNat 15 0, length := bits w.toNat 47 32, epoch := s.epoch (s.sender c)
        due := s.tb.now + s.cyc (0x7500 + c) 5 } ∧
      (∀ b, b ≠ bits w.toNat 52 48 → (t.channel c).slot b = (s.channel c).slot b) ∧
      t.obj (0x7500 + c) 6 = min (s.obj (0x7500 + c) 6 + 1) 0xFFFFFFFF ∧ (4 ≤ s.sender c → t.mram = s.mram) ∧
      t = { s.touch with channels := t.channels, mram := t.mram, poison := t.poison, replies := t.replies, icu := t.icu, od := t.od }) ∧
  (∀ (c : Nat) (w : W64) (s : State), s.busUp → c < 64 → s.channelUsed c = true →
    (s.messageFits c (bits w.toNat 15 0) (bits w.toNat 47 32) = false ∨
      ((s.channel c).slot (bits w.toNat 52 48)).st = .taken ∨ (((s.channel c).slot (bits w.toNat 52 48)).st = .posted ∧
        ((s.channel c).slot (bits w.toNat 52 48)).orphaned = false)) → ∃ t, exec (.post (s.sender c) c w) s = .next t ∧
      t.obj (0x7500 + c) 7 = min (s.obj (0x7500 + c) 7 + 1) 0xFFFFFFFF ∧ Spares t s) ∧
  (∀ (c b : Nat) (rest : List Nat) (s : State), s.busUp → c < 64 → s.channelUsed c = true →
    (s.channel c).slotsWith (fun v => v.st == .posted) = b :: rest → ∃ t, exec (.take (s.receiver c) c) s = .next t ∧
      (t.channel c).takeWord = takeWordOf b ((s.channel c).slot b) ∧
      (((s.channel c).slot b).orphaned = false → (t.channel c).slot b = { (s.channel c).slot b with st := .taken } ∧
        (t.channel c).ack = (s.channel c).ack ||| (1#64 <<< b)) ∧
      (((s.channel c).slot b).orphaned = true → (t.channel c).slot b = {} ∧ (t.channel c).ack = (s.channel c).ack) ∧
      (∀ k, k ≠ b → (t.channel c).slot k = (s.channel c).slot k) ∧
      t.obj (0x7500 + c) 8 = min (s.obj (0x7500 + c) 8 + 1) 0xFFFFFFFF ∧
      t = { s.touch with channels := t.channels, icu := t.icu, od := t.od }) ∧
  (∀ (c : Nat) (s : State), s.busUp → c < 64 → s.channelUsed c = true →
    (s.channel c).slotsWith (fun v => v.st == .posted) = [] →
    exec (.take (s.receiver c) c) s =
      .next { s.touch with channels := tset s.channels c { s.channel c with takeWord := 0 } }) ∧
  (∀ (c b : Nat) (s : State), c < 64 → b < 32 → s.tb.gclk = true → ((s.channel c).slot b).st = .posted →
    ((s.channel c).slot b).orphaned = false → ∃ t, exec (.noticeTimeout c b) s = .next t ∧
      (t.channel c).slot b = {} ∧ (t.channel c).tost = (s.channel c).tost ||| (1#64 <<< b) ∧
      t.obj (0x7500 + c) 9 = min (s.obj (0x7500 + c) 9 + 1) 0xFFFFFFFF ∧
      t.tb.now = max s.tb.now ((s.channel c).slot b).due ∧
      Spares t { s with channels := t.channels, tb := { s.tb with now := t.tb.now } }) ∧
  ∀ (c b : Nat) (s : State), (((s.channel c).slot b).st ≠ .posted ∨ ((s.channel c).slot b).orphaned = true) →
    exec (.noticeTimeout c b) s = .next s) ∧
  ((∀ (c : Nat) (w : W64) (s : State), s.busUp → c < 64 → s.channelUsed c = true →
    exec (.ackClear (s.sender c) c w) s = .next { s.touch with
      channels := tset s.channels c { s.channel c with ack := (s.channel c).ack &&& ~~~w } }) ∧
  (∀ (c : Nat) (w : W64) (s : State), s.busUp → c < 64 → s.channelUsed c = true →
    exec (.tostClear (s.sender c) c w) s = .next { s.touch with
      channels := tset s.channels c { s.channel c with tost := (s.channel c).tost &&& ~~~w } }) ∧
  (∀ (c : Nat) (w : W64) (s : State), s.busUp → c < 64 → s.channelUsed c = true →
    ∃ t, exec (.mailboxMaskWrite (s.receiver c) c w) s = .next t ∧
      t.channel c = { s.channel c with mask := w &&& 0xFFFFFFFF#64 } ∧ (∀ k, k ≠ c → t.channel k = s.channel k) ∧
      t = { s.touch with channels := t.channels, icu := t.icu, od := t.od }) ∧
  (∀ (a c : Nat) (w : W64) (s : State), s.busUp → c < 64 → s.channelUsed c = true → s.sender c ≠ a →
    ∃ t, exec (.ackClear a c w) s = .next t ∧ exec (.tostClear a c w) s = .next t ∧ exec (.post a c w) s = .next t ∧
      t.obj (0x7500 + c) 0x0E = min (s.obj (0x7500 + c) 0x0E + 1) 0xFFFFFFFF ∧ t = { s.touch with od := t.od }) ∧
  (∀ (a c : Nat) (w : W64) (s : State), s.busUp → c < 64 → s.channelUsed c = false →
    ∃ t, exec (.free a c w) s = .next t ∧ exec (.mailboxMaskWrite a c w) s = .next t ∧
      t.obj 0x7490 6 = min (s.obj 0x7490 6 + 1) 0xFFFFFFFF ∧ t = { s.touch with od := t.od }) ∧
  ∀ (a c : Nat) (w : W64) (s : State), 64 ≤ c → exec (.post a c w) s = .next s ∧ exec (.free a c w) s = .next s ∧
    exec (.ackClear a c w) s = .next s ∧ exec (.tostClear a c w) s = .next s ∧ exec (.mailboxMaskWrite a c w) s = .next s ∧
    exec (.take a c) s = .next s)

/-- What COM does with a request it serves, which no check refuses. OBJECT_READ and OBJECT_WRITE with a payload long
enough: the access of the object engine on the values of the payload, answered with its code. ATTACH by the host with
a payload of 12 bytes that nothing refuses: a session on the channel, host attached; one refused changes no session
and is answered with its status. HEARTBEAT: the session's loss timer restarts, and it is answered. DETACH: its session
is closed, and it is answered. HEARTBEAT_SEND of an open session while COM runs comes to the period's end: a heartbeat
is formed and counted. HOST_LOST of one comes to the loss time: no session is left, the host's epoch has changed, and
it is counted. Of no open session the last two do nothing. -/
def Obligations.MailMessages : Prop :=
  (∀ (c b : Nat) (s : State), s.serves c b 1 → 8 ≤ (s.payload ((s.channel c).slot b).offset (s.slotHeader c b)).length → ∃ t, exec (.objectRead c b) s = .next t ∧
    t.answer = (s.readObject (s.slotHeader c b).session (natLE (((s.payload ((s.channel c).slot b).offset (s.slotHeader c b)).drop 0).take 2)) (natLE (((s.payload ((s.channel c).slot b).offset (s.slotHeader c b)).drop 2).take 1)) (natLE (((s.payload ((s.channel c).slot b).offset (s.slotHeader c b)).drop 4).take 2)) 0).answer ∧
    Replied t s.replies c (s.slotHeader c b) t.answer.code (bytesLE 4 t.answer.data.length ++ t.answer.data) ∧
    t = { s.readObject (s.slotHeader c b).session (natLE (((s.payload ((s.channel c).slot b).offset (s.slotHeader c b)).drop 0).take 2)) (natLE (((s.payload ((s.channel c).slot b).offset (s.slotHeader c b)).drop 2).take 1)) (natLE (((s.payload ((s.channel c).slot b).offset (s.slotHeader c b)).drop 4).take 2)) 0 with free := t.free, replies := t.replies }) ∧
  (∀ (c b : Nat) (s : State), s.serves c b 2 → 8 + (natLE (((s.payload ((s.channel c).slot b).offset (s.slotHeader c b)).drop 4).take 4)) ≤ (s.payload ((s.channel c).slot b).offset (s.slotHeader c b)).length → ∃ t l, exec (.objectWrite c b) s = .next t ∧
    Replied t l c (s.slotHeader c b) t.answer.code [] ∧
    t = { s.writeObject (s.slotHeader c b).session (natLE (((s.payload ((s.channel c).slot b).offset (s.slotHeader c b)).drop 0).take 2)) (natLE (((s.payload ((s.channel c).slot b).offset (s.slotHeader c b)).drop 2).take 1)) (((s.payload ((s.channel c).slot b).offset (s.slotHeader c b)).drop 8).take (natLE (((s.payload ((s.channel c).slot b).offset (s.slotHeader c b)).drop 4).take 4))) 0 with
      free := t.free, replies := t.replies }) ∧
  (∀ (c b : Nat) (s : State), s.serves c b 0x10 → s.sender c = 4 → 12 ≤ (s.payload ((s.channel c).slot b).offset (s.slotHeader c b)).length →
    s.attachStatus c (natLE (((s.payload ((s.channel c).slot b).offset (s.slotHeader c b)).drop 4).take 2)) (natLE (((s.payload ((s.channel c).slot b).offset (s.slotHeader c b)).drop 8).take 4)) = 0 → ∃ t v, exec (.attach c b) s = .next t ∧
      t.host = { s.host with hostState := 1, sessions := tset s.host.sessions c v } ∧ v.id = s.assignId.1 ∧
      v.driver = (natLE (((s.payload ((s.channel c).slot b).offset (s.slotHeader c b)).drop 0).take 4)) ∧ v.beatAt = s.tb.now ∧ v.sentAt = s.tb.now ∧
      v.metering = (bit (natLE (((s.payload ((s.channel c).slot b).offset (s.slotHeader c b)).drop 6).take 2)) 0 && !s.host.sessions.any (fun p => p.2.metering)) ∧
      t = { s with host := t.host, access := t.access, pins := t.pins, free := t.free, replies := t.replies }) ∧
  (∀ (c b : Nat) (s : State), s.serves c b 0x10 → s.sender c = 4 → 12 ≤ (s.payload ((s.channel c).slot b).offset (s.slotHeader c b)).length →
    s.attachStatus c (natLE (((s.payload ((s.channel c).slot b).offset (s.slotHeader c b)).drop 4).take 2)) (natLE (((s.payload ((s.channel c).slot b).offset (s.slotHeader c b)).drop 8).take 4)) ≠ 0 → ∃ t, exec (.attach c b) s = .next t ∧
      Replied t s.replies c (s.slotHeader c b) (s.attachStatus c (natLE (((s.payload ((s.channel c).slot b).offset (s.slotHeader c b)).drop 4).take 2)) (natLE (((s.payload ((s.channel c).slot b).offset (s.slotHeader c b)).drop 8).take 4))) [] ∧
      t = { s with free := t.free, replies := t.replies }) ∧
  (∀ (c b : Nat) (s : State), s.serves c b 0x11 → ∃ t, exec (.heartbeat c b) s = .next t ∧
    t.host = { s.host with sessions := s.host.sessions.map (fun p =>
      if p.1 = c then (p.1, { p.2 with beatAt := s.tb.now }) else p) } ∧ Replied t s.replies c (s.slotHeader c b) 0 [] ∧
    t = { s with host := t.host, free := t.free, replies := t.replies }) ∧
  (∀ (c b : Nat) (s : State), s.serves c b 0x12 → ∃ t, exec (.detach c b) s = .next t ∧
    t.host.sessions = tdel s.host.sessions c ∧
    t.host.hostState = (if (tdel s.host.sessions c).isEmpty then 2 else s.host.hostState) ∧
    Replied t s.replies c (s.slotHeader c b) 0 [] ∧
    t = { s with host := t.host, access := t.access, free := t.free, replies := t.replies }) ∧
  (∀ (n c : Nat) (v : HostSession) (s : State), s.mailSession n = some (c, v) → s.comRuns = true →
    ∃ t, exec (.heartbeatSend n) s = .next t ∧ t.tb.now = max s.tb.now (v.sentAt + msCycles v.period) ∧
      t.host = { s.host with beats := (s.host.beats + 1) % 2 ^ 32
                             sessions := tset s.host.sessions c { v with sentAt := t.tb.now } } ∧
      t.replies.length = s.replies.length + 1 ∧
      t = { s with tb := { s.tb with now := t.tb.now }, host := t.host, free := t.free, replies := t.replies }) ∧
  (∀ (n c : Nat) (v : HostSession) (s : State), s.mailSession n = some (c, v) → s.comRuns = true →
    ∃ t, exec (.hostLost n) s = .next t ∧ t.host.sessions = [] ∧ t.host.hostState = 3 ∧
      t.epoch 4 = (s.epoch 4 + 1) % 2 ^ 16 ∧ t.obj 0x7400 5 = min (s.obj 0x7400 5 + 1) 0xFFFFFFFF ∧
      t.tb.now = max s.tb.now (v.beatAt + msCycles (s.obj 0x7400 2 * v.period))) ∧
  ∀ (n : Nat) (s : State), s.mailSession n = none → exec (.heartbeatSend n) s = .next s ∧ exec (.hostLost n) s = .next s

/-- CORE_CRASH of a core that runs, WATCHDOG_EXPIRY of a running core and CORE_START_TIMEOUT in BOOT of a core stopped or
booting: the crash is counted, an empty dump area that is not being cleared takes the dump and a valid one is kept,
the core's epoch has advanced, and it restarts from this instant, or is held when its crashes of the last 60 s reach
the limit. COMPONENT_FAULT of a running core: below the third fault of the component within 1 s the core runs on, the
fault is noted and counted, an access fault is counted as one too, and no other core changes; the third is a crash. Of
a core in another state, and of a number of none, each does nothing. -/
def Obligations.CoreCrashes : Prop :=
  (∀ (c k : Nat) (d : CoreDump) (s : State), c < 4 → (s.core c).st.runs = true → ∃ t, exec (.coreCrash c k d) s = .next t ∧
      (t.core c).st = (if s.obj (0x7410 + c) 9 ≤
        ((s.core c).crashes.filter (fun u => s.tb.now < u + cycles 60000000000)).length + 1 then .held else .restarting) ∧
      (t.core c).trapAt = s.tb.now ∧ t.epoch c = (s.epoch c + 1) % 2 ^ 16 ∧ t.tb.now = s.tb.now ∧
      t.obj (0x7410 + c) 4 = min (s.obj (0x7410 + c) 4 + 1) 0xFFFFFFFF ∧
      ((s.dump c).clearing = false → (s.dump c).valid = false → (t.dump c).valid = true ∧ (t.dump c).cause = k) ∧
      ((s.dump c).clearing = false → (s.dump c).valid = true → t.dump c = s.dump c)) ∧
  (∀ (c k : Nat) (d : CoreDump) (s : State), c < 4 → (s.core c).st = .running → ∃ t, exec (.watchdogExpiry c d) s = .next t ∧
      (t.core c).st = (if s.obj (0x7410 + c) 9 ≤
        ((s.core c).crashes.filter (fun u => s.tb.now < u + cycles 60000000000)).length + 1 then .held else .restarting) ∧
      (t.core c).trapAt = s.tb.now ∧ t.epoch c = (s.epoch c + 1) % 2 ^ 16 ∧ t.tb.now = s.tb.now ∧
      t.obj (0x7410 + c) 4 = min (s.obj (0x7410 + c) 4 + 1) 0xFFFFFFFF ∧
      ((s.dump c).clearing = false → (s.dump c).valid = false → (t.dump c).valid = true ∧ (t.dump c).cause = 2) ∧
      ((s.dump c).clearing = false → (s.dump c).valid = true → t.dump c = s.dump c)) ∧
  (∀ (c k : Nat) (d : CoreDump) (s : State), c < 4 → s.gov.st = .boot → ((s.core c).st = .stopped ∨ (s.core c).st = .booting) → ∃ t, exec (.coreStartTimeout c d) s = .next t ∧
      (t.core c).st = (if s.obj (0x7410 + c) 9 ≤
        ((s.core c).crashes.filter (fun u => s.tb.now < u + cycles 60000000000)).length + 1 then .held else .restarting) ∧
      (t.core c).trapAt = s.tb.now ∧ t.epoch c = (s.epoch c + 1) % 2 ^ 16 ∧ t.tb.now = s.tb.now ∧
      t.obj (0x7410 + c) 4 = min (s.obj (0x7410 + c) 4 + 1) 0xFFFFFFFF ∧
      ((s.dump c).clearing = false → (s.dump c).valid = false → (t.dump c).valid = true) ∧
      ((s.dump c).clearing = false → (s.dump c).valid = true → t.dump c = s.dump c)) ∧
  (∀ (c m : Nat) (a : UserTrap) (d : CoreDump) (s : State), c < 4 → m < 8 → (s.core c).st = .running →
    (((s.core c).compFaults.filter (fun p => s.tb.now < p.2 + cycles 1000000000)).filter (fun p => p.1 == m)).length < 2 →
    ∃ t, exec (.componentFault c m a d) s = .next t ∧ (t.core c).st = .running ∧ (m, s.tb.now) ∈ (t.core c).compFaults ∧
      t.obj (0x7410 + c) 5 = min (s.obj (0x7410 + c) 5 + 1) 0xFFFFFFFF ∧
      (a = .accessFault → t.obj (0x7410 + c) 0x0C = min (s.obj (0x7410 + c) 0x0C + 1) 0xFFFFFFFF) ∧
      (∀ k, k ≠ c → t.core k = s.core k) ∧ Spares t { s with cores := t.cores } ∧
      (a ≠ .poison → t = { s with cores := t.cores, od := t.od })) ∧
  (∀ (c m : Nat) (a : UserTrap) (d : CoreDump) (s : State), c < 4 → m < 8 → (s.core c).st = .running →
    2 ≤ (((s.core c).compFaults.filter (fun p => s.tb.now < p.2 + cycles 1000000000)).filter (fun p => p.1 == m)).length →
    ∃ t, exec (.componentFault c m a d) s = .next t ∧ t.epoch c = (s.epoch c + 1) % 2 ^ 16 ∧
      ((t.core c).st = .held ∨ (t.core c).st = .restarting) ∧
      t.obj (0x7410 + c) 4 = min (s.obj (0x7410 + c) 4 + 1) 0xFFFFFFFF) ∧
  (∀ (c k : Nat) (d : CoreDump) (s : State), (s.core c).st.runs = false → exec (.coreCrash c k d) s = .next s) ∧
  (∀ (c m : Nat) (a : UserTrap) (d : CoreDump) (s : State), (s.core c).st ≠ .running →
    exec (.watchdogExpiry c d) s = .next s ∧ exec (.componentFault c m a d) s = .next s) ∧
  ∀ (c : Nat) (d : CoreDump) (s : State), s.gov.st ≠ .boot → exec (.coreStartTimeout c d) s = .next s

/-- BANK_RELOAD_COMPLETE of a restarting core: an image that passes names the bank's release; a refused one holds the
core. CORE_RESTART_COMPLETE of a restarting core, of COM with no G3 access waiting: the core runs with its restart
time, and where the update restarts it its probation begins. UPDATE_ACTIVATION of an armed update at an H-frame with
GCLK running: the target's banks exchange and it restarts with a new epoch. UPDATE_RESTART_TIMEOUT of a restart for an
update comes to its limit: the banks exchange back, the core restarts, status 0x0007_0001, counted in 0x7420:08.
PROBATION_END in probation comes to its end: status 5, counted in 0x7420:07. In any other condition each does nothing. -/
def Obligations.CoreRestarts : Prop :=
  (∀ (c : Nat) (m : FwImage) (s : State), c < 4 → (s.core c).st = .restarting → s.imageRefusal c m = 0 →
    ∃ t, exec (.bankReloadComplete c m) s = .next t ∧ (t.core c).st = .restarting ∧
      (t.core c).banks = tset (s.core c).banks (s.core c).active { release := imageRelease m } ∧
      t = { s with cores := t.cores, update := t.update }) ∧
  (∀ (c : Nat) (m : FwImage) (s : State), c < 4 → (s.core c).st = .restarting → s.imageRefusal c m ≠ 0 →
    ∃ t, exec (.bankReloadComplete c m) s = .next t ∧ (t.core c).st = .held ∧ Spares t { s with cores := t.cores }) ∧
  (∀ (c : Nat) (s : State), c < 4 → (s.core c).st = .restarting → (c = 3 → s.host.queue = [] ∧ s.host.waiting = []) →
    ∃ t, exec (.coreRestartComplete c) s = .next t ∧
      t.core c = { s.core c with st := .running, lastRestart := nsOf (s.tb.now - (s.core c).trapAt) } ∧
      (s.update.restarting = true → s.update.target = c → t.update = { s.update with
        status := 4, restarting := false, probEnd := s.tb.now + s.cyc 0x7420 6 }) ∧
      (s.update.restarting = false → t.update = s.update) ∧
      t = { s with cores := t.cores, icu := t.icu, muriri := t.muriri, host := t.host, update := t.update }) ∧
  (∀ s : State, s.tb.gclk = true → s.update.status = 3 → s.update.restarting = false → s.tb.cframe % 1000 = 0 →
    ∃ t, exec .updateActivation s = .next t ∧ (t.core s.update.target).st = .restarting ∧
      (t.core s.update.target).active = 1 - (s.core s.update.target).active ∧
      (t.core s.update.target).trapAt = s.tb.now ∧ t.update = { s.update with
        restarting := true, restartEnd := s.tb.now + cycles 2000000 } ∧
      t.epoch s.update.target = (s.epoch s.update.target + 1) % 2 ^ 16 ∧ t.dumps = s.dumps) ∧
  (∀ s : State, s.update.restarting = true → ∃ t, exec .updateRestartTimeout s = .next t ∧
    t.update = { s.update with status := 0x00070001, restarting := false } ∧
    (t.core s.update.target).active = 1 - (s.core s.update.target).active ∧
    (t.core s.update.target).st = .restarting ∧ t.tb.now = max s.tb.now s.update.restartEnd ∧
    t.obj 0x7420 8 = min (s.obj 0x7420 8 + 1) 0xFFFFFFFF) ∧
  (∀ s : State, s.update.status = 4 → ∃ t, exec .probationEnd s = .next t ∧ t.update = { s.update with status := 5 } ∧
    t.tb.now = max s.tb.now s.update.probEnd ∧ t.obj 0x7420 7 = min (s.obj 0x7420 7 + 1) 0xFFFFFFFF ∧
    t = { s with tb := { s.tb with now := t.tb.now }, update := t.update, od := t.od }) ∧
  (∀ (c : Nat) (m : FwImage) (s : State), (s.core c).st ≠ .restarting →
    exec (.bankReloadComplete c m) s = .next s ∧ exec (.coreRestartComplete c) s = .next s) ∧
  (∀ s : State, s.update.status ≠ 3 → exec .updateActivation s = .next s) ∧
  (∀ s : State, s.update.restarting = false → exec .updateRestartTimeout s = .next s) ∧
  ∀ s : State, s.update.status ≠ 4 → exec .probationEnd s = .next s

/-- G3_POWER_REQUEST served at once. Bit 0 or bit 1 set: refused as a whole; counted in 0x7400:08, 0x3400:0A reads
0x0004_0002, nothing else acts. Only bit 2 set: the value 5, RESUME, is written to 0x3400:08 by the emulation session
under its checks, and a refusal of it is counted. A write of 0 changes nothing but the count of accesses. -/
def Obligations.G3ControlWrite : Prop :=
  (∀ (w : W64) (s : State), s.emulNow → (w.getLsbD 0 = true ∨ w.getLsbD 1 = true) →
    ∃ t, exec (.g3PowerRequest w) s = .next t ∧ t.obj 0x7400 8 = min (s.obj 0x7400 8 + 1) 0xFFFFFFFF ∧
      t.gov = { s.gov with cmdStatus := 0x00040002 } ∧ t.value emulSession 0x3400 0x0A = 0x00040002 ∧
      t = { s.touch with gov := t.gov, od := t.od }) ∧
  (∀ (w : W64) (s : State), s.emulNow → w.toNat % 2 ^ 32 = 4 →
    exec (.g3PowerRequest w) s = .next
      (if (s.emulBase.writeObject emulSession 0x3400 8 (bytesLE 1 5) 0).answer.code = 0 then
        s.emulBase.writeObject emulSession 0x3400 8 (bytesLE 1 5) 0
      else (s.emulBase.writeObject emulSession 0x3400 8 (bytesLE 1 5) 0).bump 0x7400 8)) ∧
  ∀ (w : W64) (s : State), s.emulNow → w.toNat % 2 ^ 32 = 0 → exec (.g3PowerRequest w) s = .next s.emulBase

/-- G3_READ of offset 4 served at once: bits 7:0 of what it returns are 1 in BOOT, 2 in STANDBY, SEQUENCING and SERVICE, 3
in READY and RUN, 4 in LIMIT, 5 in SAFE, 6 in TRIP and COOLDOWN, and never 0. -/
def Obligations.G3StatusCode : Prop :=
  ∀ s : State, s.emulNow → ∃ t, exec (.g3Read 4) s = .next t ∧ t.host.read.toNat % 256 ≠ 0 ∧
    t.host.read.toNat % 256 = (match s.gov.st with
      | .off => 0
      | .boot => 1
      | .standby | .sequencing | .service => 2
      | .ready | .run => 3
      | .limit => 4
      | .safe => 5
      | .trip | .cooldown => 6) ∧ Spares t { s with host := t.host, answer := t.answer }

/-- Writes of the G3 block served at once. G3_PLIMIT_WRITE of 0, or of more than 130 % of T, is refused and counted, and
nothing else changes; with one rail in use and a value its target admits, the rail's POWER target takes P × 1,000 ×
s_r / T. G3_THRESHOLD_WRITE of a value that the object admits: the object takes it in its own unit. G3_FAULT_CLEAR,
admitted and with no cause held, acknowledges the pins of its word. G3_READ_TIMEOUT of the one waiting read comes to
its limit, returns ones and is counted. G3_WRITE_QUEUE_TIMEOUT of the oldest write that waits for a place comes to its
limit, discards it and counts it. With emulation off G3_POWER_REQUEST only counts. With no read waiting, and no write,
the two timeouts do nothing. -/
def Obligations.G3Accesses : Prop :=
  (∀ (w : W64) (s : State), s.emulNow →
    (w.toNat % 2 ^ 32 = 0 ∨ 13 * s.obj 0x2801 1 < w.toNat % 2 ^ 32 * 10000) →
    ∃ t, exec (.g3PlimitWrite w) s = .next t ∧ t.obj 0x7400 8 = min (s.obj 0x7400 8 + 1) 0xFFFFFFFF ∧
      (∀ r < 8, t.obj (powerLaw r) 0x0A = s.obj (powerLaw r) 0x0A) ∧ t = { s.touch with od := t.od }) ∧
  (∀ (r : Nat) (w : W64) (s : State), s.emulNow → w.toNat % 2 ^ 32 ≠ 0 →
    w.toNat % 2 ^ 32 * 10000 ≤ 13 * s.obj 0x2801 1 → s.railsUsed = [r] →
    s.emulBase.admits emulSession (powerLaw r) 0x0A
      (w.toNat % 2 ^ 32 * 1000 * s.obj (0x2810 + r) 4 / s.obj 0x2801 1) → r < 8 →
    ∃ t, exec (.g3PlimitWrite w) s = .next t ∧ t.obj (powerLaw r) 0x0A =
      w.toNat % 2 ^ 32 * 1000 * s.obj (0x2810 + r) 4 / s.obj 0x2801 1 ∧ Answered t s.touch) ∧
  (∀ (w : W64) (s : State), s.emulNow → satS 16 (toSigned 32 (w.toNat % 2 ^ 32) * 8) = toSigned 32 (w.toNat % 2 ^ 32) * 8 →
    s.emulBase.admits emulSession 0x3001 1 (ofSigned 16 (toSigned 32 (w.toNat % 2 ^ 32) * 8)) →
    ∃ t, exec (.g3ThresholdWrite .warn w) s = .next t ∧
      t.obj 0x3001 1 = ofSigned 16 (toSigned 32 (w.toNat % 2 ^ 32) * 8) ∧ Answered t s.touch) ∧
  (∀ (w : W64) (s : State), s.emulNow → satS 16 (toSigned 32 (w.toNat % 2 ^ 32) * 8) = toSigned 32 (w.toNat % 2 ^ 32) * 8 →
    s.emulBase.admits emulSession 0x3001 3 (ofSigned 16 (toSigned 32 (w.toNat % 2 ^ 32) * 8)) →
    ∃ t, exec (.g3ThresholdWrite .throttle w) s = .next t ∧
      t.obj 0x3001 3 = ofSigned 16 (toSigned 32 (w.toNat % 2 ^ 32) * 8) ∧ Answered t s.touch) ∧
  (∀ (w : W64) (s : State), s.emulNow → w.toNat % 2 ^ 32 * 8 < 2 ^ 16 →
    s.emulBase.admits emulSession 0x3001 7 (w.toNat % 2 ^ 32 * 8) →
    ∃ t, exec (.g3ThresholdWrite .ror w) s = .next t ∧ t.obj 0x3001 7 = w.toNat % 2 ^ 32 * 8 ∧ Answered t s.touch) ∧
  (∀ (high : Bool) (w : W64) (s : State), s.emulNow →
    s.emulBase.admits emulSession 0x5000 1 (w.toNat % 2 ^ 32 * (if high then 2 ^ 32 else 1)) →
    (∀ n < 64, (s.pin n).held = []) → ∃ t, exec (.g3FaultClear high w) s = .next t ∧
      (∀ n < 32, w.getLsbD n = true → (t.pin (n + if high then 32 else 0)).latched = false) ∧
      Noted t { s.touch with answer := t.answer }) ∧
  (∀ (a : G3Access) (s : State), s.host.queue = [a] → s.host.waiting = [] → a.write = false →
    ∃ t, exec .g3ReadTimeout s = .next t ∧ t.host = { s.host with queue := [], read := BitVec.allOnes 64 } ∧
      t.tb.now = max s.tb.now (a.at_ + 2016) ∧ t.obj 0x7400 6 = min (s.obj 0x7400 6 + 1) 0xFFFFFFFF ∧
      t = { s with tb := { s.tb with now := t.tb.now }, host := t.host, od := t.od }) ∧
  (∀ (a : G3Access) (s : State), s.host.waiting.find? (fun x => x.write) = some a → s.host.queue.length = 16 →
    a ∉ s.host.queue → ∃ t, exec .g3WriteQueueTimeout s = .next t ∧
      t.host = { s.host with waiting := s.host.waiting.erase a } ∧ t.tb.now = max s.tb.now (a.at_ + 2016) ∧
      t.obj 0x7400 6 = min (s.obj 0x7400 6 + 1) 0xFFFFFFFF ∧
      t = { s with tb := { s.tb with now := t.tb.now }, host := t.host, od := t.od }) ∧
  (∀ (w : W64) (s : State), s.busUp → s.emulates = false → ∃ t, exec (.g3PowerRequest w) s = .next t ∧
    t.obj 0x7400 8 = min (s.obj 0x7400 8 + 1) 0xFFFFFFFF ∧ t = { s.touch with od := t.od }) ∧
  (∀ s : State, (s.host.queue ++ s.host.waiting).find? (fun x => !x.write) = none → exec .g3ReadTimeout s = .next s) ∧
  ∀ s : State, s.host.waiting.find? (fun x => x.write) = none → exec .g3WriteQueueTimeout s = .next s

/-- With the ports up. OBJECT_WINDOW_CLAIM takes a free window, and finds a claimed one taken. OBJECT_WINDOW_RELEASE with
bit 0 frees it. OBJECT_WINDOW_READ and OBJECT_WINDOW_WRITE of a claimed window, with the code of the access in the
word: the access of the object engine on the fields of the word, then DONE, RLEN, CODE and the data; unclaimed, the
word is only counted. With GCLK running OBJECT_WINDOW_IDLE_RELEASE of a claimed window frees it at its time, and of a
free one does nothing. OBJECT_ACCESS_TIMEOUT: the next access a core serves is late. AUTH_BLOCK_EXPIRY of a block
comes to its end, and responses are accepted again; with no block it does nothing. -/
def Obligations.ObjectWindow : Prop :=
  (∀ s : State, s.busUp → s.window.claimed = false → exec .objectWindowClaim s = .next { s.touch with
    window := { s.window with claimed := true, got := true, usedAt := s.tb.now } }) ∧
  (∀ s : State, s.busUp → s.window.claimed = true → exec .objectWindowClaim s = .next { s.touch with
    window := { s.window with got := false } }) ∧
  (∀ (w : W64) (s : State), s.busUp → exec (.objectWindowRelease w) s = .next { s.touch with
    window := { s.window with claimed := s.window.claimed && !w.getLsbD 0 } }) ∧
  (∀ (w : W64) (s u : State), s.busUp → s.window.claimed = true → bits w.toNat 63 62 = 1 →
    u = ({ s.touch with window := { s.window with isDone := false, usedAt := s.tb.now } } : State).readObject
      windowSession (bits w.toNat 55 40) (bits w.toNat 39 32) (bits w.toNat 12 0) 0 →
    exec (.objectWindowRead w) s = .next { u with window := { u.window with
      isDone := true, rlen := u.answer.data.length, code := u.answer.code
      data := mwriteBytes u.window.data 0 u.answer.data } }) ∧
  (∀ (w : W64) (s u : State), s.busUp → s.window.claimed = true → bits w.toNat 63 62 = 2 →
    u = ({ s.touch with window := { s.window with isDone := false, usedAt := s.tb.now } } : State).writeObject
      windowSession (bits w.toNat 55 40) (bits w.toNat 39 32) (mreadBytes s.window.data 0 (bits w.toNat 12 0)) 0 →
    exec (.objectWindowWrite w) s = .next { u with window := { u.window with
      isDone := true, rlen := 0, code := u.answer.code } }) ∧
  (∀ (w : W64) (s : State), s.busUp → s.window.claimed = false → ∃ t, exec (.objectWindowRead w) s = .next t ∧
    exec (.objectWindowWrite w) s = .next t ∧ t.obj 0x1402 0x0F = min (s.obj 0x1402 0x0F + 1) 0xFFFFFFFF ∧
    t = { s.touch with od := t.od }) ∧
  (∀ s : State, s.tb.gclk = true → s.window.claimed = true → exec .objectWindowIdleRelease s = .next { s with
    tb := { s.tb with now := max s.tb.now (s.window.usedAt + cycles 100000000) }
    window := { s.window with claimed := false } }) ∧
  (∀ s : State, exec .objectAccessTimeout s = .next { s with access := { s.access with late := true } }) ∧
  (∀ (u : Nat) (s : State), s.access.block = some u → exec .authBlockExpiry s = .next { s with
    tb := { s.tb with now := max s.tb.now u }, access := { s.access with block := none } }) ∧
  (∀ s : State, s.window.claimed = false → exec .objectWindowIdleRelease s = .next s) ∧
  ∀ s : State, s.access.block = none → exec .authBlockExpiry s = .next s

/-- Of frames that Muriri takes. OPEN from a source with no session, no early code, and room for one: a session of the
next id, bound to the source, one REPLY. CLOSE of an open session bound to its source: the session is gone with its
locks and authentication; so at SESSION_IDLE_TIMEOUT, which comes to its time. READ and WRITE, new in a session with
no transfer: the access of the object engine, and one REPLY with its code, sent to the source with the request's
sequence. A repeat of the last request is answered from the cache and counted. A malformed frame heard, and
FRAME_DISCARDED with the ports up, are dropped and counted, and no session changes. SESSION_IDLE_TIMEOUT of no session
does nothing. -/
def Obligations.MuririSessions : Prop :=
  (∀ (f : Frame) (s : State), s.gets f 1 → s.openedBy f = none → s.earlyCode f = 0 →
    s.muriri.sessions.length < s.obj 0x1400 0x0B → ∃ t r, exec (.muOpen f) s = .next t ∧
      t.muriri = { sessions := tset s.muriri.sessions s.assignId.1
                     { mac := f.src, heardAt := s.tb.now, lastSeq := some f.seq, cache := some r }
                   tx := [r] } ∧ r.dst = f.src ∧ r.kind = 0x20 ∧ r.session = s.assignId.1 ∧ r.seq = f.seq ∧
      t = { s.touch with muriri := t.muriri, access := t.access, icu := t.icu, od := t.od }) ∧
  (∀ (f : Frame) (v : MuSession) (s : State), s.gets f 2 → s.bound f v → v.lastSeq ≠ some f.seq → v.transfer = none → s.earlyCode f = 0 →
    ∃ t r, exec (.muClose f) s = .next t ∧ t.muriri = { sessions := tdel s.muriri.sessions f.session, tx := [r] } ∧
      (∀ i, t.locker i ≠ some f.session) ∧ t.authenticated f.session = false ∧
      t = { s.touch with muriri := t.muriri, access := t.access, icu := t.icu, od := t.od }) ∧
  (∀ (n : Nat) (v : MuSession) (s : State), s.muSession n = some v → s.comRuns = true →
    ∃ t, exec (.sessionIdleTimeout n) s = .next t ∧ t.muriri = { s.muriri with sessions := tdel s.muriri.sessions n } ∧
      (∀ i, t.locker i ≠ some n) ∧ t.authenticated n = false ∧ t.tb.now = max s.tb.now (v.heardAt + s.cyc 0x1400 9) ∧
      t = { s with tb := { s.tb with now := t.tb.now }, muriri := t.muriri, access := t.access }) ∧
  (∀ (f : Frame) (v : MuSession) (s : State), s.gets f 0x10 → s.bound f v → v.lastSeq ≠ some f.seq → v.transfer = none →
    ∃ t r l, exec (.muRead f) s = .next t ∧ t.answer = ((s.heard f v).shortRead f).1.answer ∧ t.muriri.tx = l ++ [r] ∧
      r.dst = f.src ∧ r.kind = 0x20 ∧ r.session = f.session ∧ r.seq = f.seq ∧ r.body = ((s.heard f v).shortRead f).2) ∧
  (∀ (f : Frame) (v : MuSession) (s : State), s.gets f 0x11 → s.bound f v → v.lastSeq ≠ some f.seq → v.transfer = none →
    ∃ t r l, exec (.muWrite f) s = .next t ∧ t.answer = ((s.heard f v).shortWrite f).1.answer ∧ t.muriri.tx = l ++ [r] ∧
      r.dst = f.src ∧ r.kind = 0x20 ∧ r.session = f.session ∧ r.seq = f.seq ∧ r.body = ((s.heard f v).shortWrite f).2) ∧
  (∀ (f : Frame) (v : MuSession) (r : OutFrame) (s : State), s.hears f = true → malformed f = false →
    (f.kind = 0x10 ∨ f.kind = 0x11) → s.bound f v → v.lastSeq = some f.seq → v.cache = some r →
    ∃ t, exec (if f.kind = 0x10 then .muRead f else .muWrite f) s = .next t ∧ t.muriri.tx = [r] ∧
      t.obj 0x1401 6 = min (s.obj 0x1401 6 + 1) 0xFFFFFFFF ∧
      t = { s.touch with muriri := t.muriri, icu := t.icu, od := t.od }) ∧
  (∀ (f : Frame) (s : State), s.hears f = true → malformed f = true → ∃ t, exec (.malformedFrame f) s = .next t ∧
    t.muriri = { s.muriri with tx := [] } ∧ t.obj 0x1401 3 = min (s.obj 0x1401 3 + 1) 0xFFFFFFFF ∧
    Spares t { s with muriri := t.muriri }) ∧
  (∀ (bad : Bool) (s : State), s.busUp → ∃ t, exec (.frameDiscarded bad) s = .next t ∧
    t.obj 0x1401 (if bad then 0x0D else 0x0C) = min (s.obj 0x1401 (if bad then 0x0D else 0x0C) + 1) 0xFFFFFFFF ∧
    t = { s.touch with od := t.od }) ∧
  ∀ (n : Nat) (s : State), s.muSession n = none → exec (.sessionIdleTimeout n) s = .next s

/-- Of frames that Muriri takes in an open session. READ_INIT that no check refuses: the value is captured and the first
segment follows the REPLY. WRITE_INIT that no early check refuses: a transfer waits for its first segment. SEGMENT in
order and of the right length is kept and acknowledged; the last one applies the write as a whole, is answered with
its code and ends the transfer. SEGMENT_ACK in order brings the next segment, or ends the transfer after the last.
ABORT of the transfer's sequence ends it. SEGMENT_TIMEOUT of a transfer while COM runs comes to its time: the first
sends the last frame again, counted; the second abandons the transfer, counted. With no such session it does nothing. -/
def Obligations.MuririTransfers : Prop :=
  (∀ (f : Frame) (v : MuSession) (s : State), s.gets f 0x12 → s.bound f v → v.lastSeq ≠ some f.seq → v.transfer = none → ((s.heard f v).captureRead f).1.answer.code = 0 →
    ∃ t a b x w, exec (.muReadInit f) s = .next t ∧ t.muriri.tx = [a, b] ∧ a.kind = 0x20 ∧ b.kind = 0x14 ∧
      t.muSession f.session = some w ∧ w.transfer = some x ∧ x.write = false ∧ x.next = 0 ∧
      x.data = ((s.heard f v).captureRead f).1.answer.data ∧ x.total = x.data.length ∧ x.seq = f.seq ∧
      x.due = s.tb.now + s.cyc 0x1400 0x0A ∧ x.last = b) ∧
  (∀ (f : Frame) (v : MuSession) (s : State), s.gets f 0x13 → s.bound f v → v.lastSeq ≠ some f.seq → v.transfer = none →
    (s.heard f v).writeCodeEarly f.session (field (bodyOf f) 0 2) (field (bodyOf f) 2 1) 0 (field (bodyOf f) 4 2)
      ((s.heard f v).earlyCode f) = 0 →
    ∃ t r w, exec (.muWriteInit f) s = .next t ∧ t.muriri.tx = [r] ∧ r.kind = 0x20 ∧
      t.muSession f.session = some w ∧ w.transfer = some {
        write := true, index := field (bodyOf f) 0 2, sub := field (bodyOf f) 2 1, total := field (bodyOf f) 4 2
        seq := f.seq, next := 0, data := [], due := s.tb.now + s.cyc 0x1400 0x0A, last := r } ∧
      t = { s.touch with muriri := t.muriri, icu := t.icu, od := t.od, answer := { code := 0, data := [] } }) ∧
  (∀ (f : Frame) (v : MuSession) (x : Transfer) (s : State), s.gets f 0x14 → s.bound f v → v.transfer = some x →
    x.write = true → x.seq = field (bodyOf f) 0 2 → x.next = field (bodyOf f) 2 1 →
    field (bodyOf f) 4 2 = segmentLength x.total x.next → bit (field (bodyOf f) 3 1) 0 = segmentLast x.total x.next →
    segmentLast x.total x.next = false → ∃ t r, exec (.muSegment f) s = .next t ∧ t.muriri.tx = [r] ∧ r.kind = 0x15 ∧
      t.muSession f.session = some { v with
        heardAt := s.tb.now
        transfer := some { x with
          next := x.next + 1, data := x.data ++ ((bodyOf f).drop 8).take (field (bodyOf f) 4 2)
          misses := 0, due := s.tb.now + s.cyc 0x1400 0x0A, last := r } } ∧
      t = { s.touch with muriri := t.muriri, icu := t.icu, od := t.od }) ∧
  (∀ (f : Frame) (v : MuSession) (x : Transfer) (s : State), s.gets f 0x14 → s.bound f v → v.transfer = some x →
    x.write = true → x.seq = field (bodyOf f) 0 2 → x.next = field (bodyOf f) 2 1 →
    field (bodyOf f) 4 2 = segmentLength x.total x.next → bit (field (bodyOf f) 3 1) 0 = segmentLast x.total x.next →
    segmentLast x.total x.next = true → ∃ t r l, exec (.muSegment f) s = .next t ∧ t.muriri.tx = l ++ [r] ∧ r.kind = 0x20 ∧
      t.answer = ((s.heard f v).writeObject f.session x.index x.sub
        (x.data ++ ((bodyOf f).drop 8).take (field (bodyOf f) 4 2)) ((s.heard f v).earlyCode f)).answer ∧
      r.body = bytesLE 4 t.answer.code ∧ ∀ w, t.muSession f.session = some w → w.transfer = none) ∧
  (∀ (f : Frame) (v : MuSession) (x : Transfer) (s : State), s.gets f 0x15 → s.bound f v → v.transfer = some x →
    x.write = false → x.seq = field (bodyOf f) 0 2 → x.next = field (bodyOf f) 2 1 →
    ∃ t w, exec (.muSegmentAck f) s = .next t ∧ t.muSession f.session = some w ∧
      (segmentLast x.total x.next = true → w.transfer = none ∧ t.muriri.tx = []) ∧
      (segmentLast x.total x.next = false → ∃ r, t.muriri.tx = [r] ∧ r.kind = 0x14 ∧ w.transfer = some { x with
        next := x.next + 1, misses := 0, due := s.tb.now + s.cyc 0x1400 0x0A, last := r }) ∧
      t = { s.touch with muriri := t.muriri, icu := t.icu, od := t.od }) ∧
  (∀ (f : Frame) (v : MuSession) (x : Transfer) (s : State), s.gets f 0x16 → s.bound f v → v.transfer = some x →
    x.seq = field (bodyOf f) 0 2 → exec (.muAbort f) s =
      .next ((s.heard f v).setMu f.session { v with heardAt := s.tb.now, transfer := none })) ∧
  (∀ (n : Nat) (v : MuSession) (x : Transfer) (s : State), s.muSession n = some v → v.transfer = some x →
    s.comRuns = true → ∃ t, exec (.segmentTimeout n) s = .next t ∧ t.tb.now = max s.tb.now x.due ∧
      (x.misses = 0 → t.muriri.tx = [x.last] ∧ t.muSession n = some { v with
        transfer := some { x with misses := 1, due := t.tb.now + s.cyc 0x1400 0x0A } } ∧
        t.obj 0x1401 7 = min (s.obj 0x1401 7 + 1) 0xFFFFFFFF) ∧
      (x.misses ≠ 0 → t.muSession n = some { v with transfer := none } ∧
        t.obj 0x1401 8 = min (s.obj 0x1401 8 + 1) 0xFFFFFFFF)) ∧
  ∀ (n : Nat) (s : State), s.muSession n = none → exec (.segmentTimeout n) s = .next s

/-- While COM runs and with no poison EVENT_SEND sends the first event not sent, its record written, to the event address,
counted, and EVENT_RETRANSMIT sends the oldest event, sent and not acknowledged, again at its time, counted; after its
repeats, with pin 59 quiet, it is dropped and counted. EVENT_ACK that Muriri takes, with session 0 or in an open
session bound to its source, removes every event up to its sequence. With no event not sent, and with no event at all,
the first two do nothing. -/
def Obligations.MuririEvents : Prop :=
  (∀ (e : Event) (q : Record) (s : State), s.events.find? (fun e => e.sentAt.isNone) = some e → s.comRuns = true →
    e.seq ≤ s.recorder.head → s.daybookRecord e.seq = some q → s.poison = [] →
    ∃ t r, exec .eventSend s = .next t ∧ t.muriri = { s.muriri with tx := [r] } ∧ r.kind = 0x30 ∧
      r.dst = s.obj 0x1400 6 ∧
      r.body = bytesLE 1 e.level ++ bytesLE 1 e.pin ++ bytesLE 2 0 ++ q.toBytes ∧
      t.events = s.events.map (fun x => if x.seq = e.seq then { e with sentAt := some s.tb.now } else x) ∧
      t.obj 0x1401 9 = min (s.obj 0x1401 9 + 1) 0xFFFFFFFF ∧
      t = { s with muriri := t.muriri, events := t.events, free := t.free, icu := t.icu, od := t.od }) ∧
  (∀ (e : Event) (rest : List Event) (u : Nat) (q : Record) (s : State), s.events = e :: rest → e.sentAt = some u →
    s.comRuns = true → e.repeats < s.obj 0x1400 8 → s.daybookRecord e.seq = some q → s.poison = [] →
    ∃ t r, exec .eventRetransmit s = .next t ∧ t.tb.now = max s.tb.now (u + s.cyc 0x1400 7) ∧
      t.muriri = { s.muriri with tx := [r] } ∧ r.kind = 0x30 ∧
      t.events.head? = some { e with sentAt := some t.tb.now, repeats := e.repeats + 1 } ∧
      t.obj 0x1401 0x0A = min (s.obj 0x1401 0x0A + 1) 0xFFFFFFFF) ∧
  (∀ (e : Event) (rest : List Event) (u : Nat) (s : State), s.events = e :: rest → e.sentAt = some u →
    s.comRuns = true → s.obj 0x1400 8 ≤ e.repeats → s.quiet 59 →
    ∃ t, exec .eventRetransmit s = .next t ∧ t.tb.now = max s.tb.now (u + s.cyc 0x1400 7) ∧ t.events = rest ∧
      t.muriri = { s.muriri with tx := [] } ∧ t.obj 0x1401 0x0B = min (s.obj 0x1401 0x0B + 1) 0xFFFFFFFF) ∧
  (∀ (f : Frame) (s : State), s.gets f 0x31 → f.session = 0 → ∃ t, exec (.eventAck f) s = .next t ∧
    t.events = s.events.filter (fun e => field (bodyOf f) 0 6 < e.seq) ∧
    t = { s.touch with muriri := { s.muriri with tx := [] }, events := t.events, icu := t.icu, od := t.od }) ∧
  (∀ (f : Frame) (v : MuSession) (s : State), s.gets f 0x31 → f.session ≠ 0 → s.bound f v →
    ∃ t, exec (.eventAck f) s = .next t ∧ t.events = s.events.filter (fun e => field (bodyOf f) 0 6 < e.seq)) ∧
  ∀ s : State, s.events = [] → exec .eventSend s = .next s ∧ exec .eventRetransmit s = .next s

/-- BUDGET_FORMATION at the coordinator, every 10 H-frames: each member that is not missing gets its allotment, the next
sequence, one BUDGET frame, and its own entry is armed. BUDGET at a worker, new, of the coordinator's source and
schema and with an entry for it: armed, acknowledged and counted; of another schema it makes the worker REFUSED; from
another source it is counted. BUDGET at a coordinator: a foreign cause for 1 s; FOREIGN_BUDGET_CAUSE_END comes to its
time and ends it. With GCLK running COORDINATOR_LOSS of a worker comes to 50 ms after the last budget: ISLAND.
BUDGET_ACK of a member at the coordinator updates it; of an unknown source it is counted. TIME_BROADCAST at the
coordinator, every 1,000 H-frames with quality 3, sends one frame. TIME at a worker of the coordinator's source and
schema and below REFERENCE is adopted. In another condition named below the events do nothing. -/
def Obligations.SegmentCoordination : Prop :=
  (∀ s : State, s.coordinates = true → s.everyH 10 = true → ∃ t r, exec .budgetFormation s = .next t ∧
    t.muriri.tx = [r] ∧ r.kind = 0x41 ∧ r.dst = broadcastMac ∧ t.segment.role = 5 ∧
    t.segment.bseq = (s.segment.bseq + 1) % 2 ^ 32 ∧ t.segment.fedAt = s.tb.now ∧
    t.segment.shortfall = shortfall (s.obj 0x7001 1) (each s.memberIds State.judgeMember s).claims ∧
    (∀ c ∈ (each s.memberIds State.judgeMember s).claims, c.missing = false →
      (t.member c.id).last = allot (s.obj 0x7001 1) (each s.memberIds State.judgeMember s).claims c) ∧
    (∃ g, t.segment.arm = some g ∧ g.mw = (t.member 0).last)) ∧
  (∀ (f : Frame) (g : Grant) (s : State), s.gets f 0x41 → s.role = 2 → f.src = s.obj 0x7000 3 → s.sameSchema f = true →
    s.segment.lastSeq ≠ some (field (bodyOf f) 0 4) → entryFor (bodyOf f) (s.obj 0x7000 2) = some g →
    ∃ t r, exec (.budget f) s = .next t ∧ t.segment = { s.segment with
        role := 2, arm := some g, fedAt := s.tb.now, b0 := some g.mw, lastSeq := some (field (bodyOf f) 0 4) } ∧
      t.muriri.tx = [r] ∧ r.kind = 0x42 ∧ r.dst = f.src ∧
      t.obj 0x7000 0x0A = min (s.obj 0x7000 0x0A + 1) 0xFFFFFFFF) ∧
  (∀ (f : Frame) (s : State), s.gets f 0x41 → s.role = 2 → f.src = s.obj 0x7000 3 → s.sameSchema f = false →
    ∃ t, exec (.budget f) s = .next t ∧ t.segment.role = 4 ∧ t.segment.arm = none ∧ t.muriri.tx = [] ∧
      t.segment.share = (if s.segment.role = 4 then s.segment.share else 0) ∧
      t.obj 0x7000 0x0B = min (s.obj 0x7000 0x0B + 1) 0xFFFFFFFF) ∧
  (∀ (f : Frame) (s : State), s.gets f 0x41 → s.role = 2 → f.src ≠ s.obj 0x7000 3 → ∃ t, exec (.budget f) s = .next t ∧
    t.segment = s.segment ∧ t.obj 0x7000 0x0F = min (s.obj 0x7000 0x0F + 1) 0xFFFFFFFF ∧
    t = { s.touch with muriri := t.muriri, icu := t.icu, od := t.od }) ∧
  (∀ (f : Frame) (s : State), s.gets f 0x41 → s.role = 1 → ∃ t, exec (.budget f) s = .next t ∧
    t.segment = { s.segment with foreign := some (s.tb.now + cycles 1000000000) } ∧
    t.obj 0x7001 9 = min (s.obj 0x7001 9 + 1) 0xFFFFFFFF) ∧
  (∀ s : State, s.tb.gclk = true → s.segment.role = 2 → ∃ t, exec .coordinatorLoss s = .next t ∧
    t.segment = { s.segment with role := 3, share := 0 } ∧ t.tb.now = max s.tb.now (s.segment.fedAt + cycles 50000000) ∧
    t.obj 0x7000 0x0C = min (s.obj 0x7000 0x0C + 1) 0xFFFFFFFF) ∧
  (∀ (u : Nat) (s : State), s.segment.foreign = some u → ∃ t, exec .foreignBudgetCauseEnd s = .next t ∧
    t.segment = { s.segment with foreign := none } ∧ t.tb.now = max s.tb.now u) ∧
  (∀ (f : Frame) (m : Nat) (s : State), s.gets f 0x42 → s.role = 1 →
    s.memberIds.find? (fun m => s.memberMac m == f.src) = some m → field (bodyOf f) 4 1 = m →
    ∃ t, exec (.budgetAck f) s = .next t ∧ t.member m = { s.member m with
        acked := true, state := field (bodyOf f) 5 1, power := field (bodyOf f) 12 4, demand := field (bodyOf f) 16 4
        mismatch := !s.sameSchema f } ∧ (∀ k, k ≠ m → t.member k = s.member k) ∧
      t.obj (0x7010 + m) 9 = min (s.obj (0x7010 + m) 9 + 1) 0xFFFFFFFF) ∧
  (∀ (f : Frame) (s : State), s.gets f 0x42 → s.role = 1 →
    s.memberIds.find? (fun m => s.memberMac m == f.src) = none → ∃ t, exec (.budgetAck f) s = .next t ∧
      t.segment.members = s.segment.members ∧ t.obj 0x7001 9 = min (s.obj 0x7001 9 + 1) 0xFFFFFFFF) ∧
  (∀ s : State, s.coordinates = true → s.everyH 1000 = true → s.clock.quality = 3 → ∃ t r,
    exec .timeBroadcast s = .next t ∧ t.muriri.tx = [r] ∧ r.kind = 0x40 ∧ r.dst = broadcastMac ∧
    r.body = bytesLE 8 s.timeField ++ bytesLE 8 0 ∧
    t = { s with muriri := t.muriri, free := t.free, icu := t.icu, od := t.od }) ∧
  (∀ (f : Frame) (x : Nat) (s : State), s.gets f 0x40 → s.role = 2 → f.src = s.obj 0x7000 3 → s.sameSchema f = true →
    s.clock.quality < 3 → ∃ t, exec (.time f x) s = .next t ∧ t.segment = { s.segment with
        timeOffset := (field (bodyOf f) 0 8 % 2 ^ 62 : Nat) + (s.obj 0x7000 6 : Int) - (x : Int) } ∧
      t.clock.quality = 2 ∧ t.clock.lastSet = s.tb.now ∧
      t.obj 0x7000 0x0E = min (s.obj 0x7000 0x0E + 1) 0xFFFFFFFF) ∧
  (∀ s : State, (s.coordinates = false ∨ s.everyH 10 = false) → exec .budgetFormation s = .next s) ∧
  (∀ s : State, (s.tb.gclk = false ∨ s.segment.role ≠ 2) → exec .coordinatorLoss s = .next s) ∧
  (∀ s : State, s.segment.foreign = none → exec .foreignBudgetCauseEnd s = .next s) ∧
  ∀ s : State, (s.coordinates = false ∨ s.everyH 1000 = false ∨ s.clock.quality ≠ 3) → exec .timeBroadcast s = .next s

/-- With the Governor not OFF. SCAN_MODE_ENTRY outside gov_rst_n: TRIP with its latch set; under it only the latch and its
cause. EXTEST while trip_out is asserted is loaded and sets the trip latch, and is BYPASS otherwise. SAMPLE_PRELOAD
and INSTR load their code; IDCODE also captures the device identification; a code not listed is BYPASS. FUSE_WRITE of
the serial number, the key and the lock while trip_out is asserted writes its field before the lock; after it these
and the key version keep, a revocation bit is set and the minimum version only rises. MEMORY_BIST, OXS_T_TRIM of a
cell and CLOCK_TRIM keep what they are given while trip_out is asserted; at any other time they and FUSE_WRITE change
nothing. -/
def Obligations.TestAccess : Prop :=
  (∀ s : State, s.gov.st ≠ .off → s.gov.govRstLow = false → ∃ t, exec .scanModeEntry s = .next t ∧ t.gov.st = .trip ∧
    t.gov.tripLatch = true ∧ t.gov.scanMode = true ∧ t.gov.tripCause = 4 ∧ Spares t s) ∧
  (∀ s : State, s.gov.st ≠ .off → s.gov.govRstLow = true → exec .scanModeEntry s = .next { s with
    gov := { s.gov with tripLatch := true, tripCause := 4 } }) ∧
  (∀ s : State, s.gov.st ≠ .off → s.tripOut = true → ∃ t, exec .extest s = .next t ∧ t.test.ir = 0x00#8 ∧
    t.gov.tripLatch = true ∧ Spares t s) ∧
  (∀ s : State, s.gov.st ≠ .off → s.tripOut = false → exec .extest s = .next { s with test := { s.test with ir := 0xFF } }) ∧
  (∀ s : State, s.gov.st ≠ .off → exec .samplePreload s = .next { s with test := { s.test with ir := 0x01 } } ∧
    exec .instr s = .next { s with test := { s.test with ir := 0x10 } } ∧
    exec .idcode s = .next { s with test := { s.test with ir := 0x02, idcode := idcodeWord s.cfg } }) ∧
  (∀ (c : BitVec 8) (s : State), s.gov.st ≠ .off → tapListed c = false →
    exec (.bypass c) s = .next { s with test := { s.test with ir := c } }) ∧
  (∀ (v : Nat) (s : State), s.gov.st ≠ .off → s.tripOut = true → s.test.fuses.lock = false →
    exec (.fuseWrite .serial v) s = .next { s with test := { s.test with
      fuses := { s.test.fuses with serial := v % 2 ^ 64 } } } ∧
    exec (.fuseWrite .key v) s = .next { s with test := { s.test with
      fuses := { s.test.fuses with key := BitVec.ofNat 256 v } } } ∧
    exec (.fuseWrite .lock v) s = .next { s with test := { s.test with
      fuses := { s.test.fuses with lock := s.test.fuses.lock || v != 0 } } }) ∧
  (∀ (v : Nat) (s : State), s.gov.st ≠ .off → s.tripOut = true → s.test.fuses.lock = true →
    exec (.fuseWrite .serial v) s = .next s ∧ exec (.fuseWrite .key v) s = .next s ∧
    exec (.fuseWrite .keyVersion v) s = .next s ∧ exec (.fuseWrite .lock v) s = .next s ∧
    exec (.fuseWrite .revokeSlot v) s = .next { s with test := { s.test with
      fuses := { s.test.fuses with revoked := s.test.fuses.revoked ||| 2 ^ (v % 8) } } } ∧
    exec (.fuseWrite .minSecurity v) s = .next { s with test := { s.test with
      fuses := { s.test.fuses with minSecurity := max s.test.fuses.minSecurity (v % 2 ^ 32) } } }) ∧
  (∀ (g n : Nat) (p : Bool) (x y : Int) (s : State), s.gov.st ≠ .off → s.tripOut = true → n < 256 →
    exec (.memoryBist g p) s = .next { s with test := { s.test with bist := tset s.test.bist g p } } ∧
    exec (.oxsTTrim n x y) s = .next { s with test := { s.test with trims := tset s.test.trims n (x, y) } } ∧
    exec (.clockTrim x) s = .next { s with test := { s.test with clockTrim := x } }) ∧
  ∀ (fld : FuseField) (v g n : Nat) (p : Bool) (x y : Int) (s : State), s.tripOut = false →
    exec (.fuseWrite fld v) s = .next s ∧ exec (.memoryBist g p) s = .next s ∧ exec (.oxsTTrim n x y) s = .next s ∧
    exec (.clockTrim x) s = .next s

/-- With the ports up. REGISTER_WRITE at a multiple of 8: in the message RAM the bytes whose strobes are set are written,
and a whole word clears the word's poison; in OBJ_DATA the same of the window's buffer. Elsewhere a write without all
strobes changes nothing but the time of last use. A register listed here that has a command of its own acts as that
command by agent 4; OXG_CMD writes the argument and then the command; the fault status register acknowledges, where no
cause is held; the Daybook page takes its bits. At an address that is no multiple of 8 nothing happens. -/
def Obligations.RegisterWrites : Prop :=
  (∀ (a : Nat) (b : BitVec 8) (w : W64) (s : State), a % 8 ≠ 0 → exec (.registerWrite a b w) s = .next s) ∧
  (∀ (a : Nat) (b : BitVec 8) (w : W64) (s : State), a % 8 = 0 → a < 0x10000 → s.busUp →
    Memory.wf s.mram = true → ∃ t, exec (.registerWrite (0x40000 + a) b w) s = .next t ∧
      (∀ i < 8, mread t.mram (a + i) = if b.getLsbD i then BitVec.ofNat 8 (w.toNat / 256 ^ i) else mread s.mram (a + i)) ∧
      (∀ k, (k < a ∨ a + 8 ≤ k) → mread t.mram k = mread s.mram k) ∧
      t.poison = (if b = 0xFF then s.poison.filter (· != (.message, a / 8)) else s.poison) ∧
      t = { s.touch with mram := t.mram, poison := t.poison }) ∧
  (∀ (a : Nat) (b : BitVec 8) (w : W64) (s : State), a % 8 = 0 → a < 0x1000 → s.busUp →
    exec (.registerWrite (0x11000 + a) b w) s = .next { s.touch with
      window := { s.window with data := strobedWrite s.window.data a b w } }) ∧
  (∀ (a : Nat) (b : BitVec 8) (w : W64) (s : State), a % 8 = 0 → b ≠ 0xFF → ¬(0x40000 ≤ a ∧ a < 0x50000) →
    ¬(0x11000 ≤ a ∧ a < 0x12000) → s.busUp → exec (.registerWrite a b w) s = .next s.touch) ∧
  (∀ (k : Nat) (w : W64) (s : State), exec (.registerWrite 0x2008 0xFF w) s = exec (.doorbell w) s ∧
    exec (.registerWrite 0x2010 0xFF w) s = exec (.configureSource w) s ∧
    (k < 6 → exec (.registerWrite (0x2048 + 16 * k) 0xFF w) s = exec (.complete 4 k w) s) ∧
    (k < 6 → exec (.registerWrite (0x20C0 + 8 * k) 0xFF w) s = exec (.targetConfigWrite 4 k w) s) ∧
    (k < 16 → exec (.registerWrite (0x2200 + 8 * k) 0xFF w) s = exec (.pendSet k w) s) ∧
    (k < 16 → exec (.registerWrite (0x2280 + 8 * k) 0xFF w) s = exec (.pendClr k w) s) ∧
    (k < 16 → exec (.registerWrite (0x2300 + 8 * k) 0xFF w) s = exec (.maskSet k w) s) ∧
    (k < 16 → exec (.registerWrite (0x2380 + 8 * k) 0xFF w) s = exec (.maskClr k w) s) ∧
    (k < 32 → exec (.registerWrite (0x2C00 + 8 * k) 0xFF w) s = exec (.watchWrite k w) s) ∧
    (k < 64 → exec (.registerWrite (0x4000 + 64 * k) 0xFF w) s = exec (.post 4 k w) s) ∧
    (k < 64 → exec (.registerWrite (0x4030 + 64 * k) 0xFF w) s = exec (.free 4 k w) s) ∧
    exec (.registerWrite 0x10010 0xFF w) s = exec (.objectWindowWrite w) s) ∧
  (∀ (w : W64) (s : State), s.busUp → exec (.registerWrite 0x1018 0xFF w) s = .next
    ((s.touch.writeObject windowSession 0x3400 9 (bytesLE 1 (bits w.toNat 15 8)) 0).writeObject windowSession 0x3400 8
      (bytesLE 1 (bits w.toNat 7 0)) 0)) ∧
  (∀ (w : W64) (s : State), s.busUp → (∀ n < 64, (s.pin n).held = []) →
    ∃ t, exec (.registerWrite 0x8000 0xFF w) s = .next t ∧
      (∀ n < 64, w.getLsbD n = true → (t.pin n).latched = false) ∧ Noted t s.touch) ∧
  ∀ (w : W64) (s : State), s.busUp → exec (.registerWrite 0x9020 0xFF w) s = .next { s.touch with
    recorder := { s.recorder with page := bits w.toNat 3 0 } }

/-- While GCLK is stopped, the Governor not OFF and not under gov_rst_n: each register access of the list by host
software, its indices in range, waits for lock at the end of those that wait, and outside BOOT the clock is being
woken; a frame addressed to the Governor outside BOOT does the same. Nothing else changes. -/
def Obligations.WaitForClock : Prop :=
  (∀ (c i k o : Nat) (w : W64) (s : State), s.tb.gclk = false → s.gov.st ≠ .off → s.gov.govRstLow = false →
    c < 64 → i < 16 → k < 6 → o < 0x4000 →
    ∀ x ∈ ([.doorbell w, .configureSource w, .claim 4 k, .complete 4 k w, .pendSet i w, .pendClr i w, .maskSet i w,
        .maskClr i w, .icuPlainWrite .pend i w, .targetConfigWrite 4 k w, .watchWrite i w, .post 4 c w, .take 4 c,
        .free 4 c w, .ackClear 4 c w, .tostClear 4 c w, .mailboxMaskWrite 4 c w, .objectWindowClaim,
        .objectWindowRelease w, .objectWindowRead w, .objectWindowWrite w, .g3Read (4 * o)] : List Instr),
      exec x s = .next { s with tb := { s.tb with
        waiting := s.tb.waiting ++ [x], waking := s.tb.waking || !s.gov.booting } }) ∧
  ∀ (f : Frame) (y : Nat) (s : State), s.tb.gclk = false → s.gov.st ≠ .off → s.gov.govRstLow = false →
    s.gov.booting = false → s.addressed f = true → s.hears f = false →
    ∀ x ∈ ([.muOpen f, .muClose f, .muRead f, .muWrite f, .muReadInit f, .muWriteInit f, .muSegment f, .muSegmentAck f,
        .muAbort f, .eventAck f, .budget f, .budgetAck f, .time f y] : List Instr),
      exec x s = .next { s with tb := { s.tb with waiting := s.tb.waiting ++ [x], waking := true } }
end

