-- ==== Sys2Proof/Laws/Tables.lean ====
section
/-! SUPPORT. Laws of sparse tables, of byte memories and of loops over lists. -/

namespace Sys2Proof.Machine

/-! ### Sparse tables -/

/-- A record reads back as it was written. -/
@[simp] theorem tget_tset_same {α : Type} (t : Tbl α) (k : Nat) (v d : α) : tget (tset t k v) k d = v := by
  induction t with
  | nil => simp [tset, tget]
  | cons p rest ih =>
    obtain ⟨j, w⟩ := p
    by_cases h : j = k
    · simp [tset, tget, h]
    · by_cases hk : k < j <;> simp [tset, tget, h, hk, ih]

/-- Writing a record leaves every other record alone. -/
theorem tget_tset_ne {α : Type} (t : Tbl α) {k j : Nat} (v d : α) (h : j ≠ k) :
    tget (tset t k v) j d = tget t j d := by
  induction t with
  | nil => simp [tset, tget, Ne.symm h]
  | cons p rest ih =>
    obtain ⟨i, w⟩ := p
    by_cases hi : i = k
    · subst hi; simp [tset, tget, Ne.symm h]
    · by_cases hk : k < i <;> simp [tset, tget, hi, hk, ih, Ne.symm h]

/-- A record after one write. -/
theorem tget_tset {α : Type} (t : Tbl α) (k j : Nat) (v d : α) :
    tget (tset t k v) j d = if j = k then v else tget t j d := by
  split
  · next h => subst h; simp
  · next h => exact tget_tset_ne t v d h

/-! ### Byte memories -/

theorem risingFrom_weaken {lo lo' : Nat} {m : List Host.Cell} (h : risingFrom lo m = true) (hl : lo' ≤ lo) :
    risingFrom lo' m = true := by
  cases m with
  | nil => rfl
  | cons p rest =>
    obtain ⟨a, b⟩ := p
    simp only [risingFrom, Bool.and_eq_true, decide_eq_true_eq] at h ⊢
    exact ⟨⟨by omega, h.1.2⟩, h.2⟩

theorem risingFrom_merase {lo : Nat} {m : List Host.Cell} (a : Nat) (h : risingFrom lo m = true) :
    risingFrom lo (merase m a) = true := by
  induction m generalizing lo with
  | nil => rfl
  | cons p rest ih =>
    obtain ⟨j, v⟩ := p
    simp only [risingFrom, Bool.and_eq_true, decide_eq_true_eq] at h
    unfold merase
    split
    · exact risingFrom_weaken h.2 (by omega)
    · simp only [risingFrom, Bool.and_eq_true, decide_eq_true_eq]
      exact ⟨h.1, ih h.2⟩

theorem risingFrom_minsert {lo : Nat} {m : List Host.Cell} {a : Nat} {b : Byte} (h : risingFrom lo m = true)
    (hl : lo ≤ a) (hb : (b != 0) = true) : risingFrom lo (minsert m a b) = true := by
  induction m generalizing lo with
  | nil => simpa [minsert, risingFrom, hl] using hb
  | cons p rest ih =>
    obtain ⟨j, v⟩ := p
    simp only [risingFrom, Bool.and_eq_true, decide_eq_true_eq] at h
    unfold minsert
    split
    · next e =>
      subst e
      simp only [risingFrom, Bool.and_eq_true, decide_eq_true_eq]
      exact ⟨⟨hl, hb⟩, h.2⟩
    · split
      · simp only [risingFrom, Bool.and_eq_true, decide_eq_true_eq]
        exact ⟨⟨hl, hb⟩, ⟨by omega, h.1.2⟩, h.2⟩
      · simp only [risingFrom, Bool.and_eq_true, decide_eq_true_eq]
        exact ⟨h.1, ih h.2 (by omega)⟩

/-- Writing one byte keeps the canonical form. -/
theorem Memory.wf_mwrite {m : List Host.Cell} (a : Nat) (b : Byte) (h : Memory.wf m = true) :
    Memory.wf (mwrite m a b) = true := by
  unfold mwrite
  split
  · exact risingFrom_merase a h
  · next hb => exact risingFrom_minsert h (Nat.zero_le a) (by simpa using hb)

/-- Writing a run of bytes keeps the canonical form. -/
theorem Memory.wf_mwriteBytes {m : List Host.Cell} (a : Nat) (bs : List Byte) (h : Memory.wf m = true) :
    Memory.wf (mwriteBytes m a bs) = true := by
  induction bs generalizing m a with
  | nil => exact h
  | cons b rest ih => exact ih (a + 1) (Memory.wf_mwrite a b h)

theorem risingFrom_filter {lo : Nat} {m : List Host.Cell} (f : Host.Cell → Bool) (h : risingFrom lo m = true) :
    risingFrom lo (m.filter f) = true := by
  induction m generalizing lo with
  | nil => rfl
  | cons p rest ih =>
    obtain ⟨j, v⟩ := p
    simp only [risingFrom, Bool.and_eq_true, decide_eq_true_eq] at h
    rw [List.filter_cons]
    split
    · simp only [risingFrom, Bool.and_eq_true, decide_eq_true_eq]
      exact ⟨h.1, ih h.2⟩
    · exact risingFrom_weaken (ih h.2) (by omega)

/-- Clearing a range keeps the canonical form. -/
theorem Memory.wf_mclear {m : List Host.Cell} (lo hi : Nat) (h : Memory.wf m = true) :
    Memory.wf (mclear m lo hi) = true := risingFrom_filter _ h

theorem mread_below {lo : Nat} {m : List Host.Cell} {a : Nat} (h : risingFrom lo m = true) (hl : a < lo) :
    mread m a = 0 := by
  induction m generalizing lo with
  | nil => rfl
  | cons p rest ih =>
    obtain ⟨j, v⟩ := p
    simp only [risingFrom, Bool.and_eq_true, decide_eq_true_eq] at h
    rw [mread, if_neg (by omega)]
    exact ih h.2 (by omega)

theorem mread_merase {lo : Nat} {m : List Host.Cell} (a c : Nat) (h : risingFrom lo m = true) :
    mread (merase m a) c = if c = a then 0 else mread m c := by
  induction m generalizing lo with
  | nil => simp [merase, mread]
  | cons p rest ih =>
    obtain ⟨j, v⟩ := p
    simp only [risingFrom, Bool.and_eq_true, decide_eq_true_eq] at h
    unfold merase
    split
    · next e =>
      subst e
      split
      · next e => subst e; exact mread_below h.2 (by omega)
      · next e => rw [mread, if_neg (Ne.symm e)]
    · next e =>
      rw [mread, mread, ih h.2]
      split
      · next e2 => subst e2; rw [if_neg e]
      · rfl

theorem mread_minsert (m : List Host.Cell) (a c : Nat) (b : Byte) :
    mread (minsert m a b) c = if c = a then b else mread m c := by
  induction m with
  | nil => simp only [minsert, mread]; split <;> split <;> simp_all
  | cons p rest ih =>
    obtain ⟨j, v⟩ := p
    unfold minsert
    by_cases hj : j = a
    · subst hj
      simp only [if_true, mread]
      by_cases hc : c = j
      · simp [hc]
      · simp [hc, Ne.symm hc]
    · by_cases hl : a < j
      · simp only [hj, hl, if_true, if_false, mread]
        by_cases hc : c = a
        · simp [hc]
        · simp [hc, Ne.symm hc]
      · simp only [hj, hl, if_false, mread, ih]
        by_cases hc : c = a
        · subst hc; simp [hj]
        · simp [hc]

/-- A byte after one write: the byte written there, every other byte as before. -/
theorem mread_mwrite {m : List Host.Cell} (a c : Nat) (b : Byte) (h : Memory.wf m = true) :
    mread (mwrite m a b) c = if c = a then b else mread m c := by
  unfold mwrite
  split
  · next e => subst e; exact mread_merase a c h
  · exact mread_minsert m a c b

/-- A byte outside a run of bytes written is as before. -/
theorem mread_mwriteBytes_outside {m : List Host.Cell} (a c : Nat) (bs : List Byte) (h : Memory.wf m = true)
    (ho : c < a ∨ a + bs.length ≤ c) : mread (mwriteBytes m a bs) c = mread m c := by
  induction bs generalizing m a with
  | nil => rfl
  | cons b rest ih =>
    simp only [List.length_cons] at ho
    rw [mwriteBytes, ih (a + 1) (Memory.wf_mwrite a b h) (by omega), mread_mwrite a c b h, if_neg (by omega)]

/-- The bytes of a run read back as they were written. -/
theorem mread_mwriteBytes_inside {m : List Host.Cell} (a i : Nat) (bs : List Byte) (h : Memory.wf m = true)
    (hi : i < bs.length) : mread (mwriteBytes m a bs) (a + i) = bs[i] := by
  induction bs generalizing m a i with
  | nil => simp at hi
  | cons b rest ih =>
    cases i with
    | zero =>
      rw [mwriteBytes, mread_mwriteBytes_outside _ _ _ (Memory.wf_mwrite a b h) (by omega), mread_mwrite a _ b h]
      simp
    | succ k =>
      simp only [List.length_cons] at hi
      have := ih (m := mwrite m a b) (a + 1) k (Memory.wf_mwrite a b h) (by omega)
      rw [mwriteBytes, show a + (k + 1) = a + 1 + k by omega, this]
      simp

/-! ### Loops -/

/-- What every turn of a loop keeps, the loop keeps. -/
theorem each_keeps {σ α β : Type} (g : σ → β) {f : σ → α → σ} (h : ∀ s x, g (f s x) = g s) (l : List α) (s : σ) :
    g (each l f s) = g s := by
  induction l generalizing s with
  | nil => rfl
  | cons x rest ih => exact (ih (f s x)).trans (h s x)

/-- A property that every turn of a loop carries on holds after the loop. -/
theorem each_carries {σ α : Type} (P : σ → Prop) {f : σ → α → σ} (h : ∀ s x, P s → P (f s x)) (l : List α) (s : σ)
    (hs : P s) : P (each l f s) := by
  induction l generalizing s with
  | nil => exact hs
  | cons x rest ih => exact ih (f s x) (h s x hs)

@[simp] theorem each_nil {σ α : Type} (f : σ → α → σ) (s : σ) : each [] f s = s := rfl

@[simp] theorem each_cons {σ α : Type} (f : σ → α → σ) (x : α) (l : List α) (s : σ) :
    each (x :: l) f s = each l f (f s x) := rfl

end Sys2Proof.Machine
end

