-- ==== Sys2Proof/Laws/State.lean ====
section
/-! SUPPORT. What each named update of the state leaves alone, field by field, and what it makes of the record it writes. -/

namespace Sys2Proof.Machine

@[simp] theorem State.atTime_frame (s : State) (t : Nat) :
    (s.atTime t).pending = s.pending ∧ (s.atTime t).cfg = s.cfg ∧ (s.atTime t).free = s.free ∧
    (s.atTime t).gov = s.gov ∧ (s.atTime t).od = s.od ∧ (s.atTime t).desc = s.desc ∧ (s.atTime t).pins = s.pins ∧
    (s.atTime t).recorder = s.recorder ∧ (s.atTime t).clock = s.clock ∧ (s.atTime t).dumps = s.dumps ∧
    (s.atTime t).icu = s.icu ∧ (s.atTime t).channels = s.channels ∧ (s.atTime t).epochs = s.epochs ∧
    (s.atTime t).mram = s.mram ∧ (s.atTime t).replies = s.replies ∧ (s.atTime t).lanes = s.lanes ∧
    (s.atTime t).rails = s.rails ∧ (s.atTime t).senseTaps = s.senseTaps ∧ (s.atTime t).events = s.events ∧
    (s.atTime t).domains = s.domains ∧ (s.atTime t).droops = s.droops ∧ (s.atTime t).taps = s.taps ∧
    (s.atTime t).groups = s.groups ∧ (s.atTime t).windowRecs = s.windowRecs ∧ (s.atTime t).arrays = s.arrays ∧
    (s.atTime t).rings = s.rings ∧ (s.atTime t).sweepRing = s.sweepRing ∧ (s.atTime t).dither = s.dither ∧
    (s.atTime t).shapers = s.shapers ∧ (s.atTime t).tally = s.tally ∧ (s.atTime t).laws = s.laws ∧
    (s.atTime t).injector = s.injector ∧ (s.atTime t).capture = s.capture ∧ (s.atTime t).sensors = s.sensors ∧
    (s.atTime t).regions = s.regions ∧ (s.atTime t).thermal = s.thermal ∧ (s.atTime t).assayer = s.assayer ∧
    (s.atTime t).cores = s.cores ∧ (s.atTime t).update = s.update ∧ (s.atTime t).host = s.host ∧
    (s.atTime t).answer = s.answer ∧ (s.atTime t).window = s.window ∧ (s.atTime t).access = s.access ∧
    (s.atTime t).muriri = s.muriri ∧ (s.atTime t).segment = s.segment ∧ (s.atTime t).test = s.test ∧
    (s.atTime t).poison = s.poison :=
  ⟨rfl, rfl, rfl, rfl, rfl, rfl, rfl, rfl, rfl, rfl, rfl, rfl, rfl, rfl, rfl, rfl, rfl, rfl, rfl, rfl, rfl, rfl,
    rfl, rfl, rfl, rfl, rfl, rfl, rfl, rfl, rfl, rfl, rfl, rfl, rfl, rfl, rfl, rfl, rfl, rfl, rfl, rfl, rfl, rfl,
    rfl, rfl, rfl⟩

@[simp] theorem State.touch_frame (s : State) :
    (s.touch).pending = s.pending ∧ (s.touch).cfg = s.cfg ∧ (s.touch).free = s.free ∧ (s.touch).gov = s.gov ∧
    (s.touch).od = s.od ∧ (s.touch).desc = s.desc ∧ (s.touch).pins = s.pins ∧ (s.touch).recorder = s.recorder ∧
    (s.touch).clock = s.clock ∧ (s.touch).dumps = s.dumps ∧ (s.touch).icu = s.icu ∧
    (s.touch).channels = s.channels ∧ (s.touch).epochs = s.epochs ∧ (s.touch).mram = s.mram ∧
    (s.touch).replies = s.replies ∧ (s.touch).lanes = s.lanes ∧ (s.touch).rails = s.rails ∧
    (s.touch).senseTaps = s.senseTaps ∧ (s.touch).events = s.events ∧ (s.touch).domains = s.domains ∧
    (s.touch).droops = s.droops ∧ (s.touch).taps = s.taps ∧ (s.touch).groups = s.groups ∧
    (s.touch).windowRecs = s.windowRecs ∧ (s.touch).arrays = s.arrays ∧ (s.touch).rings = s.rings ∧
    (s.touch).sweepRing = s.sweepRing ∧ (s.touch).dither = s.dither ∧ (s.touch).shapers = s.shapers ∧
    (s.touch).tally = s.tally ∧ (s.touch).laws = s.laws ∧ (s.touch).injector = s.injector ∧
    (s.touch).capture = s.capture ∧ (s.touch).sensors = s.sensors ∧ (s.touch).regions = s.regions ∧
    (s.touch).thermal = s.thermal ∧ (s.touch).assayer = s.assayer ∧ (s.touch).cores = s.cores ∧
    (s.touch).update = s.update ∧ (s.touch).host = s.host ∧ (s.touch).answer = s.answer ∧
    (s.touch).window = s.window ∧ (s.touch).access = s.access ∧ (s.touch).muriri = s.muriri ∧
    (s.touch).segment = s.segment ∧ (s.touch).test = s.test ∧ (s.touch).poison = s.poison :=
  ⟨rfl, rfl, rfl, rfl, rfl, rfl, rfl, rfl, rfl, rfl, rfl, rfl, rfl, rfl, rfl, rfl, rfl, rfl, rfl, rfl, rfl, rfl,
    rfl, rfl, rfl, rfl, rfl, rfl, rfl, rfl, rfl, rfl, rfl, rfl, rfl, rfl, rfl, rfl, rfl, rfl, rfl, rfl, rfl, rfl,
    rfl, rfl, rfl⟩

@[simp] theorem State.setObj_frame (s : State) (i j v : Nat) :
    (s.setObj i j v).pending = s.pending ∧ (s.setObj i j v).cfg = s.cfg ∧ (s.setObj i j v).free = s.free ∧
    (s.setObj i j v).tb = s.tb ∧ (s.setObj i j v).gov = s.gov ∧ (s.setObj i j v).desc = s.desc ∧
    (s.setObj i j v).pins = s.pins ∧ (s.setObj i j v).recorder = s.recorder ∧ (s.setObj i j v).clock = s.clock ∧
    (s.setObj i j v).dumps = s.dumps ∧ (s.setObj i j v).icu = s.icu ∧ (s.setObj i j v).channels = s.channels ∧
    (s.setObj i j v).epochs = s.epochs ∧ (s.setObj i j v).mram = s.mram ∧ (s.setObj i j v).replies = s.replies ∧
    (s.setObj i j v).lanes = s.lanes ∧ (s.setObj i j v).rails = s.rails ∧ (s.setObj i j v).senseTaps = s.senseTaps ∧
    (s.setObj i j v).events = s.events ∧ (s.setObj i j v).domains = s.domains ∧ (s.setObj i j v).droops = s.droops ∧
    (s.setObj i j v).taps = s.taps ∧ (s.setObj i j v).groups = s.groups ∧
    (s.setObj i j v).windowRecs = s.windowRecs ∧ (s.setObj i j v).arrays = s.arrays ∧
    (s.setObj i j v).rings = s.rings ∧ (s.setObj i j v).sweepRing = s.sweepRing ∧
    (s.setObj i j v).dither = s.dither ∧ (s.setObj i j v).shapers = s.shapers ∧ (s.setObj i j v).tally = s.tally ∧
    (s.setObj i j v).laws = s.laws ∧ (s.setObj i j v).injector = s.injector ∧ (s.setObj i j v).capture = s.capture ∧
    (s.setObj i j v).sensors = s.sensors ∧ (s.setObj i j v).regions = s.regions ∧
    (s.setObj i j v).thermal = s.thermal ∧ (s.setObj i j v).assayer = s.assayer ∧ (s.setObj i j v).cores = s.cores ∧
    (s.setObj i j v).update = s.update ∧ (s.setObj i j v).host = s.host ∧ (s.setObj i j v).answer = s.answer ∧
    (s.setObj i j v).window = s.window ∧ (s.setObj i j v).access = s.access ∧ (s.setObj i j v).muriri = s.muriri ∧
    (s.setObj i j v).segment = s.segment ∧ (s.setObj i j v).test = s.test ∧ (s.setObj i j v).poison = s.poison :=
  ⟨rfl, rfl, rfl, rfl, rfl, rfl, rfl, rfl, rfl, rfl, rfl, rfl, rfl, rfl, rfl, rfl, rfl, rfl, rfl, rfl, rfl, rfl,
    rfl, rfl, rfl, rfl, rfl, rfl, rfl, rfl, rfl, rfl, rfl, rfl, rfl, rfl, rfl, rfl, rfl, rfl, rfl, rfl, rfl, rfl,
    rfl, rfl, rfl⟩

@[simp] theorem State.setPin_frame (s : State) (n : Nat) (v : Pin) :
    (s.setPin n v).pending = s.pending ∧ (s.setPin n v).cfg = s.cfg ∧ (s.setPin n v).free = s.free ∧
    (s.setPin n v).tb = s.tb ∧ (s.setPin n v).gov = s.gov ∧ (s.setPin n v).od = s.od ∧
    (s.setPin n v).desc = s.desc ∧ (s.setPin n v).recorder = s.recorder ∧ (s.setPin n v).clock = s.clock ∧
    (s.setPin n v).dumps = s.dumps ∧ (s.setPin n v).icu = s.icu ∧ (s.setPin n v).channels = s.channels ∧
    (s.setPin n v).epochs = s.epochs ∧ (s.setPin n v).mram = s.mram ∧ (s.setPin n v).replies = s.replies ∧
    (s.setPin n v).lanes = s.lanes ∧ (s.setPin n v).rails = s.rails ∧ (s.setPin n v).senseTaps = s.senseTaps ∧
    (s.setPin n v).events = s.events ∧ (s.setPin n v).domains = s.domains ∧ (s.setPin n v).droops = s.droops ∧
    (s.setPin n v).taps = s.taps ∧ (s.setPin n v).groups = s.groups ∧ (s.setPin n v).windowRecs = s.windowRecs ∧
    (s.setPin n v).arrays = s.arrays ∧ (s.setPin n v).rings = s.rings ∧ (s.setPin n v).sweepRing = s.sweepRing ∧
    (s.setPin n v).dither = s.dither ∧ (s.setPin n v).shapers = s.shapers ∧ (s.setPin n v).tally = s.tally ∧
    (s.setPin n v).laws = s.laws ∧ (s.setPin n v).injector = s.injector ∧ (s.setPin n v).capture = s.capture ∧
    (s.setPin n v).sensors = s.sensors ∧ (s.setPin n v).regions = s.regions ∧ (s.setPin n v).thermal = s.thermal ∧
    (s.setPin n v).assayer = s.assayer ∧ (s.setPin n v).cores = s.cores ∧ (s.setPin n v).update = s.update ∧
    (s.setPin n v).host = s.host ∧ (s.setPin n v).answer = s.answer ∧ (s.setPin n v).window = s.window ∧
    (s.setPin n v).access = s.access ∧ (s.setPin n v).muriri = s.muriri ∧ (s.setPin n v).segment = s.segment ∧
    (s.setPin n v).test = s.test ∧ (s.setPin n v).poison = s.poison :=
  ⟨rfl, rfl, rfl, rfl, rfl, rfl, rfl, rfl, rfl, rfl, rfl, rfl, rfl, rfl, rfl, rfl, rfl, rfl, rfl, rfl, rfl, rfl,
    rfl, rfl, rfl, rfl, rfl, rfl, rfl, rfl, rfl, rfl, rfl, rfl, rfl, rfl, rfl, rfl, rfl, rfl, rfl, rfl, rfl, rfl,
    rfl, rfl, rfl⟩

@[simp] theorem State.setChannel_frame (s : State) (n : Nat) (v : Channel) :
    (s.setChannel n v).pending = s.pending ∧ (s.setChannel n v).cfg = s.cfg ∧ (s.setChannel n v).free = s.free ∧
    (s.setChannel n v).tb = s.tb ∧ (s.setChannel n v).gov = s.gov ∧ (s.setChannel n v).od = s.od ∧
    (s.setChannel n v).desc = s.desc ∧ (s.setChannel n v).pins = s.pins ∧ (s.setChannel n v).recorder = s.recorder ∧
    (s.setChannel n v).clock = s.clock ∧ (s.setChannel n v).dumps = s.dumps ∧ (s.setChannel n v).icu = s.icu ∧
    (s.setChannel n v).epochs = s.epochs ∧ (s.setChannel n v).mram = s.mram ∧
    (s.setChannel n v).replies = s.replies ∧ (s.setChannel n v).lanes = s.lanes ∧
    (s.setChannel n v).rails = s.rails ∧ (s.setChannel n v).senseTaps = s.senseTaps ∧
    (s.setChannel n v).events = s.events ∧ (s.setChannel n v).domains = s.domains ∧
    (s.setChannel n v).droops = s.droops ∧ (s.setChannel n v).taps = s.taps ∧ (s.setChannel n v).groups = s.groups ∧
    (s.setChannel n v).windowRecs = s.windowRecs ∧ (s.setChannel n v).arrays = s.arrays ∧
    (s.setChannel n v).rings = s.rings ∧ (s.setChannel n v).sweepRing = s.sweepRing ∧
    (s.setChannel n v).dither = s.dither ∧ (s.setChannel n v).shapers = s.shapers ∧
    (s.setChannel n v).tally = s.tally ∧ (s.setChannel n v).laws = s.laws ∧
    (s.setChannel n v).injector = s.injector ∧ (s.setChannel n v).capture = s.capture ∧
    (s.setChannel n v).sensors = s.sensors ∧ (s.setChannel n v).regions = s.regions ∧
    (s.setChannel n v).thermal = s.thermal ∧ (s.setChannel n v).assayer = s.assayer ∧
    (s.setChannel n v).cores = s.cores ∧ (s.setChannel n v).update = s.update ∧ (s.setChannel n v).host = s.host ∧
    (s.setChannel n v).answer = s.answer ∧ (s.setChannel n v).window = s.window ∧
    (s.setChannel n v).access = s.access ∧ (s.setChannel n v).muriri = s.muriri ∧
    (s.setChannel n v).segment = s.segment ∧ (s.setChannel n v).test = s.test ∧ (s.setChannel n v).poison = s.poison :=
  ⟨rfl, rfl, rfl, rfl, rfl, rfl, rfl, rfl, rfl, rfl, rfl, rfl, rfl, rfl, rfl, rfl, rfl, rfl, rfl, rfl, rfl, rfl,
    rfl, rfl, rfl, rfl, rfl, rfl, rfl, rfl, rfl, rfl, rfl, rfl, rfl, rfl, rfl, rfl, rfl, rfl, rfl, rfl, rfl, rfl,
    rfl, rfl, rfl⟩

@[simp] theorem State.setRail_frame (s : State) (n : Nat) (v : Rail) :
    (s.setRail n v).pending = s.pending ∧ (s.setRail n v).cfg = s.cfg ∧ (s.setRail n v).free = s.free ∧
    (s.setRail n v).tb = s.tb ∧ (s.setRail n v).gov = s.gov ∧ (s.setRail n v).od = s.od ∧
    (s.setRail n v).desc = s.desc ∧ (s.setRail n v).pins = s.pins ∧ (s.setRail n v).recorder = s.recorder ∧
    (s.setRail n v).clock = s.clock ∧ (s.setRail n v).dumps = s.dumps ∧ (s.setRail n v).icu = s.icu ∧
    (s.setRail n v).channels = s.channels ∧ (s.setRail n v).epochs = s.epochs ∧ (s.setRail n v).mram = s.mram ∧
    (s.setRail n v).replies = s.replies ∧ (s.setRail n v).lanes = s.lanes ∧
    (s.setRail n v).senseTaps = s.senseTaps ∧ (s.setRail n v).events = s.events ∧
    (s.setRail n v).domains = s.domains ∧ (s.setRail n v).droops = s.droops ∧ (s.setRail n v).taps = s.taps ∧
    (s.setRail n v).groups = s.groups ∧ (s.setRail n v).windowRecs = s.windowRecs ∧
    (s.setRail n v).arrays = s.arrays ∧ (s.setRail n v).rings = s.rings ∧ (s.setRail n v).sweepRing = s.sweepRing ∧
    (s.setRail n v).dither = s.dither ∧ (s.setRail n v).shapers = s.shapers ∧ (s.setRail n v).tally = s.tally ∧
    (s.setRail n v).laws = s.laws ∧ (s.setRail n v).injector = s.injector ∧ (s.setRail n v).capture = s.capture ∧
    (s.setRail n v).sensors = s.sensors ∧ (s.setRail n v).regions = s.regions ∧
    (s.setRail n v).thermal = s.thermal ∧ (s.setRail n v).assayer = s.assayer ∧ (s.setRail n v).cores = s.cores ∧
    (s.setRail n v).update = s.update ∧ (s.setRail n v).host = s.host ∧ (s.setRail n v).answer = s.answer ∧
    (s.setRail n v).window = s.window ∧ (s.setRail n v).access = s.access ∧ (s.setRail n v).muriri = s.muriri ∧
    (s.setRail n v).segment = s.segment ∧ (s.setRail n v).test = s.test ∧ (s.setRail n v).poison = s.poison :=
  ⟨rfl, rfl, rfl, rfl, rfl, rfl, rfl, rfl, rfl, rfl, rfl, rfl, rfl, rfl, rfl, rfl, rfl, rfl, rfl, rfl, rfl, rfl,
    rfl, rfl, rfl, rfl, rfl, rfl, rfl, rfl, rfl, rfl, rfl, rfl, rfl, rfl, rfl, rfl, rfl, rfl, rfl, rfl, rfl, rfl,
    rfl, rfl, rfl⟩

@[simp] theorem State.setLane_frame (s : State) (n : Nat) (v : Lane) :
    (s.setLane n v).pending = s.pending ∧ (s.setLane n v).cfg = s.cfg ∧ (s.setLane n v).free = s.free ∧
    (s.setLane n v).tb = s.tb ∧ (s.setLane n v).gov = s.gov ∧ (s.setLane n v).od = s.od ∧
    (s.setLane n v).desc = s.desc ∧ (s.setLane n v).pins = s.pins ∧ (s.setLane n v).recorder = s.recorder ∧
    (s.setLane n v).clock = s.clock ∧ (s.setLane n v).dumps = s.dumps ∧ (s.setLane n v).icu = s.icu ∧
    (s.setLane n v).channels = s.channels ∧ (s.setLane n v).epochs = s.epochs ∧ (s.setLane n v).mram = s.mram ∧
    (s.setLane n v).replies = s.replies ∧ (s.setLane n v).rails = s.rails ∧
    (s.setLane n v).senseTaps = s.senseTaps ∧ (s.setLane n v).events = s.events ∧
    (s.setLane n v).domains = s.domains ∧ (s.setLane n v).droops = s.droops ∧ (s.setLane n v).taps = s.taps ∧
    (s.setLane n v).groups = s.groups ∧ (s.setLane n v).windowRecs = s.windowRecs ∧
    (s.setLane n v).arrays = s.arrays ∧ (s.setLane n v).rings = s.rings ∧ (s.setLane n v).sweepRing = s.sweepRing ∧
    (s.setLane n v).dither = s.dither ∧ (s.setLane n v).shapers = s.shapers ∧ (s.setLane n v).tally = s.tally ∧
    (s.setLane n v).laws = s.laws ∧ (s.setLane n v).injector = s.injector ∧ (s.setLane n v).capture = s.capture ∧
    (s.setLane n v).sensors = s.sensors ∧ (s.setLane n v).regions = s.regions ∧
    (s.setLane n v).thermal = s.thermal ∧ (s.setLane n v).assayer = s.assayer ∧ (s.setLane n v).cores = s.cores ∧
    (s.setLane n v).update = s.update ∧ (s.setLane n v).host = s.host ∧ (s.setLane n v).answer = s.answer ∧
    (s.setLane n v).window = s.window ∧ (s.setLane n v).access = s.access ∧ (s.setLane n v).muriri = s.muriri ∧
    (s.setLane n v).segment = s.segment ∧ (s.setLane n v).test = s.test ∧ (s.setLane n v).poison = s.poison :=
  ⟨rfl, rfl, rfl, rfl, rfl, rfl, rfl, rfl, rfl, rfl, rfl, rfl, rfl, rfl, rfl, rfl, rfl, rfl, rfl, rfl, rfl, rfl,
    rfl, rfl, rfl, rfl, rfl, rfl, rfl, rfl, rfl, rfl, rfl, rfl, rfl, rfl, rfl, rfl, rfl, rfl, rfl, rfl, rfl, rfl,
    rfl, rfl, rfl⟩

@[simp] theorem State.setDomain_frame (s : State) (n : Nat) (v : Domain) :
    (s.setDomain n v).pending = s.pending ∧ (s.setDomain n v).cfg = s.cfg ∧ (s.setDomain n v).free = s.free ∧
    (s.setDomain n v).tb = s.tb ∧ (s.setDomain n v).gov = s.gov ∧ (s.setDomain n v).od = s.od ∧
    (s.setDomain n v).desc = s.desc ∧ (s.setDomain n v).pins = s.pins ∧ (s.setDomain n v).recorder = s.recorder ∧
    (s.setDomain n v).clock = s.clock ∧ (s.setDomain n v).dumps = s.dumps ∧ (s.setDomain n v).icu = s.icu ∧
    (s.setDomain n v).channels = s.channels ∧ (s.setDomain n v).epochs = s.epochs ∧
    (s.setDomain n v).mram = s.mram ∧ (s.setDomain n v).replies = s.replies ∧ (s.setDomain n v).lanes = s.lanes ∧
    (s.setDomain n v).rails = s.rails ∧ (s.setDomain n v).senseTaps = s.senseTaps ∧
    (s.setDomain n v).events = s.events ∧ (s.setDomain n v).droops = s.droops ∧ (s.setDomain n v).taps = s.taps ∧
    (s.setDomain n v).groups = s.groups ∧ (s.setDomain n v).windowRecs = s.windowRecs ∧
    (s.setDomain n v).arrays = s.arrays ∧ (s.setDomain n v).rings = s.rings ∧
    (s.setDomain n v).sweepRing = s.sweepRing ∧ (s.setDomain n v).dither = s.dither ∧
    (s.setDomain n v).shapers = s.shapers ∧ (s.setDomain n v).tally = s.tally ∧ (s.setDomain n v).laws = s.laws ∧
    (s.setDomain n v).injector = s.injector ∧ (s.setDomain n v).capture = s.capture ∧
    (s.setDomain n v).sensors = s.sensors ∧ (s.setDomain n v).regions = s.regions ∧
    (s.setDomain n v).thermal = s.thermal ∧ (s.setDomain n v).assayer = s.assayer ∧
    (s.setDomain n v).cores = s.cores ∧ (s.setDomain n v).update = s.update ∧ (s.setDomain n v).host = s.host ∧
    (s.setDomain n v).answer = s.answer ∧ (s.setDomain n v).window = s.window ∧
    (s.setDomain n v).access = s.access ∧ (s.setDomain n v).muriri = s.muriri ∧
    (s.setDomain n v).segment = s.segment ∧ (s.setDomain n v).test = s.test ∧ (s.setDomain n v).poison = s.poison :=
  ⟨rfl, rfl, rfl, rfl, rfl, rfl, rfl, rfl, rfl, rfl, rfl, rfl, rfl, rfl, rfl, rfl, rfl, rfl, rfl, rfl, rfl, rfl,
    rfl, rfl, rfl, rfl, rfl, rfl, rfl, rfl, rfl, rfl, rfl, rfl, rfl, rfl, rfl, rfl, rfl, rfl, rfl, rfl, rfl, rfl,
    rfl, rfl, rfl⟩

@[simp] theorem State.setDroop_frame (s : State) (n : Nat) (v : Droop) :
    (s.setDroop n v).pending = s.pending ∧ (s.setDroop n v).cfg = s.cfg ∧ (s.setDroop n v).free = s.free ∧
    (s.setDroop n v).tb = s.tb ∧ (s.setDroop n v).gov = s.gov ∧ (s.setDroop n v).od = s.od ∧
    (s.setDroop n v).desc = s.desc ∧ (s.setDroop n v).pins = s.pins ∧ (s.setDroop n v).recorder = s.recorder ∧
    (s.setDroop n v).clock = s.clock ∧ (s.setDroop n v).dumps = s.dumps ∧ (s.setDroop n v).icu = s.icu ∧
    (s.setDroop n v).channels = s.channels ∧ (s.setDroop n v).epochs = s.epochs ∧ (s.setDroop n v).mram = s.mram ∧
    (s.setDroop n v).replies = s.replies ∧ (s.setDroop n v).lanes = s.lanes ∧ (s.setDroop n v).rails = s.rails ∧
    (s.setDroop n v).senseTaps = s.senseTaps ∧ (s.setDroop n v).events = s.events ∧
    (s.setDroop n v).domains = s.domains ∧ (s.setDroop n v).taps = s.taps ∧ (s.setDroop n v).groups = s.groups ∧
    (s.setDroop n v).windowRecs = s.windowRecs ∧ (s.setDroop n v).arrays = s.arrays ∧
    (s.setDroop n v).rings = s.rings ∧ (s.setDroop n v).sweepRing = s.sweepRing ∧
    (s.setDroop n v).dither = s.dither ∧ (s.setDroop n v).shapers = s.shapers ∧ (s.setDroop n v).tally = s.tally ∧
    (s.setDroop n v).laws = s.laws ∧ (s.setDroop n v).injector = s.injector ∧ (s.setDroop n v).capture = s.capture ∧
    (s.setDroop n v).sensors = s.sensors ∧ (s.setDroop n v).regions = s.regions ∧
    (s.setDroop n v).thermal = s.thermal ∧ (s.setDroop n v).assayer = s.assayer ∧ (s.setDroop n v).cores = s.cores ∧
    (s.setDroop n v).update = s.update ∧ (s.setDroop n v).host = s.host ∧ (s.setDroop n v).answer = s.answer ∧
    (s.setDroop n v).window = s.window ∧ (s.setDroop n v).access = s.access ∧ (s.setDroop n v).muriri = s.muriri ∧
    (s.setDroop n v).segment = s.segment ∧ (s.setDroop n v).test = s.test ∧ (s.setDroop n v).poison = s.poison :=
  ⟨rfl, rfl, rfl, rfl, rfl, rfl, rfl, rfl, rfl, rfl, rfl, rfl, rfl, rfl, rfl, rfl, rfl, rfl, rfl, rfl, rfl, rfl,
    rfl, rfl, rfl, rfl, rfl, rfl, rfl, rfl, rfl, rfl, rfl, rfl, rfl, rfl, rfl, rfl, rfl, rfl, rfl, rfl, rfl, rfl,
    rfl, rfl, rfl⟩

@[simp] theorem State.setTap_frame (s : State) (n : Nat) (v : DroopTap) :
    (s.setTap n v).pending = s.pending ∧ (s.setTap n v).cfg = s.cfg ∧ (s.setTap n v).free = s.free ∧
    (s.setTap n v).tb = s.tb ∧ (s.setTap n v).gov = s.gov ∧ (s.setTap n v).od = s.od ∧
    (s.setTap n v).desc = s.desc ∧ (s.setTap n v).pins = s.pins ∧ (s.setTap n v).recorder = s.recorder ∧
    (s.setTap n v).clock = s.clock ∧ (s.setTap n v).dumps = s.dumps ∧ (s.setTap n v).icu = s.icu ∧
    (s.setTap n v).channels = s.channels ∧ (s.setTap n v).epochs = s.epochs ∧ (s.setTap n v).mram = s.mram ∧
    (s.setTap n v).replies = s.replies ∧ (s.setTap n v).lanes = s.lanes ∧ (s.setTap n v).rails = s.rails ∧
    (s.setTap n v).senseTaps = s.senseTaps ∧ (s.setTap n v).events = s.events ∧ (s.setTap n v).domains = s.domains ∧
    (s.setTap n v).droops = s.droops ∧ (s.setTap n v).groups = s.groups ∧ (s.setTap n v).windowRecs = s.windowRecs ∧
    (s.setTap n v).arrays = s.arrays ∧ (s.setTap n v).rings = s.rings ∧ (s.setTap n v).sweepRing = s.sweepRing ∧
    (s.setTap n v).dither = s.dither ∧ (s.setTap n v).shapers = s.shapers ∧ (s.setTap n v).tally = s.tally ∧
    (s.setTap n v).laws = s.laws ∧ (s.setTap n v).injector = s.injector ∧ (s.setTap n v).capture = s.capture ∧
    (s.setTap n v).sensors = s.sensors ∧ (s.setTap n v).regions = s.regions ∧ (s.setTap n v).thermal = s.thermal ∧
    (s.setTap n v).assayer = s.assayer ∧ (s.setTap n v).cores = s.cores ∧ (s.setTap n v).update = s.update ∧
    (s.setTap n v).host = s.host ∧ (s.setTap n v).answer = s.answer ∧ (s.setTap n v).window = s.window ∧
    (s.setTap n v).access = s.access ∧ (s.setTap n v).muriri = s.muriri ∧ (s.setTap n v).segment = s.segment ∧
    (s.setTap n v).test = s.test ∧ (s.setTap n v).poison = s.poison :=
  ⟨rfl, rfl, rfl, rfl, rfl, rfl, rfl, rfl, rfl, rfl, rfl, rfl, rfl, rfl, rfl, rfl, rfl, rfl, rfl, rfl, rfl, rfl,
    rfl, rfl, rfl, rfl, rfl, rfl, rfl, rfl, rfl, rfl, rfl, rfl, rfl, rfl, rfl, rfl, rfl, rfl, rfl, rfl, rfl, rfl,
    rfl, rfl, rfl⟩

@[simp] theorem State.setArray_frame (s : State) (n : Nat) (v : ArrayAcc) :
    (s.setArray n v).pending = s.pending ∧ (s.setArray n v).cfg = s.cfg ∧ (s.setArray n v).free = s.free ∧
    (s.setArray n v).tb = s.tb ∧ (s.setArray n v).gov = s.gov ∧ (s.setArray n v).od = s.od ∧
    (s.setArray n v).desc = s.desc ∧ (s.setArray n v).pins = s.pins ∧ (s.setArray n v).recorder = s.recorder ∧
    (s.setArray n v).clock = s.clock ∧ (s.setArray n v).dumps = s.dumps ∧ (s.setArray n v).icu = s.icu ∧
    (s.setArray n v).channels = s.channels ∧ (s.setArray n v).epochs = s.epochs ∧ (s.setArray n v).mram = s.mram ∧
    (s.setArray n v).replies = s.replies ∧ (s.setArray n v).lanes = s.lanes ∧ (s.setArray n v).rails = s.rails ∧
    (s.setArray n v).senseTaps = s.senseTaps ∧ (s.setArray n v).events = s.events ∧
    (s.setArray n v).domains = s.domains ∧ (s.setArray n v).droops = s.droops ∧ (s.setArray n v).taps = s.taps ∧
    (s.setArray n v).groups = s.groups ∧ (s.setArray n v).windowRecs = s.windowRecs ∧
    (s.setArray n v).rings = s.rings ∧ (s.setArray n v).sweepRing = s.sweepRing ∧
    (s.setArray n v).dither = s.dither ∧ (s.setArray n v).shapers = s.shapers ∧ (s.setArray n v).tally = s.tally ∧
    (s.setArray n v).laws = s.laws ∧ (s.setArray n v).injector = s.injector ∧ (s.setArray n v).capture = s.capture ∧
    (s.setArray n v).sensors = s.sensors ∧ (s.setArray n v).regions = s.regions ∧
    (s.setArray n v).thermal = s.thermal ∧ (s.setArray n v).assayer = s.assayer ∧ (s.setArray n v).cores = s.cores ∧
    (s.setArray n v).update = s.update ∧ (s.setArray n v).host = s.host ∧ (s.setArray n v).answer = s.answer ∧
    (s.setArray n v).window = s.window ∧ (s.setArray n v).access = s.access ∧ (s.setArray n v).muriri = s.muriri ∧
    (s.setArray n v).segment = s.segment ∧ (s.setArray n v).test = s.test ∧ (s.setArray n v).poison = s.poison :=
  ⟨rfl, rfl, rfl, rfl, rfl, rfl, rfl, rfl, rfl, rfl, rfl, rfl, rfl, rfl, rfl, rfl, rfl, rfl, rfl, rfl, rfl, rfl,
    rfl, rfl, rfl, rfl, rfl, rfl, rfl, rfl, rfl, rfl, rfl, rfl, rfl, rfl, rfl, rfl, rfl, rfl, rfl, rfl, rfl, rfl,
    rfl, rfl, rfl⟩

@[simp] theorem State.setShaper_frame (s : State) (n : Nat) (v : Shaper) :
    (s.setShaper n v).pending = s.pending ∧ (s.setShaper n v).cfg = s.cfg ∧ (s.setShaper n v).free = s.free ∧
    (s.setShaper n v).tb = s.tb ∧ (s.setShaper n v).gov = s.gov ∧ (s.setShaper n v).od = s.od ∧
    (s.setShaper n v).desc = s.desc ∧ (s.setShaper n v).pins = s.pins ∧ (s.setShaper n v).recorder = s.recorder ∧
    (s.setShaper n v).clock = s.clock ∧ (s.setShaper n v).dumps = s.dumps ∧ (s.setShaper n v).icu = s.icu ∧
    (s.setShaper n v).channels = s.channels ∧ (s.setShaper n v).epochs = s.epochs ∧
    (s.setShaper n v).mram = s.mram ∧ (s.setShaper n v).replies = s.replies ∧ (s.setShaper n v).lanes = s.lanes ∧
    (s.setShaper n v).rails = s.rails ∧ (s.setShaper n v).senseTaps = s.senseTaps ∧
    (s.setShaper n v).events = s.events ∧ (s.setShaper n v).domains = s.domains ∧
    (s.setShaper n v).droops = s.droops ∧ (s.setShaper n v).taps = s.taps ∧ (s.setShaper n v).groups = s.groups ∧
    (s.setShaper n v).windowRecs = s.windowRecs ∧ (s.setShaper n v).arrays = s.arrays ∧
    (s.setShaper n v).rings = s.rings ∧ (s.setShaper n v).sweepRing = s.sweepRing ∧
    (s.setShaper n v).dither = s.dither ∧ (s.setShaper n v).tally = s.tally ∧ (s.setShaper n v).laws = s.laws ∧
    (s.setShaper n v).injector = s.injector ∧ (s.setShaper n v).capture = s.capture ∧
    (s.setShaper n v).sensors = s.sensors ∧ (s.setShaper n v).regions = s.regions ∧
    (s.setShaper n v).thermal = s.thermal ∧ (s.setShaper n v).assayer = s.assayer ∧
    (s.setShaper n v).cores = s.cores ∧ (s.setShaper n v).update = s.update ∧ (s.setShaper n v).host = s.host ∧
    (s.setShaper n v).answer = s.answer ∧ (s.setShaper n v).window = s.window ∧
    (s.setShaper n v).access = s.access ∧ (s.setShaper n v).muriri = s.muriri ∧
    (s.setShaper n v).segment = s.segment ∧ (s.setShaper n v).test = s.test ∧ (s.setShaper n v).poison = s.poison :=
  ⟨rfl, rfl, rfl, rfl, rfl, rfl, rfl, rfl, rfl, rfl, rfl, rfl, rfl, rfl, rfl, rfl, rfl, rfl, rfl, rfl, rfl, rfl,
    rfl, rfl, rfl, rfl, rfl, rfl, rfl, rfl, rfl, rfl, rfl, rfl, rfl, rfl, rfl, rfl, rfl, rfl, rfl, rfl, rfl, rfl,
    rfl, rfl, rfl⟩

@[simp] theorem State.setLaw_frame (s : State) (n : Nat) (v : Law) :
    (s.setLaw n v).pending = s.pending ∧ (s.setLaw n v).cfg = s.cfg ∧ (s.setLaw n v).free = s.free ∧
    (s.setLaw n v).tb = s.tb ∧ (s.setLaw n v).gov = s.gov ∧ (s.setLaw n v).od = s.od ∧
    (s.setLaw n v).desc = s.desc ∧ (s.setLaw n v).pins = s.pins ∧ (s.setLaw n v).recorder = s.recorder ∧
    (s.setLaw n v).clock = s.clock ∧ (s.setLaw n v).dumps = s.dumps ∧ (s.setLaw n v).icu = s.icu ∧
    (s.setLaw n v).channels = s.channels ∧ (s.setLaw n v).epochs = s.epochs ∧ (s.setLaw n v).mram = s.mram ∧
    (s.setLaw n v).replies = s.replies ∧ (s.setLaw n v).lanes = s.lanes ∧ (s.setLaw n v).rails = s.rails ∧
    (s.setLaw n v).senseTaps = s.senseTaps ∧ (s.setLaw n v).events = s.events ∧ (s.setLaw n v).domains = s.domains ∧
    (s.setLaw n v).droops = s.droops ∧ (s.setLaw n v).taps = s.taps ∧ (s.setLaw n v).groups = s.groups ∧
    (s.setLaw n v).windowRecs = s.windowRecs ∧ (s.setLaw n v).arrays = s.arrays ∧ (s.setLaw n v).rings = s.rings ∧
    (s.setLaw n v).sweepRing = s.sweepRing ∧ (s.setLaw n v).dither = s.dither ∧ (s.setLaw n v).shapers = s.shapers ∧
    (s.setLaw n v).tally = s.tally ∧ (s.setLaw n v).injector = s.injector ∧ (s.setLaw n v).capture = s.capture ∧
    (s.setLaw n v).sensors = s.sensors ∧ (s.setLaw n v).regions = s.regions ∧ (s.setLaw n v).thermal = s.thermal ∧
    (s.setLaw n v).assayer = s.assayer ∧ (s.setLaw n v).cores = s.cores ∧ (s.setLaw n v).update = s.update ∧
    (s.setLaw n v).host = s.host ∧ (s.setLaw n v).answer = s.answer ∧ (s.setLaw n v).window = s.window ∧
    (s.setLaw n v).access = s.access ∧ (s.setLaw n v).muriri = s.muriri ∧ (s.setLaw n v).segment = s.segment ∧
    (s.setLaw n v).test = s.test ∧ (s.setLaw n v).poison = s.poison :=
  ⟨rfl, rfl, rfl, rfl, rfl, rfl, rfl, rfl, rfl, rfl, rfl, rfl, rfl, rfl, rfl, rfl, rfl, rfl, rfl, rfl, rfl, rfl,
    rfl, rfl, rfl, rfl, rfl, rfl, rfl, rfl, rfl, rfl, rfl, rfl, rfl, rfl, rfl, rfl, rfl, rfl, rfl, rfl, rfl, rfl,
    rfl, rfl, rfl⟩

@[simp] theorem State.setSensor_frame (s : State) (n : Nat) (v : Sensor) :
    (s.setSensor n v).pending = s.pending ∧ (s.setSensor n v).cfg = s.cfg ∧ (s.setSensor n v).free = s.free ∧
    (s.setSensor n v).tb = s.tb ∧ (s.setSensor n v).gov = s.gov ∧ (s.setSensor n v).od = s.od ∧
    (s.setSensor n v).desc = s.desc ∧ (s.setSensor n v).pins = s.pins ∧ (s.setSensor n v).recorder = s.recorder ∧
    (s.setSensor n v).clock = s.clock ∧ (s.setSensor n v).dumps = s.dumps ∧ (s.setSensor n v).icu = s.icu ∧
    (s.setSensor n v).channels = s.channels ∧ (s.setSensor n v).epochs = s.epochs ∧
    (s.setSensor n v).mram = s.mram ∧ (s.setSensor n v).replies = s.replies ∧ (s.setSensor n v).lanes = s.lanes ∧
    (s.setSensor n v).rails = s.rails ∧ (s.setSensor n v).senseTaps = s.senseTaps ∧
    (s.setSensor n v).events = s.events ∧ (s.setSensor n v).domains = s.domains ∧
    (s.setSensor n v).droops = s.droops ∧ (s.setSensor n v).taps = s.taps ∧ (s.setSensor n v).groups = s.groups ∧
    (s.setSensor n v).windowRecs = s.windowRecs ∧ (s.setSensor n v).arrays = s.arrays ∧
    (s.setSensor n v).rings = s.rings ∧ (s.setSensor n v).sweepRing = s.sweepRing ∧
    (s.setSensor n v).dither = s.dither ∧ (s.setSensor n v).shapers = s.shapers ∧
    (s.setSensor n v).tally = s.tally ∧ (s.setSensor n v).laws = s.laws ∧ (s.setSensor n v).injector = s.injector ∧
    (s.setSensor n v).capture = s.capture ∧ (s.setSensor n v).regions = s.regions ∧
    (s.setSensor n v).thermal = s.thermal ∧ (s.setSensor n v).assayer = s.assayer ∧
    (s.setSensor n v).cores = s.cores ∧ (s.setSensor n v).update = s.update ∧ (s.setSensor n v).host = s.host ∧
    (s.setSensor n v).answer = s.answer ∧ (s.setSensor n v).window = s.window ∧
    (s.setSensor n v).access = s.access ∧ (s.setSensor n v).muriri = s.muriri ∧
    (s.setSensor n v).segment = s.segment ∧ (s.setSensor n v).test = s.test ∧ (s.setSensor n v).poison = s.poison :=
  ⟨rfl, rfl, rfl, rfl, rfl, rfl, rfl, rfl, rfl, rfl, rfl, rfl, rfl, rfl, rfl, rfl, rfl, rfl, rfl, rfl, rfl, rfl,
    rfl, rfl, rfl, rfl, rfl, rfl, rfl, rfl, rfl, rfl, rfl, rfl, rfl, rfl, rfl, rfl, rfl, rfl, rfl, rfl, rfl, rfl,
    rfl, rfl, rfl⟩

@[simp] theorem State.setCore_frame (s : State) (n : Nat) (v : Core) :
    (s.setCore n v).pending = s.pending ∧ (s.setCore n v).cfg = s.cfg ∧ (s.setCore n v).free = s.free ∧
    (s.setCore n v).tb = s.tb ∧ (s.setCore n v).gov = s.gov ∧ (s.setCore n v).od = s.od ∧
    (s.setCore n v).desc = s.desc ∧ (s.setCore n v).pins = s.pins ∧ (s.setCore n v).recorder = s.recorder ∧
    (s.setCore n v).clock = s.clock ∧ (s.setCore n v).dumps = s.dumps ∧ (s.setCore n v).icu = s.icu ∧
    (s.setCore n v).channels = s.channels ∧ (s.setCore n v).epochs = s.epochs ∧ (s.setCore n v).mram = s.mram ∧
    (s.setCore n v).replies = s.replies ∧ (s.setCore n v).lanes = s.lanes ∧ (s.setCore n v).rails = s.rails ∧
    (s.setCore n v).senseTaps = s.senseTaps ∧ (s.setCore n v).events = s.events ∧
    (s.setCore n v).domains = s.domains ∧ (s.setCore n v).droops = s.droops ∧ (s.setCore n v).taps = s.taps ∧
    (s.setCore n v).groups = s.groups ∧ (s.setCore n v).windowRecs = s.windowRecs ∧
    (s.setCore n v).arrays = s.arrays ∧ (s.setCore n v).rings = s.rings ∧ (s.setCore n v).sweepRing = s.sweepRing ∧
    (s.setCore n v).dither = s.dither ∧ (s.setCore n v).shapers = s.shapers ∧ (s.setCore n v).tally = s.tally ∧
    (s.setCore n v).laws = s.laws ∧ (s.setCore n v).injector = s.injector ∧ (s.setCore n v).capture = s.capture ∧
    (s.setCore n v).sensors = s.sensors ∧ (s.setCore n v).regions = s.regions ∧
    (s.setCore n v).thermal = s.thermal ∧ (s.setCore n v).assayer = s.assayer ∧ (s.setCore n v).update = s.update ∧
    (s.setCore n v).host = s.host ∧ (s.setCore n v).answer = s.answer ∧ (s.setCore n v).window = s.window ∧
    (s.setCore n v).access = s.access ∧ (s.setCore n v).muriri = s.muriri ∧ (s.setCore n v).segment = s.segment ∧
    (s.setCore n v).test = s.test ∧ (s.setCore n v).poison = s.poison :=
  ⟨rfl, rfl, rfl, rfl, rfl, rfl, rfl, rfl, rfl, rfl, rfl, rfl, rfl, rfl, rfl, rfl, rfl, rfl, rfl, rfl, rfl, rfl,
    rfl, rfl, rfl, rfl, rfl, rfl, rfl, rfl, rfl, rfl, rfl, rfl, rfl, rfl, rfl, rfl, rfl, rfl, rfl, rfl, rfl, rfl,
    rfl, rfl, rfl⟩

@[simp] theorem State.setSenseTap_frame (s : State) (n : Nat) (v : SenseTap) :
    (s.setSenseTap n v).pending = s.pending ∧ (s.setSenseTap n v).cfg = s.cfg ∧ (s.setSenseTap n v).free = s.free ∧
    (s.setSenseTap n v).tb = s.tb ∧ (s.setSenseTap n v).gov = s.gov ∧ (s.setSenseTap n v).od = s.od ∧
    (s.setSenseTap n v).desc = s.desc ∧ (s.setSenseTap n v).pins = s.pins ∧
    (s.setSenseTap n v).recorder = s.recorder ∧ (s.setSenseTap n v).clock = s.clock ∧
    (s.setSenseTap n v).dumps = s.dumps ∧ (s.setSenseTap n v).icu = s.icu ∧
    (s.setSenseTap n v).channels = s.channels ∧ (s.setSenseTap n v).epochs = s.epochs ∧
    (s.setSenseTap n v).mram = s.mram ∧ (s.setSenseTap n v).replies = s.replies ∧
    (s.setSenseTap n v).lanes = s.lanes ∧ (s.setSenseTap n v).rails = s.rails ∧
    (s.setSenseTap n v).events = s.events ∧ (s.setSenseTap n v).domains = s.domains ∧
    (s.setSenseTap n v).droops = s.droops ∧ (s.setSenseTap n v).taps = s.taps ∧
    (s.setSenseTap n v).groups = s.groups ∧ (s.setSenseTap n v).windowRecs = s.windowRecs ∧
    (s.setSenseTap n v).arrays = s.arrays ∧ (s.setSenseTap n v).rings = s.rings ∧
    (s.setSenseTap n v).sweepRing = s.sweepRing ∧ (s.setSenseTap n v).dither = s.dither ∧
    (s.setSenseTap n v).shapers = s.shapers ∧ (s.setSenseTap n v).tally = s.tally ∧
    (s.setSenseTap n v).laws = s.laws ∧ (s.setSenseTap n v).injector = s.injector ∧
    (s.setSenseTap n v).capture = s.capture ∧ (s.setSenseTap n v).sensors = s.sensors ∧
    (s.setSenseTap n v).regions = s.regions ∧ (s.setSenseTap n v).thermal = s.thermal ∧
    (s.setSenseTap n v).assayer = s.assayer ∧ (s.setSenseTap n v).cores = s.cores ∧
    (s.setSenseTap n v).update = s.update ∧ (s.setSenseTap n v).host = s.host ∧
    (s.setSenseTap n v).answer = s.answer ∧ (s.setSenseTap n v).window = s.window ∧
    (s.setSenseTap n v).access = s.access ∧ (s.setSenseTap n v).muriri = s.muriri ∧
    (s.setSenseTap n v).segment = s.segment ∧ (s.setSenseTap n v).test = s.test ∧
    (s.setSenseTap n v).poison = s.poison :=
  ⟨rfl, rfl, rfl, rfl, rfl, rfl, rfl, rfl, rfl, rfl, rfl, rfl, rfl, rfl, rfl, rfl, rfl, rfl, rfl, rfl, rfl, rfl,
    rfl, rfl, rfl, rfl, rfl, rfl, rfl, rfl, rfl, rfl, rfl, rfl, rfl, rfl, rfl, rfl, rfl, rfl, rfl, rfl, rfl, rfl,
    rfl, rfl, rfl⟩

@[simp] theorem State.setRing_frame (s : State) (n : Nat) (v : RingAcc) :
    (s.setRing n v).pending = s.pending ∧ (s.setRing n v).cfg = s.cfg ∧ (s.setRing n v).free = s.free ∧
    (s.setRing n v).tb = s.tb ∧ (s.setRing n v).gov = s.gov ∧ (s.setRing n v).od = s.od ∧
    (s.setRing n v).desc = s.desc ∧ (s.setRing n v).pins = s.pins ∧ (s.setRing n v).recorder = s.recorder ∧
    (s.setRing n v).clock = s.clock ∧ (s.setRing n v).dumps = s.dumps ∧ (s.setRing n v).icu = s.icu ∧
    (s.setRing n v).channels = s.channels ∧ (s.setRing n v).epochs = s.epochs ∧ (s.setRing n v).mram = s.mram ∧
    (s.setRing n v).replies = s.replies ∧ (s.setRing n v).lanes = s.lanes ∧ (s.setRing n v).rails = s.rails ∧
    (s.setRing n v).senseTaps = s.senseTaps ∧ (s.setRing n v).events = s.events ∧
    (s.setRing n v).domains = s.domains ∧ (s.setRing n v).droops = s.droops ∧ (s.setRing n v).taps = s.taps ∧
    (s.setRing n v).groups = s.groups ∧ (s.setRing n v).windowRecs = s.windowRecs ∧
    (s.setRing n v).arrays = s.arrays ∧ (s.setRing n v).sweepRing = s.sweepRing ∧
    (s.setRing n v).dither = s.dither ∧ (s.setRing n v).shapers = s.shapers ∧ (s.setRing n v).tally = s.tally ∧
    (s.setRing n v).laws = s.laws ∧ (s.setRing n v).injector = s.injector ∧ (s.setRing n v).capture = s.capture ∧
    (s.setRing n v).sensors = s.sensors ∧ (s.setRing n v).regions = s.regions ∧
    (s.setRing n v).thermal = s.thermal ∧ (s.setRing n v).assayer = s.assayer ∧ (s.setRing n v).cores = s.cores ∧
    (s.setRing n v).update = s.update ∧ (s.setRing n v).host = s.host ∧ (s.setRing n v).answer = s.answer ∧
    (s.setRing n v).window = s.window ∧ (s.setRing n v).access = s.access ∧ (s.setRing n v).muriri = s.muriri ∧
    (s.setRing n v).segment = s.segment ∧ (s.setRing n v).test = s.test ∧ (s.setRing n v).poison = s.poison :=
  ⟨rfl, rfl, rfl, rfl, rfl, rfl, rfl, rfl, rfl, rfl, rfl, rfl, rfl, rfl, rfl, rfl, rfl, rfl, rfl, rfl, rfl, rfl,
    rfl, rfl, rfl, rfl, rfl, rfl, rfl, rfl, rfl, rfl, rfl, rfl, rfl, rfl, rfl, rfl, rfl, rfl, rfl, rfl, rfl, rfl,
    rfl, rfl, rfl⟩

@[simp] theorem State.setRegion_frame (s : State) (n : Nat) (v : Region) :
    (s.setRegion n v).pending = s.pending ∧ (s.setRegion n v).cfg = s.cfg ∧ (s.setRegion n v).free = s.free ∧
    (s.setRegion n v).tb = s.tb ∧ (s.setRegion n v).gov = s.gov ∧ (s.setRegion n v).od = s.od ∧
    (s.setRegion n v).desc = s.desc ∧ (s.setRegion n v).pins = s.pins ∧ (s.setRegion n v).recorder = s.recorder ∧
    (s.setRegion n v).clock = s.clock ∧ (s.setRegion n v).dumps = s.dumps ∧ (s.setRegion n v).icu = s.icu ∧
    (s.setRegion n v).channels = s.channels ∧ (s.setRegion n v).epochs = s.epochs ∧
    (s.setRegion n v).mram = s.mram ∧ (s.setRegion n v).replies = s.replies ∧ (s.setRegion n v).lanes = s.lanes ∧
    (s.setRegion n v).rails = s.rails ∧ (s.setRegion n v).senseTaps = s.senseTaps ∧
    (s.setRegion n v).events = s.events ∧ (s.setRegion n v).domains = s.domains ∧
    (s.setRegion n v).droops = s.droops ∧ (s.setRegion n v).taps = s.taps ∧ (s.setRegion n v).groups = s.groups ∧
    (s.setRegion n v).windowRecs = s.windowRecs ∧ (s.setRegion n v).arrays = s.arrays ∧
    (s.setRegion n v).rings = s.rings ∧ (s.setRegion n v).sweepRing = s.sweepRing ∧
    (s.setRegion n v).dither = s.dither ∧ (s.setRegion n v).shapers = s.shapers ∧
    (s.setRegion n v).tally = s.tally ∧ (s.setRegion n v).laws = s.laws ∧ (s.setRegion n v).injector = s.injector ∧
    (s.setRegion n v).capture = s.capture ∧ (s.setRegion n v).sensors = s.sensors ∧
    (s.setRegion n v).thermal = s.thermal ∧ (s.setRegion n v).assayer = s.assayer ∧
    (s.setRegion n v).cores = s.cores ∧ (s.setRegion n v).update = s.update ∧ (s.setRegion n v).host = s.host ∧
    (s.setRegion n v).answer = s.answer ∧ (s.setRegion n v).window = s.window ∧
    (s.setRegion n v).access = s.access ∧ (s.setRegion n v).muriri = s.muriri ∧
    (s.setRegion n v).segment = s.segment ∧ (s.setRegion n v).test = s.test ∧ (s.setRegion n v).poison = s.poison :=
  ⟨rfl, rfl, rfl, rfl, rfl, rfl, rfl, rfl, rfl, rfl, rfl, rfl, rfl, rfl, rfl, rfl, rfl, rfl, rfl, rfl, rfl, rfl,
    rfl, rfl, rfl, rfl, rfl, rfl, rfl, rfl, rfl, rfl, rfl, rfl, rfl, rfl, rfl, rfl, rfl, rfl, rfl, rfl, rfl, rfl,
    rfl, rfl, rfl⟩

@[simp] theorem State.setSlot_frame (s : State) (n : Nat) (v : GroupSlot) :
    (s.setSlot n v).pending = s.pending ∧ (s.setSlot n v).cfg = s.cfg ∧ (s.setSlot n v).free = s.free ∧
    (s.setSlot n v).tb = s.tb ∧ (s.setSlot n v).gov = s.gov ∧ (s.setSlot n v).od = s.od ∧
    (s.setSlot n v).desc = s.desc ∧ (s.setSlot n v).pins = s.pins ∧ (s.setSlot n v).recorder = s.recorder ∧
    (s.setSlot n v).clock = s.clock ∧ (s.setSlot n v).dumps = s.dumps ∧ (s.setSlot n v).icu = s.icu ∧
    (s.setSlot n v).channels = s.channels ∧ (s.setSlot n v).epochs = s.epochs ∧ (s.setSlot n v).mram = s.mram ∧
    (s.setSlot n v).replies = s.replies ∧ (s.setSlot n v).lanes = s.lanes ∧ (s.setSlot n v).rails = s.rails ∧
    (s.setSlot n v).senseTaps = s.senseTaps ∧ (s.setSlot n v).events = s.events ∧
    (s.setSlot n v).domains = s.domains ∧ (s.setSlot n v).droops = s.droops ∧ (s.setSlot n v).taps = s.taps ∧
    (s.setSlot n v).groups = s.groups ∧ (s.setSlot n v).windowRecs = s.windowRecs ∧
    (s.setSlot n v).arrays = s.arrays ∧ (s.setSlot n v).rings = s.rings ∧ (s.setSlot n v).sweepRing = s.sweepRing ∧
    (s.setSlot n v).dither = s.dither ∧ (s.setSlot n v).shapers = s.shapers ∧ (s.setSlot n v).laws = s.laws ∧
    (s.setSlot n v).injector = s.injector ∧ (s.setSlot n v).capture = s.capture ∧
    (s.setSlot n v).sensors = s.sensors ∧ (s.setSlot n v).regions = s.regions ∧
    (s.setSlot n v).thermal = s.thermal ∧ (s.setSlot n v).assayer = s.assayer ∧ (s.setSlot n v).cores = s.cores ∧
    (s.setSlot n v).update = s.update ∧ (s.setSlot n v).host = s.host ∧ (s.setSlot n v).answer = s.answer ∧
    (s.setSlot n v).window = s.window ∧ (s.setSlot n v).access = s.access ∧ (s.setSlot n v).muriri = s.muriri ∧
    (s.setSlot n v).segment = s.segment ∧ (s.setSlot n v).test = s.test :=
  ⟨rfl, rfl, rfl, rfl, rfl, rfl, rfl, rfl, rfl, rfl, rfl, rfl, rfl, rfl, rfl, rfl, rfl, rfl, rfl, rfl, rfl, rfl,
    rfl, rfl, rfl, rfl, rfl, rfl, rfl, rfl, rfl, rfl, rfl, rfl, rfl, rfl, rfl, rfl, rfl, rfl, rfl, rfl, rfl, rfl,
    rfl, rfl⟩

@[simp] theorem State.setEntry_frame (s : State) (n : Nat) (v : Entry) :
    (s.setEntry n v).pending = s.pending ∧ (s.setEntry n v).cfg = s.cfg ∧ (s.setEntry n v).free = s.free ∧
    (s.setEntry n v).tb = s.tb ∧ (s.setEntry n v).gov = s.gov ∧ (s.setEntry n v).od = s.od ∧
    (s.setEntry n v).desc = s.desc ∧ (s.setEntry n v).pins = s.pins ∧ (s.setEntry n v).recorder = s.recorder ∧
    (s.setEntry n v).clock = s.clock ∧ (s.setEntry n v).dumps = s.dumps ∧ (s.setEntry n v).icu = s.icu ∧
    (s.setEntry n v).channels = s.channels ∧ (s.setEntry n v).epochs = s.epochs ∧ (s.setEntry n v).mram = s.mram ∧
    (s.setEntry n v).replies = s.replies ∧ (s.setEntry n v).lanes = s.lanes ∧ (s.setEntry n v).rails = s.rails ∧
    (s.setEntry n v).senseTaps = s.senseTaps ∧ (s.setEntry n v).events = s.events ∧
    (s.setEntry n v).domains = s.domains ∧ (s.setEntry n v).droops = s.droops ∧ (s.setEntry n v).taps = s.taps ∧
    (s.setEntry n v).groups = s.groups ∧ (s.setEntry n v).windowRecs = s.windowRecs ∧
    (s.setEntry n v).arrays = s.arrays ∧ (s.setEntry n v).rings = s.rings ∧
    (s.setEntry n v).sweepRing = s.sweepRing ∧ (s.setEntry n v).dither = s.dither ∧
    (s.setEntry n v).shapers = s.shapers ∧ (s.setEntry n v).tally = s.tally ∧ (s.setEntry n v).laws = s.laws ∧
    (s.setEntry n v).injector = s.injector ∧ (s.setEntry n v).capture = s.capture ∧
    (s.setEntry n v).sensors = s.sensors ∧ (s.setEntry n v).regions = s.regions ∧
    (s.setEntry n v).thermal = s.thermal ∧ (s.setEntry n v).cores = s.cores ∧ (s.setEntry n v).update = s.update ∧
    (s.setEntry n v).host = s.host ∧ (s.setEntry n v).answer = s.answer ∧ (s.setEntry n v).window = s.window ∧
    (s.setEntry n v).access = s.access ∧ (s.setEntry n v).muriri = s.muriri ∧ (s.setEntry n v).segment = s.segment ∧
    (s.setEntry n v).test = s.test ∧ (s.setEntry n v).poison = s.poison :=
  ⟨rfl, rfl, rfl, rfl, rfl, rfl, rfl, rfl, rfl, rfl, rfl, rfl, rfl, rfl, rfl, rfl, rfl, rfl, rfl, rfl, rfl, rfl,
    rfl, rfl, rfl, rfl, rfl, rfl, rfl, rfl, rfl, rfl, rfl, rfl, rfl, rfl, rfl, rfl, rfl, rfl, rfl, rfl, rfl, rfl,
    rfl, rfl, rfl⟩

@[simp] theorem State.setWindow_frame (s : State) (w : ObjWindow) :
    (s.setWindow w).pending = s.pending ∧ (s.setWindow w).cfg = s.cfg ∧ (s.setWindow w).free = s.free ∧
    (s.setWindow w).tb = s.tb ∧ (s.setWindow w).gov = s.gov ∧ (s.setWindow w).od = s.od ∧
    (s.setWindow w).desc = s.desc ∧ (s.setWindow w).pins = s.pins ∧ (s.setWindow w).recorder = s.recorder ∧
    (s.setWindow w).clock = s.clock ∧ (s.setWindow w).dumps = s.dumps ∧ (s.setWindow w).icu = s.icu ∧
    (s.setWindow w).channels = s.channels ∧ (s.setWindow w).epochs = s.epochs ∧ (s.setWindow w).mram = s.mram ∧
    (s.setWindow w).replies = s.replies ∧ (s.setWindow w).lanes = s.lanes ∧ (s.setWindow w).rails = s.rails ∧
    (s.setWindow w).senseTaps = s.senseTaps ∧ (s.setWindow w).events = s.events ∧
    (s.setWindow w).domains = s.domains ∧ (s.setWindow w).droops = s.droops ∧ (s.setWindow w).taps = s.taps ∧
    (s.setWindow w).groups = s.groups ∧ (s.setWindow w).windowRecs = s.windowRecs ∧
    (s.setWindow w).arrays = s.arrays ∧ (s.setWindow w).rings = s.rings ∧ (s.setWindow w).sweepRing = s.sweepRing ∧
    (s.setWindow w).dither = s.dither ∧ (s.setWindow w).shapers = s.shapers ∧ (s.setWindow w).tally = s.tally ∧
    (s.setWindow w).laws = s.laws ∧ (s.setWindow w).injector = s.injector ∧ (s.setWindow w).capture = s.capture ∧
    (s.setWindow w).sensors = s.sensors ∧ (s.setWindow w).regions = s.regions ∧
    (s.setWindow w).thermal = s.thermal ∧ (s.setWindow w).assayer = s.assayer ∧ (s.setWindow w).cores = s.cores ∧
    (s.setWindow w).update = s.update ∧ (s.setWindow w).host = s.host ∧ (s.setWindow w).answer = s.answer ∧
    (s.setWindow w).access = s.access ∧ (s.setWindow w).muriri = s.muriri ∧ (s.setWindow w).segment = s.segment ∧
    (s.setWindow w).test = s.test ∧ (s.setWindow w).poison = s.poison :=
  ⟨rfl, rfl, rfl, rfl, rfl, rfl, rfl, rfl, rfl, rfl, rfl, rfl, rfl, rfl, rfl, rfl, rfl, rfl, rfl, rfl, rfl, rfl,
    rfl, rfl, rfl, rfl, rfl, rfl, rfl, rfl, rfl, rfl, rfl, rfl, rfl, rfl, rfl, rfl, rfl, rfl, rfl, rfl, rfl, rfl,
    rfl, rfl, rfl⟩

/-! Changes of a record and counters are writes. -/

@[simp] theorem State.modPin_eq (s : State) (n : Nat) (f : Pin → Pin) :
    s.modPin n f = s.setPin n (f (s.pin n)) := rfl

@[simp] theorem State.modChannel_eq (s : State) (n : Nat) (f : Channel → Channel) :
    s.modChannel n f = s.setChannel n (f (s.channel n)) := rfl

@[simp] theorem State.modRail_eq (s : State) (n : Nat) (f : Rail → Rail) :
    s.modRail n f = s.setRail n (f (s.rail n)) := rfl

@[simp] theorem State.modLane_eq (s : State) (n : Nat) (f : Lane → Lane) :
    s.modLane n f = s.setLane n (f (s.lane n)) := rfl

@[simp] theorem State.modDomain_eq (s : State) (n : Nat) (f : Domain → Domain) :
    s.modDomain n f = s.setDomain n (f (s.domain n)) := rfl

@[simp] theorem State.modDroop_eq (s : State) (n : Nat) (f : Droop → Droop) :
    s.modDroop n f = s.setDroop n (f (s.droop n)) := rfl

@[simp] theorem State.modTap_eq (s : State) (n : Nat) (f : DroopTap → DroopTap) :
    s.modTap n f = s.setTap n (f (s.tap n)) := rfl

@[simp] theorem State.modArray_eq (s : State) (n : Nat) (f : ArrayAcc → ArrayAcc) :
    s.modArray n f = s.setArray n (f (s.array n)) := rfl

@[simp] theorem State.modShaper_eq (s : State) (n : Nat) (f : Shaper → Shaper) :
    s.modShaper n f = s.setShaper n (f (s.shaper n)) := rfl

@[simp] theorem State.modLaw_eq (s : State) (n : Nat) (f : Law → Law) :
    s.modLaw n f = s.setLaw n (f (s.law n)) := rfl

@[simp] theorem State.modSensor_eq (s : State) (n : Nat) (f : Sensor → Sensor) :
    s.modSensor n f = s.setSensor n (f (s.sensor n)) := rfl

@[simp] theorem State.modCore_eq (s : State) (n : Nat) (f : Core → Core) :
    s.modCore n f = s.setCore n (f (s.core n)) := rfl

@[simp] theorem State.bumpBy_eq (s : State) (i j n : Nat) : s.bumpBy i j n = s.setObj i j (satU 32 (s.obj i j + n)) := rfl

@[simp] theorem State.bump_eq (s : State) (i j : Nat) : s.bump i j = s.setObj i j (satU 32 (s.obj i j + 1)) := rfl

@[simp] theorem State.bump64_eq (s : State) (i j n : Nat) : s.bump64 i j n = s.setObj i j (satU 64 (s.obj i j + n)) := rfl

@[simp] theorem State.pin_setPin (s : State) (n k : Nat) (v : Pin) :
    (s.setPin n v).pin k = if k = n then v else s.pin k := tget_tset ..

@[simp] theorem State.channel_setChannel (s : State) (n k : Nat) (v : Channel) :
    (s.setChannel n v).channel k = if k = n then v else s.channel k := tget_tset ..

@[simp] theorem State.rail_setRail (s : State) (n k : Nat) (v : Rail) :
    (s.setRail n v).rail k = if k = n then v else s.rail k := tget_tset ..

@[simp] theorem State.lane_setLane (s : State) (n k : Nat) (v : Lane) :
    (s.setLane n v).lane k = if k = n then v else s.lane k := tget_tset ..

@[simp] theorem State.domain_setDomain (s : State) (n k : Nat) (v : Domain) :
    (s.setDomain n v).domain k = if k = n then v else s.domain k := tget_tset ..

@[simp] theorem State.droop_setDroop (s : State) (n k : Nat) (v : Droop) :
    (s.setDroop n v).droop k = if k = n then v else s.droop k := tget_tset ..

@[simp] theorem State.tap_setTap (s : State) (n k : Nat) (v : DroopTap) :
    (s.setTap n v).tap k = if k = n then v else s.tap k := tget_tset ..

@[simp] theorem State.array_setArray (s : State) (n k : Nat) (v : ArrayAcc) :
    (s.setArray n v).array k = if k = n then v else s.array k := tget_tset ..

@[simp] theorem State.shaper_setShaper (s : State) (n k : Nat) (v : Shaper) :
    (s.setShaper n v).shaper k = if k = n then v else s.shaper k := tget_tset ..

@[simp] theorem State.law_setLaw (s : State) (n k : Nat) (v : Law) :
    (s.setLaw n v).law k = if k = n then v else s.law k := tget_tset ..

@[simp] theorem State.sensor_setSensor (s : State) (n k : Nat) (v : Sensor) :
    (s.setSensor n v).sensor k = if k = n then v else s.sensor k := tget_tset ..

@[simp] theorem State.core_setCore (s : State) (n k : Nat) (v : Core) :
    (s.setCore n v).core k = if k = n then v else s.core k := tget_tset ..

@[simp] theorem State.atTime_now (s : State) (t : Nat) : (s.atTime t).tb.now = max s.tb.now t := rfl

@[simp] theorem State.touch_now (s : State) : s.touch.tb.now = s.tb.now := rfl

@[simp] theorem State.touch_gclk (s : State) : s.touch.tb.gclk = s.tb.gclk := rfl

@[simp] theorem State.atTime_gclk (s : State) (t : Nat) : (s.atTime t).tb.gclk = s.tb.gclk := rfl

end Sys2Proof.Machine
end

