-- ==== Sys2Proof/Laws/Steady.lean ====
section
/-! SUPPORT. What each operation of the units keeps: the queue, the configuration, the message RAM, the clock, and, unless it
can raise a fault, the Governor's state and trip latch. One lemma for an operation; those that read or write objects for a
session, and those that move the clock, are in Laws/Evolves.lean. -/

set_option linter.unusedTactic false
set_option linter.unreachableTactic false
set_option linter.unusedSimpArgs false
set_option linter.unusedVariables false
set_option linter.flexible false
set_option linter.style.multiGoal false

namespace Sys2Proof.Machine

@[simp] theorem tripKept_fold (s : State) : tripKept s.gov.st s.gov.tripLatch = s.trip := rfl

@[simp] theorem State.trip_mk (x0 x1 x2 x3 x4 x5 x6 x7 x8 x9 x10 x11 x12 x13 x14 x15 x16 x17 x18 x19 x20 x21 x22 x23 x24 x25 x26 x27 x28 x29 x30 x31 x32 x33 x34 x35 x36 x37 x38 x39 x40 x41 x42 x43 x44 x45 x46 x47) :
    State.trip (State.mk x0 x1 x2 x3 x4 x5 x6 x7 x8 x9 x10 x11 x12 x13 x14 x15 x16 x17 x18 x19 x20 x21 x22 x23 x24 x25 x26 x27 x28 x29 x30 x31 x32 x33 x34 x35 x36 x37 x38 x39 x40 x41 x42 x43 x44 x45 x46 x47) =
      tripKept (Gov.st x4) (Gov.tripLatch x4) := rfl

/-- What an update that neither moves the Governor nor the clock keeps. -/
@[simp] abbrev Still (t s : State) : Prop :=
  t.pending = s.pending ∧ t.cfg = s.cfg ∧ t.mram = s.mram ∧ t.tb.now = s.tb.now ∧
    t.gov.gathered.isSome = s.gov.gathered.isSome ∧ t.gov.st = s.gov.st ∧
    t.gov.tripLatch = s.gov.tripLatch ∧ t.trip = s.trip

/-- What every unit's action keeps, one that raises faults included. -/
@[simp] abbrev Steady (t s : State) : Prop :=
  t.pending = s.pending ∧ t.cfg = s.cfg ∧ t.mram = s.mram ∧ t.tb.now = s.tb.now ∧
    t.gov.gathered.isSome = s.gov.gathered.isSome

@[simp] theorem ite_pending (c : Prop) [Decidable c] (a b : State) :
    (if c then a else b).pending = if c then a.pending else b.pending := by split <;> rfl

@[simp] theorem ite_cfg (c : Prop) [Decidable c] (a b : State) :
    (if c then a else b).cfg = if c then a.cfg else b.cfg := by split <;> rfl

@[simp] theorem ite_mram (c : Prop) [Decidable c] (a b : State) :
    (if c then a else b).mram = if c then a.mram else b.mram := by split <;> rfl

@[simp] theorem ite_tb_now (c : Prop) [Decidable c] (a b : State) :
    (if c then a else b).tb.now = if c then a.tb.now else b.tb.now := by split <;> rfl

@[simp] theorem ite_gov_gathered (c : Prop) [Decidable c] (a b : State) :
    (if c then a else b).gov.gathered.isSome = if c then a.gov.gathered.isSome else b.gov.gathered.isSome := by split <;> rfl

@[simp] theorem ite_gov_st (c : Prop) [Decidable c] (a b : State) :
    (if c then a else b).gov.st = if c then a.gov.st else b.gov.st := by split <;> rfl

@[simp] theorem ite_gov_tripLatch (c : Prop) [Decidable c] (a b : State) :
    (if c then a else b).gov.tripLatch = if c then a.gov.tripLatch else b.gov.tripLatch := by split <;> rfl

@[simp] theorem ite_trip (c : Prop) [Decidable c] (a b : State) :
    (if c then a else b).trip = if c then a.trip else b.trip := by split <;> rfl

@[simp] theorem ite_fst {α β : Type} (c : Prop) [Decidable c] (a b : α × β) :
    (if c then a else b).1 = if c then a.1 else b.1 := by split <;> rfl

@[simp] theorem ite_snd {α β : Type} (c : Prop) [Decidable c] (a b : α × β) :
    (if c then a else b).2 = if c then a.2 else b.2 := by split <;> rfl

@[simp] theorem each_pending {α : Type} (l : List α) (f : State → α → State) (s : State)
    (h : ∀ s x, (f s x).pending = s.pending) : (each l f s).pending = s.pending := each_keeps (fun s => s.pending) h l s

@[simp] theorem onlyIf_pending (c : Bool) (f : State → State) (s : State) (h : ∀ s, (f s).pending = s.pending) :
    (onlyIf c f s).pending = s.pending := by unfold onlyIf; split <;> simp [h]

theorem foldl_pending {α β : Type} (l : List α) (f : State × β → α → State × β) (q : State × β)
    (h : ∀ q x, (f q x).1.pending = q.1.pending) : (l.foldl f q).1.pending = q.1.pending :=
  each_keeps (fun q : State × β => q.1.pending) h l q

@[simp] theorem each_cfg {α : Type} (l : List α) (f : State → α → State) (s : State)
    (h : ∀ s x, (f s x).cfg = s.cfg) : (each l f s).cfg = s.cfg := each_keeps (fun s => s.cfg) h l s

@[simp] theorem onlyIf_cfg (c : Bool) (f : State → State) (s : State) (h : ∀ s, (f s).cfg = s.cfg) :
    (onlyIf c f s).cfg = s.cfg := by unfold onlyIf; split <;> simp [h]

theorem foldl_cfg {α β : Type} (l : List α) (f : State × β → α → State × β) (q : State × β)
    (h : ∀ q x, (f q x).1.cfg = q.1.cfg) : (l.foldl f q).1.cfg = q.1.cfg :=
  each_keeps (fun q : State × β => q.1.cfg) h l q

@[simp] theorem each_mram {α : Type} (l : List α) (f : State → α → State) (s : State)
    (h : ∀ s x, (f s x).mram = s.mram) : (each l f s).mram = s.mram := each_keeps (fun s => s.mram) h l s

@[simp] theorem onlyIf_mram (c : Bool) (f : State → State) (s : State) (h : ∀ s, (f s).mram = s.mram) :
    (onlyIf c f s).mram = s.mram := by unfold onlyIf; split <;> simp [h]

theorem foldl_mram {α β : Type} (l : List α) (f : State × β → α → State × β) (q : State × β)
    (h : ∀ q x, (f q x).1.mram = q.1.mram) : (l.foldl f q).1.mram = q.1.mram :=
  each_keeps (fun q : State × β => q.1.mram) h l q

@[simp] theorem each_tb_now {α : Type} (l : List α) (f : State → α → State) (s : State)
    (h : ∀ s x, (f s x).tb.now = s.tb.now) : (each l f s).tb.now = s.tb.now := each_keeps (fun s => s.tb.now) h l s

@[simp] theorem each_gov_gathered {α : Type} (l : List α) (f : State → α → State) (s : State)
    (h : ∀ s x, (f s x).gov.gathered.isSome = s.gov.gathered.isSome) : (each l f s).gov.gathered.isSome = s.gov.gathered.isSome := each_keeps (fun s => s.gov.gathered.isSome) h l s

@[simp] theorem onlyIf_tb_now (c : Bool) (f : State → State) (s : State) (h : ∀ s, (f s).tb.now = s.tb.now) :
    (onlyIf c f s).tb.now = s.tb.now := by unfold onlyIf; split <;> simp [h]

@[simp] theorem onlyIf_gov_gathered (c : Bool) (f : State → State) (s : State) (h : ∀ s, (f s).gov.gathered.isSome = s.gov.gathered.isSome) :
    (onlyIf c f s).gov.gathered.isSome = s.gov.gathered.isSome := by unfold onlyIf; split <;> simp [h]

theorem foldl_tb_now {α β : Type} (l : List α) (f : State × β → α → State × β) (q : State × β)
    (h : ∀ q x, (f q x).1.tb.now = q.1.tb.now) : (l.foldl f q).1.tb.now = q.1.tb.now :=
  each_keeps (fun q : State × β => q.1.tb.now) h l q

theorem foldl_gov_gathered {α β : Type} (l : List α) (f : State × β → α → State × β) (q : State × β)
    (h : ∀ q x, (f q x).1.gov.gathered.isSome = q.1.gov.gathered.isSome) : (l.foldl f q).1.gov.gathered.isSome = q.1.gov.gathered.isSome :=
  each_keeps (fun q : State × β => q.1.gov.gathered.isSome) h l q

@[simp] theorem each_gov_st {α : Type} (l : List α) (f : State → α → State) (s : State)
    (h : ∀ s x, (f s x).gov.st = s.gov.st) : (each l f s).gov.st = s.gov.st := each_keeps (fun s => s.gov.st) h l s

@[simp] theorem onlyIf_gov_st (c : Bool) (f : State → State) (s : State) (h : ∀ s, (f s).gov.st = s.gov.st) :
    (onlyIf c f s).gov.st = s.gov.st := by unfold onlyIf; split <;> simp [h]

theorem foldl_gov_st {α β : Type} (l : List α) (f : State × β → α → State × β) (q : State × β)
    (h : ∀ q x, (f q x).1.gov.st = q.1.gov.st) : (l.foldl f q).1.gov.st = q.1.gov.st :=
  each_keeps (fun q : State × β => q.1.gov.st) h l q

@[simp] theorem each_gov_tripLatch {α : Type} (l : List α) (f : State → α → State) (s : State)
    (h : ∀ s x, (f s x).gov.tripLatch = s.gov.tripLatch) : (each l f s).gov.tripLatch = s.gov.tripLatch := each_keeps (fun s => s.gov.tripLatch) h l s

@[simp] theorem onlyIf_gov_tripLatch (c : Bool) (f : State → State) (s : State) (h : ∀ s, (f s).gov.tripLatch = s.gov.tripLatch) :
    (onlyIf c f s).gov.tripLatch = s.gov.tripLatch := by unfold onlyIf; split <;> simp [h]

theorem foldl_gov_tripLatch {α β : Type} (l : List α) (f : State × β → α → State × β) (q : State × β)
    (h : ∀ q x, (f q x).1.gov.tripLatch = q.1.gov.tripLatch) : (l.foldl f q).1.gov.tripLatch = q.1.gov.tripLatch :=
  each_keeps (fun q : State × β => q.1.gov.tripLatch) h l q

@[simp] theorem each_trip {α : Type} (l : List α) (f : State → α → State) (s : State)
    (h : ∀ s x, (f s x).trip = s.trip) : (each l f s).trip = s.trip := each_keeps (fun s => s.trip) h l s

@[simp] theorem onlyIf_trip (c : Bool) (f : State → State) (s : State) (h : ∀ s, (f s).trip = s.trip) :
    (onlyIf c f s).trip = s.trip := by unfold onlyIf; split <;> simp [h]

theorem foldl_trip {α β : Type} (l : List α) (f : State × β → α → State × β) (q : State × β)
    (h : ∀ q x, (f q x).1.trip = q.1.trip) : (l.foldl f q).1.trip = q.1.trip :=
  each_keeps (fun q : State × β => q.1.trip) h l q

@[simp] theorem each_trips {α : Type} (l : List α) (f : State → α → State) (s : State)
    (h : ∀ s x, s.trip = true → (f s x).trip = true) (hs : s.trip = true) : (each l f s).trip = true :=
  each_carries (fun s => s.trip = true) h l s hs

/-- Two updates in turn keep what each keeps. -/
theorem Still.trans {a b c : State} (h : Still a b) (k : Still b c) : Still a c :=
  ⟨h.1.trans k.1, h.2.1.trans k.2.1, h.2.2.1.trans k.2.2.1, h.2.2.2.1.trans k.2.2.2.1, h.2.2.2.2.1.trans k.2.2.2.2.1,
    h.2.2.2.2.2.1.trans k.2.2.2.2.2.1, h.2.2.2.2.2.2.1.trans k.2.2.2.2.2.2.1, h.2.2.2.2.2.2.2.trans k.2.2.2.2.2.2.2⟩

theorem Steady.trans {a b c : State} (h : Steady a b) (k : Steady b c) : Steady a c :=
  ⟨h.1.trans k.1, h.2.1.trans k.2.1, h.2.2.1.trans k.2.2.1, h.2.2.2.1.trans k.2.2.2.1, h.2.2.2.2.trans k.2.2.2.2⟩

theorem Still.steady {a b : State} (h : Still a b) : Steady a b := ⟨h.1, h.2.1, h.2.2.1, h.2.2.2.1, h.2.2.2.2.1⟩

theorem Still.kept {a b : State} (h : Still a b) (hb : b.trip = true) : a.trip = true := h.2.2.2.2.2.2.2.trans hb

/-- A loop keeps what each of its turns keeps. -/
theorem each_still {α : Type} {f : State → α → State} (h : ∀ s x, Still (f s x) s) (l : List α) (s : State) :
    Still (each l f s) s := by
  induction l generalizing s with
  | nil => simp [each]
  | cons x rest ih => exact (ih (f s x)).trans (h s x)

theorem each_steady {α : Type} {f : State → α → State} (h : ∀ s x, Steady (f s x) s) (l : List α) (s : State) :
    Steady (each l f s) s := by
  induction l generalizing s with
  | nil => simp [each]
  | cons x rest ih => exact (ih (f s x)).trans (h s x)

@[simp] theorem State.atTime_trip (s t) : (State.atTime s t).trip = s.trip := rfl

@[simp] theorem State.touch_trip (s) : (State.touch s).trip = s.trip := rfl

@[simp] theorem State.setObj_trip (s i j v) : (State.setObj s i j v).trip = s.trip := rfl

@[simp] theorem State.setWindow_trip (s w) : (State.setWindow s w).trip = s.trip := rfl

@[simp] theorem State.setPin_trip (s n v) : (State.setPin s n v).trip = s.trip := rfl

@[simp] theorem State.setChannel_trip (s n v) : (State.setChannel s n v).trip = s.trip := rfl

@[simp] theorem State.setRail_trip (s n v) : (State.setRail s n v).trip = s.trip := rfl

@[simp] theorem State.setLane_trip (s n v) : (State.setLane s n v).trip = s.trip := rfl

@[simp] theorem State.setDomain_trip (s n v) : (State.setDomain s n v).trip = s.trip := rfl

@[simp] theorem State.setDroop_trip (s n v) : (State.setDroop s n v).trip = s.trip := rfl

@[simp] theorem State.setTap_trip (s n v) : (State.setTap s n v).trip = s.trip := rfl

@[simp] theorem State.setArray_trip (s n v) : (State.setArray s n v).trip = s.trip := rfl

@[simp] theorem State.setShaper_trip (s n v) : (State.setShaper s n v).trip = s.trip := rfl

@[simp] theorem State.setLaw_trip (s n v) : (State.setLaw s n v).trip = s.trip := rfl

@[simp] theorem State.setSensor_trip (s n v) : (State.setSensor s n v).trip = s.trip := rfl

@[simp] theorem State.setCore_trip (s n v) : (State.setCore s n v).trip = s.trip := rfl

@[simp] theorem State.setSenseTap_trip (s n v) : (State.setSenseTap s n v).trip = s.trip := rfl

@[simp] theorem State.setRing_trip (s n v) : (State.setRing s n v).trip = s.trip := rfl

@[simp] theorem State.setRegion_trip (s n v) : (State.setRegion s n v).trip = s.trip := rfl

@[simp] theorem State.setSlot_trip (s n v) : (State.setSlot s n v).trip = s.trip := rfl

@[simp] theorem State.setEntry_trip (s n v) : (State.setEntry s n v).trip = s.trip := rfl

@[simp] theorem State.qualityFalls_keeps (s) : Still (State.qualityFalls s) s := by simp [State.qualityFalls]

@[simp] theorem State.enqueueGroup_keeps (s a b) : Still (State.enqueueGroup s a b) s := by simp [State.enqueueGroup]

@[simp] theorem State.record_keeps (s a b c d) : Still (State.record s a b c d) s := by simp [State.record]

@[simp] theorem State.writeRecord_keeps (s) : Still (State.writeRecord s) s := by
  generalize h : (State.writeRecord s) = t; unfold State.writeRecord at h; (repeat' split at h) <;> subst h <;> simp

@[simp] theorem State.dropCause_keeps (s a b c) : Still (State.dropCause s a b c) s := by simp [State.dropCause]

@[simp] theorem State.setPending_keeps (s a) : Still (State.setPending s a) s := by simp [State.setPending]

@[simp] theorem State.signal_keeps (s a) : Still (State.signal s a) s := by simp [State.signal]

@[simp] theorem State.lanesDown_keeps (s) : Still (State.lanesDown s) s := by simp [State.lanesDown]

@[simp] theorem State.finishEvent_keeps (s a) : Still (State.finishEvent s a) s := by
  simp [State.finishEvent]

@[simp] theorem State.droopLoss_keeps (s a) : Still (State.droopLoss s a) s := ⟨by 
    unfold State.droopLoss; (try dsimp only); (repeat' first | rfl | (simp; done) | ((refine (each_keeps (fun s : State => s.pending) ?_ _ _).trans ?_); intro _ _; try dsimp only) | ((refine (foldl_pending _ _ _ ?_).trans ?_); intro _ _; try dsimp only) | split), by 
    unfold State.droopLoss; (try dsimp only); (repeat' first | rfl | (simp; done) | ((refine (each_keeps (fun s : State => s.cfg) ?_ _ _).trans ?_); intro _ _; try dsimp only) | ((refine (foldl_cfg _ _ _ ?_).trans ?_); intro _ _; try dsimp only) | split), by 
    unfold State.droopLoss; (try dsimp only); (repeat' first | rfl | (simp; done) | ((refine (each_keeps (fun s : State => s.mram) ?_ _ _).trans ?_); intro _ _; try dsimp only) | ((refine (foldl_mram _ _ _ ?_).trans ?_); intro _ _; try dsimp only) | split), by 
    unfold State.droopLoss; (try dsimp only); (repeat' first | rfl | (simp; done) | ((refine (each_keeps (fun s : State => s.tb.now) ?_ _ _).trans ?_); intro _ _; try dsimp only) | ((refine (foldl_tb_now _ _ _ ?_).trans ?_); intro _ _; try dsimp only) | split), by 
    unfold State.droopLoss; (try dsimp only); (repeat' first | rfl | (simp; done) | ((refine (each_keeps (fun s : State => s.gov.gathered.isSome) ?_ _ _).trans ?_); intro _ _; try dsimp only) | ((refine (foldl_gov_gathered _ _ _ ?_).trans ?_); intro _ _; try dsimp only) | split), by 
    unfold State.droopLoss; (try dsimp only); (repeat' first | rfl | (simp; done) | ((refine (each_keeps (fun s : State => s.gov.st) ?_ _ _).trans ?_); intro _ _; try dsimp only) | ((refine (foldl_gov_st _ _ _ ?_).trans ?_); intro _ _; try dsimp only) | split), by 
    unfold State.droopLoss; (try dsimp only); (repeat' first | rfl | (simp; done) | ((refine (each_keeps (fun s : State => s.gov.tripLatch) ?_ _ _).trans ?_); intro _ _; try dsimp only) | ((refine (foldl_gov_tripLatch _ _ _ ?_).trans ?_); intro _ _; try dsimp only) | split), by 
    unfold State.droopLoss; (try dsimp only); (repeat' first | rfl | (simp; done) | ((refine (each_keeps (fun s : State => s.trip) ?_ _ _).trans ?_); intro _ _; try dsimp only) | ((refine (foldl_trip _ _ _ ?_).trans ?_); intro _ _; try dsimp only) | split)⟩

@[simp] theorem State.isolateDomain_keeps (s a) : Still (State.isolateDomain s a) s := by simp [State.isolateDomain]

@[simp] theorem State.creditsZero_keeps (s) : Still (State.creditsZero s) s := by simp [State.creditsZero]

@[simp] theorem State.creditsReady_keeps (s) : Still (State.creditsReady s) s := by simp [State.creditsReady]

@[simp] theorem State.dropFit_keeps (s a) : Still (State.dropFit s a) s := by
  cases a <;> simp [State.dropFit]

@[simp] theorem State.tallyClear_keeps (s) : Still (State.tallyClear s) s := by simp [State.tallyClear]

@[simp] theorem State.unlearn_keeps (s a b) : Still (State.unlearn s a b) s := by simp [State.unlearn]

@[simp] theorem State.unlearnAll_keeps (s a) : Still (State.unlearnAll s a) s := by simp [State.unlearnAll]

@[simp] theorem State.endInjection_keeps (s a) : Still (State.endInjection s a) s := by simp [State.endInjection]

@[simp] theorem State.captureEvent_keeps (s a b) : Still (State.captureEvent s a b) s := by simp [State.captureEvent]

@[simp] theorem State.dropEntry_keeps (s a) : Still (State.dropEntry s a) s := by simp [State.dropEntry]

@[simp] theorem State.fenceCount_keeps (s a b c) : Still (State.fenceCount s a b c) s := by simp [State.fenceCount]

@[simp] theorem State.lowerStretch_keeps (s a) : Still (State.lowerStretch s a) s := by
  simp [State.lowerStretch]

@[simp] theorem State.releaseSafe_keeps (s a) : Still (State.releaseSafe s a) s := by
  generalize h : (State.releaseSafe s a) = t; unfold State.releaseSafe at h; (repeat' split at h) <;> subst h <;> simp

@[simp] theorem State.request_keeps (s a) : Still (State.request s a) s := by simp [State.request]

@[simp] theorem State.unassay_keeps (s a b c d) : Still (State.unassay s a b c d) s := by simp [State.unassay]

@[simp] theorem State.abandonAssays_keeps (s) : Still (State.abandonAssays s).1 s := by simp [State.abandonAssays]

@[simp] theorem State.stopRun_keeps (s) : Still (State.stopRun s) s := by simp [State.stopRun]

@[simp] theorem State.abortSweep_keeps (s) : Still (State.abortSweep s) s := by simp [State.abortSweep]

@[simp] theorem State.abortService_keeps (s) : Still (State.abortService s) s := by simp [State.abortService]

@[simp] theorem State.avsZero_keeps (s) : Still (State.avsZero s) s := ⟨by 
    unfold State.avsZero; (try dsimp only); (repeat' first | rfl | (simp; done) | ((refine (each_keeps (fun s : State => s.pending) ?_ _ _).trans ?_); intro _ _; try dsimp only) | ((refine (foldl_pending _ _ _ ?_).trans ?_); intro _ _; try dsimp only) | split), by 
    unfold State.avsZero; (try dsimp only); (repeat' first | rfl | (simp; done) | ((refine (each_keeps (fun s : State => s.cfg) ?_ _ _).trans ?_); intro _ _; try dsimp only) | ((refine (foldl_cfg _ _ _ ?_).trans ?_); intro _ _; try dsimp only) | split), by 
    unfold State.avsZero; (try dsimp only); (repeat' first | rfl | (simp; done) | ((refine (each_keeps (fun s : State => s.mram) ?_ _ _).trans ?_); intro _ _; try dsimp only) | ((refine (foldl_mram _ _ _ ?_).trans ?_); intro _ _; try dsimp only) | split), by 
    unfold State.avsZero; (try dsimp only); (repeat' first | rfl | (simp; done) | ((refine (each_keeps (fun s : State => s.tb.now) ?_ _ _).trans ?_); intro _ _; try dsimp only) | ((refine (foldl_tb_now _ _ _ ?_).trans ?_); intro _ _; try dsimp only) | split), by 
    unfold State.avsZero; (try dsimp only); (repeat' first | rfl | (simp; done) | ((refine (each_keeps (fun s : State => s.gov.gathered.isSome) ?_ _ _).trans ?_); intro _ _; try dsimp only) | ((refine (foldl_gov_gathered _ _ _ ?_).trans ?_); intro _ _; try dsimp only) | split), by 
    unfold State.avsZero; (try dsimp only); (repeat' first | rfl | (simp; done) | ((refine (each_keeps (fun s : State => s.gov.st) ?_ _ _).trans ?_); intro _ _; try dsimp only) | ((refine (foldl_gov_st _ _ _ ?_).trans ?_); intro _ _; try dsimp only) | split), by 
    unfold State.avsZero; (try dsimp only); (repeat' first | rfl | (simp; done) | ((refine (each_keeps (fun s : State => s.gov.tripLatch) ?_ _ _).trans ?_); intro _ _; try dsimp only) | ((refine (foldl_gov_tripLatch _ _ _ ?_).trans ?_); intro _ _; try dsimp only) | split), by 
    unfold State.avsZero; (try dsimp only); (repeat' first | rfl | (simp; done) | ((refine (each_keeps (fun s : State => s.trip) ?_ _ _).trans ?_); intro _ _; try dsimp only) | ((refine (foldl_trip _ _ _ ?_).trans ?_); intro _ _; try dsimp only) | split)⟩

@[simp] theorem State.railOff_keeps (s a) : Still (State.railOff s a) s := by simp [State.railOff]

@[simp] theorem State.railLanesDown_keeps (s a) : Still (State.railLanesDown s a) s := ⟨by 
    unfold State.railLanesDown; (try dsimp only); (repeat' first | rfl | (simp; done) | ((refine (each_keeps (fun s : State => s.pending) ?_ _ _).trans ?_); intro _ _; try dsimp only) | ((refine (foldl_pending _ _ _ ?_).trans ?_); intro _ _; try dsimp only) | split), by 
    unfold State.railLanesDown; (try dsimp only); (repeat' first | rfl | (simp; done) | ((refine (each_keeps (fun s : State => s.cfg) ?_ _ _).trans ?_); intro _ _; try dsimp only) | ((refine (foldl_cfg _ _ _ ?_).trans ?_); intro _ _; try dsimp only) | split), by 
    unfold State.railLanesDown; (try dsimp only); (repeat' first | rfl | (simp; done) | ((refine (each_keeps (fun s : State => s.mram) ?_ _ _).trans ?_); intro _ _; try dsimp only) | ((refine (foldl_mram _ _ _ ?_).trans ?_); intro _ _; try dsimp only) | split), by 
    unfold State.railLanesDown; (try dsimp only); (repeat' first | rfl | (simp; done) | ((refine (each_keeps (fun s : State => s.tb.now) ?_ _ _).trans ?_); intro _ _; try dsimp only) | ((refine (foldl_tb_now _ _ _ ?_).trans ?_); intro _ _; try dsimp only) | split), by 
    unfold State.railLanesDown; (try dsimp only); (repeat' first | rfl | (simp; done) | ((refine (each_keeps (fun s : State => s.gov.gathered.isSome) ?_ _ _).trans ?_); intro _ _; try dsimp only) | ((refine (foldl_gov_gathered _ _ _ ?_).trans ?_); intro _ _; try dsimp only) | split), by 
    unfold State.railLanesDown; (try dsimp only); (repeat' first | rfl | (simp; done) | ((refine (each_keeps (fun s : State => s.gov.st) ?_ _ _).trans ?_); intro _ _; try dsimp only) | ((refine (foldl_gov_st _ _ _ ?_).trans ?_); intro _ _; try dsimp only) | split), by 
    unfold State.railLanesDown; (try dsimp only); (repeat' first | rfl | (simp; done) | ((refine (each_keeps (fun s : State => s.gov.tripLatch) ?_ _ _).trans ?_); intro _ _; try dsimp only) | ((refine (foldl_gov_tripLatch _ _ _ ?_).trans ?_); intro _ _; try dsimp only) | split), by 
    unfold State.railLanesDown; (try dsimp only); (repeat' first | rfl | (simp; done) | ((refine (each_keeps (fun s : State => s.trip) ?_ _ _).trans ?_); intro _ _; try dsimp only) | ((refine (foldl_trip _ _ _ ?_).trans ?_); intro _ _; try dsimp only) | split)⟩

@[simp] theorem State.serviceFault_keeps (s a) : Still (State.serviceFault s a) s := by simp [State.serviceFault]

@[simp] theorem State.queueEvent_keeps (s a b c) : Still (State.queueEvent s a b c).1 s := by simp [State.queueEvent]

@[simp] theorem State.arrive_keeps (s a b c d e) : Still (State.arrive s a b c d e).1 s := by simp [State.arrive]

@[simp] theorem State.dEvents_keeps (s a b) : Still (State.dEvents s a b).1 s := by simp [State.dEvents]

@[simp] theorem State.mark_keeps (s a b) : Steady (State.mark s a b) s := by simp [State.mark]

@[simp] theorem State.mark_st (s a b) : (State.mark s a b).gov.st = a := by simp [State.mark]
@[simp] theorem State.mark_latch (s a b) : (State.mark s a b).gov.tripLatch = (if s.gov.st == .cooldown && a != .boot then false else s.gov.tripLatch) := by simp [State.mark]
@[simp] theorem State.mark_trips (s a b) (h1 : a ≠ .trip) (h2 : a ≠ .cooldown) : (State.mark s a b).trip = true := by simp [State.trip, tripKept, h1, h2]

@[simp] theorem State.enterReady_keeps (s) : Still (State.enterReady s).1 s := by simp [State.enterReady]

@[simp] theorem State.abortShed_keeps (s a) : Still (State.abortShed s a) s := by simp [State.abortShed]

@[simp] theorem State.abortSheds_keeps (s) : Still (State.abortSheds s) s := by
  simp [State.abortSheds]

@[simp] theorem State.enterSafe_keeps (s a) : Still (State.enterSafe s a) s := by simp [State.enterSafe]

@[simp] theorem State.enterTrip_keeps (s a) : Steady (State.enterTrip s a).1 s := by simp [State.enterTrip]

@[simp] theorem State.enterTrip_latch (s a) : (State.enterTrip s a).1.gov.tripLatch = true ∧ (State.enterTrip s a).1.gov.st = s.gov.st := by
  simp [State.enterTrip]
@[simp] theorem State.enterTrip_trips (s a) : (State.enterTrip s a).1.trip = true := by simp [State.trip, tripKept]

@[simp] theorem State.enterRun_keeps (s a) : Still (State.enterRun s a) s := by simp [State.enterRun]

@[simp] theorem State.transit_keeps (s a b) : Steady (State.transit s a b).1 s := by
  generalize h : (State.transit s a b) = t; unfold State.transit at h; (repeat' split at h) <;> subst h <;> simp

@[simp] theorem State.transit_trips (s a b) (h : a ≠ .cooldown) : (State.transit s a b).1.trip = true := by
  cases a <;> simp_all [State.transit, State.trip, tripKept]

@[simp] theorem State.doWork_keeps (s a) : Steady (State.doWork s a).1 s := by
  generalize h : (State.doWork s a) = t; unfold State.doWork at h; (repeat' split at h) <;> subst h <;> simp

def Work.plain : Work → Bool
  | .enter .cooldown _ => false
  | _ => true
@[simp] theorem State.doWork_trips (s a) (ht : s.trip = true) (ha : a.plain = true) : (State.doWork s a).1.trip = true := by
  unfold State.doWork; split
  · (repeat' split) <;> simp [ht]
  · split <;> simp [ht]
  · split
    · apply State.transit_trips; rintro rfl; simp [Work.plain] at ha
    · exact ht
theorem State.levelWork_plain (s a b) : (State.levelWork s a b).all Work.plain = true := by
  unfold State.levelWork; (repeat' split) <;> simp [Work.plain]
theorem State.queueEvent_plain (s a b c) : (State.queueEvent s a b c).2.all Work.plain = true := by
  unfold State.queueEvent; dsimp only; split <;> simp [Work.plain]
theorem State.arrive_plain (s a b c d e) : (State.arrive s a b c d e).2.all Work.plain = true := by
  unfold State.arrive; extract_lets p mask prog eff seq vit code s1 s2 s3 s4 q; rw [List.all_append, State.levelWork_plain, Bool.true_and]; simp only [q]; split; exact State.queueEvent_plain _ _ _ _; rfl
theorem State.transit_plain (s a b) : (State.transit s a b).2.all Work.plain = true := by
  unfold State.transit; cases a <;> dsimp only <;> (try split) <;> simp [Work.plain]
theorem HeldTrigger.work_plain (t : HeldTrigger) : t.work.plain = true := rfl
theorem State.doWork_plain (s a) : (State.doWork s a).2.all Work.plain = true := by
  unfold State.doWork; split
  · split; rfl; split; split <;> rfl; split; exact State.arrive_plain _ _ _ _ _ _; exact State.arrive_plain _ _ _ _ _ _
  · split; (simp [List.all_map, Function.comp_def, HeldTrigger.work_plain]); rfl
  · split; exact State.transit_plain _ _ _; rfl

@[simp] theorem State.work_keeps (a b s) : Steady (State.work a b s) s := by
  induction a generalizing b s with | zero => simp [State.work] | succ f ih => (unfold State.work; split; simp; simp [ih])

@[simp] theorem State.work_trips (s a b) (ht : s.trip = true) (hb : b.all Work.plain = true) : (State.work a b s).trip = true := by
  induction a generalizing b s with
  | zero => simpa [State.work] using ht
  | succ f ih =>
    unfold State.work; split
    · exact ht
    · next w rest =>
      simp only [List.all_cons, Bool.and_eq_true] at hb
      exact ih _ _ (State.doWork_trips _ _ ht hb.1) (by rw [List.all_append, State.doWork_plain, hb.2]; rfl)

@[simp] theorem State.latchPin_keeps (s ts) : Steady (State.latchPin s ts).1 s := by
  generalize h : (State.latchPin s ts) = t; unfold State.latchPin at h; (repeat' split at h) <;> subst h <;> simp

theorem State.latchPin_trips (s ts) (ht : s.trip = true) : (State.latchPin s ts).1.trip = true := by
  unfold State.latchPin; split
  · exact ht
  · split
    · next t rest h => simpa using State.doWork_trips _ _ (by simpa using ht) (HeldTrigger.work_plain t)
    · exact ht

theorem State.latchPin_plain (s ts) : (State.latchPin s ts).2.all Work.plain = true := by
  unfold State.latchPin; split
  · rfl
  · split
    · exact State.doWork_plain _ _
    · rfl

theorem foldPins_keeps (f : State → Nat → State × List Work) (hf : ∀ s n, Steady (f s n).1 s)
    (hp : ∀ s n, (f s n).2.all Work.plain = true) (ht : ∀ s n, s.trip = true → (f s n).1.trip = true) (l : List Nat)
    (q : State × List Work) (hq : q.2.all Work.plain = true) :
    let r := l.foldl (fun (q : State × List Work) n => ((f q.1 n).1, q.2 ++ (f q.1 n).2)) q
    Steady r.1 q.1 ∧ r.2.all Work.plain = true ∧ (q.1.trip = true → r.1.trip = true) := by
  induction l generalizing q with
  | nil => simpa using hq
  | cons n l ih =>
    obtain ⟨a, c, d⟩ := ih ((f q.1 n).1, q.2 ++ (f q.1 n).2) (by rw [List.all_append, hq, hp]; rfl)
    have b := hf q.1 n
    exact ⟨⟨a.1.trans b.1, a.2.1.trans b.2.1, a.2.2.1.trans b.2.2.1, a.2.2.2.1.trans b.2.2.2.1, a.2.2.2.2.trans b.2.2.2.2⟩, c, fun h => d (ht _ _ h)⟩

theorem State.latchAll_facts (s ts) : Steady (State.latchAll s ts) s ∧ (s.trip = true → (State.latchAll s ts).trip = true) := by
  have a := fun l => foldPins_keeps (fun s n => s.latchPin (ts.filter (·.pin == n)))
    (fun s n => State.latchPin_keeps s _) (fun s n => State.latchPin_plain s _) (fun s n => State.latchPin_trips s _)
    l (s, []) rfl
  unfold State.latchAll
  generalize List.range 64 = l
  generalize workFuel = n
  replace a := a l
  dsimp only at a ⊢
  generalize l.foldl _ (s, ([] : List Work)) = q at a
  obtain ⟨a, b, c⟩ := a
  refine ⟨?_, fun ht => State.work_trips _ _ _ (c ht) ?_⟩
  · obtain ⟨w1, w2, w3, w4, w5⟩ := State.work_keeps n (q.2.filter Work.trips ++ q.2.filter (fun w => !w.trips)) q.1
    exact ⟨w1.trans a.1, w2.trans a.2.1, w3.trans a.2.2.1, w4.trans a.2.2.2.1, w5.trans a.2.2.2.2⟩
  · simp only [List.all_append, Bool.and_eq_true, List.all_eq_true, List.mem_filter] at *
    exact ⟨fun x hx => b x hx.1, fun x hx => b x hx.1⟩

@[simp] theorem State.latchAll_keeps (s ts) : Steady (State.latchAll s ts) s := (State.latchAll_facts s ts).1

@[simp] theorem State.latchAll_trips (s ts) (ht : s.trip = true) : (State.latchAll s ts).trip = true :=
  (State.latchAll_facts s ts).2 ht

@[simp] theorem State.raise_keeps (s ts) : Steady (State.raise s ts) s := by
  unfold State.raise; split <;> simp [*]

@[simp] theorem State.raise_trips (s ts) (ht : s.trip = true) : (State.raise s ts).trip = true := by
  unfold State.raise; split <;> simp [ht]

@[simp] theorem State.trigger_keeps (s a b c d e) : Steady (State.trigger s a b c d e) s := by
  unfold State.trigger; split <;> simp [*]

@[simp] theorem State.trigger_trips (s a b c d e) (ht : s.trip = true) : (State.trigger s a b c d e).trip = true := by
  unfold State.trigger; split
  · simp [ht]
  · exact State.work_trips _ _ _ ht rfl

@[simp] theorem State.triggerAll_keeps (s a b c d) : Steady (State.triggerAll s a b c d) s := by simp [State.triggerAll]

@[simp] theorem State.triggerAll_trips (s a b c d) (ht : s.trip = true) : (State.triggerAll s a b c d).trip = true := by
  simp [State.triggerAll, ht]

@[simp] theorem State.dEventsNow_keeps (s a b) : Steady (State.dEventsNow s a b) s := by simp [State.dEventsNow]

@[simp] theorem State.dEventsNow_trips (s a b) (ht : s.trip = true) : (State.dEventsNow s a b).trip = true := by
  simp [State.dEventsNow, ht]

@[simp] theorem State.dEvent_keeps (s a) : Steady (State.dEvent s a) s := by simp [State.dEvent]

@[simp] theorem State.dEvent_trips (s a) (ht : s.trip = true) : (State.dEvent s a).trip = true := by
  simp [State.dEvent, ht]

@[simp] theorem State.cleanse_keeps (s a b) : Still (State.cleanse s a b) s := by
  simp [State.cleanse]

@[simp] theorem State.enter_keeps (s a b) : Steady (State.enter s a b) s := by simp [State.enter]

@[simp] theorem State.enter_trips (s a b) (ht : s.trip = true) (ha : a ≠ .cooldown) : (State.enter s a b).trip = true := State.work_trips _ _ _ ht (by cases a <;> simp_all [Work.plain])

@[simp] theorem State.raiseCause_keeps (s a b c d e) : Steady (State.raiseCause s a b c d e) s := by
  simp [State.raiseCause]

@[simp] theorem State.raiseCause_trips (s a b c d e) (ht : s.trip = true) : (State.raiseCause s a b c d e).trip = true := by
  simp (maxDischargeDepth := 30) [State.raiseCause, ht]

@[simp] theorem State.followCause_keeps (s a b c d e f) : Steady (State.followCause s a b c d e f) s := by
  simp [State.followCause]

@[simp] theorem State.followCause_trips (s a b c d e f) (ht : s.trip = true) : (State.followCause s a b c d e f).trip = true := by
  simp (maxDischargeDepth := 30) [State.followCause, ht]

@[simp] theorem State.transient_keeps (s a) : Still (State.transient s a) s := by simp [State.transient]

@[simp] theorem State.acknowledge_keeps (s a) : Steady (State.acknowledge s a) s := by simp [State.acknowledge]

@[simp] theorem State.acknowledge_trips (s a) (ht : s.trip = true) : (State.acknowledge s a).trip = true := by
  unfold State.acknowledge; extract_lets; split
  · exact ht
  · split
    · simp +zetaDelta [ht]
    · exact State.work_trips _ _ _ (by simp +zetaDelta [ht]) (State.levelWork_plain _ _ _)

@[simp] theorem State.acknowledgeWord_keeps (s a) : Steady (State.acknowledgeWord s a) s := by
  simp [State.acknowledgeWord]

@[simp] theorem State.acknowledgeWord_trips (s a) (ht : s.trip = true) : (State.acknowledgeWord s a).trip = true := by
  unfold State.acknowledgeWord; (try dsimp only); (repeat' first | assumption | (simp (maxDischargeDepth := 30) [*]; done) | (apply each_trips; intro _ _ _; try dsimp only) | split)

@[simp] theorem State.unassayed_keeps (s a b c) : Steady (State.unassayed s a b c) s := by simp [State.unassayed]

@[simp] theorem State.unassayed_trips (s a b c) (ht : s.trip = true) : (State.unassayed s a b c).trip = true := by
  simp (maxDischargeDepth := 30) [State.unassayed, ht]

@[simp] theorem State.quarantine_keeps (s a b) : Steady (State.quarantine s a b) s := by simp [State.quarantine]

@[simp] theorem State.quarantine_trips (s a b) (ht : s.trip = true) : (State.quarantine s a b).trip = true := by
  simp (maxDischargeDepth := 30) [State.quarantine, ht]

@[simp] theorem State.notRun_keeps (s a b) : Still (State.notRun s a b) s := by simp [State.notRun]

@[simp] theorem State.indeterminate_keeps (s a b) : Steady (State.indeterminate s a b) s := by
  simp [State.indeterminate]

@[simp] theorem State.indeterminate_trips (s a b) (ht : s.trip = true) : (State.indeterminate s a b).trip = true := by
  simp (maxDischargeDepth := 30) [State.indeterminate, ht]

@[simp] theorem State.takeSafe_keeps (s a) : Still (State.takeSafe s a) s := by simp [State.takeSafe]

@[simp] theorem State.resendDup_keeps (s a b) : Steady (State.resendDup s a b) s := by
  generalize h : (State.resendDup s a b) = t; unfold State.resendDup at h; (repeat' split at h) <;> subst h <;> simp

@[simp] theorem State.resendDup_trips (s a b) (ht : s.trip = true) : (State.resendDup s a b).trip = true := by
  generalize e : (State.resendDup s a b) = t; unfold State.resendDup at e; (repeat' split at e) <;> subst e <;> simp (maxDischargeDepth := 30) [ht]

@[simp] theorem State.resendThird_keeps (s a b) : Steady (State.resendThird s a b) s := by
  generalize h : (State.resendThird s a b) = t; unfold State.resendThird at h; (repeat' split at h) <;> subst h <;> simp

@[simp] theorem State.resendThird_trips (s a b) (ht : s.trip = true) : (State.resendThird s a b).trip = true := by
  generalize e : (State.resendThird s a b) = t; unfold State.resendThird at e; (repeat' split at e) <;> subst e <;> simp (maxDischargeDepth := 30) [ht]

@[simp] theorem State.resendAnswer_keeps (s a b c) : Still (State.resendAnswer s a b c) s := by
  generalize h0 : (State.resendAnswer s a b c) = t; unfold State.resendAnswer at h0; (repeat' split at h0) <;> subst h0 <;> simp

@[simp] theorem State.startThird_keeps (s a b) : Steady (State.startThird s a b) s := by
  generalize h : (State.startThird s a b) = t; unfold State.startThird at h; (repeat' split at h) <;> subst h <;> simp

@[simp] theorem State.startThird_trips (s a b) (ht : s.trip = true) : (State.startThird s a b).trip = true := by
  generalize e : (State.startThird s a b) = t; unfold State.startThird at e; (repeat' split at e) <;> subst e <;> simp (maxDischargeDepth := 30) [ht]

@[simp] theorem State.startWaiting_keeps (s a) : Steady (State.startWaiting s a) s := by
  induction a generalizing s with | zero => simp [State.startWaiting] | succ f ih => (unfold State.startWaiting; dsimp only; split; simp; split; split; simp [ih]; simp [ih]; simp)

@[simp] theorem State.startWaiting_trips (s a) (ht : s.trip = true) : (State.startWaiting s a).trip = true := by
  induction a generalizing s with | zero => simpa [State.startWaiting] using ht | succ f ih => (unfold State.startWaiting; dsimp only; split; exact ht; split; split; (apply ih; simp [ht]); (apply ih; simp [ht]); exact ht)

@[simp] theorem State.resendAll_keeps (s a) : Steady (State.resendAll s a) s := by
  simp [State.resendAll]

@[simp] theorem State.resendAll_trips (s a) (ht : s.trip = true) : (State.resendAll s a).trip = true := by
  unfold State.resendAll; (try dsimp only); apply State.startWaiting_trips; (repeat' first | assumption | (simp (maxDischargeDepth := 30) [*]; done) | (apply each_trips; intro _ _ _; try dsimp only) | split)

@[simp] theorem State.loseVote_keeps (s a) : Steady (State.loseVote s a) s := by simp [State.loseVote]

@[simp] theorem State.loseVote_trips (s a) (ht : s.trip = true) : (State.loseVote s a).trip = true := by
  simp (maxDischargeDepth := 30) [State.loseVote, ht]

@[simp] theorem State.mismatch_keeps (s a b) : Steady (State.mismatch s a b) s := by simp [State.mismatch]

@[simp] theorem State.mismatch_trips (s a b) (ht : s.trip = true) : (State.mismatch s a b).trip = true := by
  simp (maxDischargeDepth := 30) [State.mismatch, ht]

@[simp] theorem State.compare_keeps (s a b) : Steady (State.compare s a b) s := by
  generalize h : (State.compare s a b) = t; unfold State.compare at h; (repeat' split at h) <;> subst h <;> simp

@[simp] theorem State.compare_trips (s a b) (ht : s.trip = true) : (State.compare s a b).trip = true := by
  generalize e : (State.compare s a b) = t; unfold State.compare at e; (repeat' split at e) <;> subst e <;> simp (maxDischargeDepth := 30) [ht]

@[simp] theorem State.vote_keeps (s a b c) : Steady (State.vote s a b c) s := by simp [State.vote]

@[simp] theorem State.vote_trips (s a b c) (ht : s.trip = true) : (State.vote s a b c).trip = true := by
  simp (maxDischargeDepth := 30) [State.vote, ht]

@[simp] theorem State.unassayedGroup_keeps (s a b) : Steady (State.unassayedGroup s a b) s := by
  simp [State.unassayedGroup]

@[simp] theorem State.unassayedGroup_trips (s a b) (ht : s.trip = true) : (State.unassayedGroup s a b).trip = true := by
  simp (maxDischargeDepth := 30) [State.unassayedGroup, ht]

@[simp] theorem State.select_keeps (s a b) : Steady (State.select s a b).1 s := by
  unfold State.select; dsimp only; split; simp; simp; split <;> simp

@[simp] theorem State.select_trips (s a b) (ht : s.trip = true) : (State.select s a b).1.trip = true := by
  unfold State.select; dsimp only; split; simp [ht]; simp [ht]; split <;> simp [ht]

@[simp] theorem State.assayGrant_keeps (s a b c) : Steady (State.assayGrant s a b c) s := by simp [State.assayGrant]

@[simp] theorem State.assayGrant_trips (s a b c) (ht : s.trip = true) : (State.assayGrant s a b c).trip = true := by
  have h : ∀ (t : State) (c d : Bool) (g : Group), t.trip = true → (if c then t.select g d else (t, false)).1.trip = true := by
    intro t c d g h; rw [ite_fst]; split; exact State.select_trips _ _ _ h; exact h
  have k : ∀ (q : State × Bool) (g : Group), q.1.trip = true →
      (if q.2 = true then q.1 else ({ q.1 with assayer := { q.1.assayer with groups := q.1.assayer.groups ++ [g] } } : State)).trip = true := by
    intro q g h; split <;> exact h
  unfold State.assayGrant; split
  · exact ht
  · exact k _ _ (h _ _ _ _ (by simpa using ht))

@[simp] theorem State.tagEntry_keeps (s a b) : Still (State.tagEntry s a b) s := by
  simp [State.tagEntry]

@[simp] theorem State.windowNotice_keeps (s a b) : Steady (State.windowNotice s a b) s := by simp [State.windowNotice]

@[simp] theorem State.windowNotice_trips (s a b) (ht : s.trip = true) : (State.windowNotice s a b).trip = true := by
  unfold State.windowNotice; (try dsimp only); (repeat' first | assumption | (simp (maxDischargeDepth := 30) [*]; done) | (apply each_trips; intro _ _ _; try dsimp only) | split)

@[simp] theorem State.pumpRun_keeps (s) : Steady (State.pumpRun s) s := by simp [State.pumpRun]

@[simp] theorem State.pumpRun_trips (s) (ht : s.trip = true) : (State.pumpRun s).trip = true := by
  unfold State.pumpRun; (try dsimp only); (repeat' first | assumption | (simp (maxDischargeDepth := 30) [*]; done) | (apply each_trips; intro _ _ _; try dsimp only) | split)

@[simp] theorem State.refill_keeps (s) : Steady (State.refill s) s := by
  simp [State.refill]

@[simp] theorem State.refill_trips (s) (ht : s.trip = true) : (State.refill s).trip = true := by
  simp (maxDischargeDepth := 30) [State.refill, ht]

@[simp] theorem State.dropGroup_keeps (s a b c) : Still (State.dropGroup s a b c) s := by simp [State.dropGroup]

@[simp] theorem State.logDone_keeps (s a b c d e) : Still (State.logDone s a b c d e) s := by
  simp [State.logDone]

@[simp] theorem State.assayDone_keeps (s a b c d e f g) : Steady (State.assayDone s a b c d e f g) s := by
  generalize h0 : (State.assayDone s a b c d e f g) = t; unfold State.assayDone at h0; (repeat' split at h0) <;> subst h0 <;> simp

@[simp] theorem State.assayDone_trips (s a b c d e f g) (ht : s.trip = true) : (State.assayDone s a b c d e f g).trip = true := by
  generalize h0 : (State.assayDone s a b c d e f g) = t; unfold State.assayDone at h0; (repeat' split at h0) <;> subst h0 <;> simp (maxDischargeDepth := 30) [ht]

@[simp] theorem State.answerDone_keeps (s a b c d) : Steady (State.answerDone s a b c d) s := by
  simp [State.answerDone]

@[simp] theorem State.answerDone_trips (s a b c d) (ht : s.trip = true) : (State.answerDone s a b c d).trip = true := by
  simp (maxDischargeDepth := 30) [State.answerDone, ht]

@[simp] theorem State.assayRole_keeps (s a b c d e f g) : Steady (State.assayRole s a b c d e f g) s := by
  generalize h0 : (State.assayRole s a b c d e f g) = t; unfold State.assayRole at h0; (repeat' split at h0) <;> subst h0 <;> simp

@[simp] theorem State.assayRole_trips (s a b c d e f g) (ht : s.trip = true) : (State.assayRole s a b c d e f g).trip = true := by
  generalize h0 : (State.assayRole s a b c d e f g) = t; unfold State.assayRole at h0; (repeat' split at h0) <;> subst h0 <;> simp (maxDischargeDepth := 30) [ht]

@[simp] theorem State.assayTimedOut_keeps (s a b c) : Steady (State.assayTimedOut s a b c) s := by
  generalize h : (State.assayTimedOut s a b c) = t; unfold State.assayTimedOut at h; (repeat' split at h) <;> subst h <;> simp

@[simp] theorem State.assayTimedOut_trips (s a b c) (ht : s.trip = true) : (State.assayTimedOut s a b c).trip = true := by
  generalize e : (State.assayTimedOut s a b c) = t; unfold State.assayTimedOut at e; (repeat' split at e) <;> subst e <;> simp (maxDischargeDepth := 30) [ht]

@[simp] theorem State.assayWithdraw_keeps (s a b c) : Steady (State.assayWithdraw s a b c) s := by
  generalize h : (State.assayWithdraw s a b c) = t; unfold State.assayWithdraw at h; (repeat' split at h) <;> subst h <;> simp

@[simp] theorem State.assayWithdraw_trips (s a b c) (ht : s.trip = true) : (State.assayWithdraw s a b c).trip = true := by
  generalize e : (State.assayWithdraw s a b c) = t; unfold State.assayWithdraw at e; (repeat' split at e) <;> subst e <;> simp (maxDischargeDepth := 30) [ht]

@[simp] theorem State.capacityCheck_keeps (s a b) : Still (State.capacityCheck s a b) s := by
  simp [State.capacityCheck]

@[simp] theorem State.floorCheck_keeps (s a) : Steady (State.floorCheck s a) s := by simp [State.floorCheck]

@[simp] theorem State.floorCheck_trips (s a) (ht : s.trip = true) : (State.floorCheck s a).trip = true := by
  simp (maxDischargeDepth := 30) [State.floorCheck, ht]

@[simp] theorem State.wakeLane_keeps (s a b c) : Still (State.wakeLane s a b c) s := by simp [State.wakeLane]

@[simp] theorem State.addLane_keeps (s a b) : Still (State.addLane s a b) s := by simp [State.addLane]

@[simp] theorem State.raisePlan_keeps (s a b c) : Still (State.raisePlan s a b c) s := by simp [State.raisePlan]

@[simp] theorem State.nextPeriod_keeps (s a) : Still (State.nextPeriod s a) s := by
  simp [State.nextPeriod]

@[simp] theorem State.parkLane_keeps (s a) : Still (State.parkLane s a) s := by simp [State.parkLane]

@[simp] theorem State.reinterleave_keeps (s a) : Still (State.reinterleave s a) s := ⟨by 
    unfold State.reinterleave; (try dsimp only); (repeat' first | rfl | (simp; done) | ((refine (each_keeps (fun s : State => s.pending) ?_ _ _).trans ?_); intro _ _; try dsimp only) | ((refine (foldl_pending _ _ _ ?_).trans ?_); intro _ _; try dsimp only) | split), by 
    unfold State.reinterleave; (try dsimp only); (repeat' first | rfl | (simp; done) | ((refine (each_keeps (fun s : State => s.cfg) ?_ _ _).trans ?_); intro _ _; try dsimp only) | ((refine (foldl_cfg _ _ _ ?_).trans ?_); intro _ _; try dsimp only) | split), by 
    unfold State.reinterleave; (try dsimp only); (repeat' first | rfl | (simp; done) | ((refine (each_keeps (fun s : State => s.mram) ?_ _ _).trans ?_); intro _ _; try dsimp only) | ((refine (foldl_mram _ _ _ ?_).trans ?_); intro _ _; try dsimp only) | split), by 
    unfold State.reinterleave; (try dsimp only); (repeat' first | rfl | (simp; done) | ((refine (each_keeps (fun s : State => s.tb.now) ?_ _ _).trans ?_); intro _ _; try dsimp only) | ((refine (foldl_tb_now _ _ _ ?_).trans ?_); intro _ _; try dsimp only) | split), by 
    unfold State.reinterleave; (try dsimp only); (repeat' first | rfl | (simp; done) | ((refine (each_keeps (fun s : State => s.gov.gathered.isSome) ?_ _ _).trans ?_); intro _ _; try dsimp only) | ((refine (foldl_gov_gathered _ _ _ ?_).trans ?_); intro _ _; try dsimp only) | split), by 
    unfold State.reinterleave; (try dsimp only); (repeat' first | rfl | (simp; done) | ((refine (each_keeps (fun s : State => s.gov.st) ?_ _ _).trans ?_); intro _ _; try dsimp only) | ((refine (foldl_gov_st _ _ _ ?_).trans ?_); intro _ _; try dsimp only) | split), by 
    unfold State.reinterleave; (try dsimp only); (repeat' first | rfl | (simp; done) | ((refine (each_keeps (fun s : State => s.gov.tripLatch) ?_ _ _).trans ?_); intro _ _; try dsimp only) | ((refine (foldl_gov_tripLatch _ _ _ ?_).trans ?_); intro _ _; try dsimp only) | split), by 
    unfold State.reinterleave; (try dsimp only); (repeat' first | rfl | (simp; done) | ((refine (each_keeps (fun s : State => s.trip) ?_ _ _).trans ?_); intro _ _; try dsimp only) | ((refine (foldl_trip _ _ _ ?_).trans ?_); intro _ _; try dsimp only) | split)⟩

@[simp] theorem State.faultLane_keeps (s a b c) : Steady (State.faultLane s a b c) s := by simp [State.faultLane]

@[simp] theorem State.faultLane_trips (s a b c) (ht : s.trip = true) : (State.faultLane s a b c).trip = true := by
  simp (maxDischargeDepth := 30) [State.faultLane, ht]

@[simp] theorem State.loadStep_keeps (s a) : Still (State.loadStep s a) s := by simp [State.loadStep]

@[simp] theorem State.sawLow_keeps (s a b) : Still (State.sawLow s a b) s := by
  simp [State.sawLow]

@[simp] theorem State.fireTrigger_keeps (s a) : Steady (State.fireTrigger s a) s := by
  unfold State.fireTrigger; dsimp only; split
  · split <;> simp
  · split
    · generalize h : State.captureEvent _ 2 a = t
      have k : Steady t s := by subst h; simp
      clear h
      split <;> simp_all
    · simp

@[simp] theorem State.fireTrigger_trips (s a) (ht : s.trip = true) : (State.fireTrigger s a).trip = true := by
  unfold State.fireTrigger; dsimp only; split
  · split <;> simp [ht]
  · split
    · generalize h : State.captureEvent _ 2 a = t
      have k : t.trip = true := by subst h; simp [ht]
      clear h
      split <;> simp [k]
    · exact ht

@[simp] theorem State.voidFire_keeps (s a) : Still (State.voidFire s a) s := by
  refine ⟨?_, ?_, ?_, ?_, ?_, ?_, ?_, ?_⟩ <;> (unfold State.voidFire; (try dsimp only); (repeat' first | rfl | (simp; done) | ((first | refine (each_keeps (fun s : State => s.pending) ?_ _ _).trans ?_ | refine (each_keeps (fun s : State => s.cfg) ?_ _ _).trans ?_ | refine (each_keeps (fun s : State => s.mram) ?_ _ _).trans ?_ | refine (each_keeps (fun s : State => s.tb.now) ?_ _ _).trans ?_ | refine (each_keeps (fun s : State => s.gov.gathered.isSome) ?_ _ _).trans ?_ | refine (each_keeps (fun s : State => s.gov.st) ?_ _ _).trans ?_ | refine (each_keeps (fun s : State => s.gov.tripLatch) ?_ _ _).trans ?_ | refine (each_keeps (fun s : State => s.trip) ?_ _ _).trans ?_); intro _ _; try dsimp only) | ((first | refine (foldl_pending _ _ _ ?_).trans ?_ | refine (foldl_cfg _ _ _ ?_).trans ?_ | refine (foldl_mram _ _ _ ?_).trans ?_ | refine (foldl_tb_now _ _ _ ?_).trans ?_ | refine (foldl_gov_gathered _ _ _ ?_).trans ?_ | refine (foldl_gov_st _ _ _ ?_).trans ?_ | refine (foldl_gov_tripLatch _ _ _ ?_).trans ?_ | refine (foldl_trip _ _ _ ?_).trans ?_); intro _ _; try dsimp only) | split))

@[simp] theorem State.endFire_keeps (s a) : Still (State.endFire s a) s := ⟨by 
    unfold State.endFire; (try dsimp only); (repeat' first | rfl | (simp; done) | ((refine (each_keeps (fun s : State => s.pending) ?_ _ _).trans ?_); intro _ _; try dsimp only) | ((refine (foldl_pending _ _ _ ?_).trans ?_); intro _ _; try dsimp only) | split), by 
    unfold State.endFire; (try dsimp only); (repeat' first | rfl | (simp; done) | ((refine (each_keeps (fun s : State => s.cfg) ?_ _ _).trans ?_); intro _ _; try dsimp only) | ((refine (foldl_cfg _ _ _ ?_).trans ?_); intro _ _; try dsimp only) | split), by 
    unfold State.endFire; (try dsimp only); (repeat' first | rfl | (simp; done) | ((refine (each_keeps (fun s : State => s.mram) ?_ _ _).trans ?_); intro _ _; try dsimp only) | ((refine (foldl_mram _ _ _ ?_).trans ?_); intro _ _; try dsimp only) | split), by 
    unfold State.endFire; (try dsimp only); (repeat' first | rfl | (simp; done) | ((refine (each_keeps (fun s : State => s.tb.now) ?_ _ _).trans ?_); intro _ _; try dsimp only) | ((refine (foldl_tb_now _ _ _ ?_).trans ?_); intro _ _; try dsimp only) | split), by 
    unfold State.endFire; (try dsimp only); (repeat' first | rfl | (simp; done) | ((refine (each_keeps (fun s : State => s.gov.gathered.isSome) ?_ _ _).trans ?_); intro _ _; try dsimp only) | ((refine (foldl_gov_gathered _ _ _ ?_).trans ?_); intro _ _; try dsimp only) | split), by 
    unfold State.endFire; (try dsimp only); (repeat' first | rfl | (simp; done) | ((refine (each_keeps (fun s : State => s.gov.st) ?_ _ _).trans ?_); intro _ _; try dsimp only) | ((refine (foldl_gov_st _ _ _ ?_).trans ?_); intro _ _; try dsimp only) | split), by 
    unfold State.endFire; (try dsimp only); (repeat' first | rfl | (simp; done) | ((refine (each_keeps (fun s : State => s.gov.tripLatch) ?_ _ _).trans ?_); intro _ _; try dsimp only) | ((refine (foldl_gov_tripLatch _ _ _ ?_).trans ?_); intro _ _; try dsimp only) | split), by 
    unfold State.endFire; (try dsimp only); (repeat' first | rfl | (simp; done) | ((refine (each_keeps (fun s : State => s.trip) ?_ _ _).trans ?_); intro _ _; try dsimp only) | ((refine (foldl_trip _ _ _ ?_).trans ?_); intro _ _; try dsimp only) | split)⟩

@[simp] theorem State.groupBand_keeps (s a) : Still (State.groupBand s a) s := by simp [State.groupBand]

@[simp] theorem State.blindCheck_keeps (s a) : Steady (State.blindCheck s a) s := by simp [State.blindCheck]

@[simp] theorem State.blindCheck_trips (s a) (ht : s.trip = true) : (State.blindCheck s a).trip = true := by
  simp (maxDischargeDepth := 30) [State.blindCheck, ht]

@[simp] theorem State.closeWindow_keeps (s a b c) : Still (State.closeWindow s a b c) s := by simp [State.closeWindow]

@[simp] theorem State.openWindow_keeps (s a b c) : Steady (State.openWindow s a b c) s := by
  unfold State.openWindow; dsimp only; refine ⟨?_, ?_, ?_, ?_, ?_⟩ <;> (repeat' first | rfl | (simp; done) | split)

@[simp] theorem State.openWindow_trips (s a b c) (ht : s.trip = true) : (State.openWindow s a b c).trip = true := by
  unfold State.openWindow; (try dsimp only); (repeat' first | assumption | (simp (maxDischargeDepth := 30) [*]; done) | (apply each_trips; intro _ _ _; try dsimp only) | split)

@[simp] theorem State.endEvent_keeps (s a) : Still (State.endEvent s a) s := by simp [State.endEvent]

@[simp] theorem State.deepEvent_keeps (s a b) : Steady (State.deepEvent s a b) s := by simp [State.deepEvent]

@[simp] theorem State.deepEvent_trips (s a b) (ht : s.trip = true) : (State.deepEvent s a b).trip = true := by
  simp (maxDischargeDepth := 30) [State.deepEvent, ht]

@[simp] theorem State.severeEvent_keeps (s a) : Steady (State.severeEvent s a) s := by
  refine ⟨?_, ?_, ?_, ?_, ?_⟩ <;> (unfold State.severeEvent; (try dsimp only); (repeat' first | rfl | (simp; done) | ((first | refine (each_keeps (fun s : State => s.pending) ?_ _ _).trans ?_ | refine (each_keeps (fun s : State => s.cfg) ?_ _ _).trans ?_ | refine (each_keeps (fun s : State => s.mram) ?_ _ _).trans ?_ | refine (each_keeps (fun s : State => s.tb.now) ?_ _ _).trans ?_ | refine (each_keeps (fun s : State => s.gov.gathered.isSome) ?_ _ _).trans ?_); intro _ _; try dsimp only) | ((first | refine (foldl_pending _ _ _ ?_).trans ?_ | refine (foldl_cfg _ _ _ ?_).trans ?_ | refine (foldl_mram _ _ _ ?_).trans ?_ | refine (foldl_tb_now _ _ _ ?_).trans ?_ | refine (foldl_gov_gathered _ _ _ ?_).trans ?_); intro _ _; try dsimp only) | split))

@[simp] theorem State.severeEvent_trips (s a) (ht : s.trip = true) : (State.severeEvent s a).trip = true := by
  unfold State.severeEvent; extract_lets t u
  have h : u.trip = true := State.fireTrigger_trips _ _ (by simp [t, ht])
  clear_value u
  split <;> simp [h]

@[simp] theorem State.indicate_keeps (s a b) : Steady (State.indicate s a b) s := by simp [State.indicate]

@[simp] theorem State.indicate_trips (s a b) (ht : s.trip = true) : (State.indicate s a b).trip = true := by
  simp (maxDischargeDepth := 30) [State.indicate, ht]

@[simp] theorem State.fastOnly_keeps (s a) : Steady (State.fastOnly s a) s := by simp [State.fastOnly]

@[simp] theorem State.fastOnly_trips (s a) (ht : s.trip = true) : (State.fastOnly s a).trip = true := by
  simp (maxDischargeDepth := 30) [State.fastOnly, ht]

@[simp] theorem State.fastLate_keeps (s a) : Steady (State.fastLate s a) s := by
  simp [State.fastLate]

@[simp] theorem State.fastLate_trips (s a) (ht : s.trip = true) : (State.fastLate s a).trip = true := by
  simp (maxDischargeDepth := 30) [State.fastLate, ht]

@[simp] theorem State.relevel_keeps (s a) : Still (State.relevel s a) s := by
  simp [State.relevel]

@[simp] theorem State.maskTap_keeps (s a) : Steady (State.maskTap s a) s := by simp [State.maskTap]

@[simp] theorem State.maskTap_trips (s a) (ht : s.trip = true) : (State.maskTap s a).trip = true := by
  simp (maxDischargeDepth := 30) [State.maskTap, ht]

@[simp] theorem State.useReport_keeps (s a b c d e) : Steady (State.useReport s a b c d e) s := by
  simp [State.useReport]

@[simp] theorem State.useReport_trips (s a b c d e) (ht : s.trip = true) : (State.useReport s a b c d e).trip = true := by
  simp (maxDischargeDepth := 30) [State.useReport, ht]

@[simp] theorem State.badReport_keeps (s a) : Steady (State.badReport s a) s := by
  simp [State.badReport]

@[simp] theorem State.badReport_trips (s a) (ht : s.trip = true) : (State.badReport s a).trip = true := by
  simp (maxDischargeDepth := 30) [State.badReport, ht]

@[simp] theorem State.discardReport_keeps (s a b) : Steady (State.discardReport s a b) s := by
  simp [State.discardReport]

@[simp] theorem State.discardReport_trips (s a b) (ht : s.trip = true) : (State.discardReport s a b).trip = true := by
  simp (maxDischargeDepth := 30) [State.discardReport, ht]

@[simp] theorem State.goodParity_keeps (s a) : Still (State.goodParity s a) s := by
  simp [State.goodParity]

@[simp] theorem State.censusReport_keeps (s a b c) : Still (State.censusReport s a b c) s := by
  simp [State.censusReport]

@[simp] theorem State.command_keeps (s a b c d) : Still (State.command s a b c d) s := by simp [State.command]

@[simp] theorem State.compareGroup_keeps (s a) : Still (State.compareGroup s a) s := ⟨by 
    unfold State.compareGroup; (try dsimp only); (repeat' first | rfl | (simp; done) | ((refine (each_keeps (fun s : State => s.pending) ?_ _ _).trans ?_); intro _ _; try dsimp only) | ((refine (foldl_pending _ _ _ ?_).trans ?_); intro _ _; try dsimp only) | split), by 
    unfold State.compareGroup; (try dsimp only); (repeat' first | rfl | (simp; done) | ((refine (each_keeps (fun s : State => s.cfg) ?_ _ _).trans ?_); intro _ _; try dsimp only) | ((refine (foldl_cfg _ _ _ ?_).trans ?_); intro _ _; try dsimp only) | split), by 
    unfold State.compareGroup; (try dsimp only); (repeat' first | rfl | (simp; done) | ((refine (each_keeps (fun s : State => s.mram) ?_ _ _).trans ?_); intro _ _; try dsimp only) | ((refine (foldl_mram _ _ _ ?_).trans ?_); intro _ _; try dsimp only) | split), by 
    unfold State.compareGroup; (try dsimp only); (repeat' first | rfl | (simp; done) | ((refine (each_keeps (fun s : State => s.tb.now) ?_ _ _).trans ?_); intro _ _; try dsimp only) | ((refine (foldl_tb_now _ _ _ ?_).trans ?_); intro _ _; try dsimp only) | split), by 
    unfold State.compareGroup; (try dsimp only); (repeat' first | rfl | (simp; done) | ((refine (each_keeps (fun s : State => s.gov.gathered.isSome) ?_ _ _).trans ?_); intro _ _; try dsimp only) | ((refine (foldl_gov_gathered _ _ _ ?_).trans ?_); intro _ _; try dsimp only) | split), by 
    unfold State.compareGroup; (try dsimp only); (repeat' first | rfl | (simp; done) | ((refine (each_keeps (fun s : State => s.gov.st) ?_ _ _).trans ?_); intro _ _; try dsimp only) | ((refine (foldl_gov_st _ _ _ ?_).trans ?_); intro _ _; try dsimp only) | split), by 
    unfold State.compareGroup; (try dsimp only); (repeat' first | rfl | (simp; done) | ((refine (each_keeps (fun s : State => s.gov.tripLatch) ?_ _ _).trans ?_); intro _ _; try dsimp only) | ((refine (foldl_gov_tripLatch _ _ _ ?_).trans ?_); intro _ _; try dsimp only) | split), by 
    unfold State.compareGroup; (try dsimp only); (repeat' first | rfl | (simp; done) | ((refine (each_keeps (fun s : State => s.trip) ?_ _ _).trans ?_); intro _ _; try dsimp only) | ((refine (foldl_trip _ _ _ ?_).trans ?_); intro _ _; try dsimp only) | split)⟩

@[simp] theorem State.droopFrame_keeps (s) : Steady (State.droopFrame s) s := by
  simp [State.droopFrame]

@[simp] theorem State.droopFrame_trips (s) (ht : s.trip = true) : (State.droopFrame s).trip = true := by
  unfold State.droopFrame; (try dsimp only); (repeat' first | assumption | (simp (maxDischargeDepth := 30) [*]; done) | (apply each_trips; intro _ _ _; try dsimp only) | split)

@[simp] theorem State.droopSnapshot_keeps (s a) : Still (State.droopSnapshot s a) s := by simp [State.droopSnapshot]

@[simp] theorem State.sensorMissing_keeps (s a) : Steady (State.sensorMissing s a) s := by simp [State.sensorMissing]

@[simp] theorem State.sensorMissing_trips (s a) (ht : s.trip = true) : (State.sensorMissing s a).trip = true := by
  simp (maxDischargeDepth := 30) [State.sensorMissing, ht]

@[simp] theorem State.censusRead_keeps (s a b) : Steady (State.censusRead s a b) s := by simp [State.censusRead]

@[simp] theorem State.censusRead_trips (s a b) (ht : s.trip = true) : (State.censusRead s a b).trip = true := by
  simp (maxDischargeDepth := 30) [State.censusRead, ht]

@[simp] theorem State.readGood_keeps (s a b c d) : Steady (State.readGood s a b c d) s := by simp [State.readGood]

@[simp] theorem State.readGood_trips (s a b c d) (ht : s.trip = true) : (State.readGood s a b c d).trip = true := by
  simp (maxDischargeDepth := 30) [State.readGood, ht]

@[simp] theorem State.readBad_keeps (s a b) : Steady (State.readBad s a b) s := by simp [State.readBad]

@[simp] theorem State.readBad_trips (s a b) (ht : s.trip = true) : (State.readBad s a b).trip = true := by
  simp (maxDischargeDepth := 30) [State.readBad, ht]

@[simp] theorem State.commitRegion_keeps (s a b) : Still (State.commitRegion s a b) s := by
  generalize h : (State.commitRegion s a b) = t; unfold State.commitRegion at h; (repeat' split at h) <;> subst h <;> simp

@[simp] theorem State.bandMoved_keeps (s a b) : Steady (State.bandMoved s a b) s := by simp [State.bandMoved]

@[simp] theorem State.bandMoved_trips (s a b) (ht : s.trip = true) : (State.bandMoved s a b).trip = true := by
  simp (maxDischargeDepth := 30) [State.bandMoved, ht]

@[simp] theorem State.warnKind_keeps (s a b) : Steady (State.warnKind s a b) s := by
  generalize h : (State.warnKind s a b) = t; unfold State.warnKind at h; (repeat' split at h) <;> subst h <;> simp

@[simp] theorem State.warnKind_trips (s a b) (ht : s.trip = true) : (State.warnKind s a b).trip = true := by
  generalize e : (State.warnKind s a b) = t; unfold State.warnKind at e; (repeat' split at e) <;> subst e <;> simp (maxDischargeDepth := 30) [ht]

@[simp] theorem State.setStair_keeps (s a) : Steady (State.setStair s a) s := by simp [State.setStair]

@[simp] theorem State.setStair_trips (s a) (ht : s.trip = true) : (State.setStair s a).trip = true := by
  simp (maxDischargeDepth := 30) [State.setStair, ht]

@[simp] theorem State.staircase_keeps (s a b c) : Steady (State.staircase s a b c) s := by simp [State.staircase]

@[simp] theorem State.staircase_trips (s a b c) (ht : s.trip = true) : (State.staircase s a b c).trip = true := by
  unfold State.staircase; (try dsimp only); (repeat' first | assumption | (simp (maxDischargeDepth := 30) [*]; done) | (apply each_trips; intro _ _ _; try dsimp only) | split)

@[simp] theorem State.coolFollow_keeps (s) : Still (State.coolFollow s) s := by simp [State.coolFollow]

@[simp] theorem State.inlet_keeps (s a b) : Steady (State.inlet s a b) s := by
  simp [State.inlet]

@[simp] theorem State.inlet_trips (s a b) (ht : s.trip = true) : (State.inlet s a b).trip = true := by
  simp (maxDischargeDepth := 30) [State.inlet, ht]

@[simp] theorem State.coolCommit_keeps (s) : Still (State.coolCommit s) s := by simp [State.coolCommit]

@[simp] theorem State.coolTick_keeps (s a) : Steady (State.coolTick s a).1 s := by simp [State.coolTick]

@[simp] theorem State.coolTick_trips (s a) (ht : s.trip = true) : (State.coolTick s a).1.trip = true := by
  simp (maxDischargeDepth := 30) [State.coolTick, ht]

@[simp] theorem State.criterion_keeps (s a) : Still (State.criterion s a) s := by
  simp [State.criterion]

@[simp] theorem State.addCauses_keeps (s a) : Still (State.addCauses s a) s := by
  simp [State.addCauses]

@[simp] theorem State.thermalTrip_keeps (s a b c) : Steady (State.thermalTrip s a b c) s := by
  simp [State.thermalTrip]

@[simp] theorem State.thermalTrip_trips (s a b c) (ht : s.trip = true) : (State.thermalTrip s a b c).trip = true := by
  simp (maxDischargeDepth := 30) [State.thermalTrip, ht]

@[simp] theorem State.stackCensus_keeps (s a) : Still (State.stackCensus s a) s := ⟨by 
    unfold State.stackCensus; (try dsimp only); (repeat' first | rfl | (simp; done) | ((refine (each_keeps (fun s : State => s.pending) ?_ _ _).trans ?_); intro _ _; try dsimp only) | ((refine (foldl_pending _ _ _ ?_).trans ?_); intro _ _; try dsimp only) | split), by 
    unfold State.stackCensus; (try dsimp only); (repeat' first | rfl | (simp; done) | ((refine (each_keeps (fun s : State => s.cfg) ?_ _ _).trans ?_); intro _ _; try dsimp only) | ((refine (foldl_cfg _ _ _ ?_).trans ?_); intro _ _; try dsimp only) | split), by 
    unfold State.stackCensus; (try dsimp only); (repeat' first | rfl | (simp; done) | ((refine (each_keeps (fun s : State => s.mram) ?_ _ _).trans ?_); intro _ _; try dsimp only) | ((refine (foldl_mram _ _ _ ?_).trans ?_); intro _ _; try dsimp only) | split), by 
    unfold State.stackCensus; (try dsimp only); (repeat' first | rfl | (simp; done) | ((refine (each_keeps (fun s : State => s.tb.now) ?_ _ _).trans ?_); intro _ _; try dsimp only) | ((refine (foldl_tb_now _ _ _ ?_).trans ?_); intro _ _; try dsimp only) | split), by 
    unfold State.stackCensus; (try dsimp only); (repeat' first | rfl | (simp; done) | ((refine (each_keeps (fun s : State => s.gov.gathered.isSome) ?_ _ _).trans ?_); intro _ _; try dsimp only) | ((refine (foldl_gov_gathered _ _ _ ?_).trans ?_); intro _ _; try dsimp only) | split), by 
    unfold State.stackCensus; (try dsimp only); (repeat' first | rfl | (simp; done) | ((refine (each_keeps (fun s : State => s.gov.st) ?_ _ _).trans ?_); intro _ _; try dsimp only) | ((refine (foldl_gov_st _ _ _ ?_).trans ?_); intro _ _; try dsimp only) | split), by 
    unfold State.stackCensus; (try dsimp only); (repeat' first | rfl | (simp; done) | ((refine (each_keeps (fun s : State => s.gov.tripLatch) ?_ _ _).trans ?_); intro _ _; try dsimp only) | ((refine (foldl_gov_tripLatch _ _ _ ?_).trans ?_); intro _ _; try dsimp only) | split), by 
    unfold State.stackCensus; (try dsimp only); (repeat' first | rfl | (simp; done) | ((refine (each_keeps (fun s : State => s.trip) ?_ _ _).trans ?_); intro _ _; try dsimp only) | ((refine (foldl_trip _ _ _ ?_).trans ?_); intro _ _; try dsimp only) | split)⟩

@[simp] theorem State.endQuarantine_keeps (s a) : Still (State.endQuarantine s a) s := by
  unfold State.endQuarantine; dsimp only; refine ⟨?_, ?_, ?_, ?_, ?_, ?_, ?_, ?_⟩ <;> (repeat' first | rfl | (simp; done) | split)

@[simp] theorem State.peerReported_keeps (s a) : Steady (State.peerReported s a) s := by simp [State.peerReported]

@[simp] theorem State.peerReported_trips (s a) (ht : s.trip = true) : (State.peerReported s a).trip = true := by
  simp (maxDischargeDepth := 30) [State.peerReported, ht]

@[simp] theorem State.sendStatus_keeps (s a) : Still (State.sendStatus s a) s := by simp [State.sendStatus]

@[simp] theorem State.beginRun_keeps (s a b c d) : Steady (State.beginRun s a b c d) s := by simp [State.beginRun]

@[simp] theorem State.beginRun_trips (s a b c d) (ht : s.trip = true) : (State.beginRun s a b c d).trip = true := by
  simp (maxDischargeDepth := 30) [State.beginRun, ht]

@[simp] theorem State.startKnown_keeps (s) : Steady (State.startKnown s) s := by simp [State.startKnown]

@[simp] theorem State.startKnown_trips (s) (ht : s.trip = true) : (State.startKnown s).trip = true := by
  simp (maxDischargeDepth := 30) [State.startKnown, ht]

@[simp] theorem State.sweepStep_keeps (s a) : Still (State.sweepStep s a) s := by simp [State.sweepStep]

@[simp] theorem State.startSweep_keeps (s) : Still (State.startSweep s) s := by simp [State.startSweep]

@[simp] theorem State.judgeStep_keeps (s) : Still (State.judgeStep s) s := by simp [State.judgeStep]

@[simp] theorem State.finishSweep_keeps (s) : Still (State.finishSweep s) s := by simp [State.finishSweep]

@[simp] theorem State.freeSlot_keeps (s a) : Still (State.freeSlot s a) s := by simp [State.freeSlot]

@[simp] theorem State.readSlot_keeps (s a) : Steady (State.readSlot s a) s := by simp [State.readSlot]

@[simp] theorem State.readSlot_trips (s a) (ht : s.trip = true) : (State.readSlot s a).trip = true := by
  simp (maxDischargeDepth := 30) [State.readSlot, ht]

@[simp] theorem State.readFamily_keeps (s a) : Steady (State.readFamily s a).1 s := by
  simp [State.readFamily]

@[simp] theorem State.readFamily_trips (s a) (ht : s.trip = true) : (State.readFamily s a).1.trip = true := by
  simp (maxDischargeDepth := 30) [State.readFamily, ht]

@[simp] theorem State.setSig_keeps (s a b) : Still (State.setSig s a b) s := by simp [State.setSig]

@[simp] theorem State.lookup_keeps (s a) : Steady (State.lookup s a).1 s := by simp [State.lookup]

@[simp] theorem State.lookup_trips (s a) (ht : s.trip = true) : (State.lookup s a).1.trip = true := by
  simp (maxDischargeDepth := 30) [State.lookup, ht]

@[simp] theorem State.bookBins_keeps (s a b) : Still (State.bookBins s a b) s := by simp [State.bookBins]

@[simp] theorem State.book_keeps (s a) : Still (State.book s a) s := by simp [State.book]

@[simp] theorem State.withdraw_keeps (s a) : Still (State.withdraw s a) s := by simp [State.withdraw]

@[simp] theorem State.dropPredicted_keeps (s a) : Still (State.dropPredicted s a) s := by simp [State.dropPredicted]

@[simp] theorem State.endActive_keeps (s a) : Still (State.endActive s a) s := by simp [State.endActive]

@[simp] theorem State.fitEntry_keeps (s a b) : Steady (State.fitEntry s a b) s := by
  simp [State.fitEntry]

@[simp] theorem State.fitEntry_trips (s a b) (ht : s.trip = true) : (State.fitEntry s a b).trip = true := by
  simp (maxDischargeDepth := 30) [State.fitEntry, ht]

@[simp] theorem State.closeFit_keeps (s a b c d e) : Still (State.closeFit s a b c d e) s := by
  simp [State.closeFit]

@[simp] theorem State.fitList_keeps (s n l) : Steady (State.fitList s n l) s := by
  induction l generalizing s n with
  | nil => simp [State.fitList]
  | cons x rest ih =>
    cases x with
    | entry t g =>
      cases n with
      | zero => simp [State.fitList]
      | succ k => exact (ih _ _).trans (by simp)
    | close r lst eps epsC groups => exact (ih _ _).trans (by simp)

@[simp] theorem State.fitList_trips (s n l) (ht : s.trip = true) : (State.fitList s n l).trip = true := by
  induction l generalizing s n with
  | nil => exact ht
  | cons x rest ih =>
    cases x with
    | entry t g =>
      cases n with
      | zero => exact ht
      | succ k => exact ih _ _ (by simp [ht])
    | close r lst eps epsC groups => exact ih _ _ (by simp [ht])

@[simp] theorem State.fitsAt_keeps (s a) : Steady (State.fitsAt s a) s := by
  unfold State.fitsAt; dsimp only; split <;> simp

@[simp] theorem State.fitsAt_trips (s a) (ht : s.trip = true) : (State.fitsAt s a).trip = true := by
  unfold State.fitsAt; dsimp only; split
  · exact ht
  · exact State.fitList_trips s _ _ ht

@[simp] theorem State.fitNow_keeps (s) : Steady (State.fitNow s) s := by simp [State.fitNow]

@[simp] theorem State.fitNow_trips (s) (ht : s.trip = true) : (State.fitNow s).trip = true := by
  unfold State.fitNow; (try split) <;> simp [ht]

@[simp] theorem State.fitEnd_keeps (s) : Steady (State.fitEnd s).1 s :=
  Steady.trans (b := s.fitsAt 1008) (State.fitList_keeps _ _ _) (State.fitsAt_keeps s _)

@[simp] theorem State.fitEnd_trips (s) (ht : s.trip = true) : (State.fitEnd s).1.trip = true :=
  State.fitList_trips _ _ _ (State.fitsAt_trips s _ ht)

@[simp] theorem State.timeOutSlot_keeps (s a) : Steady (State.timeOutSlot s a) s := by simp [State.timeOutSlot]

@[simp] theorem State.timeOutSlot_trips (s a) (ht : s.trip = true) : (State.timeOutSlot s a).trip = true := by
  simp (maxDischargeDepth := 30) [State.timeOutSlot, ht]

theorem State.freeDomain_keeps (s a b) (f : State → Nat → State) (h : ∀ s n, Steady (f s n) s) :
    Steady (State.freeDomain s a b f) s := by
  unfold State.freeDomain
  refine each_steady (fun t n => ?_) _ s
  dsimp only; split
  · exact (h _ _).trans (by simp)
  · simp

theorem State.freeDomain_trips (s a b) (f : State → Nat → State) (h : ∀ s n, s.trip = true → (f s n).trip = true)
    (ht : s.trip = true) : (State.freeDomain s a b f).trip = true := by
  unfold State.freeDomain
  refine each_trips _ _ _ (fun t n k => ?_) ht
  dsimp only; split
  · exact h _ _ (by simp [k])
  · simp [k]

@[simp] theorem State.timeOutDomain_keeps (s a) : Steady (State.timeOutDomain s a) s :=
  State.freeDomain_keeps s _ _ _ (fun _ _ => by simp)

@[simp] theorem State.timeOutDomain_trips (s a) (ht : s.trip = true) : (State.timeOutDomain s a).trip = true :=
  State.freeDomain_trips s _ _ _ (fun _ _ k => by simp [k]) ht

@[simp] theorem State.withdrawDomain_keeps (s a) : Steady (State.withdrawDomain s a) s :=
  State.freeDomain_keeps s _ _ _ (fun _ _ => by simp)

@[simp] theorem State.withdrawDomain_trips (s a) (ht : s.trip = true) : (State.withdrawDomain s a).trip = true :=
  State.freeDomain_trips s _ _ _ (fun _ _ k => by simp [k]) ht

@[simp] theorem State.addLoose_keeps (s a b c d) : Still (State.addLoose s a b c d) s := by simp [State.addLoose]

@[simp] theorem State.refillArray_keeps (s a b c d e) : Still (State.refillArray s a b c d e) s := by
  simp [State.refillArray]

@[simp] theorem State.refillRail_keeps (s a b) : Still (State.refillRail s a b) s := by simp [State.refillRail]

@[simp] theorem State.refillAll_keeps (s a) : Still (State.refillAll s a) s := by simp [State.refillAll]

@[simp] theorem State.ringUpdate_keeps (s a b) : Still (State.ringUpdate s a b) s := by simp [State.ringUpdate]

@[simp] theorem State.answerPort_keeps (s a b) : Still (State.answerPort s a b) s := by simp [State.answerPort]

@[simp] theorem State.hold_keeps (s a b c d e f) : Still (State.hold s a b c d e f) s := by simp [State.hold]

@[simp] theorem State.grantSlot_keeps (s a b c d) : Still (State.grantSlot s a b c d) s := by
  unfold State.grantSlot; dsimp only; refine ⟨?_, ?_, ?_, ?_, ?_, ?_, ?_, ?_⟩ <;> (repeat' first | rfl | (simp; done) | split)

@[simp] theorem State.grant_keeps (s a b c d e f g h) : Steady (State.grant s a b c d e f g h) s := by
  simp [State.grant]

@[simp] theorem State.grant_trips (s a b c d e f g h) (ht : s.trip = true) : (State.grant s a b c d e f g h).trip = true := by
  simp (maxDischargeDepth := 30) [State.grant, ht]

@[simp] theorem State.decide_keeps (s a b c d e f g) : Steady (State.decide s a b c d e f g) s := by
  simp [State.decide]

@[simp] theorem State.decide_trips (s a b c d e f g) (ht : s.trip = true) : (State.decide s a b c d e f g).trip = true := by
  simp (maxDischargeDepth := 30) [State.decide, ht]

@[simp] theorem State.decideFiller_keeps (s a b c d e f) : Steady (State.decideFiller s a b c d e f) s := by
  simp [State.decideFiller]

@[simp] theorem State.decideFiller_trips (s a b c d e f) (ht : s.trip = true) : (State.decideFiller s a b c d e f).trip = true := by
  simp (maxDischargeDepth := 30) [State.decideFiller, ht]

@[simp] theorem State.issueUsed_keeps (s a b c d e f g) : Steady (State.issueUsed s a b c d e f g) s := by
  simp [State.issueUsed]

@[simp] theorem State.issueUsed_trips (s a b c d e f g) (ht : s.trip = true) : (State.issueUsed s a b c d e f g).trip = true := by
  unfold State.issueUsed; (try dsimp only); (repeat' first | assumption | (simp (maxDischargeDepth := 30) [*]; done) | (apply each_trips; intro _ _ _; try dsimp only) | split)

@[simp] theorem State.issueUnused_keeps (s a b c d e) : Steady (State.issueUnused s a b c d e) s := by
  simp [State.issueUnused]

@[simp] theorem State.issueUnused_trips (s a b c d e) (ht : s.trip = true) : (State.issueUnused s a b c d e).trip = true := by
  simp (maxDischargeDepth := 30) [State.issueUnused, ht]

@[simp] theorem State.sigmaUpdate_keeps (s a) : Steady (State.sigmaUpdate s a) s := by simp [State.sigmaUpdate]

@[simp] theorem State.sigmaUpdate_trips (s a) (ht : s.trip = true) : (State.sigmaUpdate s a).trip = true := by
  simp (maxDischargeDepth := 30) [State.sigmaUpdate, ht]

@[simp] theorem State.sigmaWindow_keeps (s a) : Still (State.sigmaWindow s a) s := by simp [State.sigmaWindow]

@[simp] theorem State.rampRelease_keeps (s a) : Still (State.rampRelease s a) s := by simp [State.rampRelease]

@[simp] theorem State.envelopeAim_keeps (s a) : Still (State.envelopeAim s a) s := by
  simp [State.envelopeAim]

@[simp] theorem State.publishRate_keeps (s a) : Still (State.publishRate s a) s := by
  simp [State.publishRate]

@[simp] theorem State.fillerRates_keeps (s) : Still (State.fillerRates s).1 s := by
  refine ⟨?_, ?_, ?_, ?_, ?_, ?_, ?_, ?_⟩ <;> (unfold State.fillerRates; (try dsimp only); (repeat' first | rfl | (simp; done) | ((first | refine (each_keeps (fun s : State => s.pending) ?_ _ _).trans ?_ | refine (each_keeps (fun s : State => s.cfg) ?_ _ _).trans ?_ | refine (each_keeps (fun s : State => s.mram) ?_ _ _).trans ?_ | refine (each_keeps (fun s : State => s.tb.now) ?_ _ _).trans ?_ | refine (each_keeps (fun s : State => s.gov.gathered.isSome) ?_ _ _).trans ?_ | refine (each_keeps (fun s : State => s.gov.st) ?_ _ _).trans ?_ | refine (each_keeps (fun s : State => s.gov.tripLatch) ?_ _ _).trans ?_ | refine (each_keeps (fun s : State => s.trip) ?_ _ _).trans ?_); intro _ _; try dsimp only) | ((first | refine (foldl_pending _ _ _ ?_).trans ?_ | refine (foldl_cfg _ _ _ ?_).trans ?_ | refine (foldl_mram _ _ _ ?_).trans ?_ | refine (foldl_tb_now _ _ _ ?_).trans ?_ | refine (foldl_gov_gathered _ _ _ ?_).trans ?_ | refine (foldl_gov_st _ _ _ ?_).trans ?_ | refine (foldl_gov_tripLatch _ _ _ ?_).trans ?_ | refine (foldl_trip _ _ _ ?_).trans ?_); intro _ _; try dsimp only) | split))

@[simp] theorem State.fillerCommit_keeps (s) : Still (State.fillerCommit s) s := by
  refine ⟨?_, ?_, ?_, ?_, ?_, ?_, ?_, ?_⟩ <;> (unfold State.fillerCommit; (try dsimp only); (repeat' first | rfl | (simp; done) | ((first | refine (each_keeps (fun s : State => s.pending) ?_ _ _).trans ?_ | refine (each_keeps (fun s : State => s.cfg) ?_ _ _).trans ?_ | refine (each_keeps (fun s : State => s.mram) ?_ _ _).trans ?_ | refine (each_keeps (fun s : State => s.tb.now) ?_ _ _).trans ?_ | refine (each_keeps (fun s : State => s.gov.gathered.isSome) ?_ _ _).trans ?_ | refine (each_keeps (fun s : State => s.gov.st) ?_ _ _).trans ?_ | refine (each_keeps (fun s : State => s.gov.tripLatch) ?_ _ _).trans ?_ | refine (each_keeps (fun s : State => s.trip) ?_ _ _).trans ?_); intro _ _; try dsimp only) | ((first | refine (foldl_pending _ _ _ ?_).trans ?_ | refine (foldl_cfg _ _ _ ?_).trans ?_ | refine (foldl_mram _ _ _ ?_).trans ?_ | refine (foldl_tb_now _ _ _ ?_).trans ?_ | refine (foldl_gov_gathered _ _ _ ?_).trans ?_ | refine (foldl_gov_st _ _ _ ?_).trans ?_ | refine (foldl_gov_tripLatch _ _ _ ?_).trans ?_ | refine (foldl_trip _ _ _ ?_).trans ?_); intro _ _; try dsimp only) | split))

@[simp] theorem State.downDone_keeps (s) : Steady (State.downDone s) s := by simp [State.downDone]

@[simp] theorem State.downDone_trips (s) (ht : s.trip = true) : (State.downDone s).trip = true := by
  simp (maxDischargeDepth := 30) [State.downDone, ht]

@[simp] theorem State.startDischarge_keeps (s a) : Still (State.startDischarge s a) s := by
  unfold State.startDischarge; extract_lets t
  have h : Still t s := each_still (fun _ _ => by simp) _ s
  clear_value t
  split <;> exact Still.trans (by simp) h

@[simp] theorem State.railsDownStep_keeps (s a) : Steady (State.railsDownStep s a) s := by
  induction a generalizing s with | zero => simp [State.railsDownStep] | succ f ih => (unfold State.railsDownStep; dsimp only; split; simp; split; simp [ih]; simp)

@[simp] theorem State.railsDownStep_trips (s a) (ht : s.trip = true) : (State.railsDownStep s a).trip = true := by
  induction a generalizing s with | zero => simpa [State.railsDownStep] using ht | succ f ih => (unfold State.railsDownStep; dsimp only; split; simp [ht]; split; (apply ih; simp [ht]); simp [ht])

@[simp] theorem State.discharged_keeps (s a) : Steady (State.discharged s a) s := by simp [State.discharged]

@[simp] theorem State.discharged_trips (s a) (ht : s.trip = true) : (State.discharged s a).trip = true := by
  simp (maxDischargeDepth := 30) [State.discharged, ht]

@[simp] theorem State.waitTick_keeps (s) : Still (State.waitTick s) s := by
  refine ⟨?_, ?_, ?_, ?_, ?_, ?_, ?_, ?_⟩ <;> (unfold State.waitTick; (try dsimp only); (repeat' first | rfl | (simp; done) | ((first | refine (each_keeps (fun s : State => s.pending) ?_ _ _).trans ?_ | refine (each_keeps (fun s : State => s.cfg) ?_ _ _).trans ?_ | refine (each_keeps (fun s : State => s.mram) ?_ _ _).trans ?_ | refine (each_keeps (fun s : State => s.tb.now) ?_ _ _).trans ?_ | refine (each_keeps (fun s : State => s.gov.gathered.isSome) ?_ _ _).trans ?_ | refine (each_keeps (fun s : State => s.gov.st) ?_ _ _).trans ?_ | refine (each_keeps (fun s : State => s.gov.tripLatch) ?_ _ _).trans ?_ | refine (each_keeps (fun s : State => s.trip) ?_ _ _).trans ?_); intro _ _; try dsimp only) | ((first | refine (foldl_pending _ _ _ ?_).trans ?_ | refine (foldl_cfg _ _ _ ?_).trans ?_ | refine (foldl_mram _ _ _ ?_).trans ?_ | refine (foldl_tb_now _ _ _ ?_).trans ?_ | refine (foldl_gov_gathered _ _ _ ?_).trans ?_ | refine (foldl_gov_st _ _ _ ?_).trans ?_ | refine (foldl_gov_tripLatch _ _ _ ?_).trans ?_ | refine (foldl_trip _ _ _ ?_).trans ?_); intro _ _; try dsimp only) | split))

@[simp] theorem State.wantWake_keeps (s a) : Still (State.wantWake s a) s := by simp [State.wantWake]

@[simp] theorem State.startFall_keeps (s a b c) : Still (State.startFall s a b c) s := by simp [State.startFall]

@[simp] theorem State.startDrain_keeps (s a) : Steady (State.startDrain s a) s := by simp [State.startDrain]

@[simp] theorem State.startDrain_trips (s a) (ht : s.trip = true) : (State.startDrain s a).trip = true := by
  simp [State.startDrain, ht]

@[simp] theorem State.gateNext_keeps (s) : Steady (State.gateNext s) s := ⟨by unfold State.gateNext; split; (simp only [ite_pending, State.railsDownStep_keeps, ite_self]; refine each_keeps (fun s : State => s.pending) ?_ _ _; intro s d; split <;> simp); rfl, by unfold State.gateNext; split; (simp only [ite_cfg, State.railsDownStep_keeps, ite_self]; refine each_keeps (fun s : State => s.cfg) ?_ _ _; intro s d; split <;> simp); rfl, by unfold State.gateNext; split; (simp only [ite_mram, State.railsDownStep_keeps, ite_self]; refine each_keeps (fun s : State => s.mram) ?_ _ _; intro s d; split <;> simp); rfl, by unfold State.gateNext; split; (simp only [ite_tb_now, State.railsDownStep_keeps, ite_self]; refine each_keeps (fun s : State => s.tb.now) ?_ _ _; intro s d; split <;> simp); rfl, by unfold State.gateNext; split; (simp only [ite_gov_gathered, State.railsDownStep_keeps, ite_self]; refine each_keeps (fun s : State => s.gov.gathered.isSome) ?_ _ _; intro s d; split <;> simp); rfl⟩

@[simp] theorem State.gateNext_trips (s) (ht : s.trip = true) : (State.gateNext s).trip = true := by
  unfold State.gateNext; split; (extract_lets; split; (apply State.railsDownStep_trips; refine each_trips _ _ _ ?_ ht; intro s d h; dsimp only; split <;> simp [h]); (refine each_trips _ _ _ ?_ ht; intro s d h; dsimp only; split <;> simp [h])); exact ht

@[simp] theorem State.startDown_keeps (s) : Steady (State.startDown s) s := by simp [State.startDown]

@[simp] theorem State.startDown_trips (s) (ht : s.trip = true) : (State.startDown s).trip = true := by
  simp (maxDischargeDepth := 30) [State.startDown, ht]

@[simp] theorem State.seqFail_keeps (s) : Steady (State.seqFail s) s := by simp [State.seqFail]

@[simp] theorem State.seqFail_trips (s) (ht : s.trip = true) : (State.seqFail s).trip = true := by
  simp (maxDischargeDepth := 30) [State.seqFail, ht]

@[simp] theorem State.seqCheck_keeps (s) : Steady (State.seqCheck s) s := by simp [State.seqCheck]

@[simp] theorem State.seqCheck_trips (s) (ht : s.trip = true) : (State.seqCheck s).trip = true := by
  simp (maxDischargeDepth := 30) [State.seqCheck, ht]

@[simp] theorem State.faultDomain_keeps (s a) : Steady (State.faultDomain s a) s := by simp [State.faultDomain]

@[simp] theorem State.faultDomain_trips (s a) (ht : s.trip = true) : (State.faultDomain s a).trip = true := by
  simp (maxDischargeDepth := 30) [State.faultDomain, ht]

@[simp] theorem State.missedWake_keeps (s a) : Steady (State.missedWake s a) s := by simp [State.missedWake]

@[simp] theorem State.missedWake_trips (s a) (ht : s.trip = true) : (State.missedWake s a).trip = true := by
  simp (maxDischargeDepth := 30) [State.missedWake, ht]

@[simp] theorem State.fallen_keeps (s a) : Steady (State.fallen s a) s := by
  unfold State.fallen; dsimp only; refine ⟨?_, ?_, ?_, ?_, ?_⟩ <;> (repeat' first | rfl | (simp; done) | split)

@[simp] theorem State.fallen_trips (s a) (ht : s.trip = true) : (State.fallen s a).trip = true := by
  unfold State.fallen; (try dsimp only); (repeat' first | assumption | (simp (maxDischargeDepth := 30) [*]; done) | (apply each_trips; intro _ _ _; try dsimp only) | split)

@[simp] theorem State.domainOn_keeps (s a) : Steady (State.domainOn s a) s := by simp [State.domainOn]

@[simp] theorem State.domainOn_trips (s a) (ht : s.trip = true) : (State.domainOn s a).trip = true := by
  simp (maxDischargeDepth := 30) [State.domainOn, ht]

@[simp] theorem State.startCensus_keeps (s a) : Still (State.startCensus s a) s := ⟨by 
    unfold State.startCensus; (try dsimp only); (repeat' first | rfl | (simp; done) | ((refine (each_keeps (fun s : State => s.pending) ?_ _ _).trans ?_); intro _ _; try dsimp only) | ((refine (foldl_pending _ _ _ ?_).trans ?_); intro _ _; try dsimp only) | split), by 
    unfold State.startCensus; (try dsimp only); (repeat' first | rfl | (simp; done) | ((refine (each_keeps (fun s : State => s.cfg) ?_ _ _).trans ?_); intro _ _; try dsimp only) | ((refine (foldl_cfg _ _ _ ?_).trans ?_); intro _ _; try dsimp only) | split), by 
    unfold State.startCensus; (try dsimp only); (repeat' first | rfl | (simp; done) | ((refine (each_keeps (fun s : State => s.mram) ?_ _ _).trans ?_); intro _ _; try dsimp only) | ((refine (foldl_mram _ _ _ ?_).trans ?_); intro _ _; try dsimp only) | split), by 
    unfold State.startCensus; (try dsimp only); (repeat' first | rfl | (simp; done) | ((refine (each_keeps (fun s : State => s.tb.now) ?_ _ _).trans ?_); intro _ _; try dsimp only) | ((refine (foldl_tb_now _ _ _ ?_).trans ?_); intro _ _; try dsimp only) | split), by 
    unfold State.startCensus; (try dsimp only); (repeat' first | rfl | (simp; done) | ((refine (each_keeps (fun s : State => s.gov.gathered.isSome) ?_ _ _).trans ?_); intro _ _; try dsimp only) | ((refine (foldl_gov_gathered _ _ _ ?_).trans ?_); intro _ _; try dsimp only) | split), by 
    unfold State.startCensus; (try dsimp only); (repeat' first | rfl | (simp; done) | ((refine (each_keeps (fun s : State => s.gov.st) ?_ _ _).trans ?_); intro _ _; try dsimp only) | ((refine (foldl_gov_st _ _ _ ?_).trans ?_); intro _ _; try dsimp only) | split), by 
    unfold State.startCensus; (try dsimp only); (repeat' first | rfl | (simp; done) | ((refine (each_keeps (fun s : State => s.gov.tripLatch) ?_ _ _).trans ?_); intro _ _; try dsimp only) | ((refine (foldl_gov_tripLatch _ _ _ ?_).trans ?_); intro _ _; try dsimp only) | split), by 
    unfold State.startCensus; (try dsimp only); (repeat' first | rfl | (simp; done) | ((refine (each_keeps (fun s : State => s.trip) ?_ _ _).trans ?_); intro _ _; try dsimp only) | ((refine (foldl_trip _ _ _ ?_).trans ?_); intro _ _; try dsimp only) | split)⟩

@[simp] theorem State.startDomains_keeps (s) : Steady (State.startDomains s) s := by simp [State.startDomains]

@[simp] theorem State.startDomains_trips (s) (ht : s.trip = true) : (State.startDomains s).trip = true := by
  simp (maxDischargeDepth := 30) [State.startDomains, ht]

@[simp] theorem State.startUp_keeps (s) : Steady (State.startUp s) s := by
  unfold State.startUp; dsimp only; refine ⟨?_, ?_, ?_, ?_, ?_⟩ <;> (repeat' first | rfl | (simp; done) | split)

@[simp] theorem State.startUp_trips (s) (ht : s.trip = true) : (State.startUp s).trip = true := by
  unfold State.startUp; (try dsimp only); (repeat' first | assumption | (simp (maxDischargeDepth := 30) [*]; done) | (apply each_trips; intro _ _ _; try dsimp only) | split)

@[simp] theorem State.autoStart_keeps (s) : Steady (State.autoStart s) s := by simp [State.autoStart]

@[simp] theorem State.autoStart_trips (s) (ht : s.trip = true) : (State.autoStart s).trip = true := by
  simp (maxDischargeDepth := 30) [State.autoStart, ht]

@[simp] theorem State.railMissed_keeps (s a) : Steady (State.railMissed s a) s := by simp [State.railMissed]

@[simp] theorem State.railMissed_trips (s a) (ht : s.trip = true) : (State.railMissed s a).trip = true := by
  simp (maxDischargeDepth := 30) [State.railMissed, ht]

@[simp] theorem State.overrun_keeps (s a) : Steady (State.overrun s a) s := by simp [State.overrun]

@[simp] theorem State.overrun_trips (s a) (ht : s.trip = true) : (State.overrun s a).trip = true := by
  simp (maxDischargeDepth := 30) [State.overrun, ht]

@[simp] theorem State.announceOverrun_keeps (s) : Steady (State.announceOverrun s) s := by
  simp [State.announceOverrun]

@[simp] theorem State.announceOverrun_trips (s) (ht : s.trip = true) : (State.announceOverrun s).trip = true := by
  simp (maxDischargeDepth := 30) [State.announceOverrun, ht]

@[simp] theorem State.setAwaits_keeps (s a b) : Still (State.setAwaits s a b) s := by simp [State.setAwaits]

@[simp] theorem State.unusedWord_keeps (s) : Steady (State.unusedWord s) s := by simp [State.unusedWord]

@[simp] theorem State.unusedWord_trips (s) (ht : s.trip = true) : (State.unusedWord s).trip = true := by
  simp (maxDischargeDepth := 30) [State.unusedWord, ht]

@[simp] theorem State.wordCheck_keeps (s a) : Steady (State.wordCheck s a).1 s := by simp [State.wordCheck]

@[simp] theorem State.wordCheck_trips (s a) (ht : s.trip = true) : (State.wordCheck s a).1.trip = true := by
  simp (maxDischargeDepth := 30) [State.wordCheck, ht]

@[simp] theorem State.noteDone_keeps (s a) : Still (State.noteDone s a) s := by
  simp [State.noteDone]

@[simp] theorem State.finish_keeps (s a b c) : Steady (State.finish s a b c) s := by
  simp [State.finish]

@[simp] theorem State.finish_trips (s a b c) (ht : s.trip = true) : (State.finish s a b c).trip = true := by
  simp (maxDischargeDepth := 30) [State.finish, ht]

@[simp] theorem State.acceptDigest_keeps (s a b c) : Steady (State.acceptDigest s a b c) s := by
  simp [State.acceptDigest]

@[simp] theorem State.acceptDigest_trips (s a b c) (ht : s.trip = true) : (State.acceptDigest s a b c).trip = true := by
  simp (maxDischargeDepth := 30) [State.acceptDigest, ht]

@[simp] theorem State.evalFlags_keeps (s a) : Still (State.evalFlags s a) s := by simp [State.evalFlags]

@[simp] theorem State.fallBack_keeps (s) : Still (State.fallBack s) s := by simp [State.fallBack]

@[simp] theorem State.evaluate_keeps (s a b c d e f) : Steady (State.evaluate s a b c d e f).1 s := by
  simp [State.evaluate]

@[simp] theorem State.evaluate_trips (s a b c d e f) (ht : s.trip = true) : (State.evaluate s a b c d e f).1.trip = true := by
  simp (maxDischargeDepth := 30) [State.evaluate, ht]

@[simp] theorem State.predict_keeps (s a) : Steady (State.predict s a) s := by
  refine ⟨?_, ?_, ?_, ?_, ?_⟩ <;> (unfold State.predict; (try dsimp only); (repeat' first | rfl | (simp; done) | ((first | refine (each_keeps (fun s : State => s.pending) ?_ _ _).trans ?_ | refine (each_keeps (fun s : State => s.cfg) ?_ _ _).trans ?_ | refine (each_keeps (fun s : State => s.mram) ?_ _ _).trans ?_ | refine (each_keeps (fun s : State => s.tb.now) ?_ _ _).trans ?_ | refine (each_keeps (fun s : State => s.gov.gathered.isSome) ?_ _ _).trans ?_); intro _ _; try dsimp only) | ((first | refine (foldl_pending _ _ _ ?_).trans ?_ | refine (foldl_cfg _ _ _ ?_).trans ?_ | refine (foldl_mram _ _ _ ?_).trans ?_ | refine (foldl_tb_now _ _ _ ?_).trans ?_ | refine (foldl_gov_gathered _ _ _ ?_).trans ?_); intro _ _; try dsimp only) | split))

@[simp] theorem State.predict_trips (s a) (ht : s.trip = true) : (State.predict s a).trip = true := by
  unfold State.predict; (try dsimp only); (repeat' first | assumption | (simp (maxDischargeDepth := 30) [*]; done) | (apply each_trips; intro _ _ _; try dsimp only) | split)

@[simp] theorem State.commitPrediction_keeps (s a) : Steady (State.commitPrediction s a) s := by
  simp [State.commitPrediction]

@[simp] theorem State.commitPrediction_trips (s a) (ht : s.trip = true) : (State.commitPrediction s a).trip = true := by
  simp (maxDischargeDepth := 30) [State.commitPrediction, ht]

@[simp] theorem State.commitTaken_keeps (s) : Steady (State.commitTaken s) s := by
  unfold State.commitTaken
  exact (each_steady (fun _ _ => by simp) _ _).trans (by simp)

@[simp] theorem State.commitTaken_trips (s) (ht : s.trip = true) : (State.commitTaken s).trip = true := by
  unfold State.commitTaken
  exact each_trips _ _ _ (fun _ _ k => by simp [k]) ht

@[simp] theorem State.cancel_keeps (s a) : Steady (State.cancel s a) s := by simp [State.cancel]

@[simp] theorem State.cancel_trips (s a) (ht : s.trip = true) : (State.cancel s a).trip = true := by
  simp (maxDischargeDepth := 30) [State.cancel, ht]

@[simp] theorem State.restoreBins_keeps (s a) : Steady (State.restoreBins s a) s := by simp [State.restoreBins]

@[simp] theorem State.restoreBins_trips (s a) (ht : s.trip = true) : (State.restoreBins s a).trip = true := by
  simp (maxDischargeDepth := 30) [State.restoreBins, ht]

@[simp] theorem State.planFit_keeps (s a) : Still (State.planFit s a) s := by
  simp [State.planFit]

@[simp] theorem State.tallyTick_keeps (s) : Steady (State.tallyTick s) s := by simp [State.tallyTick]

@[simp] theorem State.tallyTick_trips (s) (ht : s.trip = true) : (State.tallyTick s).trip = true := by
  unfold State.tallyTick; extract_lets s1 _ _ _ s2 s3 s4 _ s5 s6
  have h1 : s1.trip = true := each_trips _ _ _ (fun _ _ k => by simp [k]) ht
  have h3 : s3.trip = true := each_trips _ _ _ (fun _ _ k => k) h1
  have h4 : s4.trip = true := each_trips _ _ _ (fun _ _ k => by split <;> exact k) h3
  have h6 : s6.trip = true := each_trips _ _ _ (fun _ _ k => k) h4
  exact each_trips _ _ _ (fun _ _ k => by simp [k]) h6

@[simp] theorem State.bandOutputs_keeps (s) : Still (State.bandOutputs s) s := by simp [State.bandOutputs]

@[simp] theorem State.commitOnDie_keeps (s a b) : Steady (State.commitOnDie s a b) s := by
  generalize h : (State.commitOnDie s a b) = t; unfold State.commitOnDie at h; (repeat' split at h) <;> subst h <;> simp

@[simp] theorem State.commitOnDie_trips (s a b) (ht : s.trip = true) : (State.commitOnDie s a b).trip = true := by
  generalize e : (State.commitOnDie s a b) = t; unfold State.commitOnDie at e; (repeat' split at e) <;> subst e <;> simp (maxDischargeDepth := 30) [ht]

@[simp] theorem State.commitStack_keeps (s a) : Steady (State.commitStack s a) s := by
  unfold State.commitStack; dsimp only; refine ⟨?_, ?_, ?_, ?_, ?_⟩ <;> (repeat' first | rfl | (simp; done) | split)

@[simp] theorem State.commitStack_trips (s a) (ht : s.trip = true) : (State.commitStack s a).trip = true := by
  unfold State.commitStack; (try dsimp only); (repeat' first | assumption | (simp (maxDischargeDepth := 30) [*]; done) | (apply each_trips; intro _ _ _; try dsimp only) | split)

@[simp] theorem State.surplusSensor_keeps (s a) : Still (State.surplusSensor s a) s := by simp [State.surplusSensor]

@[simp] theorem State.crossCheck_keeps (s a b) : Steady (State.crossCheck s a b) s := by simp [State.crossCheck]

@[simp] theorem State.crossCheck_trips (s a b) (ht : s.trip = true) : (State.crossCheck s a b).trip = true := by
  simp (maxDischargeDepth := 30) [State.crossCheck, ht]

@[simp] theorem State.statesOf_keeps (s a) : Still (State.statesOf s a) s := by
  simp [State.statesOf]

@[simp] theorem State.nearCommit_keeps (s a) : Still (State.nearCommit s a) s := by
  simp [State.nearCommit]

@[simp] theorem State.judge_keeps (s a) : Steady (State.judge s a) s := by
  generalize h0 : (State.judge s a) = t; unfold State.judge at h0; (repeat' split at h0) <;> subst h0 <;> simp

@[simp] theorem State.judge_trips (s a) (ht : s.trip = true) : (State.judge s a).trip = true := by
  unfold State.judge; extract_lets _ s1 s2 _ s3 s4 _ _ _ s5 _ s6
  have h1 : s1.trip = true := each_trips _ _ _ (fun _ _ k => by simp [k]) ht
  have h2 : s2.trip = true := each_trips _ _ _ (fun _ _ k => by simp [k]) h1
  have h3 : s3.trip = true := by unfold s3; split <;> exact h2
  have h4 : s4.trip = true := each_trips _ _ _ (fun _ _ k => by simp [k]) h3
  have h5 : s5.trip = true := each_trips _ _ _ (fun _ _ k => by simp [k]) h4
  exact State.staircase_trips _ _ _ _ h5

@[simp] theorem State.programCells_keeps (s a) : Steady (State.programCells s a) s := by simp [State.programCells]

@[simp] theorem State.programCells_trips (s a) (ht : s.trip = true) : (State.programCells s a).trip = true := by
  unfold State.programCells; (try dsimp only); (repeat' first | assumption | (simp (maxDischargeDepth := 30) [*]; done) | (apply each_trips; intro _ _ _; try dsimp only) | split)

@[simp] theorem State.restart_keeps (s) : Steady (State.restart s) s := by simp [State.restart]

@[simp] theorem State.restart_trips (s) (ht : s.trip = true) : (State.restart s).trip = true := by
  simp (maxDischargeDepth := 30) [State.restart, ht]

@[simp] theorem State.setLoadStatus_keeps (s a) : Still (State.setLoadStatus s a) s := by simp [State.setLoadStatus]

@[simp] theorem State.loadProgram_keeps (s a) : Still (State.loadProgram s a) s := by simp [State.loadProgram]

@[simp] theorem State.requestProgram_keeps (s) : Still (State.requestProgram s).1 s := by simp [State.requestProgram]

@[simp] theorem State.activateProgram_keeps (s) : Still (State.activateProgram s) s := by simp [State.activateProgram]

@[simp] theorem State.applyCommit_keeps (s a) : Still (State.applyCommit s a) s := by simp [State.applyCommit]

@[simp] theorem State.lawOverrun_keeps (s a b) : Steady (State.lawOverrun s a b) s := by simp [State.lawOverrun]

@[simp] theorem State.lawOverrun_trips (s a b) (ht : s.trip = true) : (State.lawOverrun s a b).trip = true := by
  simp (maxDischargeDepth := 30) [State.lawOverrun, ht]

@[simp] theorem State.readSet_keeps (s a) : Steady (State.readSet s a).1 s := ⟨by unfold State.readSet; split; rfl; simp only [ite_fst, ite_pending]; split; simp; simp only [State.raiseCause_keeps]; split <;> simp, by unfold State.readSet; split; rfl; simp only [ite_fst, ite_cfg]; split; simp; simp only [State.raiseCause_keeps]; split <;> simp, by unfold State.readSet; split; rfl; simp only [ite_fst, ite_mram]; split; simp; simp only [State.raiseCause_keeps]; split <;> simp, by unfold State.readSet; split; rfl; simp only [ite_fst, ite_tb_now]; split; simp; simp only [State.raiseCause_keeps]; split <;> simp, by unfold State.readSet; split; rfl; simp only [ite_fst, ite_gov_gathered]; split; simp; simp only [State.raiseCause_keeps]; split <;> simp⟩

@[simp] theorem State.readSet_trips (s a) (ht : s.trip = true) : (State.readSet s a).1.trip = true := by
  unfold State.readSet; split; exact ht; simp only [ite_fst, ite_trip]; split; simp [ht]; refine State.raiseCause_trips _ _ _ _ _ _ ?_; rw [ite_trip]; split <;> simp [ht]

@[simp] theorem State.repairShadow_keeps (s a) : Steady (State.repairShadow s a) s := by simp [State.repairShadow]

@[simp] theorem State.repairShadow_trips (s a) (ht : s.trip = true) : (State.repairShadow s a).trip = true := by
  simp (maxDischargeDepth := 30) [State.repairShadow, ht]

@[simp] theorem State.repairState_keeps (s a b) : Steady (State.repairState s a b) s := by simp [State.repairState]

@[simp] theorem State.repairState_trips (s a b) (ht : s.trip = true) : (State.repairState s a b).trip = true := by
  simp (maxDischargeDepth := 30) [State.repairState, ht]

@[simp] theorem State.injectorTick_keeps (s a) : Still (State.injectorTick s a) s := by simp [State.injectorTick]

@[simp] theorem State.startInjection_keeps (s) : Still (State.startInjection s) s := by simp [State.startInjection]

@[simp] theorem State.limitLaw_keeps (s a b) : Steady (State.limitLaw s a b) s := by
  unfold State.limitLaw; dsimp only; refine ⟨?_, ?_, ?_, ?_, ?_⟩ <;> (repeat' first | rfl | (simp; done) | split)

@[simp] theorem State.limitLaw_trips (s a b) (ht : s.trip = true) : (State.limitLaw s a b).trip = true := by
  unfold State.limitLaw; (try dsimp only); (repeat' first | assumption | (simp (maxDischargeDepth := 30) [*]; done) | (apply each_trips; intro _ _ _; try dsimp only) | split)

@[simp] theorem State.followFrame_keeps (s a b) : Still (State.followFrame s a b) s := by simp [State.followFrame]

@[simp] theorem State.limitLaws_keeps (s) : Steady (State.limitLaws s) s := by simp [State.limitLaws]

@[simp] theorem State.limitLaws_trips (s) (ht : s.trip = true) : (State.limitLaws s).trip = true := by
  unfold State.limitLaws; (try dsimp only); (repeat' first | assumption | (simp (maxDischargeDepth := 30) [*]; done) | (apply each_trips; intro _ _ _; try dsimp only) | split)

@[simp] theorem State.filterLaw_keeps (s a) : Steady (State.filterLaw s a) s := by
  unfold State.filterLaw; dsimp only; refine ⟨?_, ?_, ?_, ?_, ?_⟩ <;> (repeat' first | rfl | (simp; done) | split)

@[simp] theorem State.filterLaw_trips (s a) (ht : s.trip = true) : (State.filterLaw s a).trip = true := by
  unfold State.filterLaw; dsimp only
  have h0 : ((s.applyCommit a).repairState a 0).trip = true := by
    apply State.repairState_trips; rw [(State.applyCommit_keeps s a).2.2.2.2.2.2.2]; exact ht
  have h1 := State.readSet_trips _ a h0
  split
  · exact State.lawOverrun_trips _ _ _ h1
  · split <;> exact h1

@[simp] theorem State.filters_keeps (s) : Steady (State.filters s) s := by simp [State.filters]

@[simp] theorem State.filters_trips (s) (ht : s.trip = true) : (State.filters s).trip = true := by
  unfold State.filters; exact each_trips _ _ _ (fun s i h => State.filterLaw_trips _ _ h) ht

@[simp] theorem State.captureFrame_keeps (s a) : Still (State.captureFrame s a) s := by simp [State.captureFrame]

@[simp] theorem State.closeCapture_keeps (s) : Still (State.closeCapture s) s := by simp [State.closeCapture]

@[simp] theorem State.armCapture_keeps (s) : Still (State.armCapture s) s := by simp [State.armCapture]

@[simp] theorem State.forceCapture_keeps (s) : Still (State.forceCapture s) s := by simp [State.forceCapture]

@[simp] theorem State.stopCapture_keeps (s) : Still (State.stopCapture s) s := by simp [State.stopCapture]

@[simp] theorem State.enterCandidate_keeps (s a b) : Steady (State.enterCandidate s a b) s := by
  unfold State.enterCandidate; dsimp only; refine ⟨?_, ?_, ?_, ?_, ?_⟩ <;> (repeat' first | rfl | (simp; done) | split)

@[simp] theorem State.enterCandidate_trips (s a b) (ht : s.trip = true) : (State.enterCandidate s a b).trip = true := by
  unfold State.enterCandidate; (try dsimp only); (repeat' first | assumption | (simp (maxDischargeDepth := 30) [*]; done) | (apply each_trips; intro _ _ _; try dsimp only) | split)

@[simp] theorem State.compete_keeps (s a) : Still (State.compete s a) s := by
  generalize h : (State.compete s a) = t; unfold State.compete at h; (repeat' split at h) <;> subst h <;> simp

@[simp] theorem State.judgeSample_keeps (s a b c) : Still (State.judgeSample s a b c) s := by simp [State.judgeSample]

@[simp] theorem State.latchLane_keeps (s a) : Still (State.latchLane s a) s := by simp [State.latchLane]

@[simp] theorem State.markLane_keeps (s a) : Still (State.markLane s a) s := by simp [State.markLane]

@[simp] theorem State.takeDuty_keeps (s a) : Still (State.takeDuty s a) s := by
  simp [State.takeDuty]

@[simp] theorem State.startLane_keeps (s a) : Still (State.startLane s a) s := by simp [State.startLane]

@[simp] theorem State.judgeSense_keeps (s a b c) : Still (State.judgeSense s a b c) s := by simp [State.judgeSense]

@[simp] theorem State.latchRail_keeps (s a b) : Still (State.latchRail s a b) s := by
  refine ⟨?_, ?_, ?_, ?_, ?_, ?_, ?_, ?_⟩ <;> (unfold State.latchRail; (try dsimp only); (repeat' first | rfl | (simp; done) | ((first | refine (each_keeps (fun s : State => s.pending) ?_ _ _).trans ?_ | refine (each_keeps (fun s : State => s.cfg) ?_ _ _).trans ?_ | refine (each_keeps (fun s : State => s.mram) ?_ _ _).trans ?_ | refine (each_keeps (fun s : State => s.tb.now) ?_ _ _).trans ?_ | refine (each_keeps (fun s : State => s.gov.gathered.isSome) ?_ _ _).trans ?_ | refine (each_keeps (fun s : State => s.gov.st) ?_ _ _).trans ?_ | refine (each_keeps (fun s : State => s.gov.tripLatch) ?_ _ _).trans ?_ | refine (each_keeps (fun s : State => s.trip) ?_ _ _).trans ?_); intro _ _; try dsimp only) | ((first | refine (foldl_pending _ _ _ ?_).trans ?_ | refine (foldl_cfg _ _ _ ?_).trans ?_ | refine (foldl_mram _ _ _ ?_).trans ?_ | refine (foldl_tb_now _ _ _ ?_).trans ?_ | refine (foldl_gov_gathered _ _ _ ?_).trans ?_ | refine (foldl_gov_st _ _ _ ?_).trans ?_ | refine (foldl_gov_tripLatch _ _ _ ?_).trans ?_ | refine (foldl_trip _ _ _ ?_).trans ?_); intro _ _; try dsimp only) | split))

@[simp] theorem State.vminCheck_keeps (s a) : Steady (State.vminCheck s a) s := by simp [State.vminCheck]

@[simp] theorem State.vminCheck_trips (s a) (ht : s.trip = true) : (State.vminCheck s a).trip = true := by
  unfold State.vminCheck; (try dsimp only); (repeat' first | assumption | (simp (maxDischargeDepth := 30) [*]; done) | (apply each_trips; intro _ _ _; try dsimp only) | split)

@[simp] theorem State.avsTick_keeps (s a) : Still (State.avsTick s a) s := by
  unfold State.avsTick; dsimp only; refine ⟨?_, ?_, ?_, ?_, ?_, ?_, ?_, ?_⟩ <;> (repeat' first | rfl | (simp; done) | split)

@[simp] theorem State.setpointTick_keeps (s a) : Still (State.setpointTick s a) s := by
  unfold State.setpointTick; dsimp only; refine ⟨?_, ?_, ?_, ?_, ?_, ?_, ?_, ?_⟩ <;> (repeat' first | rfl | (simp; done) | split)

@[simp] theorem State.voltageTick_keeps (s a) : Still (State.voltageTick s a) s := by simp [State.voltageTick]

@[simp] theorem State.currentTick_keeps (s a) : Still (State.currentTick s a) s := by simp [State.currentTick]

@[simp] theorem State.voltageLaw_keeps (s a b) : Steady (State.voltageLaw s a b).1 s := by
  unfold State.voltageLaw; dsimp only; refine ⟨?_, ?_, ?_, ?_, ?_⟩ <;> (repeat' first | rfl | (simp; done) | split)

@[simp] theorem State.voltageLaw_trips (s a b) (ht : s.trip = true) : (State.voltageLaw s a b).1.trip = true := by
  unfold State.voltageLaw; (try dsimp only); (repeat' first | assumption | (simp (maxDischargeDepth := 30) [*]; done) | (apply each_trips; intro _ _ _; try dsimp only) | split)

@[simp] theorem State.followVolt_keeps (s a) : Still (State.followVolt s a) s := by simp [State.followVolt]

@[simp] theorem State.trimLane_keeps (s a b c d e) : Steady (State.trimLane s a b c d e) s := by simp [State.trimLane]

@[simp] theorem State.trimLane_trips (s a b c d e) (ht : s.trip = true) : (State.trimLane s a b c d e).trip = true := by
  simp (maxDischargeDepth := 30) [State.trimLane, ht]

@[simp] theorem State.commitDuties_keeps (s a) : Still (State.commitDuties s a) s := ⟨by 
    unfold State.commitDuties; (try dsimp only); (repeat' first | rfl | (simp; done) | ((refine (each_keeps (fun s : State => s.pending) ?_ _ _).trans ?_); intro _ _; try dsimp only) | ((refine (foldl_pending _ _ _ ?_).trans ?_); intro _ _; try dsimp only) | split), by 
    unfold State.commitDuties; (try dsimp only); (repeat' first | rfl | (simp; done) | ((refine (each_keeps (fun s : State => s.cfg) ?_ _ _).trans ?_); intro _ _; try dsimp only) | ((refine (foldl_cfg _ _ _ ?_).trans ?_); intro _ _; try dsimp only) | split), by 
    unfold State.commitDuties; (try dsimp only); (repeat' first | rfl | (simp; done) | ((refine (each_keeps (fun s : State => s.mram) ?_ _ _).trans ?_); intro _ _; try dsimp only) | ((refine (foldl_mram _ _ _ ?_).trans ?_); intro _ _; try dsimp only) | split), by 
    unfold State.commitDuties; (try dsimp only); (repeat' first | rfl | (simp; done) | ((refine (each_keeps (fun s : State => s.tb.now) ?_ _ _).trans ?_); intro _ _; try dsimp only) | ((refine (foldl_tb_now _ _ _ ?_).trans ?_); intro _ _; try dsimp only) | split), by 
    unfold State.commitDuties; (try dsimp only); (repeat' first | rfl | (simp; done) | ((refine (each_keeps (fun s : State => s.gov.gathered.isSome) ?_ _ _).trans ?_); intro _ _; try dsimp only) | ((refine (foldl_gov_gathered _ _ _ ?_).trans ?_); intro _ _; try dsimp only) | split), by 
    unfold State.commitDuties; (try dsimp only); (repeat' first | rfl | (simp; done) | ((refine (each_keeps (fun s : State => s.gov.st) ?_ _ _).trans ?_); intro _ _; try dsimp only) | ((refine (foldl_gov_st _ _ _ ?_).trans ?_); intro _ _; try dsimp only) | split), by 
    unfold State.commitDuties; (try dsimp only); (repeat' first | rfl | (simp; done) | ((refine (each_keeps (fun s : State => s.gov.tripLatch) ?_ _ _).trans ?_); intro _ _; try dsimp only) | ((refine (foldl_gov_tripLatch _ _ _ ?_).trans ?_); intro _ _; try dsimp only) | split), by 
    unfold State.commitDuties; (try dsimp only); (repeat' first | rfl | (simp; done) | ((refine (each_keeps (fun s : State => s.trip) ?_ _ _).trans ?_); intro _ _; try dsimp only) | ((refine (foldl_trip _ _ _ ?_).trans ?_); intro _ _; try dsimp only) | split)⟩

@[simp] theorem State.levelAdd_keeps (s a) : Still (State.levelAdd s a) s := by simp [State.levelAdd]

@[simp] theorem State.latchEnergy_keeps (s a) : Still (State.latchEnergy s a) s := by simp [State.latchEnergy]

@[simp] theorem State.dwellTick_keeps (s a) : Still (State.dwellTick s a) s := by simp [State.dwellTick]

@[simp] theorem State.clipFor_keeps (s a) : Still (State.clipFor s a) s := by simp [State.clipFor]

@[simp] theorem State.cutTick_keeps (s a) : Still (State.cutTick s a) s := by
  unfold State.cutTick; dsimp only; refine ⟨?_, ?_, ?_, ?_, ?_, ?_, ?_, ?_⟩ <;> (repeat' first | rfl | (simp; done) | split)

@[simp] theorem State.rateTick_keeps (s a) : Still (State.rateTick s a) s := by simp [State.rateTick]

@[simp] theorem State.firstRate_keeps (s a) : Still (State.firstRate s a) s := by simp [State.firstRate]

@[simp] theorem State.budgetCheck_keeps (s a) : Steady (State.budgetCheck s a) s := by simp [State.budgetCheck]

@[simp] theorem State.budgetCheck_trips (s a) (ht : s.trip = true) : (State.budgetCheck s a).trip = true := by
  simp (maxDischargeDepth := 30) [State.budgetCheck, ht]

@[simp] theorem State.budgetTick_keeps (s) : Still (State.budgetTick s) s := by
  generalize h : (State.budgetTick s) = t; unfold State.budgetTick at h; (repeat' split at h) <;> subst h <;> simp

@[simp] theorem State.slewTick_keeps (s) : Still (State.slewTick s) s := by simp [State.slewTick]

@[simp] theorem State.prePosition_keeps (s a) : Still (State.prePosition s a) s := by simp [State.prePosition]

@[simp] theorem State.forecastLanes_keeps (s a) : Still (State.forecastLanes s a) s := ⟨by unfold State.forecastLanes; dsimp only; split; simp; (refine (each_pending _ _ _ (fun s k => by simp)).trans ?_); (refine (each_pending _ _ _ (fun s k => by simp)).trans ?_); (repeat' split) <;> simp, by unfold State.forecastLanes; dsimp only; split; simp; (refine (each_cfg _ _ _ (fun s k => by simp)).trans ?_); (refine (each_cfg _ _ _ (fun s k => by simp)).trans ?_); (repeat' split) <;> simp, by unfold State.forecastLanes; dsimp only; split; simp; (refine (each_mram _ _ _ (fun s k => by simp)).trans ?_); (refine (each_mram _ _ _ (fun s k => by simp)).trans ?_); (repeat' split) <;> simp, by unfold State.forecastLanes; dsimp only; split; simp; (refine (each_tb_now _ _ _ (fun s k => by simp)).trans ?_); (refine (each_tb_now _ _ _ (fun s k => by simp)).trans ?_); (repeat' split) <;> simp, by unfold State.forecastLanes; dsimp only; split; simp; (refine (each_gov_gathered _ _ _ (fun s k => by simp)).trans ?_); (refine (each_gov_gathered _ _ _ (fun s k => by simp)).trans ?_); (repeat' split) <;> simp, by unfold State.forecastLanes; dsimp only; split; simp; (refine (each_gov_st _ _ _ (fun s k => by simp)).trans ?_); (refine (each_gov_st _ _ _ (fun s k => by simp)).trans ?_); (repeat' split) <;> simp, by unfold State.forecastLanes; dsimp only; split; simp; (refine (each_gov_tripLatch _ _ _ (fun s k => by simp)).trans ?_); (refine (each_gov_tripLatch _ _ _ (fun s k => by simp)).trans ?_); (repeat' split) <;> simp, by unfold State.forecastLanes; dsimp only; split; simp; (refine (each_trip _ _ _ (fun s k => by simp)).trans ?_); (refine (each_trip _ _ _ (fun s k => by simp)).trans ?_); (repeat' split) <;> simp⟩

@[simp] theorem State.lateRate_keeps (s a) : Still (State.lateRate s a) s := by
  generalize h0 : (State.lateRate s a) = t; unfold State.lateRate at h0; (repeat' split at h0) <;> subst h0 <;> simp

@[simp] theorem State.avsRaise_keeps (s a) : Still (State.avsRaise s a) s := by simp [State.avsRaise]

@[simp] theorem State.riseCheck_keeps (s a) : Steady (State.riseCheck s a) s := by simp [State.riseCheck]

@[simp] theorem State.riseCheck_trips (s a) (ht : s.trip = true) : (State.riseCheck s a).trip = true := by
  simp (maxDischargeDepth := 30) [State.riseCheck, ht]

@[simp] theorem State.islandTick_keeps (s) : Still (State.islandTick s) s := by simp [State.islandTick]

@[simp] theorem State.limitExit_keeps (s) : Steady (State.limitExit s) s := by simp [State.limitExit]

@[simp] theorem State.limitExit_trips (s) (ht : s.trip = true) : (State.limitExit s).trip = true := by
  simp (maxDischargeDepth := 30) [State.limitExit, ht]

@[simp] theorem State.clearPending_keeps (s a) : Still (State.clearPending s a) s := by simp [State.clearPending]

@[simp] theorem State.completeSource_keeps (s a) : Still (State.completeSource s a) s := by
  simp [State.completeSource]

@[simp] theorem State.completeTarget_keeps (s a) : Still (State.completeTarget s a) s := by
  simp [State.completeTarget]

@[simp] theorem State.waitFor_keeps (s a) : Still (State.waitFor s a) s := by simp [State.waitFor]

@[simp] theorem State.wakeTarget_keeps (s a) : Still (State.wakeTarget s a) s := by
  unfold State.wakeTarget; split
  · simp
  · exact each_still (fun _ _ => by simp) _ s

@[simp] theorem State.setSleep_keeps (s a b) : Still (State.setSleep s a b) s := by
  unfold State.setSleep; dsimp only; split <;> simp

@[simp] theorem State.staleChannel_keeps (s a) : Still (State.staleChannel s a) s := by simp [State.staleChannel]

@[simp] theorem State.orphanChannel_keeps (s a) : Still (State.orphanChannel s a) s := by simp [State.orphanChannel]

@[simp] theorem State.epochChange_keeps (s a) : Still (State.epochChange s a) s := by simp [State.epochChange]

@[simp] theorem State.setTime_keeps (s a b) : Steady (State.setTime s a b) s := by simp [State.setTime]

@[simp] theorem State.setTime_trips (s a b) (ht : s.trip = true) : (State.setTime s a b).trip = true := by
  simp (maxDischargeDepth := 30) [State.setTime, ht]

@[simp] theorem State.captureDump_keeps (s a b) : Still (State.captureDump s a b) s := by simp [State.captureDump]

@[simp] theorem State.releaseDump_keeps (s a) : Still (State.releaseDump s a) s := by simp [State.releaseDump]

@[simp] theorem State.comDown_keeps (s) : Still (State.comDown s) s := by simp [State.comDown]

@[simp] theorem State.beginRestart_keeps (s a) : Still (State.beginRestart s a) s := by simp [State.beginRestart]

@[simp] theorem State.rollBack_keeps (s) : Steady (State.rollBack s) s := by simp [State.rollBack]

@[simp] theorem State.rollBack_trips (s) (ht : s.trip = true) : (State.rollBack s).trip = true := by
  simp (maxDischargeDepth := 30) [State.rollBack, ht]

@[simp] theorem State.forestall_keeps (s a) : Still (State.forestall s a) s := by simp [State.forestall]

@[simp] theorem State.crashDump_keeps (s a b c) : Still (State.crashDump s a b c) s := by simp [State.crashDump]

@[simp] theorem State.holdCore_keeps (s a) : Steady (State.holdCore s a) s := by simp [State.holdCore]

@[simp] theorem State.holdCore_trips (s a) (ht : s.trip = true) : (State.holdCore s a).trip = true := by
  simp (maxDischargeDepth := 30) [State.holdCore, ht]

@[simp] theorem State.crash_keeps (s a b c) : Steady (State.crash s a b c) s := by simp [State.crash]

@[simp] theorem State.crash_trips (s a b c) (ht : s.trip = true) : (State.crash s a b c).trip = true := by
  simp (maxDischargeDepth := 30) [State.crash, ht]

@[simp] theorem State.comUp_keeps (s a) : Still (State.comUp s a) s := by simp [State.comUp]

@[simp] theorem State.releaseHeld_keeps (s a) : Still (State.releaseHeld s a) s := by simp [State.releaseHeld]

@[simp] theorem State.setUpdateBank_keeps (s a) : Still (State.setUpdateBank s a) s := by simp [State.setUpdateBank]

@[simp] theorem State.updateBegin_keeps (s a) : Still (State.updateBegin s a) s := by simp [State.updateBegin]

@[simp] theorem State.updateLoad_keeps (s a) : Still (State.updateLoad s a) s := by simp [State.updateLoad]

@[simp] theorem State.updateCheck_keeps (s) : Steady (State.updateCheck s).1 s := by simp [State.updateCheck]

@[simp] theorem State.updateCheck_trips (s) (ht : s.trip = true) : (State.updateCheck s).1.trip = true := by
  simp (maxDischargeDepth := 30) [State.updateCheck, ht]

@[simp] theorem State.updateArm_keeps (s) : Still (State.updateArm s) s := by simp [State.updateArm]

@[simp] theorem State.updateDrop_keeps (s) : Still (State.updateDrop s) s := by simp [State.updateDrop]

@[simp] theorem State.assignId_keeps (s) : Still (State.assignId s).2 s := by simp [State.assignId]

@[simp] theorem State.forget_keeps (s a) : Still (State.forget s a) s := by simp [State.forget]

@[simp] theorem State.closeMuriri_keeps (s a) : Still (State.closeMuriri s a) s := by simp [State.closeMuriri]

@[simp] theorem State.closeMail_keeps (s a) : Still (State.closeMail s a) s := by
  generalize h : (State.closeMail s a) = t; unfold State.closeMail at h; (repeat' split at h) <;> subst h <;> simp

@[simp] theorem State.closeAllMail_keeps (s) : Still (State.closeAllMail s) s := by simp [State.closeAllMail]

@[simp] theorem State.takeLock_keeps (s a b) : Still (State.takeLock s a b) s := by simp [State.takeLock]

@[simp] theorem State.dropLock_keeps (s a) : Still (State.dropLock s a) s := by simp [State.dropLock]

@[simp] theorem State.newChallenge_keeps (s a) : Still (State.newChallenge s a).1 s := by simp [State.newChallenge]

@[simp] theorem State.authFailed_keeps (s) : Steady (State.authFailed s) s := by simp [State.authFailed]

@[simp] theorem State.authFailed_trips (s) (ht : s.trip = true) : (State.authFailed s).trip = true := by
  simp (maxDischargeDepth := 30) [State.authFailed, ht]

@[simp] theorem State.respond_keeps (s a b) : Steady (State.respond s a b).1 s := by
  generalize h : (State.respond s a b) = t; unfold State.respond at h; (repeat' split at h) <;> subst h <;> simp

@[simp] theorem State.respond_trips (s a b) (ht : s.trip = true) : (State.respond s a b).1.trip = true := by
  generalize e : (State.respond s a b) = t; unfold State.respond at e; (repeat' split at e) <;> subst e <;> simp (maxDischargeDepth := 30) [ht]

@[simp] theorem State.endAuth_keeps (s a) : Still (State.endAuth s a) s := by simp [State.endAuth]

@[simp] theorem State.blank_keeps (s) : (State.blank s).pending = s.pending ∧ (State.blank s).cfg = s.cfg ∧ (State.blank s).tb.now = s.tb.now := by
  simp [State.blank]

@[simp] theorem State.droopTotals_keeps (s) : Still (State.droopTotals s) s := by
  refine ⟨?_, ?_, ?_, ?_, ?_, ?_, ?_, ?_⟩ <;> (unfold State.droopTotals; (try dsimp only); (repeat' first | rfl | (simp; done) | ((first | refine (each_keeps (fun s : State => s.pending) ?_ _ _).trans ?_ | refine (each_keeps (fun s : State => s.cfg) ?_ _ _).trans ?_ | refine (each_keeps (fun s : State => s.mram) ?_ _ _).trans ?_ | refine (each_keeps (fun s : State => s.tb.now) ?_ _ _).trans ?_ | refine (each_keeps (fun s : State => s.gov.gathered.isSome) ?_ _ _).trans ?_ | refine (each_keeps (fun s : State => s.gov.st) ?_ _ _).trans ?_ | refine (each_keeps (fun s : State => s.gov.tripLatch) ?_ _ _).trans ?_ | refine (each_keeps (fun s : State => s.trip) ?_ _ _).trans ?_); intro _ _; try dsimp only) | ((first | refine (foldl_pending _ _ _ ?_).trans ?_ | refine (foldl_cfg _ _ _ ?_).trans ?_ | refine (foldl_mram _ _ _ ?_).trans ?_ | refine (foldl_tb_now _ _ _ ?_).trans ?_ | refine (foldl_gov_gathered _ _ _ ?_).trans ?_ | refine (foldl_gov_st _ _ _ ?_).trans ?_ | refine (foldl_gov_tripLatch _ _ _ ?_).trans ?_ | refine (foldl_trip _ _ _ ?_).trans ?_); intro _ _; try dsimp only) | split))

@[simp] theorem State.fresh_keeps (s) : (State.fresh s).pending = s.pending ∧ (State.fresh s).cfg = s.cfg ∧ (State.fresh s).tb.now = s.tb.now ∧ (State.fresh s).gov.st = s.gov.st ∧ (State.fresh s).gov.tripLatch = s.gov.tripLatch ∧ (State.fresh s).trip = s.trip := by
  simp [State.fresh]

@[simp] theorem State.stopGclk_keeps (s) : Still (State.stopGclk s) s := by simp [State.stopGclk]

@[simp] theorem State.drainHeld_keeps (s) : Steady (State.drainHeld s) s := by simp [State.drainHeld]

@[simp] theorem State.drainHeld_trips (s) (ht : s.trip = true) : (State.drainHeld s).trip = true := by
  unfold State.drainHeld; (try dsimp only); (repeat' first | assumption | (simp (maxDischargeDepth := 30) [*]; done) | (apply each_trips; intro _ _ _; try dsimp only) | split)

@[simp] theorem State.startGclk_keeps (s) : Steady (State.startGclk s) s := by simp [State.startGclk]

@[simp] theorem State.startGclk_trips (s) (ht : s.trip = true) : (State.startGclk s).trip = true := by
  simp (maxDischargeDepth := 30) [State.startGclk, ht]

@[simp] theorem State.holdover_keeps (s) : Steady (State.holdover s) s := by simp [State.holdover]

@[simp] theorem State.holdover_trips (s) (ht : s.trip = true) : (State.holdover s).trip = true := by
  simp (maxDischargeDepth := 30) [State.holdover, ht]

@[simp] theorem State.bootTrip_keeps (s) : Steady (State.bootTrip s) s := by simp [State.bootTrip]

@[simp] theorem State.bootTrip_trips (s) (ht : s.trip = true) : (State.bootTrip s).trip = true := by
  simp (maxDischargeDepth := 30) [State.bootTrip, ht]

@[simp] theorem State.claimSource_keeps (s a b) : Steady (State.claimSource s a b) s := by simp [State.claimSource]

@[simp] theorem State.claimSource_trips (s a b) (ht : s.trip = true) : (State.claimSource s a b).trip = true := by
  simp (maxDischargeDepth := 30) [State.claimSource, ht]

@[simp] theorem State.configure_keeps (s a b) : Still (State.configure s a b) s := by simp [State.configure]

@[simp] theorem State.clearBySoftware_keeps (s a) : Still (State.clearBySoftware s a) s := by
  simp [State.clearBySoftware]

@[simp] theorem State.setMask_keeps (a s b) : Still (State.setMask a s b) s := by simp [State.setMask]

@[simp] theorem State.plainPend_keeps (s a b) : Still (State.plainPend s a b) s := by simp [State.plainPend]

@[simp] theorem State.plainMask_keeps (s a b) : Still (State.plainMask s a b) s := by simp [State.plainMask]

@[simp] theorem State.plainCfg_keeps (s a b) : Still (State.plainCfg s a b) s := by simp [State.plainCfg]

@[simp] theorem State.withImage_keeps (s a) : Still (State.withImage s a) s := by simp [State.withImage]

@[simp] theorem State.bootUnits_keeps (s) : Still (State.bootUnits s) s := by
  unfold State.bootUnits
  generalize List.range 96 = l
  generalize List.range 512 = m
  exact (each_still (fun _ _ => by simp) _ _).trans ((each_still (fun _ _ => by split <;> simp) m _).trans
    (each_still (fun _ _ => by split <;> simp) l s))

@[simp] theorem State.bootTally_keeps (s a) : Still (State.bootTally s a) s := by simp [State.bootTally]

@[simp] theorem State.bootLaws_keeps (s) : Still (State.bootLaws s) s := ⟨by 
    unfold State.bootLaws; (try dsimp only); (repeat' first | rfl | (simp; done) | ((refine (each_keeps (fun s : State => s.pending) ?_ _ _).trans ?_); intro _ _; try dsimp only) | ((refine (foldl_pending _ _ _ ?_).trans ?_); intro _ _; try dsimp only) | split), by 
    unfold State.bootLaws; (try dsimp only); (repeat' first | rfl | (simp; done) | ((refine (each_keeps (fun s : State => s.cfg) ?_ _ _).trans ?_); intro _ _; try dsimp only) | ((refine (foldl_cfg _ _ _ ?_).trans ?_); intro _ _; try dsimp only) | split), by 
    unfold State.bootLaws; (try dsimp only); (repeat' first | rfl | (simp; done) | ((refine (each_keeps (fun s : State => s.mram) ?_ _ _).trans ?_); intro _ _; try dsimp only) | ((refine (foldl_mram _ _ _ ?_).trans ?_); intro _ _; try dsimp only) | split), by 
    unfold State.bootLaws; (try dsimp only); (repeat' first | rfl | (simp; done) | ((refine (each_keeps (fun s : State => s.tb.now) ?_ _ _).trans ?_); intro _ _; try dsimp only) | ((refine (foldl_tb_now _ _ _ ?_).trans ?_); intro _ _; try dsimp only) | split), by 
    unfold State.bootLaws; (try dsimp only); (repeat' first | rfl | (simp; done) | ((refine (each_keeps (fun s : State => s.gov.gathered.isSome) ?_ _ _).trans ?_); intro _ _; try dsimp only) | ((refine (foldl_gov_gathered _ _ _ ?_).trans ?_); intro _ _; try dsimp only) | split), by 
    unfold State.bootLaws; (try dsimp only); (repeat' first | rfl | (simp; done) | ((refine (each_keeps (fun s : State => s.gov.st) ?_ _ _).trans ?_); intro _ _; try dsimp only) | ((refine (foldl_gov_st _ _ _ ?_).trans ?_); intro _ _; try dsimp only) | split), by 
    unfold State.bootLaws; (try dsimp only); (repeat' first | rfl | (simp; done) | ((refine (each_keeps (fun s : State => s.gov.tripLatch) ?_ _ _).trans ?_); intro _ _; try dsimp only) | ((refine (foldl_gov_tripLatch _ _ _ ?_).trans ?_); intro _ _; try dsimp only) | split), by 
    unfold State.bootLaws; (try dsimp only); (repeat' first | rfl | (simp; done) | ((refine (each_keeps (fun s : State => s.trip) ?_ _ _).trans ?_); intro _ _; try dsimp only) | ((refine (foldl_trip _ _ _ ?_).trans ?_); intro _ _; try dsimp only) | split)⟩

@[simp] theorem State.bootIcu_keeps (s a) : Still (State.bootIcu s a) s := by simp [State.bootIcu]

@[simp] theorem State.bootCores_keeps (s a) : Steady (State.bootCores s a) s := ⟨by unfold State.bootCores; refine each_keeps (fun s : State => s.pending) ?_ _ _; intro s d; dsimp only; split <;> simp, by unfold State.bootCores; refine each_keeps (fun s : State => s.cfg) ?_ _ _; intro s d; dsimp only; split <;> simp, by unfold State.bootCores; refine each_keeps (fun s : State => s.mram) ?_ _ _; intro s d; dsimp only; split <;> simp, by unfold State.bootCores; refine each_keeps (fun s : State => s.tb.now) ?_ _ _; intro s d; dsimp only; split <;> simp, by unfold State.bootCores; refine each_keeps (fun s : State => s.gov.gathered.isSome) ?_ _ _; intro s d; dsimp only; split <;> simp⟩

@[simp] theorem State.bootCores_trips (s a) (ht : s.trip = true) : (State.bootCores s a).trip = true := by
  unfold State.bootCores; refine each_trips _ _ _ ?_ ht; intro s d h; dsimp only; split <;> simp [h]

@[simp] theorem State.bootQuarantine_keeps (s) : Steady (State.bootQuarantine s) s := by simp [State.bootQuarantine]

@[simp] theorem State.bootQuarantine_trips (s) (ht : s.trip = true) : (State.bootQuarantine s).trip = true := by
  unfold State.bootQuarantine; (try dsimp only); (repeat' first | assumption | (simp (maxDischargeDepth := 30) [*]; done) | (apply each_trips; intro _ _ _; try dsimp only) | split)

@[simp] theorem State.bootSegment_keeps (s) : Still (State.bootSegment s) s := by simp [State.bootSegment]

@[simp] theorem State.bootLoad_keeps (s a b) : Steady (State.bootLoad s a b) s := by simp [State.bootLoad]

@[simp] theorem State.bootLoad_trips (s a b) (ht : s.trip = true) : (State.bootLoad s a b).trip = true := by
  simp (maxDischargeDepth := 30) [State.bootLoad, ht]

@[simp] theorem State.requestWake_keeps (s a) : Still (State.requestWake s a) s := by
  unfold State.requestWake; dsimp only; refine ⟨?_, ?_, ?_, ?_, ?_, ?_, ?_, ?_⟩ <;> (repeat' first | rfl | (simp; done) | split)

@[simp] theorem State.requestGate_keeps (s a) : Steady (State.requestGate s a) s := by
  unfold State.requestGate; dsimp only; refine ⟨?_, ?_, ?_, ?_, ?_⟩ <;> (repeat' first | rfl | (simp; done) | split)

@[simp] theorem State.requestGate_trips (s a) (ht : s.trip = true) : (State.requestGate s a).trip = true := by
  unfold State.requestGate; dsimp only; (repeat' first | assumption | (simp [ht]; done) | split)

@[simp] theorem State.endCensus_keeps (s a) : Steady (State.endCensus s a) s := by simp [State.endCensus]

@[simp] theorem State.endCensus_trips (s a) (ht : s.trip = true) : (State.endCensus s a).trip = true := by
  unfold State.endCensus; dsimp only
  apply State.domainOn_trips; apply State.blindCheck_trips; apply State.triggerAll_trips; simp
  exact each_trips _ _ _ (fun s x h => h) ht

@[simp] theorem State.powerOnNow_keeps (s) : Steady (State.powerOnNow s) s := by simp [State.powerOnNow]

@[simp] theorem State.powerOnNow_trips (s) (ht : s.trip = true) : (State.powerOnNow s).trip = true := by
  simp (maxDischargeDepth := 30) [State.powerOnNow, ht]

@[simp] theorem State.powerOffNow_keeps (s) : Steady (State.powerOffNow s) s := by simp [State.powerOffNow]

@[simp] theorem State.powerOffNow_trips (s) (ht : s.trip = true) : (State.powerOffNow s).trip = true := by
  simp (maxDischargeDepth := 30) [State.powerOffNow, ht]

@[simp] theorem State.meterOnNow_keeps (s) : Steady (State.meterOnNow s) s := by simp [State.meterOnNow]

@[simp] theorem State.meterOnNow_trips (s) (ht : s.trip = true) : (State.meterOnNow s).trip = true := by
  simp (maxDischargeDepth := 30) [State.meterOnNow, ht]

@[simp] theorem State.meterOffNow_keeps (s) : Steady (State.meterOffNow s) s := by simp [State.meterOffNow]

@[simp] theorem State.meterOffNow_trips (s) (ht : s.trip = true) : (State.meterOffNow s).trip = true := by
  simp (maxDischargeDepth := 30) [State.meterOffNow, ht]

@[simp] theorem State.resumeNow_keeps (s) : Steady (State.resumeNow s) s := by simp [State.resumeNow]

@[simp] theorem State.resumeNow_trips (s) (ht : s.trip = true) : (State.resumeNow s).trip = true := by
  simp (maxDischargeDepth := 30) [State.resumeNow, ht]

@[simp] theorem State.serviceEnterNow_keeps (s) : Steady (State.serviceEnterNow s) s := by
  simp [State.serviceEnterNow]

@[simp] theorem State.serviceEnterNow_trips (s) (ht : s.trip = true) : (State.serviceEnterNow s).trip = true := by
  simp (maxDischargeDepth := 30) [State.serviceEnterNow, ht]

@[simp] theorem State.serviceExitNow_keeps (s a) : Steady (State.serviceExitNow s a) s := by
  simp [State.serviceExitNow]

@[simp] theorem State.serviceExitNow_trips (s a) (ht : s.trip = true) : (State.serviceExitNow s a).trip = true := by
  simp (maxDischargeDepth := 30) [State.serviceExitNow, ht]

@[simp] theorem State.commandRefused_keeps (s a) : Steady (State.commandRefused s a) s := by
  simp [State.commandRefused]

@[simp] theorem State.commandRefused_trips (s a) (ht : s.trip = true) : (State.commandRefused s a).trip = true := by
  simp (maxDischargeDepth := 30) [State.commandRefused, ht]

@[simp] theorem State.rearmLane_keeps (s a) : Steady (State.rearmLane s a) s := by simp [State.rearmLane]

@[simp] theorem State.rearmLane_trips (s a) (ht : s.trip = true) : (State.rearmLane s a).trip = true := by
  simp (maxDischargeDepth := 30) [State.rearmLane, ht]

@[simp] theorem State.rearmTap_keeps (s a) : Steady (State.rearmTap s a) s := by simp [State.rearmTap]

@[simp] theorem State.rearmTap_trips (s a) (ht : s.trip = true) : (State.rearmTap s a).trip = true := by
  simp (maxDischargeDepth := 30) [State.rearmTap, ht]

@[simp] theorem State.setQuantum_keeps (s a) : Still (State.setQuantum s a) s := by simp [State.setQuantum]

@[simp] theorem State.rearmSensor_keeps (s a) : Still (State.rearmSensor s a) s := by simp [State.rearmSensor]

@[simp] theorem State.coolantCommit_keeps (s) : Steady (State.coolantCommit s) s := by
  simp [State.coolantCommit]

@[simp] theorem State.coolantCommit_trips (s) (ht : s.trip = true) : (State.coolantCommit s).trip = true := by
  simp (maxDischargeDepth := 30) [State.coolantCommit, ht]

@[simp] theorem State.domainRequest_keeps (s a b) : Steady (State.domainRequest s a b) s := by
  simp [State.domainRequest]

@[simp] theorem State.domainRequest_trips (s a b) (ht : s.trip = true) : (State.domainRequest s a b).trip = true := by
  simp [State.domainRequest, ht]

@[simp] theorem State.rearmDomain_keeps (s a) : Still (State.rearmDomain s a) s := by simp [State.rearmDomain]

@[simp] theorem State.commitLaw_keeps (s a) : Still (State.commitLaw s a) s := by simp [State.commitLaw]

@[simp] theorem State.routeAtb_keeps (s a) : Still (State.routeAtb s a) s := by simp [State.routeAtb]

@[simp] theorem State.setRating_keeps (s a b) : Still (State.setRating s a b) s := by
  simp [State.setRating]

@[simp] theorem State.bufferBytes_keeps (s a b c d) : Still (State.bufferBytes s a b c d).1 s := by
  simp [State.bufferBytes]

@[simp] theorem State.bufferPoison_keeps (s a b) : Steady (State.bufferPoison s a b) s := by
  simp [State.bufferPoison]

@[simp] theorem State.bufferPoison_trips (s a b) (ht : s.trip = true) : (State.bufferPoison s a b).trip = true := by
  simp (maxDischargeDepth := 30) [State.bufferPoison, ht]

@[simp] theorem State.readPoison_keeps (s a b) : Steady (State.readPoison s a b) s := by simp [State.readPoison]

@[simp] theorem State.readPoison_trips (s a b) (ht : s.trip = true) : (State.readPoison s a b).trip = true := by
  simp (maxDischargeDepth := 30) [State.readPoison, ht]

@[simp] theorem State.readEffect_keeps (s a b c d e) : Steady (State.readEffect s a b c d e).1 s := by
  simp [State.readEffect]

@[simp] theorem State.readEffect_trips (s a b c d e) (ht : s.trip = true) : (State.readEffect s a b c d e).1.trip = true := by
  simp (maxDischargeDepth := 30) [State.readEffect, ht]

@[simp] theorem State.g3Refused_keeps (s) : Still (State.g3Refused s) s := by simp [State.g3Refused]

@[simp] theorem State.g3Refill_keeps (s) : Still (State.g3Refill s) s := by simp [State.g3Refill]

@[simp] theorem State.startRetry_keeps (s a) : Steady (State.startRetry s a) s := by simp [State.startRetry]

@[simp] theorem State.startRetry_trips (s a) (ht : s.trip = true) : (State.startRetry s a).trip = true := by
  simp (maxDischargeDepth := 30) [State.startRetry, ht]

@[simp] theorem State.endPeriod_keeps (s a) : Still (State.endPeriod s a) s := by simp [State.endPeriod]

@[simp] theorem State.shedBlindPair_keeps (s a) : Steady (State.shedBlindPair s a) s := by simp [State.shedBlindPair]

@[simp] theorem State.shedBlindPair_trips (s a) (ht : s.trip = true) : (State.shedBlindPair s a).trip = true := by
  unfold State.shedBlindPair; dsimp only; apply State.floorCheck_trips; apply State.triggerAll_trips; simp
  exact each_trips _ _ _ (fun s x h => h) ht

@[simp] theorem State.applyShed_keeps (s a b) : Still (State.applyShed s a b) s := by simp [State.applyShed]

@[simp] theorem State.acceptPost_keeps (s a b c d) : Still (State.acceptPost s a b c d) s := by
  simp [State.acceptPost]

@[simp] theorem State.takeReads_keeps (s a b) : Still (State.takeReads s a b) s := by simp [State.takeReads]

@[simp] theorem State.takeNotice_keeps (s a b) : Still (State.takeNotice s a b) s := by simp [State.takeNotice]

@[simp] theorem State.freeSlots_keeps (s a b) : Still (State.freeSlots s a b) s := by simp [State.freeSlots]

@[simp] theorem State.maskNotices_keeps (s a b) : Still (State.maskNotices s a b) s := by simp [State.maskNotices]

@[simp] theorem State.withdrawNotice_keeps (s a b) : Steady (State.withdrawNotice s a b) s := by
  simp [State.withdrawNotice]

@[simp] theorem State.withdrawNotice_trips (s a b) (ht : s.trip = true) : (State.withdrawNotice s a b).trip = true := by
  simp (maxDischargeDepth := 30) [State.withdrawNotice, ht]

@[simp] theorem State.formMessage_keeps (s a b c d e f g) : Still (State.formMessage s a b c d e f g) s := by
  simp [State.formMessage]

@[simp] theorem State.reply_keeps (s a b c d) : Still (State.reply s a b c d) s := by simp [State.reply]

@[simp] theorem State.openMail_keeps (s a b c d e) : Still (State.openMail s a b c d e) s := by simp [State.openMail]

@[simp] theorem State.beat_keeps (s a) : Still (State.beat s a) s := by simp [State.beat]

@[simp] theorem State.send_keeps (s a) : Still (State.send s a) s := by simp [State.send]

@[simp] theorem State.dropFrame_keeps (s a) : Steady (State.dropFrame s a) s := by simp [State.dropFrame]

@[simp] theorem State.dropFrame_trips (s a) (ht : s.trip = true) : (State.dropFrame s a).trip = true := by
  simp (maxDischargeDepth := 30) [State.dropFrame, ht]

@[simp] theorem State.setMu_keeps (s a b) : Still (State.setMu s a b) s := by simp [State.setMu]

@[simp] theorem State.modMu_keeps (s a b) : Still (State.modMu s a b) s := by
  generalize h : (State.modMu s a b) = t; unfold State.modMu at h; (repeat' split at h) <;> subst h <;> simp

@[simp] theorem State.abandon_keeps (s a b) : Still (State.abandon s a b) s := by
  generalize h : (State.abandon s a b) = t; unfold State.abandon at h; (repeat' split at h) <;> subst h <;> simp

@[simp] theorem State.openSession_keeps (s a) : Still (State.openSession s a) s := by
  generalize h : (State.openSession s a) = t; unfold State.openSession at h; (repeat' split at h) <;> subst h <;> simp

@[simp] theorem State.sendSegment_keeps (s a b c) : Still (State.sendSegment s a b c) s := by simp [State.sendSegment]

@[simp] theorem State.startRead_keeps (s a b) : Still (State.startRead s a b) s := by simp [State.startRead]

@[simp] theorem State.startWrite_keeps (s a b) : Still (State.startWrite s a b) s := by simp [State.startWrite]

@[simp] theorem State.segmentDone_keeps (s a b) : Still (State.segmentDone s a b) s := by
  generalize h : (State.segmentDone s a b) = t; unfold State.segmentDone at h; (repeat' split at h) <;> subst h <;> simp

@[simp] theorem State.dropEvent_keeps (s) : Steady (State.dropEvent s) s := by simp [State.dropEvent]

@[simp] theorem State.dropEvent_trips (s) (ht : s.trip = true) : (State.dropEvent s).trip = true := by
  simp (maxDischargeDepth := 30) [State.dropEvent, ht]

@[simp] theorem State.sendEvent_keeps (s a b) : Still (State.sendEvent s a b) s := by simp [State.sendEvent]

@[simp] theorem State.setEvent_keeps (s a) : Still (State.setEvent s a) s := by simp [State.setEvent]

@[simp] theorem State.windowDone_keeps (s a b) : Still (State.windowDone s a b) s := by simp [State.windowDone]

@[simp] theorem State.recCtrl_keeps (s a) : Still (State.recCtrl s a) s := by simp [State.recCtrl]

@[simp] theorem State.setMember_keeps (s a b) : Still (State.setMember s a b) s := by simp [State.setMember]

@[simp] theorem State.fleetCause_keeps (s) : Steady (State.fleetCause s) s := by simp [State.fleetCause]

@[simp] theorem State.fleetCause_trips (s) (ht : s.trip = true) : (State.fleetCause s).trip = true := by
  simp (maxDischargeDepth := 30) [State.fleetCause, ht]

@[simp] theorem State.judgeMember_keeps (s a) : Still (State.judgeMember s a) s := by simp [State.judgeMember]

@[simp] theorem State.armBudget_keeps (s a b) : Steady (State.armBudget s a b) s := by simp [State.armBudget]

@[simp] theorem State.armBudget_trips (s a b) (ht : s.trip = true) : (State.armBudget s a b).trip = true := by
  simp (maxDischargeDepth := 30) [State.armBudget, ht]

@[simp] theorem State.sendFleet_keeps (s a b) : Still (State.sendFleet s a b) s := by simp [State.sendFleet]

@[simp] theorem State.formBudget_keeps (s) : Steady (State.formBudget s) s := by simp [State.formBudget]

@[simp] theorem State.formBudget_trips (s) (ht : s.trip = true) : (State.formBudget s).trip = true := by
  simp (maxDischargeDepth := 30) [State.formBudget, ht]

@[simp] theorem State.ackBudget_keeps (s a b) : Still (State.ackBudget s a b) s := by simp [State.ackBudget]

@[simp] theorem State.acceptBudget_keeps (s a) : Steady (State.acceptBudget s a) s := by
  unfold State.acceptBudget; dsimp only; refine ⟨?_, ?_, ?_, ?_, ?_⟩ <;> (repeat' first | rfl | (simp; done) | split)

@[simp] theorem State.acceptBudget_trips (s a) (ht : s.trip = true) : (State.acceptBudget s a).trip = true := by
  unfold State.acceptBudget; (try dsimp only); (repeat' first | assumption | (simp (maxDischargeDepth := 30) [*]; done) | (apply each_trips; intro _ _ _; try dsimp only) | split)

@[simp] theorem State.refuseBudget_keeps (s) : Steady (State.refuseBudget s) s := by simp [State.refuseBudget]

@[simp] theorem State.refuseBudget_trips (s) (ht : s.trip = true) : (State.refuseBudget s).trip = true := by
  simp (maxDischargeDepth := 30) [State.refuseBudget, ht]

@[simp] theorem State.workerBudget_keeps (s a) : Steady (State.workerBudget s a) s := by simp [State.workerBudget]

@[simp] theorem State.workerBudget_trips (s a) (ht : s.trip = true) : (State.workerBudget s a).trip = true := by
  simp (maxDischargeDepth := 30) [State.workerBudget, ht]

@[simp] theorem State.foreignBudget_keeps (s) : Steady (State.foreignBudget s) s := by simp [State.foreignBudget]

@[simp] theorem State.foreignBudget_trips (s) (ht : s.trip = true) : (State.foreignBudget s).trip = true := by
  simp (maxDischargeDepth := 30) [State.foreignBudget, ht]

@[simp] theorem State.ignoreAck_keeps (s a) : Still (State.ignoreAck s a) s := by simp [State.ignoreAck]

@[simp] theorem State.memberAck_keeps (s a b) : Steady (State.memberAck s a b) s := by simp [State.memberAck]

@[simp] theorem State.memberAck_trips (s a b) (ht : s.trip = true) : (State.memberAck s a b).trip = true := by
  simp (maxDischargeDepth := 30) [State.memberAck, ht]

@[simp] theorem State.workerTime_keeps (s a b) : Steady (State.workerTime s a b) s := by simp [State.workerTime]

@[simp] theorem State.workerTime_trips (s a b) (ht : s.trip = true) : (State.workerTime s a b).trip = true := by
  simp (maxDischargeDepth := 30) [State.workerTime, ht]

@[simp] theorem State.censusLane_keeps (s a b) : Still (State.censusLane s a b) s := by simp [State.censusLane]

@[simp] theorem State.startRamp_keeps (s a) : Still (State.startRamp s a) s := by simp [State.startRamp]

@[simp] theorem State.positionDone_keeps (s) : Steady (State.positionDone s) s := by
  generalize h : (State.positionDone s) = t; unfold State.positionDone at h; (repeat' split at h) <;> subst h <;> simp

@[simp] theorem State.positionDone_trips (s) (ht : s.trip = true) : (State.positionDone s).trip = true := by
  generalize e : (State.positionDone s) = t; unfold State.positionDone at e; (repeat' split at e) <;> subst e <;> simp (maxDischargeDepth := 30) [ht]

@[simp] theorem State.portsTaken_keeps (s) : Steady (State.portsTaken s) s := by simp [State.portsTaken]

@[simp] theorem State.portsTaken_trips (s) : (State.portsTaken s).trip = true := by
  unfold State.portsTaken; split <;> simp [State.trip, tripKept]

@[simp] theorem State.loadIr_keeps (s a) : Still (State.loadIr s a) s := by simp [State.loadIr]

end Sys2Proof.Machine
end

