-- ==== Sys2Proof/Laws/Evolves.lean ====
section
/-! SUPPORT. `Evolves` through the operations that read and write objects for a session, move the clock or write the message
RAM, and through the shapes the meanings share: a register access, a mailbox register, a message served, a frame. -/

set_option linter.unusedTactic false
set_option linter.unreachableTactic false
set_option linter.unusedSimpArgs false
set_option linter.unusedVariables false
set_option linter.flexible false
set_option linter.style.multiGoal false

namespace Sys2Proof.Machine

theorem Evolves.refl (s) : Evolves s s := ⟨rfl, rfl, Nat.le_refl _, id, id, id⟩

theorem isSome_none {α : Type} {a b : Option α} (h : a.isSome = b.isSome) (k : b = none) : a = none := by
  subst k; simpa using h

theorem Evolves.trans {s t u} (h : Evolves s t) (k : Evolves t u) : Evolves s u :=
  ⟨k.1.trans h.1, k.2.1.trans h.2.1, Nat.le_trans h.2.2.1 k.2.2.1, fun x => k.2.2.2.1 (h.2.2.2.1 x), fun x => k.2.2.2.2.1 (h.2.2.2.2.1 x),
   fun x => k.2.2.2.2.2 (h.2.2.2.2.2 x)⟩

theorem Evolves.still {s t} (h : Still t s) : Evolves s t :=
  ⟨h.1, h.2.1, Nat.le_of_eq h.2.2.2.1.symm, fun x => by rw [h.2.2.1]; exact x,
   fun x => by rw [h.2.2.2.2.2.2.2]; exact x, isSome_none h.2.2.2.2.1⟩

theorem Evolves.steady {s t} (h : Steady t s) (k : s.trip = true → t.trip = true) : Evolves s t :=
  ⟨h.1, h.2.1, Nat.le_of_eq h.2.2.2.1.symm, fun x => by rw [h.2.2.1]; exact x, k, isSome_none h.2.2.2.2⟩

theorem Evolves.each {α} (l : List α) (f : State → α → State) (s) (h : ∀ s x, Evolves s (f s x)) : Evolves s (each l f s) :=
  each_carries (fun t => Evolves s t) (fun t x k => k.trans (h t x)) l s (Evolves.refl s)

theorem ite_evolves {s : State} {c : Prop} [Decidable c] {a b : State} (ha : Evolves s a) (hb : Evolves s b) : Evolves s (if c then a else b) := by
  split <;> assumption

theorem ite_evolves1 {α} {s : State} {c : Prop} [Decidable c] {a b : State × α} (ha : Evolves s a.1) (hb : Evolves s b.1) : Evolves s (if c then a else b).1 := by
  split <;> assumption

theorem State.atTime_evolves (s t) : Evolves s (State.atTime s t) := ⟨rfl, rfl, Nat.le_max_left _ _, id, id, id⟩

theorem State.lateAnswer_evolves (s) : Evolves s (State.lateAnswer s) := by
  unfold State.lateAnswer; dsimp only; split; exact State.atTime_evolves s (s.tb.now + cycles 100000); exact .refl _

theorem State.refuse_evolves (s a) : Evolves s (State.refuse s a) := by
  unfold State.refuse; dsimp only
  refine Evolves.trans (t := if a = 0x00070001 then s.lateAnswer else s) (by split; exact State.lateAnswer_evolves s; exact .refl s) ?_
  generalize (if a = 0x00070001 then s.lateAnswer else s) = u
  split <;> exact .still (by simp)

theorem State.refuseWrite_evolves (s a b c) : Evolves s (State.refuseWrite s a b c) := by
  unfold State.refuseWrite; dsimp only
  refine Evolves.trans ?_ (State.refuse_evolves _ _)
  refine .steady (by simp) (fun h => by (repeat' split) <;> simp [h])

theorem State.readObject_evolves (s a b c d e) : Evolves s (State.readObject s a b c d e) := by
  unfold State.readObject; dsimp only; split
  · exact State.refuse_evolves _ _
  · split
    · exact .steady (by simp) (fun h => by simp [h])
    · exact .refl _

theorem State.softResetNow_evolves (s) : Evolves s (State.softResetNow s) :=
  ⟨by simp [State.softResetNow], by simp [State.softResetNow], by simp [State.softResetNow], fun _ => by simp [State.softResetNow, State.fresh, State.blank]; rfl, fun _ => by simp [State.softResetNow],
   fun _ => isSome_none (b := (none : Option (List HeldTrigger)))
     (((State.mark_keeps s.stopGclk.fresh .boot 254).2.2.2.2).trans (by simp [State.fresh])) rfl⟩

theorem State.stateCommand_evolves (s a b) : Evolves s (State.stateCommand s a b) := by
  have h : Evolves s { s with gov := { s.gov with cmdStatus := 0 } } := ⟨rfl, rfl, Nat.le_refl _, id, id, id⟩
  refine h.trans ?_
  have k : ∀ u, Evolves u (match a with | 1 => u.powerOnNow | 2 => u.powerOffNow | 3 => u.meterOnNow | 4 => u.meterOffNow | 5 => u.resumeNow | 6 => u.serviceEnterNow | 7 => u.serviceExitNow b | 8 => u.softResetNow | _ => u) := by
    intro u; split
    case h_8 => exact State.softResetNow_evolves _
    all_goals first | with_reducible exact .refl _ | exact .steady (by simp) (fun h => by simp [h])
  exact k _

theorem effectPower_evolves {s a b c q} (h : State.effectPower s a b c = some q) : Evolves s q.1 := by
  unfold State.effectPower at h; (repeat' split at h) <;> (try cases h) <;> first | with_reducible exact .refl _ | exact .steady (by simp) (fun h => by simp [h])

theorem effectTally_evolves {s a b c d q} (h : State.effectTally s a b c d = some q) : Evolves s q.1 := by
  unfold State.effectTally at h; (repeat' split at h) <;> (try cases h) <;> first | with_reducible exact .refl _ | exact .steady (by simp) (fun h => by simp [h])

theorem effectLoop_evolves {s a b c q} (h : State.effectLoop s a b c = some q) : Evolves s q.1 := by
  unfold State.effectLoop at h; (repeat' split at h) <;> (try cases h) <;> first | with_reducible exact .refl _ | exact .steady (by simp) (fun h => by simp [h])

theorem effectStates_evolves {s a b c q} (h : State.effectStates s a b c = some q) : Evolves s q.1 := by
  unfold State.effectStates at h; (repeat' split at h) <;> (try cases h) <;> first | exact State.stateCommand_evolves _ _ _ | with_reducible exact .refl _ | exact .steady (by simp) (fun h => by simp [h])

theorem effectFaults_evolves {s a b c q} (h : State.effectFaults s a b c = some q) : Evolves s q.1 := by
  unfold State.effectFaults at h; (repeat' split at h) <;> (try cases h) <;> first | with_reducible exact .refl _ | exact .steady (by simp) (fun h => by simp [h])

theorem effectAssay_evolves {s a b c q} (h : State.effectAssay s a b c = some q) : Evolves s q.1 := by
  unfold State.effectAssay at h; (repeat' split at h) <;> (try cases h) <;> first | with_reducible exact .refl _ | exact .steady (by simp) (fun h => by simp [h])

theorem effectHost_evolves {s a b c d e q} (h : State.effectHost s a b c d e = some q) : Evolves s q.1 := by
  unfold State.effectHost at h; (repeat' split at h) <;> (try cases h) <;> first | with_reducible exact .refl _ | exact .steady (by simp) (fun h => by simp [h])

theorem or_evolves {s : State} {o p : Option (State × Nat)} (ho : ∀ q, o = some q → Evolves s q.1) (hp : ∀ q, p = some q → Evolves s q.1) : ∀ q, o.or p = some q → Evolves s q.1 := by
  intro q h; cases o with
  | none => exact hp q h
  | some x => exact ho q h

theorem State.writeEffect_evolves (s a b c d e) : Evolves s (State.writeEffect s a b c d e).1 := by
  have g : ∀ o : Option (State × Nat), (∀ q, o = some q → Evolves s q.1) → Evolves s (o.getD (s.setObj b c d, 0)).1 := by
    intro o h; cases o; exact .still (by simp); exact h _ rfl
  unfold State.writeEffect; apply g; intro q
  split; exact or_evolves (fun _ => effectHost_evolves) (or_evolves (fun _ => effectFaults_evolves) (fun _ => effectStates_evolves)) q
  split; exact effectPower_evolves
  split; exact effectTally_evolves
  split; exact effectStates_evolves
  split; exact effectLoop_evolves
  split; exact effectFaults_evolves
  split; exact effectAssay_evolves
  exact effectHost_evolves

theorem State.writeObject_evolves (s a b c d e) : Evolves s (State.writeObject s a b c d e) := by
  unfold State.writeObject; dsimp only; split
  · exact State.refuseWrite_evolves _ _ _ _
  · split
    · exact (State.writeEffect_evolves _ _ _ _ _ _).trans (State.refuseWrite_evolves _ _ _ _)
    · refine (State.writeEffect_evolves s a b c (natLE d) d).trans ?_; exact .still (by simp)

/-- The outcome is a next state that `s` evolves to. -/
def Nexts (s : State) (o : Host.Outcome State Fault Refusal) : Prop := ∃ t, o = .next t ∧ Evolves s t

theorem nexts {s t} (h : Evolves s t) : Nexts s (.next t) := ⟨t, rfl, h⟩

theorem State.touch_evolves (s) : Evolves s (State.touch s) := .still ⟨rfl, rfl, rfl, rfl, rfl, rfl, rfl, rfl⟩

theorem State.writeRow_nexts (s a b c d) : Nexts s (State.writeRow s a b c d) := by
  unfold State.writeRow; split; exact nexts ((State.touch_evolves s).trans (State.writeObject_evolves _ _ _ _ _ _)); exact nexts (.refl _)

theorem State.writeBytesRow_nexts (s a b c d) : Nexts s (State.writeBytesRow s a b c d) := by
  unfold State.writeBytesRow; split; exact nexts ((State.touch_evolves s).trans (State.writeObject_evolves _ _ _ _ _ _)); exact nexts (.refl _)

theorem State.commandRow_nexts (s a b) : Nexts s (State.commandRow s a b) := State.writeRow_nexts _ _ _ _ _

theorem State.inSession_evolves (s a f) (h : ∀ s v, Evolves s (f s v)) : Evolves s (State.inSession s a f) := by
  have k : ∀ n, Evolves s (s.dropFrame n) := fun n => .steady (by simp) (fun h => by simp [h])
  unfold State.inSession; split
  · split; exact k 5; split; exact k 4
    exact Evolves.trans (.still (by simp [State.setMu])) (h _ _)
  · exact k 5

theorem State.receive_evolves (s a f) (h : ∀ s, Evolves s (f s)) : Evolves s (State.receive s a f) := by
  unfold State.receive; dsimp only
  split
  · exact .steady (by simp) (fun h => by simp [h])
  · refine Evolves.trans ?_ (h _); exact .still (by simp)

theorem State.takeIn_evolves (s c f) : Evolves s (State.takeIn s c f) := by
  unfold State.takeIn State.awaitClock; (repeat' split) <;> exact .still (by simp)

theorem State.onFrame_nexts (s c a b f) (h : ∀ s, Evolves s (f s)) : Nexts s (State.onFrame s c a b f) := by
  unfold State.onFrame; split; exact nexts (State.receive_evolves _ _ _ h); exact nexts (State.takeIn_evolves _ _ _)

theorem State.onChannel_evolves (s a b f) (h : ∀ s, Evolves s (f s)) : Evolves s (State.onChannel s a b f) := by
  unfold State.onChannel; split; exact .still (by simp); split; exact .still (by simp); exact h _

theorem State.awaitClock_evolves (s c) : Evolves s (State.awaitClock s c) := by
  unfold State.awaitClock; split <;> exact .still (by simp)

theorem State.onBus_nexts (s c f) (h : ∀ s, Evolves s (f s)) : Nexts s (State.onBus s c f) := by
  unfold State.onBus; split; exact nexts ((State.touch_evolves s).trans (h _)); exact nexts (State.awaitClock_evolves _ _)

theorem State.channelWrite_nexts (s c a b f) (h : ∀ s, Evolves s (f s)) : Nexts s (State.channelWrite s c a b f) := by
  unfold State.channelWrite; split; exact State.onBus_nexts _ _ _ (fun s => State.onChannel_evolves _ _ _ _ h); exact nexts (.refl _)

theorem State.muRequest_evolves (s a f g) (h : ∀ s, Evolves s (f s).1) (k : ∀ s r, Evolves s (g s r)) : Evolves s (State.muRequest s a f g) := by
  unfold State.muRequest; apply State.inSession_evolves; intro s v; dsimp only
  split
  · split; exact .still (by simp); exact .refl _
  · refine Evolves.trans (.still (by simp)) ((h (s.abandon a.session 0x00070001)).trans (Evolves.trans ?_ (k _ _))); exact .still (by simp)

theorem State.serve_nexts (s a b c f) (h : ∀ s x y, Evolves s (f s x y)) : Nexts s (State.serve s a b c f) := by
  have p : ∀ n, (s.trip = true → (each (List.range n) (fun s _ => s.dEvent 62) s).trip = true) ∧
      Steady (each (List.range n) (fun s _ => s.dEvent 62) s) s := fun n =>
    ⟨each_trips _ _ _ (fun _ _ k => by simp [k]), each_steady (fun _ _ => by simp) _ _⟩
  unfold State.serve; dsimp only
  split; exact nexts (.refl _)
  split
  · obtain ⟨k, e⟩ := p (s.messagePoison ((s.channel a).slot b).offset 24)
    generalize each (List.range (s.messagePoison ((s.channel a).slot b).offset 24)) (fun s _ => s.dEvent 62) s = t at *
    exact nexts ((Evolves.steady e k).trans (.steady (by simp) (fun h => by simp [h])))
  split; exact nexts (.refl _)
  split; exact nexts (.steady (by simp) (fun h => by simp [h]))
  split; exact nexts (.refl _)
  exact nexts (h _ _ _)

theorem State.closeSession_evolves (s a) : Evolves s (State.closeSession s a) := by
  unfold State.closeSession; apply State.inSession_evolves; intro s v; dsimp only
  split
  · split; exact .still (by simp); exact .refl _
  · split <;> exact .still (by simp)

theorem Memory.wf_strobedWrite {m} (a b c) (h : Memory.wf m = true) : Memory.wf (strobedWrite m a b c) = true := by
  unfold strobedWrite
  exact each_carries (fun m => Memory.wf m = true) (fun m i h => by split; exact Memory.wf_mwrite _ _ h; exact h) _ _ h

theorem State.writeMessage_evolves (s a b c) : Evolves s (State.writeMessage s a b c) := by
  refine ⟨by simp [State.writeMessage], by simp [State.writeMessage], by simp [State.writeMessage], fun h => Memory.wf_strobedWrite _ _ _ h, fun h => by simp [State.writeMessage, h], id⟩

theorem State.placeReply_evolves (s a b c) : Evolves s (State.placeReply s a b c) := by
  unfold State.placeReply; split
  · exact ⟨rfl, rfl, Nat.le_refl _, fun h => Memory.wf_mwriteBytes _ _ h, id, id⟩
  · exact .refl _

theorem State.post_evolves (s a b c d) : Evolves s (State.post s a b c d) := by
  unfold State.post; dsimp only; split
  · refine Evolves.trans (t := if s.sender a < 4 then s.placeReply a c d else s) (by split; exact State.placeReply_evolves _ _ _ _; exact .refl _) (.steady (by simp) (fun h => by simp [h]))
  · exact .steady (by simp) (fun h => by simp [h])

theorem State.g3Put_evolves (s a b c) : Evolves s (State.g3Put s a b c) := by
  unfold State.g3Put; dsimp only; split
  · refine (State.writeObject_evolves s emulSession a b (valueBytes a b c) 0).trans ?_; exact .still (by simp)
  · exact State.writeObject_evolves _ _ _ _ _ _

theorem State.g3Get_evolves (s a b) : Evolves s (State.g3Get s a b).1 := State.readObject_evolves _ _ _ _ _ _

theorem State.g3Scaled_evolves (s a b c d e) : Evolves s (State.g3Scaled s a b c d e) := by
  unfold State.g3Scaled; dsimp only; (repeat' split) <;> first | exact State.g3Put_evolves _ _ _ _ | exact (State.refuse_evolves s 0x00030002).trans (.still (by simp [State.g3Refused]))

theorem State.g3Ctrl_evolves (s a) : Evolves s (State.g3Ctrl s a) := by
  unfold State.g3Ctrl; split; exact .still (by simp); split; exact State.g3Put_evolves _ _ _ _; exact .refl _

theorem State.g3Plimit_evolves (s a) : Evolves s (State.g3Plimit s a) := by
  unfold State.g3Plimit; extract_lets t; refine ite_evolves (.still (State.g3Refused_keeps _)) ?_; exact .each _ _ _ (fun s r => State.g3Put_evolves _ _ _ _)

theorem State.g3Apply_evolves (s a b) : Evolves s (State.g3Apply s a b) := by
  unfold State.g3Apply
  refine ite_evolves (State.g3Ctrl_evolves _ _) ?_
  refine ite_evolves (State.g3Plimit_evolves _ _) ?_
  refine ite_evolves (State.g3Scaled_evolves _ _ _ _ _ _) ?_
  refine ite_evolves (State.g3Scaled_evolves _ _ _ _ _ _) ?_
  refine ite_evolves (State.g3Scaled_evolves _ _ _ _ _ _) ?_
  refine ite_evolves (State.g3Put_evolves _ _ _ _) ?_
  refine ite_evolves (State.g3Put_evolves _ _ _ _) ?_
  exact .still (State.g3Refused_keeps _)

theorem State.g3Targets_evolves (s) : Evolves s (State.g3Targets s).1 := by
  unfold State.g3Targets
  exact each_carries (f := fun (q : State × Nat) r => let g := q.1.g3Get (powerLaw r) 0x0A; (g.1, q.2 + g.2)) (fun q : State × Nat => Evolves s q.1) (fun q x h => h.trans (State.g3Get_evolves q.1 (powerLaw x) 0x0A)) s.railsUsed (s, 0) (.refl s)

theorem State.g3Value_evolves (s a) : Evolves s (State.g3Value s a).1 := by
  unfold State.g3Value; extract_lets conv
  have k : ∀ i j f, Evolves s (conv i j f).1 := fun i j f => State.g3Get_evolves s i j
  clear_value conv
  refine ite_evolves1 (.refl _) ?_
  refine ite_evolves1 (a := _) ?_ ?_
  · dsimp only
    exact (State.g3Get_evolves s 0x3400 1).trans (State.g3Get_evolves (s.g3Get 0x3400 1).1 0x3400 0x0F)
  refine ite_evolves1 ?_ ?_
  · exact k _ _ _
  refine ite_evolves1 ?_ ?_
  · exact k _ _ _
  refine ite_evolves1 (State.g3Targets_evolves _) ?_
  refine ite_evolves1 ?_ ?_
  · exact k _ _ _
  refine ite_evolves1 ?_ ?_
  · exact k _ _ _
  refine ite_evolves1 ?_ ?_
  · exact k _ _ _
  refine ite_evolves1 ?_ ?_
  · exact k _ _ _
  refine ite_evolves1 (.refl _) ?_
  refine ite_evolves1 (.refl _) ?_
  refine ite_evolves1 ?_ ?_
  · exact k _ _ _
  refine ite_evolves1 ?_ ?_
  · exact k _ _ _
  exact .refl _

theorem State.g3Serve_evolves (s a) : Evolves s (State.g3Serve s a) := by
  unfold State.g3Serve; dsimp only
  refine Evolves.trans (t := s.bump64 0x7400 7 1) (.still (by simp)) ?_
  split
  · exact State.g3Apply_evolves _ _ _
  · exact State.g3Value_evolves (s.bump64 0x7400 7 1) a.offset

theorem State.g3Drain_evolves (s) : Evolves s (State.g3Drain s) := by
  unfold State.g3Drain; dsimp only
  exact Evolves.trans (t := { s with host := { s.host with queue := [], waiting := [] } }) (.refl _) (.each _ _ _ State.g3Serve_evolves)

theorem State.g3Access_evolves (s a b c) : Evolves s (State.g3Access s a b c) := by
  have k : ∀ u : State, Evolves u (if u.comRuns then u.g3Drain else u) := by
    intro u; split; exact State.g3Drain_evolves _; exact .refl _
  unfold State.g3Access
  split
  · split; exact .still (by simp); exact .still (by simp)
  · extract_lets x h u
    exact Evolves.trans (by simp only [u]; split <;> exact .refl _) (k u)

theorem State.g3Expire_evolves (s a) : Evolves s (State.g3Expire s a) := by
  unfold State.g3Expire; dsimp only
  refine (State.atTime_evolves s (a.at_ + 2016)).trans ?_
  split <;> exact .still (by simp)

theorem State.g3Write_nexts (s a b) : Nexts s (State.g3Write s a b) := State.onBus_nexts _ _ _ (fun s => State.g3Access_evolves _ _ _ _)

theorem State.shortRead_evolves (s a) : Evolves s (State.shortRead s a).1 := by
  unfold State.shortRead; dsimp only; split; exact State.refuse_evolves _ _; exact State.readObject_evolves _ _ _ _ _ _

theorem State.shortWrite_evolves (s a) : Evolves s (State.shortWrite s a).1 := by
  unfold State.shortWrite; dsimp only; split; exact State.refuseWrite_evolves _ _ _ _; exact State.writeObject_evolves _ _ _ _ _ _

theorem State.captureRead_evolves (s a) : Evolves s (State.captureRead s a).1 := State.readObject_evolves _ _ _ _ _ _

theorem State.checkWrite_evolves (s a) : Evolves s (State.checkWrite s a).1 := by
  unfold State.checkWrite; dsimp only; split; exact State.refuseWrite_evolves _ _ _ _; exact .refl _

theorem State.applySegments_evolves (s a b c) : Evolves s (State.applySegments s a b c) := by
  unfold State.applySegments; dsimp only
  refine (State.writeObject_evolves s a.session b.index b.sub c (s.earlyCode a)).trans ?_; exact .still (by simp)

theorem State.takeSegment_evolves (s a b) : Evolves s (State.takeSegment s a b) := by
  unfold State.takeSegment; extract_lets p k n d r u
  refine ite_evolves (.still (by simp)) (ite_evolves (.still (by simp)) (ite_evolves (State.applySegments_evolves _ _ _ _) (.still (by simp))))

theorem State.windowCommand_evolves (s a) : Evolves s (State.windowCommand s a) := by
  unfold State.windowCommand; dsimp only
  split; exact .still (by simp)
  refine Evolves.trans (t := s.setWindow { s.window with isDone := false, usedAt := s.tb.now }) (.still (by simp)) ?_
  split
  · refine (State.readObject_evolves _ windowSession (bits a.toNat 55 40) (bits a.toNat 39 32) (bits a.toNat 12 0) 0).trans ?_; exact .still (State.windowDone_keeps _ _ _)
  · refine (State.writeObject_evolves _ windowSession (bits a.toNat 55 40) (bits a.toNat 39 32) (mreadBytes s.window.data 0 (bits a.toNat 12 0)) 0).trans ?_; exact .still (State.windowDone_keeps _ _ _)
  · refine (State.refuse_evolves _ 0x00030002).trans ?_; exact .still (State.windowDone_keeps _ _ _)

theorem State.oxgCmd_evolves (s a) : Evolves s (State.oxgCmd s a) := (State.writeObject_evolves _ _ _ _ _ _).trans (State.writeObject_evolves _ _ _ _ _ _)

theorem State.writePlain_evolves (s a b) : Evolves s (State.writePlain s a b) := by
  unfold State.writePlain; split
  · exact State.oxgCmd_evolves _ _
  all_goals exact .steady (by simp) (fun h => by simp [h])

theorem State.countFrame_evolves (s) : Evolves s (State.countFrame s) := by
  refine ⟨by simp [State.countFrame], by simp [State.countFrame], ?_, fun h => by simpa [State.countFrame] using h, fun h => by simpa [State.countFrame] using h,
    fun h => by simp [State.countFrame]; split <;> simpa using h⟩
  simp [State.countFrame]

end Sys2Proof.Machine
end

