-- ==== Sys2Proof/Laws/Spares.lean ====
section
/-! SUPPORT. What the actions of a fault or a transition leave alone: one lemma for an operation, and the lemmas that carry
a part of the state through the shapes operations share. -/

set_option linter.unusedTactic false
set_option linter.unreachableTactic false
set_option linter.unusedSimpArgs false
set_option linter.flexible false
set_option linter.style.multiGoal false
set_option linter.unnecessarySeqFocus false

namespace Sys2Proof.Machine

@[simp] theorem itez_pending (c : Prop) [Decidable c] (a b : State) :
    (if c then a else b).pending = if c then a.pending else b.pending := by split <;> rfl

@[simp] theorem eachz_pending {α : Type} (l : List α) (f : State → α → State) (s : State)
    (h : ∀ s x, (f s x).pending = s.pending) : (each l f s).pending = s.pending := each_keeps (fun s => s.pending) h l s

@[simp] theorem onlyIfz_pending (c : Bool) (f : State → State) (s : State) (h : ∀ s, (f s).pending = s.pending) :
    (onlyIf c f s).pending = s.pending := by unfold onlyIf; split <;> simp [h]

@[simp] theorem itez_cfg (c : Prop) [Decidable c] (a b : State) :
    (if c then a else b).cfg = if c then a.cfg else b.cfg := by split <;> rfl

@[simp] theorem eachz_cfg {α : Type} (l : List α) (f : State → α → State) (s : State)
    (h : ∀ s x, (f s x).cfg = s.cfg) : (each l f s).cfg = s.cfg := each_keeps (fun s => s.cfg) h l s

@[simp] theorem onlyIfz_cfg (c : Bool) (f : State → State) (s : State) (h : ∀ s, (f s).cfg = s.cfg) :
    (onlyIf c f s).cfg = s.cfg := by unfold onlyIf; split <;> simp [h]

@[simp] theorem itez_free (c : Prop) [Decidable c] (a b : State) :
    (if c then a else b).free = if c then a.free else b.free := by split <;> rfl

@[simp] theorem eachz_free {α : Type} (l : List α) (f : State → α → State) (s : State)
    (h : ∀ s x, (f s x).free = s.free) : (each l f s).free = s.free := each_keeps (fun s => s.free) h l s

@[simp] theorem onlyIfz_free (c : Bool) (f : State → State) (s : State) (h : ∀ s, (f s).free = s.free) :
    (onlyIf c f s).free = s.free := by unfold onlyIf; split <;> simp [h]

@[simp] theorem itez_desc (c : Prop) [Decidable c] (a b : State) :
    (if c then a else b).desc = if c then a.desc else b.desc := by split <;> rfl

@[simp] theorem eachz_desc {α : Type} (l : List α) (f : State → α → State) (s : State)
    (h : ∀ s x, (f s x).desc = s.desc) : (each l f s).desc = s.desc := each_keeps (fun s => s.desc) h l s

@[simp] theorem onlyIfz_desc (c : Bool) (f : State → State) (s : State) (h : ∀ s, (f s).desc = s.desc) :
    (onlyIf c f s).desc = s.desc := by unfold onlyIf; split <;> simp [h]

@[simp] theorem itez_clock (c : Prop) [Decidable c] (a b : State) :
    (if c then a else b).clock = if c then a.clock else b.clock := by split <;> rfl

@[simp] theorem eachz_clock {α : Type} (l : List α) (f : State → α → State) (s : State)
    (h : ∀ s x, (f s x).clock = s.clock) : (each l f s).clock = s.clock := each_keeps (fun s => s.clock) h l s

@[simp] theorem onlyIfz_clock (c : Bool) (f : State → State) (s : State) (h : ∀ s, (f s).clock = s.clock) :
    (onlyIf c f s).clock = s.clock := by unfold onlyIf; split <;> simp [h]

@[simp] theorem itez_dumps (c : Prop) [Decidable c] (a b : State) :
    (if c then a else b).dumps = if c then a.dumps else b.dumps := by split <;> rfl

@[simp] theorem eachz_dumps {α : Type} (l : List α) (f : State → α → State) (s : State)
    (h : ∀ s x, (f s x).dumps = s.dumps) : (each l f s).dumps = s.dumps := each_keeps (fun s => s.dumps) h l s

@[simp] theorem onlyIfz_dumps (c : Bool) (f : State → State) (s : State) (h : ∀ s, (f s).dumps = s.dumps) :
    (onlyIf c f s).dumps = s.dumps := by unfold onlyIf; split <;> simp [h]

@[simp] theorem itez_channels (c : Prop) [Decidable c] (a b : State) :
    (if c then a else b).channels = if c then a.channels else b.channels := by split <;> rfl

@[simp] theorem eachz_channels {α : Type} (l : List α) (f : State → α → State) (s : State)
    (h : ∀ s x, (f s x).channels = s.channels) : (each l f s).channels = s.channels :=
  each_keeps (fun s => s.channels) h l s

@[simp] theorem onlyIfz_channels (c : Bool) (f : State → State) (s : State) (h : ∀ s, (f s).channels = s.channels) :
    (onlyIf c f s).channels = s.channels := by unfold onlyIf; split <;> simp [h]

@[simp] theorem itez_epochs (c : Prop) [Decidable c] (a b : State) :
    (if c then a else b).epochs = if c then a.epochs else b.epochs := by split <;> rfl

@[simp] theorem eachz_epochs {α : Type} (l : List α) (f : State → α → State) (s : State)
    (h : ∀ s x, (f s x).epochs = s.epochs) : (each l f s).epochs = s.epochs := each_keeps (fun s => s.epochs) h l s

@[simp] theorem onlyIfz_epochs (c : Bool) (f : State → State) (s : State) (h : ∀ s, (f s).epochs = s.epochs) :
    (onlyIf c f s).epochs = s.epochs := by unfold onlyIf; split <;> simp [h]

@[simp] theorem itez_mram (c : Prop) [Decidable c] (a b : State) :
    (if c then a else b).mram = if c then a.mram else b.mram := by split <;> rfl

@[simp] theorem eachz_mram {α : Type} (l : List α) (f : State → α → State) (s : State)
    (h : ∀ s x, (f s x).mram = s.mram) : (each l f s).mram = s.mram := each_keeps (fun s => s.mram) h l s

@[simp] theorem onlyIfz_mram (c : Bool) (f : State → State) (s : State) (h : ∀ s, (f s).mram = s.mram) :
    (onlyIf c f s).mram = s.mram := by unfold onlyIf; split <;> simp [h]

@[simp] theorem itez_replies (c : Prop) [Decidable c] (a b : State) :
    (if c then a else b).replies = if c then a.replies else b.replies := by split <;> rfl

@[simp] theorem eachz_replies {α : Type} (l : List α) (f : State → α → State) (s : State)
    (h : ∀ s x, (f s x).replies = s.replies) : (each l f s).replies = s.replies := each_keeps (fun s => s.replies) h l s

@[simp] theorem onlyIfz_replies (c : Bool) (f : State → State) (s : State) (h : ∀ s, (f s).replies = s.replies) :
    (onlyIf c f s).replies = s.replies := by unfold onlyIf; split <;> simp [h]

@[simp] theorem itez_senseTaps (c : Prop) [Decidable c] (a b : State) :
    (if c then a else b).senseTaps = if c then a.senseTaps else b.senseTaps := by split <;> rfl

@[simp] theorem eachz_senseTaps {α : Type} (l : List α) (f : State → α → State) (s : State)
    (h : ∀ s x, (f s x).senseTaps = s.senseTaps) : (each l f s).senseTaps = s.senseTaps :=
  each_keeps (fun s => s.senseTaps) h l s

@[simp] theorem onlyIfz_senseTaps (c : Bool) (f : State → State) (s : State) (h : ∀ s, (f s).senseTaps = s.senseTaps) :
    (onlyIf c f s).senseTaps = s.senseTaps := by unfold onlyIf; split <;> simp [h]

@[simp] theorem itez_groups (c : Prop) [Decidable c] (a b : State) :
    (if c then a else b).groups = if c then a.groups else b.groups := by split <;> rfl

@[simp] theorem eachz_groups {α : Type} (l : List α) (f : State → α → State) (s : State)
    (h : ∀ s x, (f s x).groups = s.groups) : (each l f s).groups = s.groups := each_keeps (fun s => s.groups) h l s

@[simp] theorem onlyIfz_groups (c : Bool) (f : State → State) (s : State) (h : ∀ s, (f s).groups = s.groups) :
    (onlyIf c f s).groups = s.groups := by unfold onlyIf; split <;> simp [h]

@[simp] theorem itez_windowRecs (c : Prop) [Decidable c] (a b : State) :
    (if c then a else b).windowRecs = if c then a.windowRecs else b.windowRecs := by split <;> rfl

@[simp] theorem eachz_windowRecs {α : Type} (l : List α) (f : State → α → State) (s : State)
    (h : ∀ s x, (f s x).windowRecs = s.windowRecs) : (each l f s).windowRecs = s.windowRecs :=
  each_keeps (fun s => s.windowRecs) h l s

@[simp] theorem onlyIfz_windowRecs (c : Bool) (f : State → State) (s : State)
    (h : ∀ s, (f s).windowRecs = s.windowRecs) :
    (onlyIf c f s).windowRecs = s.windowRecs := by unfold onlyIf; split <;> simp [h]

@[simp] theorem itez_sweepRing (c : Prop) [Decidable c] (a b : State) :
    (if c then a else b).sweepRing = if c then a.sweepRing else b.sweepRing := by split <;> rfl

@[simp] theorem eachz_sweepRing {α : Type} (l : List α) (f : State → α → State) (s : State)
    (h : ∀ s x, (f s x).sweepRing = s.sweepRing) : (each l f s).sweepRing = s.sweepRing :=
  each_keeps (fun s => s.sweepRing) h l s

@[simp] theorem onlyIfz_sweepRing (c : Bool) (f : State → State) (s : State) (h : ∀ s, (f s).sweepRing = s.sweepRing) :
    (onlyIf c f s).sweepRing = s.sweepRing := by unfold onlyIf; split <;> simp [h]

@[simp] theorem itez_dither (c : Prop) [Decidable c] (a b : State) :
    (if c then a else b).dither = if c then a.dither else b.dither := by split <;> rfl

@[simp] theorem eachz_dither {α : Type} (l : List α) (f : State → α → State) (s : State)
    (h : ∀ s x, (f s x).dither = s.dither) : (each l f s).dither = s.dither := each_keeps (fun s => s.dither) h l s

@[simp] theorem onlyIfz_dither (c : Bool) (f : State → State) (s : State) (h : ∀ s, (f s).dither = s.dither) :
    (onlyIf c f s).dither = s.dither := by unfold onlyIf; split <;> simp [h]

@[simp] theorem itez_laws (c : Prop) [Decidable c] (a b : State) :
    (if c then a else b).laws = if c then a.laws else b.laws := by split <;> rfl

@[simp] theorem eachz_laws {α : Type} (l : List α) (f : State → α → State) (s : State)
    (h : ∀ s x, (f s x).laws = s.laws) : (each l f s).laws = s.laws := each_keeps (fun s => s.laws) h l s

@[simp] theorem onlyIfz_laws (c : Bool) (f : State → State) (s : State) (h : ∀ s, (f s).laws = s.laws) :
    (onlyIf c f s).laws = s.laws := by unfold onlyIf; split <;> simp [h]

@[simp] theorem itez_capture (c : Prop) [Decidable c] (a b : State) :
    (if c then a else b).capture = if c then a.capture else b.capture := by split <;> rfl

@[simp] theorem eachz_capture {α : Type} (l : List α) (f : State → α → State) (s : State)
    (h : ∀ s x, (f s x).capture = s.capture) : (each l f s).capture = s.capture := each_keeps (fun s => s.capture) h l s

@[simp] theorem onlyIfz_capture (c : Bool) (f : State → State) (s : State) (h : ∀ s, (f s).capture = s.capture) :
    (onlyIf c f s).capture = s.capture := by unfold onlyIf; split <;> simp [h]

@[simp] theorem itez_sensors (c : Prop) [Decidable c] (a b : State) :
    (if c then a else b).sensors = if c then a.sensors else b.sensors := by split <;> rfl

@[simp] theorem eachz_sensors {α : Type} (l : List α) (f : State → α → State) (s : State)
    (h : ∀ s x, (f s x).sensors = s.sensors) : (each l f s).sensors = s.sensors := each_keeps (fun s => s.sensors) h l s

@[simp] theorem onlyIfz_sensors (c : Bool) (f : State → State) (s : State) (h : ∀ s, (f s).sensors = s.sensors) :
    (onlyIf c f s).sensors = s.sensors := by unfold onlyIf; split <;> simp [h]

@[simp] theorem itez_regions (c : Prop) [Decidable c] (a b : State) :
    (if c then a else b).regions = if c then a.regions else b.regions := by split <;> rfl

@[simp] theorem eachz_regions {α : Type} (l : List α) (f : State → α → State) (s : State)
    (h : ∀ s x, (f s x).regions = s.regions) : (each l f s).regions = s.regions := each_keeps (fun s => s.regions) h l s

@[simp] theorem onlyIfz_regions (c : Bool) (f : State → State) (s : State) (h : ∀ s, (f s).regions = s.regions) :
    (onlyIf c f s).regions = s.regions := by unfold onlyIf; split <;> simp [h]

@[simp] theorem itez_thermal (c : Prop) [Decidable c] (a b : State) :
    (if c then a else b).thermal = if c then a.thermal else b.thermal := by split <;> rfl

@[simp] theorem eachz_thermal {α : Type} (l : List α) (f : State → α → State) (s : State)
    (h : ∀ s x, (f s x).thermal = s.thermal) : (each l f s).thermal = s.thermal := each_keeps (fun s => s.thermal) h l s

@[simp] theorem onlyIfz_thermal (c : Bool) (f : State → State) (s : State) (h : ∀ s, (f s).thermal = s.thermal) :
    (onlyIf c f s).thermal = s.thermal := by unfold onlyIf; split <;> simp [h]

@[simp] theorem itez_cores (c : Prop) [Decidable c] (a b : State) :
    (if c then a else b).cores = if c then a.cores else b.cores := by split <;> rfl

@[simp] theorem eachz_cores {α : Type} (l : List α) (f : State → α → State) (s : State)
    (h : ∀ s x, (f s x).cores = s.cores) : (each l f s).cores = s.cores := each_keeps (fun s => s.cores) h l s

@[simp] theorem onlyIfz_cores (c : Bool) (f : State → State) (s : State) (h : ∀ s, (f s).cores = s.cores) :
    (onlyIf c f s).cores = s.cores := by unfold onlyIf; split <;> simp [h]

@[simp] theorem itez_update (c : Prop) [Decidable c] (a b : State) :
    (if c then a else b).update = if c then a.update else b.update := by split <;> rfl

@[simp] theorem eachz_update {α : Type} (l : List α) (f : State → α → State) (s : State)
    (h : ∀ s x, (f s x).update = s.update) : (each l f s).update = s.update := each_keeps (fun s => s.update) h l s

@[simp] theorem onlyIfz_update (c : Bool) (f : State → State) (s : State) (h : ∀ s, (f s).update = s.update) :
    (onlyIf c f s).update = s.update := by unfold onlyIf; split <;> simp [h]

@[simp] theorem itez_host (c : Prop) [Decidable c] (a b : State) :
    (if c then a else b).host = if c then a.host else b.host := by split <;> rfl

@[simp] theorem eachz_host {α : Type} (l : List α) (f : State → α → State) (s : State)
    (h : ∀ s x, (f s x).host = s.host) : (each l f s).host = s.host := each_keeps (fun s => s.host) h l s

@[simp] theorem onlyIfz_host (c : Bool) (f : State → State) (s : State) (h : ∀ s, (f s).host = s.host) :
    (onlyIf c f s).host = s.host := by unfold onlyIf; split <;> simp [h]

@[simp] theorem itez_answer (c : Prop) [Decidable c] (a b : State) :
    (if c then a else b).answer = if c then a.answer else b.answer := by split <;> rfl

@[simp] theorem eachz_answer {α : Type} (l : List α) (f : State → α → State) (s : State)
    (h : ∀ s x, (f s x).answer = s.answer) : (each l f s).answer = s.answer := each_keeps (fun s => s.answer) h l s

@[simp] theorem onlyIfz_answer (c : Bool) (f : State → State) (s : State) (h : ∀ s, (f s).answer = s.answer) :
    (onlyIf c f s).answer = s.answer := by unfold onlyIf; split <;> simp [h]

@[simp] theorem itez_window (c : Prop) [Decidable c] (a b : State) :
    (if c then a else b).window = if c then a.window else b.window := by split <;> rfl

@[simp] theorem eachz_window {α : Type} (l : List α) (f : State → α → State) (s : State)
    (h : ∀ s x, (f s x).window = s.window) : (each l f s).window = s.window := each_keeps (fun s => s.window) h l s

@[simp] theorem onlyIfz_window (c : Bool) (f : State → State) (s : State) (h : ∀ s, (f s).window = s.window) :
    (onlyIf c f s).window = s.window := by unfold onlyIf; split <;> simp [h]

@[simp] theorem itez_access (c : Prop) [Decidable c] (a b : State) :
    (if c then a else b).access = if c then a.access else b.access := by split <;> rfl

@[simp] theorem eachz_access {α : Type} (l : List α) (f : State → α → State) (s : State)
    (h : ∀ s x, (f s x).access = s.access) : (each l f s).access = s.access := each_keeps (fun s => s.access) h l s

@[simp] theorem onlyIfz_access (c : Bool) (f : State → State) (s : State) (h : ∀ s, (f s).access = s.access) :
    (onlyIf c f s).access = s.access := by unfold onlyIf; split <;> simp [h]

@[simp] theorem itez_muriri (c : Prop) [Decidable c] (a b : State) :
    (if c then a else b).muriri = if c then a.muriri else b.muriri := by split <;> rfl

@[simp] theorem eachz_muriri {α : Type} (l : List α) (f : State → α → State) (s : State)
    (h : ∀ s x, (f s x).muriri = s.muriri) : (each l f s).muriri = s.muriri := each_keeps (fun s => s.muriri) h l s

@[simp] theorem onlyIfz_muriri (c : Bool) (f : State → State) (s : State) (h : ∀ s, (f s).muriri = s.muriri) :
    (onlyIf c f s).muriri = s.muriri := by unfold onlyIf; split <;> simp [h]

@[simp] theorem itez_segment (c : Prop) [Decidable c] (a b : State) :
    (if c then a else b).segment = if c then a.segment else b.segment := by split <;> rfl

@[simp] theorem eachz_segment {α : Type} (l : List α) (f : State → α → State) (s : State)
    (h : ∀ s x, (f s x).segment = s.segment) : (each l f s).segment = s.segment := each_keeps (fun s => s.segment) h l s

@[simp] theorem onlyIfz_segment (c : Bool) (f : State → State) (s : State) (h : ∀ s, (f s).segment = s.segment) :
    (onlyIf c f s).segment = s.segment := by unfold onlyIf; split <;> simp [h]

@[simp] theorem itez_poison (c : Prop) [Decidable c] (a b : State) :
    (if c then a else b).poison = if c then a.poison else b.poison := by split <;> rfl

@[simp] theorem eachz_poison {α : Type} (l : List α) (f : State → α → State) (s : State)
    (h : ∀ s x, (f s x).poison = s.poison) : (each l f s).poison = s.poison := each_keeps (fun s => s.poison) h l s

@[simp] theorem onlyIfz_poison (c : Bool) (f : State → State) (s : State) (h : ∀ s, (f s).poison = s.poison) :
    (onlyIf c f s).poison = s.poison := by unfold onlyIf; split <;> simp [h]

@[simp] theorem filter_ite {α : Type} (c : Prop) [Decidable c] (g : α → Bool) (a b : List α) :
    (if c then a else b).filter g = if c then a.filter g else b.filter g := by split <;> rfl

@[simp] theorem eachz_lasting {α : Type} (l : List α) (f : State → α → State) (s : State)
    (h : ∀ s x, (f s x).poison.filter (!ofTally ·) = s.poison.filter (!ofTally ·)) :
    (each l f s).poison.filter (!ofTally ·) = s.poison.filter (!ofTally ·) :=
  each_keeps (fun s => s.poison.filter (!ofTally ·)) h l s

@[simp] theorem onlyIfz_lasting (c : Bool) (f : State → State) (s : State)
    (h : ∀ s, (f s).poison.filter (!ofTally ·) = s.poison.filter (!ofTally ·)) :
    (onlyIf c f s).poison.filter (!ofTally ·) = s.poison.filter (!ofTally ·) := by unfold onlyIf; split <;> simp [h]

@[simp] theorem itez_tb_now (c : Prop) [Decidable c] (a b : State) :
    (if c then a else b).tb.now = if c then a.tb.now else b.tb.now := by split <;> rfl

@[simp] theorem eachz_tb_now {α : Type} (l : List α) (f : State → α → State) (s : State)
    (h : ∀ s x, (f s x).tb.now = s.tb.now) : (each l f s).tb.now = s.tb.now := each_keeps (fun s => s.tb.now) h l s

@[simp] theorem onlyIfz_tb_now (c : Bool) (f : State → State) (s : State) (h : ∀ s, (f s).tb.now = s.tb.now) :
    (onlyIf c f s).tb.now = s.tb.now := by unfold onlyIf; split <;> simp [h]

@[simp] theorem itez_tb_gclk (c : Prop) [Decidable c] (a b : State) :
    (if c then a else b).tb.gclk = if c then a.tb.gclk else b.tb.gclk := by split <;> rfl

@[simp] theorem eachz_tb_gclk {α : Type} (l : List α) (f : State → α → State) (s : State)
    (h : ∀ s x, (f s x).tb.gclk = s.tb.gclk) : (each l f s).tb.gclk = s.tb.gclk := each_keeps (fun s => s.tb.gclk) h l s

@[simp] theorem onlyIfz_tb_gclk (c : Bool) (f : State → State) (s : State) (h : ∀ s, (f s).tb.gclk = s.tb.gclk) :
    (onlyIf c f s).tb.gclk = s.tb.gclk := by unfold onlyIf; split <;> simp [h]

@[simp] theorem itez_tb_cStart (c : Prop) [Decidable c] (a b : State) :
    (if c then a else b).tb.cStart = if c then a.tb.cStart else b.tb.cStart := by split <;> rfl

@[simp] theorem eachz_tb_cStart {α : Type} (l : List α) (f : State → α → State) (s : State)
    (h : ∀ s x, (f s x).tb.cStart = s.tb.cStart) : (each l f s).tb.cStart = s.tb.cStart :=
  each_keeps (fun s => s.tb.cStart) h l s

@[simp] theorem onlyIfz_tb_cStart (c : Bool) (f : State → State) (s : State) (h : ∀ s, (f s).tb.cStart = s.tb.cStart) :
    (onlyIf c f s).tb.cStart = s.tb.cStart := by unfold onlyIf; split <;> simp [h]

@[simp] theorem itez_tb_fStart (c : Prop) [Decidable c] (a b : State) :
    (if c then a else b).tb.fStart = if c then a.tb.fStart else b.tb.fStart := by split <;> rfl

@[simp] theorem eachz_tb_fStart {α : Type} (l : List α) (f : State → α → State) (s : State)
    (h : ∀ s x, (f s x).tb.fStart = s.tb.fStart) : (each l f s).tb.fStart = s.tb.fStart :=
  each_keeps (fun s => s.tb.fStart) h l s

@[simp] theorem onlyIfz_tb_fStart (c : Bool) (f : State → State) (s : State) (h : ∀ s, (f s).tb.fStart = s.tb.fStart) :
    (onlyIf c f s).tb.fStart = s.tb.fStart := by unfold onlyIf; split <;> simp [h]

@[simp] theorem itez_tb_cframe (c : Prop) [Decidable c] (a b : State) :
    (if c then a else b).tb.cframe = if c then a.tb.cframe else b.tb.cframe := by split <;> rfl

@[simp] theorem eachz_tb_cframe {α : Type} (l : List α) (f : State → α → State) (s : State)
    (h : ∀ s x, (f s x).tb.cframe = s.tb.cframe) : (each l f s).tb.cframe = s.tb.cframe :=
  each_keeps (fun s => s.tb.cframe) h l s

@[simp] theorem onlyIfz_tb_cframe (c : Bool) (f : State → State) (s : State) (h : ∀ s, (f s).tb.cframe = s.tb.cframe) :
    (onlyIf c f s).tb.cframe = s.tb.cframe := by unfold onlyIf; split <;> simp [h]

@[simp] theorem itez_tb_tb (c : Prop) [Decidable c] (a b : State) :
    (if c then a else b).tb.tb = if c then a.tb.tb else b.tb.tb := by split <;> rfl

@[simp] theorem eachz_tb_tb {α : Type} (l : List α) (f : State → α → State) (s : State)
    (h : ∀ s x, (f s x).tb.tb = s.tb.tb) : (each l f s).tb.tb = s.tb.tb := each_keeps (fun s => s.tb.tb) h l s

@[simp] theorem onlyIfz_tb_tb (c : Bool) (f : State → State) (s : State) (h : ∀ s, (f s).tb.tb = s.tb.tb) :
    (onlyIf c f s).tb.tb = s.tb.tb := by unfold onlyIf; split <;> simp [h]

@[simp] theorem itez_tb_phase (c : Prop) [Decidable c] (a b : State) :
    (if c then a else b).tb.phase = if c then a.tb.phase else b.tb.phase := by split <;> rfl

@[simp] theorem eachz_tb_phase {α : Type} (l : List α) (f : State → α → State) (s : State)
    (h : ∀ s x, (f s x).tb.phase = s.tb.phase) : (each l f s).tb.phase = s.tb.phase := each_keeps (fun s => s.tb.phase) h l s

@[simp] theorem onlyIfz_tb_phase (c : Bool) (f : State → State) (s : State) (h : ∀ s, (f s).tb.phase = s.tb.phase) :
    (onlyIf c f s).tb.phase = s.tb.phase := by unfold onlyIf; split <;> simp [h]

@[simp] theorem itez_tb_waiting (c : Prop) [Decidable c] (a b : State) :
    (if c then a else b).tb.waiting = if c then a.tb.waiting else b.tb.waiting := by split <;> rfl

@[simp] theorem eachz_tb_waiting {α : Type} (l : List α) (f : State → α → State) (s : State)
    (h : ∀ s x, (f s x).tb.waiting = s.tb.waiting) : (each l f s).tb.waiting = s.tb.waiting := each_keeps (fun s => s.tb.waiting) h l s

@[simp] theorem onlyIfz_tb_waiting (c : Bool) (f : State → State) (s : State) (h : ∀ s, (f s).tb.waiting = s.tb.waiting) :
    (onlyIf c f s).tb.waiting = s.tb.waiting := by unfold onlyIf; split <;> simp [h]

@[simp] theorem itez_fst {α β : Type} (c : Prop) [Decidable c] (a b : α × β) :
    (if c then a else b).1 = if c then a.1 else b.1 := by split <;> rfl

@[simp] theorem State.setObj_spares (s i j v) : Spares (State.setObj s i j v) s := by
  first
  | (simp [State.setObj]; done)
  | (generalize h : (State.setObj s i j v) = t; unfold State.setObj at h; (repeat' split at h) <;> subst h <;> simp)

@[simp] theorem State.bumpBy_spares (s i j n) : Spares (State.bumpBy s i j n) s := by
  first
  | (simp [State.bumpBy]; done)
  | (generalize h : (State.bumpBy s i j n) = t; unfold State.bumpBy at h; (repeat' split at h) <;> subst h <;> simp)

@[simp] theorem State.bump_spares (s i j) : Spares (State.bump s i j) s := by
  first
  | (simp [State.bump]; done)
  | (generalize h : (State.bump s i j) = t; unfold State.bump at h; (repeat' split at h) <;> subst h <;> simp)

@[simp] theorem State.bump64_spares (s i j n) : Spares (State.bump64 s i j n) s := by
  first
  | (simp [State.bump64]; done)
  | (generalize h : (State.bump64 s i j n) = t; unfold State.bump64 at h; (repeat' split at h) <;> subst h <;> simp)

@[simp] theorem State.setRail_spares (s n v) : Spares (State.setRail s n v) s := by
  first
  | (simp [State.setRail]; done)
  | (generalize h : (State.setRail s n v) = t; unfold State.setRail at h; (repeat' split at h) <;> subst h <;> simp)

@[simp] theorem State.modRail_spares (s n f) : Spares (State.modRail s n f) s := by
  first
  | (simp [State.modRail]; done)
  | (generalize h : (State.modRail s n f) = t; unfold State.modRail at h; (repeat' split at h) <;> subst h <;> simp)

@[simp] theorem State.setLane_spares (s n v) : Spares (State.setLane s n v) s := by
  first
  | (simp [State.setLane]; done)
  | (generalize h : (State.setLane s n v) = t; unfold State.setLane at h; (repeat' split at h) <;> subst h <;> simp)

@[simp] theorem State.setPin_spares (s n v) : Spares (State.setPin s n v) s := by
  first
  | (simp [State.setPin]; done)
  | (generalize h : (State.setPin s n v) = t; unfold State.setPin at h; (repeat' split at h) <;> subst h <;> simp)

@[simp] theorem State.modPin_spares (s n f) : Spares (State.modPin s n f) s := by
  first
  | (simp [State.modPin]; done)
  | (generalize h : (State.modPin s n f) = t; unfold State.modPin at h; (repeat' split at h) <;> subst h <;> simp)

@[simp] theorem State.setDomain_spares (s n v) : Spares (State.setDomain s n v) s := by
  first
  | (simp [State.setDomain]; done)
  | (generalize h : (State.setDomain s n v) = t; unfold State.setDomain at h; (repeat' split at h) <;> subst h <;> simp)

@[simp] theorem State.modDomain_spares (s n f) : Spares (State.modDomain s n f) s := by
  first
  | (simp [State.modDomain]; done)
  | (generalize h : (State.modDomain s n f) = t; unfold State.modDomain at h; (repeat' split at h) <;> subst h <;> simp)

@[simp] theorem State.setDroop_spares (s n v) : Spares (State.setDroop s n v) s := by
  first
  | (simp [State.setDroop]; done)
  | (generalize h : (State.setDroop s n v) = t; unfold State.setDroop at h; (repeat' split at h) <;> subst h <;> simp)

@[simp] theorem State.modDroop_spares (s n f) : Spares (State.modDroop s n f) s := by
  first
  | (simp [State.modDroop]; done)
  | (generalize h : (State.modDroop s n f) = t; unfold State.modDroop at h; (repeat' split at h) <;> subst h <;> simp)

@[simp] theorem State.setTap_spares (s n v) : Spares (State.setTap s n v) s := by
  first
  | (simp [State.setTap]; done)
  | (generalize h : (State.setTap s n v) = t; unfold State.setTap at h; (repeat' split at h) <;> subst h <;> simp)

@[simp] theorem State.modTap_spares (s n f) : Spares (State.modTap s n f) s := by
  first
  | (simp [State.modTap]; done)
  | (generalize h : (State.modTap s n f) = t; unfold State.modTap at h; (repeat' split at h) <;> subst h <;> simp)

@[simp] theorem State.setArray_spares (s n v) : Spares (State.setArray s n v) s := by
  first
  | (simp [State.setArray]; done)
  | (generalize h : (State.setArray s n v) = t; unfold State.setArray at h; (repeat' split at h) <;> subst h <;> simp)

@[simp] theorem State.setShaper_spares (s n v) : Spares (State.setShaper s n v) s := by
  first
  | (simp [State.setShaper]; done)
  | (generalize h : (State.setShaper s n v) = t; unfold State.setShaper at h; (repeat' split at h) <;> subst h <;> simp)

@[simp] theorem State.modShaper_spares (s n f) : Spares (State.modShaper s n f) s := by
  first
  | (simp [State.modShaper]; done)
  | (generalize h : (State.modShaper s n f) = t; unfold State.modShaper at h; (repeat' split at h) <;> subst h <;> simp)

@[simp] theorem State.enqueueGroup_spares (s a b) : Spares (State.enqueueGroup s a b) s := by
  generalize h : (State.enqueueGroup s a b) = t; unfold State.enqueueGroup at h; (repeat' split at h) <;> subst h <;> simp

@[simp] theorem State.record_spares (s a b c d) : Spares (State.record s a b c d) s := by
  first
  | (simp [State.record]; done)
  | (generalize h : (State.record s a b c d) = t; unfold State.record at h; (repeat' split at h) <;> subst h <;> simp)

@[simp] theorem State.dropCause_spares (s a b c) : Spares (State.dropCause s a b c) s := by
  first
  | (simp [State.dropCause]; done)
  | (generalize h : (State.dropCause s a b c) = t; unfold State.dropCause at h; (repeat' split at h) <;> subst h <;> simp)

@[simp] theorem State.setPending_spares (s n) : Spares (State.setPending s n) s := by
  first
  | (simp [State.setPending]; done)
  | (generalize h : (State.setPending s n) = t; unfold State.setPending at h; (repeat' split at h) <;> subst h <;> simp)

@[simp] theorem State.signal_spares (s n) : Spares (State.signal s n) s := by
  first
  | (simp [State.signal]; done)
  | (generalize h : (State.signal s n) = t; unfold State.signal at h; (repeat' split at h) <;> subst h <;> simp)

@[simp] theorem State.creditsZero_spares (s) : Spares (State.creditsZero s) s := by
  first
  | (simp [State.creditsZero]; done)
  | (generalize h : (State.creditsZero s) = t; unfold State.creditsZero at h; (repeat' split at h) <;> subst h <;> simp)

@[simp] theorem State.creditsReady_spares (s) : Spares (State.creditsReady s) s := by
  first
  | (simp [State.creditsReady]; done)
  | (generalize h : (State.creditsReady s) = t; unfold State.creditsReady at h; (repeat' split at h) <;> subst h <;> simp)

@[simp] theorem State.dropFit_spares (s a) : Spares (State.dropFit s a) s := by
  first
  | (simp [State.dropFit]; done)
  | (generalize h : (State.dropFit s a) = t; unfold State.dropFit at h; (repeat' split at h) <;> subst h <;> simp)

@[simp] theorem State.tallyClear_spares (s) : Spares (State.tallyClear s) s := by
  first
  | (simp [State.tallyClear]; done)
  | (generalize h : (State.tallyClear s) = t; unfold State.tallyClear at h; (repeat' split at h) <;> subst h <;> simp)

@[simp] theorem State.unlearn_spares (s a b) : Spares (State.unlearn s a b) s := by
  first
  | (simp [State.unlearn]; done)
  | (generalize h : (State.unlearn s a b) = t; unfold State.unlearn at h; (repeat' split at h) <;> subst h <;> simp)

@[simp] theorem State.unlearnAll_spares (s a) : Spares (State.unlearnAll s a) s := by
  first
  | (simp [State.unlearnAll]; done)
  | (generalize h : (State.unlearnAll s a) = t; unfold State.unlearnAll at h; (repeat' split at h) <;> subst h <;> simp)

@[simp] theorem State.lanesDown_spares (s) : Spares (State.lanesDown s) s := by
  first
  | (simp [State.lanesDown]; done)
  | (generalize h : (State.lanesDown s) = t; unfold State.lanesDown at h; (repeat' split at h) <;> subst h <;> simp)

@[simp] theorem State.finishEvent_spares (s d) : Spares (State.finishEvent s d) s := by
  first
  | (simp [State.finishEvent]; done)
  | (generalize h : (State.finishEvent s d) = t; unfold State.finishEvent at h; (repeat' split at h) <;> subst h <;> simp)

@[simp] theorem State.droopLoss_spares (s d) : Spares (State.droopLoss s d) s := by
  first
  | (simp [State.droopLoss]; done)
  | (generalize h : (State.droopLoss s d) = t; unfold State.droopLoss at h; (repeat' split at h) <;> subst h <;> simp)

@[simp] theorem State.isolateDomain_spares (s d) : Spares (State.isolateDomain s d) s := by
  first
  | (simp [State.isolateDomain]; done)
  | (generalize h : (State.isolateDomain s d) = t; unfold State.isolateDomain at h; (repeat' split at h) <;> subst h <;> simp)

@[simp] theorem State.endInjection_spares (s a) : Spares (State.endInjection s a) s := by
  first
  | (simp [State.endInjection]; done)
  | (generalize h : (State.endInjection s a) = t; unfold State.endInjection at h; (repeat' split at h) <;> subst h <;> simp)

@[simp] theorem State.dropEntry_spares (s a) : Spares (State.dropEntry s a) s := by
  first
  | (simp [State.dropEntry]; done)
  | (generalize h : (State.dropEntry s a) = t; unfold State.dropEntry at h; (repeat' split at h) <;> subst h <;> simp)

@[simp] theorem State.fenceCount_spares (s a b c) : Spares (State.fenceCount s a b c) s := by
  first
  | (simp [State.fenceCount]; done)
  | (generalize h : (State.fenceCount s a b c) = t; unfold State.fenceCount at h; (repeat' split at h) <;> subst h <;> simp)

@[simp] theorem State.lowerStretch_spares (s d) : Spares (State.lowerStretch s d) s := by
  first
  | (simp [State.lowerStretch]; done)
  | (generalize h : (State.lowerStretch s d) = t; unfold State.lowerStretch at h; (repeat' split at h) <;> subst h <;> simp)

@[simp] theorem State.releaseSafe_spares (s e) : Spares (State.releaseSafe s e) s := by
  first
  | (simp [State.releaseSafe]; done)
  | (generalize h : (State.releaseSafe s e) = t; unfold State.releaseSafe at h; (repeat' split at h) <;> subst h <;> simp)

@[simp] theorem State.request_spares (s w) : Spares (State.request s w) s := by
  first
  | (simp [State.request]; done)
  | (generalize h : (State.request s w) = t; unfold State.request at h; (repeat' split at h) <;> subst h <;> simp)

@[simp] theorem State.unassay_spares (s k e a b) : Spares (State.unassay s k e a b) s := by
  first
  | (simp [State.unassay]; done)
  | (generalize h : (State.unassay s k e a b) = t; unfold State.unassay at h; (repeat' split at h) <;> subst h <;> simp)

@[simp] theorem State.abandonAssays_spares (s) : Spares (State.abandonAssays s).1 s := by
  first
  | (simp [State.abandonAssays]; done)
  | (generalize h : (State.abandonAssays s) = t; unfold State.abandonAssays at h; (repeat' split at h) <;> subst h <;> simp)

@[simp] theorem State.stopRun_spares (s) : Spares (State.stopRun s) s := by
  first
  | (simp [State.stopRun]; done)
  | (generalize h : (State.stopRun s) = t; unfold State.stopRun at h; (repeat' split at h) <;> subst h <;> simp)

@[simp] theorem State.abortSweep_spares (s) : Spares (State.abortSweep s) s := by
  first
  | (simp [State.abortSweep]; done)
  | (generalize h : (State.abortSweep s) = t; unfold State.abortSweep at h; (repeat' split at h) <;> subst h <;> simp)

@[simp] theorem State.abortService_spares (s) : Spares (State.abortService s) s := by
  first
  | (simp [State.abortService]; done)
  | (generalize h : (State.abortService s) = t; unfold State.abortService at h; (repeat' split at h) <;> subst h <;> simp)

@[simp] theorem State.avsZero_spares (s) : Spares (State.avsZero s) s := by
  first
  | (simp [State.avsZero]; done)
  | (generalize h : (State.avsZero s) = t; unfold State.avsZero at h; (repeat' split at h) <;> subst h <;> simp)

@[simp] theorem State.railOff_spares (s r) : Spares (State.railOff s r) s := by
  first
  | (simp [State.railOff]; done)
  | (generalize h : (State.railOff s r) = t; unfold State.railOff at h; (repeat' split at h) <;> subst h <;> simp)

@[simp] theorem State.serviceFault_spares (s e) : Spares (State.serviceFault s e) s := by
  first
  | (simp [State.serviceFault]; done)
  | (generalize h : (State.serviceFault s e) = t; unfold State.serviceFault at h; (repeat' split at h) <;> subst h <;> simp)

@[simp] theorem State.queueEvent_spares (s a b c) : Spares (State.queueEvent s a b c).1 s := by
  first
  | (simp [State.queueEvent]; done)
  | (generalize h : (State.queueEvent s a b c) = t; unfold State.queueEvent at h; (repeat' split at h) <;> subst h <;> simp)

@[simp] theorem State.arrive_spares (s a b c d e) : Spares (State.arrive s a b c d e).1 s := by
  first
  | (simp [State.arrive]; done)
  | (generalize h : (State.arrive s a b c d e) = t; unfold State.arrive at h; (repeat' split at h) <;> subst h <;> simp)

@[simp] theorem State.dEvents_spares (s a b) : Spares (State.dEvents s a b).1 s := by
  first
  | (simp [State.dEvents]; done)
  | (generalize h : (State.dEvents s a b) = t; unfold State.dEvents at h; (repeat' split at h) <;> subst h <;> simp)

@[simp] theorem State.mark_spares (s a b) : Spares (State.mark s a b) s := by
  first
  | (simp [State.mark]; done)
  | (generalize h : (State.mark s a b) = t; unfold State.mark at h; (repeat' split at h) <;> subst h <;> simp)

@[simp] theorem State.enterReady_spares (s) : Spares (State.enterReady s).1 s := by
  first
  | (simp [State.enterReady]; done)
  | (generalize h : (State.enterReady s) = t; unfold State.enterReady at h; (repeat' split at h) <;> subst h <;> simp)

@[simp] theorem State.abortShed_spares (s r) : Spares (State.abortShed s r) s := by
  first
  | (simp [State.abortShed]; done)
  | (generalize h : (State.abortShed s r) = t; unfold State.abortShed at h; (repeat' split at h) <;> subst h <;> simp)

@[simp] theorem State.abortSheds_spares (s) : Spares (State.abortSheds s) s := by
  first
  | (simp [State.abortSheds]; done)
  | (generalize h : (State.abortSheds s) = t; unfold State.abortSheds at h; (repeat' split at h) <;> subst h <;> simp)

@[simp] theorem State.enterSafe_spares (s a) : Spares (State.enterSafe s a) s := by
  first
  | (simp [State.enterSafe]; done)
  | (generalize h : (State.enterSafe s a) = t; unfold State.enterSafe at h; (repeat' split at h) <;> subst h <;> simp)

@[simp] theorem State.enterTrip_spares (s a) : Spares (State.enterTrip s a).1 s := by
  first
  | (simp [State.enterTrip]; done)
  | (generalize h : (State.enterTrip s a) = t; unfold State.enterTrip at h; (repeat' split at h) <;> subst h <;> simp)

@[simp] theorem State.enterRun_spares (s a) : Spares (State.enterRun s a) s := by
  first
  | (simp [State.enterRun]; done)
  | (generalize h : (State.enterRun s a) = t; unfold State.enterRun at h; (repeat' split at h) <;> subst h <;> simp)

@[simp] theorem State.transit_spares (s a b) : Spares (State.transit s a b).1 s := by
  first
  | (simp [State.transit]; done)
  | (generalize h : (State.transit s a b) = t; unfold State.transit at h; (repeat' split at h) <;> subst h <;> simp)

@[simp] theorem State.doWork_spares (s w) : Spares (State.doWork s w).1 s := by
  first
  | (simp [State.doWork]; done)
  | (generalize h : (State.doWork s w) = t; unfold State.doWork at h; (repeat' split at h) <;> subst h <;> simp)

@[simp] theorem State.work_spares (a b s) : Spares (State.work a b s) s := by
  induction a generalizing b s with
  | zero => simp [State.work]
  | succ f ih => unfold State.work; split; simp; simp [ih]

@[simp] theorem State.latchPin_spares (s ts) : Spares (State.latchPin s ts).1 s := by
  generalize h : State.latchPin s ts = t
  unfold State.latchPin at h
  (repeat' split at h) <;> subst h <;> simp

theorem foldPins_spares (f : State → Nat → State × List Work) (hf : ∀ s n, Spares (f s n).1 s) (l : List Nat)
    (q : State × List Work) :
    Spares (l.foldl (fun (q : State × List Work) n => ((f q.1 n).1, q.2 ++ (f q.1 n).2)) q).1 q.1 := by
  induction l generalizing q with
  | nil => simp
  | cons n l ih =>
    have a := ih ((f q.1 n).1, q.2 ++ (f q.1 n).2)
    have b := hf q.1 n
    simp only [Spares] at a b
    simp only [List.foldl_cons, Spares, a, b, and_self]

@[simp] theorem State.latchAll_spares (s ts) : Spares (State.latchAll s ts) s := by
  have h := foldPins_spares (fun s n => s.latchPin (ts.filter (·.pin == n))) (fun s n => State.latchPin_spares s _)
    (List.range 64) (s, [])
  simp only [Spares] at h
  simp only [State.latchAll, Spares, State.work_spares, h, and_self]

@[simp] theorem State.raise_spares (s ts) : Spares (State.raise s ts) s := by
  first
  | (simp [State.raise]; done)
  | (generalize h : (State.raise s ts) = t; unfold State.raise at h; (repeat' split at h) <;> subst h <;> simp)

@[simp] theorem State.trigger_spares (s a b c d e) : Spares (State.trigger s a b c d e) s := by
  first
  | (simp [State.trigger]; done)
  | (generalize h : (State.trigger s a b c d e) = t; unfold State.trigger at h; (repeat' split at h) <;> subst h <;> simp)

@[simp] theorem State.dEventsNow_spares (s a b) : Spares (State.dEventsNow s a b) s := by
  first
  | (simp [State.dEventsNow]; done)
  | (generalize h : (State.dEventsNow s a b) = t; unfold State.dEventsNow at h; (repeat' split at h) <;> subst h <;> simp)

@[simp] theorem State.dEvent_spares (s a) : Spares (State.dEvent s a) s := by
  first
  | (simp [State.dEvent]; done)
  | (generalize h : (State.dEvent s a) = t; unfold State.dEvent at h; (repeat' split at h) <;> subst h <;> simp)

@[simp] theorem State.enter_spares (s a b) : Spares (State.enter s a b) s := by
  first
  | (simp [State.enter]; done)
  | (generalize h : (State.enter s a b) = t; unfold State.enter at h; (repeat' split at h) <;> subst h <;> simp)

@[simp] theorem State.raiseCause_spares (s a b c d e) : Spares (State.raiseCause s a b c d e) s := by
  first
  | (simp [State.raiseCause]; done)
  | (generalize h : (State.raiseCause s a b c d e) = t; unfold State.raiseCause at h; (repeat' split at h) <;> subst h <;> simp)

@[simp] theorem State.followCause_spares (s a b c d e f) : Spares (State.followCause s a b c d e f) s := by
  first
  | (simp [State.followCause]; done)
  | (generalize h : (State.followCause s a b c d e f) = t; unfold State.followCause at h; (repeat' split at h) <;> subst h <;> simp)

@[simp] theorem State.transient_spares (s a) : Spares (State.transient s a) s := by
  first
  | (simp [State.transient]; done)
  | (generalize h : (State.transient s a) = t; unfold State.transient at h; (repeat' split at h) <;> subst h <;> simp)

@[simp] theorem State.triggerAll_spares (s a b c d) : Spares (State.triggerAll s a b c d) s := by
  first
  | (simp [State.triggerAll]; done)
  | (generalize h : (State.triggerAll s a b c d) = t; unfold State.triggerAll at h; (repeat' split at h) <;> subst h <;> simp)

@[simp] theorem State.acknowledge_spares (s a) : Spares (State.acknowledge s a) s := by
  first
  | (simp [State.acknowledge]; done)
  | (generalize h : (State.acknowledge s a) = t; unfold State.acknowledge at h; (repeat' split at h) <;> subst h <;> simp)

@[simp] theorem State.acknowledgeWord_spares (s a) : Spares (State.acknowledgeWord s a) s := by
  first
  | (simp [State.acknowledgeWord]; done)
  | (generalize h : (State.acknowledgeWord s a) = t; unfold State.acknowledgeWord at h; (repeat' split at h) <;> subst h <;> simp)

/-- What a record, a signal and the marks of a transition leave alone beside what `Spares` names. -/
@[simp] abbrev Marks (t s : State) : Prop :=
  t.lanes = s.lanes ∧ t.rails = s.rails ∧ t.domains = s.domains ∧ t.droops = s.droops ∧ t.taps = s.taps ∧ t.arrays
    = s.arrays ∧ t.rings = s.rings ∧ t.shapers = s.shapers ∧ t.injector = s.injector ∧ t.assayer = s.assayer ∧
    t.pins = s.pins ∧ t.events = s.events ∧ t.gov.tripCause = s.gov.tripCause ∧ t.gov.restarts = s.gov.restarts ∧
    t.gov.govRstLow = s.gov.govRstLow ∧ t.gov.strap = s.gov.strap ∧ t.gov.booting = s.gov.booting ∧ t.gov.phase =
    s.gov.phase ∧ t.gov.cmdStatus = s.gov.cmdStatus ∧ t.gov.autoTried = s.gov.autoTried ∧ t.recorder.daybook =
    s.recorder.daybook ∧ t.recorder.vitrine = s.recorder.vitrine ∧ t.test.fuses = s.test.fuses ∧ t.test.fused =
    s.test.fused ∧ t.tally.slots = s.tally.slots ∧ t.tally.queue = s.tally.queue ∧ t.tally.sigs = s.tally.sigs

@[simp] theorem itez_lanes (c : Prop) [Decidable c] (a b : State) :
    (if c then a else b).lanes = if c then a.lanes else b.lanes := by split <;> rfl

@[simp] theorem eachz_lanes {α : Type} (l : List α) (f : State → α → State) (s : State)
    (h : ∀ s x, (f s x).lanes = s.lanes) : (each l f s).lanes = s.lanes :=
  each_keeps (fun s => s.lanes) h l s

@[simp] theorem itez_rails (c : Prop) [Decidable c] (a b : State) :
    (if c then a else b).rails = if c then a.rails else b.rails := by split <;> rfl

@[simp] theorem eachz_rails {α : Type} (l : List α) (f : State → α → State) (s : State)
    (h : ∀ s x, (f s x).rails = s.rails) : (each l f s).rails = s.rails :=
  each_keeps (fun s => s.rails) h l s

@[simp] theorem itez_domains (c : Prop) [Decidable c] (a b : State) :
    (if c then a else b).domains = if c then a.domains else b.domains := by split <;> rfl

@[simp] theorem eachz_domains {α : Type} (l : List α) (f : State → α → State) (s : State)
    (h : ∀ s x, (f s x).domains = s.domains) : (each l f s).domains = s.domains :=
  each_keeps (fun s => s.domains) h l s

@[simp] theorem itez_droops (c : Prop) [Decidable c] (a b : State) :
    (if c then a else b).droops = if c then a.droops else b.droops := by split <;> rfl

@[simp] theorem eachz_droops {α : Type} (l : List α) (f : State → α → State) (s : State)
    (h : ∀ s x, (f s x).droops = s.droops) : (each l f s).droops = s.droops :=
  each_keeps (fun s => s.droops) h l s

@[simp] theorem itez_taps (c : Prop) [Decidable c] (a b : State) :
    (if c then a else b).taps = if c then a.taps else b.taps := by split <;> rfl

@[simp] theorem eachz_taps {α : Type} (l : List α) (f : State → α → State) (s : State)
    (h : ∀ s x, (f s x).taps = s.taps) : (each l f s).taps = s.taps :=
  each_keeps (fun s => s.taps) h l s

@[simp] theorem itez_arrays (c : Prop) [Decidable c] (a b : State) :
    (if c then a else b).arrays = if c then a.arrays else b.arrays := by split <;> rfl

@[simp] theorem eachz_arrays {α : Type} (l : List α) (f : State → α → State) (s : State)
    (h : ∀ s x, (f s x).arrays = s.arrays) : (each l f s).arrays = s.arrays :=
  each_keeps (fun s => s.arrays) h l s

@[simp] theorem itez_rings (c : Prop) [Decidable c] (a b : State) :
    (if c then a else b).rings = if c then a.rings else b.rings := by split <;> rfl

@[simp] theorem eachz_rings {α : Type} (l : List α) (f : State → α → State) (s : State)
    (h : ∀ s x, (f s x).rings = s.rings) : (each l f s).rings = s.rings :=
  each_keeps (fun s => s.rings) h l s

@[simp] theorem itez_shapers (c : Prop) [Decidable c] (a b : State) :
    (if c then a else b).shapers = if c then a.shapers else b.shapers := by split <;> rfl

@[simp] theorem eachz_shapers {α : Type} (l : List α) (f : State → α → State) (s : State)
    (h : ∀ s x, (f s x).shapers = s.shapers) : (each l f s).shapers = s.shapers :=
  each_keeps (fun s => s.shapers) h l s

@[simp] theorem itez_injector (c : Prop) [Decidable c] (a b : State) :
    (if c then a else b).injector = if c then a.injector else b.injector := by split <;> rfl

@[simp] theorem eachz_injector {α : Type} (l : List α) (f : State → α → State) (s : State)
    (h : ∀ s x, (f s x).injector = s.injector) : (each l f s).injector = s.injector :=
  each_keeps (fun s => s.injector) h l s

@[simp] theorem itez_assayer (c : Prop) [Decidable c] (a b : State) :
    (if c then a else b).assayer = if c then a.assayer else b.assayer := by split <;> rfl

@[simp] theorem eachz_assayer {α : Type} (l : List α) (f : State → α → State) (s : State)
    (h : ∀ s x, (f s x).assayer = s.assayer) : (each l f s).assayer = s.assayer :=
  each_keeps (fun s => s.assayer) h l s

@[simp] theorem itez_pins (c : Prop) [Decidable c] (a b : State) :
    (if c then a else b).pins = if c then a.pins else b.pins := by split <;> rfl

@[simp] theorem eachz_pins {α : Type} (l : List α) (f : State → α → State) (s : State)
    (h : ∀ s x, (f s x).pins = s.pins) : (each l f s).pins = s.pins :=
  each_keeps (fun s => s.pins) h l s

@[simp] theorem itez_events (c : Prop) [Decidable c] (a b : State) :
    (if c then a else b).events = if c then a.events else b.events := by split <;> rfl

@[simp] theorem eachz_events {α : Type} (l : List α) (f : State → α → State) (s : State)
    (h : ∀ s x, (f s x).events = s.events) : (each l f s).events = s.events :=
  each_keeps (fun s => s.events) h l s

@[simp] theorem itez_gov_tripCause (c : Prop) [Decidable c] (a b : State) :
    (if c then a else b).gov.tripCause = if c then a.gov.tripCause else b.gov.tripCause := by split <;> rfl

@[simp] theorem eachz_gov_tripCause {α : Type} (l : List α) (f : State → α → State) (s : State)
    (h : ∀ s x, (f s x).gov.tripCause = s.gov.tripCause) : (each l f s).gov.tripCause = s.gov.tripCause :=
  each_keeps (fun s => s.gov.tripCause) h l s

@[simp] theorem itez_gov_restarts (c : Prop) [Decidable c] (a b : State) :
    (if c then a else b).gov.restarts = if c then a.gov.restarts else b.gov.restarts := by split <;> rfl

@[simp] theorem eachz_gov_restarts {α : Type} (l : List α) (f : State → α → State) (s : State)
    (h : ∀ s x, (f s x).gov.restarts = s.gov.restarts) : (each l f s).gov.restarts = s.gov.restarts :=
  each_keeps (fun s => s.gov.restarts) h l s

@[simp] theorem itez_gov_govRstLow (c : Prop) [Decidable c] (a b : State) :
    (if c then a else b).gov.govRstLow = if c then a.gov.govRstLow else b.gov.govRstLow := by split <;> rfl

@[simp] theorem eachz_gov_govRstLow {α : Type} (l : List α) (f : State → α → State) (s : State)
    (h : ∀ s x, (f s x).gov.govRstLow = s.gov.govRstLow) : (each l f s).gov.govRstLow = s.gov.govRstLow :=
  each_keeps (fun s => s.gov.govRstLow) h l s

@[simp] theorem itez_gov_strap (c : Prop) [Decidable c] (a b : State) :
    (if c then a else b).gov.strap = if c then a.gov.strap else b.gov.strap := by split <;> rfl

@[simp] theorem eachz_gov_strap {α : Type} (l : List α) (f : State → α → State) (s : State)
    (h : ∀ s x, (f s x).gov.strap = s.gov.strap) : (each l f s).gov.strap = s.gov.strap :=
  each_keeps (fun s => s.gov.strap) h l s

@[simp] theorem itez_gov_booting (c : Prop) [Decidable c] (a b : State) :
    (if c then a else b).gov.booting = if c then a.gov.booting else b.gov.booting := by split <;> rfl

@[simp] theorem eachz_gov_booting {α : Type} (l : List α) (f : State → α → State) (s : State)
    (h : ∀ s x, (f s x).gov.booting = s.gov.booting) : (each l f s).gov.booting = s.gov.booting :=
  each_keeps (fun s => s.gov.booting) h l s

@[simp] theorem itez_gov_phase (c : Prop) [Decidable c] (a b : State) :
    (if c then a else b).gov.phase = if c then a.gov.phase else b.gov.phase := by split <;> rfl

@[simp] theorem eachz_gov_phase {α : Type} (l : List α) (f : State → α → State) (s : State)
    (h : ∀ s x, (f s x).gov.phase = s.gov.phase) : (each l f s).gov.phase = s.gov.phase :=
  each_keeps (fun s => s.gov.phase) h l s

@[simp] theorem itez_gov_cmdStatus (c : Prop) [Decidable c] (a b : State) :
    (if c then a else b).gov.cmdStatus = if c then a.gov.cmdStatus else b.gov.cmdStatus := by split <;> rfl

@[simp] theorem eachz_gov_cmdStatus {α : Type} (l : List α) (f : State → α → State) (s : State)
    (h : ∀ s x, (f s x).gov.cmdStatus = s.gov.cmdStatus) : (each l f s).gov.cmdStatus = s.gov.cmdStatus :=
  each_keeps (fun s => s.gov.cmdStatus) h l s

@[simp] theorem itez_gov_autoTried (c : Prop) [Decidable c] (a b : State) :
    (if c then a else b).gov.autoTried = if c then a.gov.autoTried else b.gov.autoTried := by split <;> rfl

@[simp] theorem eachz_gov_autoTried {α : Type} (l : List α) (f : State → α → State) (s : State)
    (h : ∀ s x, (f s x).gov.autoTried = s.gov.autoTried) : (each l f s).gov.autoTried = s.gov.autoTried :=
  each_keeps (fun s => s.gov.autoTried) h l s

@[simp] theorem itez_recorder_daybook (c : Prop) [Decidable c] (a b : State) :
    (if c then a else b).recorder.daybook = if c then a.recorder.daybook else b.recorder.daybook := by split <;> rfl

@[simp] theorem eachz_recorder_daybook {α : Type} (l : List α) (f : State → α → State) (s : State)
    (h : ∀ s x, (f s x).recorder.daybook = s.recorder.daybook) : (each l f s).recorder.daybook = s.recorder.daybook :=
  each_keeps (fun s => s.recorder.daybook) h l s

@[simp] theorem itez_recorder_vitrine (c : Prop) [Decidable c] (a b : State) :
    (if c then a else b).recorder.vitrine = if c then a.recorder.vitrine else b.recorder.vitrine := by split <;> rfl

@[simp] theorem eachz_recorder_vitrine {α : Type} (l : List α) (f : State → α → State) (s : State)
    (h : ∀ s x, (f s x).recorder.vitrine = s.recorder.vitrine) : (each l f s).recorder.vitrine = s.recorder.vitrine :=
  each_keeps (fun s => s.recorder.vitrine) h l s

@[simp] theorem itez_test_fuses (c : Prop) [Decidable c] (a b : State) :
    (if c then a else b).test.fuses = if c then a.test.fuses else b.test.fuses := by split <;> rfl

@[simp] theorem eachz_test_fuses {α : Type} (l : List α) (f : State → α → State) (s : State)
    (h : ∀ s x, (f s x).test.fuses = s.test.fuses) : (each l f s).test.fuses = s.test.fuses :=
  each_keeps (fun s => s.test.fuses) h l s

@[simp] theorem itez_test_fused (c : Prop) [Decidable c] (a b : State) :
    (if c then a else b).test.fused = if c then a.test.fused else b.test.fused := by split <;> rfl

@[simp] theorem eachz_test_fused {α : Type} (l : List α) (f : State → α → State) (s : State)
    (h : ∀ s x, (f s x).test.fused = s.test.fused) : (each l f s).test.fused = s.test.fused :=
  each_keeps (fun s => s.test.fused) h l s

@[simp] theorem itez_tally_slots (c : Prop) [Decidable c] (a b : State) :
    (if c then a else b).tally.slots = if c then a.tally.slots else b.tally.slots := by split <;> rfl

@[simp] theorem eachz_tally_slots {α : Type} (l : List α) (f : State → α → State) (s : State)
    (h : ∀ s x, (f s x).tally.slots = s.tally.slots) : (each l f s).tally.slots = s.tally.slots :=
  each_keeps (fun s => s.tally.slots) h l s

@[simp] theorem itez_tally_queue (c : Prop) [Decidable c] (a b : State) :
    (if c then a else b).tally.queue = if c then a.tally.queue else b.tally.queue := by split <;> rfl

@[simp] theorem eachz_tally_queue {α : Type} (l : List α) (f : State → α → State) (s : State)
    (h : ∀ s x, (f s x).tally.queue = s.tally.queue) : (each l f s).tally.queue = s.tally.queue :=
  each_keeps (fun s => s.tally.queue) h l s

@[simp] theorem itez_tally_sigs (c : Prop) [Decidable c] (a b : State) :
    (if c then a else b).tally.sigs = if c then a.tally.sigs else b.tally.sigs := by split <;> rfl

@[simp] theorem eachz_tally_sigs {α : Type} (l : List α) (f : State → α → State) (s : State)
    (h : ∀ s x, (f s x).tally.sigs = s.tally.sigs) : (each l f s).tally.sigs = s.tally.sigs :=
  each_keeps (fun s => s.tally.sigs) h l s

@[simp] theorem State.setObj_marks (s i j v) : Marks (State.setObj s i j v) s := by
  first
  | (simp [State.setObj]; done)
  | (generalize h : (State.setObj s i j v) = t; unfold State.setObj at h; (repeat' split at h) <;> subst h <;> simp)

@[simp] theorem State.bumpBy_marks (s i j n) : Marks (State.bumpBy s i j n) s := by
  first
  | (simp [State.bumpBy]; done)
  | (generalize h : (State.bumpBy s i j n) = t; unfold State.bumpBy at h; (repeat' split at h) <;> subst h <;> simp)

@[simp] theorem State.bump_marks (s i j) : Marks (State.bump s i j) s := by
  first
  | (simp [State.bump]; done)
  | (generalize h : (State.bump s i j) = t; unfold State.bump at h; (repeat' split at h) <;> subst h <;> simp)

@[simp] theorem State.bump64_marks (s i j n) : Marks (State.bump64 s i j n) s := by
  first
  | (simp [State.bump64]; done)
  | (generalize h : (State.bump64 s i j n) = t; unfold State.bump64 at h; (repeat' split at h) <;> subst h <;> simp)

@[simp] theorem State.enqueueGroup_marks (s a b) : Marks (State.enqueueGroup s a b) s := by
  first
  | (simp [State.enqueueGroup]; done)
  | (generalize h : (State.enqueueGroup s a b) = t; unfold State.enqueueGroup at h; (repeat' split at h) <;> subst h <;> simp)

@[simp] theorem State.record_marks (s a b c d) : Marks (State.record s a b c d) s := by
  first
  | (simp [State.record]; done)
  | (generalize h : (State.record s a b c d) = t; unfold State.record at h; (repeat' split at h) <;> subst h <;> simp)

@[simp] theorem State.setPending_marks (s n) : Marks (State.setPending s n) s := by
  first
  | (simp [State.setPending]; done)
  | (generalize h : (State.setPending s n) = t; unfold State.setPending at h; (repeat' split at h) <;> subst h <;> simp)

@[simp] theorem State.signal_marks (s n) : Marks (State.signal s n) s := by
  first
  | (simp [State.signal]; done)
  | (generalize h : (State.signal s n) = t; unfold State.signal at h; (repeat' split at h) <;> subst h <;> simp)

@[simp] theorem State.unlearn_marks (s a b) : Marks (State.unlearn s a b) s := by
  first
  | (simp [State.unlearn]; done)
  | (generalize h : (State.unlearn s a b) = t; unfold State.unlearn at h; (repeat' split at h) <;> subst h <;> simp)

@[simp] theorem State.unlearnAll_marks (s a) : Marks (State.unlearnAll s a) s := by
  first
  | (simp [State.unlearnAll]; done)
  | (generalize h : (State.unlearnAll s a) = t; unfold State.unlearnAll at h; (repeat' split at h) <;> subst h <;> simp)

@[simp] theorem State.mark_marks (s a b) : Marks (State.mark s a b) s := by
  first
  | (simp [State.mark]; done)
  | (generalize h : (State.mark s a b) = t; unfold State.mark at h; (repeat' split at h) <;> subst h <;> simp)

end Sys2Proof.Machine
end

