-- ==== Sys2Proof/Laws/Faults.lean ====
section
/-! SUPPORT. What a trigger of a pin does: objects through an update of the store, and the trigger of a pin that stands calm,
which latches it and only notes. -/

namespace Sys2Proof.Machine

/-! ### Objects through a write of the store -/

theorem thas_tset {α : Type} (t : Tbl α) (k j : Nat) (v : α) (h : j ≠ k) : thas (tset t k v) j = thas t j := by
  induction t with
  | nil => simp only [tset, thas, List.any_cons, List.any_nil, Bool.or_false, beq_eq_false_iff_ne]; omega
  | cons p rest ih =>
    obtain ⟨a, w⟩ := p
    unfold tset; split
    · next e => subst e; simp only [thas, List.any_cons]
    · split
      · simp [thas, show ¬ k = j by omega]
      · simp only [thas, List.any_cons] at *; rw [ih]

theorem stored_tset (od : Tbl Nat) (i j a b v : Nat) (h : okey i j ≠ okey a b) :
    stored (tset od (okey a b) v) i j = stored od i j := by
  simp only [stored, thas_tset _ _ _ _ h, tget_tset_ne _ _ _ h]

/-- From 0x5000 on no default depends on another object. -/
theorem specialDefault_high (cfg : Config) (od od' : Tbl Nat) (i j : Nat) (h : 0x5000 ≤ i) :
    specialDefault cfg od' i j = specialDefault cfg od i j := by
  have a : (decide (0x3010 ≤ i) && decide (i ≤ 0x304F) && decide (6 ≤ j)) = false := by simp; omega
  have b : (decide (0x3410 ≤ i) && decide (i ≤ 0x342F) && decide (j = 3)) = false := by simp; omega
  have c : (decide (0x4100 ≤ i) && decide (i ≤ 0x419F)) = false := by simp; omega
  simp only [specialDefault, a, b, c, Bool.false_eq_true, if_false]

theorem obj_setObj_high (s : State) (i j a b v : Nat) (h : 0x5000 ≤ i) (hk : okey i j ≠ okey a b) :
    (s.setObj a b v).obj i j = s.obj i j := by
  unfold State.obj State.setObj
  rw [stored_tset _ _ _ _ _ _ hk, specialDefault_high s.cfg s.od _ i j h]

/-! ### What only notes -/

theorem Noted.refl (s : State) : Noted s s := rfl

theorem Noted.trans {a b c : State} (h : Noted a b) (g : Noted b c) : Noted a c := by
  unfold Noted at *; rw [h, g]

theorem State.enqueueGroup_noted (s : State) (a b) : Noted (s.enqueueGroup a b) s := by
  unfold State.enqueueGroup; dsimp only; split <;> rfl

theorem State.signal_noted (s : State) (n : Nat) : Noted (s.signal n) s := by
  unfold State.signal; split
  · rfl
  · split
    · split <;> rfl
    · refine Noted.trans ?_ (show Noted (s.bump64 0x7480 1 1) s from rfl)
      unfold State.setPending; split <;> rfl

/-- A latch below SAFE level: the pin is latched at its programmed level with the scope of the trigger, only what notes
changes, and nothing more is asked for. -/
theorem State.arrive_calm (s : State) (n kind idx cause pa : Nat) (hl : (s.pin n).latched = false)
    (hp : s.obj (0x5010 + n) 2 < 3) (he : s.events.length < 64) :
    Noted (s.arrive n kind idx cause pa).1 s ∧ (s.arrive n kind idx cause pa).2 = [] ∧
      (s.arrive n kind idx cause pa).1.pin n =
        { s.pin n with latched := true, eff := s.obj (0x5010 + n) 2, scope := maskOf (s.scopeRails kind idx) } := by
  have h3 : ¬ 3 ≤ s.obj (0x5010 + n) 2 := by omega
  have h4 : ¬ 4 ≤ s.obj (0x5010 + n) 2 := by omega
  unfold State.arrive
  extract_lets p mask prog eff seq vit code s1 s2 s3 s4 q
  have hf : p.latched = false := hl
  have ef : eff = s.obj (0x5010 + n) 2 := by simp only [eff, hf, Bool.false_eq_true, if_false]; rfl
  have e1 : Noted s1 s := rfl
  have e2 : Noted s2 s1 := by simp only [s2, hf]; rfl
  have e3 : Noted s3 s2 := State.enqueueGroup_noted _ _ _
  have e4 : Noted s4 s3 := by
    show Noted (if 1 ≤ eff then _ else _) _
    split
    · exact State.signal_noted _ _
    · rfl
  have ev : s4.events = s.events := by
    simp only [s4, s3, s2, s1, itez_events, State.signal_marks, State.record_marks, State.bump_marks,
      State.setPin, ite_self]
  have e5 : Noted q.1 s4 ∧ q.2 = [] ∧ q.1.pins = s4.pins := by
    show Noted (if 1 ≤ eff then _ else _ : State × List Work).1 _ ∧ (if 1 ≤ eff then _ else _ : State × List Work).2 = _ ∧
      (if 1 ≤ eff then _ else _ : State × List Work).1.pins = _
    split
    · unfold State.queueEvent
      simp only [ev, show ¬ 64 ≤ s.events.length by omega, decide_false, Bool.false_eq_true, if_false, and_true]
      rfl
    · exact ⟨rfl, rfl, rfl⟩
  have hq : q.1.serviceFault eff = q.1 := by
    unfold State.serviceFault
    rw [if_neg]
    simp only [Bool.and_eq_true, decide_eq_true_eq, ef]
    intro h; exact absurd h.1.1 h3
  have hw : s4.levelWork n eff = [] := by
    unfold State.levelWork
    rw [ef, if_neg h4, if_neg h3]
  have hn : Noted q.1 s := e5.1.trans (e4.trans (e3.trans (e2.trans e1)))
  have p1 : s1.pins = tset s.pins n { p with latched := true, eff := eff, scope := mask } := by
    simp only [s1, hf]; rfl
  have p4 : s4.pins = s1.pins := by
    simp only [s4, s3, s2, itez_pins, State.signal_marks, State.record_marks, State.bump_marks, ite_self]
  refine ⟨by rw [hq]; exact hn, by rw [e5.2.1, hw]; rfl, ?_⟩
  rw [hq]
  show tget q.1.pins n {} = _
  rw [e5.2.2, p4, p1, tget_tset_same, ef]

/-- The trigger of a calm pin (12 R294, R296). -/
theorem State.trigger_calm (s : State) (n kind idx cause pa : Nat) (h : s.calm n) :
    Noted (s.trigger n kind idx cause pa) s ∧
      (s.pinReached n = true → ((s.trigger n kind idx cause pa).pin n).latched = true) := by
  obtain ⟨hg, ha, hn, hl, hp, he⟩ := h
  unfold State.trigger workFuel
  simp only [ha]
  rw [State.work]
  dsimp only [State.doWork]
  cases hr : s.pinReached n with
  | false =>
    simp only [Bool.not_false, if_true, List.append_nil]
    exact ⟨by rw [State.work]; rfl, fun h => absurd h (by simp)⟩
  | true =>
    simp only [Bool.not_true, Bool.false_eq_true, if_false, hg]
    by_cases hk : kind = 4
    · obtain ⟨a, b, c⟩ := s.arrive_calm n 0 0 cause pa hl hp he
      simp only [hk, if_true, b, List.append_nil]
      rw [State.work]
      exact ⟨a, fun _ => by rw [c]⟩
    · simp only [hk, if_false]
      have hp' : (s.bump (0x5010 + n) 0x0B).obj (0x5010 + n) 2 < 3 := by
        rw [State.bump_eq, obj_setObj_high _ _ _ _ _ _ (by omega) (by simp [okey])]; exact hp
      obtain ⟨a, b, c⟩ := (s.bump (0x5010 + n) 0x0B).arrive_calm n kind idx cause pa hl hp' he
      simp only [b, List.append_nil]
      rw [State.work]
      exact ⟨a.trans rfl, fun _ => by rw [c]⟩

end Sys2Proof.Machine
end

