-- ==== Sys2Proof/Laws/Frames.lean ====
section
/-! SUPPORT. `Evolves` through the turns of a frame: what one F-frame, C-frame or H-frame tick, one commit and one boundary do,
and through the cycle whose triggers are gathered. -/

set_option linter.flexible false

namespace Sys2Proof.Machine

theorem State.latchAll_evolves (s ts) : Evolves s (State.latchAll s ts) := .steady (by simp) (fun h => by simp [h])

theorem State.oneCycle_evolves (f : State → State) (s : State) (h : ∀ s, Evolves s (f s)) : Evolves s (State.oneCycle f s) := by
  unfold State.oneCycle; split
  · exact h s
  · have k := h { s with gov := { s.gov with gathered := some [] } }
    generalize f { s with gov := { s.gov with gathered := some [] } } = t at k
    exact Evolves.trans (t := { t with gov := { t.gov with gathered := none } })
      ⟨k.1, k.2.1, k.2.2.1, k.2.2.2.1, k.2.2.2.2.1, fun _ => rfl⟩ (State.latchAll_evolves _ _)

theorem State.fillMessage_evolves (s : State) (off : Nat) (bs : List Byte) : Evolves s (State.fillMessage s off bs) :=
  ⟨rfl, rfl, Nat.le_refl _, fun h => Memory.wf_mwriteBytes _ _ h, id, id⟩

theorem State.slotDone_evolves (s k v r) : Evolves s (State.slotDone s k v r) := ⟨rfl, rfl, Nat.le_refl _, id, id, id⟩

theorem State.tripInReset_evolves (s n t c) : Evolves s (State.tripInReset s n t c) := by
  unfold State.tripInReset; dsimp only
  refine ⟨by split <;> simp, by split <;> simp, by split <;> simp, fun h => by split <;> simpa using h, fun h => ?_,
    fun h => by split <;> simpa using h⟩
  simp [State.trip, tripKept]

/-- A step that only some states take. -/
theorem Evolves.perhaps {s t u : State} {c : Prop} [Decidable c] (h : Evolves s t) (k : Evolves t u) :
    Evolves s (if c then u else t) := by split; exact h.trans k; exact h

theorem State.commitExternal_evolves (s q) : Evolves s (State.commitExternal s q) := by
  unfold State.commitExternal; dsimp only; split
  · exact .perhaps (.steady (by simp) (fun h => by simp [h])) (.steady (by simp) (fun h => by simp [h]))
  · exact .steady (by simp) (fun h => by simp [h])

theorem State.commitReads_evolves (s l) : Evolves s (State.commitReads s l) := by
  unfold State.commitReads
  extract_lets st s1 s2 s3 s4 d
  have h1 : Evolves s s1 := .each _ _ _ (fun s n => .steady (by simp) (fun h => by simp [h]))
  have h2 : Evolves s1 s2 := .perhaps (.refl _) (.steady (by simp) (fun h => by simp [h]))
  have h3 : Evolves s2 s3 := .each _ _ _ (fun s n => .steady (by simp) (fun h => by simp [h]))
  have h4 : Evolves s3 s4 := .each _ _ _ (fun s n => .steady (by simp) (fun h => by simp [h]))
  have h5 : Evolves s4 { s4 with thermal := { s4.thermal with extDone := [] } } := ⟨rfl, rfl, Nat.le_refl _, id, id, id⟩
  exact h1.trans (h2.trans (h3.trans (h4.trans (h5.trans (.each _ _ _ State.commitExternal_evolves)))))

theorem State.commitPoint_evolves (s l) : Evolves s (State.commitPoint s l) := by
  unfold State.commitPoint
  extract_lets s0 before old s1 v s2 trips s3 s4 s5 causes
  have h1 : Evolves s s1 := (State.atTime_evolves s _).trans (State.commitReads_evolves s0 l)
  have h2 : Evolves s1 s2 := .steady (by simp [s2]) (fun h => by simp [s2, h])
  have h3 : Evolves s2 s3 := .each _ _ _ (fun s n => .steady (by simp) (fun h => by simp [h]))
  have h4 : Evolves s3 s4 := .each _ _ _ (fun s n => .perhaps (.refl _) (.still (by simp)))
  have h5 : Evolves s4 s5 := .steady (by simp [s5]) (fun h => by simp [s5, h])
  refine h1.trans (h2.trans (h3.trans (h4.trans (h5.trans ?_))))
  clear_value s5
  split
  · exact .steady (by simp) (fun h => by simp [h])
  · exact .refl _

theorem State.fSwBoundary_evolves (s a) : Evolves s (State.fSwBoundary s a) := by
  unfold State.fSwBoundary
  extract_lets s1 s2 s3 s4 s5
  have h1 : Evolves s s1 := .each _ _ _ (fun s n => .steady (by simp) (fun h => by simp [h]))
  have h2 : Evolves s1 s2 := .perhaps (.refl _) (.steady (by simp) (fun h => by simp [h]))
  have h3 : Evolves s2 s3 := by unfold s3; split; exact .steady (by simp) (fun h => by simp [h]); exact .refl _
  have h4 : Evolves s3 s4 := .perhaps (.refl _) (.steady (by simp) (fun h => by simp [h]))
  have h5 : Evolves s4 s5 := .steady (by simp [s5]) (fun h => by simp [s5, h])
  exact h1.trans (h2.trans (h3.trans (h4.trans (h5.trans (.each _ _ _ (fun s n => .steady (by simp) (fun h => by simp [h])))))))

theorem State.fFrameCommit_evolves (s l p) : Evolves s (State.fFrameCommit s l p) := by
  unfold State.fFrameCommit
  extract_lets s1 s2 s3
  have h1 : Evolves s s1 := State.atTime_evolves _ _
  have h2 : Evolves s1 s2 := .perhaps (.refl _) (.steady (by simp) (fun h => by simp [h]))
  have h3 : Evolves s2 s3 := by
    refine .each _ _ _ (fun s n => ?_)
    extract_lets q u act irail rsum v w
    have k1 : Evolves s u := .steady (by simp [u, q]) (fun h => by simp [u, q, h])
    have k2 : Evolves u v := .each _ _ _ (fun s n => .steady (by simp) (fun h => by simp [h]))
    have k3 : Evolves v w := by unfold w; split; exact .steady (by simp) (fun h => by simp [h]); exact .refl _
    exact k1.trans (k2.trans (k3.trans (.steady (by simp) (fun h => by simp [h]))))
  exact h1.trans (h2.trans (h3.trans (.still (State.captureFrame_keeps _ _))))

theorem State.cFrameCommit_evolves (s l) : Evolves s (State.cFrameCommit s l) := by
  unfold State.cFrameCommit
  extract_lets s1 s2 s3 s4 s5
  have h1 : Evolves s s1 := State.atTime_evolves _ _
  have h2 : Evolves s1 s2 := .perhaps (.refl _) (Evolves.trans (t := (s1.overrun 4).captureEvent 5 0)
    (.steady (by simp) (fun h => by simp [h])) (.each _ _ _ (fun s n => .steady (by simp) (fun h => by simp [h]))))
  have h3 : Evolves s2 s3 := .each _ _ _ (fun s n => .steady (by simp) (fun h => by simp [h]))
  have h4 : Evolves s3 s4 := .steady (by simp [s4]) (fun h => by simp [s4, h])
  have h5 : Evolves s4 s5 := .each _ _ _ (fun s n => .steady (by simp) (fun h => by simp [h]))
  exact h1.trans (h2.trans (h3.trans (h4.trans (h5.trans (.still (State.captureFrame_keeps _ _))))))

theorem State.ctlTick_evolves (s l) : Evolves s (State.ctlTick s l) := by
  unfold State.ctlTick
  exact .perhaps (.refl _) (.each _ _ _ (fun s n => .still (by simp)))

theorem State.hFrame_evolves (s l) : Evolves s (State.hFrame s l) := by
  unfold State.hFrame
  extract_lets s1 s2 s3 s4 s5 s6 s7 rate src1 src2 s8 s9
  have h1 : Evolves s s1 := .each _ _ _ (fun s n => .steady (by simp) (fun h => by simp [h]))
  have h2 : Evolves s1 s2 := .each _ _ _ (fun s n => .steady (by simp) (fun h => by simp [h]))
  have h3 : Evolves s2 s3 := .each _ _ _ (fun s n => .steady (by simp) (fun h => by simp [h]))
  have h4 : Evolves s3 s4 := State.ctlTick_evolves _ _
  have h5 : Evolves s4 s5 := .each _ _ _ (fun s n => .steady (by simp) (fun h => by simp [h]))
  have h6 : Evolves s5 s6 := Evolves.each (List.range 160) State.repairShadow s5 (fun s n => .steady (by simp) (fun h => by simp [h]))
  clear_value s6
  have h7 : Evolves s6 s7 := .each _ _ _ (fun s n => .steady (by simp) (fun h => by simp [h]))
  have h8 : Evolves s7 s8 := ⟨rfl, rfl, Nat.le_refl _, id, id, id⟩
  have h9 : Evolves s8 s9 := .perhaps (.refl _) (.steady (by simp) (fun h => by simp [h]))
  exact h1.trans (h2.trans (h3.trans (h4.trans (h5.trans (h6.trans (h7.trans (h8.trans (h9.trans
    (.steady (by simp) (fun h => by simp [h]))))))))))

theorem State.fFrame_evolves (s l p) : Evolves s (State.fFrame s l p) := by
  unfold State.fFrame
  extract_lets m t s1 src s2 s3 s4 s5 s6 s7 s8
  have h1 : Evolves s s1 := State.atTime_evolves _ _
  have h2 : Evolves s1 s2 := ⟨rfl, rfl, Nat.le_refl _, id, id, id⟩
  have h3 : Evolves s2 s3 := .each _ _ _ (fun s n => .steady (by simp) (fun h => by simp [h]))
  have h4 : Evolves s3 s4 := .each _ _ _ (fun s n => .steady (by simp) (fun h => by simp [h]))
  have h5 : Evolves s4 s5 := by
    refine .each _ _ _ (fun s n => ?_)
    extract_lets u1 u2 u3
    have k1 : Evolves s u1 := .each _ _ _ (fun s n => .steady (by simp) (fun h => by simp [h]))
    have k2 : Evolves u1 u2 := .steady (by simp [u2]) (fun h => by simp [u2, h])
    have k3 : Evolves u2 u3 := by unfold u3; split; exact .steady (by simp) (fun h => by simp [h]); exact .refl _
    exact k1.trans (k2.trans (k3.trans (.each _ _ _ (fun s n => .steady (by simp) (fun h => by simp [h])))))
  have h6 : Evolves s5 s6 := .each _ _ _ (fun s n => .steady (by simp) (fun h => by simp [h]))
  have h7 : Evolves s6 s7 := .steady (by simp [s7]) (fun h => by simp [s7, h])
  have h8 : Evolves s7 s8 := by unfold s8; split; exact .steady (by simp) (fun h => by simp [h]); exact .refl _
  exact h1.trans (h2.trans (h3.trans (h4.trans (h5.trans (h6.trans (h7.trans (h8.trans
    (.steady (by simp) (fun h => by simp [h])))))))))

theorem State.cFrame_evolves (s) : Evolves s (State.cFrame s) := by
  unfold State.cFrame
  extract_lets s1 s2 fresh q src1 src2 src4 s3 s4 s5 s6 s7 s8 src3 s9
  have h1 : Evolves s s1 := (State.countFrame_evolves s).trans (.steady (by simp [s1]) (fun h => by simp [s1, h]))
  have h2 : Evolves s1 s2 := .each _ _ _ (fun s n => .steady (by simp) (fun h => by simp [h]))
  have hq : Evolves s2 q.1 := .steady (by simp [q]) (fun h => by simp [q, h])
  have h3 : Evolves q.1 s3 := ⟨rfl, rfl, Nat.le_refl _, id, id, id⟩
  clear_value s3
  have h4 : Evolves s3 s4 := Evolves.trans (t := each s3.railsUsed State.firstRate s3)
    (.each _ _ _ (fun s n => .steady (by simp) (fun h => by simp [h]))) (.still (State.refillAll_keeps _ _))
  clear_value s4
  have h5 : Evolves s4 s5 := .each _ _ _ (fun s n => .steady (by simp) (fun h => by simp [h]))
  clear_value s5
  have h6 : Evolves s5 s6 := .each _ _ _ (fun s n => .steady (by simp) (fun h => by simp [h]))
  clear_value s6
  have h7 : Evolves s6 s7 := .steady (by simp [s7]) (fun h => by simp [s7, h])
  clear_value s7
  have h8 : Evolves s7 s8 := .steady (by simp [s8]) (fun h => by simp [s8, h])
  clear_value s8
  have h9 : Evolves s8 s9 := ⟨rfl, rfl, Nat.le_refl _, id, id, id⟩
  clear_value s9
  have h10 : Evolves s9 s9.filters := .steady (by simp) (fun h => by simp [h])
  exact h1.trans (h2.trans (hq.trans (h3.trans (h4.trans (h5.trans (h6.trans (h7.trans (h8.trans (h9.trans h10)))))))))

end Sys2Proof.Machine
end

