-- ==== Sys2Proof/Laws/Writes.lean ====
section
/-! SUPPORT. The object engine in one lemma: what an accepted write does. -/

namespace Sys2Proof.Machine

theorem bytesLE_length (n v : Nat) : (bytesLE n v).length = n := by simp [bytesLE]

theorem natLE_map (f : Nat → Nat) (v n : Nat) (h : ∀ i, f i = v / 256 ^ i) :
    natLE ((List.range n).map (fun i => BitVec.ofNat 8 (f i))) = v % 256 ^ n := by
  induction n generalizing f v with
  | zero => simp [natLE, Nat.mod_one]
  | succ n ih =>
    rw [List.range_succ_eq_map, List.map_cons, List.map_map, natLE]
    have := ih (fun i => f (i + 1)) (v / 256) (fun i => by rw [h, Nat.div_div_eq_div_mul, Nat.pow_succ'])
    simp only [Function.comp_def]
    have e : v % 256 ^ (n + 1) = v % 256 + 256 * (v / 256 % 256 ^ n) := by rw [Nat.pow_succ', Nat.mod_mul]
    rw [this, h 0, BitVec.toNat_ofNat, Nat.pow_zero, Nat.div_one, e]

/-- Bytes of a value that fits stand for the value. -/
theorem natLE_bytesLE (n v : Nat) (h : v < 256 ^ n) : natLE (bytesLE n v) = v := by
  rw [bytesLE, natLE_map _ v n (fun _ => rfl), Nat.mod_eq_of_lt h]

/-- An admitted write by value: its effect, then its count and answer; a code of the effect refuses it. -/
theorem State.writeObject_admits (s : State) (sess idx sub v : Nat) (h : s.admits sess idx sub v = true) :
    ∃ bs, natLE bs = v ∧ valueBytes idx sub v = bs ∧ s.writeObject sess idx sub bs 0 =
      if (s.writeEffect sess idx sub v bs).2 = 0 then (s.writeEffect sess idx sub v bs).1.wrote
      else (s.writeEffect sess idx sub v bs).1.refuseWrite idx sub (s.writeEffect sess idx sub v bs).2 := by
  unfold State.admits at h
  obtain ⟨r, hr⟩ : ∃ r, objRow idx sub = some r := by
    cases e : objRow idx sub with
    | none => simp [e] at h
    | some r => exact ⟨r, rfl⟩
  simp only [hr, Bool.and_eq_true, decide_eq_true_eq, beq_iff_eq] at h
  obtain ⟨hv, hc⟩ := h
  refine ⟨bytesLE r.ty.size v, natLE_bytesLE _ _ hv, by simp [valueBytes, hr, hv], ?_⟩
  simp only [State.writeObject, natLE_bytesLE _ _ hv, bytesLE_length, hc]
  by_cases hq : (s.writeEffect sess idx sub v (bytesLE r.ty.size v)).2 = 0
  · simp [hq, State.wrote]
  · simp [hq]

/-- A row that writes an accepted value. -/
theorem State.writeRow_accepts (s : State) (sess idx sub v : Nat) (h : s.accepts sess idx sub v = true) :
    ∃ bs, natLE bs = v ∧ s.writeRow sess idx sub v = .next
      (if (s.touch.writeEffect sess idx sub v bs).2 = 0 then (s.touch.writeEffect sess idx sub v bs).1.wrote
      else (s.touch.writeEffect sess idx sub v bs).1.refuseWrite idx sub (s.touch.writeEffect sess idx sub v bs).2) := by
  unfold State.accepts at h; rw [Bool.and_eq_true] at h
  obtain ⟨bs, hb, hv, hw⟩ := s.touch.writeObject_admits sess idx sub v h.2
  exact ⟨bs, hb, by simp only [State.writeRow, h.1, if_true, hv, hw]⟩

/-- A row that writes accepted bytes. -/
theorem State.writeBytesRow_accepts (s : State) (sess idx sub : Nat) (bs : List Byte) (h : s.acceptsBytes sess idx sub bs = true) :
    s.writeBytesRow sess idx sub bs = .next
      (if (s.touch.writeEffect sess idx sub (natLE bs) bs).2 = 0 then (s.touch.writeEffect sess idx sub (natLE bs) bs).1.wrote
      else (s.touch.writeEffect sess idx sub (natLE bs) bs).1.refuseWrite idx sub
        (s.touch.writeEffect sess idx sub (natLE bs) bs).2) := by
  simp only [State.acceptsBytes, Bool.and_eq_true, beq_iff_eq] at h
  simp only [State.writeBytesRow, h.1, if_true, State.writeObject, h.2]
  by_cases hq : (s.touch.writeEffect sess idx sub (natLE bs) bs).2 = 0
  · simp [hq, State.wrote]
  · simp [hq]

end Sys2Proof.Machine
end

