-- ==== Sys2Proof/Machine/Ports.lean ====
section
/-! DEFINITION. The output ports of the core (17 R396, R398, R403, R405, R409, R410, R418) as functions of the state. The lane
outputs are in Cooper.lean, the tap outputs in Droop.lean, the filler outputs in Credits.lean, oc_set in Units.lean and
trip_out in Transitions.lean. -/

namespace Sys2Proof.Machine

/-- What a port shows: without VGOV the Governor drives none (17 R403). -/
def State.drive {α : Type} (s : State) (v : α) : Option α := if s.gov.st == .off then none else some v

/-- pl_pwm and pl_en of a lane behind the trip gate (17 R398). -/
def State.portPwm (s : State) (n : Nat) : Option Bool := s.drive (!s.tripGate && s.plPwm n)
def State.portPlEn (s : State) (n : Nat) : Option Bool := s.drive (!s.tripGate && s.plEn n)

/-- Whether pl_clk and gov_gclk run (17 Phase Link, R410). -/
def State.portClocks (s : State) : Option Bool := s.drive s.tb.gclk

/-- go_en of a domain, one bit for each stage, and go_iso, behind the trip gate (17 R398, Domain gates). -/
def State.portGoEn (s : State) (d : Nat) : Option Nat :=
  s.drive (if s.tripGate then 0 else 2 ^ min 4 (s.domain d).stages - 1)
def State.portGoIso (s : State) (d : Nat) : Option Bool := s.drive (s.tripGate || (s.domain d).iso)

/-- host_rel behind the trip gate, and trip_out (17 R398). -/
def State.portHostRel (s : State) : Option Bool := s.drive (!s.tripGate && s.gov.hostRel)
def State.portTripOut (s : State) : Option Bool := s.drive s.tripOut

/-- ms_band of a stack and dom_tm of a domain: the TB_7 code of the default table until BOOT ends; from then on 0 where the
stack or the domain is not in use, else the code of the last S-frame tick (17 R409). -/
def State.portMsBand (s : State) (k : Nat) : Option Nat :=
  s.drive (if s.gov.booting || s.sensorUsed (256 + k) then tget s.thermal.msBand k 0xA else 0)
def State.portDomTm (s : State) (d : Nat) : Option Nat :=
  s.drive (if s.gov.booting || s.domainUsed d then tget s.thermal.domTm d 0x7 else 0)

/-- The host interrupt lines: high while their target has an offer (13 R320, 17 Host Register Port); every output of a stopped
GCLK domain that is valid for one cycle is low (17 R410). -/
def State.portIrq (s : State) (t : Nat) : Option Bool := s.drive (s.tb.gclk && (s.offer t).isSome)

/-- as_req_valid and as_req: the oldest request word (17 R413). -/
def State.portRequest (s : State) : Option (Option W64) :=
  s.drive (if s.tb.gclk && s.cfg == .full then s.assayer.requests.head? else none)

/-- phy_rst_n: low from cold reset and while gov_rst_n is low, high once COM is released in BOOT (17 R418). -/
def State.portPhyRst (s : State) : Option Bool := s.drive (!s.gov.govRstLow && (s.core 3).st != .stopped)

end Sys2Proof.Machine
end

