-- ==== Sys2Proof/WellFormed.lean ====
section
/-! DEFINITION. When a command is well formed: every instance number, port, slot, address and code it carries lies in the
range the spec gives that operand. -/

namespace Sys2Proof

def lanesOf : Config → Nat
  | .full => 96
  | .core => 48

def railsOf : Config → Nat
  | .full => 8
  | .core => 4

def tapsOf : Config → Nat
  | .full => 512
  | .core => 256

/-- A TEMP value fits 16 bits two's complement (15 Types). -/
def tempFits (i : Int) : Bool := -32768 ≤ i && i ≤ 32767

/-- A Muriri frame's fields fit their header fields (15 Frames) and its body is as long as it says. -/
def Frame.wellFormed (f : Frame) : Bool :=
  f.src < 2 ^ 48 && f.dst < 2 ^ 48 && f.version < 256 && f.kind < 256 && f.session < 2 ^ 16 && f.seq < 2 ^ 16
    && f.bodyLen < 2 ^ 16 && f.schema < 2 ^ 16 && f.flags < 2 ^ 16 && f.epoch < 2 ^ 32

/-- The fields of a firmware image fit the header (14 Boot). -/
def FwImage.wellFormed (f : FwImage) : Bool :=
  f.core < 4 && f.keySlot < 256 && f.major < 256 && f.minor < 256 && f.patch < 256 && f.security < 2 ^ 32

/-- Operand ranges of every command. -/
def Instr.wellFormed (cfg : Config) : Instr → Bool
  | .coldReset | .vgovLoss | .strapSample _ | .govReset | .govResetRelease | .hostReset => true
  | .bootComplete _ fw => fw.all FwImage.wellFormed
  | .coreStartTimeout c _ => c < 4
  | .syncInLoss | .relockQualified | .frequencyPullComplete _ | .pllLock _ | .clockFailure | .gclkWake
  | .standbyClockStop => true
  | .fFrameTick ls ts =>
    ls.all (fun l => l.lane < lanesOf cfg && l.x ≤ 2 ^ 15)
      && ts.all (fun t => t.tap < tapsOf cfg && t.mean < 2 ^ 16 && t.low < 2 ^ 16 && t.high < 2 ^ 16)
  | .fFrameCommit ls _ => ls.all (· < 8)
  | .fSwBoundary r => r < railsOf cfg
  | .cFrameTick => true
  | .cFrameCompetition ls => ls.all (· < 160)
  | .cFrameRateCommit _ | .tallyCommit | .sFrameTick => true
  | .thermalCommit rs => rs.all (·.sensor < 256)
  | .hFrameTick cs => cs.all (· < 4)
  | .loopOverrun r => r < railsOf cfg
  | .laneCensusComplete r ls => r < railsOf cfg && ls.all (· < lanesOf cfg)
  | .stageFault n | .stageFaultRetryEnable ⟨n, _⟩ | .stageFaultReleaseLimit n | .laneWakeEnd n | .warmParkExpiry n
  | .laneOpen n | .laneSenseFailure n | .stageFaultRetryObservationEnd n => n < lanesOf cfg
  | .laneRearm _ n _ => n < lanesOf cfg
  | .senseTapExclusion t => t < tapsOf cfg
  | .allPhaseFire r _ | .fireEnd r _ | .fireRearm r _ | .overvoltageClamp r _ | .railOvervoltage r _
  | .railDischargeDone r _ => r < railsOf cfg
  | .railUndervoltage r | .shedDecision r | .railPowerGood r | .railPowerGoodMiss r | .railDischargeTimeout r =>
    r < railsOf cfg
  | .avsTrimRequest _ r _ => r < railsOf cfg
  | .interRailDelayEnd | .stageSupplyQualified | .stageSupplyTimeout => true
  | .fastPathStretch d _ | .stretchReleaseStep d _ _ | .freezeRelease d | .longFreeze d | .excursionWindowClose d
  | .tapSettleEnd d | .domainCensusComplete d | .domainCensusWindowEnd d => d < 32
  | .droopReport t _ _ | .tapDisagreement t | .tapRearm _ t _ => t < tapsOf cfg
  | .droopThresholdWrite _ g _ _ => g < 64
  | .issue p _ | .announce p _ | .done p _ | .doneDigest p _ | .cancel p _ => p < 4
  | .reservationExpiry a => a < 256
  | .ringSweep | .quantumWrite _ _ | .announceLookup | .deferredCancel => true
  | .predictedSlotExpiry k | .grantedGroupTimeout k => k < 65536
  | .signatureEntryWrite _ _ | .programLoadData _ _ | .programActivate _ _ | .clearStickyFlags _ _ => true
  | .coefficientCommit _ i _ | .followingError i => i < 160
  | .injectionStart _ | .injectionDelayEnd | .injectionStop _ | .injectionEnd | .captureArm _ | .captureForceTrigger _
  | .captureStop _ | .captureComplete | .externalSensorSlot _ => true
  | .memoryStackWord k _ | .stackCensusWindowEnd k => k < 16
  | .sensorRearm _ n _ => n < 288
  | .oxsTTrip n | .oxsTTrim n _ _ => n < 256
  | .oxsTProgram a b => a.all (· < 256) && b.all (· < 256)
  | .coolantUpdateCommit _ _ | .coolantTimeout | .coolantRecovery | .restartHoldComplete | .cooldownProlonged
  | .tripActionsComplete => true
  | .domainWakeRequest _ d | .domainGateRequest _ d | .domainWakeStart d | .domainStageStep d | .domainPowerGood d
  | .domainPgWindowMiss d | .domainIsolationRelease d | .domainRetryDelayEnd d | .wakeWaitExpiry d | .drainComplete d
  | .drainTimeout d | .autoWake d | .domainPowerGoodLoss d | .domainRearm _ d _ => d < 32
  | .powerOn _ | .powerOff _ | .meterOn _ | .meterOff _ | .resume _ | .serviceEnter _ | .softReset _ => true
  | .serviceExit _ a => a < 256
  | .assayRequestTransfer | .thirdExecutionRequest => true
  | .duplicateDeadline e | .thirdDeadline e => e < 4096
  | .releaseQuarantine _ a _ => a < 256
  | .contributionFence _ | .fenceAnswer | .peerReport _ _ | .knownAnswerStart _ | .knownAnswerStop _ => true
  | .knownAnswerTimeout a e => a < 256 && e < 64
  | .knownAnswerRunEnd | .sweepStart _ | .sweepStop _ | .sweepSettleEnd | .sweepStepComplete => true
  | .faultTrigger n k i c _ => n < 64 && k < 4 && i < 256 && c < 256
  | .dClassEvent n | .dClassWindowExpiry n | .transientStrobe n => n < 64
  | .faultAcknowledge _ _ | .recordWrite | .daybookClear _ _ | .vitrineClear _ _ => true
  | .timeSet _ _ q => q < 256
  | .timeQualityHoldExpiry => true
  | .dumpRelease _ c _ | .dumpClearComplete c => c < 4
  | .signal n | .watchWake n | .fallbackOffer n => n < 1024
  | .doorbell _ | .configureSource _ => true
  | .claim a t | .complete a t _ | .targetConfigWrite a t _ => a < 5 && t < 6
  | .pendSet i _ | .pendClr i _ | .maskSet i _ | .maskClr i _ | .icuPlainWrite .pend i _ | .icuPlainWrite .mask i _ => i < 16
  | .icuPlainWrite .cfg i _ => i < 256
  | .watchWrite i _ => i < 32
  | .post a c _ | .take a c | .free a c _ | .ackClear a c _ | .tostClear a c _ | .mailboxMaskWrite a c _ =>
    a < 5 && c < 64
  | .noticeTimeout c b | .objectRead c b | .objectWrite c b | .attach c b | .heartbeat c b | .detach c b =>
    c < 64 && b < 32
  | .heartbeatSend _ | .hostLost _ => true
  | .coreCrash c k _ => c < 4 && k < 256
  | .watchdogExpiry c _ => c < 4
  | .componentFault c k _ _ => c < 4 && k < 8
  | .bankReloadComplete c f => c < 4 && f.wellFormed
  | .coreRestartComplete c | .releaseHold _ c _ => c < 4
  | .updateTarget _ _ => true
  | .updateLoadData _ bs => bs.length ≤ 4096
  | .updateVerify _ | .updateActivate _ | .updateAbort _ | .updateActivation | .updateRestartTimeout | .probationEnd =>
    true
  | .g3Read o => o < 0x10000 && o % 4 == 0
  | .g3ReadTimeout | .g3WriteQueueTimeout | .g3PowerRequest _ | .g3PlimitWrite _ | .g3ThresholdWrite _ _
  | .g3FaultClear _ _ | .objectWindowClaim | .objectWindowRelease _ | .objectWindowRead _ | .objectWindowWrite _
  | .objectWindowIdleRelease | .objectAccessTimeout | .lock _ _ | .unlock _ _ | .authChallenge _ | .authResponse _ _
  | .endAuthentication _ _ | .authBlockExpiry => true
  | .muOpen f | .muClose f | .muRead f | .muWrite f | .muReadInit f | .muWriteInit f | .muSegment f | .muSegmentAck f
  | .muAbort f | .malformedFrame f | .eventAck f | .budget f | .budgetAck f => f.wellFormed
  | .time f _ => f.wellFormed
  | .segmentTimeout _ | .sessionIdleTimeout _ | .eventSend | .eventRetransmit | .budgetFormation | .timeBroadcast
  | .coordinatorLoss | .scanModeEntry | .extest | .samplePreload | .idcode | .instr | .bypass _ => true
  | .fuseWrite _ v => v < 2 ^ 256
  | .memoryBist g _ => g < 256
  | .clockTrim v => tempFits v
  | .atbRoute _ _ => true
  | .registerWrite a _ _ => a < 0x100000 && a % 8 == 0
  | .frameDiscarded _ | .foreignBudgetCauseEnd => true

end Sys2Proof
end

