-- ==== Sys2Proof/Tests/Slice0.lean ====
section
/-! SUPPORT. Tests: states that meet the hypotheses of the statements, clause by clause; the checks of WellFormed. -/

namespace Sys2Proof.Tests
open Sys2Proof Sys2Proof.Machine

set_option Elab.async false

/-- Objects set, each as index, subindex and raw value. -/
def put (l : List (Nat × Nat × Nat)) (s : State) : State := l.foldl (fun s o => s.setObj o.1 o.2.1 o.2.2) s

/-- A Governor of the Full configuration in RUN: one rail, 7, with lane 95; domain 31 with tap 511 in group 63 and array 255;
sensors 255, 271 and 287; channels 62 and 63 between COM and agent 4; session 1 open and authenticated. -/
def up : State := put [(0x1400, 1, 0x11), (0x2100 + 95, 1, 7), (0x2410 + 31, 1, 7), (0x2440 + 63, 1, 31),
  (0x2500 + 511, 1, 63), (sensorObj 255, 1, 63), (sensorObj 271, 1, 63), (0x7500 + 62, 1, 3), (0x7500 + 62, 2, 4),
  (0x7500 + 63, 1, 4), (0x7500 + 63, 2, 3)]
  { State.reset with
    tb := { State.reset.tb with gclk := true, tb := .locked }
    gov := { State.reset.gov with st := .run, booting := false }
    desc := { State.reset.desc with
      rails := [⟨7, [63]⟩], senseRail := [(95, 7)], arrayDomain := [(255, 31)], external := [⟨15, 65536, 0, true⟩] }
    cores := [(0, { st := .running }), (1, { st := .running }), (2, { st := .running }), (3, { st := .running })]
    host := { State.reset.host with sessions := [(63, { id := 1, metering := true })] }
    access := { State.reset.access with authed := [(1, 0)] } }

def inState (g : GovState) : State := { up with gov := { up.gov with st := g } }
def laneIs (v : Lane) : State := { up with lanes := [(95, v)] }
def railIs (v : Rail) : State := { up with rails := [(7, v)] }
def domainIs (v : Domain) : State := { up with domains := [(31, v)] }
def droopIs (v : Droop) : State := { up with droops := [(31, v)] }
def tapIs (v : DroopTap) : State := { up with taps := [(511, v)] }
def pinIs (n : Nat) (v : Pin) : State := { up with pins := [(n, v)] }
def coreIs (c : Nat) (v : Core) : State := { up with cores := tset up.cores c v }
def slotIs (v : Slot) : State := { up with channels := [(63, { slots := [(31, v)] })] }
def frame (kind : Nat) (body : List Byte) : Frame :=
  { src := 0x22, dst := 0x11, version := 1, kind := kind, session := 2, seq := 9, bodyLen := body.length, schema := up.obj 0x1000 8,
    flags := 0, epoch := 0, body := body, tag := none }
def out : OutFrame := { dst := 0x22, kind := 0, session := 2, seq := 9, body := [] }
def peer (v : MuSession) : State := { up with muriri := { up.muriri with sessions := [(2, v)] } }
def image (major : Nat) : Image :=
  { major := major, minor := 2, objects := [], rails := [], senseRail := [], arrayDomain := [], laneRails := [], tapGroups := [],
    stackSupply := [], external := [], sigs := [], families := [], statics := [], program := none, icuConfig := [],
    icuUnmasked := [], watch := [], members := [], coreUsesHrp := false }
def release (c : Nat) : FwImage := ⟨c, true, true, 0, 4, 2, 0, 0, true, true⟩
def firmware : List FwImage := [release 0, release 1, release 2, release 3]
def mail (kind : Nat) (payload : List Byte) : State :=
  { slotIs { st := .taken, length := 24 + payload.length } with
    mram := mwriteBytes [] 0 (msgBytes 0 kind 1 0 0 0 payload)
    host := if kind = 0x10 then {} else up.host }
theorem fullRun : ∀ k < 256, 256 ≤ (tget ((List.range 256).map (fun k => (k, ({ run := 256 } : DroopTap)))) k {}).run := by
  decide +kernel
theorem offOrUnused (d : Nat) : (({ inState .service with domains := [(31, { st := .off })] } : State).domain d).st = .off ∨
    (({ inState .service with domains := [(31, { st := .off })] } : State).domain d).st = .unused ∨
    (({ inState .service with domains := [(31, { st := .off })] } : State).domain d).st = .faulted := by
  by_cases h : 31 = d <;> simp [State.domain, tget, h]
def challenged : State := { up with access := { up.access with challenges := [(1, ⟨7, 0⟩)] } }
theorem answerTaken (r : BitVec 256) : challenged.accepts 1 0x1420 2 r.toNat = true := by
  have h : decide (r.toNat < 256 ^ 32) = true := by simpa using r.isLt
  have e : challenged.accepts 1 0x1420 2 r.toNat = (true && (decide (r.toNat < 256 ^ 32) && true)) := rfl
  rw [e, h]; rfl
/-- `up` with the rate of rail 7 decided once and its four limit laws evaluated. -/
def lawsRan : State := { up with
  shapers := [(7, { ran := true })]
  laws := (List.range 4).map (fun k => (36 + k, { next := some (1, 0, 0) })) }
theorem lawsReady : ∀ r, lawsRan.railUsed r = true → (lawsRan.shaper r).ran = true →
    ∀ k, k < 4 → (lawsRan.law (8 + 4 * r + k)).next.isSome = true := by
  intro r _ h
  by_cases e : r = 7
  · subst e; decide +kernel
  · exact absurd h (by simp [State.shaper, lawsRan, tget, Ne.symm e])

/-! ### WellFormed: every check refuses the first value out of range -/

def refuses (cfg : Config) (l : List Instr) : Bool := l.all (fun i => i.wellFormed cfg == false)
def allows (cfg : Config) (l : List Instr) : Bool := l.all (fun i => i.wellFormed cfg)

theorem test_wf_lanes : refuses .full [.stageFault 96, .stageFaultRetryEnable ⟨96, 0⟩, .stageFaultReleaseLimit 96, .laneWakeEnd 96,
    .warmParkExpiry 96, .laneOpen 96, .laneSenseFailure 96, .stageFaultRetryObservationEnd 96, .laneRearm 1 96 1,
    .fFrameTick [⟨96, 0, 0⟩] [], .fFrameTick [⟨95, 32769, 0⟩] []] = true := by decide
theorem test_wf_core_lanes : refuses .core [.stageFault 48, .fSwBoundary 4, .droopReport 256 0 0] = true := by decide
theorem test_wf_rails : refuses .full [.fSwBoundary 8, .loopOverrun 8, .laneCensusComplete 8 [], .laneCensusComplete 0 [96], .allPhaseFire 8 0,
    .fireEnd 8 0, .fireRearm 8 0, .overvoltageClamp 8 0, .railOvervoltage 8 0, .railDischargeDone 8 0, .railUndervoltage 8,
    .shedDecision 8, .railPowerGood 8, .railPowerGoodMiss 8, .railDischargeTimeout 8, .avsTrimRequest 1 8 0,
    .fFrameCommit [8] false] = true := by decide +kernel
theorem test_wf_taps : refuses .full [.senseTapExclusion 512, .droopReport 512 0 0, .tapDisagreement 512, .tapRearm 1 512 1,
    .fFrameTick [] [⟨512, 0, 0, 0⟩], .fFrameTick [] [⟨0, 65536, 0, 0⟩], .fFrameTick [] [⟨0, 0, 65536, 0⟩],
    .fFrameTick [] [⟨0, 0, 0, 65536⟩], .droopThresholdWrite 1 64 6 0] = true := by decide
theorem test_wf_domains : refuses .full [.fastPathStretch 32 true, .stretchReleaseStep 32 true true, .freezeRelease 32,
    .longFreeze 32, .excursionWindowClose 32, .tapSettleEnd 32, .domainCensusComplete 32, .domainCensusWindowEnd 32,
    .domainWakeRequest 1 32, .domainGateRequest 1 32, .domainWakeStart 32, .domainStageStep 32, .domainPowerGood 32,
    .domainPgWindowMiss 32, .domainIsolationRelease 32, .domainRetryDelayEnd 32, .wakeWaitExpiry 32, .drainComplete 32,
    .drainTimeout 32, .autoWake 32, .domainPowerGoodLoss 32, .domainRearm 1 32 1] = true := by decide
theorem test_wf_credits : refuses .full [.issue 4 0, .announce 4 0, .done 4 0, .doneDigest 4 0, .cancel 4 0,
    .reservationExpiry 256, .predictedSlotExpiry 65536, .grantedGroupTimeout 65536, .duplicateDeadline 4096,
    .thirdDeadline 4096, .releaseQuarantine 1 256 1, .knownAnswerTimeout 256 0, .knownAnswerTimeout 0 64] = true := by decide
theorem test_wf_sensors : refuses .full [.thermalCommit [⟨256, none, none⟩], .memoryStackWord 16 0, .stackCensusWindowEnd 16,
    .sensorRearm 1 288 1, .oxsTTrip 256, .oxsTTrim 256 0 0, .oxsTProgram [256] [], .oxsTProgram [] [256]] = true := by decide
theorem test_wf_laws : refuses .full [.coefficientCommit 1 160 1, .followingError 160, .cFrameCompetition [160],
    .hFrameTick [4], .serviceExit 1 256, .clockTrim 32768, .clockTrim (-32769), .memoryBist 256 true,
    .fuseWrite .key (2 ^ 256)] = true := by decide
theorem test_wf_pins : refuses .full [.faultTrigger 64 0 0 0 0, .faultTrigger 0 4 0 0 0, .faultTrigger 0 0 256 0 0,
    .faultTrigger 0 0 0 256 0, .dClassEvent 64, .dClassWindowExpiry 64, .transientStrobe 64, .timeSet 1 0 256,
    .dumpRelease 1 4 1, .dumpClearComplete 4] = true := by decide
theorem test_wf_interrupts : refuses .full [.signal 1024, .watchWake 1024, .fallbackOffer 1024, .claim 5 0, .claim 0 6,
    .complete 5 0 0, .complete 0 6 0, .targetConfigWrite 5 0 0, .targetConfigWrite 0 6 0, .pendSet 16 0, .pendClr 16 0,
    .maskSet 16 0, .maskClr 16 0, .icuPlainWrite .pend 16 0, .icuPlainWrite .mask 16 0, .icuPlainWrite .cfg 256 0,
    .watchWrite 32 0] = true := by decide
theorem test_wf_mailboxes : refuses .full [.post 5 0 0, .post 0 64 0, .take 5 0, .take 0 64, .free 5 0 0, .free 0 64 0,
    .ackClear 5 0 0, .ackClear 0 64 0, .tostClear 5 0 0, .tostClear 0 64 0, .mailboxMaskWrite 5 0 0, .mailboxMaskWrite 0 64 0,
    .noticeTimeout 64 0, .noticeTimeout 0 32, .objectRead 64 0, .objectRead 0 32, .objectWrite 64 0, .objectWrite 0 32,
    .attach 64 0, .attach 0 32, .heartbeat 64 0, .heartbeat 0 32, .detach 64 0, .detach 0 32] = true := by decide
theorem test_wf_cores : refuses .full [.coreStartTimeout 4 ⟨0, []⟩, .coreCrash 4 0 ⟨0, []⟩, .coreCrash 0 256 ⟨0, []⟩,
    .watchdogExpiry 4 ⟨0, []⟩, .componentFault 4 0 .illegal ⟨0, []⟩, .componentFault 0 8 .illegal ⟨0, []⟩,
    .bankReloadComplete 4 (release 0), .bankReloadComplete 0 (release 4), .coreRestartComplete 4, .releaseHold 1 4 1,
    .bootComplete (image 4) [release 4], .updateLoadData 1 (List.replicate 4097 0)] = true := by decide +kernel
theorem test_wf_addresses : refuses .full [.g3Read 0x10000, .g3Read 2, .registerWrite 0x100000 0xFF 0,
    .registerWrite 4 0xFF 0] = true := by decide
theorem test_wf_frames : refuses .full ([{ frame 1 [] with src := 2 ^ 48 }, { frame 1 [] with dst := 2 ^ 48 },
    { frame 1 [] with version := 256 }, { frame 1 [] with kind := 256 }, { frame 1 [] with session := 65536 },
    { frame 1 [] with seq := 65536 }, { frame 1 [] with bodyLen := 65536 }, { frame 1 [] with schema := 65536 },
    { frame 1 [] with flags := 65536 }, { frame 1 [] with epoch := 2 ^ 32 }].flatMap (fun f => [.muOpen f, .muClose f,
      .muRead f, .muWrite f, .muReadInit f, .muWriteInit f, .muSegment f, .muSegmentAck f, .muAbort f, .malformedFrame f,
      .eventAck f, .budget f, .budgetAck f, .time f 0])) = true := by decide +kernel
theorem test_wf_images : refuses .full ([{ release 0 with keySlot := 256 }, { release 0 with major := 256 },
    { release 0 with minor := 256 }, { release 0 with patch := 256 }, { release 0 with security := 2 ^ 32 }].map
      (fun f => .bankReloadComplete 0 f)) = true := by decide
/-- The last value in range is allowed. -/
theorem test_wf_last : allows .full [.stageFault 95, .fSwBoundary 7, .droopReport 511 0 0, .freezeRelease 31, .issue 3 0,
    .predictedSlotExpiry 65535, .sensorRearm 1 287 1, .followingError 159, .faultTrigger 63 3 255 255 0, .signal 1023,
    .claim 4 5, .post 4 63 0, .noticeTimeout 63 31, .coreCrash 3 255 ⟨0, []⟩, .registerWrite 0xFFFF8 0xFF 0,
    .g3Read 0xFFFC, .clockTrim (-32768), .bootComplete (image 4) firmware, .muOpen (frame 1 [])] = true := by decide +kernel

/-! ### Single steps -/

/-- The state after a command, which always answers one. -/
def after (c : Instr) (s : State) : State :=
  match exec c s with
  | .next t => t
  | _ => s

/-- Read of 0x1000:01 through the object window (15 R367). -/
theorem test_window_read : (after (.objectWindowRead 0x4010000100000004)
    { up with window := { up.window with claimed := true } }).answer = ⟨0, bytesLE 4 (up.obj 0x1000 1)⟩ := by decide +kernel
/-- A temperature trip of the sub-island takes the Governor to TRIP and its latch stays (09 R241, R243). -/
theorem test_oxst_trip : ((after (.oxsTTrip 3) up).gov.st, (after (.oxsTTrip 3) up).gov.tripLatch) = (.trip, true) := by
  decide +kernel
/-- Stage fault of a lane under watch (03 R67). -/
theorem test_stage_fault : ((after (.stageFault 95) (laneIs { st := .active })).lane 95).st = .retry := by decide +kernel
/-- POWER_ON in STANDBY begins a sequence (10 R261, 04 R115). -/
theorem test_power_on : (after (.powerOn 1) (inState .standby)).gov.st = .sequencing := by decide +kernel
/-- POWER_ON in RUN is refused with 0x00040001 (15 R362). -/
theorem test_power_on_refused : ((after (.powerOn 1) up).gov.st, (after (.powerOn 1) up).answer.code) = (.run, 0x00040001) := by
  decide +kernel
/-- A write outside the range of 0x2800:01 (15 R362 order 9). -/
theorem test_quantum_range : (after (.quantumWrite 1 999) (inState .standby)).answer.code = 0x00030002 := by decide +kernel
/-- The release from four steps leaves three (05 R129). -/
theorem test_stretch_release : ((after (.stretchReleaseStep 31 false false) (droopIs { stretch := 4 })).droop 31).stretch = 3 := by
  decide +kernel
/-- ISSUE of an array that the descriptor does not use: HOLD with reason 6 (06, 07 R169). -/
theorem test_issue_unused : tget (after (.issue 0 0x4000000000000000) up).tally.answers 0 0 = 0x60000000 := by
  decide +kernel
/-- A doorbell of a software source makes it pending; one of a hardware source does not (13 R321). -/
theorem test_doorbell : ((after (.doorbell 0x200) up).srcPending 0x200, (after (.doorbell 0x40) up).srcPending 0x40) =
    (true, false) := by decide +kernel
/-- The take of a posted notice by its receiver (13 R332). -/
theorem test_take : (((after (.take 3 63) (slotIs { st := .posted })).channel 63).slot 31).st = .taken := by decide +kernel
/-- A post into a free slot (13 R331). -/
theorem test_post : (((after (.post 4 63 0x001F004000000040) (put [(0x7500 + 63, 3, 64), (0x7500 + 63, 4, 64)] up)).channel
    63).slot 31).st = .posted := by decide +kernel
/-- A claim by another agent reads 0 (13 R323). -/
theorem test_claim_stranger : (after (.claim 0 1) up).icu.claimWord = 0 := by decide +kernel
/-- A register write to ICU PEND_SET acts as PEND_SET (18). -/
theorem test_register_pend_set : (after (.registerWrite 0x2200 0xFF 2) up).srcPending 1 = true := by decide +kernel
/-- A fuse write is taken only while trip_n is low (19 R440). -/
theorem test_fuse_write : ((after (.fuseWrite .serial 9) { up with gov := { up.gov with govRstLow := true } }).test.fuses.serial,
    (after (.fuseWrite .serial 9) up).test.fuses.serial) = (9, 0) := by decide +kernel
/-- Loss of SYNC_IN enters HOLDOVER (02 R43). -/
theorem test_sync_loss : (after .syncInLoss up).tb.tb = .holdover := by decide +kernel
/-- A frame of another destination is not handled (15 R368). -/
theorem test_foreign_frame : (after (.muOpen { frame 1 (bytesLE 8 0) with dst := 0x12 }) up).muriri = up.muriri := by decide +kernel
/-- OPEN on an idle port opens a session for its sender (15 R370). -/
theorem test_open : ((after (.muOpen (frame 1 (bytesLE 8 0))) up).muriri.sessions.map (fun p => p.2.mac)) = [0x22] := by
  decide +kernel
/-- The G3 status code of RUN is 3 (14 R431). -/
theorem test_g3_status : (after (.g3Read 4) (put [(0x7400, 1, 1)] up)).host.read.toNat % 256 = 3 := by decide +kernel
/-- The idle step lets one cycle pass. -/
theorem test_idle : (match step up with
    | .next t => t.tb.now
    | _ => 0) = up.tb.now + 1 := by decide +kernel
/-- A wrong image or wrong firmware latches pin 55 and BOOT does not end (14 R344, 12). -/
theorem test_boot_fails : ((after (.bootComplete (image 3) []) { State.reset with tb := { State.reset.tb with gclk := true } }).pin
    55).latched = true := by decide +kernel

/-! ### Hypotheses met, statement by statement and clause by clause -/

theorem witness_StepRunsFront :
    (∃ (c : Instr) (rest : List Instr) (s : State), s.pending = c :: rest) := by
  refine ⟨.clockFailure, [], { up with pending := [.clockFailure] }, ?_⟩; decide +kernel

theorem witness_IdleStep :
    (∃ (s : State), s.pending = []) := by
  refine ⟨up, ?_⟩; decide +kernel

theorem witness_StepKeepsSound :
    (∃ (s : State) (t : State), s.Sound ∧ step s = .next t) := by
  refine ⟨up, { up with tb := { up.tb with now := 1 } }, ⟨by decide +kernel, by decide +kernel⟩, rfl⟩ <;> decide +kernel

theorem witness_QueueIsServed :
    (∃ (c : Instr) (rest : List Instr) (s : State), s.pending = c :: rest) := by
  refine ⟨.clockFailure, [], { up with pending := [.clockFailure] }, ?_⟩; decide +kernel

theorem witness_Resets :
    (∃ (s : State), s.gov.st = .boot) ∧
    (∃ (s : State), s.gov.st ≠ .boot) ∧
    (∃ (s : State), s.gov.st ≠ .off) ∧
    (∃ (s : State), s.gov.st = .off) ∧
    (∃ (s : State), s.gov.govRstLow = true) ∧
    (∃ (s : State), s.gov.govRstLow = false) ∧
    (∃ (s : State), s.tb.gclk = true ∧ s.gov.st ≠ .off) ∧
    (∃ (s : State), (s.tb.gclk = false ∨ s.gov.st = .off)) := by
  refine ⟨⟨(inState .boot), ?_⟩,
    ⟨up, ?_⟩,
    ⟨up, ?_⟩,
    ⟨(inState .off), ?_⟩,
    ⟨{ up with gov := { up.gov with govRstLow := true } }, ?_⟩,
    ⟨up, ?_⟩,
    ⟨up, ?_⟩,
    ⟨(inState .off), ?_⟩⟩ <;> decide +kernel

theorem witness_BootOutcome :
    (∃ (img : Image) (fw : List FwImage) (s : State), (s.gov.st = .boot ∨ s.gov.st = .trip ∨ s.gov.st = .cooldown) ∧
      s.gov.booting = true ∧ s.tb.gclk = true ∧ ((s.withImage img).imageWrong img = true ∨ s.firmwareGood fw = false)) ∧
    (∃ (img : Image) (fw : List FwImage) (s : State), (s.gov.st = .boot ∨ s.gov.st = .trip ∨ s.gov.st = .cooldown) ∧
      s.gov.booting = true ∧ s.tb.gclk = true ∧ (s.withImage img).imageWrong img = false ∧ s.firmwareGood fw = true) ∧
    (∃ (s : State), (s.gov.booting = false ∨ s.tb.gclk = false ∨ (s.gov.st ≠ .boot ∧ s.gov.st ≠ .trip ∧ s.gov.st ≠
      .cooldown))) := by
  refine ⟨⟨image 3, [], { State.reset with tb := { State.reset.tb with gclk := true } }, ?_⟩,
    ⟨image 4, firmware, { State.reset with tb := { State.reset.tb with gclk := true } }, ?_⟩,
    ⟨up, ?_⟩⟩ <;> decide +kernel

theorem witness_ClockEvents :
    (∃ (s : State), s.tb.gclk = false ∧ s.gov.govRstLow = false ∧ s.gov.st ≠ .off ∧ (s.gov.booting = true ∨ s.tb.waking =
      true)) ∧
    (∃ (s : State), (s.tb.gclk = true ∨ s.gov.govRstLow = true ∨ s.gov.st = .off ∨ (s.gov.booting = false ∧ s.tb.waking =
      false))) ∧
    (∃ (s : State), (s.tb.gclk = true ∨ s.tb.waking = true) ∧ s.gov.st ≠ .off ∧ s.gov.gathered = none ∧ (s.pin 0).latched =
      false ∧ 4 ≤ s.obj 0x5010 2) ∧
    (∃ (s : State), s.tb.gclk = false ∧ s.tb.waking = false) ∧
    (∃ (s : State), s.gov.st = .standby ∧ s.tb.gclk = false ∧ s.gov.govRstLow = false) ∧
    (∃ (s : State), s.gov.st = .standby ∧ s.tb.gclk = true ∧ s.flag 0x1200 5 = true ∧ s.tb.lastUse = none) ∧
    (∃ (u : Nat) (s : State), s.gov.st = .standby ∧ s.tb.gclk = true ∧ s.flag 0x1200 5 = true ∧ s.tb.lastUse = some u) ∧
    (∃ (s : State), s.tb.gclk = true ∧ s.tb.tb = .locked) ∧
    (∃ (s : State), s.tb.gclk = true ∧ s.tb.tb = .holdover) ∧
    (∃ (s : State), s.tb.gclk = true ∧ s.tb.tb = .holdover ∧ s.tb.relock = .none) ∧
    (∃ (err : Int) (s : State), s.tb.gclk = true ∧ s.tb.relock = .pulling ∧ err.natAbs ≤ 336) := by
  refine ⟨⟨{ up with tb := { up.tb with gclk := false, waking := true } }, ?_⟩,
    ⟨up, ?_⟩,
    ⟨up, ?_⟩,
    ⟨{ up with tb := { up.tb with gclk := false } }, ?_⟩,
    ⟨{ up with gov := { up.gov with st := .standby }, tb := { up.tb with gclk := false } }, ?_⟩,
    ⟨(put [(0x1200, 5, 1)] (inState .standby)), ?_⟩,
    ⟨5, { (put [(0x1200, 5, 1)] (inState .standby)) with tb := { up.tb with lastUse := some 5 } }, ?_⟩,
    ⟨up, ?_⟩,
    ⟨{ up with tb := { up.tb with tb := .holdover } }, ?_⟩,
    ⟨{ up with tb := { up.tb with tb := .holdover } }, ?_⟩,
    ⟨-336, { up with tb := { up.tb with tb := .holdover, relock := .pulling } }, ?_⟩⟩ <;> decide +kernel

theorem witness_FrameTicks :
    (∃ (s : State), s.tb.gclk = true) ∧
    (∃ (s : State), s.tb.gclk = true ∧ s.gov.st.words = true ∧ (∀ r, s.railUsed r = true → (s.shaper r).ran = true → ∀ k, k <
      4 → (s.law (8 + 4 * r + k)).next.isSome = true)) ∧
    (∃ (s : State), s.tb.gclk = true ∧ s.tb.cframe % 1000 = 0) ∧
    (∃ (s : State), s.tb.cframe % 1000 ≠ 0) ∧
    (∃ (c : Instr) (s : State), s.tb.gclk = false ∧ (c = .cFrameTick ∨ c = .tallyCommit ∨ (∃ l p, c = .fFrameTick l p) ∨ (∃ l
      b, c = .fFrameCommit l b) ∨ (∃ l, c = .cFrameCompetition l) ∨ (∃ b, c = .cFrameRateCommit b) ∨ ∃ l, c = .hFrameTick l)) := by
  refine ⟨⟨up, ?_⟩,
    ⟨lawsRan, ?_, ?_, lawsReady⟩,
    ⟨up, ?_⟩,
    ⟨{ up with tb := { up.tb with cframe := 999 } }, ?_⟩,
    ⟨.tallyCommit, { up with tb := { up.tb with gclk := false } }, ?_, .inr (.inl rfl)⟩⟩ <;> decide +kernel

theorem witness_SlowFrames :
    (∃ (n : Nat) (s : State), s.tb.gclk = true ∧ s.tb.cframe % s.sLength = 0 ∧ n < 256 ∧ s.sensorUsed n = true) ∧
    (∃ (s : State), (s.tb.gclk = false ∨ s.tb.cframe % s.sLength ≠ 0)) ∧
    (∃ (s : State), s.tb.gclk = true ∧ (s.tb.cframe + 1) % s.sLength = 0) ∧
    (∃ (s : State), (s.tb.gclk = false ∨ (s.tb.cframe + 1) % s.sLength ≠ 0)) ∧
    (∃ (rail : Nat) (s : State), s.railUsed rail = true ∧ 6 ≤ (s.rail rail).overruns) ∧
    (∃ (rail : Nat) (s : State), (s.railUsed rail = false ∨ (s.rail rail).overruns < 6)) := by
  refine ⟨⟨255, up, ?_⟩,
    ⟨{ up with tb := { up.tb with cframe := 99 } }, ?_⟩,
    ⟨{ up with tb := { up.tb with cframe := 99 } }, ?_⟩,
    ⟨up, ?_⟩,
    ⟨7, (railIs { overruns := 6 }), ?_⟩,
    ⟨7, (railIs { overruns := 5 }), ?_⟩⟩ <;> decide +kernel

theorem witness_ThermalReads :
    (∃ (raw : Option (BitVec 16)) (k : Nat) (e : ExtSensor) (v : Int) (s : State), s.tb.gclk = true ∧ ((s.externals.find?
      (fun k => s.thermal.extNext ≤ k)).or s.externals.head? = some k) ∧ s.extSensor (272 + k) = some e ∧ raw.bind
      (extReading e) = some v) ∧
    (∃ (raw : Option (BitVec 16)) (k : Nat) (e : ExtSensor) (s : State), s.tb.gclk = true ∧ ((s.externals.find? (fun k =>
      s.thermal.extNext ≤ k)).or s.externals.head? = some k) ∧ s.extSensor (272 + k) = some e ∧ raw.bind (extReading e) =
      none ∧ s.thermal.extRetry = false) ∧
    (∃ (raw : Option (BitVec 16)) (k : Nat) (e : ExtSensor) (s : State), s.tb.gclk = true ∧ ((s.externals.find? (fun k =>
      s.thermal.extNext ≤ k)).or s.externals.head? = some k) ∧ s.extSensor (272 + k) = some e ∧ raw.bind (extReading e) =
      none ∧ s.thermal.extRetry = true) ∧
    (∃ (k : Nat) (s : State), s.tb.gclk = true ∧ k < 16 ∧ s.sensorUsed (256 + k) = true) ∧
    (∃ (k : Nat) (u : Nat) (s : State), (s.sensor (256 + k)).censusEnd = some u ∧ s.calm 37) ∧
    (∃ (k : Nat) (s : State), (s.sensor (256 + k)).censusEnd = none) := by
  refine ⟨⟨some 0x0100, 15, ⟨15, 65536, 0, true⟩, 256, up, ?_⟩,
    ⟨none, 15, ⟨15, 65536, 0, true⟩, up, ?_⟩,
    ⟨none, 15, ⟨15, 65536, 0, true⟩, { up with thermal := { up.thermal with extRetry := true } }, ?_⟩,
    ⟨15, up, ?_⟩,
    ⟨15, 5, (put [(0x5010 + 37, 2, 1)] { up with sensors := [(271, { censusEnd := some 5 })] }), ?_⟩,
    ⟨15, up, ?_⟩⟩ <;> decide +kernel

theorem witness_ThermalShutdown :
    (∃ (n : Nat) (s : State), n < 256 ∧ s.gov.st ≠ .off ∧ s.gov.govRstLow = true) ∧
    (∃ (n : Nat) (s : State), n < 256 ∧ s.gov.st ≠ .off ∧ s.gov.st ≠ .trip ∧ s.gov.govRstLow = false ∧ s.gov.gathered = none
      ∧ (s.pin 35).latched = false ∧ 4 ≤ s.obj 0x5033 2 ∧ s.events.length < 64) ∧
    (∃ (failed : List Nat) (n : Nat) (s : State), s.tb.gclk = true ∧ n < 256 ∧ failed.contains n = false) ∧
    (∃ (s : State), s.gov.st = .trip ∧ s.gov.entered + 1008 ≤ s.tb.cStart) ∧
    (∃ (s : State), (s.gov.st ≠ .trip ∨ s.tb.cStart < s.gov.entered + 1008)) ∧
    (∃ (s : State), s.gov.st = .cooldown ∧ s.gov.scanMode = false ∧ s.gov.booting = false ∧ s.gov.tripCause = 4 ∧
      s.restartCool = true ∧ s.gov.autoTried = true) ∧
    (∃ (u : Nat) (s : State), s.gov.st = .cooldown ∧ s.gov.scanMode = false ∧ s.gov.booting = false ∧ s.gov.tripCause ≠ 4 ∧
      s.gov.critSince = some u) ∧
    (∃ (s : State), s.gov.st = .cooldown ∧ s.gov.prolonged = false ∧ s.calm 42) := by
  refine ⟨⟨255, { up with gov := { up.gov with govRstLow := true } }, ?_⟩,
    ⟨255, up, ?_⟩,
    ⟨[], 255, up, ?_⟩,
    ⟨{ up with gov := { up.gov with st := .trip, tripLatch := true }, tb := { up.tb with cStart := 1008 } }, ?_⟩,
    ⟨{ up with gov := { up.gov with st := .trip, tripLatch := true }, tb := { up.tb with cStart := 1007 } }, ?_⟩,
    ⟨{ up with gov := { up.gov with st := .cooldown, tripLatch := true, tripCause := 4, autoTried := true, booting := false } },
      ?_⟩,
    ⟨5, { up with gov := { up.gov with st := .cooldown, tripLatch := true, tripCause := 5, critSince := some 5 } }, ?_⟩,
    ⟨(put [(0x5010 + 42, 2, 1)] { up with gov := { up.gov with st := .cooldown, tripLatch := true } }), ?_⟩⟩ <;> decide +kernel

theorem witness_CoolantEvents :
    (∃ (s : State), s.coolSource ≠ 0) ∧
    (∃ (s : State), s.coolSource = 0) ∧
    (∃ (u : Nat) (s : State), s.thermal.coolSince = some u ∧ s.thermal.coolCap = true) ∧
    (∃ (s : State), (s.thermal.coolSince = none ∨ s.thermal.coolCap = false)) ∧
    (∃ (sess : Nat) (n : Nat) (s : State), n < 288 ∧ s.accepts sess (sensorObj n) 8 1 ∧ (s.sensorSt n = .quarantined ∨
      s.sensorSt n = .failed ∨ s.sensorSt n = .missing)) ∧
    (∃ (sess : Nat) (s : State), s.accepts sess 0x3008 8 1 ∧ 2 ≤ s.coolSource) ∧
    (∃ (sess : Nat) (d : Nat) (s : State), d < 32 ∧ s.accepts sess (0x3410 + d) 3 1 ∧ (s.domain d).st = .off ∧ (s.domain
      d).retryAt = none) ∧
    (∃ (sess : Nat) (d : Nat) (s : State), d < 32 ∧ s.accepts sess (0x3410 + d) 3 0 ∧ (s.domain d).st = .on ∧ (s.domain
      d).lostAt ≠ some s.tb.now ∧ s.poison = []) ∧
    (∃ (sess : Nat) (d : Nat) (s : State), d < 32 ∧ s.accepts sess (0x3410 + d) 9 1 ∧ (s.domain d).st = .faulted) := by
  refine ⟨⟨(put [(0x3008, 1, 1)] up), ?_⟩,
    ⟨up, ?_⟩,
    ⟨5, { up with thermal := { up.thermal with coolSince := some 5, coolCap := true, coolMgmt := some 5 } }, ?_⟩,
    ⟨up, ?_⟩,
    ⟨1, 287, { { up with sensors := [(287, { st := .failed })] } with gov := { up.gov with st := .service } }, ?_⟩,
    ⟨1, (put [(0x3008, 1, 2)] up), ?_⟩,
    ⟨1, 31, (domainIs { st := .off }), ?_⟩,
    ⟨1, 31, (domainIs { st := .on }), ?_⟩,
    ⟨1, 31, { (domainIs { st := .faulted }) with gov := { up.gov with st := .service } }, ?_⟩⟩ <;> decide +kernel

theorem witness_StageFaults :
    (∃ (n : Nat) (s : State), n < s.laneCount ∧ (s.lane n).watched = true ∧ ((s.lane n).st = .blind ∨ (s.lane n).observed
      s.tb.now = true ∨ s.openNow n = true)) ∧
    (∃ (n : Nat) (s : State), n < s.laneCount ∧ (s.lane n).watched = true ∧ (s.lane n).st ≠ .blind ∧ (s.lane n).observed
      s.tb.now = false ∧ s.openNow n = false ∧ s.calm 11) ∧
    (∃ (n : Nat) (low : Nat) (s : State), (s.lane n).st = .retry ∧ (s.lane n).retry = .waiting ∧ low < s.cyc 0x2000 5) ∧
    (∃ (n : Nat) (s : State), (s.lane n).st = .retry ∧ (s.lane n).retry = .waiting) ∧
    (∃ (n : Nat) (u : Nat) (s : State), (s.lane n).observing = some u) ∧
    (∃ (n : Nat) (s : State), (s.lane n).st = .active ∧ 4 ≤ (s.lane n).nearRun) ∧
    (∃ (n : Nat) (s : State), (s.laneCount ≤ n ∨ (s.lane n).watched = false)) ∧
    (∃ (n : Nat) (s : State), ((s.lane n).st = .retry → (s.lane n).retry ≠ .waiting)) ∧
    (∃ (n : Nat) (s : State), (s.lane n).observing = none) ∧
    (∃ (n : Nat) (s : State), ((s.lane n).st ≠ .active ∨ (s.lane n).nearRun < 4)) := by
  refine ⟨⟨95, (laneIs { st := .blind }), ?_⟩,
    ⟨95, (put [(0x5010 + 11, 2, 2)] (laneIs { st := .active })), ?_⟩,
    ⟨95, 0, (laneIs { st := .retry, retry := .waiting }), ?_⟩,
    ⟨95, (laneIs { st := .retry, retry := .waiting }), ?_⟩,
    ⟨95, 5, (laneIs { observing := some 5 }), ?_⟩,
    ⟨95, (laneIs { st := .active, nearRun := 4 }), ?_⟩,
    ⟨96, (laneIs { st := .active }), ?_⟩,
    ⟨95, (laneIs { st := .active }), ?_⟩,
    ⟨96, up, ?_⟩,
    ⟨95, (laneIs { st := .active, nearRun := 3 }), ?_⟩⟩ <;> decide +kernel

theorem witness_LaneTimers :
    (∃ (n : Nat) (u : Nat) (s : State), (s.lane n).wakeEnd = some u) ∧
    (∃ (n : Nat) (u : Nat) (s : State), (s.lane n).parkEnd = some u ∧ (s.lane n).st = .warm ∧ (s.lane n).startDue = false) ∧
    (∃ (n : Nat) (s : State), (s.lane n).st = .active ∧ (s.lane n).senseLost = true ∧ s.calm 9) ∧
    (∃ (r : Nat) (s : State), s.railUsed r = true ∧ s.atBoundary r = true) ∧
    (∃ (r : Nat) (k : Nat) (n : Nat) (s : State), s.railUsed r = true ∧ s.atBoundary r = true ∧ (s.rail r).pairShed = false ∧
      (s.rail r).shed = none ∧ (s.rail r).stepDue = false ∧ (s.runningLanes r)[k]? = some n) ∧
    (∃ (n : Nat) (s : State), (s.lane n).wakeEnd = none) ∧
    (∃ (n : Nat) (s : State), ((s.lane n).parkEnd = none ∨ (s.lane n).st ≠ .warm ∨ (s.lane n).startDue = true)) ∧
    (∃ (n : Nat) (s : State), ((s.lane n).st ≠ .active ∨ (s.lane n).senseLost = false)) ∧
    (∃ (r : Nat) (s : State), (s.railUsed r = false ∨ s.atBoundary r = false)) := by
  refine ⟨⟨95, 5, (laneIs { wakeEnd := some 5 }), ?_⟩,
    ⟨95, 5, (laneIs { parkEnd := some 5, st := .warm }), ?_⟩,
    ⟨95, (put [(0x5010 + 9, 2, 1)] (laneIs { st := .active, senseLost := true })), ?_⟩,
    ⟨7, up, ?_⟩,
    ⟨7, 0, 95, (laneIs { st := .active }), ?_⟩,
    ⟨95, (laneIs { st := .active }), ?_⟩,
    ⟨95, (laneIs { st := .active }), ?_⟩,
    ⟨95, (laneIs { st := .active }), ?_⟩,
    ⟨6, up, ?_⟩⟩ <;> decide +kernel

theorem witness_FireAndClamp :
    (∃ (r : Nat) (low : Nat) (s : State), s.railUsed r = true ∧ (low : Int) < s.fireLevel r ∧ (s.rail r).fireSeen = false ∧
      (s.rail r).fire = .armed ∧ s.flag (0x2200 + r) 0x19 = true ∧ (s.rail r).goodOnce = true ∧ (s.rail r).clamp = false ∧
      (s.rail r).senseLost = false ∧ s.gov.st.fires = true ∧ (s.rail r).fires ≠ 16) ∧
    (∃ (r : Nat) (low : Nat) (s : State), s.railUsed r = true ∧ (low : Int) < s.fireLevel r ∧ (s.rail r).fireSeen = false ∧
      (s.rail r).fire = .lockout) ∧
    (∃ (r : Nat) (low : Nat) (s : State), (s.rail r).fire = .firing ∧ s.recovered r low = true) ∧
    (∃ (r : Nat) (low : Nat) (s : State), (s.rail r).fire = .firing ∧ s.recovered r low = false) ∧
    (∃ (r : Nat) (low : Nat) (s : State), (s.rail r).fire = .lockout ∧ s.recovered r low = true) ∧
    (∃ (r : Nat) (high : Nat) (s : State), s.railUsed r = true ∧ (s.rail r).guarded = true ∧ (s.rail r).clamp = false ∧
      (s.rail r).setpoint + s.obj (0x2200 + r) 0x1A < high) ∧
    (∃ (r : Nat) (s : State), (s.rail r).shedDue = true ∧ s.shedBarred r = false) ∧
    (∃ (r : Nat) (low : Nat) (s : State), s.railUsed r = true ∧ (low : Int) < s.fireLevel r ∧ (s.rail r).fireSeen = true) ∧
    (∃ (r : Nat) (s : State), (s.rail r).fire ≠ .firing) ∧
    (∃ (r : Nat) (low : Nat) (s : State), ((s.rail r).fire ≠ .lockout ∨ s.recovered r low = false)) ∧
    (∃ (r : Nat) (high : Nat) (s : State), (s.railUsed r = false ∨ (s.rail r).guarded = false ∨ (s.rail r).clamp = true ∨
      high ≤ (s.rail r).setpoint + s.obj (0x2200 + r) 0x1A)) ∧
    (∃ (r : Nat) (s : State), ((s.rail r).shedDue = false ∨ s.shedBarred r = true)) := by
  refine ⟨⟨7, 11599, (put [(0x2200 + 7, 1, 12000), (0x2200 + 7, 0x16, 400), (0x2200 + 7, 0x17, 200), (0x2200 + 7, 0x19, 1)] (railIs
      { seq := .good, fire := .armed, goodOnce := true })), ?_⟩,
    ⟨7, 11599, (put [(0x2200 + 7, 1, 12000), (0x2200 + 7, 0x16, 400), (0x2200 + 7, 0x17, 200), (0x2200 + 7, 0x19, 1)] (railIs
      { fire := .lockout })), ?_⟩,
    ⟨7, 11800, (put [(0x2200 + 7, 1, 12000), (0x2200 + 7, 0x16, 400), (0x2200 + 7, 0x17, 200), (0x2200 + 7, 0x19, 1)] (railIs
      { fire := .firing })), ?_⟩,
    ⟨7, 11799, (put [(0x2200 + 7, 1, 12000), (0x2200 + 7, 0x16, 400), (0x2200 + 7, 0x17, 200), (0x2200 + 7, 0x19, 1)] (railIs
      { fire := .firing })), ?_⟩,
    ⟨7, 11800, (put [(0x2200 + 7, 1, 12000), (0x2200 + 7, 0x16, 400), (0x2200 + 7, 0x17, 200), (0x2200 + 7, 0x19, 1)] (railIs
      { fire := .lockout })), ?_⟩,
    ⟨7, 4000, (railIs { seq := .good, goodOnce := true }), ?_⟩,
    ⟨7, (railIs { shedDue := true }), ?_⟩,
    ⟨7, 11599, (put [(0x2200 + 7, 1, 12000), (0x2200 + 7, 0x16, 400), (0x2200 + 7, 0x17, 200), (0x2200 + 7, 0x19, 1)] (railIs
      { seq := .good, fireSeen := true })), ?_⟩,
    ⟨7, (railIs { fire := .lockout }), ?_⟩,
    ⟨7, 0, (railIs { fire := .firing }), ?_⟩,
    ⟨7, 1000, (railIs { seq := .good, setpoint := 1000 }), ?_⟩,
    ⟨7, (railIs {  }), ?_⟩⟩ <;> decide +kernel

theorem witness_RailFaults :
    (∃ (tap : Nat) (r : Nat) (s : State), s.tb.gclk = true ∧ s.gov.gathered = none ∧ s.senseRail tap = some r ∧ (s.senseTap
      tap).confirmed = true ∧ (s.senseTap tap).excluded = false) ∧
    (∃ (r : Nat) (high : Nat) (s : State), s.tb.gclk = true ∧ s.gov.gathered = none ∧ s.railUsed r = true ∧ (s.rail
      r).guarded = true ∧ s.obj (0x2200 + r) 3 + s.obj (0x2200 + r) 0x1A < high) ∧
    (∃ (r : Nat) (s : State), s.tb.gclk = true ∧ s.gov.gathered = none ∧ s.railUsed r = true ∧ 8 ≤ (s.rail r).uvRun) ∧
    (∃ (tap : Nat) (s : State), (s.senseRail tap = none ∨ (s.senseTap tap).confirmed = false ∨ (s.senseTap tap).excluded =
      true)) ∧
    (∃ (r : Nat) (high : Nat) (s : State), (s.railUsed r = false ∨ (s.rail r).guarded = false ∨ high ≤ s.obj (0x2200 + r) 3 +
      s.obj (0x2200 + r) 0x1A)) ∧
    (∃ (r : Nat) (s : State), (s.railUsed r = false ∨ (s.rail r).uvRun < 8)) := by
  refine ⟨⟨95, 7, { up with senseTaps := [(95, { confirmed := true })] }, ?_⟩,
    ⟨7, 65535, (railIs { seq := .good, goodOnce := true }), ?_⟩,
    ⟨7, (railIs { uvRun := 8 }), ?_⟩,
    ⟨95, up, ?_⟩,
    ⟨7, 0, (railIs { seq := .good }), ?_⟩,
    ⟨7, (railIs { uvRun := 7 }), ?_⟩⟩ <;> decide +kernel

theorem witness_SequencingEvents :
    (∃ (r : Nat) (s : State), s.gov.phase = .supply ∧ s.railUsed r = true ∧ s.position r = s.gov.seqPos) ∧
    (∃ (p : Nat) (r : Nat) (s : State), s.gov.phase = .delay ∧ s.nextPosition (some s.gov.seqPos) = some p ∧ s.railUsed r =
      true ∧ s.position r = p) ∧
    (∃ (r : Nat) (n : Nat) (s : State), (s.rail r).seq = .census ∧ s.gov.phase = .rails ∧ 64 ≤ (s.rail r).censusN ∧
      s.railUsed r = true ∧ n ∈ s.railLanes r) ∧
    (∃ (r : Nat) (stuck : List Nat) (s : State), (s.rail r).seq = .census ∧ s.gov.phase = .rails ∧ 64 ≤ (s.rail r).censusN ∧
      s.railUsed r = true ∧ (∀ n ∈ s.railLanes r, 64 ≤ (s.lane n).good ∧ (s.lane n).bad = false ∧ n ∉ stuck) ∧ s.laneFloor r
      ≤ (s.railLanes r).length) ∧
    (∃ (r : Nat) (s : State), (s.rail r).seq = .ramping ∧ 16 ≤ (s.rail r).pgRun ∧ s.gov.phase ≠ .rails) ∧
    (∃ (r : Nat) (p : Nat) (s : State), (s.rail r).seq = .ramping ∧ 16 ≤ (s.rail r).pgRun ∧ s.gov.phase = .rails ∧ (∀ k ∈
      s.positionRails s.gov.seqPos, k ≠ r → (s.rail k).seq = .good) ∧ s.nextPosition (some s.gov.seqPos) = some p) ∧
    (∃ (r : Nat) (s : State), s.tb.gclk = true ∧ s.gov.gathered = none ∧ (s.rail r).seq = .ramping) ∧
    (∃ (r : Nat) (s : State), s.tb.gclk = true ∧ s.gov.gathered = none ∧ s.gov.phase = .supply ∧ s.railUsed r = true ∧
      s.position r = s.gov.seqPos) ∧
    (∃ (r : Nat) (high : Nat) (s : State), (s.rail r).seq = .discharging ∧ high < s.obj 0x2003 2) ∧
    (∃ (r : Nat) (s : State), (s.rail r).seq = .discharging) ∧
    (∃ (s : State), s.gov.phase ≠ .supply) ∧
    (∃ (s : State), s.gov.phase ≠ .delay) ∧
    (∃ (r : Nat) (s : State), (s.rail r).seq ≠ .census) ∧
    (∃ (r : Nat) (s : State), (s.rail r).seq ≠ .ramping) ∧
    (∃ (r : Nat) (s : State), (s.rail r).seq ≠ .discharging) := by
  refine ⟨⟨7, { up with gov := { up.gov with phase := .supply } }, ?_⟩,
    ⟨1, 7, (put [(0x2200 + 7, 0x1F, 1)]
      { up with desc := { up.desc with rails := [⟨0, []⟩, ⟨7, []⟩] }, gov := { up.gov with phase := .delay } }), ?_⟩,
    ⟨7, 95,
      { (railIs { seq := .census, censusN := 64 }) with gov := { up.gov with phase := .rails }, lanes := [(95, { good := 64 })] },
      ?_⟩,
    ⟨7, [],
      { (railIs { seq := .census, censusN := 64 }) with gov := { up.gov with phase := .rails }, lanes := [(95, { good := 64 })] },
      ?_⟩,
    ⟨7, (railIs { seq := .ramping, pgRun := 16 }), ?_⟩,
    ⟨0, 1,
      { (put [(0x2200 + 7, 0x1F, 1)] { up with desc := { up.desc with rails := [⟨0, []⟩, ⟨7, []⟩] }, gov := { up.gov with phase := .rails } }) with rails := [(0, { seq := .ramping, pgRun := 16 })] },
      ?_⟩,
    ⟨7, (railIs { seq := .ramping }), ?_⟩,
    ⟨7, { up with gov := { up.gov with phase := .supply } }, ?_⟩,
    ⟨7, 799, (put [(0x2003, 2, 800)] (railIs { seq := .discharging })), ?_⟩,
    ⟨7, (railIs { seq := .discharging }), ?_⟩,
    ⟨up, ?_⟩,
    ⟨up, ?_⟩,
    ⟨7, (railIs { seq := .good }), ?_⟩,
    ⟨7, (railIs { seq := .good }), ?_⟩,
    ⟨7, (railIs { seq := .good }), ?_⟩⟩ <;> decide +kernel

theorem witness_DroopReports :
    (∃ (k : Nat) (s : State), s.tapCount ≤ k) ∧
    (∃ (k : Nat) (rep : BitVec 10) (v : BitVec 16) (s : State), k < s.tapCount ∧ (s.tap k).st = .valid ∧ (s.tap k).parityBad
      = false ∧ reportParity rep v = true ∧ rep.getLsbD 6 = true) ∧
    (∃ (k : Nat) (d : Nat) (lv : Nat) (rep : BitVec 10) (v : BitVec 16) (s : State), k < s.tapCount ∧ (s.tap k).st = .valid ∧
      (s.tap k).parityBad = false ∧ reportParity rep v = true ∧ rep.getLsbD 6 = true ∧ s.tapGroup k < 64 ∧ s.groupDomain
      (s.tapGroup k) = d ∧ reachOf (s.group (s.tapGroup k)) (rep.toNat % 64) (rep.getLsbD 7) (rep.getLsbD 8) = lv ∧ 1 ≤ lv ∧
      lv ≤ 2 ∧ (∀ j ∈ s.domainTaps d, j ≠ k → (s.tap j).st.used = true → (s.tap j).reach ≤ lv) ∧ (s.droop d).fast = 0 ∧
      s.assayer.groups = []) ∧
    (∃ (k : Nat) (rep : BitVec 10) (v : BitVec 16) (s : State), k < s.tapCount ∧ (s.tap k).st = .valid ∧ reportParity rep v =
      false) ∧
    (∃ (d : Nat) (s : State), s.domainUsed d = true ∧ (s.domain d).good = true ∧ s.forcedOff = false ∧ ((s.domainTaps d).any
      (fun t => (s.tap t).st.used) = true)) ∧
    (∃ (d : Nat) (s : State), (s.domainUsed d = false ∨ (s.domain d).good = false ∨ s.forcedOff = true ∨ (s.domainTaps d).any
      (fun t => (s.tap t).st.used) = false)) ∧
    (∃ (k : Nat) (s : State), k < s.tapCount ∧ (s.tap k).st = .idle) := by
  refine ⟨⟨512, up, ?_⟩,
    ⟨511, 0x240, 0, (tapIs { st := .valid }), ?_⟩,
    ⟨511, 31, 2, 0x04E, 0, (tapIs { st := .valid }), ?_, ?_, ?_, ?_, ?_, ?_, ?_, ?_, ?_, ?_, fun j _ hj hu => absurd hu (by
      have e : 511 ≠ j := Ne.symm hj; simp [State.tap, tapIs, tget, e, TapSt.used]), ?_, ?_⟩,
    ⟨511, 0x200#10, 0, (tapIs { st := .valid }), ?_⟩,
    ⟨31, { (domainIs { st := .on }) with taps := [(511, { st := .valid })] }, ?_⟩,
    ⟨31, up, ?_⟩,
    ⟨511, (tapIs { st := .idle }), ?_⟩⟩ <;> decide +kernel

theorem witness_DroopReleases :
    (∃ (d : Nat) (sl : Bool) (s : State), 4 ≤ (s.droop d).stretch ∧ sl = false) ∧
    (∃ (d : Nat) (sl : Bool) (s : State), 2 ≤ (s.droop d).stretch ∧ (s.droop d).stretch < 4 ∧ sl = false) ∧
    (∃ (d : Nat) (dl : Bool) (sl : Bool) (s : State), (s.droop d).stretch = 1 ∧ s.domainBlind d = false ∧ dl = false ∧ sl =
      false) ∧
    (∃ (d : Nat) (s : State), (s.droop d).frozen.isSome = true) ∧
    (∃ (d : Nat) (u : Nat) (s : State), (s.droop d).frozen = some u ∧ (s.droop d).long = false ∧ s.calm 21) ∧
    (∃ (d : Nat) (c : Nat) (w : Window) (s : State), (s.droop d).window = some w ∧ w.closed = some c) ∧
    (∃ (k : Nat) (s : State), (s.tap k).st = .valid ∧ 3 ≤ (s.tap k).suspect) ∧
    (∃ (k : Nat) (s : State), (s.tap k).st = .suspect ∧ (s.tap k).agreed = some true) ∧
    (∃ (k : Nat) (s : State), (s.tap k).st = .suspect ∧ (s.tap k).agreed = some false) ∧
    (∃ (d : Nat) (s : State), (s.droop d).stretch = 1 ∧ s.domainBlind d = true) ∧
    (∃ (d : Nat) (sl : Bool) (s : State), 4 ≤ (s.droop d).stretch ∧ sl = true ∧ (s.droop d).safeUses = 0 ∧ (s.droop d).fast =
      0) ∧
    (∃ (d : Nat) (s : State), (s.droop d).frozen = none) ∧
    (∃ (d : Nat) (s : State), (s.droop d).long = true) ∧
    (∃ (d : Nat) (s : State), (∀ w, (s.droop d).window = some w → w.closed = none)) ∧
    (∃ (k : Nat) (s : State), ((s.tap k).st ≠ .valid ∨ (s.tap k).suspect < 3) ∧ ((s.tap k).st ≠ .suspect ∨ (s.tap k).agreed =
      none)) := by
  refine ⟨⟨31, false, (droopIs { stretch := 4 }), ?_⟩,
    ⟨31, false, (droopIs { stretch := 3 }), ?_⟩,
    ⟨31, false, false, { (droopIs { stretch := 1 }) with taps := [(511, { st := .valid })] }, ?_⟩,
    ⟨31, (droopIs { frozen := some 5 }), ?_⟩,
    ⟨31, 5, (put [(0x5010 + 21, 2, 1)] (droopIs { frozen := some 5 })), ?_⟩,
    ⟨31, 5, { opened := 0, closed := some 5 }, (droopIs { window := some { opened := 0, closed := some 5 } }), ?_⟩,
    ⟨511, (tapIs { st := .valid, suspect := 3 }), ?_⟩,
    ⟨511, (tapIs { st := .suspect, agreed := some true }), ?_⟩,
    ⟨511, (tapIs { st := .suspect, agreed := some false }), ?_⟩,
    ⟨31,
      { (droopIs { stretch := 1 }) with taps := [(511, { st := .masked })], domains := [(31, { st := .on, censusDone := true })] },
      ?_⟩,
    ⟨31, true, (droopIs { stretch := 4 }), ?_⟩,
    ⟨31, up, ?_⟩,
    ⟨31, (droopIs { frozen := some 5, long := true }), ?_⟩,
    ⟨31, (droopIs { window := some { opened := 0 } }), ?_⟩,
    ⟨511, (tapIs { st := .valid, suspect := 2 }), ?_⟩⟩ <;> decide +kernel

theorem witness_DomainWake :
    (∃ (d : Nat) (s : State), (s.domain d).wanted = true ∧ (s.domain d).st = .off ∧ s.domainUsed d = true ∧ s.wakeRoom d =
      true ∧ s.rushRoom d = true) ∧
    (∃ (d : Nat) (u : Nat) (s : State), (s.domain d).stageAt = some u ∧ (s.domain d).st = .waking) ∧
    (∃ (d : Nat) (s : State), (s.domain d).st = .waking ∧ (s.domain d).pgEnd.isSome = true) ∧
    (∃ (d : Nat) (u : Nat) (s : State), (s.domain d).isoAt = some u ∧ (s.domain d).st = .settling ∧ s.gov.phase ≠ .domains) ∧
    (∃ (d : Nat) (u : Nat) (s : State), (s.domain d).retryAt = some u ∧ (s.domain d).st = .off ∧ (s.domain d).wanted = false)
      ∧
    (∃ (d : Nat) (s : State), s.domainUsed d = true ∧ (s.domain d).st = .off ∧ (s.domain d).wanted = false ∧ (s.domain
      d).retryAt = none ∧ s.autoWakes d = true ∧ ((s.domain d).written = false ∨ s.obj (0x3410 + d) 3 = 1) ∧ s.workAhead d =
      true ∧ s.gov.st.words = true ∧ (s.rail (s.droopRail d)).good = true ∧ s.gov.seqDown = false) ∧
    (∃ (d : Nat) (u : Nat) (s : State), (s.domain d).pgEnd = some u ∧ (s.domain d).st = .waking) ∧
    (∃ (d : Nat) (u : Nat) (s : State), (s.domain d).wanted = true ∧ (s.domain d).st = .off ∧ s.initialOn d = true ∧ s.gov.st
      = .sequencing ∧ s.gov.phase = .domains ∧ s.rushRoom d = false ∧ (s.domain d).rushWait = some u) ∧
    (∃ (d : Nat) (s : State), ((s.domain d).wanted = false ∨ (s.domain d).st ≠ .off ∨ s.wakeRoom d = false ∨ s.rushRoom d =
      false)) ∧
    (∃ (d : Nat) (s : State), (s.domain d).st ≠ .waking) ∧
    (∃ (d : Nat) (s : State), (s.domain d).st ≠ .settling) ∧
    (∃ (d : Nat) (s : State), (s.domain d).st ≠ .off) ∧
    (∃ (d : Nat) (s : State), (s.domain d).stageAt = none) := by
  refine ⟨⟨31, (domainIs { wanted := true, st := .off }), ?_⟩,
    ⟨31, 5, (domainIs { stageAt := some 5, st := .waking }), ?_⟩,
    ⟨31, (domainIs { pgEnd := some 5, st := .waking }), ?_⟩,
    ⟨31, 5, (domainIs { isoAt := some 5, st := .settling }), ?_⟩,
    ⟨31, 5, (domainIs { retryAt := some 5, st := .off }), ?_⟩,
    ⟨31,
      { (put [(0x3410 + 31, 1, 4), (0x3410 + 31, 8, 1)] (domainIs { st := .off })) with rails := [(7, { seq := .good })], tally := { up.tally with domHor := [(31, List.replicate 65 1)] } },
      ?_⟩,
    ⟨31, 5, (domainIs { pgEnd := some 5, st := .waking }), ?_⟩,
    ⟨31, 5,
      { (put [(0x3410 + 31, 1, 1), (0x3410 + 31, 4, 1)] (domainIs { wanted := true, st := .off, rushWait := some 5 })) with gov := { up.gov with st := .sequencing, phase := .domains } },
      ?_⟩,
    ⟨31, (domainIs { st := .off }), ?_⟩,
    ⟨31, (domainIs { st := .on }), ?_⟩,
    ⟨31, (domainIs { st := .on }), ?_⟩,
    ⟨31, (domainIs { st := .on }), ?_⟩,
    ⟨31, (domainIs { st := .on }), ?_⟩⟩ <;> decide +kernel

theorem witness_DomainGating :
    (∃ (d : Nat) (u : Nat) (s : State), (s.domain d).stageAt = some u ∧ (s.domain d).st = .gating ∧ 1 < (s.domain d).stages)
      ∧
    (∃ (d : Nat) (u : Nat) (s : State), (s.domain d).stageAt = some u ∧ (s.domain d).st = .gating ∧ (s.domain d).stages ≤ 1 ∧
      (s.domain d).after = .off ∧ (s.domain d).wanted = false ∧ s.gov.phase ≠ .gating) ∧
    (∃ (d : Nat) (s : State), (s.domain d).st = .draining ∧ s.domainSlots d .granted = []) ∧
    (∃ (d : Nat) (u : Nat) (s : State), (s.domain d).drainEnd = some u ∧ (s.domain d).st = .draining) ∧
    (∃ (d : Nat) (s : State), (s.domain d).good = true) ∧
    (∃ (d : Nat) (u : Nat) (s : State), (s.domain d).pgAt = some u ∧ (s.domain d).st = .settling ∧ (s.domain d).censusEnd =
      none ∧ (s.domain d).censusDone = false) ∧
    (∃ (d : Nat) (s : State), (s.domain d).st = .settling ∧ (s.domain d).censusEnd.isSome = true ∧ (∀ k ∈ s.domainTaps d, 256
      ≤ (s.tap k).run) ∧ s.calm 20 ∧ s.gov.phase ≠ .domains) ∧
    (∃ (d : Nat) (u : Nat) (k : Nat) (s : State), (s.domain d).censusEnd = some u ∧ (s.domain d).st = .settling ∧ k ∈
      s.domainTaps d ∧ (s.tap k).run < 256) ∧
    (∃ (d : Nat) (s : State), (s.domain d).st ≠ .draining) ∧
    (∃ (d : Nat) (s : State), (s.domain d).good = false) ∧
    (∃ (d : Nat) (s : State), (s.domain d).st ≠ .settling) := by
  refine ⟨⟨31, 5, (domainIs { stageAt := some 5, st := .gating, stages := 2 }), ?_⟩,
    ⟨31, 5, (domainIs { stageAt := some 5, st := .gating, stages := 1 }), ?_⟩,
    ⟨31, (domainIs { st := .draining }), ?_⟩,
    ⟨31, 5, (domainIs { drainEnd := some 5, st := .draining }), ?_⟩,
    ⟨31, (domainIs { st := .on }), ?_⟩,
    ⟨31, 5, (domainIs { pgAt := some 5, st := .settling }), ?_⟩,
    ⟨31,
      { up with cfg := .core, domains := [(31, { st := .settling, censusEnd := some 5 })], taps := (List.range 256).map (fun k => (k, { run := 256 })), od := tset up.od (okey 0x5024 2) 1 },
      ?_, ?_, fun k hk => fullRun k (List.mem_range.mp (List.mem_filter.mp hk).1), ?_, ?_⟩,
    ⟨31, 5, 511, { (domainIs { st := .settling, censusEnd := some 5 }) with taps := [(511, { run := 255 })] }, ?_, ?_,
      List.mem_filter.mpr ⟨List.mem_range.mpr (by decide +kernel), by decide +kernel⟩, ?_⟩,
    ⟨31, (domainIs { st := .off }), ?_⟩,
    ⟨31, (domainIs { st := .off }), ?_⟩,
    ⟨31, (domainIs { st := .off }), ?_⟩⟩ <;> decide +kernel

theorem witness_IssueAnswers :
    (∃ (port : Nat) (w : W64) (s : State), s.portOpen port = true ∧ s.awaits port = none ∧ wordKind w = 1 ∧ s.arrayDomain
      (wordArray w) = none) ∧
    (∃ (port : Nat) (d : Nat) (w : W64) (s : State), s.portOpen port = true ∧ s.awaits port = none ∧ wordKind w = 1 ∧
      wordRole w = 0 ∧ s.arrayDomain (wordArray w) = some d ∧ s.poison = [] ∧ (s.tb.now < s.tb.cStart + 1004 ∨ s.tally.taken
      = []) ∧ s.holds (slotKey (wordArray w) (wordTag w)) (wordRing w) (wordTag w) .predicted = true ∧ (s.metered = false ∨
      s.issueFrozen d = true ∨ s.quarantined (wordArray w) = true)) ∧
    (∃ (port : Nat) (d : Nat) (cost : Nat) (w : W64) (s : State), s.portOpen port = true ∧ s.awaits port = none ∧ wordKind w
      = 1 ∧ wordRole w = 0 ∧ s.arrayDomain (wordArray w) = some d ∧ s.poison = [] ∧ (s.tb.now < s.tb.cStart + 1004 ∨
      s.tally.taken = []) ∧ s.holds (slotKey (wordArray w) (wordTag w)) (wordRing w) (wordTag w) .predicted = true ∧ (s.slot
      (slotKey (wordArray w) (wordTag w))).cls ≠ fillerKey ∧ s.metered = true ∧ s.issueFrozen d = false ∧ s.quarantined
      (wordArray w) = false ∧ s.cost (wordArray w) (some (slotKey (wordArray w) (wordTag w))) = cost ∧ (∀ x, (s.array
      (wordArray w)).resv = some x → x.ring = wordRing w) ∧ s.ringWeight (wordArray w) (wordRing w) ≠ 0 ∧ (min cost
      (s.ringCap (wordArray w) (wordRing w)) : Nat) ≤ s.ringNow (wordArray w) (wordRing w) ∧ (min cost (s.arrayCap (wordArray
      w) / 65536) : Nat) ≤ max (intPart (s.array (wordArray w)).bal) 0 + ((s.array (wordArray w)).fil : Int)) ∧
    (∃ (port : Nat) (s : State), s.portOpen port = false) ∧
    (∃ (port : Nat) (w : W64) (s : State), s.awaits port = none ∧ wordKind w ≠ 1) := by
  refine ⟨⟨3, 0x7fbe000000001fff, up, ?_⟩,
    ⟨3, 31, 0x7ffe000000001fff,
      { up with tally := { up.tally with slots := [(65535, { st := .predicted, tagHi := 31, ring := 31, cls := 1 })] } },
      ?_⟩,
    ⟨3, 31, 1, 0x7ffe000000001fff,
      { (put [(0x2800, 2, 64), (0x2800, 3, 8), (0x2A00 + 255, 0x10 + 31, 256)] up) with domains := [(31, { st := .on, meterFrom := true })], arrays := [(255, { refill := 6553600, bal := 6553600 })], rings := [(ringKey 255 31, { bal := 100 })], tally := { up.tally with slots := [(65535, { st := .predicted, tagHi := 31, ring := 31, cls := 1 })] } },
      ?_⟩,
    ⟨4, up, ?_⟩,
    ⟨3, 0x3ffe000000001fff, up, ?_⟩⟩ <;> decide +kernel

theorem witness_CreditAndSlotTimers :
    (∃ (a : Nat) (x : Reservation) (s : State), (s.array a).resv = some x ∧ x.last + s.obj 0x2800 5 ≤ s.tb.cframe) ∧
    (∃ (s : State), s.tb.gclk = true ∧ s.tb.cframe % 100 = 0 ∧ s.tb.sweptC ≠ some s.tb.cframe) ∧
    (∃ (s : State), (s.tb.gclk = false ∨ s.tb.cframe % 100 ≠ 0 ∨ s.tb.sweptC = some s.tb.cframe)) ∧
    (∃ (a : Nat) (s : State), (∀ x, (s.array a).resv = some x → s.tb.cframe < x.last + s.obj 0x2800 5)) ∧
    (∃ (w : W64) (rest : List W64) (s : State), s.tally.deferred = w :: rest ∧ s.poison = [] ∧ s.holds (slotKey (wordArray w)
      (wordTag w)) (wordRing w) (wordTag w) .predicted = true) ∧
    (∃ (n : Nat) (s : State), s.poisoned .slot n = false ∧ (s.slot n).st = .predicted ∧ (s.slot n).bin + s.obj 0x2C00 7 <
      s.tb.cframe - (s.slot n).placed) ∧
    (∃ (n : Nat) (s : State), s.poisoned .slot n = false ∧ (s.slot n).st = .granted ∧ (s.slot n).doneC = none ∧ s.obj 0x2C00
      6 ≤ s.tb.cframe - (s.slot n).grantC) ∧
    (∃ (s : State), s.tally.deferred = []) ∧
    (∃ (n : Nat) (s : State), s.poisoned .slot n = false ∧ ((s.slot n).st ≠ .predicted ∨ s.tb.cframe - (s.slot n).placed ≤
      (s.slot n).bin + s.obj 0x2C00 7)) ∧
    (∃ (n : Nat) (s : State), s.poisoned .slot n = false ∧ ((s.slot n).st ≠ .granted ∨ (s.slot n).doneC.isSome = true ∨
      s.tb.cframe - (s.slot n).grantC < s.obj 0x2C00 6)) := by
  refine ⟨⟨255, ⟨31, 1, 0⟩, { up with tb := { up.tb with cframe := 100000 }, arrays := [(255, { resv := some ⟨31, 1, 0⟩ })] }, ?_⟩,
    ⟨{ up with tb := { up.tb with cframe := 100 } }, ?_⟩,
    ⟨{ up with tb := { up.tb with cframe := 99 } }, ?_⟩,
    ⟨255, up, ?_⟩,
    ⟨0xfffe000000001fff, [],
      { up with tally := { up.tally with deferred := [0xfffe000000001fff], slots := [(65535, { st := .predicted, tagHi := 31, ring := 31 })] } },
      ?_⟩,
    ⟨65535,
      { up with tb := { up.tb with cframe := 100000 }, tally := { up.tally with slots := [(65535, { st := .predicted, tagHi := 31, ring := 31, cls := 1 })] } },
      ?_⟩,
    ⟨65535,
      { up with tb := { up.tb with cframe := 100000 }, tally := { up.tally with slots := [(65535, { st := .granted, tagHi := 31, ring := 31, cls := 1 })] } },
      ?_⟩,
    ⟨up, ?_⟩,
    ⟨65535,
      { up with tally := { up.tally with slots := [(65535, { st := .predicted, tagHi := 31, ring := 31, cls := 1 })] } },
      ?_⟩,
    ⟨65535, { up with tally := { up.tally with slots := [(65535, { st := .granted, tagHi := 31, ring := 31, cls := 1 })] } },
      ?_⟩⟩ <;> decide +kernel

theorem witness_TallyWords :
    (∃ (port : Nat) (w : W64) (s : State), s.portOpen port = true ∧ s.awaits port = none ∧ wordKind w = 0 ∧ s.gov.st.words =
      true ∧ (s.arrayDomain (wordArray w)).isSome = true ∧ s.tally.queue.length < 1024) ∧
    (∃ (port : Nat) (w : W64) (s : State), s.portOpen port = true ∧ s.awaits port = none ∧ wordKind w = 0 ∧ s.gov.st.words =
      true ∧ (s.arrayDomain (wordArray w)).isSome = true ∧ 1024 ≤ s.tally.queue.length) ∧
    (∃ (port : Nat) (w : W64) (s : State), s.portOpen port = true ∧ s.awaits port = none ∧ wordKind w = 2 ∧ s.gov.st.words =
      true ∧ (s.arrayDomain (wordArray w)).isSome = true) ∧
    (∃ (port : Nat) (s : State), s.portOpen port = true ∧ s.awaits port = some 0) ∧
    (∃ (port : Nat) (d : W64) (s : State), s.portOpen port = true ∧ s.awaits port = some d ∧ d ≠ 0 ∧ wordRole d = 0 ∧ s.cfg =
      .core ∧ s.poison = [] ∧ s.holds (slotKey (wordArray d) (wordTag d)) (wordRing d) (wordTag d) .granted = true) ∧
    (∃ (x : Waiting) (rest : List Waiting) (s : State), s.tally.queue = x :: rest ∧ max s.tb.now (max s.tally.lookAt (x.at_ +
      1)) < s.tb.cStart + 1000 ∧ s.poison = [] ∧ s.activeBank = none) ∧
    (∃ (port : Nat) (w : W64) (s : State), s.portOpen port = true ∧ s.awaits port = none ∧ wordKind w = 3 ∧ s.gov.st.words =
      true ∧ (s.arrayDomain (wordArray w)).isSome = true ∧ s.inPipeline (slotKey (wordArray w) (wordTag w)) = none ∧ s.holds
      (slotKey (wordArray w) (wordTag w)) (wordRing w) (wordTag w) .predicted = true) ∧
    (∃ (port : Nat) (w : W64) (s : State), s.portOpen port = true ∧ s.awaits port = none ∧ wordKind w = 3 ∧ s.gov.st.words =
      true ∧ (s.arrayDomain (wordArray w)).isSome = true ∧ (s.inPipeline (slotKey (wordArray w) (wordTag w))).isSome = true)
      ∧
    (∃ (port : Nat) (d : W64) (s : State), s.awaits port = some d) ∧
    (∃ (port : Nat) (s : State), s.portOpen port = false) := by
  refine ⟨⟨3, 0x3ffe000000001fff, up, ?_⟩,
    ⟨3, 0x3ffe000000001fff, { up with tally := { up.tally with queue := List.replicate 1024 ⟨0, 0, 0⟩ } }, ?_⟩,
    ⟨3, 0xbffe000000001fff, up, ?_⟩,
    ⟨3, { up with tally := { up.tally with awaiting := [(3, some 0)] } }, ?_⟩,
    ⟨3, 0xbffe000000001fff,
      { up with cfg := .core, tally := { up.tally with slots := [(65535, { st := .granted, tagHi := 31, ring := 31, cls := 1 })], awaiting := [(3, some 0xbffe000000001fff)] } },
      ?_⟩,
    ⟨⟨0, 0, 0⟩, [], { up with tally := { up.tally with queue := [⟨0, 0, 0⟩] } }, ?_⟩,
    ⟨3, 0xfffe000000001fff,
      { up with tally := { up.tally with slots := [(65535, { st := .predicted, tagHi := 31, ring := 31, cls := 1 })] } },
      ?_⟩,
    ⟨3, 0xfffe000000001fff, { up with tally := { up.tally with inFlight := [(65535, 5)] } }, ?_⟩,
    ⟨3, 7, { up with tally := { up.tally with awaiting := [(3, some 7)] } }, ?_⟩,
    ⟨4, up, ?_⟩⟩ <;> decide +kernel

theorem witness_LoopEvents :
    (∃ (i : Nat) (s : State), i < 160 ∧ s.lawUsed i = true ∧ lawFollows i = true ∧ s.obj (0x4100 + i) 0x11 ≠ 0 ∧ s.obj
      (0x4100 + i) 0x12 ≤ (s.law i).feRun ∧ s.calm 4) ∧
    (∃ (s : State), s.injector.status = 1 ∧ s.injector.delay = 0) ∧
    (∃ (s : State), s.injector.status = 2 ∧ s.injectionOver = true) ∧
    (∃ (s : State), s.capture.status = 3 ∧ s.captureRest ≤ s.capture.after) ∧
    (∃ (i : Nat) (s : State), (160 ≤ i ∨ s.lawUsed i = false ∨ lawFollows i = false ∨ s.obj (0x4100 + i) 0x11 = 0 ∨ (s.law
      i).feRun < s.obj (0x4100 + i) 0x12)) ∧
    (∃ (s : State), (s.injector.status ≠ 1 ∨ s.injector.delay ≠ 0)) ∧
    (∃ (s : State), (s.injector.status ≠ 2 ∨ s.injectionOver = false)) ∧
    (∃ (s : State), (s.capture.status ≠ 3 ∨ s.capture.after < s.captureRest)) := by
  refine ⟨⟨38, (put [(0x4100 + 38, 0x11, 1), (0x4100 + 38, 0x12, 1), (0x5010 + 4, 2, 2)]
      { up with laws := [(38, { feRun := 1 })] }), ?_⟩,
    ⟨{ up with injector := { up.injector with status := 1 } }, ?_⟩,
    ⟨(put [(0x4001, 3, 2), (0x4001, 6, 1)] { up with injector := { up.injector with status := 2, n := 2 } }), ?_⟩,
    ⟨{ up with capture := { up.capture with status := 3, after := 16384 } }, ?_⟩,
    ⟨160, up, ?_⟩,
    ⟨up, ?_⟩,
    ⟨up, ?_⟩,
    ⟨up, ?_⟩⟩ <;> decide +kernel

theorem witness_AssayRequests :
    (∃ (w : W64) (rest : List W64) (s : State), s.assayer.requests = w :: rest ∧ s.tb.gclk = true) ∧
    (∃ (k : Nat) (u : Nat) (e : Entry) (s : State), s.entry? k = some e ∧ e.deadline = some u ∧ e.st = .comparing) ∧
    (∃ (k : Nat) (a : Nat) (e : Entry) (s : State), s.cfg = .full ∧ (s.assayer.entries.find? (fun p => s.atSafePoint p.2) =
      some (k, e)) ∧ e.third = some a) ∧
    (∃ (k : Nat) (u : Nat) (e : Entry) (s : State), s.entry? k = some e ∧ e.thirdDeadline = some u) ∧
    (∃ (k : Nat) (u : Nat) (e : Entry) (s : State), s.entry? k = some e ∧ e.thirdDeadline = some u ∧ s.assayer.thirds = []) ∧
    (∃ (s : State), (s.assayer.requests = [] ∨ s.tb.gclk = false)) ∧
    (∃ (k : Nat) (s : State), s.entry? k = none) ∧
    (∃ (s : State), (s.assayer.entries.find? (fun p => s.atSafePoint p.2) = none)) := by
  refine ⟨⟨7, [], { up with assayer := { up.assayer with requests := [7] } }, ?_⟩,
    ⟨5, 5,
      { origin := 255, ring := 31, tag := 8191, grant := 0, dup := 0, selected := 0, limit := 0, window := 0, deadline := some 5 },
      { up with assayer := { up.assayer with entries := [(5, { origin := 255, ring := 31, tag := 8191, grant := 0, dup := 0, selected := 0, limit := 0, window := 0, deadline := some 5 })] } },
      ?_⟩,
    ⟨5, 255,
      { origin := 255, ring := 31, tag := 8191, grant := 0, dup := 0, selected := 0, limit := 0, window := 0, st := .settling, third := some 255 },
      { up with assayer := { up.assayer with entries := [(5, { origin := 255, ring := 31, tag := 8191, grant := 0, dup := 0, selected := 0, limit := 0, window := 0, st := .settling, third := some 255 })] } },
      ?_⟩,
    ⟨5, 5,
      { origin := 255, ring := 31, tag := 8191, grant := 0, dup := 0, selected := 0, limit := 0, window := 0, st := .third, thirdDeadline := some 5 },
      { up with assayer := { up.assayer with entries := [(5, { origin := 255, ring := 31, tag := 8191, grant := 0, dup := 0, selected := 0, limit := 0, window := 0, st := .third, thirdDeadline := some 5 })] } },
      ?_⟩,
    ⟨5, 5,
      { origin := 255, ring := 31, tag := 8191, grant := 0, dup := 0, selected := 0, limit := 0, window := 0, st := .third, thirdDeadline := some 5 },
      { up with assayer := { up.assayer with entries := [(5, { origin := 255, ring := 31, tag := 8191, grant := 0, dup := 0, selected := 0, limit := 0, window := 0, st := .third, thirdDeadline := some 5 })] } },
      ?_⟩,
    ⟨up, ?_⟩,
    ⟨0, up, ?_⟩,
    ⟨up, ?_⟩⟩ <;> decide +kernel

theorem witness_ContributionFences :
    (∃ (s : State), s.tb.gclk = true ∧ s.cfg = .core) ∧
    (∃ (s : State), s.tb.gclk = true ∧ s.cfg = .full) ∧
    (∃ (f : Fence) (s : State), (s.assayer.fences.find? (fun f => s.unresolved f.window = 0) = some f)) ∧
    (∃ (s : State), s.tb.gclk = false) ∧
    (∃ (s : State), (s.assayer.fences.find? (fun f => s.unresolved f.window = 0) = none)) := by
  refine ⟨⟨{ up with cfg := .core }, ?_⟩,
    ⟨up, ?_⟩,
    ⟨⟨1, 0, 0, 0⟩, { up with assayer := { up.assayer with fences := [⟨1, 0, 0, 0⟩] } }, ?_⟩,
    ⟨{ up with tb := { up.tb with gclk := false } }, ?_⟩,
    ⟨up, ?_⟩⟩ <;> decide +kernel

theorem witness_AssayRuns :
    (∃ (a : Nat) (i : Nat) (u : Nat) (s : State), (s.assayer.run.out.find? (fun o => o.1 == a && o.2.1 == i) = some (a, i,
      u))) ∧
    (∃ (s : State), s.assayer.run.over = true ∧ s.assayer.run.sweep = false) ∧
    (∃ (u : Nat) (s : State), s.assayer.sweep.settleEnd = some u ∧ s.assayer.sweep.status = 1) ∧
    (∃ (s : State), s.assayer.sweep.status = 1 ∧ s.assayer.sweep.settleEnd = none ∧ s.assayer.run.sweep = true ∧
      s.assayer.run.over = true) ∧
    (∃ (a : Nat) (i : Nat) (s : State), (s.assayer.run.out.find? (fun o => o.1 == a && o.2.1 == i) = none)) ∧
    (∃ (s : State), (s.assayer.run.over = false ∨ s.assayer.run.sweep = true)) ∧
    (∃ (s : State), (s.assayer.sweep.settleEnd = none ∨ s.assayer.sweep.status ≠ 1)) ∧
    (∃ (s : State), (s.assayer.sweep.status ≠ 1 ∨ s.assayer.run.over = false)) := by
  refine ⟨⟨255, 63, 5, { up with assayer := { up.assayer with run := { out := [(255, 63, 5)] } } }, ?_⟩,
    ⟨{ up with assayer := { up.assayer with run := { active := true } } }, ?_⟩,
    ⟨5, { up with assayer := { up.assayer with sweep := { status := 1, settleEnd := some 5 } } }, ?_⟩,
    ⟨{ up with assayer := { up.assayer with run := { active := true, sweep := true }, sweep := { status := 1 } } }, ?_⟩,
    ⟨255, 63, up, ?_⟩,
    ⟨up, ?_⟩,
    ⟨up, ?_⟩,
    ⟨up, ?_⟩⟩ <;> decide +kernel

theorem witness_LaneTapAndCreditWrites :
    (∃ (sess : Nat) (n : Nat) (s : State), n < 96 ∧ s.accepts sess (0x2100 + n) 0x11 1 ∧ ((s.lane n).st = .faulted ∨ (s.lane
      n).st = .blind)) ∧
    (∃ (sess : Nat) (r : Nat) (v : Nat) (s : State), r < 8 ∧ s.accepts sess (0x2200 + r) 0x0A v) ∧
    (∃ (sess : Nat) (n : Nat) (s : State), n < 512 ∧ s.accepts sess (0x2500 + n) 7 1 ∧ (s.tap n).st = .masked ∧ s.calm 20) ∧
    (∃ (sess : Nat) (g : Nat) (k : Nat) (v : Nat) (s : State), g < 64 ∧ 6 ≤ k ∧ k ≤ 0x1D ∧ s.accepts sess (0x2440 + g) k v) ∧
    (∃ (sess : Nat) (v : Nat) (s : State), s.accepts sess 0x2800 1 v) := by
  refine ⟨⟨1, 95, { (laneIs { st := .faulted }) with gov := { up.gov with st := .service } }, ?_⟩,
    ⟨1, 7, 0, up, ?_⟩,
    ⟨1, 511, { (tapIs { st := .masked }) with gov := { up.gov with st := .service } }, ?_⟩,
    ⟨1, 63, 0x1D, 1, { up with gov := { up.gov with st := .service } }, ?_⟩,
    ⟨1, 1000, (inState .standby), ?_⟩⟩ <;> decide +kernel

theorem witness_TallyWrites :
    (∃ (sess : Nat) (v : W64) (s : State), s.accepts sess 0x2C03 2 v.toNat) ∧
    (∃ (sess : Nat) (bs : List Byte) (s : State), s.acceptsBytes sess 0x2C08 4 bs) ∧
    (∃ (sess : Nat) (s : State), s.accepts sess 0x2C08 5 1) ∧
    (∃ (sess : Nat) (s : State), s.accepts sess 0x2C08 0x0A 1) := by
  refine ⟨⟨1, 0, { up with gov := { up.gov with st := .service } }, ?_⟩,
    ⟨1, [1], up, ?_⟩,
    ⟨1, { up with tally := { up.tally with loadStatus := 1 } }, ?_⟩,
    ⟨1, up, ?_⟩⟩ <;> decide +kernel

theorem witness_LoopWrites :
    (∃ (sess : Nat) (i : Nat) (s : State), i < 160 ∧ s.accepts sess (0x4100 + i) 0x0C 1) ∧
    (∃ (sess : Nat) (s : State), s.accepts sess 0x4001 0x0C 1) ∧
    (∃ (sess : Nat) (s : State), s.accepts sess 0x4001 0x0C 2 ∧ (s.injector.status = 1 ∨ s.injector.status = 2)) ∧
    (∃ (sess : Nat) (s : State), s.accepts sess 0x4002 0x0A 1) ∧
    (∃ (sess : Nat) (s : State), s.accepts sess 0x4002 0x0A 2 ∧ (s.capture.status = 1 ∨ s.capture.status = 2) ∧
      s.capture.seen = false) ∧
    (∃ (sess : Nat) (s : State), s.accepts sess 0x4002 0x0A 3 ∧ 1 ≤ s.capture.status ∧ s.capture.status ≤ 3) := by
  refine ⟨⟨1, 38, up, ?_⟩,
    ⟨1, { (put [(0x4001, 1, 7)] (railIs { seq := .good })) with gov := { up.gov with st := .service } }, ?_⟩,
    ⟨1, { { up with injector := { up.injector with status := 1 } } with gov := { up.gov with st := .service } }, ?_⟩,
    ⟨1, up, ?_⟩,
    ⟨1, { up with capture := { up.capture with status := 1 } }, ?_⟩,
    ⟨1, { up with capture := { up.capture with status := 3 } }, ?_⟩⟩ <;> decide +kernel

theorem witness_StateCommands :
    (∃ (sess : Nat) (p : Nat) (s : State), s.accepts sess 0x3400 8 1 ∧ s.gov.st = .standby ∧ s.nextPosition none = some p) ∧
    (∃ (sess : Nat) (d : Nat) (s : State), s.accepts sess 0x3400 8 2 ∧ d ∈ s.domainsUsed ∧ (s.domain d).st = .on) ∧
    (∃ (sess : Nat) (s : State), s.accepts sess 0x3400 8 3) ∧
    (∃ (sess : Nat) (s : State), s.accepts sess 0x3400 8 4 ∧ s.assayer.entries = []) ∧
    (∃ (sess : Nat) (s : State), s.accepts sess 0x3400 8 5 ∧ s.assayer.entries = []) ∧
    (∃ (sess : Nat) (s : State), s.accepts sess 0x3400 8 6) ∧
    (∃ (sess : Nat) (s : State), s.accepts sess 0x3400 9 1 ∧ ((s.touch.setObj 0x3400 9 1).wrote).admits sess 0x3400 8 7 ∧
      s.assayer.entries = []) ∧
    (∃ (sess : Nat) (s : State), s.accepts sess 0x3400 9 0 ∧ ((s.touch.setObj 0x3400 9 0).wrote).admits sess 0x3400 8 7 ∧ (∀
      d, (s.domain d).st = .off ∨ (s.domain d).st = .unused ∨ (s.domain d).st = .faulted) ∧ (∀ d ∈ s.domainsUsed, (s.domain
      d).st ≠ .unused) ∧ s.railsLeft = []) ∧
    (∃ (sess : Nat) (s : State), s.accepts sess 0x3400 8 8) := by
  refine ⟨⟨1, 0, (inState .standby), ?_⟩,
    ⟨1, 31, (domainIs { st := .on }), ?_⟩,
    ⟨1, (inState .ready), ?_⟩,
    ⟨1, up, ?_⟩,
    ⟨1, (inState .safe), ?_⟩,
    ⟨1, (inState .ready), ?_⟩,
    ⟨1, { (put [(0x4001, 1, 7)] (railIs { seq := .good })) with gov := { up.gov with st := .service } }, ?_⟩,
    ⟨1, { (inState .service) with domains := [(31, { st := .off })] }, ?_, ?_, offOrUnused, ?_, ?_⟩,
    ⟨1, (inState .standby), ?_⟩⟩ <;> decide +kernel

theorem witness_AssayWrites :
    (∃ (sess : Nat) (a : Nat) (s : State), a < 256 ∧ s.accepts sess (0x6010 + a) 9 1 ∧ s.quarantined a = true) ∧
    (∃ (sess : Nat) (w : W64) (s : State), s.accepts sess 0x6004 1 w.toNat ∧ s.cfg = .full) ∧
    (∃ (sess : Nat) (s : State), s.accepts sess 0x6003 3 1 ∧ s.poison = []) ∧
    (∃ (sess : Nat) (s : State), s.accepts sess 0x6003 3 2 ∧ s.assayer.run.active = true ∧ s.assayer.run.sweep = false) ∧
    (∃ (sess : Nat) (s : State), s.accepts sess 0x6002 2 1) ∧
    (∃ (sess : Nat) (s : State), s.accepts sess 0x6002 2 2 ∧ s.assayer.sweep.status = 1) := by
  refine ⟨⟨1, 255, { { up with arrays := [(255, { quarantined := true })] } with gov := { up.gov with st := .service } }, ?_⟩,
    ⟨1, 0, { up with gov := { up.gov with st := .service } }, ?_⟩,
    ⟨1, { (put [(0x4001, 1, 7)] (railIs { seq := .good })) with gov := { up.gov with st := .service } }, ?_⟩,
    ⟨1, { { up with assayer := { up.assayer with run := { active := true } } } with gov := { up.gov with st := .service } },
      ?_⟩,
    ⟨1, { (put [(0x6002, 1, 7), (0x2810 + 7, 1, 1)] (railIs { seq := .good })) with gov := { up.gov with st := .service } },
      ?_⟩,
    ⟨1, { { up with assayer := { up.assayer with sweep := { status := 1 } } } with gov := { up.gov with st := .service } },
      ?_⟩⟩ <;> decide +kernel

theorem witness_RecordWrites :
    (∃ (sess : Nat) (w : W64) (s : State), s.accepts sess 0x5000 1 w.toNat ∧ (∀ n < 64, w.getLsbD n = true → (s.pin n).held =
      [])) ∧
    (∃ (sess : Nat) (n : Nat) (w : W64) (s : State), s.accepts sess 0x5000 1 w.toNat ∧ n < 64 ∧ (∀ k < 64, w.getLsbD k =
      decide (k = n)) ∧ (s.pin n).latched = true ∧ (s.pin n).held ≠ [] ∧ s.obj (0x5010 + n) 2 < 3) ∧
    (∃ (sess : Nat) (s : State), s.accepts sess 0x5400 7 1) ∧
    (∃ (sess : Nat) (s : State), s.accepts sess 0x5400 8 1) ∧
    (∃ (sess : Nat) (c : Nat) (s : State), c < 4 ∧ s.accepts sess (0x5410 + c) 2 1) ∧
    (∃ (sess : Nat) (q : Nat) (v : W64) (s : State), s.accepts sess 0x1300 3 v.toNat ∧ q < 256 ∧ ((s.touch.setObj 0x1300 3
      v.toNat).wrote).admits sess 0x1300 4 q) := by
  refine ⟨⟨1, 0xFFFFFFFFFFFFFFFF, up, ?_⟩,
    ⟨1, 63, 0x8000000000000000, (pinIs 63 { latched := true, held := [(0, 0)], eff := 2 }), ?_⟩,
    ⟨1, up, ?_⟩,
    ⟨1, { up with gov := { up.gov with st := .service } }, ?_⟩,
    ⟨1, 3, { up with dumps := [(3, { valid := true })] }, ?_⟩,
    ⟨1, 3, 0x3FFFFFFFFFFFFFFF, up, ?_⟩⟩ <;> decide +kernel

theorem witness_FirmwareWrites :
    (∃ (sess : Nat) (c : Nat) (s : State), s.accepts sess 0x7420 1 c) ∧
    (∃ (sess : Nat) (bs : List Byte) (s : State), s.acceptsBytes sess 0x7420 3 bs) ∧
    (∃ (sess : Nat) (s : State), s.accepts sess 0x7420 4 1) ∧
    (∃ (sess : Nat) (s : State), s.accepts sess 0x7420 4 2) ∧
    (∃ (sess : Nat) (s : State), s.accepts sess 0x7420 4 3) ∧
    (∃ (sess : Nat) (c : Nat) (s : State), c < 4 ∧ s.accepts sess (0x7410 + c) 0x0A 1 ∧ (s.core c).st = .held) := by
  refine ⟨⟨1, 3, up, ?_⟩,
    ⟨1, [1], { up with update := { up.update with status := 1 } }, ?_⟩,
    ⟨1, { up with update := { up.update with status := 1 } }, ?_⟩,
    ⟨1, { up with update := { up.update with status := 2 } }, ?_⟩,
    ⟨1, { up with update := { up.update with status := 1 } }, ?_⟩,
    ⟨1, 2, { (coreIs 2 { st := .held }) with gov := { up.gov with st := .service } }, ?_⟩⟩ <;> decide +kernel

theorem witness_AccessWrites :
    (∃ (sess : Nat) (i : Nat) (s : State), s.accepts sess 0x1410 1 i) ∧
    (∃ (sess : Nat) (i : Nat) (s : State), s.accepts sess 0x1410 2 i) ∧
    (∃ (sess : Nat) (s : State), s.presents sess = true ∧ s.touch.readCode sess 0x1420 1 0 0 = 0) ∧
    (∃ (sess : Nat) (r : BitVec 256) (s : State), s.accepts sess 0x1420 2 r.toNat ∧ s.blocked = true) ∧
    (∃ (sess : Nat) (r : BitVec 256) (c : Challenge) (s : State), s.accepts sess 0x1420 2 r.toNat ∧ s.blocked = false ∧
      s.liveChallenge sess = some c ∧ r = Free.response s.test.fused.key c.bytes sess s.test.fused.serial) ∧
    (∃ (sess : Nat) (r : BitVec 256) (s : State), s.accepts sess 0x1420 2 r.toNat ∧ s.blocked = false ∧ (∀ c, s.liveChallenge
      sess = some c → r ≠ Free.response s.test.fused.key c.bytes sess s.test.fused.serial)) ∧
    (∃ (sess : Nat) (s : State), s.accepts sess 0x1420 4 1) ∧
    (∃ (sess : Nat) (w : BitVec 16) (s : State), s.accepts sess 0xF000 3 w.toNat) ∧
    (∃ (w : BitVec 16) (s : State), s.gov.st ≠ .off ∧ s.atbOut w = false) := by
  refine ⟨⟨1, 0x2800, up, ?_⟩,
    ⟨1, 0x2800, { up with access := { up.access with locks := [(0x2800, 1)] } }, ?_⟩,
    ⟨1, up, ?_⟩,
    ⟨1, 0, { up with access := { up.access with block := some 5 } }, ?_⟩,
    ⟨1, Free.response 0 7 1 0, ⟨7, 0⟩, challenged, answerTaken _, ?_, ?_, rfl⟩,
    ⟨1, 0, up, ?_, ?_, fun c h => by cases (show (none : Option Challenge) = some c from h)⟩,
    ⟨1, up, ?_⟩,
    ⟨1, 0, (inState .service), ?_⟩,
    ⟨0, up, ?_⟩⟩ <;> decide +kernel

theorem witness_WritesWithoutEffect :
    (∃ (sess : Nat) (n : Nat) (v : Nat) (s : State), v ≠ 1 ∧ n < 96 ∧ s.accepts sess (0x2100 + n) 0x11 v) ∧
    (∃ (sess : Nat) (n : Nat) (v : Nat) (s : State), v ≠ 1 ∧ n < 512 ∧ s.accepts sess (0x2500 + n) 7 v) ∧
    (∃ (sess : Nat) (v : Nat) (s : State), v ≠ 1 ∧ s.accepts sess (0x2C08) 0x0A v) ∧
    (∃ (sess : Nat) (n : Nat) (v : Nat) (s : State), v ≠ 1 ∧ n < 160 ∧ s.accepts sess (0x4100 + n) 0x0C v) ∧
    (∃ (sess : Nat) (n : Nat) (v : Nat) (s : State), v ≠ 1 ∧ n < 288 ∧ s.accepts sess (sensorObj n) 8 v) ∧
    (∃ (sess : Nat) (v : Nat) (s : State), v ≠ 1 ∧ s.accepts sess (0x3008) 8 v) ∧
    (∃ (sess : Nat) (n : Nat) (v : Nat) (s : State), v ≠ 1 ∧ n < 32 ∧ s.accepts sess (0x3410 + n) 9 v) ∧
    (∃ (sess : Nat) (n : Nat) (v : Nat) (s : State), v ≠ 1 ∧ n < 256 ∧ s.accepts sess (0x6010 + n) 9 v) ∧
    (∃ (sess : Nat) (v : Nat) (s : State), v ≠ 1 ∧ s.accepts sess (0x5400) 7 v) ∧
    (∃ (sess : Nat) (v : Nat) (s : State), v ≠ 1 ∧ s.accepts sess (0x5400) 8 v) ∧
    (∃ (sess : Nat) (n : Nat) (v : Nat) (s : State), v ≠ 1 ∧ n < 4 ∧ s.accepts sess (0x5410 + n) 2 v) ∧
    (∃ (sess : Nat) (n : Nat) (v : Nat) (s : State), v ≠ 1 ∧ n < 4 ∧ s.accepts sess (0x7410 + n) 0x0A v) ∧
    (∃ (sess : Nat) (v : Nat) (s : State), v ≠ 1 ∧ s.accepts sess (0x1420) 4 v) ∧
    (∃ (sess : Nat) (v : Nat) (s : State), v ≠ 1 ∧ s.accepts sess (0x2C08) 5 v) ∧
    (∃ (sess : Nat) (v : Nat) (s : State), s.presents sess = true ∧ v < 2 ^ 32 ∧ s.touch.writeCode sess 0x2800 1 v 4 0 ≠ 0) ∧
    (∃ (sess : Nat) (s : State), s.presents sess = true ∧ s.touch.writeCode sess 0x3400 8 1 1 0 = 0x00040001) ∧
    (∃ (sess : Nat) (s : State), s.presents sess = false) := by
  refine ⟨⟨1, 95, 0, { up with gov := { up.gov with st := .service } }, ?_⟩,
    ⟨1, 511, 0, { up with gov := { up.gov with st := .service } }, ?_⟩,
    ⟨1, 0, up, ?_⟩,
    ⟨1, 159, 0, up, ?_⟩,
    ⟨1, 287, 0, { up with gov := { up.gov with st := .service } }, ?_⟩,
    ⟨1, 0, (put [(0x3008, 1, 2)] up), ?_⟩,
    ⟨1, 31, 0, { up with gov := { up.gov with st := .service } }, ?_⟩,
    ⟨1, 255, 0, { up with gov := { up.gov with st := .service } }, ?_⟩,
    ⟨1, 0, up, ?_⟩,
    ⟨1, 0, { up with gov := { up.gov with st := .service } }, ?_⟩,
    ⟨1, 3, 0, up, ?_⟩,
    ⟨1, 3, 0, { up with gov := { up.gov with st := .service } }, ?_⟩,
    ⟨1, 0, up, ?_⟩,
    ⟨1, 0, up, ?_⟩,
    ⟨1, 0, up, ?_⟩,
    ⟨1, (inState .trip), ?_⟩,
    ⟨1, { up with tb := { up.tb with gclk := false } }, ?_⟩⟩ <;> decide +kernel

theorem witness_FaultTriggers :
    (∃ (n : Nat) (k : Nat) (s : State), pinIsD n = false ∧ k < 4 ∧ s.pinReached n = true ∧ s.calm n) ∧
    (∃ (n : Nat) (k : Nat) (s : State), pinIsD n = false ∧ k < 4 ∧ n < 64 ∧ s.pinReached n = true ∧ s.gov.gathered = none ∧
      s.tb.gclk = true ∧ s.events.length < 64 ∧ (s.pin n).latched = true ∧ max (s.pin n).eff (min ((s.pin n).eff + 1) (s.obj
      (0x5010 + n) 3)) < 3) ∧
    (∃ (n : Nat) (k : Nat) (s : State), pinIsD n = false ∧ k < 4 ∧ n < 64 ∧ s.pinReached n = true ∧ s.gov.gathered = none ∧
      s.tb.gclk = true ∧ (s.pin n).latched = false ∧ 4 ≤ s.obj (0x5010 + n) 2 ∧ s.gov.st ≠ .off ∧ s.gov.st ≠ .trip) ∧
    (∃ (n : Nat) (k : Nat) (s : State), pinIsD n = false ∧ k < 4 ∧ n < 64 ∧ s.pinReached n = true ∧ s.gov.gathered = none ∧
      s.tb.gclk = true ∧ s.events.length < 64 ∧ (s.pin n).latched = false ∧ s.obj (0x5010 + n) 2 = 3 ∧ s.gov.st.toSafe =
      true) ∧
    (∃ (n : Nat) (k : Nat) (s : State), pinIsD n = false ∧ k < 4 ∧ n ≠ 0 ∧ n ≠ 35 ∧ s.pinReached n = true ∧ s.gov.gathered =
      none ∧ s.tb.gclk = false) ∧
    (∃ (n : Nat), pinIsD n = true) ∧
    (∃ (n : Nat) (s : State), s.pinReached n = false ∧ s.gov.gathered = none) := by
  refine ⟨⟨9, 3, (put [(0x5010 + 9, 2, 2)] up), ?_⟩,
    ⟨9, 3, (pinIs 9 { latched := true, eff := 0 }), ?_⟩,
    ⟨9, 3, (put [(0x5010 + 9, 2, 4)] up), ?_⟩,
    ⟨9, 3, (put [(0x5010 + 9, 2, 3)] up), ?_⟩,
    ⟨9, 3, { up with icu := { up.icu with watch := [(31, 0x8000000000000049)] }, tb := { up.tb with gclk := false } }, ?_⟩,
    ⟨63, ?_⟩,
    ⟨64, up, ?_⟩⟩ <;> decide +kernel

theorem witness_DClassPins :
    (∃ (n : Nat) (s : State), n < 64 ∧ pinIsD n = true ∧ s.pinReached n = true ∧ (s.pin n).count ≠ 0 ∧ s.tb.now ≤ (s.pin
      n).winEnd ∧ (s.pin n).count + 1 < s.obj (0x5010 + n) 5) ∧
    (∃ (n : Nat) (s : State), n < 64 ∧ pinIsD n = true ∧ s.pinReached n = true ∧ ((s.pin n).count = 0 ∨ (s.pin n).winEnd <
      s.tb.now) ∧ 1 < s.obj (0x5010 + n) 5) ∧
    (∃ (n : Nat) (s : State), pinIsD n = true ∧ s.pinReached n = true ∧ s.calm n ∧ (s.pin n).count ≠ 0 ∧ s.tb.now ≤ (s.pin
      n).winEnd ∧ (s.pin n).count + 1 = s.obj (0x5010 + n) 5) ∧
    (∃ (n : Nat) (s : State), n < 64 ∧ (s.pin n).count ≠ 0) ∧
    (∃ (n : Nat) (s : State), s.pinReached n = true) ∧
    (∃ (n : Nat) (s : State), s.pinReached n = false) ∧
    (∃ (n : Nat), pinIsD n = false) ∧
    (∃ (n : Nat) (s : State), (s.pin n).count = 0) := by
  refine ⟨⟨59, (put [(0x5010 + 59, 5, 3)] (pinIs 59 { count := 1, winEnd := 5 })), ?_⟩,
    ⟨59, up, ?_⟩,
    ⟨59, (put [(0x5010 + 59, 5, 2), (0x5010 + 59, 2, 1)] (pinIs 59 { count := 1, winEnd := 5 })), ?_⟩,
    ⟨63, (pinIs 63 { count := 1 }), ?_⟩,
    ⟨63, up, ?_⟩,
    ⟨64, up, ?_⟩,
    ⟨9, ?_⟩,
    ⟨63, up, ?_⟩⟩ <;> decide +kernel

theorem witness_RecorderEvents :
    (∃ (q : Queued) (rest : List Queued) (s : State), (s.tb.gclk = true ∨ (s.gov.booting = false ∧ s.gov.govRstLow = false))
      ∧ s.recorder.queue = q :: rest) ∧
    (∃ (s : State), 2 ≤ s.clock.quality) ∧
    (∃ (c : Nat) (s : State), c < 4 ∧ (s.dump c).clearing = true) ∧
    (∃ (s : State), s.recorder.queue = []) ∧
    (∃ (s : State), s.clock.quality < 2) ∧
    (∃ (c : Nat) (s : State), (s.dump c).clearing = false) := by
  refine ⟨⟨⟨⟨1, 0, 0, 0, 0, 0⟩, false, 1⟩, [],
      { up with recorder := { up.recorder with queue := [⟨⟨1, 0, 0, 0, 0, 0⟩, false, 1⟩] } }, ?_⟩,
    ⟨{ up with clock := { up.clock with quality := 2 } }, ?_⟩,
    ⟨3, { up with dumps := [(3, { clearing := true })] }, ?_⟩,
    ⟨up, ?_⟩,
    ⟨{ up with clock := { up.clock with quality := 1 } }, ?_⟩,
    ⟨3, up, ?_⟩⟩ <;> decide +kernel

theorem witness_InterruptFlow :
    (∃ (n : Nat) (s : State), s.tb.gclk = true ∧ srcListed n = true) ∧
    (∃ (w : W64) (s : State), s.busUp ∧ 0x200 ≤ bits w.toNat 9 0) ∧
    (∃ (w : W64) (s : State), s.busUp ∧ bits w.toNat 9 0 < 0x200) ∧
    (∃ (tt : Nat) (n : Nat) (s : State), s.busUp ∧ tt < 6 ∧ s.offer tt = some n) ∧
    (∃ (a : Nat) (tt : Nat) (s : State), s.busUp ∧ tt < 6 ∧ targetAgent tt ≠ a) ∧
    (∃ (a : Nat) (tt : Nat) (w : W64) (s : State), s.busUp ∧ a < 5 ∧ tt < 6 ∧ s.srcActive (bits w.toNat 9 0) = some tt) ∧
    (∃ (a : Nat) (tt : Nat) (w : W64) (s : State), s.busUp ∧ a < 5 ∧ tt < 6 ∧ s.srcActive (bits w.toNat 9 0) ≠ some tt) ∧
    (∃ (n : Nat) (s : State), s.tb.gclk = true ∧ s.watched n = true ∧ s.srcPending n = true ∧ (s.srcCfg n).target < 6 ∧
      s.dozing (s.srcCfg n).target = true) ∧
    (∃ (n : Nat) (u : Nat) (s : State), tget s.icu.waitSince n none = some u ∧ s.tb.gclk = true ∧ s.srcPending n = true ∧
      s.srcActive n = none ∧ s.asleep (s.srcCfg n).target = true ∧ (s.srcCfg n).fallback < 6 ∧ s.asleep (s.srcCfg n).fallback
      = false ∧ s.watched n = false ∧ s.icu.fallen.contains n = false) ∧
    (∃ (n : Nat), srcListed n = false) ∧
    (∃ (n : Nat) (s : State), ((s.srcPending n = false ∨ s.watched n = false) ∨ s.dozing (s.srcCfg n).target = false)) ∧
    (∃ (n : Nat) (s : State), (tget s.icu.waitSince n none = none ∨ s.srcPending n = false)) := by
  refine ⟨⟨0x3FF, up, ?_⟩,
    ⟨0x200, up, ?_⟩,
    ⟨0x1FF, up, ?_⟩,
    ⟨5, 0x3FF,
      { up with icu := { up.icu with pend := [(15, 0x8000000000000000)], mask := [(15, 0)], cfg := [(0x3FF, ⟨5, 7, 7⟩)] } },
      ?_⟩,
    ⟨3, 5, up, ?_⟩,
    ⟨4, 5, 0x3FF, { up with icu := { up.icu with active := [(0x3FF, some 5)] } }, ?_⟩,
    ⟨4, 5, 0x3FF, up, ?_⟩,
    ⟨0x3FF,
      { up with icu := { up.icu with watch := [(31, 0x80000000000003FF)], pend := [(15, 0x8000000000000000)], cfg := [(0x3FF, ⟨5, 7, 7⟩)], targets := [(5, { sleep := true })] } },
      ?_⟩,
    ⟨0x3FF, 5,
      { up with icu := { up.icu with waitSince := [(0x3FF, some 5)], pend := [(15, 0x8000000000000000)], cfg := [(0x3FF, ⟨4, 7, 5⟩)], targets := [(4, { sleep := true })] } },
      ?_⟩,
    ⟨0x400, ?_⟩,
    ⟨0x3FF, up, ?_⟩,
    ⟨0x3FF, up, ?_⟩⟩ <;> decide +kernel

theorem witness_InterruptRegisters :
    (∃ (i : Nat) (s : State), s.busUp ∧ i < 16) ∧
    (∃ (i : Nat) (s : State), s.busUp ∧ i < 256) ∧
    (∃ (s : State), s.busUp) ∧
    (∃ (k : Nat) (s : State), s.busUp ∧ k < 6) ∧
    (∃ (a : Nat) (k : Nat) (s : State), s.busUp ∧ k < 6 ∧ targetAgent k ≠ a) ∧
    (∃ (i : Nat) (s : State), s.busUp ∧ i < 32) ∧
    (∃ (i : Nat), 16 ≤ i) ∧
    (∃ (i : Nat), 32 ≤ i) ∧
    (∃ (i : Nat), 6 ≤ i) := by
  refine ⟨⟨15, up, ?_⟩,
    ⟨255, up, ?_⟩,
    ⟨up, ?_⟩,
    ⟨5, up, ?_⟩,
    ⟨1, 5, up, ?_⟩,
    ⟨31, up, ?_⟩,
    ⟨16, ?_⟩,
    ⟨32, ?_⟩,
    ⟨6, ?_⟩⟩ <;> decide +kernel

theorem witness_FreeReturnsBuffers :
    (∃ (c : Nat) (s : State), s.busUp ∧ c < 64 ∧ s.channelUsed c = true) := by
  refine ⟨63, up, ?_⟩; decide +kernel

theorem witness_MailboxRules :
    (∃ (c : Nat) (w : W64) (s : State), s.busUp ∧ c < 64 ∧ s.channelUsed c = true ∧ (((s.channel c).slot (bits w.toNat 52
      48)).st = .free ∨ (((s.channel c).slot (bits w.toNat 52 48)).st = .posted ∧ ((s.channel c).slot (bits w.toNat 52
      48)).orphaned = true)) ∧ s.messageFits c (bits w.toNat 15 0) (bits w.toNat 47 32) = true) ∧
    (∃ (c : Nat) (w : W64) (s : State), s.busUp ∧ c < 64 ∧ s.channelUsed c = true ∧ (s.messageFits c (bits w.toNat 15 0)
      (bits w.toNat 47 32) = false ∨ ((s.channel c).slot (bits w.toNat 52 48)).st = .taken ∨ (((s.channel c).slot (bits
      w.toNat 52 48)).st = .posted ∧ ((s.channel c).slot (bits w.toNat 52 48)).orphaned = false))) ∧
    (∃ (c : Nat) (b : Nat) (rest : List Nat) (s : State), s.busUp ∧ c < 64 ∧ s.channelUsed c = true ∧ ((s.channel
      c).slotsWith (fun v => v.st == .posted) = b :: rest)) ∧
    (∃ (c : Nat) (s : State), s.busUp ∧ c < 64 ∧ s.channelUsed c = true ∧ ((s.channel c).slotsWith (fun v => v.st == .posted)
      = [])) ∧
    (∃ (c : Nat) (b : Nat) (s : State), c < 64 ∧ b < 32 ∧ s.tb.gclk = true ∧ ((s.channel c).slot b).st = .posted ∧
      ((s.channel c).slot b).orphaned = false) ∧
    (∃ (c : Nat) (b : Nat) (s : State), (((s.channel c).slot b).st ≠ .posted ∨ ((s.channel c).slot b).orphaned = true)) ∧
    (∃ (c : Nat) (s : State), s.busUp ∧ c < 64 ∧ s.channelUsed c = true) ∧
    (∃ (a : Nat) (c : Nat) (s : State), s.busUp ∧ c < 64 ∧ s.channelUsed c = true ∧ s.sender c ≠ a) ∧
    (∃ (c : Nat) (s : State), s.busUp ∧ c < 64 ∧ s.channelUsed c = false) ∧
    (∃ (c : Nat), 64 ≤ c) := by
  refine ⟨⟨63, 0x001F004000000040, (put [(0x7500 + 63, 3, 64), (0x7500 + 63, 4, 64)] up), ?_⟩,
    ⟨63, 0x001F001800000000, (slotIs { st := .taken }), ?_⟩,
    ⟨63, 31, [], (slotIs { st := .posted }), ?_⟩,
    ⟨63, up, ?_⟩,
    ⟨63, 31, (slotIs { st := .posted }), ?_⟩,
    ⟨63, 31, (slotIs { st := .taken }), ?_⟩,
    ⟨63, up, ?_⟩,
    ⟨3, 63, up, ?_⟩,
    ⟨0, up, ?_⟩,
    ⟨64, ?_⟩⟩ <;> decide +kernel

theorem witness_MailMessages :
    (∃ (c : Nat) (b : Nat) (s : State), s.serves c b 1 ∧ 8 ≤ (s.payload ((s.channel c).slot b).offset (s.slotHeader c
      b)).length) ∧
    (∃ (c : Nat) (b : Nat) (s : State), s.serves c b 2 ∧ 8 + (natLE (((s.payload ((s.channel c).slot b).offset (s.slotHeader
      c b)).drop 4).take 4)) ≤ (s.payload ((s.channel c).slot b).offset (s.slotHeader c b)).length) ∧
    (∃ (c : Nat) (b : Nat) (s : State), s.serves c b 0x10 ∧ s.sender c = 4 ∧ 12 ≤ (s.payload ((s.channel c).slot b).offset
      (s.slotHeader c b)).length ∧ s.attachStatus c (natLE (((s.payload ((s.channel c).slot b).offset (s.slotHeader c
      b)).drop 4).take 2)) (natLE (((s.payload ((s.channel c).slot b).offset (s.slotHeader c b)).drop 8).take 4)) = 0) ∧
    (∃ (c : Nat) (b : Nat) (s : State), s.serves c b 0x10 ∧ s.sender c = 4 ∧ 12 ≤ (s.payload ((s.channel c).slot b).offset
      (s.slotHeader c b)).length ∧ s.attachStatus c (natLE (((s.payload ((s.channel c).slot b).offset (s.slotHeader c
      b)).drop 4).take 2)) (natLE (((s.payload ((s.channel c).slot b).offset (s.slotHeader c b)).drop 8).take 4)) ≠ 0) ∧
    (∃ (c : Nat) (b : Nat) (s : State), s.serves c b 0x11) ∧
    (∃ (c : Nat) (b : Nat) (s : State), s.serves c b 0x12) ∧
    (∃ (n : Nat) (c : Nat) (v : HostSession) (s : State), s.mailSession n = some (c, v) ∧ s.comRuns = true) ∧
    (∃ (n : Nat) (s : State), s.mailSession n = none) := by
  refine ⟨⟨63, 31, (mail 1 (bytesLE 8 0)), ?_⟩,
    ⟨63, 31, (mail 2 (bytesLE 8 0)), ?_⟩,
    ⟨63, 31, (mail 16 (bytesLE 8 0 ++ bytesLE 4 oxgVersion)), ?_⟩,
    ⟨63, 31, (mail 16 (bytesLE 12 0)), ?_⟩,
    ⟨63, 31, (mail 17 []), ?_⟩,
    ⟨63, 31, (mail 18 []), ?_⟩,
    ⟨1, 63, { id := 1, metering := true }, up, ?_⟩,
    ⟨2, up, ?_⟩⟩ <;> decide +kernel

theorem witness_CoreCrashes :
    (∃ (c : Nat) (s : State), c < 4 ∧ (s.core c).st.runs = true) ∧
    (∃ (c : Nat) (s : State), c < 4 ∧ (s.core c).st = .running) ∧
    (∃ (c : Nat) (s : State), c < 4 ∧ s.gov.st = .boot ∧ ((s.core c).st = .stopped ∨ (s.core c).st = .booting)) ∧
    (∃ (c : Nat) (m : Nat) (s : State), c < 4 ∧ m < 8 ∧ (s.core c).st = .running ∧ ((((s.core c).compFaults.filter (fun p =>
      s.tb.now < p.2 + cycles 1000000000)).filter (fun p => p.1 == m)).length < 2)) ∧
    (∃ (c : Nat) (m : Nat) (s : State), c < 4 ∧ m < 8 ∧ (s.core c).st = .running ∧ (2 ≤ (((s.core c).compFaults.filter (fun p
      => s.tb.now < p.2 + cycles 1000000000)).filter (fun p => p.1 == m)).length)) ∧
    (∃ (c : Nat) (s : State), (s.core c).st.runs = false) ∧
    (∃ (c : Nat) (s : State), (s.core c).st ≠ .running) ∧
    (∃ (s : State), s.gov.st ≠ .boot) := by
  refine ⟨⟨3, up, ?_⟩,
    ⟨3, up, ?_⟩,
    ⟨3, { (coreIs 3 { st := .booting }) with gov := { up.gov with st := .boot } }, ?_⟩,
    ⟨3, 7, (coreIs 3 { st := .running, compFaults := [(7, 1)] }), ?_⟩,
    ⟨3, 7, (coreIs 3 { st := .running, compFaults := [(7, 1), (7, 2)] }), ?_⟩,
    ⟨3, (coreIs 3 { st := .held }), ?_⟩,
    ⟨3, (coreIs 3 { st := .held }), ?_⟩,
    ⟨up, ?_⟩⟩ <;> decide +kernel

theorem witness_CoreRestarts :
    (∃ (c : Nat) (m : FwImage) (s : State), c < 4 ∧ (s.core c).st = .restarting ∧ s.imageRefusal c m = 0) ∧
    (∃ (c : Nat) (m : FwImage) (s : State), c < 4 ∧ (s.core c).st = .restarting ∧ s.imageRefusal c m ≠ 0) ∧
    (∃ (c : Nat) (s : State), c < 4 ∧ (s.core c).st = .restarting ∧ (c = 3 → s.host.queue = [] ∧ s.host.waiting = [])) ∧
    (∃ (s : State), s.tb.gclk = true ∧ s.update.status = 3 ∧ s.update.restarting = false ∧ s.tb.cframe % 1000 = 0) ∧
    (∃ (s : State), s.update.restarting = true) ∧
    (∃ (s : State), s.update.status = 4) ∧
    (∃ (c : Nat) (s : State), (s.core c).st ≠ .restarting) ∧
    (∃ (s : State), s.update.status ≠ 3) ∧
    (∃ (s : State), s.update.restarting = false) ∧
    (∃ (s : State), s.update.status ≠ 4) := by
  refine ⟨⟨3, (release 3), (coreIs 3 { st := .restarting }), ?_⟩,
    ⟨3, (release 2), (coreIs 3 { st := .restarting }), ?_⟩,
    ⟨3, (coreIs 3 { st := .restarting }), ?_⟩,
    ⟨{ up with update := { up.update with status := 3, target := 3 } }, ?_⟩,
    ⟨{ up with update := { up.update with status := 4, target := 3, restarting := true } }, ?_⟩,
    ⟨{ up with update := { up.update with status := 4 } }, ?_⟩,
    ⟨3, up, ?_⟩,
    ⟨up, ?_⟩,
    ⟨up, ?_⟩,
    ⟨up, ?_⟩⟩ <;> decide +kernel

theorem witness_G3ControlWrite :
    (∃ (w : W64) (s : State), s.emulNow ∧ (w.getLsbD 0 = true ∨ w.getLsbD 1 = true)) ∧
    (∃ (w : W64) (s : State), s.emulNow ∧ w.toNat % 2 ^ 32 = 4) ∧
    (∃ (w : W64) (s : State), s.emulNow ∧ w.toNat % 2 ^ 32 = 0) := by
  refine ⟨⟨3, (put [(0x7400, 1, 1)] up), ?_⟩,
    ⟨4, (put [(0x7400, 1, 1)] up), ?_⟩,
    ⟨0, (put [(0x7400, 1, 1)] up), ?_⟩⟩ <;> decide +kernel

theorem witness_G3StatusCode :
    (∃ (s : State), s.emulNow) := by
  refine ⟨(put [(0x7400, 1, 1)] up), ?_⟩; decide +kernel

theorem witness_G3Accesses :
    (∃ (w : W64) (s : State), s.emulNow ∧ (w.toNat % 2 ^ 32 = 0 ∨ 13 * s.obj 0x2801 1 < w.toNat % 2 ^ 32 * 10000)) ∧
    (∃ (r : Nat) (w : W64) (s : State), s.emulNow ∧ w.toNat % 2 ^ 32 ≠ 0 ∧ w.toNat % 2 ^ 32 * 10000 ≤ 13 * s.obj 0x2801 1 ∧
      s.railsUsed = [r] ∧ s.emulBase.admits emulSession (powerLaw r) 0x0A (w.toNat % 2 ^ 32 * 1000 * s.obj (0x2810 + r) 4 /
      s.obj 0x2801 1) ∧ r < 8) ∧
    (∃ (w : W64) (s : State), s.emulNow ∧ satS 16 (toSigned 32 (w.toNat % 2 ^ 32) * 8) = toSigned 32 (w.toNat % 2 ^ 32) * 8 ∧
      s.emulBase.admits emulSession 0x3001 1 (ofSigned 16 (toSigned 32 (w.toNat % 2 ^ 32) * 8))) ∧
    (∃ (w : W64) (s : State), s.emulNow ∧ satS 16 (toSigned 32 (w.toNat % 2 ^ 32) * 8) = toSigned 32 (w.toNat % 2 ^ 32) * 8 ∧
      s.emulBase.admits emulSession 0x3001 3 (ofSigned 16 (toSigned 32 (w.toNat % 2 ^ 32) * 8))) ∧
    (∃ (w : W64) (s : State), s.emulNow ∧ w.toNat % 2 ^ 32 * 8 < 2 ^ 16 ∧ s.emulBase.admits emulSession 0x3001 7 (w.toNat % 2
      ^ 32 * 8)) ∧
    (∃ (high : Bool) (w : W64) (s : State), s.emulNow ∧ s.emulBase.admits emulSession 0x5000 1 (w.toNat % 2 ^ 32 * (if high
      then 2 ^ 32 else 1)) ∧ (∀ n < 64, (s.pin n).held = [])) ∧
    (∃ (a : G3Access) (s : State), s.host.queue = [a] ∧ s.host.waiting = [] ∧ a.write = false) ∧
    (∃ (a : G3Access) (s : State), (s.host.waiting.find? (fun x => x.write) = some a) ∧ s.host.queue.length = 16 ∧ a ∉
      s.host.queue) ∧
    (∃ (s : State), s.busUp ∧ s.emulates = false) ∧
    (∃ (s : State), ((s.host.queue ++ s.host.waiting).find? (fun x => !x.write) = none)) ∧
    (∃ (s : State), (s.host.waiting.find? (fun x => x.write) = none)) := by
  refine ⟨⟨521, (put [(0x7400, 1, 1), (0x2801, 1, 400000), (0x2810 + 7, 4, 400000)] up), ?_⟩,
    ⟨7, 520, (put [(0x7400, 1, 1), (0x2801, 1, 400000), (0x2810 + 7, 4, 400000)] up), ?_⟩,
    ⟨100, { (put [(0x7400, 1, 1)] up) with gov := { up.gov with st := .service } }, ?_⟩,
    ⟨800, { (put [(0x7400, 1, 1), (0x3001, 1, 5000), (0x3001, 5, 7000)] up) with gov := { up.gov with st := .service } },
      ?_⟩,
    ⟨3, { (put [(0x7400, 1, 1)] up) with gov := { up.gov with st := .service } }, ?_⟩,
    ⟨true, 0xFFFFFFFF, (put [(0x7400, 1, 1)] up), ?_⟩,
    ⟨⟨false, 4, 0, 0⟩, { up with host := { up.host with queue := [⟨false, 4, 0, 0⟩] } }, ?_⟩,
    ⟨⟨true, 4, 0, 0⟩,
      { up with host := { up.host with queue := List.replicate 16 ⟨false, 4, 0, 0⟩, waiting := [⟨true, 4, 0, 0⟩] } }, ?_⟩,
    ⟨up, ?_⟩,
    ⟨up, ?_⟩,
    ⟨up, ?_⟩⟩ <;> decide +kernel

theorem witness_ObjectWindow :
    (∃ (s : State), s.busUp ∧ s.window.claimed = false) ∧
    (∃ (s : State), s.busUp ∧ s.window.claimed = true) ∧
    (∃ (s : State), s.busUp) ∧
    (∃ (w : W64) (s : State) (u : State), s.busUp ∧ s.window.claimed = true ∧ bits w.toNat 63 62 = 1 ∧ u =
      ({ s.touch with window := { s.window with isDone := false, usedAt := s.tb.now } } : State).readObject windowSession
      (bits w.toNat 55 40) (bits w.toNat 39 32) (bits w.toNat 12 0) 0) ∧
    (∃ (w : W64) (s : State) (u : State), s.busUp ∧ s.window.claimed = true ∧ bits w.toNat 63 62 = 2 ∧ u =
      ({ s.touch with window := { s.window with isDone := false, usedAt := s.tb.now } } : State).writeObject windowSession
      (bits w.toNat 55 40) (bits w.toNat 39 32) (mreadBytes s.window.data 0 (bits w.toNat 12 0)) 0) ∧
    (∃ (s : State), s.tb.gclk = true ∧ s.window.claimed = true) ∧
    (∃ (u : Nat) (s : State), s.access.block = some u) ∧
    (∃ (s : State), s.window.claimed = false) ∧
    (∃ (s : State), s.access.block = none) := by
  refine ⟨⟨up, ?_⟩,
    ⟨{ up with window := { up.window with claimed := true } }, ?_⟩,
    ⟨{ up with window := { up.window with claimed := true } }, ?_⟩,
    ⟨0x40FFFFFF00000000, { up with window := { up.window with claimed := true } }, _, ?_, ?_, ?_, rfl⟩,
    ⟨0x80FFFFFF00000000, { up with window := { up.window with claimed := true } }, _, ?_, ?_, ?_, rfl⟩,
    ⟨{ up with window := { up.window with claimed := true } }, ?_⟩,
    ⟨5, { up with access := { up.access with block := some 5 } }, ?_⟩,
    ⟨up, ?_⟩,
    ⟨up, ?_⟩⟩ <;> decide +kernel

theorem witness_MuririSessions :
    (∃ (f : Frame) (s : State), s.gets f 1 ∧ s.openedBy f = none ∧ s.earlyCode f = 0 ∧ s.muriri.sessions.length < s.obj
      0x1400 0x0B) ∧
    (∃ (f : Frame) (v : MuSession) (s : State), s.gets f 2 ∧ s.bound f v ∧ v.lastSeq ≠ some f.seq ∧ v.transfer = none ∧
      s.earlyCode f = 0) ∧
    (∃ (n : Nat) (v : MuSession) (s : State), s.muSession n = some v ∧ s.comRuns = true) ∧
    (∃ (f : Frame) (v : MuSession) (s : State), s.gets f 0x10 ∧ s.bound f v ∧ v.lastSeq ≠ some f.seq ∧ v.transfer = none) ∧
    (∃ (f : Frame) (v : MuSession) (s : State), s.gets f 0x11 ∧ s.bound f v ∧ v.lastSeq ≠ some f.seq ∧ v.transfer = none) ∧
    (∃ (f : Frame) (v : MuSession) (r : OutFrame) (s : State), s.hears f = true ∧ malformed f = false ∧ (f.kind = 0x10 ∨
      f.kind = 0x11) ∧ s.bound f v ∧ v.lastSeq = some f.seq ∧ v.cache = some r) ∧
    (∃ (f : Frame) (s : State), s.hears f = true ∧ malformed f = true) ∧
    (∃ (s : State), s.busUp) ∧
    (∃ (n : Nat) (s : State), s.muSession n = none) := by
  refine ⟨⟨(frame 1 (bytesLE 8 0)), up, ?_⟩,
    ⟨(frame 2 []), { mac := 0x22, heardAt := 0, lastSeq := some 8 }, (peer { mac := 0x22, heardAt := 0, lastSeq := some 8 }),
      ?_⟩,
    ⟨2, { mac := 0x22, heardAt := 0, lastSeq := some 8 }, (peer { mac := 0x22, heardAt := 0, lastSeq := some 8 }), ?_⟩,
    ⟨(frame 0x10 (bytesLE 8 0x1000)), { mac := 0x22, heardAt := 0, lastSeq := some 8 }, (peer
      { mac := 0x22, heardAt := 0, lastSeq := some 8 }), ?_⟩,
    ⟨(frame 0x11 (bytesLE 8 0x1000)), { mac := 0x22, heardAt := 0, lastSeq := some 8 }, (peer
      { mac := 0x22, heardAt := 0, lastSeq := some 8 }), ?_⟩,
    ⟨(frame 0x11 (bytesLE 8 0x1000)), { mac := 0x22, heardAt := 0, lastSeq := some 9, cache := some out }, out, (peer
      { mac := 0x22, heardAt := 0, lastSeq := some 9, cache := some out }), ?_⟩,
    ⟨(frame 0x10 []), up, ?_⟩,
    ⟨up, ?_⟩,
    ⟨2, up, ?_⟩⟩ <;> decide +kernel

theorem witness_MuririTransfers :
    (∃ (f : Frame) (v : MuSession) (s : State), s.gets f 0x12 ∧ s.bound f v ∧ v.lastSeq ≠ some f.seq ∧ v.transfer = none ∧
      ((s.heard f v).captureRead f).1.answer.code = 0) ∧
    (∃ (f : Frame) (v : MuSession) (s : State), s.gets f 0x13 ∧ s.bound f v ∧ v.lastSeq ≠ some f.seq ∧ v.transfer = none ∧
      (s.heard f v).writeCodeEarly f.session (field (bodyOf f) 0 2) (field (bodyOf f) 2 1) 0 (field (bodyOf f) 4 2) ((s.heard
      f v).earlyCode f) = 0) ∧
    (∃ (f : Frame) (v : MuSession) (x : Transfer) (s : State), s.gets f 0x14 ∧ s.bound f v ∧ v.transfer = some x ∧ x.write =
      true ∧ x.seq = field (bodyOf f) 0 2 ∧ x.next = field (bodyOf f) 2 1 ∧ field (bodyOf f) 4 2 = segmentLength x.total
      x.next ∧ bit (field (bodyOf f) 3 1) 0 = segmentLast x.total x.next ∧ segmentLast x.total x.next = false) ∧
    (∃ (f : Frame) (v : MuSession) (x : Transfer) (s : State), s.gets f 0x14 ∧ s.bound f v ∧ v.transfer = some x ∧ x.write =
      true ∧ x.seq = field (bodyOf f) 0 2 ∧ x.next = field (bodyOf f) 2 1 ∧ field (bodyOf f) 4 2 = segmentLength x.total
      x.next ∧ bit (field (bodyOf f) 3 1) 0 = segmentLast x.total x.next ∧ segmentLast x.total x.next = true) ∧
    (∃ (f : Frame) (v : MuSession) (x : Transfer) (s : State), s.gets f 0x15 ∧ s.bound f v ∧ v.transfer = some x ∧ x.write =
      false ∧ x.seq = field (bodyOf f) 0 2 ∧ x.next = field (bodyOf f) 2 1) ∧
    (∃ (f : Frame) (v : MuSession) (x : Transfer) (s : State), s.gets f 0x16 ∧ s.bound f v ∧ v.transfer = some x ∧ x.seq =
      field (bodyOf f) 0 2) ∧
    (∃ (n : Nat) (v : MuSession) (x : Transfer) (s : State), s.muSession n = some v ∧ v.transfer = some x ∧ s.comRuns = true)
      ∧
    (∃ (n : Nat) (s : State), s.muSession n = none) := by
  refine ⟨⟨(frame 0x12 (bytesLE 8 0x1000)), { mac := 0x22, heardAt := 0, lastSeq := some 8 }, (peer
      { mac := 0x22, heardAt := 0, lastSeq := some 8 }), ?_⟩,
    ⟨(frame 0x13 (bytesLE 2 0x2C08 ++ [4, 0] ++ bytesLE 2 1024)), { mac := 0x22, heardAt := 0, lastSeq := some 8 },
      { (peer { mac := 0x22, heardAt := 0, lastSeq := some 8 }) with gov := { up.gov with st := .service } }, ?_⟩,
    ⟨(frame 0x14 (bytesLE 2 3 ++ [0, 0] ++ bytesLE 2 1024 ++ [0, 0] ++ List.replicate 1024 0)),
      { mac := 0x22, heardAt := 0, transfer := some { write := true, index := 0x2C08, sub := 4, total := 1025, seq := 3, next := 0, data := [], last := out } },
      { write := true, index := 0x2C08, sub := 4, total := 1025, seq := 3, next := 0, data := [], last := out }, (peer
      { mac := 0x22, heardAt := 0, transfer := some { write := true, index := 0x2C08, sub := 4, total := 1025, seq := 3, next := 0, data := [], last := out } }),
      ?_⟩,
    ⟨(frame 0x14 (bytesLE 2 3 ++ [0, 1] ++ bytesLE 2 1024 ++ [0, 0] ++ List.replicate 1024 0)),
      { mac := 0x22, heardAt := 0, transfer := some { write := true, index := 0x2C08, sub := 4, total := 1024, seq := 3, next := 0, data := [], last := out } },
      { write := true, index := 0x2C08, sub := 4, total := 1024, seq := 3, next := 0, data := [], last := out }, (peer
      { mac := 0x22, heardAt := 0, transfer := some { write := true, index := 0x2C08, sub := 4, total := 1024, seq := 3, next := 0, data := [], last := out } }),
      ?_⟩,
    ⟨(frame 0x15 (bytesLE 2 3 ++ [0, 0])),
      { mac := 0x22, heardAt := 0, transfer := some { write := false, index := 0x2C08, sub := 4, total := 1024, seq := 3, next := 0, data := [], last := out } },
      { write := false, index := 0x2C08, sub := 4, total := 1024, seq := 3, next := 0, data := [], last := out }, (peer
      { mac := 0x22, heardAt := 0, transfer := some { write := false, index := 0x2C08, sub := 4, total := 1024, seq := 3, next := 0, data := [], last := out } }),
      ?_⟩,
    ⟨(frame 0x16 (bytesLE 2 3 ++ [0, 0, 0, 0, 0, 0])),
      { mac := 0x22, heardAt := 0, transfer := some { write := false, index := 0x2C08, sub := 4, total := 1024, seq := 3, next := 0, data := [], last := out } },
      { write := false, index := 0x2C08, sub := 4, total := 1024, seq := 3, next := 0, data := [], last := out }, (peer
      { mac := 0x22, heardAt := 0, transfer := some { write := false, index := 0x2C08, sub := 4, total := 1024, seq := 3, next := 0, data := [], last := out } }),
      ?_⟩,
    ⟨2,
      { mac := 0x22, heardAt := 0, transfer := some { write := false, index := 0x2C08, sub := 4, total := 1024, seq := 3, next := 0, data := [], last := out } },
      { write := false, index := 0x2C08, sub := 4, total := 1024, seq := 3, next := 0, data := [], last := out }, (peer
      { mac := 0x22, heardAt := 0, transfer := some { write := false, index := 0x2C08, sub := 4, total := 1024, seq := 3, next := 0, data := [], last := out } }),
      ?_⟩,
    ⟨2, up, ?_⟩⟩ <;> decide +kernel

theorem witness_MuririEvents :
    (∃ (e : Event) (q : Record) (s : State), (s.events.find? (fun e => e.sentAt.isNone) = some e) ∧ s.comRuns = true ∧ e.seq
      ≤ s.recorder.head ∧ s.daybookRecord e.seq = some q ∧ s.poison = []) ∧
    (∃ (e : Event) (rest : List Event) (u : Nat) (q : Record) (s : State), s.events = e :: rest ∧ e.sentAt = some u ∧
      s.comRuns = true ∧ e.repeats < s.obj 0x1400 8 ∧ s.daybookRecord e.seq = some q ∧ s.poison = []) ∧
    (∃ (e : Event) (rest : List Event) (u : Nat) (s : State), s.events = e :: rest ∧ e.sentAt = some u ∧ s.comRuns = true ∧
      s.obj 0x1400 8 ≤ e.repeats ∧ s.quiet 59) ∧
    (∃ (f : Frame) (s : State), s.gets f 0x31 ∧ f.session = 0) ∧
    (∃ (f : Frame) (v : MuSession) (s : State), s.gets f 0x31 ∧ f.session ≠ 0 ∧ s.bound f v) ∧
    (∃ (s : State), s.events = []) := by
  refine ⟨⟨{ seq := 1, level := 1, pin := 9 }, ⟨1, 0, 0, 0, 0, 0⟩,
      { up with events := [{ seq := 1, level := 1, pin := 9 }], recorder := { up.recorder with head := 1, daybook := [(1, ⟨1, 0, 0, 0, 0, 0⟩)] } },
      ?_⟩,
    ⟨{ seq := 1, level := 1, pin := 9, sentAt := some 5 }, [], 5, ⟨1, 0, 0, 0, 0, 0⟩,
      { up with events := [{ seq := 1, level := 1, pin := 9, sentAt := some 5 }], recorder := { up.recorder with head := 1, daybook := [(1, ⟨1, 0, 0, 0, 0, 0⟩)] } },
      ?_⟩,
    ⟨{ seq := 1, level := 1, pin := 9, sentAt := some 5, repeats := 1 }, [], 5, (put [(0x1400, 8, 1)]
      { up with events := [{ seq := 1, level := 1, pin := 9, sentAt := some 5, repeats := 1 }], recorder := { up.recorder with head := 1, daybook := [(1, ⟨1, 0, 0, 0, 0, 0⟩)] } }),
      ?_⟩,
    ⟨{ frame 0x31 (bytesLE 8 1) with session := 0 }, up, ?_⟩,
    ⟨(frame 0x31 (bytesLE 8 1)), { mac := 0x22, heardAt := 0 }, (peer { mac := 0x22, heardAt := 0 }), ?_⟩,
    ⟨up, ?_⟩⟩ <;> decide +kernel

theorem witness_SegmentCoordination :
    (∃ (s : State), s.coordinates = true ∧ s.everyH 10 = true) ∧
    (∃ (f : Frame) (g : Grant) (s : State), s.gets f 0x41 ∧ s.role = 2 ∧ f.src = s.obj 0x7000 3 ∧ s.sameSchema f = true ∧
      s.segment.lastSeq ≠ some (field (bodyOf f) 0 4) ∧ entryFor (bodyOf f) (s.obj 0x7000 2) = some g) ∧
    (∃ (f : Frame) (s : State), s.gets f 0x41 ∧ s.role = 2 ∧ f.src = s.obj 0x7000 3 ∧ s.sameSchema f = false) ∧
    (∃ (f : Frame) (s : State), s.gets f 0x41 ∧ s.role = 2 ∧ f.src ≠ s.obj 0x7000 3) ∧
    (∃ (f : Frame) (s : State), s.gets f 0x41 ∧ s.role = 1) ∧
    (∃ (s : State), s.tb.gclk = true ∧ s.segment.role = 2) ∧
    (∃ (u : Nat) (s : State), s.segment.foreign = some u) ∧
    (∃ (f : Frame) (m : Nat) (s : State), s.gets f 0x42 ∧ s.role = 1 ∧ (s.memberIds.find? (fun m => s.memberMac m == f.src) =
      some m) ∧ field (bodyOf f) 4 1 = m) ∧
    (∃ (f : Frame) (s : State), s.gets f 0x42 ∧ s.role = 1 ∧ (s.memberIds.find? (fun m => s.memberMac m == f.src) = none)) ∧
    (∃ (s : State), s.coordinates = true ∧ s.everyH 1000 = true ∧ s.clock.quality = 3) ∧
    (∃ (f : Frame) (s : State), s.gets f 0x40 ∧ s.role = 2 ∧ f.src = s.obj 0x7000 3 ∧ s.sameSchema f = true ∧ s.clock.quality
      < 3) ∧
    (∃ (s : State), (s.coordinates = false ∨ s.everyH 10 = false)) ∧
    (∃ (s : State), (s.tb.gclk = false ∨ s.segment.role ≠ 2)) ∧
    (∃ (s : State), s.segment.foreign = none) ∧
    (∃ (s : State), (s.coordinates = false ∨ s.everyH 1000 = false ∨ s.clock.quality ≠ 3)) := by
  refine ⟨⟨(put [(0x7000, 1, 1)] { up with segment := { up.segment with hcount := 10 } }), ?_⟩,
    ⟨{ frame 0x41 (bytesLE 4 7 ++ bytesLE 4 0 ++ [1, 0, 0, 0] ++ [15, 0, 0, 0] ++ bytesLE 4 500 ++ bytesLE 8 0) with session := 0, schema := up.obj 0x1000 8, epoch := up.obj 0x1000 5 },
      ⟨500, 0, 0, some 0⟩, (put [(0x7000, 1, 2), (0x7000, 2, 15), (0x7000, 3, 0x22)]
      { up with segment := { up.segment with role := 2 } }), ?_⟩,
    ⟨{ frame 0x41 (bytesLE 4 7 ++ bytesLE 4 0 ++ [1, 0, 0, 0] ++ [15, 0, 0, 0] ++ bytesLE 4 500 ++ bytesLE 8 0) with session := 0, schema := up.obj 0x1000 8, epoch := 77 },
      (put [(0x7000, 1, 2), (0x7000, 2, 15), (0x7000, 3, 0x22)] { up with segment := { up.segment with role := 2 } }), ?_⟩,
    ⟨{ frame 0x41 (bytesLE 4 7 ++ bytesLE 4 0 ++ [1, 0, 0, 0] ++ [15, 0, 0, 0] ++ bytesLE 4 500 ++ bytesLE 8 0) with session := 0, src := 0x33, schema := up.obj 0x1000 8, epoch := up.obj 0x1000 5 },
      (put [(0x7000, 1, 2), (0x7000, 2, 15), (0x7000, 3, 0x22)] { up with segment := { up.segment with role := 2 } }), ?_⟩,
    ⟨{ frame 0x41 (bytesLE 4 7 ++ bytesLE 4 0 ++ [1, 0, 0, 0] ++ [15, 0, 0, 0] ++ bytesLE 4 500 ++ bytesLE 8 0) with session := 0, schema := up.obj 0x1000 8, epoch := up.obj 0x1000 5 },
      (put [(0x7000, 1, 1)] up), ?_⟩,
    ⟨{ up with segment := { up.segment with role := 2 } }, ?_⟩,
    ⟨5, { up with segment := { up.segment with foreign := some 5 } }, ?_⟩,
    ⟨{ frame 0x42 (bytesLE 4 7 ++ [15] ++ List.replicate 19 0) with session := 0 }, 15, (put [(0x7000, 1, 1), (0x7010 + 15,
      1, 0x22)] up), ?_⟩,
    ⟨{ frame 0x42 (bytesLE 4 7 ++ [15] ++ List.replicate 19 0) with session := 0 }, (put [(0x7000, 1, 1)] up), ?_⟩,
    ⟨(put [(0x7000, 1, 1)]
      { { up with segment := { up.segment with hcount := 1000 } } with clock := { up.clock with quality := 3 } }), ?_⟩,
    ⟨{ frame 0x40 (bytesLE 16 0) with session := 0, schema := up.obj 0x1000 8, epoch := up.obj 0x1000 5 }, (put [(0x7000, 1,
      2), (0x7000, 2, 15), (0x7000, 3, 0x22)] { up with segment := { up.segment with role := 2 } }), ?_⟩,
    ⟨up, ?_⟩,
    ⟨up, ?_⟩,
    ⟨up, ?_⟩,
    ⟨up, ?_⟩⟩ <;> decide +kernel

theorem witness_TestAccess :
    (∃ (s : State), s.gov.st ≠ .off ∧ s.gov.govRstLow = false) ∧
    (∃ (s : State), s.gov.st ≠ .off ∧ s.gov.govRstLow = true) ∧
    (∃ (s : State), s.gov.st ≠ .off ∧ s.tripOut = true) ∧
    (∃ (s : State), s.gov.st ≠ .off ∧ s.tripOut = false) ∧
    (∃ (s : State), s.gov.st ≠ .off) ∧
    (∃ (c : BitVec 8) (s : State), s.gov.st ≠ .off ∧ tapListed c = false) ∧
    (∃ (s : State), s.gov.st ≠ .off ∧ s.tripOut = true ∧ s.test.fuses.lock = false) ∧
    (∃ (s : State), s.gov.st ≠ .off ∧ s.tripOut = true ∧ s.test.fuses.lock = true) ∧
    (∃ (n : Nat) (s : State), s.gov.st ≠ .off ∧ s.tripOut = true ∧ n < 256) ∧
    (∃ (s : State), s.tripOut = false) := by
  refine ⟨⟨up, ?_⟩,
    ⟨{ up with gov := { up.gov with govRstLow := true } }, ?_⟩,
    ⟨{ up with gov := { up.gov with govRstLow := true } }, ?_⟩,
    ⟨up, ?_⟩,
    ⟨up, ?_⟩,
    ⟨0x55, up, ?_⟩,
    ⟨{ up with gov := { up.gov with govRstLow := true } }, ?_⟩,
    ⟨{ up with gov := { up.gov with govRstLow := true }, test := { up.test with fuses := { lock := true } } }, ?_⟩,
    ⟨255, { up with gov := { up.gov with govRstLow := true } }, ?_⟩,
    ⟨up, ?_⟩⟩ <;> decide +kernel

theorem witness_RegisterWrites :
    (∃ (a : Nat), a % 8 ≠ 0) ∧
    (∃ (a : Nat) (s : State), a % 8 = 0 ∧ a < 0x10000 ∧ s.busUp ∧ Memory.wf s.mram = true) ∧
    (∃ (a : Nat) (s : State), a % 8 = 0 ∧ a < 0x1000 ∧ s.busUp) ∧
    (∃ (a : Nat) (b : BitVec 8) (s : State), a % 8 = 0 ∧ b ≠ 0xFF ∧ ¬(0x40000 ≤ a ∧ a < 0x50000) ∧ ¬(0x11000 ≤ a ∧ a <
      0x12000) ∧ s.busUp) ∧
    (∃ (k : Nat), k < 6) ∧
    (∃ (k : Nat), k < 16) ∧
    (∃ (k : Nat), k < 32) ∧
    (∃ (k : Nat), k < 64) ∧
    (∃ (s : State), s.busUp) ∧
    (∃ (s : State), s.busUp ∧ (∀ n < 64, (s.pin n).held = [])) := by
  refine ⟨⟨7, ?_⟩,
    ⟨0xFFF8, up, ?_⟩,
    ⟨0xFF8, up, ?_⟩,
    ⟨0x3FFF8, 0xFE, up, ?_⟩,
    ⟨5, ?_⟩,
    ⟨15, ?_⟩,
    ⟨31, ?_⟩,
    ⟨63, ?_⟩,
    ⟨up, ?_⟩,
    ⟨up, ?_⟩⟩ <;> decide +kernel

theorem witness_WaitForClock :
    (∃ (c : Nat) (i : Nat) (k : Nat) (o : Nat) (s : State), s.tb.gclk = false ∧ s.gov.st ≠ .off ∧ s.gov.govRstLow = false ∧ c
      < 64 ∧ i < 16 ∧ k < 6 ∧ o < 0x4000) ∧
    (∃ (f : Frame) (s : State), s.tb.gclk = false ∧ s.gov.st ≠ .off ∧ s.gov.govRstLow = false ∧ s.gov.booting = false ∧
      s.addressed f = true ∧ s.hears f = false) := by
  refine ⟨⟨63, 15, 5, 0x3FFF, { up with tb := { up.tb with gclk := false } }, ?_⟩,
    ⟨(frame 1 []), { up with tb := { up.tb with gclk := false } }, ?_⟩⟩ <;> decide +kernel

end Sys2Proof.Tests
end

/-! Freeing mailbox slots (13 R333): the effect of FREE on each slot of the channel, and what it leaves alone. -/

namespace Sys2Proof.Machine

/-! ### Slots of a channel -/

/-- A slot of a channel after one write. -/
@[simp] theorem Channel.slot_setSlot (ch : Channel) (b k : Nat) (v : Slot) :
    (ch.setSlot b v).slot k = if k = b then v else ch.slot k := tget_tset ..

@[simp] theorem Channel.mem_slotsWith (ch : Channel) (p : Slot → Bool) (b : Nat) :
    b ∈ ch.slotsWith p ↔ b < 32 ∧ p (ch.slot b) = true := by
  simp [Channel.slotsWith]

/-! ### Freeing the slots a word names -/

/-- One turn of the loop of `State.freeSlots`: the slot becomes FREE where its bit of the word is 1. -/
def Channel.freeNamed (word : W64) (ch : Channel) (b : Nat) : Channel :=
  if word.getLsbD b then ch.setSlot b {} else ch

/-- The channel that `State.freeSlots` writes back. -/
def Channel.freeTaken (ch : Channel) (word : W64) : Channel :=
  each (ch.slotsWith (fun v => v.st == .taken)) (Channel.freeNamed word) ch

theorem State.freeSlots_eq (s : State) (c : Nat) (word : W64) :
    s.freeSlots c word = s.setChannel c ((s.channel c).freeTaken word) := rfl

theorem Channel.slot_freeNamed (word : W64) (ch : Channel) (b k : Nat) :
    (ch.freeNamed word b).slot k = if k = b ∧ word.getLsbD b = true then {} else ch.slot k := by
  unfold Channel.freeNamed
  split <;> simp [*]

/-- The order of the turns does not matter: after the loop a slot is FREE when it was in the list and the word names it. -/
theorem Channel.slot_each_freeNamed (word : W64) (l : List Nat) (ch : Channel) (k : Nat) :
    (each l (Channel.freeNamed word) ch).slot k = if k ∈ l ∧ word.getLsbD k = true then {} else ch.slot k := by
  induction l generalizing ch with
  | nil => simp
  | cons b rest ih =>
    rw [each_cons, ih, Channel.slot_freeNamed]
    obtain rfl | hb := eq_or_ne k b
    · by_cases hnamed : word.getLsbD k = true <;> simp [hnamed]
    · simp [hb]

theorem Channel.slot_freeTaken (ch : Channel) (word : W64) (k : Nat) :
    (ch.freeTaken word).slot k =
      if (k < 32 ∧ (ch.slot k).st = .taken) ∧ word.getLsbD k = true then {} else ch.slot k := by
  simp [Channel.freeTaken, Channel.slot_each_freeNamed]

/-- Freeing slots writes the slots of the channel only. -/
theorem Channel.freeTaken_frame (ch : Channel) (word : W64) :
    ch.freeTaken word = { ch with slots := (ch.freeTaken word).slots } := by
  refine each_carries (fun d => d = { ch with slots := d.slots }) (fun d b hd => ?_) _ ch rfl
  unfold Channel.freeNamed
  split
  · conv_lhs => rw [hd]
    rfl
  · exact hd

/-! ### FREE -/

/-- A write of a used channel's register by the agent it belongs to reaches the block when the ports are up. -/
theorem State.channelWrite_own {s : State} {c : Nat} {own : Bool} (i : Instr) (f : State → State) (hup : s.busUp)
    (hc : c < 64) (hused : s.channelUsed c = true) (hown : own = true) :
    s.channelWrite i c own f = .next (f s.touch) := by
  obtain ⟨hclk, hon⟩ := hup
  have hused' : s.touch.channelUsed c = true := hused
  simp [State.channelWrite, State.onBus, State.onChannel, hc, hclk, hon, hused', hown]

theorem exec_free_receiver {s : State} {c : Nat} (w : W64) (hup : s.busUp) (hc : c < 64)
    (hused : s.channelUsed c = true) :
    exec (.free (s.receiver c) c w) s = .next (s.touch.setChannel c ((s.channel c).freeTaken w)) :=
  State.channelWrite_own _ _ hup hc hused (beq_self_eq_true _)

/-- Settles O45: FREE writes back the channel with `Channel.freeTaken` applied, and that is read slot by slot (R333). -/
theorem freeReturnsBuffers : Obligations.FreeReturnsBuffers := by
  unfold Obligations.FreeReturnsBuffers
  intro c w s hup hc hused
  refine ⟨_, exec_free_receiver w hup hc hused, ?_, ?_, ?_, ?_, rfl⟩
  · intro b hb hnamed htaken
    simp [Channel.slot_freeTaken, hb, hnamed, htaken]
  · intro b hother
    rw [State.channel_setChannel, if_pos rfl, Channel.slot_freeTaken, if_neg]
    rintro ⟨⟨hb, htaken⟩, hnamed⟩
    exact hother hb hnamed htaken
  · rw [State.channel_setChannel, if_pos rfl]
    exact Channel.freeTaken_frame _ w
  · intro k hk
    rw [State.channel_setChannel, if_neg hk]
    rfl

end Sys2Proof.Machine

/-! The emulated G3 block served at once (14 R355, 18 R431, R432): the write of G3_CTRL and the read of G3_STATUS. -/

namespace Sys2Proof.Machine

/-! ### Objects through a write of the store -/

theorem thas_tset_same {α : Type} (t : Tbl α) (k : Nat) (v : α) : thas (tset t k v) k = true := by
  induction t with
  | nil => simp [tset, thas]
  | cons p rest ih =>
    rw [thas] at ih
    unfold tset
    split
    · simp [thas]
    · split
      · simp [thas]
      · simp [thas, ih]

@[simp] theorem State.obj_setObj_same (s : State) (i j v : Nat) : (s.setObj i j v).obj i j = v := by
  simp [State.obj, State.setObj, stored, thas_tset_same]

@[simp] theorem State.obj_touch (s : State) (i j : Nat) : s.touch.obj i j = s.obj i j := rfl

theorem State.obj_gov (s : State) (g : Gov) (i j : Nat) : ({ s with gov := g } : State).obj i j = s.obj i j := rfl

/-! ### An access served at once -/

theorem HostIf.drained {h : HostIf} (hqueue : h.queue = []) (hwaiting : h.waiting = []) :
    ({ h with queue := [], waiting := [] } : HostIf) = h := by
  obtain ⟨⟩ := h
  simp_all

theorem State.g3Drain_one {s : State} (a : G3Access) (hqueue : s.host.queue = []) (hwaiting : s.host.waiting = []) :
    ({ s with host := { s.host with queue := [a] } } : State).g3Drain = s.g3Serve a := by
  change each ([a] ++ s.host.waiting) State.g3Serve { s with host := { s.host with queue := [], waiting := [] } } = _
  rw [hwaiting, HostIf.drained hqueue hwaiting]
  rfl

/-- An access that finds the queue empty and COM running is served, and leaves the queue empty. -/
theorem State.g3Access_served {s : State} (write : Bool) (o : Nat) (word : W64) (hmode : s.emulates = true)
    (hcom : s.comRuns = true) (hqueue : s.host.queue = []) (hwaiting : s.host.waiting = []) :
    s.g3Access write o word = s.g3Serve ⟨write, o, word, s.tb.now⟩ := by
  rw [State.g3Access, if_neg (by simp [hmode])]
  extract_lets a h u
  have hu : u = { s with host := { s.host with queue := [a] } } := by simp [u, h, hqueue]
  rw [hu]
  exact (if_pos hcom).trans (State.g3Drain_one a hqueue hwaiting)

theorem State.g3Access_now {s : State} (write : Bool) (o : Nat) (word : W64) (h : s.emulNow) :
    s.touch.g3Access write o word = s.touch.g3Serve ⟨write, o, word, s.tb.now⟩ := by
  obtain ⟨-, hmode, hcom, hqueue, hwaiting⟩ := h
  exact State.g3Access_served write o word (by rwa [State.emulates, State.obj_touch]) hcom hqueue hwaiting

theorem State.onBus_up {s : State} (c : Instr) (f : State → State) (h : s.busUp) :
    s.onBus c f = .next (f s.touch) := by
  obtain ⟨hclk, hon⟩ := h
  simp [State.onBus, hclk, hon]

theorem exec_g3PowerRequest_now {s : State} (w : W64) (h : s.emulNow) :
    exec (.g3PowerRequest w) s = .next (s.emulBase.g3Ctrl (w.toNat % 2 ^ 32)) := by
  change s.onBus _ (fun s => s.g3Access true 8 w) = _
  rw [State.onBus_up _ _ h.1, State.g3Access_now _ _ _ h]
  rfl

/-- What a read served at once returns is what the register holds once the access is counted. -/
theorem exec_g3Read_now {s : State} {o : Nat} (ho : o < 0x10000) (hword : o % 4 = 0) (h : s.emulNow) :
    exec (.g3Read o) s = .next { (s.emulBase.g3Value o).1 with
      host := { (s.emulBase.g3Value o).1.host with read := BitVec.ofNat 64 (s.emulBase.g3Value o).2 } } := by
  change (if o < 0x10000 && o % 4 = 0 then s.onBus _ (fun s => s.g3Access false o 0) else _) = _
  rw [if_pos (by simp [ho, hword]), State.onBus_up _ _ h.1, State.g3Access_now _ _ _ h]
  rfl

/-! ### G3_CTRL -/

theorem bit_eq_testBit (v i : Nat) : bit v i = v.testBit i := by
  rw [Nat.testBit_eq_decide_div_mod_eq]
  rfl

/-- The register takes the low half of the word. -/
theorem bit_lowHalf (w : W64) {i : Nat} (hi : i < 32) : bit (w.toNat % 2 ^ 32) i = w.getLsbD i := by
  rw [← BitVec.testBit_toNat, bit_eq_testBit, Nat.testBit_mod_two_pow]
  simp [hi]

theorem State.g3Ctrl_refused (s : State) {w : Nat} (h : bit w 0 = true ∨ bit w 1 = true) :
    s.g3Ctrl w = ({ s with gov := { s.gov with cmdStatus := 0x00040002 } } : State).bump 0x7400 8 := by
  rw [State.g3Ctrl, if_pos (by simpa using h)]
  rfl

theorem valueBytes_resume : valueBytes 0x3400 8 5 = bytesLE 1 5 := by decide +kernel

/-- Bit 2 alone is RESUME, the value 5 of 0x3400:08, under the checks of the object engine. -/
theorem State.g3Ctrl_resume (s : State) : s.g3Ctrl 4 =
    if (s.writeObject emulSession 0x3400 8 (bytesLE 1 5) 0).answer.code = 0 then
      s.writeObject emulSession 0x3400 8 (bytesLE 1 5) 0
    else (s.writeObject emulSession 0x3400 8 (bytesLE 1 5) 0).bump 0x7400 8 := by
  change s.g3Put 0x3400 8 5 = _
  simp only [State.g3Put, State.g3Refused, valueBytes_resume, bne_iff_ne, ne_eq, ite_not]

/-- The count of the accesses served does not touch the count of the writes refused. -/
theorem State.emulBase_refusals (s : State) : s.emulBase.obj 0x7400 8 = s.obj 0x7400 8 := by
  rw [State.emulBase, State.bump64_eq, obj_setObj_high _ _ _ _ _ _ (by decide) (by decide), State.obj_touch]

/-- Settles O50: a served write of G3_CTRL is `State.g3Ctrl` of the word's low half, taken bit by bit (R432). -/
theorem g3ControlWrite : Obligations.G3ControlWrite := by
  unfold Obligations.G3ControlWrite
  refine ⟨fun w s h hbits => ?_, fun w s h hword => ?_, fun w s h hword => ?_⟩
  · have hlow : bit (w.toNat % 2 ^ 32) 0 = true ∨ bit (w.toNat % 2 ^ 32) 1 = true := by
      rwa [bit_lowHalf w (by decide), bit_lowHalf w (by decide)]
    refine ⟨_, (exec_g3PowerRequest_now w h).trans (congrArg _ (State.g3Ctrl_refused _ hlow)), ?_, rfl, rfl, rfl⟩
    rw [State.bump_eq, State.obj_setObj_same, State.obj_gov, State.emulBase_refusals]
    rfl
  · rw [exec_g3PowerRequest_now w h, hword, State.g3Ctrl_resume]
  · rw [exec_g3PowerRequest_now w h, hword]
    rfl

/-! ### G3_STATUS -/

/-- The object engine serves every read of 0x3400 that the tables allow, whatever the state. -/
theorem State.readObject_gov (s : State) (sess sub : Nat) {r : ObjRow} (hrow : objRow 0x3400 sub = some r)
    (hacc : readClassCode r = 0) (hlen : readLengthCode r 0 = 0) :
    s.readObject sess 0x3400 sub 0 0 =
      { s.bump64 0x1402 1 1 with answer := { code := 0, data := bytesLE r.ty.size (s.value sess 0x3400 sub) } } := by
  have hex : objExists 0x3400 = true := by decide +kernel
  have hcode : s.readCode sess 0x3400 sub 0 0 = 0 := by
    simp [State.readCode, hrow, hacc, hlen, firstCode, State.presenceCode, State.absent, absentInCore, absentSubInCore,
      hex, State.readAuthCode, State.readStateCode, State.servingCode, servedBy, codeIf]
  simp [State.readObject, hcode, hrow, State.readEffect, State.readPoison]

theorem State.g3Get_gov_answered (s : State) {sub : Nat} {r : ObjRow} (hrow : objRow 0x3400 sub = some r)
    (hacc : readClassCode r = 0) (hlen : readLengthCode r 0 = 0) : Answered (s.g3Get 0x3400 sub).1 s := by
  rw [Answered, State.g3Get, State.readObject_gov s emulSession sub hrow hacc hlen]
  rfl

theorem Answered.trans {a b c : State} (h : Answered a b) (g : Answered b c) : Answered a c := by
  rw [Answered] at g h ⊢
  conv_lhs => rw [h, g]

/-- What G3_STATUS holds: the state code, the SAFE flag, and the host release that 0x3400:0F returns (R431). -/
theorem State.g3Value_status (s : State) :
    s.g3Value 4 = (((s.g3Get 0x3400 1).1.g3Get 0x3400 0x0F).1,
      s.gov.st.g3Code + natOfBool s.safeLatched * 2 ^ 8 + ((s.g3Get 0x3400 1).1.g3Get 0x3400 0x0F).2 % 2 * 2 ^ 9) := rfl

/-- A read of G3_STATUS reads 0x3400:01 and :0F, both readable in every state. -/
theorem State.g3Value_status_answered (s : State) : Answered (s.g3Value 4).1 s := by
  have hstate : objRow 0x3400 0x01 = some ⟨0x3400, 0x3400, 0x01, 0x01, .u8, .ro, 0x000, 1, none, none⟩ := by
    decide +kernel
  have hrel : objRow 0x3400 0x0F = some ⟨0x3400, 0x3400, 0x0F, 0x0F, .bool, .ro, 0x000, 0, none, none⟩ := by
    decide +kernel
  simp only [State.g3Value_status]
  exact ((s.g3Get 0x3400 1).1.g3Get_gov_answered hrel rfl rfl).trans (s.g3Get_gov_answered hstate rfl rfl)

theorem GovState.g3Code_le (st : GovState) : st.g3Code ≤ 6 := by cases st <;> decide

theorem GovState.g3Code_eq_zero_iff (st : GovState) : st.g3Code = 0 ↔ st = .off := by cases st <;> decide

/-- The flags of G3_STATUS lie above its state code. -/
theorem State.g3Value_status_code (s : State) : (BitVec.ofNat 64 (s.g3Value 4).2).toNat % 256 = s.gov.st.g3Code := by
  have hcode := s.gov.st.g3Code_le
  rw [State.g3Value_status, BitVec.toNat_ofNat]
  omega

/-- Settles O51: the read serves `State.g3Value 4`, whose low byte is the state code (R431). -/
theorem g3StatusCode : Obligations.G3StatusCode := by
  unfold Obligations.G3StatusCode
  intro s h
  have ⟨⟨_, hon⟩, _⟩ := h
  have hcode : (BitVec.ofNat 64 (s.emulBase.g3Value 4).2).toNat % 256 = s.gov.st.g3Code :=
    s.emulBase.g3Value_status_code
  refine ⟨_, exec_g3Read_now (by decide) (by decide) h, ?_, ?_, ?_⟩
  · rw [hcode, ne_eq, GovState.g3Code_eq_zero_iff]
    exact hon
  · rw [hcode]
    cases s.gov.st <;> rfl
  · rw [s.emulBase.g3Value_status_answered]
    simp [State.emulBase, State.touch]

end Sys2Proof.Machine

namespace Sys2Proof.Machine

/-! The proofs of the obligations of the family 'other'. They are elaborated one at a time: the threads of
asynchronous elaboration take more memory than the check of the whole text has. -/

set_option Elab.async false

/-! Every command evolves the state (tier 3): what each command keeps, command by command, over the laws of the operations. -/

set_option linter.unusedSimpArgs false
set_option linter.flexible false

/-! ### Outcomes that a state evolves to -/

/-- What a command that leaves the message RAM alone keeps, the clock free to advance. -/
@[simp] abbrev Drifts (t s : State) : Prop :=
  t.pending = s.pending ∧ t.cfg = s.cfg ∧ t.mram = s.mram ∧ s.tb.now ≤ t.tb.now ∧
    t.gov.gathered.isSome = s.gov.gathered.isSome

theorem Drifts.evolves {s t : State} (h : Drifts t s) (k : s.trip = true → t.trip = true) : Evolves s t := by
  obtain ⟨hpending, hcfg, hmram, hnow, hgathered⟩ := h
  exact ⟨hpending, hcfg, hnow, fun h => hmram ▸ h, k, isSome_none hgathered⟩

theorem Drifts.nexts {s t : State} (h : Drifts t s) (k : s.trip = true → t.trip = true) : Nexts s (.next t) :=
  Machine.nexts (h.evolves k)

theorem Nexts.same (s : State) : Nexts s (.next s) := Machine.nexts (.refl s)

theorem Nexts.ite {s : State} {c : Prop} [Decidable c] {a b : Host.Outcome State Fault Refusal} (ha : Nexts s a)
    (hb : Nexts s b) : Nexts s (if c then a else b) := by
  split <;> assumption

theorem Nexts.when {s t : State} {c : Prop} [Decidable c] (h : Evolves s t) : Nexts s (if c then .next t else .next s) :=
  .ite (nexts h) (.same s)

/-! ### Resets and clocks -/

theorem State.blank_evolves (s : State) (g : Gov) (x : Test) (hg : g.gathered = none) (ht : tripKept g.st g.tripLatch = true) :
    Evolves s { s.blank with gov := g, test := x } :=
  ⟨rfl, rfl, Nat.le_refl _, fun _ => rfl, fun _ => ht, fun _ => hg⟩

theorem State.mark_evolves (s : State) {a : GovState} (b : Nat) (ha : a ≠ .trip) (hb : a ≠ .cooldown) :
    Evolves s (s.mark a b) :=
  .steady (by simp) (fun _ => by simp [ha, hb])

theorem execColdReset_nexts (s : State) : Nexts s (execColdReset s) := by
  unfold execColdReset
  extract_lets b g c
  have h : Evolves s c := State.blank_evolves s _ { fuses := s.test.fuses, fused := s.test.fuses } rfl rfl
  clear_value c
  exact nexts (h.trans (State.mark_evolves _ _ (by decide) (by decide)))

theorem execVgovLoss_nexts (s : State) : Nexts s (execVgovLoss s) :=
  nexts (State.blank_evolves s _ _ rfl rfl)

theorem execStrapSample_nexts (sel s) : Nexts s (execStrapSample sel s) := by
  unfold execStrapSample
  (repeat' split) <;> exact Drifts.nexts (by simp) (fun h => by simp [h])

theorem execGovReset_nexts (s : State) : Nexts s (execGovReset s) := by
  refine .ite (.same s) (nexts (Evolves.trans (.still (State.stopGclk_keeps s)) ?_))
  generalize s.stopGclk = u
  obtain ⟨hp, hc, hm, hn, hg, hs, hl, ht⟩ := State.droopTotals_keeps u
  refine ⟨hp, hc, Nat.le_of_eq hn.symm, fun _ => rfl, fun h => ?_, fun _ => rfl⟩
  exact (ht.trans h : u.droopTotals.trip = true)

theorem execGovResetRelease_nexts (s) : Nexts s (execGovResetRelease s) := by
  unfold execGovResetRelease
  dsimp only
  (repeat' split) <;> exact Drifts.nexts (by simp) (fun h => by simp [h])

theorem execHostReset_nexts (s) : Nexts s (execHostReset s) := by
  unfold execHostReset
  dsimp only
  (repeat' split) <;> exact Drifts.nexts (by simp) (fun h => by simp [h])

theorem execBootComplete_nexts (img fw s) : Nexts s (execBootComplete img fw s) := by
  unfold execBootComplete
  refine .ite (.ite (Drifts.nexts (by simp) (fun h => by simp [h])) ?_) (.same s)
  have h1 : Evolves s (s.bootLoad img fw) := .steady (by simp) (fun h => by simp [h])
  generalize s.bootLoad img fw = u at h1
  have h2 : Evolves u { u with gov := { u.gov with booting := false, constSet := true } } :=
    ⟨rfl, rfl, Nat.le_refl _, id, id, id⟩
  exact .ite (nexts (h1.trans (h2.trans (.steady (by simp) (fun h => by simp [h]))))) (nexts (h1.trans h2))

theorem execCoreStartTimeout_nexts (core dump s) : Nexts s (execCoreStartTimeout core dump s) := by
  unfold execCoreStartTimeout
  (repeat' split) <;> exact Drifts.nexts (by simp) (fun h => by simp [h])

theorem execSyncInLoss_nexts (s) : Nexts s (execSyncInLoss s) := by
  unfold execSyncInLoss
  (repeat' split) <;> exact Drifts.nexts (by simp) (fun h => by simp [h])

theorem execRelockQualified_nexts (s) : Nexts s (execRelockQualified s) := by
  unfold execRelockQualified
  (repeat' split) <;> exact Drifts.nexts (by simp) (fun h => by simp [h])

theorem execFrequencyPullComplete_nexts (err s) : Nexts s (execFrequencyPullComplete err s) := by
  unfold execFrequencyPullComplete
  (repeat' split) <;> exact Drifts.nexts (by simp) (fun h => by simp [h])

theorem execClockFailure_nexts (s) : Nexts s (execClockFailure s) := by
  unfold execClockFailure
  (repeat' split) <;> exact Drifts.nexts (by simp) (fun h => by simp [h])

theorem execGclkWake_nexts (s) : Nexts s (execGclkWake s) := by
  unfold execGclkWake
  (repeat' split) <;> exact Drifts.nexts (by simp) (fun h => by simp [h])

theorem execStandbyClockStop_nexts (s) : Nexts s (execStandbyClockStop s) := by
  unfold execStandbyClockStop
  (repeat' split) <;> exact Drifts.nexts (by simp) (fun h => by simp [h])

/-! ### Ticks and commits -/

theorem execFFrameTick_nexts (lanes taps s) : Nexts s (execFFrameTick lanes taps s) :=
  .when (s.oneCycle_evolves _ (fun s => s.fFrame_evolves lanes taps))

theorem execFFrameCommit_nexts (l p s) : Nexts s (execFFrameCommit l p s) :=
  .when (s.oneCycle_evolves _ (fun s => s.fFrameCommit_evolves l p))

theorem execFSwBoundary_nexts (r s) : Nexts s (execFSwBoundary r s) :=
  .when (s.oneCycle_evolves _ (fun s => s.fSwBoundary_evolves r))

theorem execCFrameTick_nexts (s) : Nexts s (execCFrameTick s) := by
  unfold execCFrameTick
  refine .ite ?_ (.same s)
  have h : Evolves s (s.oneCycle fun s => s.cFrame) := s.oneCycle_evolves _ State.cFrame_evolves
  generalize (s.oneCycle fun s => s.cFrame) = t at h
  refine nexts (h.trans ?_)
  split <;> exact .steady (by simp) (fun h => by simp [h])

theorem execCFrameCompetition_nexts (l s) : Nexts s (execCFrameCompetition l s) := by
  unfold execCFrameCompetition
  refine .when ((s.atTime_evolves _).trans (.each _ _ _ (fun s r => ?_)))
  dsimp only
  refine Evolves.trans (t := each [0, 1, 2, 3] (fun s t => s.enterCandidate (8 + 4 * r + t) (l.contains (8 + 4 * r + t))) s)
    (.each _ _ _ (fun s n => .steady (by simp) (fun h => by simp [h]))) ?_
  generalize each [0, 1, 2, 3] (fun s t => s.enterCandidate (8 + 4 * r + t) (l.contains (8 + 4 * r + t))) s = u
  exact .steady (by simp) (fun h => by simp [h])

theorem execCFrameRateCommit_nexts (l s) : Nexts s (execCFrameRateCommit l s) :=
  .when (s.oneCycle_evolves _ (fun s => s.cFrameCommit_evolves l))

theorem execTallyCommit_nexts (s) : Nexts s (execTallyCommit s) := by
  refine .when (s.oneCycle_evolves _ (fun s => ?_))
  have h : Evolves s ((s.atTime (s.tb.cStart + 1007)).commitTaken.fitEnd).1 := by
    exact Drifts.evolves (by simp) (fun h => by simp [h])
  dsimp only
  exact .perhaps h (.steady (by simp) (fun h => by simp [h]))

theorem execSFrameTick_nexts (s) : Nexts s (execSFrameTick s) := by
  unfold execSFrameTick
  refine .ite ?_ (.same s)
  extract_lets back tb s1 s2 s3 s4 s5
  have h1 : Evolves s s1 := ⟨rfl, rfl, Nat.le_refl _, id, id, id⟩
  have h2 : Evolves s1 s2 := .perhaps (.refl _) (.still (by simp))
  have h3 : Evolves s2 s3 := .each _ _ _ (fun s n => .still (by simp))
  have h4 : Evolves s3 s4 := .each _ _ _ (fun s n => .still (by simp))
  have h5 : Evolves s4 s5 := .each _ _ _ (fun s n => .still (by simp))
  refine nexts (h1.trans (h2.trans (h3.trans (h4.trans (h5.trans ?_)))))
  exact ite_evolves (.refl _) (.still (by simp))

theorem execThermalCommit_nexts (l s) : Nexts s (execThermalCommit l s) :=
  .when (s.oneCycle_evolves _ (fun s => s.commitPoint_evolves l))

theorem execHFrameTick_nexts (l s) : Nexts s (execHFrameTick l s) :=
  .when ((s.oneCycle_evolves _ (fun s => s.hFrame_evolves l)).trans (.steady (by simp) (fun h => by simp [h])))

theorem execLoopOverrun_nexts (rail s) : Nexts s (execLoopOverrun rail s) := by
  unfold execLoopOverrun
  (repeat' split) <;> exact Drifts.nexts (by simp) (fun h => by simp [h])

/-! ### Lanes and rails -/

theorem execLaneCensusComplete_nexts (a l s) : Nexts s (execLaneCensusComplete a l s) := by
  unfold execLaneCensusComplete
  refine .ite ?_ (.same s)
  extract_lets ls s1 lost s2 s3
  have h1 : Evolves s s1 := .each _ _ _ (fun s n => .steady (by simp) (fun h => by simp [h]))
  have h2 : Evolves s1 s2 := .steady (by simp [s2]) (fun h => by simp [s2, h])
  have h3 : Evolves s2 s3 := .steady (by simp [s3]) (fun h => by simp [s3, h])
  have h : Evolves s s3 := h1.trans (h2.trans h3)
  clear_value s3
  refine .ite (nexts h) (.ite (nexts (h.trans ?_)) (nexts (h.trans ?_))) <;>
    exact .steady (by simp) (fun h => by simp [h])

theorem execStageFault_nexts (lane s) : Nexts s (execStageFault lane s) := by
  unfold execStageFault
  dsimp only
  (repeat' split) <;> exact Drifts.nexts (by simp) (fun h => by simp [h])

theorem execStageFaultRetryEnable_nexts (release s) : Nexts s (execStageFaultRetryEnable release s) := by
  unfold execStageFaultRetryEnable
  dsimp only
  (repeat' split) <;> exact Drifts.nexts (by simp) (fun h => by simp [h])

theorem execStageFaultReleaseLimit_nexts (lane s) : Nexts s (execStageFaultReleaseLimit lane s) := by
  unfold execStageFaultReleaseLimit
  dsimp only
  (repeat' split) <;> exact Drifts.nexts (by simp) (fun h => by simp [h])

theorem execStageFaultRetryObservationEnd_nexts (lane s) : Nexts s (execStageFaultRetryObservationEnd lane s) := by
  unfold execStageFaultRetryObservationEnd
  dsimp only
  (repeat' split) <;> exact Drifts.nexts (by simp) (fun h => by simp [h])

theorem execLaneWakeEnd_nexts (lane s) : Nexts s (execLaneWakeEnd lane s) := by
  unfold execLaneWakeEnd
  dsimp only
  (repeat' split) <;> exact Drifts.nexts (by simp) (fun h => by simp [h])

theorem execWarmParkExpiry_nexts (lane s) : Nexts s (execWarmParkExpiry lane s) := by
  unfold execWarmParkExpiry
  dsimp only
  (repeat' split) <;> exact Drifts.nexts (by simp) (fun h => by simp [h])

theorem execLaneOpen_nexts (lane s) : Nexts s (execLaneOpen lane s) := by
  unfold execLaneOpen
  (repeat' split) <;> exact Drifts.nexts (by simp) (fun h => by simp [h])

theorem execLaneSenseFailure_nexts (lane s) : Nexts s (execLaneSenseFailure lane s) := by
  unfold execLaneSenseFailure
  dsimp only
  (repeat' split) <;> exact Drifts.nexts (by simp) (fun h => by simp [h])

theorem execSenseTapExclusion_nexts (tap s) : Nexts s (execSenseTapExclusion tap s) := by
  unfold execSenseTapExclusion
  dsimp only
  (repeat' split) <;> exact Drifts.nexts (by simp) (fun h => by simp [h])

theorem execAllPhaseFire_nexts (rail low s) : Nexts s (execAllPhaseFire rail low s) := by
  unfold execAllPhaseFire
  (repeat' split) <;> exact Drifts.nexts (by simp) (fun h => by simp [h])

theorem execFireEnd_nexts (rail low s) : Nexts s (execFireEnd rail low s) := by
  unfold execFireEnd
  dsimp only
  (repeat' split) <;> exact Drifts.nexts (by simp) (fun h => by simp [h])

theorem execFireRearm_nexts (rail low s) : Nexts s (execFireRearm rail low s) := by
  unfold execFireRearm
  dsimp only
  (repeat' split) <;> exact Drifts.nexts (by simp) (fun h => by simp [h])

theorem execOvervoltageClamp_nexts (a b s) : Nexts s (execOvervoltageClamp a b s) := by
  unfold execOvervoltageClamp
  extract_lets v s1 s2 s3
  refine .ite ?_ (.same s)
  have h1 : Evolves s s2 := .still (by simp [s2, s1])
  have h2 : Evolves s2 s3 := .each _ _ _ (fun s n => .still (by simp))
  exact nexts (h1.trans (h2.trans (.still (by simp))))

theorem execRailOvervoltage_nexts (rail high s) : Nexts s (execRailOvervoltage rail high s) := by
  unfold execRailOvervoltage
  dsimp only
  (repeat' split) <;> exact Drifts.nexts (by simp) (fun h => by simp [h])

theorem execRailUndervoltage_nexts (rail s) : Nexts s (execRailUndervoltage rail s) := by
  unfold execRailUndervoltage
  dsimp only
  (repeat' split) <;> exact Drifts.nexts (by simp) (fun h => by simp [h])

theorem execShedDecision_nexts (rail s) : Nexts s (execShedDecision rail s) := by
  unfold execShedDecision
  dsimp only
  (repeat' split) <;> exact Drifts.nexts (by simp) (fun h => by simp [h])

theorem execInterRailDelayEnd_nexts (s) : Nexts s (execInterRailDelayEnd s) := by
  unfold execInterRailDelayEnd
  dsimp only
  (repeat' split) <;> exact Drifts.nexts (by simp) (fun h => by simp [h])

theorem execStageSupplyQualified_nexts (s) : Nexts s (execStageSupplyQualified s) := by
  unfold execStageSupplyQualified
  (repeat' split) <;> exact Drifts.nexts (by simp) (fun h => by simp [h])

theorem execStageSupplyTimeout_nexts (s) : Nexts s (execStageSupplyTimeout s) := by
  unfold execStageSupplyTimeout
  dsimp only
  (repeat' split) <;> exact Drifts.nexts (by simp) (fun h => by simp [h])

theorem execRailPowerGood_nexts (rail s) : Nexts s (execRailPowerGood rail s) := by
  unfold execRailPowerGood
  dsimp only
  (repeat' split) <;> exact Drifts.nexts (by simp) (fun h => by simp [h])

theorem execRailPowerGoodMiss_nexts (rail s) : Nexts s (execRailPowerGoodMiss rail s) := by
  unfold execRailPowerGoodMiss
  dsimp only
  (repeat' split) <;> exact Drifts.nexts (by simp) (fun h => by simp [h])

theorem execRailDischargeDone_nexts (rail high s) : Nexts s (execRailDischargeDone rail high s) := by
  unfold execRailDischargeDone
  (repeat' split) <;> exact Drifts.nexts (by simp) (fun h => by simp [h])

theorem execRailDischargeTimeout_nexts (rail s) : Nexts s (execRailDischargeTimeout rail s) := by
  unfold execRailDischargeTimeout
  dsimp only
  (repeat' split) <;> exact Drifts.nexts (by simp) (fun h => by simp [h])

/-! ### Droop Defence and domains -/

theorem execFastPathStretch_nexts (domain sev s) : Nexts s (execFastPathStretch domain sev s) := by
  unfold execFastPathStretch
  dsimp only
  (repeat' split) <;> exact Drifts.nexts (by simp) (fun h => by simp [h])

theorem execDroopReport_nexts (tap rep volts s) : Nexts s (execDroopReport tap rep volts s) := by
  unfold execDroopReport
  dsimp only
  (repeat' split) <;> exact Drifts.nexts (by simp) (fun h => by simp [h])

theorem execStretchReleaseStep_nexts (domain deepLine sevLine s) : Nexts s (execStretchReleaseStep domain deepLine sevLine s) := by
  unfold execStretchReleaseStep
  dsimp only
  (repeat' split) <;> exact Drifts.nexts (by simp) (fun h => by simp [h])

theorem execFreezeRelease_nexts (domain s) : Nexts s (execFreezeRelease domain s) := by
  unfold execFreezeRelease
  dsimp only
  (repeat' split) <;> exact Drifts.nexts (by simp) (fun h => by simp [h])

theorem execLongFreeze_nexts (domain s) : Nexts s (execLongFreeze domain s) := by
  unfold execLongFreeze
  dsimp only
  (repeat' split) <;> exact Drifts.nexts (by simp) (fun h => by simp [h])

theorem execExcursionWindowClose_nexts (domain s) : Nexts s (execExcursionWindowClose domain s) := by
  unfold execExcursionWindowClose
  (repeat' split) <;> exact Drifts.nexts (by simp) (fun h => by simp [h])

theorem execTapDisagreement_nexts (tap s) : Nexts s (execTapDisagreement tap s) := by
  unfold execTapDisagreement
  dsimp only
  (repeat' split) <;> exact Drifts.nexts (by simp) (fun h => by simp [h])

theorem execTapSettleEnd_nexts (a s) : Nexts s (execTapSettleEnd a s) := by
  unfold execTapSettleEnd
  dsimp only
  split
  case h_1 u _ =>
    refine .ite ?_ (.same s)
    have h : Evolves s (each (s.domainTaps a) (fun s t => s.modTap t (fun p => { p with run := 0 })) (s.atTime (u + s.cyc 0x2400 7))) :=
      (s.atTime_evolves _).trans (.each _ _ _ (fun s n => .still (by simp)))
    refine nexts (h.trans ?_)
    exact .still ⟨rfl, rfl, rfl, rfl, rfl, rfl, rfl, rfl⟩
  · exact .same s

theorem execDomainCensusComplete_nexts (domain s) : Nexts s (execDomainCensusComplete domain s) := by
  unfold execDomainCensusComplete
  dsimp only
  (repeat' split) <;> exact Drifts.nexts (by simp) (fun h => by simp [h])

theorem execDomainCensusWindowEnd_nexts (domain s) : Nexts s (execDomainCensusWindowEnd domain s) := by
  unfold execDomainCensusWindowEnd
  dsimp only
  (repeat' split) <;> exact Drifts.nexts (by simp) (fun h => by simp [h])

theorem execDomainWakeStart_nexts (domain s) : Nexts s (execDomainWakeStart domain s) := by
  unfold execDomainWakeStart
  dsimp only
  (repeat' split) <;> exact Drifts.nexts (by simp) (fun h => by simp [h])

theorem execDomainStageStep_nexts (domain s) : Nexts s (execDomainStageStep domain s) := by
  unfold execDomainStageStep
  dsimp only
  (repeat' split) <;> exact Drifts.nexts (by simp) (fun h => by simp [h])

theorem execDomainPowerGood_nexts (domain s) : Nexts s (execDomainPowerGood domain s) := by
  unfold execDomainPowerGood
  dsimp only
  (repeat' split) <;> exact Drifts.nexts (by simp) (fun h => by simp [h])

theorem execDomainPgWindowMiss_nexts (domain s) : Nexts s (execDomainPgWindowMiss domain s) := by
  unfold execDomainPgWindowMiss
  dsimp only
  (repeat' split) <;> exact Drifts.nexts (by simp) (fun h => by simp [h])

theorem execDomainIsolationRelease_nexts (domain s) : Nexts s (execDomainIsolationRelease domain s) := by
  unfold execDomainIsolationRelease
  dsimp only
  (repeat' split) <;> exact Drifts.nexts (by simp) (fun h => by simp [h])

theorem execDomainRetryDelayEnd_nexts (domain s) : Nexts s (execDomainRetryDelayEnd domain s) := by
  unfold execDomainRetryDelayEnd
  dsimp only
  (repeat' split) <;> exact Drifts.nexts (by simp) (fun h => by simp [h])

theorem execWakeWaitExpiry_nexts (domain s) : Nexts s (execWakeWaitExpiry domain s) := by
  unfold execWakeWaitExpiry
  dsimp only
  (repeat' split) <;> exact Drifts.nexts (by simp) (fun h => by simp [h])

theorem execDrainComplete_nexts (domain s) : Nexts s (execDrainComplete domain s) := by
  unfold execDrainComplete
  (repeat' split) <;> exact Drifts.nexts (by simp) (fun h => by simp [h])

theorem execDrainTimeout_nexts (domain s) : Nexts s (execDrainTimeout domain s) := by
  unfold execDrainTimeout
  dsimp only
  (repeat' split) <;> exact Drifts.nexts (by simp) (fun h => by simp [h])

theorem execAutoWake_nexts (domain s) : Nexts s (execAutoWake domain s) := by
  unfold execAutoWake
  dsimp only
  (repeat' split) <;> exact Drifts.nexts (by simp) (fun h => by simp [h])

theorem execDomainPowerGoodLoss_nexts (domain s) : Nexts s (execDomainPowerGoodLoss domain s) := by
  unfold execDomainPowerGoodLoss
  dsimp only
  (repeat' split) <;> exact Drifts.nexts (by simp) (fun h => by simp [h])

/-! ### Credits and the Tally -/

theorem execIssue_nexts (port word s) : Nexts s (execIssue port word s) := by
  unfold execIssue
  dsimp only
  (repeat' split) <;> exact Drifts.nexts (by simp) (fun h => by simp [h])

theorem execReservationExpiry_nexts (array s) : Nexts s (execReservationExpiry array s) := by
  unfold execReservationExpiry
  (repeat' split) <;> exact Drifts.nexts (by simp) (fun h => by simp [h])

theorem execRingSweep_nexts (s) : Nexts s (execRingSweep s) := by
  unfold execRingSweep
  dsimp only
  (repeat' split) <;> exact Drifts.nexts (by simp) (fun h => by simp [h])

theorem execAnnounce_nexts (port word s) : Nexts s (execAnnounce port word s) := by
  unfold execAnnounce
  dsimp only
  (repeat' split) <;> exact Drifts.nexts (by simp) (fun h => by simp [h])

theorem execAnnounceLookup_nexts (s) : Nexts s (execAnnounceLookup s) := by
  unfold execAnnounceLookup
  dsimp only
  (repeat' split) <;> exact Drifts.nexts (by simp) (fun h => by simp [h])

theorem execDone_nexts (port word s) : Nexts s (execDone port word s) := by
  unfold execDone
  dsimp only
  (repeat' split) <;> exact Drifts.nexts (by simp) (fun h => by simp [h])

theorem execDoneDigest_nexts (port word s) : Nexts s (execDoneDigest port word s) := by
  unfold execDoneDigest
  (repeat' split) <;> exact Drifts.nexts (by simp) (fun h => by simp [h])

theorem execCancel_nexts (port word s) : Nexts s (execCancel port word s) := by
  unfold execCancel
  dsimp only
  (repeat' split) <;> exact Drifts.nexts (by simp) (fun h => by simp [h])

theorem execDeferredCancel_nexts (s) : Nexts s (execDeferredCancel s) := by
  unfold execDeferredCancel
  dsimp only
  (repeat' split) <;> exact Drifts.nexts (by simp) (fun h => by simp [h])

theorem execPredictedSlotExpiry_nexts (slot s) : Nexts s (execPredictedSlotExpiry slot s) := by
  unfold execPredictedSlotExpiry
  dsimp only
  (repeat' split) <;> exact Drifts.nexts (by simp) (fun h => by simp [h])

theorem execGrantedGroupTimeout_nexts (slot s) : Nexts s (execGrantedGroupTimeout slot s) := by
  unfold execGrantedGroupTimeout
  dsimp only
  (repeat' split) <;> exact Drifts.nexts (by simp) (fun h => by simp [h])

/-! ### Loop Engine and Assayer -/

theorem execFollowingError_nexts (inst s) : Nexts s (execFollowingError inst s) := by
  unfold execFollowingError
  dsimp only
  (repeat' split) <;> exact Drifts.nexts (by simp) (fun h => by simp [h])

theorem execInjectionDelayEnd_nexts (s) : Nexts s (execInjectionDelayEnd s) := by
  unfold execInjectionDelayEnd
  (repeat' split) <;> exact Drifts.nexts (by simp) (fun h => by simp [h])

theorem execInjectionEnd_nexts (s) : Nexts s (execInjectionEnd s) := by
  unfold execInjectionEnd
  (repeat' split) <;> exact Drifts.nexts (by simp) (fun h => by simp [h])

theorem execCaptureComplete_nexts (s) : Nexts s (execCaptureComplete s) := by
  unfold execCaptureComplete
  (repeat' split) <;> exact Drifts.nexts (by simp) (fun h => by simp [h])

theorem execAssayRequestTransfer_nexts (s) : Nexts s (execAssayRequestTransfer s) := by
  unfold execAssayRequestTransfer
  (repeat' split) <;> exact Drifts.nexts (by simp) (fun h => by simp [h])

theorem execDuplicateDeadline_nexts (entry s) : Nexts s (execDuplicateDeadline entry s) := by
  unfold execDuplicateDeadline
  (repeat' split) <;> exact Drifts.nexts (by simp) (fun h => by simp [h])

theorem execThirdExecutionRequest_nexts (s) : Nexts s (execThirdExecutionRequest s) := by
  unfold execThirdExecutionRequest
  dsimp only
  (repeat' split) <;> exact Drifts.nexts (by simp) (fun h => by simp [h])

theorem execThirdDeadline_nexts (a s) : Nexts s (execThirdDeadline a s) := by
  unfold execThirdDeadline
  split
  · next e _ =>
    split
    · next u _ =>
      have h : Evolves s ((s.atTime u).indeterminate a e) := Drifts.evolves (by simp) (fun h => by simp [h])
      generalize (s.atTime u).indeterminate a e = t at h
      exact nexts (h.trans (.steady (by simp) (fun h => by simp [h])))
    · exact .same s
  · exact .same s

theorem State.assayer_still (s : State) (a : Assayer) : Still { s with assayer := a } s :=
  ⟨rfl, rfl, rfl, rfl, rfl, rfl, rfl, rfl⟩

/-- The state once a fence of full configuration has closed its interval (11 R281): the counts start again, and what is open is bound
to the fence or moved to the next interval. -/
def State.closeFence (s : State) (id : BitVec 16) : State :=
    let w := s.assayer.fenceWindow
    let now := s.frameOf s.tb.now
    let later (c g : Nat) : Bool := now.1 < c || (now.1 == c && now.2 < g)
    { s with assayer := { s.assayer with
      fenceWindow := w + 1
      openFailed := 0
      openUnassayed := 0
      entries := s.assayer.entries.map (fun p =>
        if p.2.window != w then p
        else (p.1, if later p.2.grant p.2.grantG then { p.2 with window := w + 1 } else { p.2 with fence := some id.toNat }))
      groups := s.assayer.groups.map (fun g =>
        if g.window != w then g
        else if later g.grant g.grantG then { g with window := w + 1 } else { g with fence := some id.toNat }) } }

theorem execContributionFence_eq (id s) : execContributionFence id s =
    if !s.tb.gclk then .next s
    else if s.cfg != .full then
      .next { s with assayer := { s.assayer with status := fenceStatus id.toNat 2 1 0 0 0 0 } }
    else if 16 ≤ (s.closeFence id).assayer.fences.length then
      .next ((s.closeFence id).sendStatus (fenceStatus id.toNat 3 0 (natOfBool s.degraded) ((s.closeFence id).unresolved s.assayer.fenceWindow)
        s.assayer.openFailed s.assayer.openUnassayed))
    else if (s.closeFence id).flag 0x6000 7 then
      .next { s.closeFence id with assayer := { (s.closeFence id).assayer with fences := (s.closeFence id).assayer.fences
        ++ [{ id := id.toNat, window := s.assayer.fenceWindow, failed := s.assayer.openFailed, unassayed := s.assayer.openUnassayed }] } }
    else .next ((s.closeFence id).sendStatus (fenceStatus id.toNat 0 (natOfBool ((s.closeFence id).unresolved s.assayer.fenceWindow = 0))
      (natOfBool s.degraded) ((s.closeFence id).unresolved s.assayer.fenceWindow) s.assayer.openFailed s.assayer.openUnassayed)) := rfl

theorem State.closeFence_still (s : State) (id) : Still (s.closeFence id) s := State.assayer_still s _

theorem execContributionFence_nexts (i s) : Nexts s (execContributionFence i s) := by
  rw [execContributionFence_eq]
  refine .ite (.same s) (.ite (nexts (.still (State.assayer_still _ _))) ?_)
  have hu := Evolves.still (s.closeFence_still i)
  generalize s.closeFence i = u at *
  exact .ite (nexts (hu.trans (.still (State.sendStatus_keeps _ _))))
    (.ite (nexts (hu.trans (.still (State.assayer_still _ _)))) (nexts (hu.trans (.still (State.sendStatus_keeps _ _)))))

theorem execFenceAnswer_nexts (s) : Nexts s (execFenceAnswer s) := by
  unfold execFenceAnswer
  dsimp only
  (repeat' split) <;> exact Drifts.nexts (by simp) (fun h => by simp [h])

theorem execKnownAnswerTimeout_nexts (array entry s) : Nexts s (execKnownAnswerTimeout array entry s) := by
  unfold execKnownAnswerTimeout
  (repeat' split) <;> exact Drifts.nexts (by simp) (fun h => by simp [h])

theorem execKnownAnswerRunEnd_nexts (s) : Nexts s (execKnownAnswerRunEnd s) := by
  unfold execKnownAnswerRunEnd
  dsimp only
  (repeat' split) <;> exact Drifts.nexts (by simp) (fun h => by simp [h])

theorem execSweepSettleEnd_nexts (s) : Nexts s (execSweepSettleEnd s) := by
  unfold execSweepSettleEnd
  dsimp only
  (repeat' split) <;> exact Drifts.nexts (by simp) (fun h => by simp [h])

theorem execSweepStepComplete_nexts (s) : Nexts s (execSweepStepComplete s) := by
  unfold execSweepStepComplete
  dsimp only
  (repeat' split) <;> exact Drifts.nexts (by simp) (fun h => by simp [h])

/-! ### Thermal Unit -/

theorem execExternalSensorSlot_nexts (a s) : Nexts s (execExternalSensorSlot a s) := by
  unfold execExternalSensorSlot
  refine .ite (.same s) ?_
  split
  · exact .same s
  next k _ =>
  extract_lets n r s1 old
  split
  · exact .same s
  have h : Evolves s s1 := .perhaps (.refl _) (.still (by simp))
  clear_value s1
  split
  · next t _ =>
    have hd : Evolves s (s1.slotDone k (some t) r) := h.trans (State.slotDone_evolves _ _ _ _)
    exact .ite (nexts (hd.trans (.still (by simp)))) (nexts hd)
  · exact .ite (nexts (h.trans (State.slotDone_evolves _ _ _ _))) (nexts (h.trans (.still ⟨rfl, rfl, rfl, rfl, rfl, rfl, rfl, rfl⟩)))

theorem execMemoryStackWord_nexts (stack word s) : Nexts s (execMemoryStackWord stack word s) := by
  unfold execMemoryStackWord
  dsimp only
  (repeat' split) <;> exact Drifts.nexts (by simp) (fun h => by simp [h])

theorem execStackCensusWindowEnd_nexts (stack s) : Nexts s (execStackCensusWindowEnd stack s) := by
  unfold execStackCensusWindowEnd
  dsimp only
  (repeat' split) <;> exact Drifts.nexts (by simp) (fun h => by simp [h])

theorem execOxsTTrip_nexts (a s) : Nexts s (execOxsTTrip a s) := by
  unfold execOxsTTrip
  refine .ite (.same s) ?_
  extract_lets v s1 code
  have h : Evolves s s1 := .still (by simp [s1])
  exact .ite (nexts (h.trans (State.tripInReset_evolves _ _ _ _))) (nexts (h.trans (.steady (by simp) (fun h => by simp [h]))))

theorem execOxsTProgram_nexts (retried failed s) : Nexts s (execOxsTProgram retried failed s) := by
  unfold execOxsTProgram
  (repeat' split) <;> exact Drifts.nexts (by simp) (fun h => by simp [h])

theorem execCoolantTimeout_nexts (s) : Nexts s (execCoolantTimeout s) := by
  unfold execCoolantTimeout
  dsimp only
  (repeat' split) <;> exact Drifts.nexts (by simp) (fun h => by simp [h])

theorem execCoolantRecovery_nexts (s) : Nexts s (execCoolantRecovery s) := by
  unfold execCoolantRecovery
  dsimp only
  (repeat' split) <;> exact Drifts.nexts (by simp) (fun h => by simp [h])

theorem execRestartHoldComplete_nexts (s) : Nexts s (execRestartHoldComplete s) := by
  unfold execRestartHoldComplete
  (repeat' split) <;> exact Drifts.nexts (by simp) (fun h => by simp [h])

theorem execCooldownProlonged_nexts (s) : Nexts s (execCooldownProlonged s) := by
  unfold execCooldownProlonged
  dsimp only
  (repeat' split) <;> exact Drifts.nexts (by simp) (fun h => by simp [h])

theorem State.work_nil (f : Nat) (s : State) : s.work f [] = s := by cases f <;> rfl

theorem State.enter_eq {s : State} {new : GovState} (why : Nat) (h : s.wanted new = true) (hw : (s.transit new why).2 = []) :
    s.enter new why = (s.transit new why).1 := by
  rw [State.enter, workFuel, State.work]
  simp only [State.doWork, h, if_true, hw, List.nil_append, State.work_nil]

/-- Entering COOLDOWN from TRIP -/
theorem State.enter_cooldown {s : State} (why : Nat) (h : s.gov.st = .trip) :
    s.enter .cooldown why = (s.mark .cooldown why).creditsZero := by
  have hw : s.wanted .cooldown = true := by simp [State.wanted, h]
  have ht : s.transit .cooldown why = ((s.mark .cooldown why).creditsZero, []) := by simp [State.transit, h]
  rw [State.enter_eq why hw (by rw [ht]), ht]

theorem State.trip_of_tripLatch {s : State} (h : s.gov.tripLatch = true) : s.trip = true := by
  simp [State.trip, tripKept, h]

theorem State.tripLatch_of_trip {s : State} (h : s.trip = true) (hst : s.gov.st = .trip) : s.gov.tripLatch = true := by
  simpa [State.trip, tripKept, hst] using h

theorem execTripActionsComplete_nexts (s) : Nexts s (execTripActionsComplete s) := by
  unfold execTripActionsComplete
  split
  · next hc =>
    have hst : s.gov.st = .trip := by simp_all
    refine nexts (.steady (by simp) (fun h => State.trip_of_tripLatch ?_))
    rw [State.enter_cooldown _ hst]
    simp [hst, State.tripLatch_of_trip h hst]
  · exact .same s

/-! ### Faults, records and interrupts -/

theorem execFaultTrigger_nexts (pin scopeKind scopeIndex cause pa s) : Nexts s (execFaultTrigger pin scopeKind scopeIndex cause pa s) := by
  unfold execFaultTrigger
  (repeat' split) <;> exact Drifts.nexts (by simp) (fun h => by simp [h])

theorem execDClassEvent_nexts (pin s) : Nexts s (execDClassEvent pin s) := by
  unfold execDClassEvent
  (repeat' split) <;> exact Drifts.nexts (by simp) (fun h => by simp [h])

theorem execDClassWindowExpiry_nexts (pin s) : Nexts s (execDClassWindowExpiry pin s) := by
  unfold execDClassWindowExpiry
  (repeat' split) <;> exact Drifts.nexts (by simp) (fun h => by simp [h])

theorem execTransientStrobe_nexts (pin s) : Nexts s (execTransientStrobe pin s) :=
  nexts (.steady (by simp) (fun h => by simp [h]))

theorem execRecordWrite_nexts (s) : Nexts s (execRecordWrite s) := by
  unfold execRecordWrite
  (repeat' split) <;> exact Drifts.nexts (by simp) (fun h => by simp [h])

theorem execTimeSet_nexts (a b c s) : Nexts s (execTimeSet a b c s) :=
  .when (s.touch_evolves.trans ((State.writeObject_evolves _ _ _ _ _ _).trans (State.writeObject_evolves _ _ _ _ _ _)))

theorem execTimeQualityHoldExpiry_nexts (s) : Nexts s (execTimeQualityHoldExpiry s) := by
  unfold execTimeQualityHoldExpiry
  (repeat' split) <;> exact Drifts.nexts (by simp) (fun h => by simp [h])

theorem execDumpClearComplete_nexts (core s) : Nexts s (execDumpClearComplete core s) := by
  unfold execDumpClearComplete
  dsimp only
  (repeat' split) <;> exact Drifts.nexts (by simp) (fun h => by simp [h])

theorem execSignal_nexts (source s) : Nexts s (execSignal source s) :=
  nexts (.steady (by simp) (fun h => by simp [h]))

theorem execDoorbell_nexts (w s) : Nexts s (execDoorbell w s) := by
  unfold execDoorbell
  exact State.onBus_nexts _ _ _ (fun s => ite_evolves (.still (State.signal_keeps _ _)) (.still (by simp)))

theorem execClaim_nexts (a t s) : Nexts s (execClaim a t s) := by
  refine .ite (.same s) (State.onBus_nexts _ _ _ (fun s => ?_))
  dsimp only
  refine ite_evolves (.still (by simp)) ?_
  split <;> exact .steady (by simp) (fun h => by simp [h])

theorem execComplete_nexts (a t w s) : Nexts s (execComplete a t w s) :=
  .ite (.same s) (State.onBus_nexts _ _ _ (fun s => ite_evolves (.still (by simp)) (.still (by simp))))

theorem execConfigureSource_nexts (w s) : Nexts s (execConfigureSource w s) :=
  State.onBus_nexts _ _ _ (fun s => .still (by simp))

theorem execPendSet_nexts (i w s) : Nexts s (execPendSet i w s) :=
  .ite (.same s) (State.onBus_nexts _ _ _ (fun s => .each _ _ _ (fun _ _ => .still (by simp))))

theorem execPendClr_nexts (i w s) : Nexts s (execPendClr i w s) :=
  .ite (.same s) (State.onBus_nexts _ _ _ (fun s => .each _ _ _ (fun _ _ => .still (by simp))))

theorem execMaskSet_nexts (i w s) : Nexts s (execMaskSet i w s) :=
  .ite (.same s) (State.onBus_nexts _ _ _ (fun s => .each _ _ _ (fun _ _ => .still (by simp))))

theorem execMaskClr_nexts (i w s) : Nexts s (execMaskClr i w s) :=
  .ite (.same s) (State.onBus_nexts _ _ _ (fun s => .each _ _ _ (fun _ _ => .still (by simp))))

theorem execIcuPlainWrite_nexts (r i w s) : Nexts s (execIcuPlainWrite r i w s) := by
  cases r <;> exact .ite (.same s) (State.onBus_nexts _ _ _ (fun s => .still (by simp)))

theorem execTargetConfigWrite_nexts (a t w s) : Nexts s (execTargetConfigWrite a t w s) :=
  .ite (.same s) (State.onBus_nexts _ _ _ (fun s => ite_evolves (.still (by simp)) (.still (by simp))))

theorem execWatchWrite_nexts (i w s) : Nexts s (execWatchWrite i w s) :=
  .ite (.same s) (State.onBus_nexts _ _ _ (fun s => .still ⟨rfl, rfl, rfl, rfl, rfl, rfl, rfl, rfl⟩))

theorem execWatchWake_nexts (source s) : Nexts s (execWatchWake source s) := by
  unfold execWatchWake
  dsimp only
  (repeat' split) <;> exact Drifts.nexts (by simp) (fun h => by simp [h])

theorem execFallbackOffer_nexts (source s) : Nexts s (execFallbackOffer source s) := by
  unfold execFallbackOffer
  dsimp only
  (repeat' split) <;> exact Drifts.nexts (by simp) (fun h => by simp [h])

/-! ### Mailboxes and cores -/

theorem execPost_nexts (a c w s) : Nexts s (execPost a c w s) :=
  State.channelWrite_nexts _ _ _ _ _ (fun s => State.post_evolves _ _ _ _ _)

theorem execTake_nexts (a c s) : Nexts s (execTake a c s) := by
  refine .ite (.same s) (State.onBus_nexts _ _ _ (fun s => ?_))
  dsimp only
  refine ite_evolves (.still (by simp)) (ite_evolves (.still (by simp)) ?_)
  split <;> exact .still (by simp)

theorem execFree_nexts (a c w s) : Nexts s (execFree a c w s) :=
  State.channelWrite_nexts _ _ _ _ _ (fun s => .still (by simp))

theorem execAckClear_nexts (a c w s) : Nexts s (execAckClear a c w s) :=
  State.channelWrite_nexts _ _ _ _ _ (fun s => .still (by simp))

theorem execTostClear_nexts (a c w s) : Nexts s (execTostClear a c w s) :=
  State.channelWrite_nexts _ _ _ _ _ (fun s => .still (by simp))

theorem execMailboxMaskWrite_nexts (a c w s) : Nexts s (execMailboxMaskWrite a c w s) :=
  State.channelWrite_nexts _ _ _ _ _ (fun s => .still (by simp))

theorem execNoticeTimeout_nexts (channel slot s) : Nexts s (execNoticeTimeout channel slot s) := by
  unfold execNoticeTimeout
  dsimp only
  (repeat' split) <;> exact Drifts.nexts (by simp) (fun h => by simp [h])

theorem execObjectRead_nexts (c b s) : Nexts s (execObjectRead c b s) :=
  State.serve_nexts _ _ _ _ _ fun s h p =>
    ite_evolves (.still (by simp)) ((s.readObject_evolves _ _ _ _ _).trans (.still (State.reply_keeps _ _ _ _ _)))

theorem execObjectWrite_nexts (c b s) : Nexts s (execObjectWrite c b s) :=
  State.serve_nexts _ _ _ _ _ fun s h p =>
    ite_evolves (.still (by simp)) ((s.writeObject_evolves _ _ _ _ _).trans (.still (State.reply_keeps _ _ _ _ _)))

theorem execAttach_nexts (c b s) : Nexts s (execAttach c b s) :=
  .ite (.same s) (State.serve_nexts _ _ _ _ _ (fun s h p => ite_evolves (.still (by simp))
    (ite_evolves (.still (by simp)) (.steady (by simp) (fun h => by simp [h])))))

theorem execHeartbeat_nexts (c b s) : Nexts s (execHeartbeat c b s) :=
  State.serve_nexts _ _ _ _ _ (fun s h p => ite_evolves (.still (by simp)) (.still (by simp)))

theorem execDetach_nexts (c b s) : Nexts s (execDetach c b s) := by
  refine State.serve_nexts _ _ _ _ _ (fun s h p => ?_)
  dsimp only
  refine Evolves.trans (t := s.closeMail c) (.still (by simp)) ?_
  split <;> exact .still (by simp)

theorem execHeartbeatSend_nexts (sess s) : Nexts s (execHeartbeatSend sess s) := by
  unfold execHeartbeatSend
  dsimp only
  (repeat' split) <;> exact Drifts.nexts (by simp) (fun h => by simp [h])

theorem execHostLost_nexts (sess s) : Nexts s (execHostLost sess s) := by
  unfold execHostLost
  dsimp only
  (repeat' split) <;> exact Drifts.nexts (by simp) (fun h => by simp [h])

theorem execCoreCrash_nexts (core cause dump s) : Nexts s (execCoreCrash core cause dump s) := by
  unfold execCoreCrash
  (repeat' split) <;> exact Drifts.nexts (by simp) (fun h => by simp [h])

theorem execWatchdogExpiry_nexts (core dump s) : Nexts s (execWatchdogExpiry core dump s) := by
  unfold execWatchdogExpiry
  (repeat' split) <;> exact Drifts.nexts (by simp) (fun h => by simp [h])

theorem execComponentFault_nexts (core component trap dump s) : Nexts s (execComponentFault core component trap dump s) := by
  unfold execComponentFault
  dsimp only
  (repeat' split) <;> exact Drifts.nexts (by simp) (fun h => by simp [h])

theorem execBankReloadComplete_nexts (core img s) : Nexts s (execBankReloadComplete core img s) := by
  unfold execBankReloadComplete
  dsimp only
  (repeat' split) <;> exact Drifts.nexts (by simp) (fun h => by simp [h])

theorem execCoreRestartComplete_nexts (a s) : Nexts s (execCoreRestartComplete a s) := by
  unfold execCoreRestartComplete
  extract_lets v s1 s2 s3
  refine .ite ?_ (.same s)
  have h1 : Evolves s s2 := .still (by simp [s2, s1])
  have h2 : Evolves s2 s3 := by
    unfold s3; split
    · exact Evolves.trans (.steady (by simp) (fun h => by simp [h])) (State.g3Drain_evolves _)
    · exact .refl _
  refine nexts (h1.trans (h2.trans ?_))
  exact ite_evolves (.still ⟨rfl, rfl, rfl, rfl, rfl, rfl, rfl, rfl⟩) (.refl _)

theorem execUpdateActivation_nexts (s) : Nexts s (execUpdateActivation s) := by
  unfold execUpdateActivation
  dsimp only
  (repeat' split) <;> exact Drifts.nexts (by simp) (fun h => by simp [h])

theorem execUpdateRestartTimeout_nexts (s) : Nexts s (execUpdateRestartTimeout s) := by
  unfold execUpdateRestartTimeout
  dsimp only
  (repeat' split) <;> exact Drifts.nexts (by simp) (fun h => by simp [h])

theorem execProbationEnd_nexts (s) : Nexts s (execProbationEnd s) := by
  unfold execProbationEnd
  dsimp only
  (repeat' split) <;> exact Drifts.nexts (by simp) (fun h => by simp [h])

/-! ### Host port and object engine -/

theorem execG3Read_nexts (o s) : Nexts s (execG3Read o s) :=
  .ite (State.onBus_nexts _ _ _ (fun s => State.g3Access_evolves _ _ _ _)) (.same s)

theorem execG3ReadTimeout_nexts (s) : Nexts s (execG3ReadTimeout s) := by
  unfold execG3ReadTimeout
  split
  · exact nexts (s.g3Expire_evolves _)
  · exact .same s

theorem execG3WriteQueueTimeout_nexts (s) : Nexts s (execG3WriteQueueTimeout s) := by
  unfold execG3WriteQueueTimeout
  split
  · exact nexts (s.g3Expire_evolves _)
  · exact .same s

theorem execObjectWindowClaim_nexts (s) : Nexts s (execObjectWindowClaim s) :=
  State.onBus_nexts _ _ _ (fun s => ite_evolves (.still (by simp)) (.still (by simp)))

theorem execObjectWindowRelease_nexts (w s) : Nexts s (execObjectWindowRelease w s) :=
  State.onBus_nexts _ _ _ (fun s => ite_evolves (.still (by simp)) (.refl s))

theorem execObjectWindowRead_nexts (w s) : Nexts s (execObjectWindowRead w s) :=
  State.onBus_nexts _ _ _ (fun s => s.windowCommand_evolves w)

theorem execObjectWindowWrite_nexts (w s) : Nexts s (execObjectWindowWrite w s) :=
  State.onBus_nexts _ _ _ (fun s => s.windowCommand_evolves w)

theorem execObjectWindowIdleRelease_nexts (s) : Nexts s (execObjectWindowIdleRelease s) := by
  unfold execObjectWindowIdleRelease
  dsimp only
  (repeat' split) <;> exact Drifts.nexts (by simp) (fun h => by simp [h])

theorem execObjectAccessTimeout_nexts (s) : Nexts s (execObjectAccessTimeout s) :=
  nexts (.steady (by simp) (fun h => by simp [h]))

theorem execAuthChallenge_nexts (a s) : Nexts s (execAuthChallenge a s) :=
  .when (s.touch_evolves.trans (State.readObject_evolves _ _ _ _ _ _))

theorem execAuthBlockExpiry_nexts (s) : Nexts s (execAuthBlockExpiry s) := by
  unfold execAuthBlockExpiry
  dsimp only
  (repeat' split) <;> exact Drifts.nexts (by simp) (fun h => by simp [h])

theorem execServiceExit_nexts (a b s) : Nexts s (execServiceExit a b s) :=
  .when (s.touch_evolves.trans ((State.writeObject_evolves _ _ _ _ _ _).trans (State.writeObject_evolves _ _ _ _ _ _)))

theorem execAtbRoute_nexts (o w s) : Nexts s (execAtbRoute o w s) := by
  cases o with
  | none => exact .when (.still (by simp))
  | some n => exact State.writeRow_nexts _ _ _ _ _

theorem State.writeIcu_nexts (s a w) : Nexts s (State.writeIcu s a w) := by
  unfold State.writeIcu
  refine .ite (execDoorbell_nexts _ _) (.ite (execConfigureSource_nexts _ _) (.ite (.ite (execComplete_nexts ..) (.same s)) ?_))
  refine .ite (execTargetConfigWrite_nexts ..) (.ite (execIcuPlainWrite_nexts ..) (.ite (execIcuPlainWrite_nexts ..) ?_))
  refine .ite (execPendSet_nexts ..) (.ite (execPendClr_nexts ..) (.ite (execMaskSet_nexts ..) ?_))
  exact .ite (execMaskClr_nexts ..) (.ite (execIcuPlainWrite_nexts ..) (.ite (execWatchWrite_nexts ..) (.same s)))

theorem State.writeMailbox_nexts (s a w) : Nexts s (State.writeMailbox s a w) := by
  unfold State.writeMailbox
  dsimp only
  split
  · exact execPost_nexts ..
  · exact execMailboxMaskWrite_nexts ..
  · exact execAckClear_nexts ..
  · exact execTostClear_nexts ..
  · exact execFree_nexts ..
  · exact State.channelWrite_nexts _ _ _ _ _ Evolves.refl

theorem execRegisterWrite_nexts (a b w s) : Nexts s (execRegisterWrite a b w s) := by
  unfold execRegisterWrite
  refine .ite (.same s) (.ite (State.onBus_nexts _ _ _ (fun s => s.writeMessage_evolves _ _ _)) ?_)
  refine .ite (State.onBus_nexts _ _ _ (fun s => .still (by simp))) (.ite (State.onBus_nexts _ _ _ Evolves.refl) ?_)
  refine .ite (s.writeIcu_nexts a w) (.ite (s.writeMailbox_nexts a w) ?_)
  refine .ite (execObjectWindowRelease_nexts w s) (.ite (execObjectWindowWrite_nexts w s) ?_)
  exact .ite (s.g3Write_nexts _ _) (State.onBus_nexts _ _ _ (fun s => s.writePlain_evolves a w))

/-! ### Muriri and the segment -/

theorem execMuOpen_nexts (f s) : Nexts s (execMuOpen f s) :=
  State.onFrame_nexts _ _ _ _ _ (fun s => .still (by simp))

theorem execMuClose_nexts (f s) : Nexts s (execMuClose f s) :=
  State.onFrame_nexts _ _ _ _ _ (fun s => s.closeSession_evolves f)

theorem execMuRead_nexts (f s) : Nexts s (execMuRead f s) :=
  State.onFrame_nexts _ _ _ _ _ (fun s => s.muRequest_evolves f _ _ (fun s => s.shortRead_evolves f) (fun s _ => .refl s))

theorem execMuWrite_nexts (f s) : Nexts s (execMuWrite f s) :=
  State.onFrame_nexts _ _ _ _ _ (fun s => s.muRequest_evolves f _ _ (fun s => s.shortWrite_evolves f) (fun s _ => .refl s))

theorem execMuReadInit_nexts (f s) : Nexts s (execMuReadInit f s) :=
  State.onFrame_nexts _ _ _ _ _ (fun s => s.muRequest_evolves f _ _ (fun s => s.captureRead_evolves f) (fun s _ => .still (by simp)))

theorem execMuWriteInit_nexts (f s) : Nexts s (execMuWriteInit f s) :=
  State.onFrame_nexts _ _ _ _ _ (fun s => s.muRequest_evolves f _ _ (fun s => s.checkWrite_evolves f) (fun s _ => .still (by simp)))

theorem execMuSegment_nexts (f s) : Nexts s (execMuSegment f s) := by
  refine State.onFrame_nexts _ _ _ _ _ (fun s => s.inSession_evolves f _ (fun s v => ?_))
  dsimp only
  split
  · exact ite_evolves (State.takeSegment_evolves _ _ _) (.refl s)
  · exact .still (by simp)

theorem execMuSegmentAck_nexts (f s) : Nexts s (execMuSegmentAck f s) := by
  refine State.onFrame_nexts _ _ _ _ _ (fun s => s.inSession_evolves f _ (fun s v => ?_))
  dsimp only
  split
  · exact ite_evolves (.refl s) (ite_evolves (.still (by simp)) (.still (by simp)))
  · exact .refl s

theorem execMuAbort_nexts (f s) : Nexts s (execMuAbort f s) := by
  refine State.onFrame_nexts _ _ _ _ _ (fun s => s.inSession_evolves f _ (fun s v => ?_))
  split
  · exact ite_evolves (.still (by simp)) (.refl s)
  · exact .refl s

theorem execSegmentTimeout_nexts (sess s) : Nexts s (execSegmentTimeout sess s) := by
  unfold execSegmentTimeout
  dsimp only
  (repeat' split) <;> exact Drifts.nexts (by simp) (fun h => by simp [h])

theorem execSessionIdleTimeout_nexts (sess s) : Nexts s (execSessionIdleTimeout sess s) := by
  unfold execSessionIdleTimeout
  (repeat' split) <;> exact Drifts.nexts (by simp) (fun h => by simp [h])

theorem execMalformedFrame_nexts (f s) : Nexts s (execMalformedFrame f s) :=
  .ite (nexts (s.receive_evolves f id Evolves.refl)) (nexts (s.takeIn_evolves _ f))

theorem execFrameDiscarded_nexts (badFcs s) : Nexts s (execFrameDiscarded badFcs s) := by
  unfold execFrameDiscarded
  (repeat' split) <;> exact Drifts.nexts (by simp) (fun h => by simp [h])

theorem State.eventRecord_evolves {s : State} {n : Nat} {q : State × List Byte} (h : s.eventRecord n = some q) :
    Evolves s q.1 := by
  unfold State.eventRecord at h
  split at h
  · split at h <;> cases h
    · exact .steady (by simp) (fun h => by simp [h])
    · exact .refl s
  · cases h

theorem execEventSend_nexts (s) : Nexts s (execEventSend s) := by
  unfold execEventSend
  split
  case h_2 => exact .same s
  refine .ite (.same s) ?_
  extract_lets mu u
  have hu : Evolves s u := .still ⟨rfl, rfl, rfl, rfl, rfl, rfl, rfl, rfl⟩
  split
  · next q hq =>
    refine nexts (hu.trans ((State.eventRecord_evolves hq).trans (.steady (by simp) (fun h => by simp [h]))))
  · exact nexts (hu.trans (.steady (by simp) (fun h => by simp [h])))

theorem execEventRetransmit_nexts (s) : Nexts s (execEventRetransmit s) := by
  unfold execEventRetransmit
  split
  case h_2 => exact .same s
  split
  case h_2 => exact .same s
  next e _ _ t _ =>
  refine .ite (.same s) ?_
  extract_lets u mu w
  have hw : Evolves s w := (s.atTime_evolves _).trans (.still ⟨rfl, rfl, rfl, rfl, rfl, rfl, rfl, rfl⟩)
  refine .ite (nexts (hw.trans (.steady (by simp) (fun h => by simp [h])))) ?_
  split
  · next q hq =>
    exact nexts (hw.trans ((State.eventRecord_evolves hq).trans (.steady (by simp) (fun h => by simp [h]))))
  · exact nexts (hw.trans (.steady (by simp) (fun h => by simp [h])))

theorem execEventAck_nexts (f s) : Nexts s (execEventAck f s) := by
  have h : ∀ s : State, Evolves s { s with events := s.events.filter (fun e => field (bodyOf f) 0 6 < e.seq) } :=
    fun s => .still ⟨rfl, rfl, rfl, rfl, rfl, rfl, rfl, rfl⟩
  exact State.onFrame_nexts _ _ _ _ _ (fun s => ite_evolves (h s) (s.inSession_evolves f _ (fun s _ => h s)))

theorem execBudgetFormation_nexts (s) : Nexts s (execBudgetFormation s) := by
  unfold execBudgetFormation
  (repeat' split) <;> exact Drifts.nexts (by simp) (fun h => by simp [h])

theorem execBudget_nexts (f s) : Nexts s (execBudget f s) := by
  refine State.onFrame_nexts _ _ _ _ _ (fun s => ?_)
  split <;> exact .steady (by simp) (fun h => by simp [h])

theorem execBudgetAck_nexts (f s) : Nexts s (execBudgetAck f s) := by
  refine State.onFrame_nexts _ _ _ _ _ (fun s => ?_)
  refine ite_evolves (.refl s) ?_
  split
  · exact ite_evolves (.steady (by simp) (fun h => by simp [h])) (.still (by simp))
  · exact .still (by simp)

theorem execTimeBroadcast_nexts (s) : Nexts s (execTimeBroadcast s) := by
  unfold execTimeBroadcast
  dsimp only
  (repeat' split) <;> exact Drifts.nexts (by simp) (fun h => by simp [h])

theorem execTime_nexts (f x s) : Nexts s (execTime f x s) :=
  State.onFrame_nexts _ _ _ _ _ (fun s => ite_evolves (.steady (by simp) (fun h => by simp [h])) (.refl s))

theorem execCoordinatorLoss_nexts (s) : Nexts s (execCoordinatorLoss s) := by
  unfold execCoordinatorLoss
  dsimp only
  (repeat' split) <;> exact Drifts.nexts (by simp) (fun h => by simp [h])

theorem execForeignBudgetCauseEnd_nexts (s) : Nexts s (execForeignBudgetCauseEnd s) := by
  unfold execForeignBudgetCauseEnd
  dsimp only
  (repeat' split) <;> exact Drifts.nexts (by simp) (fun h => by simp [h])

/-! ### Test access, and the lock of the PLL -/

theorem State.instrument_nexts (s : State) (f : Test → Test) : Nexts s (s.instrument f) :=
  .when (.still ⟨rfl, rfl, rfl, rfl, rfl, rfl, rfl, rfl⟩)

theorem execFuseWrite_nexts (f v s) : Nexts s (execFuseWrite f v s) := s.instrument_nexts _

theorem execMemoryBist_nexts (g p s) : Nexts s (execMemoryBist g p s) := s.instrument_nexts _

theorem execOxsTTrim_nexts (n x y s) : Nexts s (execOxsTTrim n x y s) := .ite (s.instrument_nexts _) (.same s)

theorem execClockTrim_nexts (v s) : Nexts s (execClockTrim v s) := s.instrument_nexts _

theorem execScanModeEntry_nexts (s) : Nexts s (execScanModeEntry s) := by
  unfold execScanModeEntry
  (repeat' split) <;> exact Drifts.nexts (by simp) (fun h => by simp [h])

theorem execExtest_nexts (s) : Nexts s (execExtest s) := by
  unfold execExtest
  (repeat' split) <;> exact Drifts.nexts (by simp) (fun h => by simp [h])

theorem execSamplePreload_nexts (s) : Nexts s (execSamplePreload s) :=
  nexts (.steady (by simp) (fun h => by simp [h]))

theorem execIdcode_nexts (s) : Nexts s (execIdcode s) := by
  unfold execIdcode
  dsimp only
  (repeat' split) <;> exact Drifts.nexts (by simp) (fun h => by simp [h])

theorem execInstr_nexts (s) : Nexts s (execInstr s) :=
  nexts (.steady (by simp) (fun h => by simp [h]))

theorem execBypass_nexts (code s) : Nexts s (execBypass code s) := by
  unfold execBypass
  (repeat' split) <;> exact Drifts.nexts (by simp) (fun h => by simp [h])

/-- A command that waited for GCLK evolves the state it is served on. -/
theorem State.serveOne_nexts (s : State) (c : Instr) : Nexts s (s.serveOne c) := by
  cases c
  case doorbell => exact execDoorbell_nexts ..
  case claim => exact execClaim_nexts ..
  case complete => exact execComplete_nexts ..
  case configureSource => exact execConfigureSource_nexts ..
  case pendSet => exact execPendSet_nexts ..
  case pendClr => exact execPendClr_nexts ..
  case maskSet => exact execMaskSet_nexts ..
  case maskClr => exact execMaskClr_nexts ..
  case icuPlainWrite => exact execIcuPlainWrite_nexts ..
  case targetConfigWrite => exact execTargetConfigWrite_nexts ..
  case watchWrite => exact execWatchWrite_nexts ..
  case post => exact execPost_nexts ..
  case take => exact execTake_nexts ..
  case free => exact execFree_nexts ..
  case ackClear => exact execAckClear_nexts ..
  case tostClear => exact execTostClear_nexts ..
  case mailboxMaskWrite => exact execMailboxMaskWrite_nexts ..
  case objectWindowClaim => exact execObjectWindowClaim_nexts ..
  case objectWindowRelease => exact execObjectWindowRelease_nexts ..
  case objectWindowRead => exact execObjectWindowRead_nexts ..
  case objectWindowWrite => exact execObjectWindowWrite_nexts ..
  case g3Read => exact execG3Read_nexts ..
  case registerWrite => exact execRegisterWrite_nexts ..
  case muOpen => exact execMuOpen_nexts ..
  case muClose => exact execMuClose_nexts ..
  case muRead => exact execMuRead_nexts ..
  case muWrite => exact execMuWrite_nexts ..
  case muReadInit => exact execMuReadInit_nexts ..
  case muWriteInit => exact execMuWriteInit_nexts ..
  case muSegment => exact execMuSegment_nexts ..
  case muSegmentAck => exact execMuSegmentAck_nexts ..
  case muAbort => exact execMuAbort_nexts ..
  case malformedFrame => exact execMalformedFrame_nexts ..
  case eventAck => exact execEventAck_nexts ..
  case budget => exact execBudget_nexts ..
  case budgetAck => exact execBudgetAck_nexts ..
  case time => exact execTime_nexts ..
  all_goals exact .same s

theorem State.served_evolves (s : State) (c : Instr) : Evolves s (s.served c) := by
  obtain ⟨t, ht, he⟩ := s.serveOne_nexts c
  simpa [State.served, ht] using he

theorem State.serveWaiting_evolves (s : State) : Evolves s s.serveWaiting := by
  refine Evolves.trans (t := { s with tb := { s.tb with waiting := [] } }) (.still (by simp)) ?_
  exact .each _ _ _ State.served_evolves

theorem execPllLock_nexts (p s) : Nexts s (execPllLock p s) := by
  unfold execPllLock
  refine .ite ?_ (.same s)
  extract_lets u tb v
  have hu : Evolves s u := .steady (by simp [u]) (fun h => by simp [u, h])
  have hv : Evolves u v := by
    unfold v
    dsimp only [tb]
    split <;> exact .steady (by simp) (fun h => by simp [h])
  clear_value v
  exact nexts (hu.trans (hv.trans (Evolves.trans (.steady (by simp) (fun h => by simp [h])) (State.serveWaiting_evolves _))))

/-! ### Every command -/

/-- Every command answers a next state that the state evolves to. A write of an object does so by the engine that checks it. -/
theorem exec_nexts : ∀ (c : Instr) (s : State), Nexts s (exec c s)
  | .coldReset, _ => execColdReset_nexts ..
  | .vgovLoss, _ => execVgovLoss_nexts ..
  | .strapSample .., _ => execStrapSample_nexts ..
  | .govReset, _ => execGovReset_nexts ..
  | .govResetRelease, _ => execGovResetRelease_nexts ..
  | .hostReset, _ => execHostReset_nexts ..
  | .bootComplete .., _ => execBootComplete_nexts ..
  | .coreStartTimeout .., _ => execCoreStartTimeout_nexts ..
  | .syncInLoss, _ => execSyncInLoss_nexts ..
  | .relockQualified, _ => execRelockQualified_nexts ..
  | .frequencyPullComplete .., _ => execFrequencyPullComplete_nexts ..
  | .pllLock .., _ => execPllLock_nexts ..
  | .clockFailure, _ => execClockFailure_nexts ..
  | .gclkWake, _ => execGclkWake_nexts ..
  | .standbyClockStop, _ => execStandbyClockStop_nexts ..
  | .fFrameTick .., _ => execFFrameTick_nexts ..
  | .fFrameCommit .., _ => execFFrameCommit_nexts ..
  | .fSwBoundary .., _ => execFSwBoundary_nexts ..
  | .cFrameTick, _ => execCFrameTick_nexts ..
  | .cFrameCompetition .., _ => execCFrameCompetition_nexts ..
  | .cFrameRateCommit .., _ => execCFrameRateCommit_nexts ..
  | .tallyCommit, _ => execTallyCommit_nexts ..
  | .sFrameTick, _ => execSFrameTick_nexts ..
  | .thermalCommit .., _ => execThermalCommit_nexts ..
  | .hFrameTick .., _ => execHFrameTick_nexts ..
  | .loopOverrun .., _ => execLoopOverrun_nexts ..
  | .laneCensusComplete .., _ => execLaneCensusComplete_nexts ..
  | .stageFault .., _ => execStageFault_nexts ..
  | .stageFaultRetryEnable .., _ => execStageFaultRetryEnable_nexts ..
  | .stageFaultReleaseLimit .., _ => execStageFaultReleaseLimit_nexts ..
  | .laneWakeEnd .., _ => execLaneWakeEnd_nexts ..
  | .warmParkExpiry .., _ => execWarmParkExpiry_nexts ..
  | .laneOpen .., _ => execLaneOpen_nexts ..
  | .laneSenseFailure .., _ => execLaneSenseFailure_nexts ..
  | .laneRearm .., s => .ite (State.writeRow_nexts ..) (.same s)
  | .senseTapExclusion .., _ => execSenseTapExclusion_nexts ..
  | .allPhaseFire .., _ => execAllPhaseFire_nexts ..
  | .fireEnd .., _ => execFireEnd_nexts ..
  | .fireRearm .., _ => execFireRearm_nexts ..
  | .overvoltageClamp .., _ => execOvervoltageClamp_nexts ..
  | .railOvervoltage .., _ => execRailOvervoltage_nexts ..
  | .railUndervoltage .., _ => execRailUndervoltage_nexts ..
  | .avsTrimRequest .., s => .ite (State.writeRow_nexts ..) (.same s)
  | .shedDecision .., _ => execShedDecision_nexts ..
  | .interRailDelayEnd, _ => execInterRailDelayEnd_nexts ..
  | .stageSupplyQualified, _ => execStageSupplyQualified_nexts ..
  | .stageSupplyTimeout, _ => execStageSupplyTimeout_nexts ..
  | .railPowerGood .., _ => execRailPowerGood_nexts ..
  | .railPowerGoodMiss .., _ => execRailPowerGoodMiss_nexts ..
  | .railDischargeDone .., _ => execRailDischargeDone_nexts ..
  | .railDischargeTimeout .., _ => execRailDischargeTimeout_nexts ..
  | .fastPathStretch .., _ => execFastPathStretch_nexts ..
  | .droopReport .., _ => execDroopReport_nexts ..
  | .stretchReleaseStep .., _ => execStretchReleaseStep_nexts ..
  | .freezeRelease .., _ => execFreezeRelease_nexts ..
  | .longFreeze .., _ => execLongFreeze_nexts ..
  | .excursionWindowClose .., _ => execExcursionWindowClose_nexts ..
  | .tapDisagreement .., _ => execTapDisagreement_nexts ..
  | .tapRearm .., s => .ite (State.writeRow_nexts ..) (.same s)
  | .droopThresholdWrite .., s => .ite (State.writeRow_nexts ..) (.same s)
  | .tapSettleEnd .., _ => execTapSettleEnd_nexts ..
  | .domainCensusComplete .., _ => execDomainCensusComplete_nexts ..
  | .domainCensusWindowEnd .., _ => execDomainCensusWindowEnd_nexts ..
  | .issue .., _ => execIssue_nexts ..
  | .reservationExpiry .., _ => execReservationExpiry_nexts ..
  | .ringSweep, _ => execRingSweep_nexts ..
  | .quantumWrite .., _ => State.writeRow_nexts ..
  | .announce .., _ => execAnnounce_nexts ..
  | .announceLookup, _ => execAnnounceLookup_nexts ..
  | .done .., _ => execDone_nexts ..
  | .doneDigest .., _ => execDoneDigest_nexts ..
  | .cancel .., _ => execCancel_nexts ..
  | .deferredCancel, _ => execDeferredCancel_nexts ..
  | .predictedSlotExpiry .., _ => execPredictedSlotExpiry_nexts ..
  | .grantedGroupTimeout .., _ => execGrantedGroupTimeout_nexts ..
  | .signatureEntryWrite .., _ => State.writeRow_nexts ..
  | .programLoadData .., _ => State.writeBytesRow_nexts ..
  | .programActivate .., _ => State.writeRow_nexts ..
  | .clearStickyFlags .., _ => State.writeRow_nexts ..
  | .coefficientCommit .., s => .ite (State.writeRow_nexts ..) (.same s)
  | .followingError .., _ => execFollowingError_nexts ..
  | .injectionStart .., _ => State.writeRow_nexts ..
  | .injectionDelayEnd, _ => execInjectionDelayEnd_nexts ..
  | .injectionStop .., _ => State.writeRow_nexts ..
  | .injectionEnd, _ => execInjectionEnd_nexts ..
  | .captureArm .., _ => State.writeRow_nexts ..
  | .captureForceTrigger .., _ => State.writeRow_nexts ..
  | .captureStop .., _ => State.writeRow_nexts ..
  | .captureComplete, _ => execCaptureComplete_nexts ..
  | .externalSensorSlot .., _ => execExternalSensorSlot_nexts ..
  | .memoryStackWord .., _ => execMemoryStackWord_nexts ..
  | .sensorRearm .., s => .ite (State.writeRow_nexts ..) (.same s)
  | .oxsTTrip .., _ => execOxsTTrip_nexts ..
  | .oxsTProgram .., _ => execOxsTProgram_nexts ..
  | .coolantUpdateCommit .., _ => State.writeRow_nexts ..
  | .coolantTimeout, _ => execCoolantTimeout_nexts ..
  | .coolantRecovery, _ => execCoolantRecovery_nexts ..
  | .restartHoldComplete, _ => execRestartHoldComplete_nexts ..
  | .cooldownProlonged, _ => execCooldownProlonged_nexts ..
  | .tripActionsComplete, _ => execTripActionsComplete_nexts ..
  | .domainWakeRequest .., s => .ite (State.writeRow_nexts ..) (.same s)
  | .domainGateRequest .., s => .ite (State.writeRow_nexts ..) (.same s)
  | .domainWakeStart .., _ => execDomainWakeStart_nexts ..
  | .domainStageStep .., _ => execDomainStageStep_nexts ..
  | .domainPowerGood .., _ => execDomainPowerGood_nexts ..
  | .domainPgWindowMiss .., _ => execDomainPgWindowMiss_nexts ..
  | .domainIsolationRelease .., _ => execDomainIsolationRelease_nexts ..
  | .domainRetryDelayEnd .., _ => execDomainRetryDelayEnd_nexts ..
  | .wakeWaitExpiry .., _ => execWakeWaitExpiry_nexts ..
  | .drainComplete .., _ => execDrainComplete_nexts ..
  | .drainTimeout .., _ => execDrainTimeout_nexts ..
  | .autoWake .., _ => execAutoWake_nexts ..
  | .domainPowerGoodLoss .., _ => execDomainPowerGoodLoss_nexts ..
  | .domainRearm .., s => .ite (State.writeRow_nexts ..) (.same s)
  | .powerOn .., _ => State.commandRow_nexts ..
  | .powerOff .., _ => State.commandRow_nexts ..
  | .meterOn .., _ => State.commandRow_nexts ..
  | .meterOff .., _ => State.commandRow_nexts ..
  | .resume .., _ => State.commandRow_nexts ..
  | .serviceEnter .., _ => State.commandRow_nexts ..
  | .serviceExit .., _ => execServiceExit_nexts ..
  | .softReset .., _ => State.commandRow_nexts ..
  | .assayRequestTransfer, _ => execAssayRequestTransfer_nexts ..
  | .duplicateDeadline .., _ => execDuplicateDeadline_nexts ..
  | .thirdExecutionRequest, _ => execThirdExecutionRequest_nexts ..
  | .thirdDeadline .., _ => execThirdDeadline_nexts ..
  | .releaseQuarantine .., s => .ite (State.writeRow_nexts ..) (.same s)
  | .contributionFence .., _ => execContributionFence_nexts ..
  | .fenceAnswer, _ => execFenceAnswer_nexts ..
  | .peerReport .., _ => State.writeRow_nexts ..
  | .knownAnswerStart .., _ => State.writeRow_nexts ..
  | .knownAnswerStop .., _ => State.writeRow_nexts ..
  | .knownAnswerTimeout .., _ => execKnownAnswerTimeout_nexts ..
  | .knownAnswerRunEnd, _ => execKnownAnswerRunEnd_nexts ..
  | .sweepStart .., _ => State.writeRow_nexts ..
  | .sweepStop .., _ => State.writeRow_nexts ..
  | .sweepSettleEnd, _ => execSweepSettleEnd_nexts ..
  | .sweepStepComplete, _ => execSweepStepComplete_nexts ..
  | .faultTrigger .., _ => execFaultTrigger_nexts ..
  | .dClassEvent .., _ => execDClassEvent_nexts ..
  | .dClassWindowExpiry .., _ => execDClassWindowExpiry_nexts ..
  | .transientStrobe .., _ => execTransientStrobe_nexts ..
  | .faultAcknowledge .., _ => State.writeRow_nexts ..
  | .recordWrite, _ => execRecordWrite_nexts ..
  | .daybookClear .., _ => State.writeRow_nexts ..
  | .vitrineClear .., _ => State.writeRow_nexts ..
  | .timeSet .., _ => execTimeSet_nexts ..
  | .timeQualityHoldExpiry, _ => execTimeQualityHoldExpiry_nexts ..
  | .dumpRelease .., s => .ite (State.writeRow_nexts ..) (.same s)
  | .dumpClearComplete .., _ => execDumpClearComplete_nexts ..
  | .signal .., _ => execSignal_nexts ..
  | .doorbell .., _ => execDoorbell_nexts ..
  | .claim .., _ => execClaim_nexts ..
  | .complete .., _ => execComplete_nexts ..
  | .configureSource .., _ => execConfigureSource_nexts ..
  | .pendSet .., _ => execPendSet_nexts ..
  | .pendClr .., _ => execPendClr_nexts ..
  | .maskSet .., _ => execMaskSet_nexts ..
  | .maskClr .., _ => execMaskClr_nexts ..
  | .icuPlainWrite .., _ => execIcuPlainWrite_nexts ..
  | .targetConfigWrite .., _ => execTargetConfigWrite_nexts ..
  | .watchWrite .., _ => execWatchWrite_nexts ..
  | .watchWake .., _ => execWatchWake_nexts ..
  | .fallbackOffer .., _ => execFallbackOffer_nexts ..
  | .post .., _ => execPost_nexts ..
  | .take .., _ => execTake_nexts ..
  | .free .., _ => execFree_nexts ..
  | .ackClear .., _ => execAckClear_nexts ..
  | .tostClear .., _ => execTostClear_nexts ..
  | .mailboxMaskWrite .., _ => execMailboxMaskWrite_nexts ..
  | .noticeTimeout .., _ => execNoticeTimeout_nexts ..
  | .objectRead .., _ => execObjectRead_nexts ..
  | .objectWrite .., _ => execObjectWrite_nexts ..
  | .attach .., _ => execAttach_nexts ..
  | .heartbeat .., _ => execHeartbeat_nexts ..
  | .detach .., _ => execDetach_nexts ..
  | .heartbeatSend .., _ => execHeartbeatSend_nexts ..
  | .hostLost .., _ => execHostLost_nexts ..
  | .coreCrash .., _ => execCoreCrash_nexts ..
  | .watchdogExpiry .., _ => execWatchdogExpiry_nexts ..
  | .componentFault .., _ => execComponentFault_nexts ..
  | .bankReloadComplete .., _ => execBankReloadComplete_nexts ..
  | .coreRestartComplete .., _ => execCoreRestartComplete_nexts ..
  | .releaseHold .., s => .ite (State.writeRow_nexts ..) (.same s)
  | .updateTarget .., _ => State.writeRow_nexts ..
  | .updateLoadData .., _ => State.writeBytesRow_nexts ..
  | .updateVerify .., _ => State.writeRow_nexts ..
  | .updateActivate .., _ => State.writeRow_nexts ..
  | .updateAbort .., _ => State.writeRow_nexts ..
  | .updateActivation, _ => execUpdateActivation_nexts ..
  | .updateRestartTimeout, _ => execUpdateRestartTimeout_nexts ..
  | .probationEnd, _ => execProbationEnd_nexts ..
  | .g3Read .., _ => execG3Read_nexts ..
  | .g3ReadTimeout, _ => execG3ReadTimeout_nexts ..
  | .g3WriteQueueTimeout, _ => execG3WriteQueueTimeout_nexts ..
  | .g3PowerRequest .., _ => State.g3Write_nexts ..
  | .g3PlimitWrite .., _ => State.g3Write_nexts ..
  | .g3ThresholdWrite .., _ => State.g3Write_nexts ..
  | .g3FaultClear .., _ => State.g3Write_nexts ..
  | .objectWindowClaim, _ => execObjectWindowClaim_nexts ..
  | .objectWindowRelease .., _ => execObjectWindowRelease_nexts ..
  | .objectWindowRead .., _ => execObjectWindowRead_nexts ..
  | .objectWindowWrite .., _ => execObjectWindowWrite_nexts ..
  | .objectWindowIdleRelease, _ => execObjectWindowIdleRelease_nexts ..
  | .objectAccessTimeout, _ => execObjectAccessTimeout_nexts ..
  | .lock .., _ => State.writeRow_nexts ..
  | .unlock .., _ => State.writeRow_nexts ..
  | .authChallenge .., _ => execAuthChallenge_nexts ..
  | .authResponse .., _ => State.writeRow_nexts ..
  | .endAuthentication .., _ => State.writeRow_nexts ..
  | .authBlockExpiry, _ => execAuthBlockExpiry_nexts ..
  | .muOpen .., _ => execMuOpen_nexts ..
  | .muClose .., _ => execMuClose_nexts ..
  | .muRead .., _ => execMuRead_nexts ..
  | .muWrite .., _ => execMuWrite_nexts ..
  | .muReadInit .., _ => execMuReadInit_nexts ..
  | .muWriteInit .., _ => execMuWriteInit_nexts ..
  | .muSegment .., _ => execMuSegment_nexts ..
  | .muSegmentAck .., _ => execMuSegmentAck_nexts ..
  | .muAbort .., _ => execMuAbort_nexts ..
  | .segmentTimeout .., _ => execSegmentTimeout_nexts ..
  | .sessionIdleTimeout .., _ => execSessionIdleTimeout_nexts ..
  | .malformedFrame .., _ => execMalformedFrame_nexts ..
  | .eventSend, _ => execEventSend_nexts ..
  | .eventRetransmit, _ => execEventRetransmit_nexts ..
  | .eventAck .., _ => execEventAck_nexts ..
  | .budgetFormation, _ => execBudgetFormation_nexts ..
  | .budget .., _ => execBudget_nexts ..
  | .budgetAck .., _ => execBudgetAck_nexts ..
  | .timeBroadcast, _ => execTimeBroadcast_nexts ..
  | .time .., _ => execTime_nexts ..
  | .coordinatorLoss, _ => execCoordinatorLoss_nexts ..
  | .scanModeEntry, _ => execScanModeEntry_nexts ..
  | .extest, _ => execExtest_nexts ..
  | .samplePreload, _ => execSamplePreload_nexts ..
  | .idcode, _ => execIdcode_nexts ..
  | .instr, _ => execInstr_nexts ..
  | .bypass .., _ => execBypass_nexts ..
  | .fuseWrite .., _ => execFuseWrite_nexts ..
  | .memoryBist .., _ => execMemoryBist_nexts ..
  | .oxsTTrim .., _ => execOxsTTrim_nexts ..
  | .clockTrim .., _ => execClockTrim_nexts ..
  | .atbRoute .., _ => execAtbRoute_nexts ..
  | .registerWrite .., _ => execRegisterWrite_nexts ..
  | .stageFaultRetryObservationEnd .., _ => execStageFaultRetryObservationEnd_nexts ..
  | .stackCensusWindowEnd .., _ => execStackCensusWindowEnd_nexts ..
  | .frameDiscarded .., _ => execFrameDiscarded_nexts ..
  | .foreignBudgetCauseEnd, _ => execForeignBudgetCauseEnd_nexts ..

/-- Settles O3: each command by its own lemma, and what all commands keep is `Evolves`. -/
theorem everyCommandEvolves : Obligations.EveryCommandEvolves := by
  unfold Obligations.EveryCommandEvolves
  exact exec_nexts

/-! ### Steps and runs -/

/-- An idle step lets one cycle pass. -/
theorem step_idle {s : State} (h : s.pending = []) :
    step s = .next { s with tb := { s.tb with now := s.tb.now + 1 } } := by
  have hstep : step s = .next s.idle := by simp only [step, h]
  exact hstep

/-- A step with a queue runs its front. -/
theorem step_front {c : Instr} {rest : List Instr} {s : State} (h : s.pending = c :: rest) :
    step s = exec c { s with pending := rest } := by
  simp only [step, h]

/-- Settles O1. -/
theorem stepRunsFront : Obligations.StepRunsFront := by
  unfold Obligations.StepRunsFront
  exact fun _ _ _ h => step_front h

/-- Settles O2. -/
theorem idleStep : Obligations.IdleStep := by
  unfold Obligations.IdleStep
  exact fun _ h => step_idle h

theorem Evolves.sound {s t : State} (h : Evolves s t) (hs : s.Sound) : t.Sound := by
  obtain ⟨-, -, -, hmem, htrip, hgathered⟩ := h
  obtain ⟨hwf, hlatch, hnone⟩ := hs
  exact ⟨hmem hwf, htrip hlatch, hgathered hnone⟩

/-- Settles O4: an idle step moves the clock only, any other evolves the state. -/
theorem stepKeepsSound : Obligations.StepKeepsSound := by
  unfold Obligations.StepKeepsSound
  intro s t hs hstep
  cases hq : s.pending with
  | nil =>
    rw [step_idle hq] at hstep
    cases hstep
    exact hs
  | cons c rest =>
    rw [step_front hq] at hstep
    obtain ⟨u, hu, he⟩ := exec_nexts c { s with pending := rest }
    rw [hu] at hstep
    cases hstep
    exact he.sound hs

theorem step_completes (s : State) : completes (step s) := by
  cases hq : s.pending with
  | nil => exact ⟨_, step_idle hq⟩
  | cons c rest =>
    obtain ⟨t, ht, -⟩ := exec_nexts c { s with pending := rest }
    exact ⟨t, (step_front hq).trans ht⟩

/-- Settles O5: no outcome of a command is a fault or a refusal, so no run stops. -/
theorem queueIsServed : Obligations.QueueIsServed := by
  unfold Obligations.QueueIsServed
  refine ⟨fun c rest s hq => ?_, fun s t _ => step_completes t⟩
  obtain ⟨t, ht, hpending, -, hnow, -⟩ := exec_nexts c { s with pending := rest }
  exact ⟨t, (step_front hq).trans ht, hpending, hnow⟩


/-! The reset state, and the accesses that wait for GCLK (02 R48, 17 R417, R418). -/

/-- Settles O6: the reset state is written out in the model, so each part is read off. -/
theorem resetState : Obligations.ResetState := by
  unfold Obligations.ResetState
  exact ⟨⟨rfl, rfl, rfl⟩, rfl, rfl, rfl, rfl, rfl, rfl, rfl, rfl, rfl, rfl, fun _ => rfl, fun _ => rfl, fun _ => ⟨rfl, rfl⟩⟩

/-! ### Waiting for lock -/

theorem State.awaitClock_stopped {s : State} {c : Instr} (hclk : s.tb.gclk = false) (hon : s.gov.st ≠ .off)
    (hrst : s.gov.govRstLow = false) (hc : fromOutside c = true) :
    s.awaitClock c = { s with tb := { s.tb with
      waiting := s.tb.waiting ++ [c], waking := s.tb.waking || !s.gov.booting } } := by
  simp [State.awaitClock, hclk, hon, hrst, hc]

theorem State.onBus_stopped {s : State} {c : Instr} (f : State → State) (hclk : s.tb.gclk = false) :
    s.onBus c f = .next (s.awaitClock c) := by
  simp [State.onBus, hclk]

theorem State.channelWrite_stopped {s : State} {i : Instr} {c : Nat} (own : Bool) (f : State → State) (hc : c < 64)
    (hclk : s.tb.gclk = false) : s.channelWrite i c own f = .next (s.awaitClock i) := by
  rw [State.channelWrite, if_pos hc, State.onBus_stopped _ hclk]

/-- A frame that the core cannot take, addressed to a Governor out of BOOT, waits. -/
theorem State.onFrame_stopped {s : State} {c : Instr} {f : Frame} (kind : Nat) (g : State → State)
    (hhears : s.hears f = false) (haddr : s.addressed f = true) (hboot : s.gov.booting = false) :
    s.onFrame c f kind g = .next (s.awaitClock c) := by
  simp [State.onFrame, State.takeIn, hhears, haddr, hboot]

/-- A register access of host software, once its index is known to be in range, goes to the bus. -/
theorem exec_access_stopped {s : State} {c i k o : Nat} {w : W64} (hclk : s.tb.gclk = false) (hc : c < 64) (hi : i < 16)
    (hk : k < 6) (ho : o < 0x4000) :
    ∀ x ∈ ([.doorbell w, .configureSource w, .claim 4 k, .complete 4 k w, .pendSet i w, .pendClr i w, .maskSet i w,
        .maskClr i w, .icuPlainWrite .pend i w, .targetConfigWrite 4 k w, .watchWrite i w, .post 4 c w, .take 4 c,
        .free 4 c w, .ackClear 4 c w, .tostClear 4 c w, .mailboxMaskWrite 4 c w, .objectWindowClaim,
        .objectWindowRelease w, .objectWindowRead w, .objectWindowWrite w, .g3Read (4 * o)] : List Instr),
      exec x s = .next (s.awaitClock x) ∧ fromOutside x = true := by
  have hbus : ∀ (x : Instr) (f : State → State), s.onBus x f = .next (s.awaitClock x) :=
    fun _ f => State.onBus_stopped f hclk
  have hchan : ∀ (x : Instr) (own : Bool) (f : State → State), s.channelWrite x c own f = .next (s.awaitClock x) :=
    fun _ own f => State.channelWrite_stopped own f hc hclk
  have h16 : ¬ 16 ≤ i := by omega
  have h32 : ¬ 32 ≤ i := by omega
  have h6 : ¬ 6 ≤ k := by omega
  have h64 : ¬ 64 ≤ c := by omega
  have hword : (4 * o < 0x10000 && 4 * o % 4 = 0) = true := by simp; omega
  simp only [List.forall_mem_cons, List.not_mem_nil, false_imp_iff, implies_true, and_true]
  have hdoorbell : execDoorbell w s = .next (s.awaitClock (.doorbell w)) := by
    unfold execDoorbell
    exact hbus _ _
  exact ⟨⟨hdoorbell, rfl⟩, ⟨show execConfigureSource w s = _ from hbus _ _, rfl⟩, ⟨(if_neg h6).trans (hbus _ _), rfl⟩,
    ⟨(if_neg (by simp [h6])).trans (hbus _ _), rfl⟩, ⟨(if_neg h16).trans (hbus _ _), rfl⟩,
    ⟨(if_neg h16).trans (hbus _ _), rfl⟩, ⟨(if_neg h16).trans (hbus _ _), rfl⟩, ⟨(if_neg h16).trans (hbus _ _), rfl⟩,
    ⟨(if_neg h16).trans (hbus _ _), rfl⟩, ⟨(if_neg h6).trans (hbus _ _), rfl⟩, ⟨(if_neg h32).trans (hbus _ _), rfl⟩,
    ⟨hchan _ _ _, rfl⟩, ⟨(if_neg h64).trans (hbus _ _), rfl⟩, ⟨hchan _ _ _, rfl⟩, ⟨hchan _ _ _, rfl⟩, ⟨hchan _ _ _, rfl⟩,
    ⟨hchan _ _ _, rfl⟩, ⟨show execObjectWindowClaim s = _ from hbus _ _, rfl⟩, ⟨hbus _ _, rfl⟩,
    ⟨show execObjectWindowRead w s = _ from hbus _ _, rfl⟩, ⟨show execObjectWindowWrite w s = _ from hbus _ _, rfl⟩,
    ⟨(if_pos hword).trans (hbus _ _), rfl⟩⟩

theorem exec_frame_stopped {s : State} {f : Frame} {y : Nat} (hhears : s.hears f = false)
    (haddr : s.addressed f = true) (hboot : s.gov.booting = false) :
    ∀ x ∈ ([.muOpen f, .muClose f, .muRead f, .muWrite f, .muReadInit f, .muWriteInit f, .muSegment f, .muSegmentAck f,
        .muAbort f, .eventAck f, .budget f, .budgetAck f, .time f y] : List Instr),
      exec x s = .next (s.awaitClock x) ∧ fromOutside x = true := by
  have hframe : ∀ (x : Instr) (kind : Nat) (g : State → State), s.onFrame x f kind g = .next (s.awaitClock x) :=
    fun _ kind g => State.onFrame_stopped kind g hhears haddr hboot
  simp only [List.forall_mem_cons, List.not_mem_nil, false_imp_iff, implies_true, and_true]
  exact ⟨⟨hframe _ _ _, rfl⟩, ⟨hframe _ _ _, rfl⟩, ⟨hframe _ _ _, rfl⟩, ⟨hframe _ _ _, rfl⟩, ⟨hframe _ _ _, rfl⟩,
    ⟨hframe _ _ _, rfl⟩, ⟨hframe _ _ _, rfl⟩, ⟨hframe _ _ _, rfl⟩, ⟨hframe _ _ _, rfl⟩, ⟨hframe _ _ _, rfl⟩,
    ⟨hframe _ _ _, rfl⟩, ⟨hframe _ _ _, rfl⟩, ⟨hframe _ _ _, rfl⟩⟩

/-- Settles O60: every listed access and frame comes to `State.awaitClock`. -/
theorem waitForClock : Obligations.WaitForClock := by
  unfold Obligations.WaitForClock
  refine ⟨fun c i k o w s hclk hon hrst hc hi hk ho x hx => ?_, fun f y s hclk hon hrst hboot haddr hhears x hx => ?_⟩
  · obtain ⟨hexec, hout⟩ := exec_access_stopped hclk hc hi hk ho x hx
    rw [hexec, State.awaitClock_stopped hclk hon hrst hout]
  · obtain ⟨hexec, hout⟩ := exec_frame_stopped hhears haddr hboot x hx
    rw [hexec, State.awaitClock_stopped hclk hon hrst hout]
    simp [hboot]


/-! ### Counters and objects through the store

An object reads the store and the configuration alone; above 0x5000 no default looks at another object, so an update of
one object leaves every other. -/

theorem State.obj_congr {t s : State} (hod : t.od = s.od) (hcfg : t.cfg = s.cfg) (i j : Nat) : t.obj i j = s.obj i j := by
  unfold State.obj; rw [hod, hcfg]

/-- The same, for states whose stores agree by definition. -/
theorem State.obj_same {t s : State} {i j : Nat} (hod : t.od = s.od := by rfl) (hcfg : t.cfg = s.cfg := by rfl) :
    t.obj i j = s.obj i j := State.obj_congr hod hcfg i j

/-- A 32-bit counter advanced by one. -/
theorem State.obj_bump_same (s : State) (i j : Nat) : (s.bump i j).obj i j = min (s.obj i j + 1) 0xFFFFFFFF := by
  rw [State.bump_eq, State.obj_setObj_same]; rfl

theorem State.obj_bump64_same (s : State) (i j n : Nat) : (s.bump64 i j n).obj i j = satU 64 (s.obj i j + n) := by
  rw [State.bump64_eq, State.obj_setObj_same]

/-- Keys of different addresses differ. -/
theorem okey_ne {i j a b : Nat} (hj : j < 256) (hb : b < 256) (h : i ≠ a ∨ j ≠ b) : okey i j ≠ okey a b := by
  unfold okey; omega

theorem lawServes_lt {i : Nat} (h : i < 160) : lawServes i < 160 := by
  unfold lawServes
  split_ifs <;> omega

/-- The objects that a default looks at: a region's class, a domain's attributes, a rail's share and its rated current. -/
def defaultReads (i j : Nat) : Bool :=
  (0x3010 ≤ i && i ≤ 0x304F && j == 1) || (0x3410 ≤ i && i ≤ 0x342F && j == 1) ||
    (0x2810 ≤ i && i < 0x28B0 && j == 4) || (0x2200 ≤ i && i < 0x22A0 && j == 5)

theorem specialDefault_tset (cfg : Config) (od : Tbl Nat) {a b : Nat} (v : Nat) (hb : b < 256)
    (h : defaultReads a b = false) (i j : Nat) :
    specialDefault cfg (tset od (okey a b) v) i j = specialDefault cfg od i j := by
  have hread : ∀ x y d, y < 256 → defaultReads x y = true →
      storedOr (tset od (okey a b) v) x y d = storedOr od x y d := fun x y d hy hx => by
    unfold storedOr
    rw [stored_tset _ _ _ _ _ _ (okey_ne hy hb ?_)]
    by_contra hc
    rw [not_or, not_not, not_not] at hc
    rw [hc.1, hc.2, h] at hx
    exact absurd hx (by decide)
  unfold specialDefault
  refine ite_congr rfl (fun _ => rfl) fun _ => ite_congr rfl (fun _ => rfl) fun _ => ite_congr rfl (fun _ => rfl) fun _ =>
    ite_congr rfl (fun _ => rfl) fun _ => ite_congr rfl (fun _ => rfl) fun _ => ite_congr rfl (fun _ => rfl) fun _ =>
    ite_congr rfl (fun _ => rfl) fun _ => ite_congr rfl (fun _ => rfl) fun _ => ite_congr rfl (fun hr => ?_) fun _ =>
    ite_congr rfl (fun hr => ?_) fun _ => ite_congr rfl (fun hr => ?_) fun _ => rfl
  · simp only [Bool.and_eq_true, decide_eq_true_eq] at hr
    rw [hread _ 1 _ (by decide) (by simp [defaultReads]; omega)]
  · simp only [Bool.and_eq_true, decide_eq_true_eq] at hr
    rw [hread _ 1 _ (by decide) (by simp [defaultReads]; omega)]
  · simp only [Bool.and_eq_true, decide_eq_true_eq] at hr
    have hs := lawServes_lt (i := i - 0x4100) (by omega)
    have hshare : ∀ d, storedOr (tset od (okey a b) v) (0x2810 + lawServes (i - 0x4100)) 4 d =
        storedOr od (0x2810 + lawServes (i - 0x4100)) 4 d := fun d => hread _ 4 d (by decide) (by simp [defaultReads]; omega)
    have hrail : ∀ d, storedOr (tset od (okey a b) v) (0x2200 + lawServes (i - 0x4100)) 5 d =
        storedOr od (0x2200 + lawServes (i - 0x4100)) 5 d := fun d => hread _ 5 d (by decide) (by simp [defaultReads]; omega)
    simp only [lawCoefficient, lawTarget, lawFollowing, hshare, hrail]

/-- A write of an object that no default looks at is seen at that object alone. -/
theorem State.obj_setObj_other (s : State) {i j a b : Nat} (v : Nat) (hj : j < 256) (hb : b < 256)
    (h : defaultReads a b = false) (hne : i ≠ a ∨ j ≠ b) : (s.setObj a b v).obj i j = s.obj i j := by
  unfold State.obj State.setObj
  rw [stored_tset _ _ _ _ _ _ (okey_ne hj hb hne), specialDefault_tset _ _ _ hb h]

/-- A counter from 0x5000 on is no other object. -/
theorem State.obj_bump_counter (s : State) {i j a b : Nat} (ha : 0x5000 ≤ a) (hj : j < 256) (hb : b < 256)
    (h : i ≠ a ∨ j ≠ b) : (s.bump a b).obj i j = s.obj i j :=
  s.obj_setObj_other _ hj hb (by simp [defaultReads]; omega) h

theorem State.obj_bumpBy_other (s : State) {i j a b : Nat} (n : Nat) (hi : 0x5000 ≤ i) (hj : j < 256) (hb : b < 256)
    (h : i ≠ a ∨ j ≠ b) : (s.bumpBy a b n).obj i j = s.obj i j :=
  obj_setObj_high s i j a b _ hi (okey_ne hj hb h)

theorem State.obj_bump_other (s : State) {i j a b : Nat} (hi : 0x5000 ≤ i) (hj : j < 256) (hb : b < 256)
    (h : i ≠ a ∨ j ≠ b) : (s.bump a b).obj i j = s.obj i j :=
  s.obj_bumpBy_other 1 hi hj hb h

theorem State.obj_bump64_other (s : State) {i j a b : Nat} (n : Nat) (hi : 0x5000 ≤ i) (hj : j < 256) (hb : b < 256)
    (h : i ≠ a ∨ j ≠ b) : (s.bump64 a b n).obj i j = s.obj i j :=
  obj_setObj_high s i j a b _ hi (okey_ne hj hb h)

theorem State.obj_enqueueGroup (s : State) {i j : Nat} (g : List (Nat × Nat × Nat)) (vit : Bool) (hi : 0x5000 ≤ i)
    (hj : j < 256) (h : i ≠ 0x5400 ∨ j ≠ 4) : (s.enqueueGroup g vit).obj i j = s.obj i j := by
  unfold State.enqueueGroup
  dsimp only
  split
  · exact State.obj_congr rfl rfl i j
  · rw [State.obj_bumpBy_other _ _ hi hj (by decide) h]; exact State.obj_congr rfl rfl i j

theorem State.setPending_od (s : State) (n : Nat) : (s.setPending n).od = s.od := by
  unfold State.setPending; split <;> rfl

theorem State.obj_signal (s : State) {i j : Nat} (n : Nat) (hi : 0x5000 ≤ i) (hj : j < 256) (h : i ≠ 0x7480 ∨ j ≠ 1) :
    (s.signal n).obj i j = s.obj i j := by
  unfold State.signal
  split
  · rfl
  · split
    · split <;> rfl
    · rw [State.obj_congr (State.setPending_od _ n) (by simp) i j, State.obj_bump64_other _ _ hi hj (by decide) h]

/-! ### What a pin's latch or escalation does -/

/-- The effective level that a trigger gives a pin: the programmed one at a latch, one up within its limit at an escalation
(12 R296, R298). -/
def State.arriveEff (s : State) (n : Nat) : Nat :=
  if (s.pin n).latched then max (s.pin n).eff (min ((s.pin n).eff + 1) (s.obj (0x5010 + n) 3)) else s.obj (0x5010 + n) 2

/-- The pin after a trigger. -/
def State.arrivePin (s : State) (n kind idx : Nat) : Pin :=
  { s.pin n with
    latched := true
    eff := s.arriveEff n
    scope := if (s.pin n).latched then (s.pin n).scope ||| maskOf (s.scopeRails kind idx) else maskOf (s.scopeRails kind idx) }

/-- What a latch or escalation counts: the pin's own counter, 09 for an escalation and 07 for a latch, and the total. -/
def State.arriveCount (s : State) (n : Nat) : State :=
  if (s.pin n).latched then (s.bump (0x5010 + n) 9).bump 0x5000 6 else (s.bump (0x5010 + n) 7).bump 0x5000 5

/-- The state once the pin has latched and the latch is counted, recorded and signalled. -/
def State.arrived (s : State) (n kind idx cause pa : Nat) : State :=
  let p := s.pin n
  let eff := s.arriveEff n
  let s2 := (s.arriveCount n).setPin n (s.arrivePin n kind idx)
  let s3 := s2.record (if p.latched then 0x0140 + n else 0x0100 + n) pa
    (pinPb eff (s.obj (0x5010 + n) 2) kind idx cause (s2.obj (0x5010 + n) 0x0B)) (3 ≤ eff || s.flag (0x5010 + n) 4)
  if 1 ≤ eff then s3.signal (0x040 + n) else s3

/-- The Muriri event of a latch or escalation at WARN or above, and the events its overflow brings (15 R375, R376). -/
def State.arriveEvent (s t : State) (n : Nat) : State × List Work :=
  if 1 ≤ s.arriveEff n then t.queueEvent s.recorder.nextSeq (s.arriveEff n) n else (t, [])

theorem State.bump_setPin (s : State) (n : Nat) (v : Pin) (i j : Nat) :
    (s.setPin n v).bump i j = (s.bump i j).setPin n v := rfl

theorem State.arrive_eq (s : State) (n kind idx cause pa : Nat) : s.arrive n kind idx cause pa =
    (((s.arriveEvent (s.arrived n kind idx cause pa) n).1.serviceFault (s.arriveEff n)),
      (s.arrived n kind idx cause pa).levelWork n (s.arriveEff n) ++
        (s.arriveEvent (s.arrived n kind idx cause pa) n).2) := by
  have hcount : (if (s.pin n).latched then
        ((s.setPin n (s.arrivePin n kind idx)).bump (0x5010 + n) 9).bump 0x5000 6
      else ((s.setPin n (s.arrivePin n kind idx)).bump (0x5010 + n) 7).bump 0x5000 5) =
      (s.arriveCount n).setPin n (s.arrivePin n kind idx) := by
    unfold State.arriveCount
    split <;> simp only [State.bump_setPin]
  unfold State.arriveEvent State.arrived
  rw [← hcount]
  rfl

theorem State.arrived_noted (s : State) (n kind idx cause pa : Nat) : Noted (s.arrived n kind idx cause pa) s := by
  unfold State.arrived
  extract_lets p eff s2 s3
  have h1 : Noted (s.arriveCount n) s := by unfold State.arriveCount; split <;> rfl
  have h2 : Noted s2 (s.arriveCount n) := rfl
  have h3 : Noted s3 s2 := State.enqueueGroup_noted _ _ _
  have h : Noted s3 s := h3.trans (h2.trans h1)
  split
  · exact (State.signal_noted _ _).trans h
  · exact h

theorem State.arriveCount_pins (s : State) (n : Nat) : (s.arriveCount n).pins = s.pins := by
  unfold State.arriveCount; split <;> rfl

theorem State.arriveCount_events (s : State) (n : Nat) : (s.arriveCount n).events = s.events := by
  unfold State.arriveCount; split <;> rfl

theorem State.arriveCount_recorder (s : State) (n : Nat) : (s.arriveCount n).recorder = s.recorder := by
  unfold State.arriveCount; split <;> rfl

theorem State.arrived_pins (s : State) (n kind idx cause pa : Nat) :
    (s.arrived n kind idx cause pa).pins = tset s.pins n (s.arrivePin n kind idx) := by
  simp only [State.arrived, itez_pins, State.signal_marks, State.record_marks, ite_self]
  rw [← s.arriveCount_pins n]; rfl

theorem State.arrived_pin (s : State) (n kind idx cause pa m : Nat) :
    (s.arrived n kind idx cause pa).pin m = if m = n then s.arrivePin n kind idx else s.pin m := by
  unfold State.pin
  rw [State.arrived_pins, tget_tset]

theorem State.arrived_events (s : State) (n kind idx cause pa : Nat) :
    (s.arrived n kind idx cause pa).events = s.events := by
  simp only [State.arrived, itez_events, State.signal_marks, State.record_marks, ite_self]
  exact s.arriveCount_events n

theorem State.signal_recorder (s : State) (n : Nat) : (s.signal n).recorder = s.recorder := by
  unfold State.signal State.setPending
  repeat' split
  all_goals rfl

theorem State.record_nextSeq (s : State) (a b c : Nat) (d : Bool) :
    (s.record a b c d).recorder.nextSeq = s.recorder.nextSeq + 1 := by
  unfold State.record State.enqueueGroup; dsimp only; split <;> rfl

theorem State.arrived_nextSeq (s : State) (n kind idx cause pa : Nat) :
    (s.arrived n kind idx cause pa).recorder.nextSeq = s.recorder.nextSeq + 1 := by
  unfold State.arrived
  extract_lets p eff s2 s3
  have h3 : s3.recorder.nextSeq = s.recorder.nextSeq + 1 := by
    rw [State.record_nextSeq, ← s.arriveCount_recorder n]; rfl
  split
  · rw [State.signal_recorder, h3]
  · exact h3

theorem State.setPin_obj (s : State) (n : Nat) (v : Pin) (i j : Nat) : (s.setPin n v).obj i j = s.obj i j := rfl

theorem State.queueEvent_free {s : State} (h : s.events.length < 64) (a b c : Nat) :
    s.queueEvent a b c = ({ s with events := s.events ++ [{ seq := a, level := b, pin := c }] }, []) := by
  unfold State.queueEvent
  simp only [show ¬ 64 ≤ s.events.length by omega, decide_false, Bool.false_eq_true, if_false]

theorem State.serviceFault_low {s : State} {eff : Nat} (h : eff < 3) : s.serviceFault eff = s := by
  unfold State.serviceFault
  rw [if_neg]
  simp only [Bool.and_eq_true, decide_eq_true_eq]
  omega

theorem State.serviceFault_out {s : State} {eff : Nat} (h : s.gov.st ≠ .service) : s.serviceFault eff = s := by
  unfold State.serviceFault
  rw [if_neg]
  simp [h]

theorem State.levelWork_low (s : State) (n : Nat) {eff : Nat} (h : eff < 3) : s.levelWork n eff = [] := by
  unfold State.levelWork
  rw [if_neg (by omega), if_neg (by omega)]

/-- With room in the event queue a latch or escalation below SAFE level asks for nothing more, and queues at most one event. -/
theorem State.arrive_low (s : State) (n kind idx cause pa : Nat) (h : s.arriveEff n < 3) (he : s.events.length < 64) :
    ∃ es, s.arrive n kind idx cause pa = ({ s.arrived n kind idx cause pa with events := es }, []) := by
  rw [State.arrive_eq, State.serviceFault_low h, State.levelWork_low _ _ h]
  unfold State.arriveEvent
  split
  · rw [State.queueEvent_free (by rw [State.arrived_events]; exact he)]; exact ⟨_, rfl⟩
  · exact ⟨_, rfl⟩

/-! ### The counters of a latch or escalation -/

theorem State.obj_arrived (s : State) (n kind idx cause pa : Nat) {i j : Nat} (hi : 0x5000 ≤ i) (hj : j < 256)
    (h54 : i ≠ 0x5400 ∨ j ≠ 4) (h74 : i ≠ 0x7480 ∨ j ≠ 1) :
    (s.arrived n kind idx cause pa).obj i j = (s.arriveCount n).obj i j := by
  unfold State.arrived
  extract_lets p eff s2 s3
  have h3 : s3.obj i j = s2.obj i j := State.obj_enqueueGroup _ _ _ hi hj h54
  have h2 : s2.obj i j = (s.arriveCount n).obj i j := rfl
  rw [← h2, ← h3]
  split
  · exact State.obj_signal _ _ hi hj h74
  · rfl

theorem State.obj_arrived_other (s : State) (n kind idx cause pa : Nat) {j : Nat} (hn : n < 64) (hj : j < 256)
    (h7 : j ≠ 7) (h9 : j ≠ 9) : (s.arrived n kind idx cause pa).obj (0x5010 + n) j = s.obj (0x5010 + n) j := by
  rw [State.obj_arrived _ _ _ _ _ _ (by omega) hj (by omega) (by omega)]
  unfold State.arriveCount
  split <;>
    rw [State.obj_bump_other _ (by omega) hj (by decide) (by omega), State.obj_bump_other _ (by omega) hj (by decide) (by omega)]

theorem State.obj_arrived_escalations (s : State) (n kind idx cause pa : Nat) (hn : n < 64) (hl : (s.pin n).latched = true) :
    (s.arrived n kind idx cause pa).obj (0x5010 + n) 9 = min (s.obj (0x5010 + n) 9 + 1) 0xFFFFFFFF := by
  rw [State.obj_arrived _ _ _ _ _ _ (by omega) (by decide) (by omega) (by omega)]
  unfold State.arriveCount
  rw [if_pos hl, State.obj_bump_other _ (by omega) (by decide) (by decide) (by omega), State.obj_bump_same]


/-! ### Triggers latched together, and the pins of class D (12 R295, R303) -/

/-- Pins that nothing triggers are passed over. -/
theorem State.foldPins_untriggered (ts : List HeldTrigger) (l : List Nat) (h : ∀ n ∈ l, ts.filter (·.pin == n) = [])
    (q : State × List Work) :
    l.foldl (fun (q : State × List Work) n =>
      let r := q.1.latchPin (ts.filter (·.pin == n))
      (r.1, q.2 ++ r.2)) q = q := by
  induction l generalizing q with
  | nil => rfl
  | cons n l ih =>
    rw [List.foldl_cons, h n (by simp), ih (fun m hm => h m (by simp [hm]))]
    show (q.1, q.2 ++ []) = q
    rw [List.append_nil]

theorem State.latchAll_nil (s : State) : s.latchAll [] = s := by
  unfold State.latchAll
  rw [State.foldPins_untriggered [] _ (fun n _ => rfl)]
  exact State.work_nil _ _

/-- One trigger of a cycle latches its pin, and what it asks for follows, TRIP first. -/
theorem State.latchAll_one (s : State) (t : HeldTrigger) (h : t.pin < 64) : s.latchAll [t] =
    (s.latchPin [t]).1.work workFuel
      ((s.latchPin [t]).2.filter Work.trips ++ (s.latchPin [t]).2.filter (fun w => !w.trips)) := by
  obtain ⟨a, b, hab⟩ := List.append_of_mem (List.mem_range.mpr h)
  have hnodup : (a ++ t.pin :: b).Nodup := hab ▸ List.nodup_range
  have hother : ∀ n, n ≠ t.pin → [t].filter (·.pin == n) = [] := fun n hn => by simp [hn.symm]
  have ha : ∀ n ∈ a, [t].filter (·.pin == n) = [] := fun n hn =>
    hother n fun e => (List.nodup_append.mp hnodup).2.2 n hn t.pin (by simp) e
  have hb : ∀ n ∈ b, [t].filter (·.pin == n) = [] := fun n hn =>
    hother n fun e => (List.nodup_cons.mp (List.nodup_append.mp hnodup).2.1).1 (e ▸ hn)
  unfold State.latchAll
  rw [hab, List.foldl_append, State.foldPins_untriggered _ a ha, List.foldl_cons, State.foldPins_untriggered _ b hb]
  simp

theorem State.raise_nil (s : State) : s.raise [] = s := by
  unfold State.raise
  split
  · next l hl => rw [List.append_nil, ← hl]
  · exact s.latchAll_nil

theorem State.dEvent_reached {s : State} {n : Nat} (h : s.pinReached n = true) :
    s.dEvent n = (s.dEvents n 1).1.raise (s.dEvents n 1).2 := by
  unfold State.dEvent State.dEventsNow
  rw [h]; rfl

/-- Whether the counting window of a pin is open (12 R295). -/
def State.dOpen (s : State) (n : Nat) : Bool := (s.pin n).count != 0 && s.tb.now ≤ (s.pin n).winEnd

/-- The count that one more event brings. -/
def State.dCount (s : State) (n : Nat) : Nat := (if s.dOpen n then (s.pin n).count else 0) + 1

/-- The trigger of a D-class pin whose events have reached its count. -/
def State.dTrigger (s : State) (n : Nat) : HeldTrigger :=
  { pin := n, kind := 4, idx := 0, cause := 0,
    pa := max 1 (s.obj (0x5010 + n) 5) % 2 ^ 32 * 2 ^ 32 + s.obj (0x5010 + n) 6 / 1000 % 2 ^ 32 }

/-- A pin with its events counted. -/
def State.dCounted (s : State) (n count winEnd : Nat) : State :=
  (s.bump (0x5010 + n) 0x0B).setPin n { s.pin n with count := count, winEnd := winEnd }

theorem State.dEvents_below {s : State} {n : Nat} (h : s.dCount n < max 1 (s.obj (0x5010 + n) 5)) : s.dEvents n 1 =
    (s.dCounted n (s.dCount n) (if s.dOpen n then (s.pin n).winEnd else s.tb.now + cycles (s.obj (0x5010 + n) 6)), []) := by
  have e : s.dEvents n 1 = (s.dCounted n (s.dCount n % max 1 (s.obj (0x5010 + n) 5))
      (if s.dOpen n && s.dCount n < max 1 (s.obj (0x5010 + n) 5) then (s.pin n).winEnd
        else s.tb.now + cycles (s.obj (0x5010 + n) 6)),
      if s.dCount n < max 1 (s.obj (0x5010 + n) 5) then [] else [s.dTrigger n]) := rfl
  rw [e, Nat.mod_eq_of_lt h, if_pos h]
  simp only [h, decide_true, Bool.and_true]

theorem State.dEvents_reached {s : State} {n : Nat} (h : s.dCount n = max 1 (s.obj (0x5010 + n) 5)) : s.dEvents n 1 =
    (s.dCounted n 0 (s.tb.now + cycles (s.obj (0x5010 + n) 6)), [s.dTrigger n]) := by
  have e : s.dEvents n 1 = (s.dCounted n (s.dCount n % max 1 (s.obj (0x5010 + n) 5))
      (if s.dOpen n && s.dCount n < max 1 (s.obj (0x5010 + n) 5) then (s.pin n).winEnd
        else s.tb.now + cycles (s.obj (0x5010 + n) 6)),
      if s.dCount n < max 1 (s.obj (0x5010 + n) 5) then [] else [s.dTrigger n]) := rfl
  rw [e, h, Nat.mod_self, if_neg (Nat.lt_irrefl _)]
  simp only [Nat.lt_irrefl, decide_false, Bool.and_false, Bool.false_eq_true, if_false]

theorem execDClassEvent_reached {s : State} {n : Nat} (hn : n < 64) (hd : pinIsD n = true) (hr : s.pinReached n = true) :
    exec (.dClassEvent n) s = .next ((s.dEvents n 1).1.raise (s.dEvents n 1).2) := by
  show execDClassEvent n s = _
  rw [execDClassEvent, if_pos (by simp [hn, hd]), State.dEvent_reached hr]

/-- The trigger of one pin alone in its cycle, GCLK running, the pin calm: it latches and asks for nothing more. -/
theorem State.latchPin_calm {s : State} {h : HeldTrigger} (hr : s.pinReached h.pin = true) (hk : h.kind = 4)
    (hc : s.calm h.pin) : ∃ t, s.latchPin [h] = (t, []) ∧ Noted t s ∧ (∀ m, m ≠ h.pin → t.pin m = s.pin m) ∧
      (t.pin h.pin).latched = true ∧ (t.pin h.pin).count = (s.pin h.pin).count ∧
        (t.pin h.pin).eff = s.obj (0x5010 + h.pin) 2 := by
  obtain ⟨hg, -, hn, hl, hp, he⟩ := hc
  let s1 := s.bumpBy (0x5010 + h.pin) 0x0B 0
  have hl1 : ¬ (s1.pin h.pin).latched = true := by rw [show (s1.pin h.pin).latched = false from hl]; decide
  have hobj : s1.obj (0x5010 + h.pin) 2 = s.obj (0x5010 + h.pin) 2 :=
    State.obj_bumpBy_other s 0 (by omega) (by decide) (by decide) (by omega)
  have heff : s1.arriveEff h.pin = s.obj (0x5010 + h.pin) 2 := by rw [← hobj]; exact if_neg hl1
  obtain ⟨es, hes⟩ := State.arrive_low s1 h.pin 0 0 h.cause h.pa (by omega) he
  have hwork : s1.doWork h.work = s1.arrive h.pin 0 0 h.cause h.pa := by
    show (if !s1.pinReached h.pin then _ else if !s1.tb.gclk then _ else if h.kind = 4 then _ else _) = _
    rw [if_neg (by rw [show s1.pinReached h.pin = true from hr]; decide), if_neg (by rw [show s1.tb.gclk = true from hg]; decide),
      if_pos hk]
  let u : State := { s1.arrived h.pin 0 0 h.cause h.pa with events := es }
  have hpin : ∀ m, u.pin m = if m = h.pin then s1.arrivePin h.pin 0 0 else s.pin m := s1.arrived_pin h.pin 0 0 h.cause h.pa
  have hself : u.pin h.pin = s1.arrivePin h.pin 0 0 := by rw [hpin, if_pos rfl]
  have hmask : s.latchPin [h] =
      (u.setPin h.pin { s1.arrivePin h.pin 0 0 with scope := (s1.arrivePin h.pin 0 0).scope ||| 0 }, []) := by
    refine (if_pos hr).trans ?_
    show (((s1.doWork h.work).1.modPin h.pin _), (s1.doWork h.work).2) = _
    rw [hwork, hes, State.modPin_eq]
    show (u.setPin h.pin (if (u.pin h.pin).latched then _ else u.pin h.pin), _) = _
    rw [hself]
    rfl
  refine ⟨_, hmask, ?_, fun m hm => ?_, ?_⟩
  · have hu : Noted u s1 := Noted.trans rfl (s1.arrived_noted h.pin 0 0 h.cause h.pa)
    exact Noted.trans (b := u) rfl (hu.trans rfl)
  · rw [State.pin_setPin, if_neg hm, hpin, if_neg hm]
  · rw [State.pin_setPin, if_pos rfl]
    exact ⟨rfl, rfl, heff⟩

/-- The trigger of a counted D-class pin that stands calm. -/
theorem State.raise_dTrigger {s : State} {n w : Nat} (hr : s.pinReached n = true) (hc : s.calm n) :
    ∃ t, (s.dCounted n 0 w).raise [s.dTrigger n] = t ∧ Noted t s ∧ (∀ m, m ≠ n → t.pin m = s.pin m) ∧
      (t.pin n).latched = true ∧ (t.pin n).count = 0 ∧ (t.pin n).eff = s.obj (0x5010 + n) 2 := by
  obtain ⟨hg, ha, hn, hl, hp, he⟩ := hc
  have hobj : (s.dCounted n 0 w).obj (0x5010 + n) 2 = s.obj (0x5010 + n) 2 :=
    State.obj_bump_other s (by omega) (by decide) (by decide) (by omega)
  have hown : ∀ m, (s.dCounted n 0 w).pin m = if m = n then { s.pin n with count := 0, winEnd := w } else s.pin m :=
    fun m => State.pin_setPin ..
  obtain ⟨t, ht, hnoted, hother, hpin⟩ := State.latchPin_calm (s := s.dCounted n 0 w) (h := s.dTrigger n) hr rfl
    ⟨hg, ha, hn, by rw [show (s.dTrigger n).pin = n from rfl, hown, if_pos rfl]; exact hl, by
      show (s.dCounted n 0 w).obj (0x5010 + n) 2 < 3
      omega, he⟩
  refine ⟨t, ?_, hnoted.trans rfl, fun m hm => ?_, ?_⟩
  · unfold State.raise
    rw [show (s.dCounted n 0 w).gov.gathered = none from ha]
    show (s.dCounted n 0 w).latchAll [s.dTrigger n] = t
    rw [State.latchAll_one _ _ hn, ht]
    exact State.work_nil _ _
  · rw [hother m hm, hown, if_neg hm]
  · obtain ⟨hlatched, hcount, heff⟩ := hpin
    refine ⟨hlatched, ?_, heff.trans hobj⟩
    rw [show (t.pin n).count = ((s.dCounted n 0 w).pin n).count from hcount, hown, if_pos rfl]

/-- Settles O41, by the cases of the counting window: below the count an event only counts; the one that reaches it is a
trigger of its pin like any other. -/
theorem dClassPins : Obligations.DClassPins := by
  unfold Obligations.DClassPins
  refine ⟨fun n s hn hd hr hc hw hlt => ?_, fun n s hn hd hr hc hlt => ?_, fun n s hd hr hcalm hc hw hN => ?_,
    fun n s hn hc => ?_, fun n s hr => ?_, fun n s hr => ⟨?_, ?_⟩, fun n s hd => ?_, fun n s hc => ?_⟩
  · have ho : s.dOpen n = true := by simp [State.dOpen, hc, hw]
    have hcount : s.dCount n = (s.pin n).count + 1 := by simp [State.dCount, ho]
    refine ⟨_, execDClassEvent_reached hn hd hr, ?_⟩
    rw [State.dEvents_below (by omega), State.raise_nil, ho, hcount]
    exact ⟨rfl, State.obj_bump_same s _ _, rfl⟩
  · have ho : s.dOpen n = false := by
      simp only [State.dOpen, Bool.and_eq_false_iff, bne_eq_false_iff_eq, decide_eq_false_iff_not]
      omega
    have hcount : s.dCount n = 1 := by simp [State.dCount, ho]
    refine ⟨_, execDClassEvent_reached hn hd hr, ?_⟩
    rw [State.dEvents_below (by omega), State.raise_nil, ho, hcount]
    exact ⟨rfl, rfl⟩
  · have ho : s.dOpen n = true := by simp [State.dOpen, hc, hw]
    have hcount : s.dCount n = (s.pin n).count + 1 := by simp [State.dCount, ho]
    obtain ⟨t, ht, hnoted, hother, hl, hzero, heff⟩ :=
      State.raise_dTrigger (w := s.tb.now + cycles (s.obj (0x5010 + n) 6)) hr hcalm
    refine ⟨t, ?_, hl, hzero, heff, hother, hnoted⟩
    rw [execDClassEvent_reached hcalm.2.2.1 hd hr, State.dEvents_reached (by omega), ← ht]
  · show execDClassWindowExpiry n s = _
    rw [execDClassWindowExpiry, if_pos (by simp [hn, hc])]
    rfl
  · refine ⟨_, rfl, ?_⟩
    unfold State.transient
    rw [if_pos hr]
    refine ⟨?_, ?_, rfl⟩
    · rw [State.obj_bump_other _ (by omega) (by decide) (by decide) (by omega), State.obj_bump_same]
    · rw [State.obj_bump_same, State.obj_bump_other _ (by omega) (by decide) (by decide) (by omega)]
  · show Host.Outcome.next (s.transient n) = _
    rw [State.transient, if_neg (by simp [hr])]
  · show execDClassEvent n s = _
    unfold execDClassEvent State.dEvent State.dEventsNow
    simp [hr]
  · show execDClassEvent n s = _
    simp [execDClassEvent, hd]
  · show execDClassWindowExpiry n s = _
    simp [execDClassWindowExpiry, hc]


/-! ### FAULT_TRIGGER: a trigger of an E-class pin at every level (12 R294 to R298, 10 R261, R262) -/

/-- A trigger that reaches the Registrar while GCLK runs. -/
theorem State.doWork_trigger {s : State} {n k i c pa : Nat} (hr : s.pinReached n = true) (hc : s.tb.gclk = true) :
    s.doWork (.trigger n k i c pa) =
      if k = 4 then s.arrive n 0 0 c pa else (s.bump (0x5010 + n) 0x0B).arrive n k i c pa := by
  show (if !s.pinReached n then _ else if !s.tb.gclk then _ else if k = 4 then _ else _) = _
  rw [if_neg (by rw [hr]; decide), if_neg (by rw [hc]; decide)]

/-- A trigger that arrives at once: it is counted, and what the latch or escalation asks for follows. -/
theorem State.trigger_arrives {s : State} {n k : Nat} (i c pa : Nat) (hk : k < 4) (hr : s.pinReached n = true)
    (hg : s.gov.gathered = none) (hc : s.tb.gclk = true) : s.trigger n k i c pa =
      ((s.bump (0x5010 + n) 0x0B).arrive n k i c pa).1.work 4999 ((s.bump (0x5010 + n) 0x0B).arrive n k i c pa).2 := by
  have hdo : s.doWork (.trigger n k i c pa) = (s.bump (0x5010 + n) 0x0B).arrive n k i c pa := by
    rw [State.doWork_trigger hr hc, if_neg (by omega)]
  unfold State.trigger
  rw [hg]
  show State.work (4999 + 1) _ s = _
  rw [State.work, hdo, List.append_nil]

theorem execFaultTrigger_reached {s : State} {n k : Nat} (i c : Nat) (pa : W64) (hd : pinIsD n = false) (hk : k < 4)
    (hr : s.pinReached n = true) : exec (.faultTrigger n k i c pa) s = .next (s.trigger n k i c pa.toNat) := by
  have hn : n < 64 := by
    unfold State.pinReached at hr
    simp only [Bool.and_eq_true, decide_eq_true_eq] at hr
    exact hr.1.1
  show execFaultTrigger n k i c pa s = _
  rw [execFaultTrigger, if_pos (by simp [hn, hd, hk])]

theorem State.scopeRails_congr {t s : State} (hcfg : t.cfg = s.cfg) (hdesc : t.desc = s.desc)
    (hobj : ∀ d, t.obj (0x2410 + d) 1 = s.obj (0x2410 + d) 1) (k i : Nat) : t.scopeRails k i = s.scopeRails k i := by
  have hused : t.railsUsed = s.railsUsed := by
    unfold State.railsUsed State.railUsed State.railCount
    rw [hcfg, hdesc]
  have hone : t.railUsed = s.railUsed := by
    funext r
    unfold State.railUsed State.railCount
    rw [hcfg, hdesc]
  unfold State.scopeRails State.droopRail
  rw [hused, hone, hdesc, hobj]

/-- A trigger below SAFE level, with room in the event queue: the pin, its counters, one record. -/
theorem State.trigger_low {s : State} {n k : Nat} (i c pa : Nat) (hn : n < 64) (hk : k < 4) (hr : s.pinReached n = true)
    (hg : s.gov.gathered = none) (hc : s.tb.gclk = true) (he : s.events.length < 64) (hlow : s.arriveEff n < 3) :
    (s.trigger n k i c pa).pin n = s.arrivePin n k i ∧ (∀ m, m ≠ n → (s.trigger n k i c pa).pin m = s.pin m) ∧
      (s.trigger n k i c pa).obj (0x5010 + n) 0x0B = min (s.obj (0x5010 + n) 0x0B + 1) 0xFFFFFFFF ∧
      ((s.pin n).latched = true →
        (s.trigger n k i c pa).obj (0x5010 + n) 9 = min (s.obj (0x5010 + n) 9 + 1) 0xFFFFFFFF) ∧
      (s.trigger n k i c pa).recorder.nextSeq = s.recorder.nextSeq + 1 ∧ Noted (s.trigger n k i c pa) s := by
  have hobj : ∀ j, j < 256 → j ≠ 0x0B → (s.bump (0x5010 + n) 0x0B).obj (0x5010 + n) j = s.obj (0x5010 + n) j :=
    fun j hj hne => State.obj_bump_other s (by omega) hj (by decide) (Or.inr hne)
  have heff : (s.bump (0x5010 + n) 0x0B).arriveEff n = s.arriveEff n := by
    unfold State.arriveEff
    rw [hobj 3 (by decide) (by decide), hobj 2 (by decide) (by decide)]
    rfl
  have hscope : ∀ d, (s.bump (0x5010 + n) 0x0B).obj (0x2410 + d) 1 = s.obj (0x2410 + d) 1 := fun d =>
    State.obj_bump_counter s (a := 0x5010 + n) (by omega) (by decide) (by decide) (Or.inr (by decide))
  have hpin : (s.bump (0x5010 + n) 0x0B).arrivePin n k i = s.arrivePin n k i := by
    unfold State.arrivePin
    rw [heff, State.scopeRails_congr (t := s.bump (0x5010 + n) 0x0B) (s := s) rfl rfl hscope]
    rfl
  obtain ⟨es, hes⟩ := (s.bump (0x5010 + n) 0x0B).arrive_low n k i c pa (by omega) he
  rw [State.trigger_arrives i c pa hk hr hg hc, hes, State.work_nil]
  refine ⟨?_, fun m hm => ?_, ?_, fun hl => ?_, ?_, ?_⟩
  · exact ((s.bump (0x5010 + n) 0x0B).arrived_pin n k i c pa n).trans ((if_pos rfl).trans hpin)
  · exact ((s.bump (0x5010 + n) 0x0B).arrived_pin n k i c pa m).trans (if_neg hm)
  · exact ((s.bump (0x5010 + n) 0x0B).obj_arrived_other n k i c pa hn (by decide) (by decide) (by decide)).trans
      (s.obj_bump_same _ _)
  · refine ((s.bump (0x5010 + n) 0x0B).obj_arrived_escalations n k i c pa hn hl).trans ?_
    rw [hobj 9 (by decide) (by decide)]
  · exact (s.bump (0x5010 + n) 0x0B).arrived_nextSeq n k i c pa
  · have h := (s.bump (0x5010 + n) 0x0B).arrived_noted n k i c pa
    exact Noted.trans (b := (s.bump (0x5010 + n) 0x0B).arrived n k i c pa) rfl (h.trans rfl)

/-! ### What SAFE and TRIP leave of the Governor's registers, the lanes and the latches -/

/-- The Governor's registers, the lanes, and of each pin the latch and the effective level stay. -/
@[simp] abbrev Rests (t s : State) : Prop :=
  t.gov = s.gov ∧ t.lanes = s.lanes ∧ ∀ m, (t.pin m).latched = (s.pin m).latched ∧ (t.pin m).eff = (s.pin m).eff

theorem Rests.trans {a b c : State} (h : Rests a b) (g : Rests b c) : Rests a c :=
  ⟨h.1.trans g.1, h.2.1.trans g.2.1, fun m => ⟨(h.2.2 m).1.trans (g.2.2 m).1, (h.2.2 m).2.trans (g.2.2 m).2⟩⟩

theorem Rests.refl (s : State) : Rests s s := ⟨rfl, rfl, fun _ => ⟨rfl, rfl⟩⟩

theorem Rests.of_pins {t s : State} (hg : t.gov = s.gov) (hl : t.lanes = s.lanes) (hp : t.pins = s.pins) : Rests t s :=
  ⟨hg, hl, fun m => by unfold State.pin; rw [hp]; exact ⟨rfl, rfl⟩⟩

theorem Rests.ite {c : Prop} [Decidable c] {a b s : State} (ha : Rests a s) (hb : Rests b s) :
    Rests (if c then a else b) s := by split <;> assumption

theorem Rests.each {α : Type} {f : State → α → State} (h : ∀ s x, Rests (f s x) s) (l : List α) (s : State) :
    Rests (each l f s) s :=
  each_carries (fun t => Rests t s) (fun t x ht => (h t x).trans ht) l s (Rests.refl s)

theorem State.signal_rests (s : State) (n : Nat) : Rests (s.signal n) s := by
  unfold State.signal State.setPending
  repeat' split
  all_goals exact Rests.of_pins rfl rfl rfl

theorem State.enqueueGroup_rests (s : State) (g : List (Nat × Nat × Nat)) (v : Bool) : Rests (s.enqueueGroup g v) s := by
  unfold State.enqueueGroup
  dsimp only
  split <;> exact Rests.of_pins rfl rfl rfl

theorem State.dropCause_rests (s : State) (n k i : Nat) : Rests (s.dropCause n k i) s := by
  refine ⟨rfl, rfl, fun m => ?_⟩
  unfold State.dropCause
  rw [State.modPin_eq, State.pin_setPin]
  split
  · next h => rw [h]; exact ⟨rfl, rfl⟩
  · exact ⟨rfl, rfl⟩

theorem State.endInjection_rests (s : State) (st : Nat) : Rests (s.endInjection st) s := by
  unfold State.endInjection
  exact Rests.ite ((State.signal_rests _ _).trans (Rests.of_pins rfl rfl rfl)) (Rests.of_pins rfl rfl rfl)

theorem State.stopRun_rests (s : State) : Rests s.stopRun s := by
  unfold State.stopRun
  refine Rests.ite ?_ (Rests.of_pins rfl rfl rfl)
  exact Rests.ite (Rests.of_pins rfl rfl rfl) ((State.signal_rests _ _).trans (Rests.of_pins rfl rfl rfl))

theorem State.abortSweep_rests (s : State) : Rests s.abortSweep s := by
  unfold State.abortSweep
  refine Rests.ite ?_ (Rests.of_pins rfl rfl rfl)
  refine (State.signal_rests _ _).trans (Rests.trans (Rests.of_pins rfl rfl rfl) ?_)
  exact Rests.ite s.stopRun_rests (Rests.of_pins rfl rfl rfl)

theorem State.abortService_rests (s : State) : Rests s.abortService s :=
  (State.stopRun_rests _).trans ((State.abortSweep_rests _).trans (State.endInjection_rests _ _))

theorem State.avsZero_rests (s : State) : Rests s.avsZero s := by
  refine Rests.each (fun t r => ?_) s.railsUsed s
  exact Rests.of_pins rfl rfl rfl

theorem State.abortSheds_rests (s : State) : Rests s.abortSheds s := by
  refine Rests.each (fun t r => ?_) _ s
  unfold State.abortShed
  exact Rests.ite (Rests.of_pins rfl rfl rfl) (Rests.of_pins rfl rfl rfl)

theorem State.unlearnAll_rests (s : State) (b : Nat) : Rests (s.unlearnAll b) s := by
  refine Rests.each (fun t r => ?_) s.railsUsed s
  exact Rests.of_pins rfl rfl rfl

theorem State.railOff_rests (s : State) (r : Nat) : Rests (s.railOff r) s := by
  unfold State.railOff
  exact Rests.ite ((State.dropCause_rests _ _ _ _).trans (Rests.of_pins rfl rfl rfl)) (Rests.of_pins rfl rfl rfl)

theorem State.finishEvent_rests (s : State) (d : Nat) : Rests (s.finishEvent d) s := by
  unfold State.finishEvent
  exact Rests.ite (Rests.of_pins rfl rfl rfl) (Rests.of_pins rfl rfl rfl)

theorem State.droopLoss_rests (s : State) (d : Nat) : Rests (s.droopLoss d) s := by
  unfold State.droopLoss
  extract_lets s1 w s2 s3
  refine Rests.trans (b := s3) (Rests.each (fun t x => ?_) _ s3) ?_
  · exact Rests.of_pins rfl rfl rfl
  refine (State.dropCause_rests _ _ _ _).trans (Rests.trans (Rests.of_pins rfl rfl rfl) ?_)
  exact (State.finishEvent_rests _ _).trans (Rests.of_pins rfl rfl rfl)

theorem State.isolateDomain_rests (s : State) (d : Nat) : Rests (s.isolateDomain d) s := by
  unfold State.isolateDomain
  exact Rests.trans (Rests.of_pins rfl rfl rfl) (Rests.ite (s.droopLoss_rests d) (Rests.of_pins rfl rfl rfl))

theorem State.creditsZero_rests (s : State) : Rests s.creditsZero s := Rests.of_pins rfl rfl rfl

theorem State.tallyClear_rests (s : State) : Rests s.tallyClear s := by
  unfold State.tallyClear
  refine Rests.trans (Rests.of_pins rfl rfl rfl) (Rests.each (fun t f => ?_) _ s)
  cases f <;> exact Rests.of_pins rfl rfl rfl

theorem State.lowerStretch_rests (s : State) (d : Nat) : Rests (s.lowerStretch d) s := by
  unfold State.lowerStretch
  exact Rests.ite (Rests.of_pins rfl rfl rfl) (Rests.of_pins rfl rfl rfl)

theorem State.releaseSafe_rests (s : State) (e : Entry) : Rests (s.releaseSafe e) s := by
  unfold State.releaseSafe
  split
  · exact Rests.of_pins rfl rfl rfl
  · exact Rests.ite ((State.lowerStretch_rests _ _).trans (Rests.of_pins rfl rfl rfl)) (Rests.of_pins rfl rfl rfl)

theorem State.fenceCount_rests (s : State) (a b c : Nat) : Rests (s.fenceCount a b c) s := by
  unfold State.fenceCount
  exact Rests.ite (Rests.of_pins rfl rfl rfl) (Rests.of_pins rfl rfl rfl)

theorem State.request_rests (s : State) (w : W64) : Rests (s.request w) s := by
  unfold State.request
  exact Rests.ite (Rests.of_pins rfl rfl rfl) (Rests.of_pins rfl rfl rfl)

theorem State.unassay_rests (s : State) (k : Nat) (e : Entry) (sub : Nat) (rel : Bool) : Rests (s.unassay k e sub rel) s := by
  unfold State.unassay onlyIf
  have h := (State.fenceCount_rests (((s.dropEntry k).releaseSafe e |>.bump 0x6001 sub).bump (0x6010 + e.origin) 0x0A)
    e.window 0 1).trans (Rests.trans (Rests.of_pins rfl rfl rfl)
      ((State.releaseSafe_rests (s.dropEntry k) e).trans (Rests.of_pins (s := s) rfl rfl rfl)))
  exact Rests.ite ((State.request_rests _ _).trans h) h

theorem State.abandonAssays_rests (s : State) : Rests s.abandonAssays.1 s := by
  have h := Rests.each (fun t (p : Nat × Entry) => t.unassay_rests p.1 p.2 9 false) s.assayer.entries s
  unfold State.abandonAssays
  dsimp only
  generalize each s.assayer.entries _ s = t at h
  exact ⟨h.1, h.2.1, h.2.2⟩

theorem State.queueEvent_rests (s : State) (a b c : Nat) : Rests (s.queueEvent a b c).1 s := by
  unfold State.queueEvent
  dsimp only
  split <;> exact Rests.of_pins rfl rfl rfl

/-! ### Entry to TRIP -/

theorem Lane.down_idle (l : Lane) : l.down.st.running = false := by
  unfold Lane.down
  split <;> cases h : l.st <;> simp_all [LaneSt.running]

theorem State.lane_lanesDown (s : State) (n : Nat) : s.lanesDown.lane n = (s.lane n).down := by
  unfold State.lane State.lanesDown
  dsimp only
  induction s.lanes with
  | nil => rfl
  | cons p rest ih =>
    obtain ⟨k, l⟩ := p
    simp only [List.map_cons, tget]
    split
    · rfl
    · exact ih

theorem State.enterTrip_lands (s : State) (why : Nat) : (s.enterTrip why).1.gov.st = s.gov.st ∧
    (s.enterTrip why).1.gov.tripLatch = true ∧ (s.enterTrip why).1.gov.hostRel = false ∧
    (∀ l, ((s.enterTrip why).1.lane l).st.running = false) ∧
    ∀ m, ((s.enterTrip why).1.pin m).latched = (s.pin m).latched := by
  unfold State.enterTrip
  extract_lets w s1 s2 s3 s4 s5
  have h2 : Rests s2 s1 := (State.avsZero_rests _).trans (State.abortService_rests _)
  have h5 : Rests (s5.creditsZero.tallyClear.abandonAssays).1 s3 :=
    (State.abandonAssays_rests _).trans <| (State.tallyClear_rests _).trans <| (State.creditsZero_rests _).trans <|
      (Rests.each (fun t d => t.isolateDomain_rests d) _ s4).trans (Rests.each (fun t r => t.railOff_rests r) _ s3)
  obtain ⟨hg, hl, hp⟩ := h5
  have hgov : (s5.creditsZero.tallyClear.abandonAssays).1.gov = s1.gov := hg.trans h2.1
  have hlanes : ∀ l, (s5.creditsZero.tallyClear.abandonAssays).1.lane l = s2.lanesDown.lane l := fun l => by
    unfold State.lane; rw [hl]
  refine ⟨by rw [hgov], by rw [hgov], by rw [hgov], fun l => ?_, fun m => ?_⟩
  · rw [hlanes, State.lane_lanesDown]; exact Lane.down_idle _
  · exact (hp m).1.trans (h2.2.2 m).1

/-! ### A Governor in TRIP takes what else its cycle brings -/

/-- Work that takes no Governor out of TRIP. -/
def Work.local : Work → Bool
  | .enter new _ => new == .trip
  | _ => true

/-- State, trip latch and host_rel of the Governor and the lanes stay, and a latched pin stays latched. -/
def Stays (t s : State) : Prop :=
  (t.gov.st = s.gov.st ∧ t.gov.tripLatch = s.gov.tripLatch ∧ t.gov.hostRel = s.gov.hostRel) ∧ t.lanes = s.lanes ∧
    ∀ m, (s.pin m).latched = true → (t.pin m).latched = true

theorem Stays.refl (s : State) : Stays s s := ⟨⟨rfl, rfl, rfl⟩, rfl, fun _ h => h⟩

theorem Rests.stays {t s : State} (h : Rests t s) : Stays t s :=
  ⟨by rw [h.1]; exact ⟨rfl, rfl, rfl⟩, h.2.1, fun m hm => (h.2.2 m).1.trans hm⟩

theorem Stays.trans {a b c : State} (h : Stays a b) (g : Stays b c) : Stays a c :=
  ⟨⟨h.1.1.trans g.1.1, h.1.2.1.trans g.1.2.1, h.1.2.2.trans g.1.2.2⟩, h.2.1.trans g.2.1, fun m hm => h.2.2 m (g.2.2 m hm)⟩

theorem State.levelWork_trip {s : State} (h : s.gov.st = .trip) (n eff : Nat) : s.levelWork n eff = [] := by
  unfold State.levelWork
  rw [h]
  split_ifs
  · rfl
  · contradiction
  · next hsafe => exact absurd hsafe (by simp [GovState.toSafe])
  · rfl
  · rfl

theorem State.queueEvent_local (s : State) (a b c : Nat) : (s.queueEvent a b c).2.all Work.local = true := by
  unfold State.queueEvent
  dsimp only
  split <;> rfl

theorem State.arrived_stays (s : State) (n kind idx cause pa : Nat) : Stays (s.arrived n kind idx cause pa) s := by
  refine ⟨?_, ?_, fun m hm => ?_⟩
  · rw [s.arrived_noted n kind idx cause pa]; exact ⟨rfl, rfl, rfl⟩
  · rw [s.arrived_noted n kind idx cause pa]
  · rw [State.arrived_pin]
    split
    · rfl
    · exact hm

/-- The pin that latches or escalates is latched, whatever else the trigger brings. -/
theorem State.arriveEvent_stays (s t : State) (n : Nat) : Stays (s.arriveEvent t n).1 t := by
  unfold State.arriveEvent
  split
  · exact (State.queueEvent_rests _ _ _ _).stays
  · exact Stays.refl t

theorem State.arriveEvent_local (s t : State) (n : Nat) : (s.arriveEvent t n).2.all Work.local = true := by
  unfold State.arriveEvent
  split
  · exact State.queueEvent_local _ _ _ _
  · rfl

theorem State.arrive_tripped {s : State} (h : s.gov.st = .trip) (n kind idx cause pa : Nat) :
    Stays (s.arrive n kind idx cause pa).1 s ∧ (s.arrive n kind idx cause pa).2.all Work.local = true := by
  have ha := s.arrived_stays n kind idx cause pa
  have he := (s.arriveEvent_stays (s.arrived n kind idx cause pa) n).trans ha
  rw [State.arrive_eq, State.serviceFault_out (by rw [he.1.1, h]; decide), State.levelWork_trip (ha.1.1.trans h)]
  exact ⟨he, State.arriveEvent_local _ _ _⟩

theorem State.dEvents_stays (s : State) (n c : Nat) : Stays (s.dEvents n c).1 s := by
  refine Rests.stays ⟨rfl, rfl, fun m => ?_⟩
  unfold State.dEvents
  dsimp only
  rw [State.pin_setPin]
  split
  · next e => rw [e]; exact ⟨rfl, rfl⟩
  · exact ⟨rfl, rfl⟩

theorem State.dEvents_local (s : State) (n c : Nat) : ((s.dEvents n c).2.map HeldTrigger.work).all Work.local = true := by
  simp [List.all_map, Function.comp_def, HeldTrigger.work, Work.local]

/-- A trigger that comes while GCLK is stopped is kept, and that of pin 0 or 35 asks for TRIP (12 R304). -/
theorem State.doWork_trigger_stopped {s : State} {n k i c pa : Nat} (hr : s.pinReached n = true) (hc : s.tb.gclk = false) :
    s.doWork (.trigger n k i c pa) = ({ s with gov := { s.gov with heldTriggers := s.gov.heldTriggers ++
      [{ pin := n, kind := k, idx := i, cause := c, pa := pa }] } }, if n = 0 || n = 35 then [.enter .trip n] else []) := by
  show (if !s.pinReached n then _ else if !s.tb.gclk then _ else _) = _
  rw [if_neg (by rw [hr]; decide), if_pos (by rw [hc]; rfl)]

theorem State.doWork_tripped {s : State} {w : Work} (h : s.gov.st = .trip) (hw : w.local = true) :
    Stays (s.doWork w).1 s ∧ (s.doWork w).2.all Work.local = true := by
  cases w with
  | trigger n kind idx cause pa =>
    by_cases hr : s.pinReached n = true
    · by_cases hc : s.tb.gclk = true
      · rw [State.doWork_trigger hr hc]
        split
        · exact State.arrive_tripped h n 0 0 cause pa
        · obtain ⟨hs, hl⟩ := State.arrive_tripped (s := s.bump (0x5010 + n) 0x0B) h n kind idx cause pa
          exact ⟨hs.trans (Rests.of_pins rfl rfl rfl).stays, hl⟩
      · rw [State.doWork_trigger_stopped hr (by simpa using hc)]
        refine ⟨⟨⟨rfl, rfl, rfl⟩, rfl, fun _ h => h⟩, ?_⟩
        dsimp only
        split <;> rfl
    · rw [show s.doWork (.trigger n kind idx cause pa) = (s, []) from if_pos (by simp [hr])]
      exact ⟨Stays.refl s, rfl⟩
  | events n c =>
    show Stays (if s.pinReached n && c != 0 then _ else _ : State × List Work).1 s ∧
      (if s.pinReached n && c != 0 then _ else _ : State × List Work).2.all Work.local = true
    split
    · exact ⟨s.dEvents_stays n c, s.dEvents_local n c⟩
    · exact ⟨Stays.refl s, rfl⟩
  | enter new why =>
    have hnew : new = .trip := by simpa [Work.local] using hw
    rw [show s.doWork (.enter new why) = (s, []) from if_neg (by simp [State.wanted, h, hnew])]
    exact ⟨Stays.refl s, rfl⟩

theorem State.work_tripped (f : Nat) (ws : List Work) (s : State) (h : s.gov.st = .trip)
    (hw : ws.all Work.local = true) : Stays (s.work f ws) s := by
  induction f generalizing ws s with
  | zero => exact Stays.refl s
  | succ f ih =>
    cases ws with
    | nil => exact Stays.refl s
    | cons w rest =>
      rw [List.all_cons, Bool.and_eq_true] at hw
      obtain ⟨hs, hl⟩ := State.doWork_tripped h hw.1
      exact (ih _ _ (hs.1.1.trans h) (by rw [List.all_append, hl, hw.2]; rfl)).trans hs

/-- A transition to TRIP from another state, and the rest of its cycle. -/
theorem State.work_enterTrip (s : State) (why f : Nat) (ws : List Work) (hst : s.gov.st ≠ .trip) (hoff : s.gov.st ≠ .off)
    (hw : ws.all Work.local = true) : let t := s.work (f + 1) (.enter .trip why :: ws)
    t.gov.st = .trip ∧ t.gov.tripLatch = true ∧ t.gov.hostRel = false ∧ (∀ l, (t.lane l).st.running = false) ∧
      ∀ m, (s.pin m).latched = true → (t.pin m).latched = true := by
  have hwanted : s.wanted .trip = true := by simp [State.wanted, hst, hoff]
  have hdo : s.doWork (.enter .trip why) = s.transit .trip why := if_pos hwanted
  let u := if s.gov.st == .service then (s.mark .trip why).endInjection 5 else s.mark .trip why
  have hu : Rests u (s.mark .trip why) := Rests.ite (State.endInjection_rests _ _) (Rests.of_pins rfl rfl rfl)
  obtain ⟨hst', hlatch, hhost, hlanes, hpins⟩ := u.enterTrip_lands why
  have htr : s.transit .trip why = ((u.enterTrip why).1, [.events 52 (u.enterTrip why).2]) := rfl
  have hgov : (u.enterTrip why).1.gov.st = .trip := by rw [hst', hu.1, State.mark_st]
  have hstays := State.work_tripped f ([.events 52 (u.enterTrip why).2] ++ ws) (u.enterTrip why).1 hgov
    (by rw [List.all_append, hw]; rfl)
  intro t
  have ht : t = (u.enterTrip why).1.work f ([.events 52 (u.enterTrip why).2] ++ ws) := by
    show State.work (f + 1) _ s = _
    rw [State.work, hdo, htr]
  rw [ht]
  obtain ⟨⟨hst2, hlatch2, hhost2⟩, hl, hp⟩ := hstays
  refine ⟨hst2.trans hgov, hlatch2.trans hlatch, hhost2.trans hhost, fun l => ?_, fun m hm => hp m ?_⟩
  · rw [show State.lane _ l = (u.enterTrip why).1.lane l by unfold State.lane; rw [hl]]
    exact hlanes l
  · rw [hpins, (hu.2.2 m).1]
    have hmark : (s.mark .trip why).pins = s.pins := by simp
    unfold State.pin at hm ⊢
    rw [hmark]; exact hm

/-- A Governor that is not OFF comes to TRIP when asked, or stands in it. -/
theorem State.enter_trip_lands {s : State} (hoff : s.gov.st ≠ .off) (why : Nat) : (s.enter .trip why).gov.st = .trip := by
  by_cases h : s.gov.st = .trip
  · exact (State.work_tripped workFuel [.enter .trip why] s h rfl).1.1.trans h
  · exact (State.work_enterTrip s why 4999 [] h hoff rfl).1

/-! ### Entry to SAFE from READY, RUN or LIMIT -/

theorem State.enterSafe_lands (s : State) {from_ : GovState} (h : from_ ≠ .service) :
    (s.enterSafe from_).gov.st = s.gov.st ∧ (s.enterSafe from_).gov.prev = s.gov.prev ∧
      ∀ m, ((s.enterSafe from_).pin m).latched = (s.pin m).latched ∧ ((s.enterSafe from_).pin m).eff = (s.pin m).eff := by
  unfold State.enterSafe
  extract_lets s1 s2 s3
  have h1 : s1 = s := if_neg (by simp [h])
  have h3 : Rests s3 s := by
    refine (Rests.each (fun t r => ?_) s2.railsUsed s2).trans ?_
    · exact Rests.of_pins rfl rfl rfl
    · rw [← h1]; exact (State.abortSheds_rests _).trans (State.avsZero_rests _)
  obtain ⟨hgov, -, hpins⟩ := h3
  exact ⟨by rw [← hgov], by rw [← hgov], hpins⟩

theorem State.mark_prev (s : State) (new : GovState) (why : Nat) : (s.mark new why).gov.prev = s.gov.st := by
  unfold State.mark
  dsimp only
  rw [(State.signal_rests _ _).1]
  simp only [apply_ite State.gov, (State.unlearnAll_rests _ _).1, ite_self]

/-- A transition from READY, RUN or LIMIT to SAFE. -/
theorem State.work_enterSafe (s : State) (why f : Nat) (h : s.gov.st.toSafe = true) :
    let t := s.work (f + 1) [.enter .safe why]
    t.gov.st = .safe ∧ t.gov.prev = s.gov.st ∧
      ∀ m, (t.pin m).latched = (s.pin m).latched ∧ (t.pin m).eff = (s.pin m).eff := by
  have hst : s.gov.st ≠ .service ∧ s.gov.st ≠ .safe ∧ s.gov.st ≠ .off := by
    refine ⟨?_, ?_, ?_⟩ <;> intro e <;> rw [e] at h <;> exact absurd h (by decide)
  obtain ⟨hservice, hsafe, hoff⟩ := hst
  have hwanted : s.wanted .safe = true := by simp [State.wanted, hsafe, hoff, h]
  have hdo : s.doWork (.enter .safe why) = ((s.mark .safe why).enterSafe s.gov.st, []) := by
    refine (if_pos hwanted).trans ?_
    unfold State.transit
    dsimp only
    rw [if_neg (by simp [hservice])]
  obtain ⟨hst', hprev, hpins⟩ := (s.mark .safe why).enterSafe_lands hservice
  intro t
  have ht : t = (s.mark .safe why).enterSafe s.gov.st := by
    show State.work (f + 1) _ s = _
    rw [State.work, hdo]
    exact State.work_nil _ _
  have hmark : (s.mark .safe why).pins = s.pins := by simp
  rw [ht, hst', hprev, State.mark_st, State.mark_prev]
  refine ⟨rfl, rfl, fun m => ?_⟩
  rw [(hpins m).1, (hpins m).2]
  unfold State.pin
  rw [hmark]
  exact ⟨rfl, rfl⟩

/-! ### The trigger that brings a transition -/

theorem State.serviceFault_rests (s : State) (eff : Nat) : Rests (s.serviceFault eff) s :=
  Rests.ite s.abortService_rests (Rests.refl s)

/-- A pin latched anew has the programmed level. -/
theorem State.arriveEff_bump {s : State} {n : Nat} (hn : n < 64) (hl : (s.pin n).latched = false) :
    (s.bump (0x5010 + n) 0x0B).arriveEff n = s.obj (0x5010 + n) 2 := by
  have hl' : ¬ ((s.bump (0x5010 + n) 0x0B).pin n).latched = true := by
    rw [show ((s.bump (0x5010 + n) 0x0B).pin n).latched = false from hl]; decide
  exact (if_neg hl').trans (State.obj_bump_other s (by omega) (by decide) (by decide) (by omega))

/-- What a latch leaves before any transition: the Governor's registers, GCLK, and the pin latched at its level. -/
theorem State.arrive_lands (s : State) (n kind idx cause pa : Nat) :
    (s.arrive n kind idx cause pa).1.gov = s.gov ∧ (s.arrive n kind idx cause pa).1.tb.gclk = s.tb.gclk ∧
      ((s.arrive n kind idx cause pa).1.pin n).latched = true ∧
      ((s.arrive n kind idx cause pa).1.pin n).eff = s.arriveEff n := by
  have hev : Rests (s.arriveEvent (s.arrived n kind idx cause pa) n).1 (s.arrived n kind idx cause pa) := by
    unfold State.arriveEvent
    split
    · exact State.queueEvent_rests _ _ _ _
    · exact Rests.refl _
  have hr : Rests (s.arrive n kind idx cause pa).1 (s.arrived n kind idx cause pa) := by
    rw [State.arrive_eq]; exact (State.serviceFault_rests _ _).trans hev
  have hpin : (s.arrived n kind idx cause pa).pin n = s.arrivePin n kind idx :=
    (s.arrived_pin n kind idx cause pa n).trans (if_pos rfl)
  have hgov : (s.arrived n kind idx cause pa).gov = s.gov := by rw [s.arrived_noted n kind idx cause pa]
  refine ⟨hr.1.trans hgov, by simp, ?_, ?_⟩
  · rw [(hr.2.2 n).1, hpin]; rfl
  · rw [(hr.2.2 n).2, hpin]; rfl

/-- What a latch at TRIP or SAFE level asks for. -/
theorem State.arrive_asks (s : State) (n kind idx cause pa : Nat) : (s.arrive n kind idx cause pa).2 =
    s.levelWork n (s.arriveEff n) ++ (s.arriveEvent (s.arrived n kind idx cause pa) n).2 := by
  rw [State.arrive_eq]
  unfold State.levelWork State.anyRailPowered State.railsUsed State.railUsed State.railCount State.rail
  rw [s.arrived_noted n kind idx cause pa]

/-! ### The statement -/

/-- Settles O40, level by level: below SAFE a trigger only notes, at SAFE and TRIP the transition of R261 follows, and with
GCLK stopped the trigger is kept. -/
theorem faultTriggers : Obligations.FaultTriggers := by
  unfold Obligations.FaultTriggers
  refine ⟨fun n k i c pa s hd hk hr hcalm => ?_, fun n k i c pa s hd hk hn hr hg hc he hl hlow => ?_,
    fun n k i c pa s hd hk hn hr hg hc hl h4 hoff htrip => ?_, fun n k i c pa s hd hk hn hr hg hc he hl h3 hsafe => ?_,
    fun n k i c pa s hd hk h0 h35 hr hg hc => ?_, fun n k i c pa s hd => ?_, fun n k i c pa s hr hg => ?_⟩
  · obtain ⟨hc, hg, hn, hl, hlow, he⟩ := hcalm
    have hl' : ¬ (s.pin n).latched = true := by rw [hl]; decide
    have heff : s.arriveEff n = s.obj (0x5010 + n) 2 := if_neg hl'
    obtain ⟨hpin, hother, hcount, -, hseq, hnoted⟩ :=
      State.trigger_low i c pa.toNat hn hk hr hg hc he (by omega)
    refine ⟨_, execFaultTrigger_reached i c pa hd hk hr, hpin.trans ?_, hother, hcount, hseq, hnoted⟩
    unfold State.arrivePin
    rw [heff, if_neg hl']
  · have heff : s.arriveEff n = max (s.pin n).eff (min ((s.pin n).eff + 1) (s.obj (0x5010 + n) 3)) := if_pos hl
    obtain ⟨hpin, hother, -, hescalated, -, hnoted⟩ :=
      State.trigger_low i c pa.toNat hn hk hr hg hc he (by omega)
    refine ⟨_, execFaultTrigger_reached i c pa hd hk hr, hpin.trans ?_, hother, hescalated hl, hnoted⟩
    unfold State.arrivePin
    rw [heff, if_pos hl]
    dsimp only
    rw [hl]
  · obtain ⟨hgov, -, hlatched, -⟩ := (s.bump (0x5010 + n) 0x0B).arrive_lands n k i c pa.toNat
    have hasks : (s.bump (0x5010 + n) 0x0B).levelWork n (s.obj (0x5010 + n) 2) = [.enter .trip n] := by
      unfold State.levelWork
      rw [if_pos h4, if_neg (by simp [hoff, htrip])]
    obtain ⟨hst, hlatch, hhost, hlanes, hpins⟩ := State.work_enterTrip
      ((s.bump (0x5010 + n) 0x0B).arrive n k i c pa.toNat).1 n 4998 _ (by rw [hgov]; exact htrip)
      (by rw [hgov]; exact hoff)
      (State.arriveEvent_local (s.bump (0x5010 + n) 0x0B) ((s.bump (0x5010 + n) 0x0B).arrived n k i c pa.toNat) n)
    have ht := State.trigger_arrives i c pa.toNat hk hr hg hc
    rw [State.arrive_asks, State.arriveEff_bump hn hl, hasks] at ht
    refine ⟨_, execFaultTrigger_reached i c pa hd hk hr, ?_⟩
    have hspares := State.trigger_spares s n k i c pa.toNat
    rw [ht] at hspares ⊢
    exact ⟨hst, hlatch, hhost, hpins n hlatched, fun l _ => hlanes l, hspares⟩
  · obtain ⟨hgov, -, hlatched, heff⟩ := (s.bump (0x5010 + n) 0x0B).arrive_lands n k i c pa.toNat
    have hasks : (s.bump (0x5010 + n) 0x0B).levelWork n 3 = [.enter .safe n] := by
      unfold State.levelWork
      rw [if_neg (by decide), if_pos (by decide), if_pos (by rw [show (s.bump (0x5010 + n) 0x0B).gov = s.gov from rfl, hsafe]; rfl)]
    have hfree : ((s.bump (0x5010 + n) 0x0B).arriveEvent ((s.bump (0x5010 + n) 0x0B).arrived n k i c pa.toNat) n).2 = [] := by
      unfold State.arriveEvent
      split
      · rw [State.queueEvent_free (by rw [State.arrived_events]; exact he)]
      · rfl
    have hbump : (s.bump (0x5010 + n) 0x0B).arriveEff n = 3 := (State.arriveEff_bump hn hl).trans h3
    obtain ⟨hst, hprev, hpins⟩ := State.work_enterSafe
      ((s.bump (0x5010 + n) 0x0B).arrive n k i c pa.toNat).1 n 4998 (by rw [hgov]; exact hsafe)
    have ht := State.trigger_arrives i c pa.toNat hk hr hg hc
    rw [State.arrive_asks, hbump, hasks, hfree] at ht
    refine ⟨_, execFaultTrigger_reached i c pa hd hk hr, ?_⟩
    have hspares := State.trigger_spares s n k i c pa.toNat
    rw [ht] at hspares ⊢
    refine ⟨hst, by rw [List.append_nil, hprev, hgov]; rfl, ?_, ?_, hspares⟩
    · exact (hpins n).1.trans hlatched
    · exact (hpins n).2.trans (heff.trans hbump)
  · rw [execFaultTrigger_reached i c pa hd hk hr]
    unfold State.trigger
    rw [hg]
    show Host.Outcome.next (State.work (4999 + 1) _ s) = _
    have hdo : s.doWork (.trigger n k i c pa.toNat) = ({ s with gov := { s.gov with heldTriggers := s.gov.heldTriggers ++
        [{ pin := n, kind := k, idx := i, cause := c, pa := pa.toNat }] } }, []) := by
      show (if !s.pinReached n then _ else if !s.tb.gclk then _ else _) = _
      rw [if_neg (by rw [hr]; decide), if_pos (by rw [hc]; decide), if_neg (by simp [h0, h35])]
    rw [State.work, hdo, List.append_nil, State.work_nil]
  · show execFaultTrigger n k i c pa s = _
    rw [execFaultTrigger, if_neg (by simp [hd])]
  · have hnone : ∀ c p, s.trigger n k i c p = s := fun c p => by
      unfold State.trigger
      rw [hg]
      show State.work (4999 + 1) _ s = _
      rw [State.work, show s.doWork (.trigger n k i c p) = (s, []) from if_pos (by simp [hr])]
      exact State.work_nil _ _
    show execFaultTrigger n k i c pa s = _
    rw [execFaultTrigger, hnone, ite_self]


/-! ### What a fault or a transition counts, and that it starts no assay

The counters that triggers, records, signals and transitions advance are these and no others; entries of the Assayer
leave its table and none comes. -/

/-- Counters that a fault, a record, a signal or a transition advances: pins, recorder, interrupts, Muriri events, domain
events, aborted sheds, learning left out, transitions, known-answer requests not run, assays abandoned. -/
def told (i j : Nat) : Bool :=
  (0x5010 ≤ i && i ≤ 0x504F && (j == 7 || j == 9 || j == 0x0B)) || (i == 0x5000 && (j == 5 || j == 6)) ||
    (i == 0x5400 && j == 4) || (i == 0x7480 && j == 1) || (i == 0x1401 && j == 0x0B) ||
    (0x2410 ≤ i && i ≤ 0x242F && (j == 4 || j == 5 || j == 6)) || (0x2200 ≤ i && i ≤ 0x2207 && j == 0x24) ||
    (0x2C10 ≤ i && j == 4) || (i == 0x3400 && j == 0x0C) || (i == 0x6003 && j == 7) || (i == 0x6001 && j == 9) ||
    (0x6010 ≤ i && j == 0x0A)

/-- No reservation and no group slot is taken. -/
structure Frees (t s : State) : Prop where
  resv : ∀ a, (s.array a).resv = none → (t.array a).resv = none
  slot : ∀ n, (s.slot n).st = .free → (t.slot n).st = .free

theorem Frees.refl (s : State) : Frees s s := ⟨fun _ h => h, fun _ h => h⟩

theorem Frees.trans {a b c : State} (h : Frees a b) (g : Frees b c) : Frees a c :=
  ⟨fun x hx => h.resv x (g.resv x hx), fun n hn => h.slot n (g.slot n hn)⟩

theorem Frees.of_eq {t s : State} (ha : t.arrays = s.arrays) (hs : t.tally.slots = s.tally.slots) : Frees t s :=
  ⟨fun a h => by unfold State.array at h ⊢; rw [ha]; exact h, fun n h => by unfold State.slot at h ⊢; rw [hs]; exact h⟩

/-- What is at rest in a rail stays so: its counts of overruns and undervoltage, its sequence state
off, its setpoint 0, no re-interleave waiting. -/
structure Rail.Keeps (v w : Rail) : Prop where
  uv : v.uvRun = 0 → w.uvRun = 0
  overruns : v.overruns = 0 → w.overruns = 0
  off : v.seq = .off → w.seq = .off
  zero : v.setpoint = 0 → w.setpoint = 0
  still : v.reLane = false → w.reLane = false

theorem Rail.Keeps.refl (v : Rail) : Rail.Keeps v v := ⟨fun h => h, fun h => h, fun h => h, fun h => h, fun h => h⟩

theorem Rail.Keeps.trans {u v w : Rail} (h : Rail.Keeps u v) (g : Rail.Keeps v w) : Rail.Keeps u w :=
  ⟨fun x => g.uv (h.uv x), fun x => g.overruns (h.overruns x), fun x => g.off (h.off x), fun x => g.zero (h.zero x),
    fun x => g.still (h.still x)⟩

theorem Rail.keeps_down (v : Rail) : Rail.Keeps v v.down := ⟨fun _ => rfl, fun _ => rfl, fun _ => rfl, fun _ => rfl, fun _ => rfl⟩

theorem Lane.down_down (l : Lane) : l.down.down = l.down := by
  cases h : l.st <;> simp [Lane.down, h]

/-- What of the interrupt controller a signal does not change. -/
def Icu.settled (i : Icu) : Tbl (Option Nat) × W64 × Tbl W64 × Tbl SrcCfg × Tbl Target × Tbl W64 :=
  (i.active, i.claimWord, i.mask, i.cfg, i.targets, i.watch)

/-- Every object but the counters told stays, of the Assayer no entry and no waiting mismatch is new, and nothing is taken
in the Credit Unit or the Tally; of the interrupt controller sources only become pending or are held; a lane
is as it was or powered down, what is at rest in a rail stays so, and a latched pin stays latched. -/
structure Tells (t s : State) : Prop where
  obj : ∀ i j, j < 256 → told i j = false → t.obj i j = s.obj i j
  entry : ∀ k, s.entry? k = none → t.entry? k = none
  thirds : s.assayer.thirds = [] → t.assayer.thirds = []
  frees : Frees t s
  icu : t.icu.settled = s.icu.settled
  lane : ∀ n, t.lane n = s.lane n ∨ t.lane n = (s.lane n).down
  rail : ∀ r, Rail.Keeps (s.rail r) (t.rail r)
  pin : ∀ m, (s.pin m).latched = true → (t.pin m).latched = true

theorem Tells.refl (s : State) : Tells s s :=
  ⟨fun _ _ _ _ => rfl, fun _ h => h, fun h => h, Frees.refl s, rfl, fun _ => Or.inl rfl, fun _ => Rail.Keeps.refl _,
    fun _ h => h⟩

theorem Tells.trans {a b c : State} (h : Tells a b) (g : Tells b c) : Tells a c := by
  refine ⟨?_, ?_, ?_, h.frees.trans g.frees, h.icu.trans g.icu, fun n => ?_, fun r => (g.rail r).trans (h.rail r),
    fun m hm => h.pin m (g.pin m hm)⟩
  · exact fun i j hj ht => (h.obj i j hj ht).trans (g.obj i j hj ht)
  · exact fun k hk => h.entry k (g.entry k hk)
  · exact fun e => h.thirds (g.thirds e)
  · rcases h.lane n with h1 | h1 <;> rcases g.lane n with h2 | h2 <;> rw [h1, h2]
    · exact Or.inl rfl
    · exact Or.inr rfl
    · exact Or.inr rfl
    · exact Or.inr (Lane.down_down _)

theorem Tells.ite {c : Prop} [Decidable c] {a b s : State} (ha : Tells a s) (hb : Tells b s) :
    Tells (if c then a else b) s := by split <;> assumption

theorem Tells.each {α : Type} {f : State → α → State} (h : ∀ s x, Tells (f s x) s) (l : List α) (s : State) :
    Tells (each l f s) s :=
  each_carries (fun t => Tells t s) (fun t x ht => (h t x).trans ht) l s (Tells.refl s)

/-- Each element of a list does what is told, where the list's elements are of a kind. -/
theorem Tells.each_of {α : Type} {f : State → α → State} {l : List α} (h : ∀ x ∈ l, ∀ s, Tells (f s x) s) (s : State) :
    Tells (Sys2Proof.Machine.each l f s) s := by
  induction l generalizing s with
  | nil => exact Tells.refl s
  | cons x l ih =>
    rw [each_cons]
    exact (ih (fun y hy => h y (by simp [hy])) _).trans (h x (by simp) s)

/-- An update of neither the store, the configuration nor the Assayer, that takes nothing. -/
theorem Tells.of_frees {t s : State} (hod : t.od = s.od) (hcfg : t.cfg = s.cfg) (ha : t.assayer = s.assayer)
    (hf : Frees t s) (hi : t.icu.settled = s.icu.settled := by rfl)
    (hl : t.lanes = s.lanes := by rfl) (hv : t.rails = s.rails := by rfl)
    (hp : t.pins = s.pins := by rfl) : Tells t s :=
  ⟨fun i j _ _ => State.obj_congr hod hcfg i j, fun k hk => by unfold State.entry? at hk ⊢; rw [ha]; exact hk,
    fun h => by rw [ha]; exact h, hf, hi, fun n => Or.inl (by unfold State.lane; rw [hl]),
    fun r => by unfold State.rail; rw [hv]; exact Rail.Keeps.refl _, fun m hm => by unfold State.pin at hm ⊢; rw [hp]; exact hm⟩

/-- An update of neither the store, the configuration, the Assayer, the arrays nor the group slots. -/
theorem Tells.of_eq {t s : State} (hod : t.od = s.od) (hcfg : t.cfg = s.cfg) (ha : t.assayer = s.assayer)
    (hr : t.arrays = s.arrays) (hs : t.tally.slots = s.tally.slots)
    (hi : t.icu.settled = s.icu.settled := by rfl)
    (hl : t.lanes = s.lanes := by rfl) (hv : t.rails = s.rails := by rfl)
    (hp : t.pins = s.pins := by rfl) : Tells t s :=
  Tells.of_frees hod hcfg ha (Frees.of_eq hr hs) hi hl hv hp

theorem Tells.gov (s : State) (g : Gov) : Tells { s with gov := g } s := Tells.of_eq rfl rfl rfl rfl rfl

theorem told_unread {a b : Nat} (h : told a b = true) : defaultReads a b = false := by
  simp only [told, defaultReads, Bool.or_eq_true, Bool.and_eq_true, decide_eq_true_eq, beq_iff_eq, Bool.or_eq_false_iff,
    Bool.and_eq_false_iff, decide_eq_false_iff_not, beq_eq_false_iff_ne] at h ⊢
  omega

theorem Tells.setObj (s : State) {a b : Nat} (v : Nat) (hb : b < 256) (h : told a b = true) : Tells (s.setObj a b v) s := by
  refine ⟨fun i j hj ht => ?_, fun k hk => hk, fun h => h, Frees.of_eq rfl rfl, rfl, fun _ => Or.inl rfl,
    fun _ => Rail.Keeps.refl _, fun _ h => h⟩
  have hne : i ≠ a ∨ j ≠ b := by
    by_contra hc
    rw [not_or, not_not, not_not] at hc
    rw [hc.1, hc.2, h] at ht
    exact absurd ht (by decide)
  exact s.obj_setObj_other v hj hb (told_unread h) hne

theorem Tells.bumpBy (s : State) {a b : Nat} (n : Nat) (hb : b < 256) (h : told a b = true) : Tells (s.bumpBy a b n) s :=
  Tells.setObj s _ hb h

theorem Tells.bump (s : State) {a b : Nat} (hb : b < 256) (h : told a b = true) : Tells (s.bump a b) s :=
  Tells.setObj s _ hb h

theorem Tells.bump64 (s : State) {a b : Nat} (n : Nat) (hb : b < 256) (h : told a b = true) : Tells (s.bump64 a b n) s :=
  Tells.setObj s _ hb h

/-- After a step that tells, an update of neither the store, the Assayer, the arrays nor the group slots. -/
theorem Tells.then_eq {a b c : State} (h : Tells b c) (hod : a.od = b.od) (hcfg : a.cfg = b.cfg)
    (ha : a.assayer = b.assayer) (hr : a.arrays = b.arrays) (hs : a.tally.slots = b.tally.slots)
    (hi : a.icu.settled = b.icu.settled := by rfl)
    (hl : a.lanes = b.lanes := by rfl) (hv : a.rails = b.rails := by rfl)
    (hp : a.pins = b.pins := by rfl) : Tells a c :=
  (Tells.of_eq hod hcfg ha hr hs hi hl hv hp).trans h

/-- A rail written, where what is at rest in it stays so. -/
theorem Tells.setRail (s : State) (r : Nat) {v : Rail} (h : Rail.Keeps (s.rail r) v) : Tells (s.setRail r v) s := by
  refine ⟨fun _ _ _ _ => rfl, fun _ hk => hk, fun hk => hk, Frees.of_eq rfl rfl, rfl, fun _ => Or.inl rfl, fun k => ?_, fun _ h => h⟩
  rw [State.rail_setRail]
  split
  · next hk => rw [hk]; exact h
  · exact Rail.Keeps.refl _

/-- A pin written, its latch kept. -/
theorem Tells.setPin (s : State) (n : Nat) {v : Pin} (h : (s.pin n).latched = true → v.latched = true) :
    Tells (s.setPin n v) s := by
  refine ⟨fun _ _ _ _ => rfl, fun _ hk => hk, fun hk => hk, Frees.of_eq rfl rfl, rfl, fun _ => Or.inl rfl,
    fun _ => Rail.Keeps.refl _, fun m hm => ?_⟩
  rw [State.pin_setPin]
  split
  · next e => rw [e] at hm; exact h hm
  · exact hm

theorem State.dropCause_tells (s : State) (n k i : Nat) : Tells (s.dropCause n k i) s := Tells.setPin s n fun h => h

/-- A rail written, none of the fields that can be at rest changed. -/
theorem Tells.rail_other (s : State) (r : Nat) (w : Rail) (h1 : w.uvRun = (s.rail r).uvRun := by rfl)
    (h2 : w.overruns = (s.rail r).overruns := by rfl) (h3 : w.seq = (s.rail r).seq := by rfl)
    (h4 : w.setpoint = (s.rail r).setpoint := by rfl) (h5 : w.reLane = (s.rail r).reLane := by rfl) : Tells (s.setRail r w) s :=
  Tells.setRail s r ⟨fun e => h1.trans e, fun e => h2.trans e, fun e => h3.trans e, fun e => h4.trans e,
    fun e => h5.trans e⟩

/-! ### The shared operations -/

theorem State.setPending_tells (s : State) (n : Nat) : Tells (s.setPending n) s := by
  unfold State.setPending
  exact Tells.ite (Tells.refl s) (Tells.of_eq rfl rfl rfl rfl rfl)

theorem State.signal_tells (s : State) (n : Nat) : Tells (s.signal n) s := by
  unfold State.signal
  refine Tells.ite (Tells.refl s) (Tells.ite (Tells.ite (Tells.of_eq rfl rfl rfl rfl rfl) (Tells.refl s)) ?_)
  exact (State.setPending_tells _ n).trans (Tells.bump64 s 1 (by decide) rfl)

theorem State.enqueueGroup_tells (s : State) (g : List (Nat × Nat × Nat)) (v : Bool) : Tells (s.enqueueGroup g v) s := by
  unfold State.enqueueGroup
  dsimp only
  split
  · exact Tells.of_eq rfl rfl rfl rfl rfl
  · exact (Tells.bumpBy _ _ (by decide) rfl).trans (Tells.of_eq rfl rfl rfl rfl rfl)

theorem State.record_tells (s : State) (a b c : Nat) (v : Bool) : Tells (s.record a b c v) s := s.enqueueGroup_tells _ _

theorem State.endInjection_tells (s : State) (st : Nat) : Tells (s.endInjection st) s := by
  unfold State.endInjection
  exact Tells.ite ((State.signal_tells _ _).trans (Tells.of_eq rfl rfl rfl rfl rfl)) (Tells.refl s)

/-- The Assayer's table and its waiting mismatches stay, whatever else of it changes. -/
theorem Tells.of_assayer {t s : State} (hod : t.od = s.od) (hcfg : t.cfg = s.cfg)
    (he : t.assayer.entries = s.assayer.entries) (hth : t.assayer.thirds = s.assayer.thirds)
    (hr : t.arrays = s.arrays) (hs : t.tally.slots = s.tally.slots)
    (hi : t.icu.settled = s.icu.settled := by rfl)
    (hl : t.lanes = s.lanes := by rfl) (hv : t.rails = s.rails := by rfl)
    (hp : t.pins = s.pins := by rfl) : Tells t s :=
  ⟨fun i j _ _ => State.obj_congr hod hcfg i j, fun k hk => by unfold State.entry? at hk ⊢; rw [he]; exact hk,
    fun h => by rw [hth]; exact h, Frees.of_eq hr hs, hi, fun n => Or.inl (by unfold State.lane; rw [hl]),
    fun r => by unfold State.rail; rw [hv]; exact Rail.Keeps.refl _, fun m hm => by unfold State.pin at hm ⊢; rw [hp]; exact hm⟩

theorem Tells.then_assayer {a b c : State} (h : Tells b c) (hod : a.od = b.od) (hcfg : a.cfg = b.cfg)
    (he : a.assayer.entries = b.assayer.entries) (hth : a.assayer.thirds = b.assayer.thirds)
    (hr : a.arrays = b.arrays) (hs : a.tally.slots = b.tally.slots)
    (hi : a.icu.settled = b.icu.settled := by rfl)
    (hl : a.lanes = b.lanes := by rfl) (hv : a.rails = b.rails := by rfl)
    (hp : a.pins = b.pins := by rfl) : Tells a c :=
  (Tells.of_assayer hod hcfg he hth hr hs hi hl hv hp).trans h

theorem State.stopRun_tells (s : State) : Tells s.stopRun s := by
  unfold State.stopRun
  extract_lets run s1 w s2
  have h1 : Tells s1 s := Tells.bumpBy s _ (by decide) rfl
  have h2 : Tells s2 s := (Tells.of_assayer (t := s2) (s := s1) rfl rfl rfl rfl rfl rfl).trans h1
  exact Tells.ite (Tells.ite h2 ((State.signal_tells _ _).trans h2)) (Tells.refl s)

theorem State.abortSweep_tells (s : State) : Tells s.abortSweep s := by
  unfold State.abortSweep
  extract_lets s1 r w s2
  have h1 : Tells s1 s := Tells.ite s.stopRun_tells (Tells.refl s)
  have h2 : Tells s2 s := (Tells.rail_other s1 _ _).trans h1
  refine Tells.ite ((State.signal_tells _ _).trans (Tells.trans ?_ h2)) (Tells.refl s)
  exact Tells.of_assayer rfl rfl rfl rfl rfl rfl

theorem State.abortService_tells (s : State) : Tells s.abortService s :=
  (State.stopRun_tells _).trans ((State.abortSweep_tells _).trans (State.endInjection_tells _ _))

theorem State.railsUsed_lt {s : State} {r : Nat} (h : r ∈ s.railsUsed) : r < 8 := by
  have hr := List.mem_range.mp (List.mem_filter.mp h).1
  unfold State.railCount Sys2Proof.Machine.railCount at hr
  split at hr <;> omega

theorem State.avsZero_tells (s : State) : Tells s.avsZero s := by
  refine Tells.each (fun t r => ?_) s.railsUsed s
  exact Tells.rail_other t r _

theorem State.abortShed_tells (s : State) {r : Nat} (h : r < 8) : Tells (s.abortShed r) s := by
  unfold State.abortShed
  refine Tells.ite ((Tells.bump _ (by decide) ?_).trans (Tells.rail_other s r _)) (Tells.rail_other s r _)
  simp [told]
  omega

theorem State.abortSheds_tells (s : State) : Tells s.abortSheds s :=
  Tells.each_of (fun _ hr t => t.abortShed_tells (State.railsUsed_lt hr)) s

theorem State.unlearnAll_tells (s : State) (b : Nat) : Tells (s.unlearnAll b) s := by
  refine Tells.each (fun t r => ?_) s.railsUsed s
  exact Tells.of_eq rfl rfl rfl rfl rfl

theorem State.railOff_tells (s : State) (r : Nat) : Tells (s.railOff r) s := by
  unfold State.railOff
  have h : Tells (s.setRail r (s.rail r).down) s := Tells.setRail s r (Rail.keeps_down _)
  exact Tells.ite ((State.dropCause_tells _ _ _ _).trans h) h

theorem State.finishEvent_tells (s : State) {d : Nat} (h : d < 32) : Tells (s.finishEvent d) s := by
  unfold State.finishEvent
  extract_lets v s1 w
  have h1 : Tells s1 s := Tells.bump s (by split_ifs <;> decide) (by
    have hhi : 0x2410 + d ≤ 0x242F := by omega
    split_ifs <;> simp [told, hhi])
  refine Tells.ite (Tells.trans ?_ h1) (Tells.refl s)
  exact Tells.of_eq rfl rfl rfl rfl rfl

theorem State.droopLoss_tells (s : State) {d : Nat} (h : d < 32) : Tells (s.droopLoss d) s := by
  unfold State.droopLoss
  extract_lets s1 w s2 s3
  have h1 : Tells s1 s := (State.finishEvent_tells _ h).trans (Tells.of_eq rfl rfl rfl rfl rfl)
  have h2 : Tells s2 s := h1.then_eq rfl rfl rfl rfl rfl
  refine (Tells.each (fun t x => ?_) _ s3).trans ((s2.dropCause_tells 20 2 d).trans h2)
  exact Tells.of_eq rfl rfl rfl rfl rfl

theorem State.isolateDomain_tells (s : State) {d : Nat} (h : d < 32) : Tells (s.isolateDomain d) s := by
  unfold State.isolateDomain
  extract_lets v s1 w
  have h1 : Tells s1 s := Tells.ite (s.droopLoss_tells h) (Tells.refl s)
  exact (Tells.of_eq (t := s1.setDomain d _) (s := s1) rfl rfl rfl rfl rfl).trans h1

/-- A record of a table each of whose records is changed in the same way. -/
theorem tget_map {α : Type} (t : Tbl α) (f : α → α) (k : Nat) (d : α) :
    tget (t.map (fun p => (p.1, f p.2))) k d = if thas t k then f (tget t k d) else d := by
  induction t with
  | nil => rfl
  | cons p rest ih =>
    obtain ⟨j, v⟩ := p
    by_cases h : j = k
    · simp [tget, thas, h]
    · have hv : tget ((j, v) :: rest) k d = tget rest k d := if_neg h
      rw [show thas ((j, v) :: rest) k = thas rest k by simp [thas, h], hv, ← ih]
      exact if_neg h

theorem Frees.of_map {t s : State} (f : ArrayAcc → ArrayAcc) (hf : ∀ v, (f v).resv = none)
    (ha : t.arrays = s.arrays.map (fun p => (p.1, f p.2))) (hs : t.tally.slots = s.tally.slots) : Frees t s := by
  refine ⟨fun a _ => ?_, (Frees.of_eq (t := { s with tally := t.tally }) (s := s) rfl hs).slot⟩
  unfold State.array
  rw [ha, tget_map]
  split
  · exact hf _
  · rfl

theorem State.creditsZero_tells (s : State) : Tells s.creditsZero s :=
  Tells.of_frees rfl rfl rfl (Frees.of_map (fun v => { v with bal := 0, fil := 0, resv := none }) (fun _ => rfl) rfl rfl)

theorem State.creditsReady_tells (s : State) : Tells s.creditsReady s :=
  Tells.of_frees rfl rfl rfl (Frees.of_map (fun v => { v.clip with fil := 0, resv := none }) (fun _ => rfl) rfl rfl)

theorem State.dropFit_tells (s : State) (f : Fit) : Tells (s.dropFit f) s := by
  cases f with
  | entry => exact Tells.refl s
  | close r =>
    have hb : Tells (s.bump (0x2C10 + r) 4) s := Tells.bump s (by decide) (by simp [told])
    exact (Tells.of_eq (t := s.dropFit (.close r _ _ _ _)) (s := s.bump (0x2C10 + r) 4) rfl rfl rfl rfl rfl).trans hb

theorem State.tallyClear_tells (s : State) : Tells s.tallyClear s := by
  unfold State.tallyClear
  extract_lets s1 w
  have h1 : Tells s1 s := Tells.each (fun t f => t.dropFit_tells f) _ s
  refine Tells.trans (b := s1) (Tells.of_frees rfl rfl rfl ⟨fun _ h => h, fun _ _ => ?_⟩) h1
  rfl

theorem State.releaseSafe_tells (s : State) (e : Entry) : Tells (s.releaseSafe e) s := by
  unfold State.releaseSafe State.lowerStretch
  split
  · exact Tells.refl s
  · extract_lets d r w s1 v s2 want
    have h1 : Tells s1 s := Tells.rail_other s _ _
    have h2 : Tells s2 s := h1.then_eq rfl rfl rfl rfl rfl
    exact Tells.ite (Tells.ite h2 (h2.then_eq rfl rfl rfl rfl rfl)) (Tells.refl s)

theorem State.fenceCount_tells (s : State) (a b c : Nat) : Tells (s.fenceCount a b c) s := by
  unfold State.fenceCount
  exact Tells.ite (Tells.of_assayer rfl rfl rfl rfl rfl rfl) (Tells.of_assayer rfl rfl rfl rfl rfl rfl)

theorem State.request_tells (s : State) (w : W64) : Tells (s.request w) s := by
  unfold State.request
  exact Tells.ite (Tells.of_assayer rfl rfl rfl rfl rfl rfl) (Tells.refl s)

theorem State.entry?_dropEntry (s : State) (k m : Nat) :
    (s.dropEntry k).entry? m = if m = k then none else s.entry? m := by
  unfold State.entry? State.dropEntry
  dsimp only
  induction s.assayer.entries with
  | nil => simp
  | cons p rest ih =>
    rw [List.filter_cons, List.find?_cons]
    by_cases hp : p.1 = k
    · rw [if_neg (by simp [hp]), ih]
      by_cases hm : m = k
      · rw [if_pos hm, if_pos hm]
      · rw [if_neg hm, if_neg hm, show (p.1 == m) = false by rw [hp]; exact beq_eq_false_iff_ne.mpr fun e => hm e.symm]
    · rw [if_pos (by simpa using hp), List.find?_cons]
      by_cases hm : p.1 = m
      · rw [show (p.1 == m) = true by simpa using hm, if_neg fun e => hp (hm.trans e)]
      · rw [show (p.1 == m) = false by simpa using hm]
        exact ih

theorem State.dropEntry_tells (s : State) (k : Nat) : Tells (s.dropEntry k) s := by
  refine ⟨fun _ _ _ _ => rfl, fun m hm => ?_, fun h => ?_, Frees.of_eq rfl rfl, rfl, fun _ => Or.inl rfl,
    fun _ => Rail.Keeps.refl _, fun _ h => h⟩
  · rw [State.entry?_dropEntry, hm, ite_self]
  · show s.assayer.thirds.filter _ = []
    rw [h]; rfl

theorem told_origin (e : Entry) : told (0x6010 + e.origin) 0x0A = true := by
  simp [told]

theorem State.unassay_tells (s : State) (k : Nat) (e : Entry) (rel : Bool) : Tells (s.unassay k e 9 rel) s := by
  unfold State.unassay onlyIf
  have h1 : Tells ((s.dropEntry k).releaseSafe e) s := (State.releaseSafe_tells _ e).trans (s.dropEntry_tells k)
  have h2 := ((Tells.bump _ (by decide) (told_origin e)).trans
    (Tells.bump ((s.dropEntry k).releaseSafe e) (a := 0x6001) (b := 9) (by decide) rfl)).trans h1
  have h3 := (State.fenceCount_tells _ e.window 0 1).trans h2
  exact Tells.ite ((State.request_tells _ _).trans h3) h3

theorem State.abandonAssays_tells (s : State) : Tells s.abandonAssays.1 s := by
  have h := Tells.each (fun t (p : Nat × Entry) => t.unassay_tells p.1 p.2 false) s.assayer.entries s
  unfold State.abandonAssays
  dsimp only
  generalize Sys2Proof.Machine.each s.assayer.entries _ s = t at h
  exact h.then_assayer rfl rfl rfl rfl rfl rfl

/-! ### Triggers and transitions -/

theorem State.queueEvent_tells (s : State) (a b c : Nat) : Tells (s.queueEvent a b c).1 s := by
  unfold State.queueEvent
  dsimp only
  split
  · exact (Tells.bump _ (by decide) rfl).trans (Tells.of_eq rfl rfl rfl rfl rfl)
  · exact Tells.of_eq rfl rfl rfl rfl rfl

theorem State.serviceFault_tells (s : State) (eff : Nat) : Tells (s.serviceFault eff) s :=
  Tells.ite s.abortService_tells (Tells.refl s)

theorem told_pin {n : Nat} (hn : n < 64) {j : Nat} (hj : j = 7 ∨ j = 9 ∨ j = 0x0B) : told (0x5010 + n) j = true := by
  have hhi : 0x5010 + n ≤ 0x504F := by omega
  rcases hj with rfl | rfl | rfl <;> simp [told, hhi]

theorem State.arrived_tells (s : State) {n : Nat} (hn : n < 64) (kind idx cause pa : Nat) :
    Tells (s.arrived n kind idx cause pa) s := by
  unfold State.arrived
  extract_lets p eff s2 s3
  have hc : Tells (s.arriveCount n) s := by
    unfold State.arriveCount
    exact Tells.ite
      ((Tells.bump _ (by decide) rfl).trans (Tells.bump s (by decide) (told_pin hn (by decide))))
      ((Tells.bump _ (by decide) rfl).trans (Tells.bump s (by decide) (told_pin hn (by decide))))
  have h2 : Tells s2 s := (Tells.setPin (s.arriveCount n) n fun _ => rfl).trans hc
  have h3 : Tells s3 s := (State.record_tells _ _ _ _ _).trans h2
  exact Tells.ite ((State.signal_tells _ _).trans h3) h3

theorem State.arrive_tells (s : State) {n : Nat} (hn : n < 64) (kind idx cause pa : Nat) :
    Tells (s.arrive n kind idx cause pa).1 s := by
  rw [State.arrive_eq]
  refine (State.serviceFault_tells _ _).trans (Tells.trans ?_ (s.arrived_tells hn kind idx cause pa))
  unfold State.arriveEvent
  split
  · exact State.queueEvent_tells _ _ _ _
  · exact Tells.refl _

theorem State.dEvents_tells (s : State) {n : Nat} (hn : n < 64) (c : Nat) : Tells (s.dEvents n c).1 s := by
  unfold State.dEvents
  have h : Tells (s.bumpBy (0x5010 + n) 0x0B c) s := Tells.bumpBy s c (by decide) (told_pin hn (by decide))
  refine Tells.trans ?_ h
  exact Tells.setPin (s.bumpBy (0x5010 + n) 0x0B c) n fun hl => hl

theorem State.mark_tells (s : State) (new : GovState) (why : Nat) : Tells (s.mark new why) s := by
  unfold State.mark
  extract_lets old s1 s2 wakes w1 s3 w2 s4 s5 w3 s6
  have h2 : Tells s2 s := (Tells.bump _ (by decide) rfl).trans (State.record_tells _ _ _ _ _)
  have h4 : Tells s4 s := h2.then_eq rfl rfl rfl rfl rfl
  have h5 : Tells s5 s := Tells.ite h4 ((State.unlearnAll_tells _ _).trans h4)
  have h6 : Tells s6 s := Tells.ite (h5.then_eq rfl rfl rfl rfl rfl) h5
  exact (State.signal_tells _ _).trans h6

theorem State.enterReady_tells (s : State) : Tells s.enterReady.1 s := by
  unfold State.enterReady
  have h : Tells s.creditsReady.tallyClear s := (State.tallyClear_tells _).trans s.creditsReady_tells
  exact (State.abandonAssays_tells _).trans (h.then_eq rfl rfl rfl rfl rfl)

theorem State.enterSafe_tells (s : State) (from_ : GovState) : Tells (s.enterSafe from_) s := by
  unfold State.enterSafe
  extract_lets s1 s2 s3
  have h1 : Tells s1 s := Tells.ite s.abortService_tells (Tells.refl s)
  have h2 : Tells s2 s := (State.abortSheds_tells _).trans ((State.avsZero_tells _).trans h1)
  have h3 : Tells s3 s2 := by
    refine Tells.each (fun t r => ?_) s2.railsUsed s2
    exact Tells.of_eq rfl rfl rfl rfl rfl
  exact (h3.trans h2).then_eq rfl rfl rfl rfl rfl

theorem State.lanesDown_tells (s : State) : Tells s.lanesDown s :=
  ⟨fun _ _ _ _ => rfl, fun _ h => h, fun h => h, Frees.of_eq rfl rfl, rfl, fun n => Or.inr (s.lane_lanesDown n),
    fun _ => Rail.Keeps.refl _, fun _ h => h⟩

theorem State.enterTrip_tells (s : State) (why : Nat) : Tells (s.enterTrip why).1 s := by
  unfold State.enterTrip
  extract_lets w s1 s2 s3 s4 s5
  have h1 : Tells s1 s := Tells.of_eq rfl rfl rfl rfl rfl
  have h2 : Tells s2 s := (State.avsZero_tells _).trans ((State.abortService_tells _).trans h1)
  have h3 : Tells s3 s := s2.lanesDown_tells.trans h2
  have h4 : Tells s4 s := (Tells.each (fun t r => t.railOff_tells r) _ s3).trans h3
  have h5 : Tells s5 s := (Tells.each_of (fun d hd t => t.isolateDomain_tells (List.mem_range.mp hd)) s4).trans h4
  exact (State.abandonAssays_tells _).trans ((State.tallyClear_tells _).trans ((State.creditsZero_tells s5).trans h5))

theorem State.enterRun_tells (s : State) (from_ : GovState) : Tells (s.enterRun from_) s := by
  unfold State.enterRun
  extract_lets s1
  have h : Tells s1 s := by
    refine Tells.each (fun t r => ?_) s.railsUsed s
    exact Tells.of_eq rfl rfl rfl rfl rfl
  exact (Tells.gov s1 _).trans h

theorem State.transit_tells (s : State) (new : GovState) (why : Nat) : Tells (s.transit new why).1 s := by
  unfold State.transit
  extract_lets from_ s1 s2
  have h2 : Tells s2 s := Tells.ite ((State.endInjection_tells _ _).trans (s.mark_tells new why)) (s.mark_tells new why)
  cases new with
  | ready => exact (State.enterReady_tells _).trans h2
  | safe => exact (State.enterSafe_tells _ _).trans h2
  | trip =>
    have h := State.enterTrip_tells s2 why
    dsimp only
    exact h.trans h2
  | run => exact (State.enterRun_tells _ _).trans h2
  | sequencing =>
    exact (Tells.gov _ _).trans ((State.creditsZero_tells s2.abortSheds).trans ((State.abortSheds_tells s2).trans h2))
  | service => exact (State.abortSheds_tells _).trans h2
  | limit => exact h2
  | standby => exact (Tells.gov _ _).trans ((State.creditsZero_tells s2).trans h2)
  | off => exact (State.creditsZero_tells s2).trans h2
  | boot => exact (State.creditsZero_tells s2).trans h2
  | cooldown => exact (State.creditsZero_tells s2).trans h2

theorem State.pinReached_lt {s : State} {n : Nat} (h : s.pinReached n = true) : n < 64 := by
  unfold State.pinReached at h
  simp only [Bool.and_eq_true, decide_eq_true_eq] at h
  exact h.1.1

theorem State.doWork_tells (s : State) (w : Work) : Tells (s.doWork w).1 s := by
  cases w with
  | trigger n kind idx cause pa =>
    show Tells (if !s.pinReached n then _ else if !s.tb.gclk then _ else if kind = 4 then _ else _ : State × List Work).1 s
    split_ifs with hr
    · exact Tells.refl s
    · exact Tells.of_eq rfl rfl rfl rfl rfl
    · exact Tells.of_eq rfl rfl rfl rfl rfl
    · exact s.arrive_tells (State.pinReached_lt (by simpa using hr)) 0 0 cause pa
    · have hn := State.pinReached_lt (s := s) (by simpa using hr)
      exact (State.arrive_tells _ hn kind idx cause pa).trans (Tells.bump s (by decide) (told_pin hn (by decide)))
  | events n c =>
    show Tells (if s.pinReached n && c != 0 then _ else _ : State × List Work).1 s
    split
    · next h =>
      rw [Bool.and_eq_true] at h
      exact s.dEvents_tells (State.pinReached_lt h.1) c
    · exact Tells.refl s
  | enter new why =>
    show Tells (if s.wanted new then _ else _ : State × List Work).1 s
    split
    · exact s.transit_tells new why
    · exact Tells.refl s

theorem State.work_tells (f : Nat) (ws : List Work) (s : State) : Tells (s.work f ws) s := by
  induction f generalizing ws s with
  | zero => exact Tells.refl s
  | succ f ih =>
    cases ws with
    | nil => exact Tells.refl s
    | cons w rest => exact (ih _ _).trans (s.doWork_tells w)

theorem State.latchPin_tells (s : State) (ts : List HeldTrigger) : Tells (s.latchPin ts).1 s := by
  cases ts with
  | nil => exact Tells.refl s
  | cons h rest =>
    show Tells (if s.pinReached h.pin then _ else _ : State × List Work).1 s
    split
    · next hr =>
      have hb := Tells.bumpBy s (rest.filter (·.kind != 4)).length (by decide)
        (told_pin (State.pinReached_lt hr) (by decide : 0x0B = 7 ∨ 0x0B = 9 ∨ 0x0B = 0x0B))
      exact (Tells.setPin _ h.pin fun hl => by dsimp only; rw [if_pos hl]; exact hl).trans ((State.doWork_tells _ h.work).trans hb)
    · exact Tells.refl s

theorem State.latchAll_tells (s : State) (ts : List HeldTrigger) : Tells (s.latchAll ts) s := by
  have hfold : ∀ (l : List Nat) (q : State × List Work), Tells (l.foldl (fun (q : State × List Work) n =>
      let r := q.1.latchPin (ts.filter (·.pin == n))
      (r.1, q.2 ++ r.2)) q).1 q.1 := fun l => by
    induction l with
    | nil => exact fun q => Tells.refl q.1
    | cons n l ih => exact fun q => (ih _).trans (State.latchPin_tells q.1 _)
  exact (State.work_tells _ _ _).trans (hfold (List.range 64) (s, []))

theorem State.raise_tells (s : State) (ts : List HeldTrigger) : Tells (s.raise ts) s := by
  unfold State.raise
  split
  · exact Tells.of_eq rfl rfl rfl rfl rfl
  · exact s.latchAll_tells ts

theorem State.trigger_tells (s : State) (n k i c pa : Nat) : Tells (s.trigger n k i c pa) s := by
  unfold State.trigger
  split
  · exact Tells.of_eq rfl rfl rfl rfl rfl
  · exact State.work_tells _ _ s

theorem State.dEvent_tells (s : State) (n : Nat) : Tells (s.dEvent n) s := by
  unfold State.dEvent State.dEventsNow
  split
  · next h =>
    rw [Bool.and_eq_true] at h
    exact (State.raise_tells _ _).trans (s.dEvents_tells (State.pinReached_lt h.1) 1)
  · exact Tells.refl s


/-! ### The Assayer's request port, deadlines and fences (11 R270 to R276, R281, R282) -/

theorem State.pumpRun_tells (s : State) : Tells s.pumpRun s := by
  unfold State.pumpRun
  extract_lets todo w1 w2 s1
  have h1 : Tells s1 s := Tells.of_assayer rfl rfl rfl rfl rfl rfl
  refine Tells.ite (Tells.refl s) ((Tells.each (fun t q => ?_) todo s1).trans h1)
  extract_lets a i on t1
  have hb : Tells (t.bump 0x6003 7) t := Tells.bump t (by decide) rfl
  refine Tells.ite hb (Tells.ite ((State.dEvent_tells _ _).trans hb) (Tells.ite ?_ (Tells.of_assayer rfl rfl rfl rfl rfl rfl)))
  exact (t.request_tells _).then_assayer rfl rfl rfl rfl rfl rfl

theorem State.obj_atTime (s : State) (u i j : Nat) : (s.atTime u).obj i j = s.obj i j := rfl

theorem State.startWaiting_none {s : State} (h : s.assayer.thirds = []) (f : Nat) : s.startWaiting f = s := by
  cases f with
  | zero => rfl
  | succ f => rw [State.startWaiting, h]

/-- An entry that leaves the table with an outcome counted in 0x6001 is gone, and the outcome is counted once. -/
theorem Tells.ended {t u s : State} {k : Nat} {sub : Nat} (ht : Tells t u) (hu : u.entry? k = none) (hsub : sub < 256)
    (htold : told 0x6001 sub = false) (hc : u.obj 0x6001 sub = min (s.obj 0x6001 sub + 1) 0xFFFFFFFF) :
    t.entry? k = none ∧ t.obj 0x6001 sub = min (s.obj 0x6001 sub + 1) 0xFFFFFFFF :=
  ⟨ht.entry k hu, (ht.obj 0x6001 sub hsub htold).trans hc⟩

theorem State.releaseSafe_entry? (s : State) (e : Entry) (k : Nat) : (s.releaseSafe e).entry? k = s.entry? k := by
  have h : (s.releaseSafe e).assayer = s.assayer := by
    unfold State.releaseSafe State.lowerStretch
    split
    · rfl
    · dsimp only
      split
      · split <;> rfl
      · rfl
  unfold State.entry?
  rw [h]

theorem State.entry?_dropped (s : State) (k : Nat) : (s.dropEntry k).entry? k = none := by
  rw [State.entry?_dropEntry, if_pos rfl]

/-- UNASSAYED at the deadline: the entry is gone, counted in 0x6001:06. -/
theorem State.unassay_deadline (s : State) (k : Nat) (e : Entry) :
    (s.unassay k e 6 true).entry? k = none ∧
      (s.unassay k e 6 true).obj 0x6001 6 = min (s.obj 0x6001 6 + 1) 0xFFFFFFFF := by
  unfold State.unassay onlyIf
  extract_lets s1 s2 s3
  have h0 : s1.entry? k = none := by rw [State.releaseSafe_entry?]; exact s.entry?_dropped k
  have hobj : s1.obj 0x6001 6 = s.obj 0x6001 6 :=
    ((State.releaseSafe_tells _ e).trans (s.dropEntry_tells k)).obj _ _ (by decide) rfl
  have h2 : s2.obj 0x6001 6 = min (s.obj 0x6001 6 + 1) 0xFFFFFFFF := by
    rw [State.obj_bump_counter _ (by omega) (by decide) (by decide) (Or.inr (by decide)), State.obj_bump_same, hobj]
  have h3 : Tells (s3.request (releaseWord e)) s2 := (State.request_tells _ _).trans (State.fenceCount_tells _ _ _ _)
  rw [if_pos rfl]
  exact h3.ended h0 (by decide) rfl h2

/-- INDETERMINATE: the entry is gone, counted in 0x6001:05, and no mismatch waits that did not. -/
theorem State.indeterminate_ends (s : State) (k : Nat) (e : Entry) :
    (s.indeterminate k e).entry? k = none ∧
      (s.indeterminate k e).obj 0x6001 5 = min (s.obj 0x6001 5 + 1) 0xFFFFFFFF ∧
      (s.assayer.thirds = [] → (s.indeterminate k e).assayer.thirds = []) := by
  unfold State.indeterminate
  extract_lets g pa against w1 s1 s2 s3 s4
  have h1 : Tells s1 s := Tells.of_assayer rfl rfl rfl rfl rfl rfl
  have h0 : ((s1.dropEntry k).releaseSafe e).entry? k = none := by
    rw [State.releaseSafe_entry?]; exact s1.entry?_dropped k
  have h2 : Tells s2 s := (State.request_tells _ _).trans
    ((State.releaseSafe_tells _ e).trans ((s1.dropEntry_tells k).trans h1))
  have he : s2.entry? k = none := (State.request_tells _ _).entry k h0
  have hb : (s2.bump 0x6001 5).obj 0x6001 5 = min (s.obj 0x6001 5 + 1) 0xFFFFFFFF := by
    rw [State.obj_bump_same, h2.obj _ _ (by decide) rfl]
  have ht : Tells (s4.trigger 47 2 ((s4.arrayDomain e.origin).getD 32) 0 pa) (s2.bump 0x6001 5) :=
    (State.trigger_tells _ _ _ _ _ _).trans ((State.enqueueGroup_tells _ _ _).trans (State.fenceCount_tells _ _ _ _))
  obtain ⟨hgone, hcount⟩ := ht.ended (s := s) (sub := 5) he (by decide) rfl hb
  exact ⟨hgone, hcount, fun h => ht.thirds (h2.thirds h)⟩

/-- Settles O28: each deadline takes its entry out once; what follows, the event of pin 52, the trigger of pin 47 and the
requests that take the free place, counts elsewhere and brings no entry. -/
theorem assayRequests : Obligations.AssayRequests := by
  unfold Obligations.AssayRequests
  refine ⟨fun w rest s hw hc => ?_, fun k u e s he hu hst => ?_, fun k a e s hfull hfind ha => ?_, fun k u e s he hu => ?_,
    fun k u e s he hu hnone => ?_, fun s h => ?_, fun k s he => ⟨?_, ?_⟩, fun s hnone => ?_⟩
  · show execAssayRequestTransfer s = _
    rw [execAssayRequestTransfer, hw]
    exact if_pos hc
  · have hrun : exec (.duplicateDeadline k) s = .next (((s.atTime u).unassayed k e 6).pumpRun) := by
      show execDuplicateDeadline k s = _
      rw [execDuplicateDeadline, he]
      dsimp only
      rw [hu]
      exact if_pos (by rw [hst]; rfl)
    obtain ⟨hgone, hcount⟩ := (s.atTime u).unassay_deadline k e
    rw [State.obj_atTime] at hcount
    have ht : Tells (((s.atTime u).unassayed k e 6).pumpRun) ((s.atTime u).unassay k e 6 true) :=
      (State.pumpRun_tells _).trans (State.dEvent_tells _ 52)
    exact ⟨_, hrun, by simp, ht.ended (s := s) hgone (by decide) rfl hcount⟩
  · show execThirdExecutionRequest s = _
    rw [execThirdExecutionRequest, hfind]
    dsimp only
    rw [State.request, if_pos (by show (s.cfg == .full) = true; rw [hfull]; rfl), ha]
    rfl
  · have hrun : exec (.thirdDeadline k) s = .next ((((s.atTime u).indeterminate k e).startWaiting 64).pumpRun) := by
      show execThirdDeadline k s = _
      rw [execThirdDeadline, he]
      dsimp only
      rw [hu]
    exact ⟨_, hrun, by simp⟩
  · have hrun : exec (.thirdDeadline k) s = .next ((((s.atTime u).indeterminate k e).startWaiting 64).pumpRun) := by
      show execThirdDeadline k s = _
      rw [execThirdDeadline, he]
      dsimp only
      rw [hu]
    obtain ⟨hgone, hcount, hthirds⟩ := (s.atTime u).indeterminate_ends k e
    rw [State.obj_atTime] at hcount
    refine ⟨_, hrun, ?_⟩
    rw [State.startWaiting_none (hthirds hnone)]
    exact (State.pumpRun_tells _).ended (s := s) hgone (by decide) rfl hcount
  · show execAssayRequestTransfer s = _
    unfold execAssayRequestTransfer
    rcases h with h | h
    · rw [h]
    · split
      · rw [if_neg (by rw [h]; decide)]
      · rfl
  · show execDuplicateDeadline k s = _
    rw [execDuplicateDeadline, he]
  · show execThirdDeadline k s = _
    rw [execThirdDeadline, he]
  · show execThirdExecutionRequest s = _
    rw [execThirdExecutionRequest, hnone]

/-! ### Contribution fences -/

theorem State.closeFence_entries (s : State) (id : BitVec 16) (p : Nat × Entry) (hp : p ∈ (s.closeFence id).assayer.entries)
    (hw : p.2.window = s.assayer.fenceWindow) : p.2.fence = some id.toNat := by
  obtain ⟨q, -, rfl⟩ := List.mem_map.mp hp
  split at hw
  · next h => exact absurd hw (by simpa using h)
  · next h =>
    rw [if_neg h]
    dsimp only at hw ⊢
    split at hw
    · dsimp only at hw; omega
    · next hl => rw [if_neg hl]

theorem State.obj_assayer (s : State) (a : Assayer) (i j : Nat) : ({ s with assayer := a } : State).obj i j = s.obj i j := rfl

theorem State.closeFence_flag (s : State) (id : BitVec 16) (i j : Nat) : (s.closeFence id).flag i j = s.flag i j := by
  unfold State.flag State.closeFence
  rw [State.obj_assayer]

theorem State.sendStatus_obj (s : State) (w : W64) :
    (s.sendStatus w).obj 0x6001 0x0F = min (s.obj 0x6001 0x0F + 1) 0xFFFFFFFF := by
  unfold State.sendStatus
  rw [State.obj_bump_same, State.obj_assayer]

theorem State.sendStatus_unresolved (s : State) (w : W64) (n : Nat) : (s.sendStatus w).unresolved n = s.unresolved n := by
  have hcyc : (s.sendStatus w).cyc 0x2400 1 = s.cyc 0x2400 1 := by
    unfold State.cyc State.sendStatus
    rw [State.obj_bump_counter _ (by decide) (by decide) (by decide) (Or.inl (by decide)), State.obj_assayer]
  have htag : (s.sendStatus w).taggable = s.taggable := by
    funext g
    unfold State.taggable
    rw [hcyc]
    rfl
  unfold State.unresolved
  rw [htag]
  rfl

/-- A fence closed and answered at once. -/
theorem State.closeFence_sent (s : State) (id : BitVec 16) (w : W64) : let t := (s.closeFence id).sendStatus w
    t.assayer.fenceWindow = s.assayer.fenceWindow + 1 ∧ t.assayer.openFailed = 0 ∧ t.assayer.openUnassayed = 0 ∧
      t.assayer.entries = (s.closeFence id).assayer.entries ∧ t.assayer.fences = s.assayer.fences ∧
      t.assayer.status = w ∧ (∀ n, t.unresolved n = (s.closeFence id).unresolved n) ∧
      t = { s with assayer := t.assayer, od := t.od } :=
  ⟨rfl, rfl, rfl, rfl, rfl, rfl, State.sendStatus_unresolved _ w, rfl⟩

/-- A fence closed that waits for its answer. -/
theorem State.closeFence_held (s : State) (id : BitVec 16) (l : List Fence) :
    let t : State := { s.closeFence id with assayer := { (s.closeFence id).assayer with fences := l } }
    t.assayer.fenceWindow = s.assayer.fenceWindow + 1 ∧ t.assayer.openFailed = 0 ∧ t.assayer.openUnassayed = 0 ∧
      t.assayer.entries = (s.closeFence id).assayer.entries ∧ t.assayer.fences = l ∧ t.assayer.status = s.assayer.status ∧
      t = { s with assayer := t.assayer, od := t.od } :=
  ⟨rfl, rfl, rfl, rfl, rfl, rfl, rfl⟩

/-- Settles O29: the fence closes its interval first (`State.closeFence`), and the place for its answer is chosen after. -/
theorem contributionFences : Obligations.ContributionFences := by
  unfold Obligations.ContributionFences
  refine ⟨fun id s hc hcore => ?_, fun id s hc hfull => ?_, fun f s hf => ?_, fun id s hc => ?_, fun s hnone => ?_⟩
  · show execContributionFence id s = _
    rw [execContributionFence, if_neg (by rw [hc]; decide), if_pos (by rw [hcore]; decide)]
  · show ∃ t, execContributionFence id s = .next t ∧ _
    rw [execContributionFence_eq, if_neg (by rw [hc]; decide), if_neg (by rw [hfull]; decide)]
    by_cases h16 : 16 ≤ s.assayer.fences.length
    · rw [if_pos (show 16 ≤ (s.closeFence id).assayer.fences.length from h16)]
      obtain ⟨hwindow, hfailed, hun, hentries, hfences, hstatus, hpend, hrest⟩ := s.closeFence_sent id _
      refine ⟨_, rfl, hwindow, hfailed, hun, by rw [hentries]; exact s.closeFence_entries id, fun _ => ⟨hfences, ?_⟩,
        fun h => absurd h (by omega), fun h => absurd h (by omega), hrest⟩
      rw [hstatus, hpend]
    · rw [if_neg (show ¬ 16 ≤ (s.closeFence id).assayer.fences.length from h16)]
      by_cases hg : s.flag 0x6000 7 = true
      · rw [State.closeFence_flag, if_pos hg]
        obtain ⟨hwindow, hfailed, hun, hentries, hfences, hstatus, hrest⟩ := s.closeFence_held id _
        exact ⟨_, rfl, hwindow, hfailed, hun, by rw [hentries]; exact s.closeFence_entries id, fun h => absurd h h16,
          fun _ _ => ⟨hstatus, hfences⟩, fun _ h => absurd hg (by rw [h]; decide), hrest⟩
      · rw [State.closeFence_flag, if_neg hg]
        obtain ⟨hwindow, hfailed, hun, hentries, hfences, hstatus, hpend, hrest⟩ := s.closeFence_sent id _
        refine ⟨_, rfl, hwindow, hfailed, hun, by rw [hentries]; exact s.closeFence_entries id, fun h => absurd h h16,
          fun _ h => absurd h hg, fun _ _ => ⟨hfences, ?_⟩, hrest⟩
        rw [hstatus, hpend]
  · have hrun : exec .fenceAnswer s = .next (({ s with assayer := { s.assayer with
        fences := s.assayer.fences.filter (· != f) } } : State).sendStatus
          (fenceStatus f.id 1 1 (natOfBool s.degraded) 0 f.failed f.unassayed)) := by
      show execFenceAnswer s = _
      rw [execFenceAnswer, hf]
      rfl
    generalize fenceStatus f.id 1 1 (natOfBool s.degraded) 0 f.failed f.unassayed = w at hrun ⊢
    refine ⟨_, hrun, rfl, ?_, rfl⟩
    rw [State.sendStatus_obj, State.obj_assayer]
  · show execContributionFence id s = _
    rw [execContributionFence, if_pos (by rw [hc]; rfl)]
  · show execFenceAnswer s = _
    rw [execFenceAnswer, hnone]


/-! ### Test access (17 R421, 19 R439, R440) -/

theorem State.portsTaken_reset {s : State} (h : s.gov.govRstLow = true) :
    s.portsTaken = { s with gov := { s.gov with tripLatch := true, tripCause := 4 } } := if_pos h

theorem State.portsTaken_spares (s : State) : Spares s.portsTaken s := by
  unfold State.portsTaken
  split <;> simp

theorem State.portsTaken_latch (s : State) : s.portsTaken.gov.tripLatch = true := by
  unfold State.portsTaken
  split <;> rfl

/-- Outside gov_rst_n the ports are taken in TRIP. -/
theorem State.portsTaken_trip {s : State} (hoff : s.gov.st ≠ .off) (h : s.gov.govRstLow = false) :
    s.portsTaken.gov.st = .trip ∧ s.portsTaken.gov.scanMode = true ∧ s.portsTaken.gov.tripCause = 4 := by
  have ht : s.portsTaken = { s.enter .trip 0xFF with gov := { (s.enter .trip 0xFF).gov with
      tripLatch := true, tripCause := 4, scanMode := true } } := if_neg (by rw [h]; decide)
  rw [ht]
  exact ⟨State.enter_trip_lands hoff 0xFF, rfl, rfl⟩

theorem State.portsTaken_on {s : State} (hoff : s.gov.st ≠ .off) : s.portsTaken.gov.st ≠ .off := by
  cases h : s.gov.govRstLow with
  | true => rw [State.portsTaken_reset h]; exact hoff
  | false => rw [(State.portsTaken_trip hoff h).1]; decide

theorem State.loadIr_on {s : State} (hoff : s.gov.st ≠ .off) (c : BitVec 8) :
    s.loadIr c = { s with test := { s.test with ir := c } } := if_neg (by simpa using hoff)

theorem State.instrument_out {s : State} (hoff : s.gov.st ≠ .off) (h : s.tripOut = true) (f : Test → Test) :
    s.instrument f = .next { s with test := f s.test } := if_pos (by simp [hoff, h])

theorem State.instrument_idle {s : State} (h : s.tripOut = false) (f : Test → Test) : s.instrument f = .next s :=
  if_neg (by simp [h])

theorem Fuses.write_unlocked {u : Fuses} (h : u.lock = false) (field : FuseField) (v : Nat) :
    u.write field v = u.program field v := if_pos (by rw [h]; rfl)

theorem Fuses.write_locked {u : Fuses} (h : u.lock = true) (field : FuseField) (v : Nat) : u.write field v =
    match field with
    | .revokeSlot => { u with revoked := u.revoked ||| 2 ^ (v % 8) }
    | .minSecurity => { u with minSecurity := max u.minSecurity (v % 2 ^ 32) }
    | .serial | .key | .keyVersion | .lock => u := by
  refine (if_neg (by rw [h]; decide)).trans ?_
  cases field
  case minSecurity =>
    dsimp only
    split
    · next hlt => rw [Nat.max_eq_right (Nat.le_of_lt hlt)]; rfl
    · next hge => rw [Nat.max_eq_left (Nat.not_lt.mp hge)]
  all_goals rfl

/-- Settles O58: scan mode and EXTEST take the ports (`State.portsTaken`), every other instruction loads its code, and the
instruments act while trip_out is asserted alone. -/
theorem testAccess : Obligations.TestAccess := by
  unfold Obligations.TestAccess
  refine ⟨fun s hoff hlow => ?_, fun s hoff hlow => ?_, fun s hoff hout => ?_, fun s hoff hout => ?_, fun s hoff => ⟨?_, ?_, ?_⟩,
    fun c s hoff hc => ?_, fun v s hoff hout hlock => ?_, fun v s hoff hout hlock => ?_,
    fun g n p x y s hoff hout hn => ⟨?_, ?_, ?_⟩, fun fld v g n p x y s hout => ⟨?_, ?_, ?_, ?_⟩⟩
  · obtain ⟨hst, hscan, hcause⟩ := State.portsTaken_trip hoff hlow
    refine ⟨s.portsTaken, ?_, hst, s.portsTaken_latch, hscan, hcause, s.portsTaken_spares⟩
    show execScanModeEntry s = _
    rw [execScanModeEntry, if_neg (by simpa using hoff)]
  · show execScanModeEntry s = _
    rw [execScanModeEntry, if_neg (by simpa using hoff), State.portsTaken_reset hlow]
  · refine ⟨s.portsTaken.loadIr 0x00, ?_, ?_⟩
    · show execExtest s = _
      rw [execExtest, if_neg (by simpa using hoff), if_pos hout]
    · rw [State.loadIr_on (State.portsTaken_on hoff)]
      exact ⟨rfl, s.portsTaken_latch, s.portsTaken_spares⟩
  · show execExtest s = _
    rw [execExtest, if_neg (by simpa using hoff), if_neg (by rw [hout]; decide), State.loadIr_on hoff]
  · show Host.Outcome.next (s.loadIr 0x01) = _
    rw [State.loadIr_on hoff]
  · show Host.Outcome.next (s.loadIr 0x10) = _
    rw [State.loadIr_on hoff]
  · show execIdcode s = _
    rw [execIdcode, if_neg (by simpa using hoff), State.loadIr_on hoff]
  · show execBypass c s = _
    rw [execBypass, if_neg (by rw [hc]; decide), State.loadIr_on hoff]
  · have hw : ∀ fld, exec (.fuseWrite fld v) s = .next { s with test := { s.test with fuses := s.test.fuses.program fld v } } :=
      fun fld => by
        show execFuseWrite fld v s = _
        rw [execFuseWrite, State.instrument_out hoff hout, Fuses.write_unlocked hlock]
    exact ⟨hw .serial, hw .key, hw .lock⟩
  · have hw : ∀ fld, exec (.fuseWrite fld v) s = .next { s with test := { s.test with fuses := s.test.fuses.write fld v } } :=
      fun fld => by
        show execFuseWrite fld v s = _
        rw [execFuseWrite, State.instrument_out hoff hout]
    simp only [hw, Fuses.write_locked hlock, and_self]
  · show execMemoryBist g p s = _
    rw [execMemoryBist, State.instrument_out hoff hout]
  · show execOxsTTrim n x y s = _
    rw [execOxsTTrim, if_pos hn, State.instrument_out hoff hout]
  · show execClockTrim x s = _
    rw [execClockTrim, State.instrument_out hoff hout]
  · show execFuseWrite fld v s = _
    rw [execFuseWrite, State.instrument_idle hout]
  · show execMemoryBist g p s = _
    rw [execMemoryBist, State.instrument_idle hout]
  · show execOxsTTrim n x y s = _
    rw [execOxsTTrim, State.instrument_idle hout, ite_self]
  · show execClockTrim x s = _
    rw [execClockTrim, State.instrument_idle hout]


/-! ### The registers of the interrupt controller (13 R317, R324 to R329) -/

theorem bankBit_bankSet (b : Tbl W64) (n m : Nat) (d : W64) (v : Bool) :
    bankBit (bankSet b n d v) m d = if m = n then v else bankBit b m d := by
  unfold bankBit bankSet tmod
  by_cases hw : m / 64 = n / 64
  · rw [hw, tget_tset_same]
    have hm : m % 64 < 64 := Nat.mod_lt _ (by decide)
    by_cases h : m = n
    · subst h
      cases v <;> simp [hm]
    · have hne : m % 64 ≠ n % 64 := by omega
      have hone : (1#64 <<< (n % 64)).getLsbD (m % 64) = false := by
        simp only [BitVec.getLsbD_shiftLeft, BitVec.getLsbD_one, Bool.and_eq_false_iff, decide_eq_false_iff_not,
          Bool.not_eq_false', decide_eq_true_eq]
        omega
      have hbit : ∀ x : W64, (if v = true then x ||| 1#64 <<< (n % 64) else x &&& ~~~(1#64 <<< (n % 64))).getLsbD
          (m % 64) = x.getLsbD (m % 64) := fun x => by
        cases v
        · rw [if_neg (by decide), BitVec.getLsbD_and, BitVec.getLsbD_not, hone, decide_eq_true hm, Bool.not_false,
            Bool.and_true, Bool.and_true]
        · rw [if_pos rfl, BitVec.getLsbD_or, hone, Bool.or_false]
      rw [hbit, if_neg h]
  · rw [tget_tset_ne _ _ _ hw, if_neg fun h => hw (by rw [h])]

/-- A word of listed sources names them by its bits (13 R329). -/
theorem mem_wordSources (i : Nat) (w : W64) (n : Nat) :
    n ∈ wordSources i w ↔ (srcListed n && n / 64 == i && w.getLsbD (n % 64)) = true := by
  simp only [wordSources, List.mem_filter, List.mem_map, List.mem_range, Bool.and_eq_true, beq_iff_eq]
  constructor
  · rintro ⟨⟨k, ⟨hk, hb⟩, rfl⟩, hl⟩
    have hmod : (64 * i + k) % 64 = k := by omega
    exact ⟨⟨hl, by omega⟩, by rw [hmod]; exact hb⟩
  · rintro ⟨⟨hl, hi⟩, hb⟩
    exact ⟨⟨n % 64, ⟨Nat.mod_lt _ (by decide), hb⟩, by omega⟩, hl⟩

/-- A write applied to each of a list of sources, all under a condition that it keeps: what is read of a source named is
what the write gives it, and of any other source what it was. -/
theorem each_reads {α : Type} (I : State → Prop) (p g : State → Nat → α) {f : State → Nat → State} {l : List Nat}
    (hI : ∀ s x, I s → I (f s x)) (hp : ∀ x ∈ l, ∀ s n, I s → p (f s x) n = if n = x then g s n else p s n)
    (hg : ∀ s x n, I s → g (f s x) n = g s n) (s : State) (hs : I s) (n : Nat) :
    p (each l f s) n = if n ∈ l then g s n else p s n := by
  induction l generalizing s with
  | nil => simp
  | cons x l ih =>
    rw [each_cons, ih (fun y hy => hp y (by simp [hy])) _ (hI s x hs), hp x (by simp) s n hs, hg s x n hs]
    by_cases hx : n = x <;> by_cases hl : n ∈ l <;> simp [hx, hl]

/-- Only the interrupt controller differs. -/
def OnlyIcu (t s : State) : Prop := t = { s with icu := t.icu }

theorem OnlyIcu.trans {a b c : State} (h : OnlyIcu a b) (g : OnlyIcu b c) : OnlyIcu a c := by
  unfold OnlyIcu at *
  rw [h, g]

theorem OnlyIcu.then_eq {a b c : State} (g : OnlyIcu b c) (h : a = { b with icu := a.icu }) : OnlyIcu a c :=
  OnlyIcu.trans h g

theorem OnlyIcu.each {f : State → Nat → State} (h : ∀ s x, OnlyIcu (f s x) s) (l : List Nat) (s : State) :
    OnlyIcu (each l f s) s := each_carries (fun t => OnlyIcu t s) (fun t x ht => (h t x).trans ht) l s rfl

theorem OnlyIcu.obj {t s : State} (h : OnlyIcu t s) (i j : Nat) : t.obj i j = s.obj i j := by
  unfold OnlyIcu at h
  rw [h]
  exact State.obj_same

theorem OnlyIcu.asserted {t s : State} (h : OnlyIcu t s) (n : Nat) : t.asserted n = s.asserted n := by
  unfold OnlyIcu at h
  rw [h]
  rfl

/-! #### Pending bits -/

theorem State.setPending_icu (s : State) (n : Nat) : OnlyIcu (s.setPending n) s := by
  unfold State.setPending OnlyIcu
  split <;> rfl

theorem State.srcPending_setPending (s : State) (n m : Nat) :
    (s.setPending n).srcPending m = if m = n then true else s.srcPending m := by
  unfold State.setPending
  split
  · next h =>
    split
    · next e => rw [e, h]
    · rfl
  · exact bankBit_bankSet s.icu.pend n m 0 true

theorem State.srcPending_clearPending (s : State) (n m : Nat) :
    (s.clearPending n).srcPending m = if m = n then false else s.srcPending m :=
  bankBit_bankSet s.icu.pend n m 0 false

theorem State.clearBySoftware_icu (s : State) (n : Nat) : OnlyIcu (s.clearBySoftware n) s := by
  unfold State.clearBySoftware
  extract_lets c
  have h : OnlyIcu c s := rfl
  split
  · exact (c.setPending_icu n).trans h
  · exact h

theorem State.srcPending_clearBySoftware (s : State) (n m : Nat) :
    (s.clearBySoftware n).srcPending m = if m = n then srcLevel m && s.asserted m else s.srcPending m := by
  show (if (srcLevel n && s.asserted n) = true then (s.clearPending n).setPending n else s.clearPending n).srcPending m = _
  split
  · next h =>
    rw [State.srcPending_setPending, State.srcPending_clearPending]
    split
    · next e => rw [e, h]
    · rfl
  · next h =>
    rw [State.srcPending_clearPending]
    split
    · next e => rw [e, Bool.eq_false_iff.mpr h]
    · rfl

theorem State.signal_on {s : State} {n : Nat} (hclk : s.tb.gclk = true) (hl : srcListed n = true) :
    s.signal n = (s.bump64 0x7480 1 1).setPending n := by
  unfold State.signal
  rw [if_neg (by rw [hl]; decide), if_neg (by rw [hclk]; decide)]

theorem State.signal_unlisted {s : State} {n : Nat} (hl : srcListed n = false) : s.signal n = s :=
  if_pos (by rw [hl]; rfl)

theorem State.srcPending_signal {s : State} {n : Nat} (hclk : s.tb.gclk = true) (hl : srcListed n = true) (m : Nat) :
    (s.signal n).srcPending m = if m = n then true else s.srcPending m := by
  rw [State.signal_on hclk hl]
  exact State.srcPending_setPending _ n m

theorem State.signal_counts (s : State) (n : Nat) : s.signal n = { s with icu := (s.signal n).icu, od := (s.signal n).od } := by
  unfold State.signal
  split
  · rfl
  · split
    · split <;> rfl
    · have h := State.setPending_icu (s.bump64 0x7480 1 1) n
      unfold OnlyIcu at h
      rw [h]
      rfl

theorem State.clearEach_reads (i : Nat) (w : W64) (s : State) (n : Nat) :
    (each (wordSources i w) State.clearBySoftware s).srcPending n =
      if n ∈ wordSources i w then srcLevel n && s.asserted n else s.srcPending n :=
  each_reads (fun _ => True) State.srcPending (fun s n => srcLevel n && s.asserted n) (fun _ _ _ => trivial)
    (fun x _ s n _ => s.srcPending_clearBySoftware x n)
    (fun s x n _ => by rw [(s.clearBySoftware_icu x).asserted n]) s trivial n

theorem State.plainPend_reads (i : Nat) (w : W64) (s : State) (n : Nat) :
    (s.plainPend i w).srcPending n = if srcListed n && n / 64 == i then w.getLsbD (n % 64) || (srcLevel n && s.asserted n)
      else s.srcPending n := by
  have hset := each_reads (fun _ => True) State.srcPending (fun _ _ => true) (l := wordSources i w) (fun _ _ _ => trivial)
    (fun x _ s n _ => s.srcPending_setPending x n) (fun _ _ _ _ => rfl) (each (wordSources i (~~~w)) State.clearBySoftware s)
    trivial n
  have hmod : n % 64 < 64 := Nat.mod_lt _ (by decide)
  refine hset.trans ?_
  rw [State.clearEach_reads]
  simp only [mem_wordSources, BitVec.getLsbD_not, decide_eq_true hmod, Bool.true_and]
  cases srcListed n && n / 64 == i <;> cases w.getLsbD (n % 64) <;> rfl

/-! #### Mask bits and configurations -/

theorem State.srcMasked_setMask (v : Bool) (s : State) (n m : Nat) :
    (s.setMask v n).srcMasked m = if m = n then v else s.srcMasked m :=
  bankBit_bankSet s.icu.mask n m (BitVec.allOnes 64) v

theorem State.maskEach_reads (v : Bool) (i : Nat) (w : W64) (s : State) (n : Nat) :
    (each (wordSources i w) (State.setMask v) s).srcMasked n = if n ∈ wordSources i w then v else s.srcMasked n :=
  each_reads (fun _ => True) State.srcMasked (fun _ _ => v) (fun _ _ _ => trivial)
    (fun x _ s n _ => s.srcMasked_setMask v x n) (fun _ _ _ _ => rfl) s trivial n

/-- Of the interrupt controller only the mask bits differ. -/
def OnlyMask (t s : State) : Prop := t = { s with icu := { s.icu with mask := t.icu.mask } }

theorem State.maskEach_mask (v : Bool) (l : List Nat) (s : State) : OnlyMask (each l (State.setMask v) s) s :=
  each_carries (fun t => OnlyMask t s) (fun t x (ht : OnlyMask t s) => by
    unfold OnlyMask State.setMask at *
    rw [ht]) l s rfl

theorem OnlyMask.trans {a b c : State} (h : OnlyMask a b) (g : OnlyMask b c) : OnlyMask a c := by
  unfold OnlyMask at *
  rw [h, g]

theorem State.plainMask_reads (i : Nat) (w : W64) (s : State) (n : Nat) :
    (s.plainMask i w).srcMasked n = if srcListed n && n / 64 == i then w.getLsbD (n % 64) else s.srcMasked n := by
  have hmod : n % 64 < 64 := Nat.mod_lt _ (by decide)
  refine (State.maskEach_reads true i w _ n).trans ?_
  rw [State.maskEach_reads]
  simp only [mem_wordSources, BitVec.getLsbD_not, decide_eq_true hmod, Bool.true_and]
  cases srcListed n && n / 64 == i <;> cases w.getLsbD (n % 64) <;> rfl

theorem State.configure_icu (s : State) (n : Nat) (c : SrcCfg) : OnlyIcu (s.configure n c) s := by
  unfold State.configure OnlyIcu
  split <;> rfl

theorem State.srcCfg_configure (s : State) (n : Nat) (c : SrcCfg) (m : Nat) :
    (s.configure n c).srcCfg m = if srcListed m && m == n then c else s.srcCfg m := by
  unfold State.configure
  split
  · next h =>
    rw [if_neg]
    simp only [Bool.and_eq_true, beq_iff_eq, not_and]
    intro hm e
    rw [e] at hm
    simp [hm] at h
  · next h =>
    refine (tget_tset s.icu.cfg n m c _).trans ?_
    by_cases e : m = n
    · subst e
      have hl : srcListed m = true := by simpa using h
      simp [hl]
    · simp [e, State.srcCfg, State.srcDefaultTarget, State.receiver, State.sender]

theorem State.plainCfg_reads (i : Nat) (w : W64) (s : State) (n : Nat) :
    (s.plainCfg i w).srcCfg n = if srcListed n && n / 4 == i then cfgOf (bits w.toNat (16 * (n % 4) + 15) (16 * (n % 4)))
      else s.srcCfg n := by
  unfold State.plainCfg
  simp only [each_cons, each_nil, State.srcCfg_configure]
  have hn : n = 4 * (n / 4) + n % 4 := by omega
  have hmod : n % 4 < 4 := Nat.mod_lt _ (by decide)
  generalize n / 4 = q at *
  generalize n % 4 = r at *
  subst hn
  cases srcListed (4 * q + r)
  · simp
  · by_cases hq : q = i
    · subst hq
      interval_cases r <;> simp
    · have hne : ∀ j < 4, ¬ 4 * q + r = 4 * i + j := fun j hj => by omega
      simp [hq, show ¬ 4 * q + r = 4 * i from hne 0 (by decide), hne]

/-! #### Targets -/

theorem State.obj_touch_bump (s : State) (i j : Nat) :
    (s.touch.bump i j).obj i j = min (s.obj i j + 1) 0xFFFFFFFF := by rw [State.obj_bump_same, State.obj_touch]

/-- A step of the interrupt controller that moves only offers and waiting times. -/
def Moves (t s : State) : Prop := OnlyIcu t s ∧ t.icu.settled = s.icu.settled ∧ t.icu.pend = s.icu.pend

theorem Moves.refl (s : State) : Moves s s := ⟨rfl, rfl, rfl⟩

theorem State.waitFor_moves (s : State) (k : Nat) : Moves (s.waitFor k) s := by
  unfold State.waitFor
  refine each_carries (fun t => Moves t s) (fun t n ht => ?_) _ s (Moves.refl s)
  split
  · exact ht
  · exact ⟨ht.1.then_eq rfl, ht.2⟩

theorem State.wakeTarget_moves (s : State) (k : Nat) : Moves (s.wakeTarget k) s := by
  unfold State.wakeTarget
  split
  · exact Moves.refl s
  · refine each_carries (fun t => Moves t s) (fun t n ht => ?_) _ s (Moves.refl s)
    exact ⟨ht.1.then_eq rfl, ht.2⟩

theorem State.setSleep_icu (s : State) (k : Nat) (v : Bool) : OnlyIcu (s.setSleep k v) s ∧
    (s.setSleep k v).icu.targets = tset s.icu.targets k { s.target k with sleep := v } ∧
    (s.setSleep k v).icu.pend = s.icu.pend := by
  unfold State.setSleep
  extract_lets i w u
  have hu : OnlyIcu u s := rfl
  have of_moves : ∀ t : State, Moves t u → OnlyIcu t s ∧ t.icu.targets = u.icu.targets ∧ t.icu.pend = s.icu.pend :=
    fun t ⟨hicu, hset, hpend⟩ => ⟨hicu.trans hu, congrArg (fun x => x.2.2.2.2.1) hset, hpend⟩
  split
  · exact of_moves _ (u.waitFor_moves k)
  · exact of_moves _ (u.wakeTarget_moves k)

theorem State.target_setSleep (s : State) (k : Nat) (v : Bool) (j : Nat) :
    (s.setSleep k v).target j = if j = k then { s.target k with sleep := v } else s.target j := by
  unfold State.target
  rw [(s.setSleep_icu k v).2.1, tget_tset]
  rfl

/-- The threshold of a target written. -/
def State.setThresh (s : State) (k th : Nat) : State :=
  { s with icu := { s.icu with targets := tset s.icu.targets k { s.target k with thresh := th } } }

theorem State.setThresh_icu (s : State) (k th : Nat) : OnlyIcu (s.setThresh k th) s := rfl

theorem State.target_configured (s : State) (k : Nat) (th : Nat) (v : Bool) (j : Nat) :
    ((s.setThresh k th).setSleep k v).target j = if j = k then { thresh := th, sleep := v } else s.target j := by
  rw [State.target_setSleep]
  unfold State.target State.setThresh
  dsimp only
  rw [tget_tset_same, tget_tset]
  split <;> rfl

/-- Settles O44: each register write is its own write applied to the sources its word names (`mem_wordSources`,
`each_reads`). -/
theorem interruptRegisters : Obligations.InterruptRegisters := by
  unfold Obligations.InterruptRegisters
  refine ⟨fun i w s hup hi => ?_, fun i w s hup hi => ?_, fun i w s hup hi => ?_, fun i w s hup hi => ?_,
    fun i w s hup hi => ?_, fun i w s hup hi => ?_, fun i w s hup hi => ?_, fun w s hup => ?_,
    fun k w s hup hk => ?_, fun a k w s hup hk ha => ?_, fun i w s hup hi => ?_, fun i w s hi => ?_, fun i a w s => ?_⟩
  case refine_1 =>
    have hrun : exec (.pendSet i w) s = .next (each (wordSources i w) State.signal s.touch) :=
      (if_neg (by omega)).trans (State.onBus_up _ _ hup)
    have hmem : ∀ x ∈ wordSources i w, srcListed x = true := fun x hx => by
      simpa using (Bool.and_eq_true _ _ ▸ (Bool.and_eq_true _ _ ▸ (mem_wordSources i w x).mp hx).1).1
    refine ⟨_, hrun, fun n => ?_, ?_⟩
    · rw [each_reads (fun s => s.tb.gclk = true) State.srcPending (fun _ _ => true)
        (fun s x h => by rw [State.signal_counts]; exact h)
        (fun x hx s n h => State.srcPending_signal h (hmem x hx) n) (fun _ _ _ _ => rfl) s.touch hup.1 n]
      simp only [mem_wordSources]
      cases srcListed n && n / 64 == i && w.getLsbD (n % 64)
      · exact (Bool.or_false _).symm
      · exact (Bool.or_true _).symm
    · exact each_carries (fun t : State => t = { s.touch with icu := t.icu, od := t.od })
        (fun t x ht => by rw [State.signal_counts, ht]) _ _ rfl
  case refine_2 =>
    have hrun : exec (.pendClr i w) s = .next (each (wordSources i w) State.clearBySoftware s.touch) :=
      (if_neg (by omega)).trans (State.onBus_up _ _ hup)
    refine ⟨_, hrun, fun n => ?_, OnlyIcu.each State.clearBySoftware_icu _ _⟩
    rw [State.clearEach_reads]
    simp only [mem_wordSources]
    rfl
  case refine_3 =>
    have hrun : exec (.maskSet i w) s = .next (each (wordSources i w) (State.setMask true) s.touch) :=
      (if_neg (by omega)).trans (State.onBus_up _ _ hup)
    refine ⟨_, hrun, fun n => ?_, State.maskEach_mask true _ _⟩
    rw [State.maskEach_reads]
    simp only [mem_wordSources]
    cases srcListed n && n / 64 == i && w.getLsbD (n % 64)
    · exact (Bool.or_false _).symm
    · exact (Bool.or_true _).symm
  case refine_4 =>
    have hrun : exec (.maskClr i w) s = .next (each (wordSources i w) (State.setMask false) s.touch) :=
      (if_neg (by omega)).trans (State.onBus_up _ _ hup)
    refine ⟨_, hrun, fun n => ?_, State.maskEach_mask false _ _⟩
    rw [State.maskEach_reads]
    simp only [mem_wordSources]
    cases srcListed n && n / 64 == i && w.getLsbD (n % 64)
    · exact (Bool.and_true _).symm
    · exact (Bool.and_false _).symm
  case refine_5 =>
    have hrun : exec (.icuPlainWrite .pend i w) s = .next (s.touch.plainPend i w) :=
      (if_neg (by omega)).trans (State.onBus_up _ _ hup)
    refine ⟨_, hrun, fun n => State.plainPend_reads i w s.touch n, ?_⟩
    exact (OnlyIcu.each State.setPending_icu _ _).trans (OnlyIcu.each State.clearBySoftware_icu _ _)
  case refine_6 =>
    have hrun : exec (.icuPlainWrite .mask i w) s = .next (s.touch.plainMask i w) :=
      (if_neg (by omega)).trans (State.onBus_up _ _ hup)
    refine ⟨_, hrun, fun n => State.plainMask_reads i w s.touch n, ?_⟩
    exact (State.maskEach_mask true _ _).trans (State.maskEach_mask false _ _)
  case refine_7 =>
    have hrun : exec (.icuPlainWrite .cfg i w) s = .next (s.touch.plainCfg i w) :=
      (if_neg (by omega)).trans (State.onBus_up _ _ hup)
    exact ⟨_, hrun, fun n => State.plainCfg_reads i w s.touch n, OnlyIcu.each (fun t j => t.configure_icu _ _) _ _⟩
  case refine_8 =>
    have hrun : exec (.configureSource w) s =
        .next (s.touch.configure (bits w.toNat 41 32) (cfgOf (bits w.toNat 15 0))) :=
      State.onBus_up _ (fun s => s.configure (bits w.toNat 41 32) (cfgOf (bits w.toNat 15 0))) hup
    exact ⟨_, hrun, fun n => State.srcCfg_configure s.touch _ _ n, State.configure_icu _ _ _⟩
  case refine_9 =>
    have hrun : exec (.targetConfigWrite (targetAgent k) k w) s =
        .next ((s.touch.setThresh k (bits w.toNat 5 4)).setSleep k (w.getLsbD 0)) :=
      ((if_neg (by omega)).trans (State.onBus_up _ _ hup)).trans (congrArg _ (if_neg (by simp)))
    have htgt := State.target_configured s.touch k (bits w.toNat 5 4) (w.getLsbD 0)
    refine ⟨_, hrun, (htgt k).trans (if_pos rfl), fun j hj => (htgt j).trans (if_neg hj), ?_⟩
    exact (State.setSleep_icu _ k _).1.trans (State.setThresh_icu s.touch k _)
  case refine_10 =>
    have hrun : exec (.targetConfigWrite a k w) s = .next (s.touch.bump 0x7480 9) :=
      ((if_neg (by omega)).trans (State.onBus_up _ _ hup)).trans (congrArg _ (if_pos (by simpa using ha)))
    exact ⟨_, hrun, State.obj_touch_bump s 0x7480 9, rfl⟩
  case refine_11 => exact (if_neg (by omega)).trans (State.onBus_up _ _ hup)
  case refine_12 => exact ⟨if_pos hi, if_pos hi, if_pos hi, if_pos hi⟩
  case refine_13 =>
    exact ⟨fun h => if_pos h, fun h => ⟨if_pos h, if_pos h, if_pos (by simp [h])⟩⟩


/-! ### Signals, claims, completions, sleep and fallback (13 R318 to R327) -/

theorem State.obj_setPending (s : State) (n i j : Nat) : (s.setPending n).obj i j = s.obj i j :=
  State.obj_congr (s.setPending_od n) (s.setPending_keeps n).2.1 i j

theorem State.srcActive_setPending (s : State) (n m : Nat) : (s.setPending n).srcActive m = s.srcActive m := by
  unfold State.setPending
  split <;> rfl

theorem State.setPending_again {s : State} {n : Nat} (h : s.srcPending n = true) : s.setPending n = s := if_pos h

theorem Spares.chain {a b c : State} (h : Spares a b) (g : Spares b c) : Spares a c := by
  simp only [Spares, g] at h
  exact h

theorem State.touch_spares (s : State) : Spares s.touch s := by simp [State.touch]

/-- A claim that is not spurious. -/
def State.claimed (s : State) (k n : Nat) : State :=
  { (s.clearPending n).bump64 0x7480 2 1 with icu := { (s.clearPending n).icu with
      active := tset s.icu.active n (some k)
      claimWord := claimOf n (s.srcCfg n).prio (srcLevel n && !s.asserted n) } }

theorem State.claimSource_eq (s : State) (k n : Nat) : s.claimSource k n =
    if srcLevel n && !s.asserted n then ((s.claimed k n).bump 0x7480 5).dEvent 58 else s.claimed k n := rfl

theorem State.claimed_spares (s : State) (k n : Nat) : Spares (s.claimed k n) s := by simp [State.claimed, State.clearPending]

theorem State.claimed_active (s : State) (k n : Nat) : (s.claimed k n).srcActive n = some k :=
  tget_tset_same s.icu.active n (some k) none

theorem State.claimed_spurious (s : State) (k n : Nat) :
    (s.claimed k n).obj 0x7480 5 = s.obj 0x7480 5 := by
  have hb := State.obj_bump64_other (s.clearPending n) (i := 0x7480) (j := 5) (a := 0x7480) (b := 2) 1 (by decide)
    (by decide) (by decide) (Or.inr (by decide))
  exact (State.obj_same (s := (s.clearPending n).bump64 0x7480 2 1)).trans (hb.trans State.obj_same)

theorem State.completeSource_idle {s : State} {n : Nat} (h : (srcLevel n && s.asserted n) = false) :
    s.completeSource n = { s with icu := { s.icu with active := tset s.icu.active n none } } :=
  if_neg fun hc => absurd (h.symm.trans hc) (by decide)

theorem State.completeSource_asserted {s : State} {n : Nat} (h : (srcLevel n && s.asserted n) = true) :
    s.completeSource n =
      (({ s with icu := { s.icu with active := tset s.icu.active n none } } : State).bump 0x7480 6).setPending n := if_pos h

theorem State.completeSource_active (s : State) (n : Nat) : (s.completeSource n).srcActive n = none := by
  cases h : srcLevel n && s.asserted n with
  | false =>
    rw [State.completeSource_idle h]
    exact tget_tset_same s.icu.active n none none
  | true =>
    rw [State.completeSource_asserted h, State.srcActive_setPending]
    exact tget_tset_same s.icu.active n none none

theorem State.completeSource_counts (s : State) (n : Nat) :
    s.completeSource n = { s with icu := (s.completeSource n).icu, od := (s.completeSource n).od } := by
  cases h : srcLevel n && s.asserted n with
  | false => rw [State.completeSource_idle h]
  | true =>
    rw [State.completeSource_asserted h]
    have hp := State.setPending_icu
      (({ s with icu := { s.icu with active := tset s.icu.active n none } } : State).bump 0x7480 6) n
    unfold OnlyIcu at hp
    rw [hp]
    rfl

theorem contains_append_self (l : List Nat) (n : Nat) : (l ++ [n]).contains n = true := by simp

/-- The configuration of a source looks at the channels' objects, from 0x7500 on, alone. -/
theorem State.srcCfg_setObj (s : State) {a b : Nat} (v : Nat) (ha : a < 0x7500) (hb : b < 256) (n : Nat) :
    (s.setObj a b v).srcCfg n = s.srcCfg n := by
  have hst : ∀ c j, j < 256 → stored (s.setObj a b v).od (0x7500 + c) j = stored s.od (0x7500 + c) j := fun c j hj =>
    stored_tset _ _ _ _ _ _ (okey_ne hj hb (Or.inl (by omega)))
  unfold State.srcCfg State.srcDefaultTarget State.receiver State.sender
  rw [hst _ 2 (by decide), hst _ 1 (by decide)]
  rfl

theorem State.offerTarget_fallen {t : State} {n : Nat} (hf : t.icu.fallen.contains n = true)
    (ha : t.asleep (t.srcCfg n).target = true) : t.offerTarget n = (t.srcCfg n).fallback := by
  unfold State.offerTarget
  dsimp only
  rw [hf, ha]
  rfl

/-- Settles O43: a signal is a count and a pending bit (`State.signal_on`), a claim `State.claimSource_eq`, and a spurious
one's D-class event keeps what was claimed (`State.dEvent_tells`). -/
theorem interruptFlow : Obligations.InterruptFlow := by
  unfold Obligations.InterruptFlow
  refine ⟨fun n s hclk hl => ?_, fun w s hup hw => ?_, fun w s hup hw => ?_, fun k n s hup hk hoff => ?_,
    fun a k s hup hk ha => ?_, fun a k w s hup ha hk hact => ?_, fun a k w s hup ha hk hact => ?_,
    fun n s hclk hw hp ht hd => ?_, fun n u s hu hclk hp hact hasl hfb hawake hw hfal => ?_, fun n s hl => ?_,
    fun n s h => ?_, fun n s h => ?_⟩
  case refine_1 =>
    refine ⟨_, rfl, ?_, fun m hm => ?_, ?_, fun hp => ?_, s.signal_counts n⟩
    · exact (State.srcPending_signal hclk hl n).trans (if_pos rfl)
    · exact (State.srcPending_signal hclk hl m).trans (if_neg hm)
    · rw [State.signal_on hclk hl, State.obj_setPending, State.obj_bump64_same]
    · rw [State.signal_on hclk hl]
      rw [State.setPending_again (s := s.bump64 0x7480 1 1) hp]
      rfl
  case refine_2 =>
    have hrun : exec (.doorbell w) s = .next (s.touch.signal (bits w.toNat 9 0)) :=
      (State.onBus_up _ (fun s => if 0x200 ≤ bits w.toNat 9 0 then s.signal (bits w.toNat 9 0) else s.bump 0x7480 3)
        hup).trans (congrArg _ (if_pos hw))
    have hhi : bits w.toNat 9 0 < 1024 := Nat.mod_lt _ (by decide)
    have hl : srcListed (bits w.toNat 9 0) = true := by simp [srcListed]; omega
    exact ⟨_, hrun, (State.srcPending_signal (s := s.touch) hup.1 hl _).trans (if_pos rfl), State.signal_counts _ _⟩
  case refine_3 =>
    have hrun : exec (.doorbell w) s = .next (s.touch.bump 0x7480 3) :=
      (State.onBus_up _ (fun s => if 0x200 ≤ bits w.toNat 9 0 then s.signal (bits w.toNat 9 0) else s.bump 0x7480 3)
        hup).trans (congrArg _ (if_neg (by omega)))
    exact ⟨_, hrun, State.obj_touch_bump s 0x7480 3, rfl⟩
  case refine_4 =>
    have hrun : exec (.claim (targetAgent k) k) s = .next (s.touch.claimSource k n) := by
      refine ((if_neg (by omega)).trans (State.onBus_up _ _ hup)).trans (congrArg _ ((if_neg (by simp)).trans ?_))
      rw [show s.touch.offer k = some n from hoff]
    refine ⟨_, hrun, ?_⟩
    rw [State.claimSource_eq]
    cases hsp : srcLevel n && !s.touch.asserted n with
    | true =>
      rw [if_pos rfl]
      have hd := State.dEvent_tells ((s.touch.claimed k n).bump 0x7480 5) 58
      refine ⟨?_, ?_, ?_, fun _ => ?_, fun h => ?_⟩
      · exact (congrArg (fun x : Tbl (Option Nat) × _ => tget x.1 n none) hd.icu).trans (State.claimed_active s.touch k n)
      · exact congrArg (fun x => x.2.1) hd.icu
      · have h1 := State.dEvent_spares ((s.touch.claimed k n).bump 0x7480 5) 58
        have h2 := State.bump_spares (s.touch.claimed k n) 0x7480 5
        have h3 := State.claimed_spares s.touch k n
        exact Spares.chain h1 (Spares.chain h2 (Spares.chain h3 s.touch_spares))
      · rw [hd.obj 0x7480 5 (by decide) (by decide), State.obj_bump_same, State.claimed_spurious, State.obj_touch]
      · exact absurd (hsp.symm.trans h) (by decide)
    | false =>
      rw [if_neg (by decide)]
      refine ⟨State.claimed_active _ _ _, rfl, s.touch.claimed_spares k n, fun h => ?_, fun _ => ⟨?_, rfl⟩⟩
      · exact absurd (hsp.symm.trans h) (by decide)
      · exact (State.srcPending_clearPending s.touch n n).trans (if_pos rfl)
  case refine_5 =>
    have hrun : exec (.claim a k) s =
        .next (({ s.touch with icu := { s.touch.icu with claimWord := 0 } } : State).bump 0x7480 9) :=
      ((if_neg (by omega)).trans (State.onBus_up _ _ hup)).trans (congrArg _ (if_pos (by simpa using ha)))
    refine ⟨_, hrun, rfl, ?_, rfl⟩
    rw [State.obj_bump_same]
    exact congrArg (fun x => min (x + 1) 0xFFFFFFFF) State.obj_same
  case refine_6 =>
    have hrun : exec (.complete a k w) s = .next (s.touch.completeSource (bits w.toNat 9 0)) := by
      refine ((if_neg ?_).trans (State.onBus_up _ _ hup)).trans (congrArg _ (if_pos ?_))
      · simp; omega
      · exact beq_iff_eq.mpr hact
    refine ⟨_, hrun, State.completeSource_active _ _, fun h => ?_, fun h => ?_, State.completeSource_counts _ _⟩
    · rw [State.completeSource_asserted (s := s.touch) h, State.srcPending_setPending, if_pos rfl]
    · rw [State.completeSource_idle (s := s.touch) h]
      rfl
  case refine_7 =>
    have hrun : exec (.complete a k w) s = .next (s.touch.bump 0x7480 4) := by
      refine ((if_neg ?_).trans (State.onBus_up _ _ hup)).trans (congrArg _ (if_neg ?_))
      · simp; omega
      · exact fun h => hact (beq_iff_eq.mp h)
    exact ⟨_, hrun, State.obj_touch_bump s 0x7480 4, rfl⟩
  case refine_8 =>
    have hrun : exec (.watchWake n) s = .next ((s.bump 0x7480 7).setSleep (s.srcCfg n).target false) :=
      if_pos (by simp [hclk, hw, hp, ht, hd])
    obtain ⟨hicu, -, hpend⟩ := (s.bump 0x7480 7).setSleep_icu (s.srcCfg n).target false
    refine ⟨_, hrun, ?_, ?_, hpend, ?_⟩
    · rw [State.target_setSleep, if_pos rfl]
    · rw [← State.obj_bump_same]
      exact hicu.obj _ _
    · unfold OnlyIcu at hicu
      rw [hicu]
      rfl
  case refine_9 =>
    have hrun : exec (.fallbackOffer n) s = .next { (s.atTime (u + 10080)).bump 0x7480 8 with
        icu := { s.icu with fallen := s.icu.fallen ++ [n] } } := by
      show execFallbackOffer n s = _
      unfold execFallbackOffer
      dsimp only
      rw [hu]
      exact if_pos (by simp [hclk, hp, hact, hasl, hfb, hawake, hw]; simpa using hfal)
    refine ⟨_, hrun, ?_, rfl, ?_, rfl⟩
    · have hcfg : ((s.atTime (u + 10080)).bump 0x7480 8).srcCfg n = s.srcCfg n :=
        State.srcCfg_setObj (s.atTime (u + 10080)) _ (by decide) (by decide) n
      refine Eq.trans (State.offerTarget_fallen (contains_append_self s.icu.fallen n) ?_) (congrArg SrcCfg.fallback hcfg)
      exact Eq.trans (congrArg (fun c : SrcCfg => s.asleep c.target) hcfg) hasl
    · refine (State.obj_same (s := (s.atTime (u + 10080)).bump 0x7480 8)).trans ?_
      rw [State.obj_bump_same, State.obj_atTime]
  case refine_10 => exact congrArg _ (State.signal_unlisted hl)
  case refine_11 =>
    refine if_neg ?_
    rcases h with (h | h) | h <;> simp [h]
  case refine_12 =>
    show execFallbackOffer n s = _
    unfold execFallbackOffer
    rcases h with h | h
    · rw [h]
    · split
      · exact if_neg (by simp [h])
      · rfl


/-! ### Triggers of calm pins, the injector, the capture and the recorder (08 R211 to R216, 12 R308, R313, R314) -/

/-- A pin stays calm where GCLK, the collection of triggers, pins, events and its programmed level stay. -/
theorem State.calm_of {t s : State} {n : Nat} (h : s.calm n) (hobj : t.obj (0x5010 + n) 2 = s.obj (0x5010 + n) 2)
    (hg : t.tb.gclk = s.tb.gclk := by rfl) (ha : t.gov.gathered = s.gov.gathered := by rfl)
    (hp : t.pins = s.pins := by rfl) (he : t.events = s.events := by rfl) : t.calm n := by
  obtain ⟨h1, h2, h3, h4, h5, h6⟩ := h
  have hpin : t.pin n = s.pin n := by unfold State.pin; rw [hp]
  exact ⟨hg.trans h1, ha.trans h2, h3, by rw [hpin]; exact h4, by rw [hobj]; exact h5, by rw [he]; exact h6⟩

theorem State.pinReached_running {s : State} {n : Nat} (hg : s.tb.gclk = true) (hn : n < 64) (hc : corePinAbsent n = false) :
    s.pinReached n = true := by
  simp [State.pinReached, hg, hn, hc]

/-- A trigger of a calm pin that every configuration has latches it and only notes. -/
theorem State.trigger_latches {s : State} {n : Nat} (h : s.calm n) (hc : corePinAbsent n = false) (k i c pa : Nat) :
    Noted (s.trigger n k i c pa) s ∧ ((s.trigger n k i c pa).pin n).latched = true :=
  ⟨(s.trigger_calm n k i c pa h).1, (s.trigger_calm n k i c pa h).2 (State.pinReached_running h.1 h.2.2.1 hc)⟩

theorem State.captureEvent_capture (s : State) (a b : Nat) :
    s.captureEvent a b = { s with capture := (s.captureEvent a b).capture } := by
  unfold State.captureEvent
  split <;> rfl

/-- Settles O27: the following error is a trigger of a calm pin (`State.trigger_latches`); the injector and the capture end
by a signal. -/
theorem loopEvents : Obligations.LoopEvents := by
  unfold Obligations.LoopEvents
  refine ⟨fun i s hi hu hf h11 h12 hcalm => ?_, fun s h1 h2 => ?_, fun s h1 h2 => ?_, fun s h1 h2 => ?_,
    fun i s h => if_neg ?_, fun s h => if_neg ?_, fun s h => if_neg ?_, fun s h => if_neg ?_⟩
  case refine_1 =>
    let base := (s.setLaw i { s.law i with feRun := 0 }).bump (0x4100 + i) 0x13
    have hrun : exec (.followingError i) s =
        .next ((base.trigger 4 1 (s.lawRail i) 0 (base.railPa (s.lawRail i) i)).captureEvent 4 i) :=
      if_pos (by simp [hi, hu, hf, h11, h12])
    have hbase : base.calm 4 := State.calm_of hcalm
      ((State.obj_setObj_other _ _ (by decide) (by decide) (by simp [defaultReads]) (Or.inr (by decide))).trans
        State.obj_same)
    obtain ⟨hn, hl⟩ := State.trigger_latches hbase rfl 1 (s.lawRail i) 0 (base.railPa (s.lawRail i) i)
    refine ⟨_, hrun, ?_⟩
    generalize hu : base.trigger 4 1 (s.lawRail i) 0 (base.railPa (s.lawRail i) i) = u at hn hl
    rw [State.captureEvent_capture]
    have hlaws : u.laws = tset s.laws i { s.law i with feRun := 0 } := by
      unfold Noted at hn; rw [hn]; rfl
    refine ⟨?_, fun k hk => ?_, hl, ?_⟩
    · unfold State.law
      dsimp only
      rw [hlaws, tget_tset_same]
      rfl
    · unfold State.law
      dsimp only
      rw [hlaws, tget_tset_ne _ _ _ hk]
    · generalize (u.captureEvent 4 i).capture = c
      unfold Noted at *
      rw [hn]
      rfl
  case refine_2 =>
    refine ⟨_, if_pos (by simp [h1, h2]), ?_⟩
    rw [State.captureEvent_capture]
    exact ⟨rfl, rfl⟩
  case refine_3 =>
    have hrun : exec (.injectionEnd) s = .next (s.endInjection 3) := if_pos (by simp [h1, h2])
    have he : s.endInjection 3 =
        ({ s with injector := { s.injector with status := 3, stopping := true } } : State).signal 0x0C5 :=
      if_pos (by simp [h1])
    rw [he] at hrun
    have hn := State.signal_noted ({ s with injector := { s.injector with status := 3, stopping := true } } : State) 0x0C5
    refine ⟨_, hrun, ?_, ?_⟩
    · rw [hn]
    · unfold Noted at *
      rw [hn]
  case refine_4 =>
    have hn := State.signal_noted s.closeCapture 0x0C4
    refine ⟨_, if_pos (by simp [h1, h2]), ?_, ?_, ?_⟩
    · rw [hn]; rfl
    · rw [hn]; rfl
    · unfold Noted at *
      rw [hn]
      rfl
  case refine_5 => rcases h with h | h | h | h | h <;> simp [h]
  case refine_6 => rcases h with h | h <;> simp [h]
  case refine_7 => rcases h with h | h <;> simp [h]
  case refine_8 => rcases h with h | h <;> simp [h]

/-- The poison and the recorder of a record's write: its Vitrine copy is made as `copy` says. -/
def State.recordWritten (s : State) (q : Queued) (rest : List Queued) (copy : Bool) : State :=
  let written : List (PoisonAt × Nat) :=
    (.daybook, q.record.seq % 8192) :: (if copy then [(.vitrine, s.recorder.vitrine.length)] else [])
  { s with poison := s.poison.filter (!written.contains ·), recorder := { s.recorder with
      queue := rest
      daybook := tset s.recorder.daybook (q.record.seq % 8192) q.record
      vitrine := if copy then s.recorder.vitrine ++ [q.record] else s.recorder.vitrine
      copying := copy
      head := q.record.seq } }

theorem State.writeRecord_cons {s : State} {q : Queued} {rest : List Queued} (h : s.recorder.queue = q :: rest) :
    s.writeRecord =
      let fits : Bool := s.recorder.vitrine.length + q.group ≤ 256
      let s1 := s.recordWritten q rest (q.vitrine && (if q.group = 0 then s.recorder.copying else fits))
      if q.vitrine && q.group != 0 && !fits then s1.bump 0x5400 5 else s1 := by
  unfold State.writeRecord
  rw [h]
  rfl

theorem State.recordWritten_recorder (s : State) (q : Queued) (rest : List Queued) (copy : Bool) :
    (s.recordWritten q rest copy).recorder = { s.recorder with
      queue := rest, daybook := tset s.recorder.daybook (q.record.seq % 8192) q.record
      vitrine := if copy then s.recorder.vitrine ++ [q.record] else s.recorder.vitrine
      copying := copy, head := q.record.seq } := rfl

/-- Settles O42: `State.writeRecord_cons` says what a record's write does to both areas. -/
theorem recorderEvents : Obligations.RecorderEvents := by
  unfold Obligations.RecorderEvents
  refine ⟨fun q rest s hgo hq => ?_, fun s h => ?_, fun c s hc hd => ?_, fun s h => ?_, fun s h => if_neg (by omega),
    fun c s h => if_neg (by simp [h])⟩
  case refine_1 =>
    have hrun : exec .recordWrite s = .next s.writeRecord := if_pos (by
      rcases hgo with h | ⟨h1, h2⟩
      · simp [h]
      · simp [h1, h2])
    refine ⟨_, hrun, ?_⟩
    rw [State.writeRecord_cons hq]
    extract_lets fits s1
    have hr : s1.recorder = _ := State.recordWritten_recorder _ _ _ _
    have hrec : (if q.vitrine && q.group != 0 && !fits then s1.bump 0x5400 5 else s1).recorder = s1.recorder := by
      split <;> rfl
    rw [hrec, hr]
    refine ⟨rfl, rfl, rfl, fun hv => ?_, fun hv hg hf => ?_, fun hv hg hf => ⟨?_, ?_⟩, ?_⟩
    · simp [hv]
    · simp [hv, hg, fits, hf]
    · simp [hv, hg, fits, hf]
    · rw [if_pos (by simp [hv, hg, fits, hf]), State.obj_bump_same]
      exact congrArg (fun x => min (x + 1) 0xFFFFFFFF) State.obj_same
    · split <;> rfl
  case refine_2 =>
    refine (if_pos h).trans ?_
    rw [show (s.atTime (s.clock.lastSet + s.cyc 0x1300 5)).qualityFalls = { s with
      tb := { s.tb with now := max s.tb.now (s.clock.lastSet + s.cyc 0x1300 5) }
      clock := { s.clock with quality := min s.clock.quality 1 } } from rfl, Nat.min_eq_right (by omega)]
  case refine_3 =>
    refine ⟨_, if_pos (by simp [hc, hd]), rfl, ?_, rfl⟩
    exact tget_tset_same s.cores c _ {}
  case refine_4 =>
    show (if s.tb.gclk || (!s.gov.booting && !s.gov.govRstLow) then _ else _) = _
    unfold State.writeRecord
    rw [h]
    exact ite_self _


/-! ### Reservations, the ring sweep and the slots' timers (06 R147, R152, 07 R173, R177, R178) -/

/-- Nothing is taken in the Credit Unit or the Tally, and what faults leave alone stays. -/
structure Settles (t s : State) : Prop where
  frees : Frees t s
  spares : Spares t s

theorem Settles.refl (s : State) : Settles s s := ⟨Frees.refl s, by simp⟩

theorem Settles.trans {a b c : State} (h : Settles a b) (g : Settles b c) : Settles a c :=
  ⟨h.frees.trans g.frees, h.spares.chain g.spares⟩

theorem Settles.ite {c : Prop} [Decidable c] {a b s : State} (ha : Settles a s) (hb : Settles b s) :
    Settles (if c then a else b) s := by split <;> assumption

theorem Settles.each {α : Type} {f : State → α → State} (h : ∀ s x, Settles (f s x) s) (l : List α) (s : State) :
    Settles (each l f s) s := each_carries (fun t => Settles t s) (fun t x ht => (h t x).trans ht) l s (Settles.refl s)

theorem Tells.settles {t s : State} (h : Tells t s) (hs : Spares t s) : Settles t s := ⟨h.frees, hs⟩

/-- An update of neither the arrays, the slots nor what faults leave alone. -/
theorem Settles.of_eq {t s : State} (hs : Spares t s) (ha : t.arrays = s.arrays := by rfl)
    (hl : t.tally.slots = s.tally.slots := by rfl) : Settles t s := ⟨Frees.of_eq ha hl, hs⟩

theorem State.bump_settles (s : State) (i j : Nat) : Settles (s.bump i j) s := Settles.of_eq (s.bump_spares i j)

theorem State.dEvent_settles (s : State) (n : Nat) : Settles (s.dEvent n) s := (s.dEvent_tells n).settles (s.dEvent_spares n)

theorem State.trigger_settles (s : State) (n k i c pa : Nat) : Settles (s.trigger n k i c pa) s :=
  (s.trigger_tells n k i c pa).settles (s.trigger_spares n k i c pa)

theorem State.request_settles (s : State) (w : W64) : Settles (s.request w) s :=
  (s.request_tells w).settles (s.request_spares w)

theorem State.releaseSafe_settles (s : State) (e : Entry) : Settles (s.releaseSafe e) s :=
  (s.releaseSafe_tells e).settles (s.releaseSafe_spares e)

theorem State.dropEntry_settles (s : State) (k : Nat) : Settles (s.dropEntry k) s :=
  (s.dropEntry_tells k).settles (s.dropEntry_spares k)

theorem State.fenceCount_settles (s : State) (a b c : Nat) : Settles (s.fenceCount a b c) s :=
  (s.fenceCount_tells a b c).settles (s.fenceCount_spares a b c)

theorem State.enqueueGroup_settles (s : State) (g : List (Nat × Nat × Nat)) (v : Bool) : Settles (s.enqueueGroup g v) s :=
  (s.enqueueGroup_tells g v).settles (s.enqueueGroup_spares g v)

theorem State.unlearn_settles (s : State) (r b : Nat) : Settles (s.unlearn r b) s := Settles.of_eq (s.unlearn_spares r b)

theorem State.takeSafe_settles (s : State) (a : Nat) : Settles (s.takeSafe a) s := by
  unfold State.takeSafe
  exact (State.unlearn_settles _ _ _).trans (Settles.of_eq (by simp))

theorem State.setEntry_settles (s : State) (k : Nat) (e : Entry) : Settles (s.setEntry k e) s :=
  Settles.of_eq (by simp [State.setEntry])

theorem State.indeterminate_settles (s : State) (k : Nat) (e : Entry) : Settles (s.indeterminate k e) s := by
  unfold State.indeterminate
  extract_lets g pa against w s1 s2 s3 s4
  have h1 : Settles s1 s := Settles.of_eq (by simp [s1])
  have h2 : Settles s2 s :=
    (State.request_settles _ _).trans ((State.releaseSafe_settles _ e).trans ((State.dropEntry_settles s1 k).trans h1))
  have h3 : Settles s3 s := (State.fenceCount_settles _ _ _ _).trans ((State.bump_settles s2 _ _).trans h2)
  exact (State.trigger_settles _ _ _ _ _ _).trans ((State.enqueueGroup_settles s3 g true).trans h3)

theorem State.startThird_settles (s : State) (k : Nat) (e : Entry) : Settles (s.startThird k e) s := by
  unfold State.startThird
  split
  · exact (State.setEntry_settles _ _ _).trans (s.takeSafe_settles _)
  · exact s.indeterminate_settles k e

theorem State.startWaiting_settles (f : Nat) (s : State) : Settles (s.startWaiting f) s := by
  induction f generalizing s with
  | zero => exact Settles.refl s
  | succ f ih =>
    rw [State.startWaiting]
    split
    · exact Settles.refl s
    · refine Settles.ite ?_ (Settles.refl s)
      extract_lets w s1
      have h1 : Settles s1 s := Settles.of_eq (by simp [s1])
      split
      · exact (ih _).trans ((State.startThird_settles s1 _ _).trans h1)
      · exact (ih s1).trans h1

theorem State.pumpRun_spares (s : State) : Spares s.pumpRun s := by
  unfold State.pumpRun
  extract_lets todo w1 w2 s1
  split
  · simp
  · refine each_carries (fun t => Spares t s) (fun t q ht => Spares.chain ?_ ht) todo s1 (by simp [s1])
    extract_lets a i on t1
    split
    · exact t.bump_spares _ _
    · split
      · exact (State.dEvent_spares _ _).chain (t.bump_spares _ _)
      · split
        · exact Spares.chain (b := t1) (by simp) (t.request_spares _)
        · simp

theorem State.pumpRun_settles (s : State) : Settles s.pumpRun s := s.pumpRun_tells.settles s.pumpRun_spares

theorem State.refill_settles (s : State) : Settles s.refill s :=
  (State.pumpRun_settles _).trans (State.startWaiting_settles 64 s)

theorem State.assayTimedOut_settles (s : State) (a ring tag : Nat) : Settles (s.assayTimedOut a ring tag) s := by
  unfold State.assayTimedOut
  split
  · exact Settles.refl s
  · split
    · exact (State.refill_settles _).trans ((State.dEvent_settles _ 52).trans
        ((s.unassay_tells _ _ true).settles (s.unassay_spares _ _ _ _)))
    · exact Settles.of_eq (by simp [State.dropGroup])

/-! #### Slots -/

theorem State.readSlot_clean {s : State} {n : Nat} (h : s.poisoned .slot n = false) : s.readSlot n = s :=
  if_neg (by rw [h]; decide)

theorem tget_tdel {α : Type} (t : Tbl α) (k j : Nat) (d : α) :
    tget (t.filter (fun p => p.1 != k)) j d = if j = k then d else tget t j d := by
  induction t with
  | nil => simp [tget]
  | cons p rest ih =>
    obtain ⟨i, v⟩ := p
    by_cases hi : i = k
    · subst hi
      rw [List.filter_cons_of_neg (by simp), ih]
      split
      · rfl
      · next hj => exact (if_neg fun e => hj e.symm).symm
    · rw [List.filter_cons_of_pos (by simpa using hi)]
      show (if i = j then v else tget (rest.filter _) j d) = if j = k then d else if i = j then v else tget rest j d
      rw [ih]
      by_cases hij : i = j
      · rw [if_pos hij, if_pos hij, if_neg fun e => hi (hij.trans e)]
      · rw [if_neg hij, if_neg hij]

theorem State.slot_freeSlot (s : State) (n m : Nat) : (s.freeSlot n).slot m = if m = n then {} else s.slot m :=
  tget_tdel s.tally.slots n m {}

/-- Without poison a read of it filtered from the list leaves the list. -/
theorem State.unpoisoned_filter {s : State} {w : PoisonAt} {n : Nat} (h : s.poisoned w n = false) :
    s.poison.filter (· != (w, n)) = s.poison := by
  refine List.filter_eq_self.mpr fun x hx => ?_
  have hne : x ≠ (w, n) := fun e => by
    rw [e] at hx
    unfold State.poisoned at h
    rw [List.contains_iff_mem.mpr hx] at h
    exact absurd h (by decide)
  simpa using hne

theorem State.withdraw_horizons (s : State) (n : Nat) :
    ∃ r d, s.withdraw n = { s with tally := { s.tally with railHor := r, domHor := d } } := by
  show ∃ r d, (if (s.slot n).cls = fillerKey then s else s.bookBins _ _) = _
  split
  · exact ⟨s.tally.railHor, s.tally.domHor, rfl⟩
  · exact ⟨_, _, rfl⟩

theorem State.withdraw_slot (s : State) (n m : Nat) : (s.withdraw n).slot m = s.slot m := by
  obtain ⟨r, d, h⟩ := s.withdraw_horizons n
  rw [h]
  rfl

theorem State.dropPredicted_slot (s : State) (n m : Nat) :
    (s.dropPredicted n).slot m = if m = n then {} else s.slot m := by
  unfold State.dropPredicted
  rw [State.slot_freeSlot, State.withdraw_slot]

/-- A predicted group leaves an unpoisoned slot: the Tally alone changes. -/
theorem State.dropPredicted_tally {s : State} {n : Nat} (h : s.poisoned .slot n = false) :
    s.dropPredicted n = { s with tally := (s.dropPredicted n).tally } := by
  obtain ⟨r, d, hw⟩ := s.withdraw_horizons n
  have hp : (s.withdraw n).poisoned .slot n = false := by rw [hw]; exact h
  unfold State.dropPredicted State.freeSlot
  rw [State.unpoisoned_filter hp, hw]

theorem State.cancel_predicted {s : State} {w : W64} (hp : s.poisoned .slot (slotKey (wordArray w) (wordTag w)) = false)
    (h : s.holds (slotKey (wordArray w) (wordTag w)) (wordRing w) (wordTag w) .predicted = true) :
    s.cancel w = s.dropPredicted (slotKey (wordArray w) (wordTag w)) := by
  unfold State.cancel
  dsimp only
  rw [State.readSlot_clean hp, if_pos h]

theorem State.dropPredicted_deferred (s : State) (n : Nat) : (s.dropPredicted n).tally.deferred = s.tally.deferred := by
  obtain ⟨r, d, hw⟩ := s.withdraw_horizons n
  unfold State.dropPredicted State.freeSlot
  rw [hw]

/-- The instant at which a deferred CANCEL is applied: after the ISSUE of its group in the pipeline. -/
def State.cancelDue (s : State) (w : W64) : Nat :=
  match s.tally.inFlight.find? (fun q => q.1 == slotKey (wordArray w) (wordTag w)) with
  | some q => q.2 + 9
  | none => s.tb.now

theorem execDeferredCancel_cons {s : State} {w : W64} {rest : List W64} (h : s.tally.deferred = w :: rest) :
    exec .deferredCancel s =
      .next ((({ s with tally := { s.tally with deferred := rest } } : State).atTime (s.cancelDue w)).cancel w) := by
  show execDeferredCancel s = _
  unfold execDeferredCancel
  rw [h]
  rfl

/-- Settles O25: what a D-class event or the Assayer does of it takes nothing in the Credit Unit or the Tally
(`Settles`), so the reservation and the slot stay free. -/
theorem creditAndSlotTimers : Obligations.CreditAndSlotTimers := by
  unfold Obligations.CreditAndSlotTimers
  refine ⟨⟨fun a x s hx hdue => ?_, fun s hg hf hn => ?_, fun s h => if_neg ?_, fun a s h => ?_⟩,
    fun w rest s hd hp hh => ?_, fun n s hp hst hdue => ?_, fun n s hp hst hdone hdue => ?_, fun s h => ?_,
    fun n s hp h => ?_, fun n s hp h => ?_⟩
  case refine_1 =>
    let free := s.modArray a (fun v => { v with resv := none })
    have hrun : exec (.reservationExpiry a) s = .next ((free.bump 0x2802 0x0A).dEvent 27) := by
      show execReservationExpiry a s = _
      unfold execReservationExpiry
      rw [hx]
      exact if_pos hdue
    have htells := (free.bump 0x2802 0x0A).dEvent_tells 27
    refine ⟨_, hrun, ?_, ?_, ?_⟩
    · refine htells.frees.resv a ?_
      exact congrArg ArrayAcc.resv (tget_tset_same s.arrays a { s.array a with resv := none } {})
    · rw [htells.obj 0x2802 0x0A (by decide) (by decide), State.obj_bump_same]
      exact congrArg (fun x => min (x + 1) 0xFFFFFFFF) State.obj_same
    · refine (State.dEvent_spares _ _).chain ((State.bump_spares free _ _).chain ?_)
      simp [free]
  case refine_2 => exact if_pos (by simp [hg, hf, hn])
  case refine_3 => rcases h with h | h | h <;> simp [h]
  case refine_4 =>
    show execReservationExpiry a s = _
    unfold execReservationExpiry
    cases hr : (s.array a).resv with
    | none => rfl
    | some x => exact if_neg (Nat.not_le.mpr (h x hr))
  case refine_5 =>
    have hclean : ∀ t : State, t.poison = [] → t.poisoned .slot (slotKey (wordArray w) (wordTag w)) = false :=
      fun t ht => by unfold State.poisoned; rw [ht]; rfl
    let due : State := ({ s with tally := { s.tally with deferred := rest } } : State).atTime (s.cancelDue w)
    have hdue : due.poisoned .slot (slotKey (wordArray w) (wordTag w)) = false := hclean due hp
    refine ⟨_, (execDeferredCancel_cons hd).trans (congrArg _ (State.cancel_predicted hdue hh)), ?_,
      due.dropPredicted_deferred _, ?_, ?_⟩
    · exact congrArg GroupSlot.st ((due.dropPredicted_slot _ _).trans (if_pos rfl))
    · rw [State.dropPredicted_tally hdue]
      exact Nat.le_max_left _ _
    · rw [State.dropPredicted_tally hdue]
      rfl
  case refine_6 =>
    have hrun : exec (.predictedSlotExpiry n) s = .next ((s.dropPredicted n).bump 0x2C02 0x0A) := by
      show execPredictedSlotExpiry n s = _
      unfold execPredictedSlotExpiry
      dsimp only
      rw [State.readSlot_clean hp]
      exact if_pos (by simp [hst, hdue])
    refine ⟨_, hrun, ?_, fun k hk => ?_, ?_⟩
    · exact congrArg GroupSlot.st ((s.dropPredicted_slot n n).trans (if_pos rfl))
    · exact (s.dropPredicted_slot n k).trans (if_neg hk)
    · rw [State.dropPredicted_tally hp]
      rfl
  case refine_7 =>
    have hrun : exec (.grantedGroupTimeout n) s = .next (s.timeOutSlot n) := by
      show execGrantedGroupTimeout n s = _
      unfold execGrantedGroupTimeout
      dsimp only
      rw [State.readSlot_clean hp]
      exact if_pos (by simp [hst, hdone, hdue])
    have hset := ((s.freeSlot n).bump 0x2C02 0x0B).assayTimedOut_settles (slotArray n) (s.slot n).ring ((s.slot n).tag n)
    refine ⟨_, hrun, hset.frees.slot n ?_, hset.spares.chain ((State.bump_spares _ _ _).chain ?_)⟩
    · exact congrArg GroupSlot.st ((s.slot_freeSlot n n).trans (if_pos rfl))
    · unfold State.freeSlot
      rw [State.unpoisoned_filter hp]
      simp
  case refine_8 =>
    show execDeferredCancel s = _
    unfold execDeferredCancel
    rw [h]
  case refine_9 =>
    show execPredictedSlotExpiry n s = _
    unfold execPredictedSlotExpiry
    dsimp only
    rw [State.readSlot_clean hp]
    exact if_neg (by rcases h with h | h <;> simp [h])
  case refine_10 =>
    show execGrantedGroupTimeout n s = _
    unfold execGrantedGroupTimeout
    dsimp only
    rw [State.readSlot_clean hp]
    refine if_neg ?_
    rcases h with h | h | h
    · simp [h]
    · rw [Option.isSome_iff_ne_none] at h
      simp [h]
    · simp [h]


/-! ### Mailbox channels: posting, taking, timeouts and the registers of an agent (13 R317, R330 to R337) -/

theorem State.channelWrite_out {s : State} {c : Nat} (hc : 64 ≤ c) (i : Instr) (own : Bool) (f : State → State) :
    s.channelWrite i c own f = .next s := if_neg (by omega)

theorem State.channelWrite_unused {s : State} {c : Nat} (hup : s.busUp) (hc : c < 64) (hused : s.channelUsed c = false)
    (i : Instr) (own : Bool) (f : State → State) : s.channelWrite i c own f = .next (s.touch.bump 0x7490 6) := by
  refine ((if_pos hc).trans (State.onBus_up _ _ hup)).trans (congrArg _ ?_)
  exact if_pos (by rw [show s.touch.channelUsed c = false from hused]; rfl)

theorem State.channelWrite_other {s : State} {c : Nat} (hup : s.busUp) (hc : c < 64) (hused : s.channelUsed c = true)
    (i : Instr) (f : State → State) : s.channelWrite i c false f = .next (s.touch.bump (0x7500 + c) 0x0E) := by
  refine ((if_pos hc).trans (State.onBus_up _ _ hup)).trans (congrArg _ ?_)
  exact (if_neg (by rw [show s.touch.channelUsed c = true from hused]; decide)).trans (if_pos rfl)

theorem State.signal_channel (s : State) (n c : Nat) : (s.signal n).channel c = s.channel c := by
  unfold State.channel
  rw [State.signal_counts]

theorem State.channel_bump (s : State) (i j c : Nat) : (s.bump i j).channel c = s.channel c := rfl

/-- The state after a notice has been taken, before the acknowledgement's signal. -/
def State.noticeTaken (s : State) (c b : Nat) : State :=
  ((s.takeReads c (takeWordOf b ((s.channel c).slot b))).bump (0x7500 + c) 8).modChannel c (fun ch =>
    if ((s.channel c).slot b).orphaned then ch.setSlot b {}
    else { ch.setSlot b { (s.channel c).slot b with st := .taken } with ack := ch.ack ||| (1#64 <<< b) })

theorem State.takeNotice_eq (s : State) (c b : Nat) : s.takeNotice c b =
    if ((s.channel c).slot b).orphaned then s.noticeTaken c b else (s.noticeTaken c b).signal (0x080 + c) := by
  unfold State.takeNotice State.noticeTaken
  cases h : ((s.channel c).slot b).orphaned <;> simp only [h, Bool.false_eq_true, if_false, if_true]

theorem State.noticeTaken_channel (s : State) (c b : Nat) : (s.noticeTaken c b).channel c =
    if ((s.channel c).slot b).orphaned then
      ({ s.channel c with takeWord := takeWordOf b ((s.channel c).slot b) } : Channel).setSlot b {}
    else { ({ s.channel c with takeWord := takeWordOf b ((s.channel c).slot b) } : Channel).setSlot b
      { (s.channel c).slot b with st := .taken } with ack := (s.channel c).ack ||| (1#64 <<< b) } := by
  unfold State.noticeTaken State.modChannel
  rw [State.channel_setChannel, if_pos rfl, State.channel_bump]
  unfold State.takeReads State.modChannel
  rw [State.channel_setChannel, if_pos rfl]

theorem State.noticeTaken_count (s : State) (c b : Nat) :
    (s.noticeTaken c b).obj (0x7500 + c) 8 = min (s.obj (0x7500 + c) 8 + 1) 0xFFFFFFFF := by
  refine (State.obj_same (s := (s.takeReads c (takeWordOf b ((s.channel c).slot b))).bump (0x7500 + c) 8)).trans ?_
  rw [State.obj_bump_same]
  exact congrArg (fun x => min (x + 1) 0xFFFFFFFF) State.obj_same

theorem State.takeNotice_channel (s : State) (c b : Nat) : (s.takeNotice c b).channel c = (s.noticeTaken c b).channel c := by
  rw [State.takeNotice_eq]
  split
  · rfl
  · exact State.signal_channel _ _ _

theorem State.takeNotice_word (s : State) (c b : Nat) :
    ((s.takeNotice c b).channel c).takeWord = takeWordOf b ((s.channel c).slot b) := by
  rw [State.takeNotice_channel, State.noticeTaken_channel]
  generalize takeWordOf b ((s.channel c).slot b) = w
  split <;> rfl

theorem State.takeNotice_count (s : State) {c : Nat} (b : Nat) :
    (s.takeNotice c b).obj (0x7500 + c) 8 = min (s.obj (0x7500 + c) 8 + 1) 0xFFFFFFFF := by
  rw [State.takeNotice_eq, ← State.noticeTaken_count]
  split
  · rfl
  · exact State.obj_signal _ _ (by omega) (by decide) (Or.inr (by decide))

theorem State.takeNotice_frame (s : State) (c b : Nat) : s.takeNotice c b = { s with
    channels := (s.takeNotice c b).channels, icu := (s.takeNotice c b).icu, od := (s.takeNotice c b).od } := by
  rw [State.takeNotice_eq]
  split
  · rfl
  · rw [State.signal_counts]
    rfl

/-- The message RAM before a post: a core has placed the message it formed. -/
def State.placed (s : State) (c off len : Nat) : State := if s.sender c < 4 then s.placeReply c off len else s

theorem State.placed_frame (s : State) (c off len : Nat) : s.placed c off len = { s with
    mram := (s.placed c off len).mram, poison := (s.placed c off len).poison, replies := (s.placed c off len).replies } := by
  unfold State.placed State.placeReply
  split
  · split <;> rfl
  · rfl

theorem State.placed_outside {s : State} {c : Nat} (h : 4 ≤ s.sender c) (off len : Nat) : s.placed c off len = s :=
  if_neg (by omega)

/-- The slot of an accepted post. -/
def State.posted (s : State) (c off len : Nat) : Slot :=
  { st := .posted, offset := off, length := len, epoch := s.epoch (s.sender c), due := s.tb.now + s.cyc (0x7500 + c) 5 }

/-- A post's slot reads no counter: it is the same after one has advanced. -/
theorem State.posted_bump (s : State) (c off len : Nat) {j : Nat} (hj : j < 256) (h1 : 1 ≠ j) (h5 : 5 ≠ j) :
    (s.bump (0x7500 + c) j).posted c off len = s.posted c off len := by
  have hs : (s.bump (0x7500 + c) j).sender c = s.sender c := by
    unfold State.sender
    rw [State.bump_eq]
    unfold State.setObj
    rw [stored_tset _ _ _ _ _ _ (okey_ne (by decide) hj (Or.inr h1))]
  have ho : (s.bump (0x7500 + c) j).cyc (0x7500 + c) 5 = s.cyc (0x7500 + c) 5 := by
    unfold State.cyc
    rw [State.obj_bump_counter s (by omega) (by decide) hj (Or.inr h5)]
  unfold State.posted
  rw [hs, ho]
  rfl

/-- An accepted post before its signal: an orphaned notice it replaces is counted. -/
def State.postCounted (s : State) (c b : Nat) : State :=
  if ((s.channel c).slot b).st == .posted then s.bump (0x7500 + c) 0x0C else s

def State.slotPosted (s : State) (c b off len : Nat) : State :=
  ((s.postCounted c b).modChannel c (fun ch => ch.setSlot b ((s.postCounted c b).posted c off len))).bump (0x7500 + c) 6

theorem State.acceptPost_eq (s : State) (c b off len : Nat) : s.acceptPost c b off len =
    if ((s.slotPosted c b off len).channel c).mask.getLsbD b then s.slotPosted c b off len
    else (s.slotPosted c b off len).signal c := rfl

theorem State.slotPosted_frame (s : State) (c b off len : Nat) : s.slotPosted c b off len = { s with
    channels := tset s.channels c ((s.channel c).setSlot b (s.posted c off len)), od := (s.slotPosted c b off len).od } := by
  unfold State.slotPosted State.postCounted
  split
  · rw [State.posted_bump s c off len (by decide) (by decide) (by decide)]
    rfl
  · rfl

theorem State.slotPosted_count (s : State) (c b off len : Nat) :
    (s.slotPosted c b off len).obj (0x7500 + c) 6 = min (s.obj (0x7500 + c) 6 + 1) 0xFFFFFFFF := by
  unfold State.slotPosted
  rw [State.obj_bump_same]
  refine congrArg (fun x => min (x + 1) 0xFFFFFFFF) ((State.obj_same (s := s.postCounted c b)).trans ?_)
  unfold State.postCounted
  split
  · exact State.obj_bump_counter s (by omega) (by decide) (by decide) (Or.inr (by decide))
  · rfl

theorem State.acceptPost_frame (s : State) (c b off len : Nat) : s.acceptPost c b off len = { s with
    channels := tset s.channels c ((s.channel c).setSlot b (s.posted c off len))
    icu := (s.acceptPost c b off len).icu, od := (s.acceptPost c b off len).od } := by
  rw [State.acceptPost_eq]
  have h := State.slotPosted_frame s c b off len
  generalize s.slotPosted c b off len = u at h ⊢
  split
  · rw [h]
  · rw [State.signal_counts, h]

theorem State.acceptPost_count (s : State) (c b off len : Nat) :
    (s.acceptPost c b off len).obj (0x7500 + c) 6 = min (s.obj (0x7500 + c) 6 + 1) 0xFFFFFFFF := by
  rw [State.acceptPost_eq, ← State.slotPosted_count s c b off len]
  split
  · rfl
  · exact State.obj_signal _ _ (by omega) (by decide) (Or.inr (by decide))

theorem State.post_accepted {s : State} {c b off len : Nat}
    (hslot : ((s.channel c).slot b).st = .free ∨ ((s.channel c).slot b).st = .posted ∧ ((s.channel c).slot b).orphaned = true)
    (hfit : s.messageFits c off len = true) : s.post c b off len = (s.placed c off len).acceptPost c b off len :=
  if_pos (by rcases hslot with h | ⟨h, ho⟩ <;> simp [*])

theorem State.post_refused {s : State} {c b off len : Nat}
    (h : s.messageFits c off len = false ∨ ((s.channel c).slot b).st = .taken ∨
      ((s.channel c).slot b).st = .posted ∧ ((s.channel c).slot b).orphaned = false) :
    s.post c b off len = (s.bump (0x7500 + c) 7).dEvent 57 :=
  if_neg (by rcases h with h | h | ⟨h, ho⟩ <;> simp [*])

theorem told_channel {c j : Nat} (hc : c < 64) (h4 : j ≠ 4) (h10 : j ≠ 10) : told (0x7500 + c) j = false := by
  simp [told]
  omega

/-- A notice withdrawn by its timeout, its channel written and counted. -/
def State.noticeWithdrawn (s : State) (c b : Nat) : State :=
  (s.modChannel c (fun ch => { ch.setSlot b {} with tost := ch.tost ||| (1#64 <<< b) })).bump (0x7500 + c) 9

theorem State.withdrawNotice_eq (s : State) (c b : Nat) :
    s.withdrawNotice c b = ((s.noticeWithdrawn c b).dEvent 57).signal (0x080 + c) := rfl

theorem State.withdrawNotice_spares (s : State) (c b : Nat) :
    Spares (s.withdrawNotice c b) (s.noticeWithdrawn c b) := by
  rw [State.withdrawNotice_eq]
  exact (State.signal_spares _ _).chain (State.dEvent_spares _ _)

theorem State.withdrawNotice_channels (s : State) (c b : Nat) :
    (s.withdrawNotice c b).channels = (s.noticeWithdrawn c b).channels := by
  have h := s.withdrawNotice_spares c b
  simp only [Spares] at h
  simp only [h]

theorem State.withdrawNotice_channel (s : State) (c b : Nat) : (s.withdrawNotice c b).channel c =
    { (s.channel c).setSlot b {} with tost := (s.channel c).tost ||| (1#64 <<< b) } := by
  unfold State.channel
  rw [State.withdrawNotice_channels]
  exact tget_tset_same s.channels c _ {}

theorem State.withdrawNotice_count (s : State) {c : Nat} (hc : c < 64) (b : Nat) :
    (s.withdrawNotice c b).obj (0x7500 + c) 9 = min (s.obj (0x7500 + c) 9 + 1) 0xFFFFFFFF := by
  rw [State.withdrawNotice_eq, State.obj_signal _ _ (by omega) (by decide) (Or.inr (by decide)),
    (State.dEvent_tells _ 57).obj _ _ (by decide) (told_channel hc (by decide) (by decide))]
  unfold State.noticeWithdrawn
  rw [State.obj_bump_same]
  exact congrArg (fun x => min (x + 1) 0xFFFFFFFF) State.obj_same

theorem State.maskNotices_channel (s : State) (c : Nat) (w : W64) (k : Nat) : (s.maskNotices c w).channel k =
    if k = c then { s.channel c with mask := w &&& 0xFFFFFFFF#64 } else s.channel k := by
  unfold State.maskNotices
  extract_lets ch m unmasked s1
  have h1 : s1.channel k = if k = c then { s.channel c with mask := w &&& 0xFFFFFFFF#64 } else s.channel k :=
    State.channel_setChannel s c k _
  split
  · rw [State.signal_channel, h1]
  · exact h1

theorem State.maskNotices_frame (s : State) (c : Nat) (w : W64) : s.maskNotices c w = { s with
    channels := (s.maskNotices c w).channels, icu := (s.maskNotices c w).icu, od := (s.maskNotices c w).od } := by
  unfold State.maskNotices
  extract_lets ch m unmasked s1
  split
  · rw [State.signal_counts]
    rfl
  · rfl

theorem execTake_receiver {s : State} {c : Nat} (hup : s.busUp) (hc : c < 64) (hused : s.channelUsed c = true) :
    exec (.take (s.receiver c) c) s = .next
      (match (s.channel c).slotsWith (fun v => v.st == .posted) with
      | b :: _ => s.touch.takeNotice c b
      | [] => s.touch.takeReads c 0) := by
  refine ((if_neg (by omega)).trans (State.onBus_up _ _ hup)).trans (congrArg _ ?_)
  refine (if_neg ?_).trans ((if_neg ?_).trans rfl)
  · rw [show s.touch.channelUsed c = true from hused]; decide
  · rw [show s.touch.receiver c = s.receiver c from rfl]; simp

/-- Settles O46: a post is `State.slotPosted` or a refusal, a take `State.noticeTaken`, a timeout
`State.noticeWithdrawn`, and the other registers are written by their agent alone (`State.channelWrite_other`). -/
theorem mailboxRules : Obligations.MailboxRules := by
  unfold Obligations.MailboxRules
  refine ⟨⟨fun c w s hup hc hused hslot hfit => ?_, fun c w s hup hc hused hbad => ?_,
      fun c b rest s hup hc hused hfirst => ?_, fun c s hup hc hused hnone => ?_,
      fun c b s hc hb hclk hst ho => ?_, fun c b s h => ?_⟩,
    fun c w s hup hc hused => ?_, fun c w s hup hc hused => ?_, fun c w s hup hc hused => ?_,
    fun a c w s hup hc hused ha => ?_, fun a c w s hup hc hused => ?_, fun a c w s hc => ?_⟩
  case refine_1 =>
    generalize hb : bits w.toNat 52 48 = b at *
    generalize ho : bits w.toNat 15 0 = off at *
    generalize hl : bits w.toNat 47 32 = len at *
    have hrun : exec (.post (s.sender c) c w) s = .next ((s.touch.placed c off len).acceptPost c b off len) := by
      refine (State.channelWrite_own _ _ hup hc hused (beq_self_eq_true _)).trans (congrArg _ ?_)
      show s.touch.post c (bits w.toNat 52 48) (bits w.toNat 15 0) (bits w.toNat 47 32) = _
      rw [hb, ho, hl]
      exact State.post_accepted (s := s.touch) hslot hfit
    have hp := State.placed_frame s.touch c off len
    have hout := fun h : 4 ≤ s.sender c => State.placed_outside (s := s.touch) h off len
    refine ⟨_, hrun, ?_⟩
    generalize s.touch.placed c off len = u at hp hout ⊢
    have hposted : u.posted c off len = s.posted c off len := by rw [hp]; rfl
    have hch : (u.acceptPost c b off len).channel c = (s.channel c).setSlot b (s.posted c off len) := by
      rw [State.acceptPost_frame, hposted]
      refine (tget_tset_same u.channels c _ {}).trans ?_
      rw [hp]
      rfl
    refine ⟨?_, fun k hk => ?_, ?_, fun h => ?_, ?_⟩
    · rw [hch, Channel.slot_setSlot, if_pos rfl]
      rfl
    · rw [hch, Channel.slot_setSlot, if_neg hk]
    · rw [State.acceptPost_count, hp]
      exact congrArg (fun x => min (x + 1) 0xFFFFFFFF) State.obj_same
    · rw [State.acceptPost_frame, hout h]
      rfl
    · rw [State.acceptPost_frame, hp]
  case refine_2 =>
    have hrun : exec (.post (s.sender c) c w) s = .next ((s.touch.bump (0x7500 + c) 7).dEvent 57) :=
      (State.channelWrite_own _ _ hup hc hused (beq_self_eq_true _)).trans (congrArg _ (State.post_refused (s := s.touch) hbad))
    refine ⟨_, hrun, ?_, ?_⟩
    · rw [(State.dEvent_tells _ 57).obj _ _ (by decide) (told_channel hc (by decide) (by decide)), State.obj_touch_bump]
    · exact (State.dEvent_spares _ _).chain ((State.bump_spares _ _ _).chain s.touch_spares)
  case refine_3 =>
    have hrun : exec (.take (s.receiver c) c) s = .next (s.touch.takeNotice c b) := by
      rw [execTake_receiver hup hc hused, hfirst]
    have hch := (State.takeNotice_channel s.touch c b).trans (State.noticeTaken_channel s.touch c b)
    have hword := State.takeNotice_word s.touch c b
    rw [show s.touch.channel c = s.channel c from rfl] at hch hword
    refine ⟨_, hrun, hword, fun ho => ?_, fun ho => ?_, fun k hk => ?_, ?_, ?_⟩
    · rw [hch, if_neg (by rw [ho]; decide)]
      exact ⟨(Channel.slot_setSlot _ b b _).trans (if_pos rfl), rfl⟩
    · rw [hch, if_pos ho]
      exact ⟨(Channel.slot_setSlot _ b b _).trans (if_pos rfl), rfl⟩
    · rw [hch]
      split
      · exact tget_tset_ne (s.channel c).slots _ {} hk
      · exact tget_tset_ne (s.channel c).slots _ {} hk
    · rw [State.takeNotice_count, State.obj_touch]
    · exact State.takeNotice_frame s.touch c b
  case refine_4 =>
    rw [execTake_receiver hup hc hused, hnone]
    rfl
  case refine_5 =>
    have hrun : exec (.noticeTimeout c b) s = .next ((s.atTime ((s.channel c).slot b).due).withdrawNotice c b) :=
      if_pos (by simp [hc, hb, hclk, hst, ho])
    generalize ht : s.atTime ((s.channel c).slot b).due = u at hrun
    have hu : u.channel c = s.channel c := by rw [← ht]; rfl
    have hsp := u.withdrawNotice_spares c b
    have hnow : (u.withdrawNotice c b).tb.now = (u.noticeWithdrawn c b).tb.now := by
      simp only [Spares] at hsp
      simp only [hsp]
    refine ⟨_, hrun, ?_, ?_, ?_, ?_, ?_⟩
    · rw [State.withdrawNotice_channel]
      exact (Channel.slot_setSlot _ b b _).trans (if_pos rfl)
    · rw [State.withdrawNotice_channel, hu]
    · rw [State.withdrawNotice_count _ hc, ← ht, State.obj_atTime]
    · rw [hnow, ← ht]
      rfl
    · refine hsp.chain ?_
      rw [u.withdrawNotice_channels c b, hnow, ← ht]
      simp [State.noticeWithdrawn, State.atTime, State.modChannel, State.setChannel]
  case refine_6 =>
    refine if_neg ?_
    rcases h with h | h <;> simp [h]
  case refine_7 => exact State.channelWrite_own _ _ hup hc hused (beq_self_eq_true _)
  case refine_8 => exact State.channelWrite_own _ _ hup hc hused (beq_self_eq_true _)
  case refine_9 =>
    refine ⟨_, State.channelWrite_own _ _ hup hc hused (beq_self_eq_true _), ?_, fun k hk => ?_,
      State.maskNotices_frame _ _ _⟩
    · exact (State.maskNotices_channel s.touch c w c).trans (if_pos rfl)
    · exact (State.maskNotices_channel s.touch c w k).trans (if_neg hk)
  case refine_10 =>
    have hne : (s.sender c == a) = false := beq_eq_false_iff_ne.mpr ha
    have hrun : ∀ i f, s.channelWrite i c (s.sender c == a) f = .next (s.touch.bump (0x7500 + c) 0x0E) := fun i f => by
      rw [hne]; exact State.channelWrite_other hup hc hused i f
    exact ⟨_, hrun _ _, hrun _ _, hrun _ _, State.obj_touch_bump s _ _, rfl⟩
  case refine_11 =>
    exact ⟨_, State.channelWrite_unused hup hc hused _ _ _, State.channelWrite_unused hup hc hused _ _ _,
      State.obj_touch_bump s _ _, rfl⟩
  case refine_12 =>
    exact ⟨State.channelWrite_out hc _ _ _, State.channelWrite_out hc _ _ _, State.channelWrite_out hc _ _ _,
      State.channelWrite_out hc _ _ _, State.channelWrite_out hc _ _ _, if_pos hc⟩


/-! ### Reads of external sensors and memory stacks (09 R221 to R224, R237) -/

theorem State.sensor_modSensor (s : State) (n : Nat) (f : Sensor → Sensor) (k : Nat) :
    (s.modSensor n f).sensor k = if k = n then f (s.sensor n) else s.sensor k := tget_tset ..

/-- The sensor of an external slot with its re-arm taken up, where the slot begins. -/
def State.slotBegun (s : State) (n : Nat) : State :=
  if s.thermal.extRetry then s else s.modSensor n (fun v => { v with rearm := false })

theorem State.slotBegun_sensor (s : State) (n k : Nat) : (s.slotBegun n).sensor k =
    if k = n ∧ s.thermal.extRetry = false then { s.sensor n with rearm := false } else s.sensor k := by
  unfold State.slotBegun
  cases s.thermal.extRetry
  · simp
  · simp

theorem State.slotBegun_frame (s : State) (n : Nat) : s.slotBegun n = { s with sensors := (s.slotBegun n).sensors } := by
  unfold State.slotBegun
  split <;> rfl

/-- Whether the read of a slot restarts its sensor: a re-arm waited when the slot began. -/
def State.slotRestart (s : State) (n : Nat) : Bool :=
  if s.thermal.extRetry then s.thermal.extRestart else (s.sensor n).rearm

/-- A slot's read under the descriptor of its sensor. -/
def State.slotRead (s : State) (e : ExtSensor) (k : Nat) (value : Option Int) (restart : Bool) : State :=
  match value with
  | some t =>
    if e.coolant && s.coolSource % 2 == 1 then
      ({ s.slotDone k (some t) restart with thermal := { (s.slotDone k (some t) restart).thermal with
        coolExt := some s.tb.now } } : State).coolFollow
    else s.slotDone k (some t) restart
  | none =>
    if s.thermal.extRetry then s.slotDone k none restart
    else { s with thermal := { s.thermal with extNext := k, extRetry := true, extRestart := restart } }

theorem execExternalSensorSlot_eq {s : State} {raw : Option (BitVec 16)} {k : Nat} {e : ExtSensor} (hclk : s.tb.gclk = true)
    (hk : (s.externals.find? (fun k => s.thermal.extNext ≤ k)).or s.externals.head? = some k)
    (he : s.extSensor (272 + k) = some e) : exec (.externalSensorSlot raw) s =
      .next ((s.slotBegun (272 + k)).slotRead e k (raw.bind (extReading e)) (s.slotRestart (272 + k))) := by
  show execExternalSensorSlot raw s = _
  unfold execExternalSensorSlot
  rw [if_neg (by rw [hclk]; decide), hk]
  dsimp only
  rw [he]
  dsimp only
  change (match raw.bind (extReading e) with
    | some t =>
      if e.coolant && (s.slotBegun (272 + k)).coolSource % 2 == 1 then _ else _
    | none => if (s.slotBegun (272 + k)).thermal.extRetry then _ else _) = _
  unfold State.slotRead
  cases raw.bind (extReading e) with
  | some v =>
    dsimp only
    split <;> rfl
  | none =>
    dsimp only
    split <;> rfl

theorem State.slotBegun_thermal (s : State) (n : Nat) : (s.slotBegun n).thermal = s.thermal := by
  rw [State.slotBegun_frame]

/-- A good read of a slot: it waits for the commit point, the round moves on, and a selected coolant sensor counts as updated. -/
theorem State.slotRead_good (s : State) (e : ExtSensor) (k : Nat) (v : Int) (restart : Bool) :
    ∃ since cool, s.slotRead e k (some v) restart = { s with thermal := { s.thermal with
        extNext := k + 1, extRetry := false, extRestart := false
        extDone := s.thermal.extDone ++ [{ sensor := k, value := some v, retried := s.thermal.extRetry, restart }]
        coolExt := cool, coolSince := since } } ∧
      (e.coolant = true → s.coolSource % 2 = 1 → cool = some s.tb.now) := by
  unfold State.slotRead
  dsimp only
  by_cases h : (e.coolant && s.coolSource % 2 == 1) = true
  · rw [if_pos h]
    exact ⟨_, some s.tb.now, rfl, fun _ _ => rfl⟩
  · rw [if_neg h]
    exact ⟨s.thermal.coolSince, s.thermal.coolExt, rfl, fun h1 h2 => absurd (by simp [h1, h2]) h⟩

/-- A word of a used stack, kept with its instant. -/
def State.stackWord (s : State) (k : Nat) (w : BitVec 18) : State :=
  s.modSensor (256 + k) (fun v => { v with
    word := some w
    wordAt := s.tb.now
    again := if s.tb.now ≤ s.retryStart then stackReading w else v.again })

/-- What a word does to the census of its stack. -/
def State.stackCounted (s : State) (n : Nat) (w : BitVec 18) : State :=
  match (s.sensor n).censusEnd, stackReading w with
  | some _, some t =>
    if (s.sensor n).reads = 2 then
      s.setSensor n { s.sensor n with reads := 3, censusEnd := none, st := .valid, reading := t, count := 0 }
    else s.setSensor n { s.sensor n with reads := (s.sensor n).reads + 1 }
  | _, _ => s

theorem execMemoryStackWord_used {s : State} {k : Nat} (hclk : s.tb.gclk = true) (hk : k < 16)
    (hu : s.sensorUsed (256 + k) = true) (w : BitVec 18) :
    exec (.memoryStackWord k w) s = .next ((s.stackWord k w).stackCounted (256 + k) w) := by
  show execMemoryStackWord k w s = _
  unfold execMemoryStackWord
  dsimp only
  rw [if_neg (by simp [hclk, hk]), if_neg (by simp [hu])]
  unfold State.stackCounted State.stackWord
  split <;> simp_all
  split <;> rfl

/-- Settles O12: a slot's read is `State.slotRead` after `State.slotBegun`, a stack's word `State.stackCounted` after
`State.stackWord`. -/
theorem thermalReads : Obligations.ThermalReads := by
  unfold Obligations.ThermalReads
  refine ⟨fun raw k e v s hclk hk he hv => ?_, fun raw k e s hclk hk he hv hr => ?_, fun raw k e s hclk hk he hv hr => ?_,
    fun k w s hclk hk hu => ?_, fun k u s hu hcalm => ?_, fun k s h => ?_⟩
  case refine_1 =>
    obtain ⟨since, cool, hread, hcool⟩ := (s.slotBegun (272 + k)).slotRead_good e k v (s.slotRestart (272 + k))
    refine ⟨_, (execExternalSensorSlot_eq hclk hk he).trans (by rw [hv, hread]), ?_⟩
    have hsens := s.slotBegun_sensor (272 + k)
    have hframe := s.slotBegun_frame (272 + k)
    refine ⟨?_, rfl, rfl, fun h => ?_, fun h1 h2 => hcool h1 ?_ |>.trans ?_, fun n hn => ?_, ?_⟩
    · rw [hframe]; rfl
    · exact (congrArg Sensor.rearm (hsens (272 + k))).trans (by rw [if_pos ⟨rfl, h⟩])
    · rw [hframe]; exact h2
    · rw [hframe]
    · exact (hsens n).trans (if_neg fun h => hn h.1)
    · rw [hframe]
  case refine_2 =>
    refine ⟨_, execExternalSensorSlot_eq hclk hk he, ?_⟩
    have hsens := s.slotBegun_sensor (272 + k)
    have hframe := s.slotBegun_frame (272 + k)
    have hread : (s.slotBegun (272 + k)).slotRead e k none (s.slotRestart (272 + k)) = { s.slotBegun (272 + k) with
        thermal := { s.thermal with extNext := k, extRetry := true, extRestart := (s.sensor (272 + k)).rearm } } := by
      unfold State.slotRead State.slotRestart
      dsimp only
      rw [State.slotBegun_thermal, if_neg (by rw [hr]; decide), if_neg (by rw [hr]; decide)]
    rw [hv, hread]
    refine ⟨rfl, ?_, fun n hn => ?_, ?_⟩
    · exact (hsens (272 + k)).trans (if_pos ⟨rfl, hr⟩)
    · exact (hsens n).trans (if_neg fun h => hn h.1)
    · rw [hframe]
  case refine_3 =>
    rw [execExternalSensorSlot_eq hclk hk he, hv]
    have hbegun : s.slotBegun (272 + k) = s := if_pos hr
    have hrestart : s.slotRestart (272 + k) = s.thermal.extRestart := if_pos hr
    rw [hbegun, hrestart]
    refine congrArg _ ((if_pos hr).trans ?_)
    unfold State.slotDone
    rw [hr]
  case refine_4 =>
    refine ⟨_, execMemoryStackWord_used hclk hk hu w, ?_⟩
    have hword := fun j => s.sensor_modSensor (256 + k) (fun v => { v with
      word := some w, wordAt := s.tb.now, again := if s.tb.now ≤ s.retryStart then stackReading w else v.again }) j
    change ∀ j, (s.stackWord k w).sensor j = _ at hword
    have hself := (hword (256 + k)).trans (if_pos rfl)
    have hframe : s.stackWord k w = { s with sensors := (s.stackWord k w).sensors } := rfl
    generalize s.stackWord k w = t at hword hself hframe ⊢
    unfold State.stackCounted
    split
    · next x v hend hv =>
      split
      · next hreads =>
        have hset := fun j => t.sensor_setSensor (256 + k) j { t.sensor (256 + k) with
          reads := 3, censusEnd := none, st := .valid, reading := v, count := 0 }
        rw [(hset (256 + k)).trans (if_pos rfl)]
        rw [hself] at hreads
        refine ⟨by rw [hself], by rw [hself], fun v' _ hv' => ?_, fun n hn => ?_, ?_⟩
        · rw [if_pos hreads]
          exact ⟨rfl, Option.some.inj (hv.symm.trans hv'), rfl⟩
        · rw [(hset n).trans (if_neg hn), (hword n).trans (if_neg hn)]
        · unfold State.setSensor
          rw [hframe]
      · next hreads =>
        have hset := fun j => t.sensor_setSensor (256 + k) j { t.sensor (256 + k) with
          reads := (t.sensor (256 + k)).reads + 1 }
        rw [(hset (256 + k)).trans (if_pos rfl)]
        rw [hself] at hreads
        refine ⟨by rw [hself], by rw [hself], fun v' _ hv' => ?_, fun n hn => ?_, ?_⟩
        · rw [if_neg hreads, hself]
        · rw [(hset n).trans (if_neg hn), (hword n).trans (if_neg hn)]
        · unfold State.setSensor
          rw [hframe]
    · next hno =>
      refine ⟨by rw [hself], by rw [hself], fun v hend hv => ?_, fun n hn => (hword n).trans (if_neg hn), hframe⟩
      obtain ⟨u, hu⟩ := Option.isSome_iff_exists.mp hend
      exact absurd hv (hno u v (by rw [hself]; exact hu))
  case refine_5 =>
    let base : State := ((s.atTime u).modSensor (256 + k) (fun v => { v with censusEnd := none })).modSensor (256 + k)
      (fun v => { v with st := .missing, fresh := false })
    have hrun : exec (.stackCensusWindowEnd k) s =
        .next (base.trigger 37 3 (base.sensorRegion (256 + k)) 0 (base.thermalPa (256 + k) 0)) := by
      show execStackCensusWindowEnd k s = _
      unfold execStackCensusWindowEnd
      dsimp only
      rw [hu]
      rfl
    have hcalm' : base.calm 37 := State.calm_of hcalm State.obj_same
    have hn := (base.trigger_calm 37 3 (base.sensorRegion (256 + k)) 0 (base.thermalPa (256 + k) 0) hcalm').1
    have hbase : ∀ j, base.sensor j = if j = 256 + k then
        { s.sensor (256 + k) with censusEnd := none, st := .missing, fresh := false } else s.sensor j := fun j => by
      simp only [base, State.sensor_modSensor]
      split <;> rfl
    refine ⟨_, hrun, ?_⟩
    generalize base.trigger 37 3 (base.sensorRegion (256 + k)) 0 (base.thermalPa (256 + k) 0) = t at hn ⊢
    have hsens : ∀ j, t.sensor j = base.sensor j := fun j => by
      unfold State.sensor Noted at *
      rw [hn]
    refine ⟨?_, ?_, fun n hne => ?_, ?_, ?_⟩
    · rw [hsens, hbase, if_pos rfl]
    · rw [hsens, hbase, if_pos rfl]
    · rw [hsens, hbase, if_neg hne]
    · unfold Noted at hn
      rw [hn]
      rfl
    · unfold Noted at *
      rw [hn]
      rfl
  case refine_6 =>
    show execStackCensusWindowEnd k s = _
    unfold execStackCensusWindowEnd
    dsimp only
    rw [h]


/-! ### Phase Link: stage faults, retries, wake and park times, the f_sw boundary (03 R52 to R77) -/

/-! #### What lanes and rails alone bear -/

/-- Only lanes, rails and the object store differ. -/
def Drives (t s : State) : Prop := t = { s with lanes := t.lanes, rails := t.rails, od := t.od }

theorem Drives.refl (s : State) : Drives s s := rfl

theorem Drives.trans {a b c : State} (h : Drives a b) (g : Drives b c) : Drives a c := by
  unfold Drives at *
  rw [h, g]

theorem Drives.ite {c : Prop} [Decidable c] {a b s : State} (ha : Drives a s) (hb : Drives b s) :
    Drives (if c then a else b) s := by split <;> assumption

theorem Drives.each {α : Type} {f : State → α → State} (h : ∀ s x, Drives (f s x) s) (l : List α) (s : State) :
    Drives (Sys2Proof.Machine.each l f s) s :=
  each_carries (fun t => Drives t s) (fun t x ht => (h t x).trans ht) l s (Drives.refl s)

theorem Drives.spares {t s : State} (h : Drives t s) : Spares t s := by
  unfold Drives at h
  rw [h]
  simp

theorem Drives.setLane (s : State) (n : Nat) (v : Lane) : Drives (s.setLane n v) s := rfl

theorem Drives.modLane (s : State) (n : Nat) (f : Lane → Lane) : Drives (s.modLane n f) s := rfl

theorem Drives.setRail (s : State) (r : Nat) (v : Rail) : Drives (s.setRail r v) s := rfl

theorem Drives.modRail (s : State) (r : Nat) (f : Rail → Rail) : Drives (s.modRail r f) s := rfl

theorem Drives.bump (s : State) (i j : Nat) : Drives (s.bump i j) s := rfl

theorem State.transient_drives (s : State) (n : Nat) : Drives (s.transient n) s := by
  unfold State.transient
  exact Drives.ite ((Drives.bump _ _ _).trans (Drives.bump s _ _)) (Drives.refl s)

theorem State.abortShed_drives (s : State) (r : Nat) : Drives (s.abortShed r) s := by
  unfold State.abortShed
  exact Drives.ite ((Drives.bump _ _ _).trans (Drives.setRail s r _)) (Drives.setRail s r _)

theorem State.capacityCheck_drives (s : State) (r before : Nat) : Drives (s.capacityCheck r before) s := by
  unfold State.capacityCheck
  exact Drives.ite (Drives.setRail s r _) (Drives.refl s)

theorem State.parkLane_drives (s : State) (n : Nat) : Drives (s.parkLane n) s := Drives.modLane s n _

theorem State.wakeLane_drives (s : State) (n : Nat) (f : Bool) (d : Nat) : Drives (s.wakeLane n f d) s := by
  unfold State.wakeLane
  exact Drives.ite (Drives.setLane s n _) (Drives.refl s)

theorem State.addLane_drives (s : State) (n d : Nat) : Drives (s.addLane n d) s := by
  unfold State.addLane
  exact Drives.ite (Drives.refl s) ((Drives.modLane _ _ _).trans (s.wakeLane_drives n false d))

theorem State.raisePlan_drives (s : State) (r count d : Nat) : Drives (s.raisePlan r count d) s :=
  (Drives.each (fun t k => t.addLane_drives k d) _ _).trans (Drives.setRail s r _)

theorem State.loadStep_drives (s : State) (r : Nat) : Drives (s.loadStep r) s := by
  unfold State.loadStep
  exact (State.raisePlan_drives _ _ _ _).trans ((Drives.modRail _ _ _).trans ((State.abortShed_drives _ _).trans
    (Drives.bump s _ _)))

theorem State.endPeriod_drives (s : State) (n : Nat) : Drives (s.endPeriod n) s := by
  unfold State.endPeriod
  extract_lets l t near run s1 s2
  have h1 : Drives s1 s := Drives.setLane s n _
  have h2 : Drives s2 s := Drives.ite ((Drives.bump _ _ _).trans h1) h1
  exact Drives.ite ((State.transient_drives _ _).trans h2) h2

theorem State.applyShed_drives (s : State) (r count : Nat) : Drives (s.applyShed r count) s := by
  unfold State.applyShed
  exact (Drives.modRail _ _ _).trans (Drives.each (fun t n => t.parkLane_drives n) _ s)

theorem State.reinterleave_drives (s : State) (r : Nat) : Drives (s.reinterleave r) s := by
  unfold State.reinterleave
  exact Drives.each (fun t _ => Drives.modLane t _ _) _ s

theorem State.nextPeriod_drives (s : State) (n : Nat) : Drives (s.nextPeriod n) s := Drives.modLane s n _

/-! #### Held causes -/

theorem State.raiseCause_tells (s : State) (n k i c pa : Nat) : Tells (s.raiseCause n k i c pa) s := by
  unfold State.raiseCause
  refine Tells.ite (Tells.refl s) ((State.trigger_tells _ _ _ _ _ _).trans (Tells.ite ?_ (Tells.refl s)))
  exact Tells.setPin s n fun h => h

theorem State.followCause_tells (s : State) (n k i : Nat) (on : Bool) (c pa : Nat) :
    Tells (s.followCause n k i on c pa) s := by
  unfold State.followCause
  exact Tells.ite (s.raiseCause_tells n k i c pa) (s.dropCause_tells n k i)

theorem State.floorCheck_tells (s : State) (r : Nat) : Tells (s.floorCheck r) s := by
  unfold State.floorCheck
  exact Tells.ite (s.dropCause_tells _ _ _) (Tells.ite (Tells.refl s) (s.raiseCause_tells _ _ _ _ _))

theorem State.floorCheck_spares (s : State) (r : Nat) : Spares (s.floorCheck r) s := by
  unfold State.floorCheck
  split
  · exact s.dropCause_spares _ _ _
  · split
    · simp
    · exact s.raiseCause_spares _ _ _ _ _

theorem State.dropCause_noted (s : State) (n k i : Nat) : Noted (s.dropCause n k i) s := rfl

/-- A held cause of a calm pin is only noted. -/
theorem State.raiseCause_noted {s : State} {n : Nat} (h : s.calm n) (k i c pa : Nat) : Noted (s.raiseCause n k i c pa) s := by
  unfold State.raiseCause
  split
  · exact Noted.refl s
  · split
    · let held := s.modPin n fun p => { p with held := p.held ++ [(k, i)] }
      have hheld : held.calm n := by
        obtain ⟨hg, ha, hn, hl, hp, he⟩ := h
        refine ⟨hg, ha, hn, ?_, hp, he⟩
        exact (congrArg Pin.latched ((State.pin_setPin s n n _).trans (if_pos rfl))).trans hl
      exact (held.trigger_calm n k i c pa hheld).1.trans (b := held) rfl
    · exact (s.trigger_calm n k i c pa h).1

theorem State.floorCheck_noted {s : State} (h : s.calm 11) (r : Nat) : Noted (s.floorCheck r) s := by
  unfold State.floorCheck
  split
  · exact s.dropCause_noted _ _ _
  · split
    · exact Noted.refl s
    · exact State.raiseCause_noted h _ _ _ _

/-! #### Lanes that become lasting faults -/

theorem Lane.down_faulted {l : Lane} (h : l.st = .faulted) : l.down = l := by
  unfold Lane.down
  rw [h]

theorem Tells.faulted {t s : State} (h : Tells t s) {n : Nat} (hst : (s.lane n).st = .faulted) : t.lane n = s.lane n := by
  rcases h.lane n with e | e
  · exact e
  · rw [e, Lane.down_faulted hst]

/-- The lanes and rails of a lasting fault, before its trigger. -/
def State.laneLost (s : State) (n cause : Nat) : State :=
  (((s.modLane n (fun l => { l.stop .faulted with cause := cause })).modRail (s.laneRail n) (fun v => { v with
    reLane := v.reLane || (s.lane n).st.running
    plan := min v.plan
      ((s.modLane n (fun l => { l.stop .faulted with cause := cause })).availableLanes (s.laneRail n)).length })).abortShed
    (s.laneRail n)).capacityCheck (s.laneRail n) (s.laneCapacity (s.laneRail n))

theorem State.lane_of_lanes {t s : State} (h : t.lanes = s.lanes) (n : Nat) : t.lane n = s.lane n := by
  unfold State.lane
  rw [h]

theorem State.abortShed_lanes (s : State) (r : Nat) : (s.abortShed r).lanes = s.lanes := by
  unfold State.abortShed
  dsimp only
  split <;> rfl

theorem State.capacityCheck_lanes (s : State) (r before : Nat) : (s.capacityCheck r before).lanes = s.lanes := by
  unfold State.capacityCheck
  dsimp only
  split <;> rfl

theorem State.laneLost_lane (s : State) (n cause k : Nat) : (s.laneLost n cause).lane k =
    if k = n then { (s.lane n).stop .faulted with cause := cause } else s.lane k := by
  have h : (s.laneLost n cause).lanes = (s.modLane n (fun l => { l.stop .faulted with cause := cause })).lanes :=
    (State.capacityCheck_lanes _ _ _).trans (State.abortShed_lanes _ _)
  rw [State.lane_of_lanes h]
  exact State.lane_setLane s n k _

theorem State.laneLost_drives (s : State) (n cause : Nat) : Drives (s.laneLost n cause) s :=
  (State.capacityCheck_drives _ _ _).trans ((State.abortShed_drives _ _).trans ((Drives.modRail _ _ _).trans
    (Drives.modLane s n _)))

/-- A lasting fault, whatever its pin brings. -/
theorem State.faultLane_faults (s : State) (n pin cause : Nat) : ((s.faultLane n pin cause).lane n).st = .faulted ∧
    ((s.faultLane n pin cause).lane n).cause = cause ∧ Spares (s.faultLane n pin cause) s := by
  have hlost : (s.laneLost n cause).lane n = { (s.lane n).stop .faulted with cause := cause } :=
    (s.laneLost_lane n cause n).trans (if_pos rfl)
  have ht : Tells (s.faultLane n pin cause) (s.laneLost n cause) :=
    (State.floorCheck_tells _ _).trans (State.trigger_tells _ _ _ _ _ _)
  have hl := ht.faulted (n := n) (by rw [hlost]; rfl)
  rw [hl, hlost]
  exact ⟨rfl, rfl, (State.floorCheck_spares _ _).chain ((State.trigger_spares _ _ _ _ _ _).chain
    (s.laneLost_drives n cause).spares)⟩

/-! #### The retry of a stage fault -/

/-- The lanes and rails of a lane that enters its retry, before the lane floor is checked. -/
def State.retryBegun (s : State) (n : Nat) : State :=
  (((s.modLane n (fun l => { l.stop .retry with retry := .waiting, faultAt := s.tb.now })).modRail (s.laneRail n) (fun v => {
    v with
      reLane := v.reLane || (s.lane n).st.running
      plan := min v.plan ((s.modLane n (fun l => { l.stop .retry with retry := .waiting, faultAt := s.tb.now })).availableLanes
        (s.laneRail n)).length })).abortShed (s.laneRail n)).capacityCheck (s.laneRail n) (s.laneCapacity (s.laneRail n))

theorem State.startRetry_eq (s : State) (n : Nat) : s.startRetry n = (s.retryBegun n).floorCheck (s.laneRail n) := rfl

theorem State.retryBegun_lane (s : State) (n k : Nat) : (s.retryBegun n).lane k =
    if k = n then { (s.lane n).stop .retry with retry := .waiting, faultAt := s.tb.now } else s.lane k := by
  have h : (s.retryBegun n).lanes =
      (s.modLane n (fun l => { l.stop .retry with retry := .waiting, faultAt := s.tb.now })).lanes :=
    (State.capacityCheck_lanes _ _ _).trans (State.abortShed_lanes _ _)
  rw [State.lane_of_lanes h]
  exact State.lane_setLane s n k _

theorem State.retryBegun_drives (s : State) (n : Nat) : Drives (s.retryBegun n) s :=
  (State.capacityCheck_drives _ _ _).trans ((State.abortShed_drives _ _).trans ((Drives.modRail _ _ _).trans
    (Drives.modLane s n _)))

theorem State.obj_abortShed (s : State) (r : Nat) {i j : Nat} (hj : j < 256) (h : j ≠ 0x24) :
    (s.abortShed r).obj i j = s.obj i j := by
  unfold State.abortShed
  dsimp only
  split
  · exact (State.obj_setObj_other _ _ hj (by decide) (by simp [defaultReads]) (Or.inr h)).trans State.obj_same
  · exact State.obj_same

theorem State.obj_capacityCheck (s : State) (r before i j : Nat) : (s.capacityCheck r before).obj i j = s.obj i j := by
  unfold State.capacityCheck
  dsimp only
  split
  · exact State.obj_same
  · rfl

/-- A pin stays calm where lanes, rails and counters alone change, its programmed level kept. -/
theorem Drives.calm {t s : State} (h : Drives t s) {n : Nat} (hobj : t.obj (0x5010 + n) 2 = s.obj (0x5010 + n) 2)
    (hc : s.calm n) : t.calm n := by
  unfold Drives at h
  exact State.calm_of hc hobj (by rw [h]) (by rw [h]) (by rw [h]) (by rw [h])

/-- Settles O15: a lasting fault survives whatever its pin brings (`State.faultLane_faults`); a retry with a calm pin is
`State.retryBegun`. -/
theorem stageFaults : Obligations.StageFaults := by
  unfold Obligations.StageFaults
  refine ⟨fun n s hn hw hf => ?_, fun n s hn hw hb ho hopen hcalm => ?_, fun n low s hst hr hlow => ?_, fun n s hst hr => ?_,
    fun n u s hu => ?_, fun n s hst hrun => ?_, fun n s h => if_neg ?_, fun n low s h => ⟨if_neg ?_, if_neg ?_⟩,
    fun n s h => ?_, fun n s h => if_neg ?_⟩
  case refine_1 =>
    have hrun : exec (.stageFault n) s = .next (s.faultLane n 7 1) := by
      refine (if_pos (by simp [hn, hw])).trans (if_pos ?_)
      rcases hf with h | h | h <;> simp [h]
    exact ⟨_, hrun, s.faultLane_faults n 7 1⟩
  case refine_2 =>
    have hrun : exec (.stageFault n) s = .next (s.startRetry n) :=
      (if_pos (by simp [hn, hw])).trans (if_neg (by simp [hb, ho, hopen]))
    have hobj : (s.retryBegun n).obj (0x5010 + 11) 2 = s.obj (0x5010 + 11) 2 := by
      unfold State.retryBegun
      rw [State.obj_capacityCheck, State.obj_abortShed _ _ (by decide) (by decide)]
      exact State.obj_same
    have hd := s.retryBegun_drives n
    have hn' := State.floorCheck_noted (hd.calm hobj hcalm) (s.laneRail n)
    have hlane : ∀ k, ((s.retryBegun n).floorCheck (s.laneRail n)).lane k = (s.retryBegun n).lane k := fun k => by
      refine State.lane_of_lanes ?_ k
      unfold Noted at hn'
      rw [hn']
    rw [State.startRetry_eq] at hrun
    refine ⟨_, hrun, ?_, ?_, ?_, fun k hk => ?_, ?_⟩
    · rw [hlane, State.retryBegun_lane, if_pos rfl]; rfl
    · rw [hlane, State.retryBegun_lane, if_pos rfl]
    · rw [hlane, State.retryBegun_lane, if_pos rfl]
    · rw [hlane, State.retryBegun_lane, if_neg hk]
    · unfold Drives at hd
      unfold Noted at *
      rw [hn', hd]
  case refine_3 =>
    have hrun : exec (.stageFaultRetryEnable ⟨n, low⟩) s = .next
        ((s.atTime ((s.lane n).faultAt + low + s.cyc 0x2000 3)).setLane n { s.lane n with
          retry := .enabled
          wakeEnd := some (max s.tb.now ((s.lane n).faultAt + low + s.cyc 0x2000 3) + cycles (s.obj (0x2100 + n) 0x0A))
          observing := some (max s.tb.now ((s.lane n).faultAt + low + s.cyc 0x2000 3) + s.cyc 0x2000 4) }) :=
      if_pos (by simp [hst, hr, hlow])
    refine ⟨_, hrun, ?_, ?_, rfl, ?_, ?_, fun k hk => ?_, rfl⟩
    · rw [State.lane_setLane, if_pos rfl]
    · rw [State.lane_setLane, if_pos rfl]; exact hst
    · rw [State.lane_setLane, if_pos rfl]; rfl
    · rw [State.lane_setLane, if_pos rfl]; rfl
    · rw [State.lane_setLane, if_neg hk]; rfl
  case refine_4 =>
    have hrun : exec (.stageFaultReleaseLimit n) s =
        .next ((s.atTime ((s.lane n).faultAt + s.cyc 0x2000 5)).faultLane n 7 1) := if_pos (by simp [hst, hr])
    obtain ⟨h1, h2, hsp⟩ := (s.atTime ((s.lane n).faultAt + s.cyc 0x2000 5)).faultLane_faults n 7 1
    refine ⟨_, hrun, h1, h2, ?_⟩
    simp only [Spares] at hsp
    simp only [hsp]
    rfl
  case refine_5 =>
    let ended := ((s.atTime u).setLane n { s.lane n with observing := none }).bump (0x2100 + n) 0x10
    have hrun : exec (.stageFaultRetryObservationEnd n) s = .next (ended.transient 7) := by
      show execStageFaultRetryObservationEnd n s = _
      unfold execStageFaultRetryObservationEnd
      dsimp only
      rw [hu]
    have hod : ended.transient 7 = { ended with od := (ended.transient 7).od } := by
      unfold State.transient
      split <;> rfl
    refine ⟨_, hrun, ?_, fun k hk => ?_, ?_, ?_⟩
    · rw [hod]
      exact (State.lane_setLane (s.atTime u) n n _).trans (if_pos rfl)
    · rw [hod]
      exact (State.lane_setLane (s.atTime u) n k _).trans (if_neg hk)
    · rw [hod]; rfl
    · rw [hod]; rfl
  case refine_6 =>
    have hrun' : exec (.laneOpen n) s = .next (s.faultLane n 8 2) := if_pos (by simp [hst, hrun])
    exact ⟨_, hrun', s.faultLane_faults n 8 2⟩
  case refine_7 => rcases h with h | h <;> simp [h]
  case refine_8 => simpa using fun h1 h2 => absurd h2 (h h1)
  case refine_9 => simpa using h
  case refine_10 =>
    show execStageFaultRetryObservationEnd n s = _
    unfold execStageFaultRetryObservationEnd
    dsimp only
    rw [h]
  case refine_11 => rcases h with h | h <;> simp [h]


/-! ### Wake and park times, sense failure and the f_sw boundary (03 R52 to R58, R70 to R72) -/

/-! #### Commands that are everything their cycle brings -/

/-- The state whose triggers are collected until the end of the cycle. -/
def State.gathering (s : State) : State := { s with gov := { s.gov with gathered := some [] } }

theorem Spares.refl (s : State) : Spares s s := by simp

theorem Spares.ite {p : Prop} [Decidable p] {t u s : State} (h1 : Spares t s) (h2 : Spares u s) :
    Spares (if p then t else u) s := by
  split
  · exact h1
  · exact h2

theorem Spares.gov (s : State) (g : Gov) : Spares { s with gov := g } s :=
  Spares.refl s

/-- What the triggers that a cycle has collected bring at its end. -/
def State.settle (u : State) : State :=
  State.latchAll { u with gov := { u.gov with gathered := none } } (u.gov.gathered.getD [])

theorem State.settle_spares (u : State) : Spares u.settle u := by
  have h1 := State.latchAll_spares { u with gov := { u.gov with gathered := none } } (u.gov.gathered.getD [])
  have h2 : Spares { u with gov := { u.gov with gathered := none } } u := Spares.gov u _
  unfold State.settle
  generalize State.latchAll _ _ = t at h1 ⊢
  exact h1.chain h2

theorem State.settle_tells (u : State) : Tells u.settle u :=
  (State.latchAll_tells _ _).trans (Tells.gov u _)

theorem State.oneCycle_eq (f : State → State) (s : State) :
    s.oneCycle f = if s.gov.gathered.isSome then f s else (f s.gathering).settle := rfl

/-- A whole cycle is its body, run with triggers collected, and what they then bring. -/
theorem State.oneCycle_settles (f : State → State) (s : State) : ∃ u, (u = s ∨ u = s.gathering) ∧
    Tells (s.oneCycle f) (f u) ∧ Spares (s.oneCycle f) (f u) := by
  rw [State.oneCycle_eq]
  split
  · exact ⟨s, Or.inl rfl, Tells.refl _, Spares.refl _⟩
  · exact ⟨s.gathering, Or.inr rfl, State.settle_tells _, State.settle_spares _⟩

/-- A body that triggers nothing leaves the cycle as it is. -/
theorem State.oneCycle_quiet {f : State → State} {s : State} (h : ∀ u, Drives (f u) u) : ∃ u, (u = s ∨ u = s.gathering) ∧
    s.oneCycle f = { f u with gov := s.gov } := by
  unfold State.oneCycle
  split
  · refine ⟨s, Or.inl rfl, ?_⟩
    have hd := h s
    unfold Drives at hd
    rw [hd]
  · next hg =>
    refine ⟨s.gathering, Or.inr rfl, ?_⟩
    have hd := h s.gathering
    have hgov : (f s.gathering).gov = s.gathering.gov := by
      unfold Drives at hd
      rw [hd]
    change State.latchAll { f s.gathering with gov := { (f s.gathering).gov with gathered := none } }
      ((f s.gathering).gov.gathered.getD []) = _
    rw [hgov]
    refine (State.latchAll_nil _).trans ?_
    have hnone : s.gov.gathered = none := by simpa using hg
    have : ({ s.gathering.gov with gathered := none } : Gov) = s.gov := by
      unfold State.gathering
      rw [← hnone]
    rw [this]

/-! #### The end of a switching period -/

theorem State.transient_rails (s : State) (n : Nat) : (s.transient n).rails = s.rails ∧ (s.transient n).lanes = s.lanes := by
  unfold State.transient
  split <;> exact ⟨rfl, rfl⟩

theorem State.obj_transient (s : State) (n : Nat) {i j : Nat} (hj : j < 256) (h8 : j ≠ 8) (hA : j ≠ 0x0A) :
    (s.transient n).obj i j = s.obj i j := by
  unfold State.transient
  split
  · exact (State.obj_bump_counter _ (by decide) hj (by decide) (Or.inr h8)).trans
      (State.obj_bump_counter s (by omega) hj (by decide) (Or.inr hA))
  · rfl

/-- The lane at the end of a period: its counts and marks change, its state and its angle do not. -/
theorem State.endPeriod_lane (s : State) (n k : Nat) : ((s.endPeriod n).lane k).st = (s.lane k).st := by
  unfold State.endPeriod
  extract_lets l t near run s1 s2
  have h1 : (s1.lane k).st = (s.lane k).st := by
    simp only [s1, State.lane_setLane]
    split
    · next e => rw [e]
    · rfl
  have h2 : (s2.lane k).st = (s.lane k).st := by
    rw [← h1]
    simp only [s2]
    split <;> rfl
  split
  · rw [← h2, State.lane_of_lanes (s2.transient_rails 8).2]
  · exact h2

theorem State.endPeriod_rails (s : State) (n : Nat) : (s.endPeriod n).rails = s.rails := by
  unfold State.endPeriod
  extract_lets l t near run s1 s2
  have h2 : s2.rails = s.rails := by
    simp only [s2]
    split <;> rfl
  split
  · rw [(s2.transient_rails 8).1, h2]
  · exact h2

theorem State.obj_endPeriod (s : State) (n i : Nat) : (s.endPeriod n).obj i 1 = s.obj i 1 := by
  unfold State.endPeriod
  extract_lets l t near run s1 s2
  have h2 : s2.obj i 1 = s.obj i 1 := by
    simp only [s2]
    split
    · exact (State.obj_setObj_other _ _ (by decide) (by decide) (by simp [defaultReads]) (Or.inr (by decide))).trans
        State.obj_same
    · exact State.obj_same
  split
  · rw [State.obj_transient _ _ (by decide) (by decide) (by decide), h2]
  · exact h2

/-- What decides which lanes of a rail run: the configuration, the lanes' rails and their states. -/
theorem State.runningLanes_congr {t s : State} (hcfg : t.cfg = s.cfg) (hobj : ∀ i, t.obj i 1 = s.obj i 1)
    (hst : ∀ k, (t.lane k).st = (s.lane k).st) (r : Nat) : t.runningLanes r = s.runningLanes r := by
  unfold State.runningLanes State.railLanes State.laneCount State.laneRail
  simp only [hcfg, hobj, hst]

/-- The lanes of a rail at the end of its period. -/
def State.periodEnded (s : State) (r : Nat) : State :=
  each ((s.railLanes r).filter (fun n => (s.lane n).st == .active)) (fun s n => s.endPeriod n) s

/-- A re-interleave is over: none waits, and the next periods begin. -/
def State.relaned (s : State) (r : Nat) : State :=
  let s := (s.modRail r (fun v => { v with reLane := false })).reinterleave r
  each (s.runningLanes r) (fun s n => s.nextPeriod n) s

theorem State.relaned_drives (s : State) (r : Nat) : Drives (s.relaned r) s :=
  (Drives.each (fun t n => t.nextPeriod_drives n) _ _).trans ((State.reinterleave_drives _ r).trans (Drives.modRail s r _))

theorem State.relaned_reLane (s : State) (r : Nat) : ((s.relaned r).rail r).reLane = false := by
  unfold State.relaned
  have hnext : ∀ (l : List Nat) (t : State), (each l (fun s n => s.nextPeriod n) t).rails = t.rails := fun l t =>
    each_keeps (f := fun (s : State) n => s.nextPeriod n) (fun t : State => t.rails) (fun t n => rfl) l t
  have hre : ∀ t : State, (t.reinterleave r).rails = t.rails := fun t => by
    unfold State.reinterleave
    exact each_keeps (f := fun (s : State) (q : Nat × Nat) => s.modLane q.1 (fun v => { v with
      theta := angle q.2 (t.runningLanes r).length (periodSteps (t.rail r).code) })) (fun t : State => t.rails)
      (fun t n => rfl) _ t
  dsimp only
  unfold State.rail
  rw [hnext, hre]
  exact congrArg Rail.reLane (State.rail_setRail s r r { s.rail r with reLane := false } |>.trans (if_pos rfl))

/-- Lanes given their angles in order. -/
theorem State.angles_lane (g : Nat → Nat) (n : Nat) (l : List Nat) (hl : l.Nodup) : ∀ (i k : Nat) (s : State), l[k]? = some n →
    (each (l.zipIdx i) (fun s q => s.modLane q.1 (fun v => { v with theta := g q.2 })) s).lane n =
      { s.lane n with theta := g (i + k) } := by
  have hother : ∀ (l : List Nat) (i : Nat) (s : State), n ∉ l →
      (each (l.zipIdx i) (fun s q => s.modLane q.1 (fun v => { v with theta := g q.2 })) s).lane n = s.lane n := by
    intro l
    induction l with
    | nil => exact fun i s _ => rfl
    | cons x l ih =>
      intro i s hn
      rw [List.zipIdx_cons, each_cons, ih _ _ (fun h => hn (by simp [h]))]
      exact (State.lane_setLane s x n _).trans (if_neg fun e => hn (by simp [e]))
  induction l with
  | nil => intro i k s h; simp at h
  | cons x l ih =>
    intro i k s h
    rw [List.nodup_cons] at hl
    rw [List.zipIdx_cons, each_cons]
    cases k with
    | zero =>
      have hx : x = n := by simpa using h
      subst hx
      rw [hother l _ _ hl.1]
      exact (State.lane_setLane s x x _).trans (if_pos rfl)
    | succ k =>
      have hk : l[k]? = some n := by simpa using h
      have hne : n ≠ x := fun e => hl.1 (by rw [← e]; exact List.mem_of_getElem? hk)
      rw [ih hl.2 (i + 1) k _ hk]
      rw [show (s.modLane x fun v => { v with theta := g i }).lane n = s.lane n from
        (State.lane_setLane s x n _).trans (if_neg hne), show i + 1 + k = i + (k + 1) by omega]

theorem State.runningLanes_nodup (s : State) (r : Nat) : (s.runningLanes r).Nodup :=
  (List.nodup_range.filter _).filter _

theorem State.relaned_lane {s : State} {r k n : Nat} (h : (s.runningLanes r)[k]? = some n) :
    ((s.relaned r).lane n).theta = angle k (s.runningLanes r).length (periodSteps (s.rail r).code) ∧
      ((s.relaned r).lane n).st = (s.lane n).st := by
  unfold State.relaned
  extract_lets u
  have hnext : (((each (u.runningLanes r) (fun s n => s.nextPeriod n) u).lane n).theta,
      ((each (u.runningLanes r) (fun s n => s.nextPeriod n) u).lane n).st) = ((u.lane n).theta, (u.lane n).st) := by
    refine each_keeps (fun t : State => ((t.lane n).theta, (t.lane n).st)) (fun t m => ?_) _ u
    simp only [State.nextPeriod, State.modLane_eq, State.lane_setLane]
    split
    · next e => rw [e]; rfl
    · rfl
  obtain ⟨h1, h2⟩ := Prod.mk.injEq _ _ _ _ ▸ hnext
  let q := s.modRail r (fun v => { v with reLane := false })
  have hq : q.runningLanes r = s.runningLanes r := State.runningLanes_congr rfl (fun _ => State.obj_same) (fun _ => rfl) r
  have hcode : (q.rail r).code = (s.rail r).code := by
    rw [show q.rail r = { s.rail r with reLane := false } from (State.rail_setRail s r r _).trans (if_pos rfl)]
  have hu := State.angles_lane (fun i => angle i (q.runningLanes r).length (periodSteps (q.rail r).code)) n
    (q.runningLanes r) (q.runningLanes_nodup r) 0 k q (by rw [hq]; exact h)
  change u.lane n = _ at hu
  rw [h1, h2, hu, hq, hcode, Nat.zero_add]
  exact ⟨rfl, rfl⟩

theorem State.periodEnded_drives (s : State) (r : Nat) : Drives (s.periodEnded r) s :=
  Drives.each (fun t n => t.endPeriod_drives n) _ s

theorem State.periodEnded_running (s : State) (r : Nat) : (s.periodEnded r).runningLanes r = s.runningLanes r := by
  refine State.runningLanes_congr ?_ (fun i => ?_) (fun k => ?_) r
  · have h := s.periodEnded_drives r
    unfold Drives at h
    rw [h]
  · exact each_keeps (fun t : State => t.obj i 1) (fun t n => t.obj_endPeriod n i) _ s
  · exact each_keeps (fun t : State => (t.lane k).st) (fun t n => t.endPeriod_lane n k) _ s

theorem State.periodEnded_rail (s : State) (r k : Nat) : (s.periodEnded r).rail k = s.rail k := by
  have h : (s.periodEnded r).rails = s.rails := each_keeps (fun t : State => t.rails) (fun t n => t.endPeriod_rails n) _ s
  unfold State.rail
  rw [h]

theorem State.shedBlindPair_spares (s : State) (r : Nat) : Spares (s.shedBlindPair r) s := by
  unfold State.shedBlindPair
  extract_lets pair ts s1 s2
  have h1 : Drives s1 s := Drives.each (fun t n => Drives.modLane t n _) _ s
  have h2 : Drives s2 s := (Drives.modRail s1 r _).trans h1
  exact (State.floorCheck_spares _ _).chain ((State.triggerAll_spares _ _ _ _ _).chain h2.spares)

/-- A boundary changes of what faults spare nothing. -/
theorem State.fSwBoundary_spares (s : State) (r : Nat) : Spares (s.fSwBoundary r) s := by
  unfold State.fSwBoundary
  extract_lets s1 s2 s3 s4 s5
  have h1 : Spares s1 s := (s.periodEnded_drives r).spares
  clear_value s1
  have h2 : Spares s2 s := Spares.ite ((s1.shedBlindPair_spares r).chain h1) h1
  clear_value s2
  have h3 : Spares s3 s := by
    simp only [s3]
    split
    · exact (s2.applyShed_drives r _).spares.chain h2
    · exact h2
  clear_value s3
  have h4 : Spares s4 s := Spares.ite ((s3.loadStep_drives r).spares.chain h3) h3
  clear_value s4
  have h5 : Spares (s4.relaned r) s4 := (s4.relaned_drives r).spares
  exact Spares.chain h5 h4

theorem State.fSwBoundary_reLane (s : State) (r : Nat) : ((s.fSwBoundary r).rail r).reLane = false := by
  unfold State.fSwBoundary
  extract_lets s1 s2 s3 s4 s5
  exact s4.relaned_reLane r

/-- A boundary with no pair, no shed and no step waiting is a period's end and a re-interleave. -/
def State.plainBoundary (s : State) (r : Nat) : State := (s.periodEnded r).relaned r

theorem State.fSwBoundary_plain {s : State} {r : Nat} (hp : (s.rail r).pairShed = false) (hs : (s.rail r).shed = none)
    (hd : (s.rail r).stepDue = false) : s.fSwBoundary r = s.plainBoundary r := by
  unfold State.fSwBoundary
  extract_lets s1 s2 s3 s4 s5
  have h1 : s1 = s.periodEnded r := rfl
  have h2 : s2 = s1 := if_neg (by rw [h1, State.periodEnded_rail, hp]; decide)
  have h3 : s3 = s2 := by
    simp only [s3]
    rw [h2, h1, State.periodEnded_rail, hs]
  have h4 : s4 = s3 := if_neg (by rw [h3, h2, h1, State.periodEnded_rail, hd]; decide)
  change s4.relaned r = _
  rw [h4, h3, h2, h1]
  rfl

theorem State.oneCycle_congr {f g : State → State} {s : State} (h : f s = g s) (hg : f s.gathering = g s.gathering) :
    s.oneCycle f = s.oneCycle g := by
  unfold State.oneCycle
  rw [show ({ s with gov := { s.gov with gathered := some [] } } : State) = s.gathering from rfl, h, hg]

/-! #### Sense failure -/

/-- The lanes, rails and learning of a lane that has lost its sensing, before its trigger. -/
def State.senseFailed (s : State) (n : Nat) : State :=
  let s1 := s.setLane n { s.lane n with
    st := .blind, cause := 3, retrying := false, retryLeft := 0, senseLost := false, badRun := 0, nearRun := 0
    tacc := 0, trim := 0 }
  let s2 := if (s.railLanes (s.laneRail n)).any (fun n => (s.lane n).st == .blind) then
    (s1.modRail (s.laneRail n) (fun v => { v with pairShed := true })).abortShed (s.laneRail n) else s1
  (s2.capacityCheck (s.laneRail n) (s.laneCapacity (s.laneRail n))).unlearn (s.laneRail n) 6

theorem execLaneSenseFailure_lost {s : State} {n : Nat} (h1 : (s.lane n).st = .active) (h2 : (s.lane n).senseLost = true) :
    exec (.laneSenseFailure n) s = .next ((s.senseFailed n).trigger 9 1 (s.laneRail n) 3 (s.lanePa n)) :=
  if_pos (by simp [h1, h2])

theorem State.senseFailed_frame (s : State) (n : Nat) : s.senseFailed n = { s with
    lanes := (s.senseFailed n).lanes, rails := (s.senseFailed n).rails, od := (s.senseFailed n).od
    tally := (s.senseFailed n).tally } := by
  unfold State.senseFailed
  extract_lets l s1 s2
  have h1 : Drives s1 s := Drives.setLane s n _
  have h2 : Drives s2 s := Drives.ite ((State.abortShed_drives _ _).trans ((Drives.modRail _ _ _).trans h1)) h1
  have h3 := (s2.capacityCheck_drives (s.laneRail n) (s.laneCapacity (s.laneRail n))).trans h2
  generalize s2.capacityCheck (s.laneRail n) (s.laneCapacity (s.laneRail n)) = u at h3 ⊢
  unfold Drives at h3
  rw [h3]
  rfl

theorem State.senseFailed_lane (s : State) (n k : Nat) : (s.senseFailed n).lane k = if k = n then { s.lane n with
    st := .blind, cause := 3, retrying := false, retryLeft := 0, senseLost := false, badRun := 0, nearRun := 0
    tacc := 0, trim := 0 } else s.lane k := by
  unfold State.senseFailed
  extract_lets l s1 s2
  have h2 : s2.lanes = s1.lanes := by
    simp only [s2]
    split
    · exact State.abortShed_lanes _ _
    · rfl
  have h3 : ((s2.capacityCheck (s.laneRail n) (s.laneCapacity (s.laneRail n))).unlearn (s.laneRail n) 6).lanes = s1.lanes :=
    (State.capacityCheck_lanes _ _ _).trans h2
  rw [State.lane_of_lanes h3]
  exact State.lane_setLane s n k _

theorem State.obj_senseFailed (s : State) (n i : Nat) : (s.senseFailed n).obj i 2 = s.obj i 2 := by
  unfold State.senseFailed
  extract_lets l s1 s2
  have h2 : s2.obj i 2 = s.obj i 2 := by
    simp only [s2]
    split
    · exact (State.obj_abortShed _ _ (by decide) (by decide)).trans State.obj_same
    · exact State.obj_same
  exact (State.obj_same (s := s2.capacityCheck (s.laneRail n) (s.laneCapacity (s.laneRail n)))).trans
    ((State.obj_capacityCheck _ _ _ _ _).trans h2)

/-- Settles O16: the f_sw boundary ends the period (`State.periodEnded`), applies what waits and re-interleaves
(`State.relaned`). -/
theorem laneTimers : Obligations.LaneTimers := by
  unfold Obligations.LaneTimers
  refine ⟨fun n u s hu => ?_, fun n u s hu hst hsd => ?_, fun n s hst hl hcalm => ?_, fun r s hu hb => ?_,
    fun r k n s hu hb hp hs hd hk => ?_, fun n s h => ?_, fun n s h => ?_, fun n s h => if_neg ?_, fun r s h => if_neg ?_⟩
  case refine_1 =>
    have hrun : exec (.laneWakeEnd n) s = .next ((s.atTime u).setLane n { s.lane n with
        st := .warm, wakeEnd := none, retry := .none
        parkEnd := if (s.lane n).startDue then none else if (s.lane n).forecastWake then (s.lane n).parkEnd
          else some (max s.tb.now u + s.cyc 0x2000 2) }) := by
      show execLaneWakeEnd n s = _
      unfold execLaneWakeEnd
      dsimp only
      rw [hu]
      rfl
    refine ⟨_, hrun, ?_⟩
    have hself := State.lane_setLane (s.atTime u) n n { s.lane n with
        st := .warm, wakeEnd := none, retry := .none
        parkEnd := if (s.lane n).startDue then none else if (s.lane n).forecastWake then (s.lane n).parkEnd
          else some (max s.tb.now u + s.cyc 0x2000 2) }
    rw [hself, if_pos rfl]
    refine ⟨rfl, rfl, rfl, rfl, fun h1 h2 => ?_, fun k hk => ?_, rfl⟩
    · rw [h1, h2]; rfl
    · exact (State.lane_setLane (s.atTime u) n k _).trans (if_neg hk)
  case refine_2 =>
    have hrun : exec (.warmParkExpiry n) s = .next ((s.atTime u).setLane n { (s.lane n).stop .cold with
        observing := (s.lane n).observing }) := by
      show execWarmParkExpiry n s = _
      unfold execWarmParkExpiry
      dsimp only
      rw [hu]
      exact if_pos (by simp [hst, hsd])
    refine ⟨_, hrun, ?_⟩
    rw [State.lane_setLane, if_pos rfl]
    refine ⟨rfl, ?_, fun k hk => (State.lane_setLane (s.atTime u) n k _).trans (if_neg hk), rfl⟩
    unfold Lane.stop Lane.down
    rw [hst]
  case refine_3 =>
    have hframe := s.senseFailed_frame n
    have hcalm' : (s.senseFailed n).calm 9 := State.calm_of hcalm (s.obj_senseFailed n _) (by rw [hframe]) (by rw [hframe])
      (by rw [hframe]) (by rw [hframe])
    have hn := ((s.senseFailed n).trigger_calm 9 1 (s.laneRail n) 3 (s.lanePa n) hcalm').1
    refine ⟨_, execLaneSenseFailure_lost hst hl, ?_⟩
    have hlane := s.senseFailed_lane n
    generalize (s.senseFailed n).trigger 9 1 (s.laneRail n) 3 (s.lanePa n) = t at hn ⊢
    have ht : ∀ k, t.lane k = (s.senseFailed n).lane k := fun k => by
      unfold Noted at hn
      rw [hn]
      rfl
    refine ⟨?_, ?_, fun k hk => ?_, ?_⟩
    · rw [ht, hlane, if_pos rfl]
    · rw [ht, hlane, if_pos rfl]
    · rw [ht, hlane, if_neg hk]
    · unfold Noted at *
      rw [hn, hframe]
  case refine_4 =>
    have hrun : exec (.fSwBoundary r) s = .next (s.oneCycle (fun s => s.fSwBoundary r)) := if_pos (by simp [hu, hb])
    obtain ⟨u, hu', ht, hsp⟩ := State.oneCycle_settles (fun s => s.fSwBoundary r) s
    refine ⟨_, hrun, (ht.rail r).still (u.fSwBoundary_reLane r), hsp.chain ((u.fSwBoundary_spares r).chain ?_)⟩
    rcases hu' with rfl | rfl
    · exact Spares.refl _
    · exact Spares.gov _ _
  case refine_5 =>
    have hplain : s.oneCycle (fun s => s.fSwBoundary r) = s.oneCycle (fun s => s.plainBoundary r) :=
      State.oneCycle_congr (State.fSwBoundary_plain hp hs hd) (State.fSwBoundary_plain (s := s.gathering) hp hs hd)
    have hrun : exec (.fSwBoundary r) s = .next (s.oneCycle (fun s => s.plainBoundary r)) :=
      (if_pos (by simp [hu, hb])).trans (congrArg _ hplain)
    obtain ⟨u, hu', heq⟩ := State.oneCycle_quiet (f := fun s => s.plainBoundary r) (s := s)
      (fun u => (State.relaned_drives _ r).trans (u.periodEnded_drives r))
    refine ⟨_, hrun, ?_⟩
    rw [heq]
    have hlanes : u.runningLanes r = s.runningLanes r ∧ u.rail r = s.rail r ∧ u.lane n = s.lane n := by
      rcases hu' with rfl | rfl <;> exact ⟨rfl, rfl, rfl⟩
    obtain ⟨hl1, hl2, hl3⟩ := hlanes
    obtain ⟨h1, h2⟩ := State.relaned_lane (s := u.periodEnded r) (r := r) (k := k) (n := n)
      (by rw [State.periodEnded_running, hl1]; exact hk)
    have hst : ((u.periodEnded r).lane n).st = (u.lane n).st :=
      each_keeps (fun t : State => (t.lane n).st) (fun t m => t.endPeriod_lane m n) _ u
    rw [State.periodEnded_running, State.periodEnded_rail, hl1, hl2] at h1
    rw [hst, hl3] at h2
    exact ⟨h1, h2⟩
  case refine_6 =>
    show execLaneWakeEnd n s = _
    unfold execLaneWakeEnd
    dsimp only
    rw [h]
  case refine_7 =>
    show execWarmParkExpiry n s = _
    unfold execWarmParkExpiry
    dsimp only
    split
    · next u hu =>
      refine if_neg ?_
      rcases h with h | h | h
      · exact absurd (hu.symm.trans h) (by simp)
      · simp [h]
      · simp [h]
    · rfl
  case refine_8 => rcases h with h | h <;> simp [h]
  case refine_9 => rcases h with h | h <;> simp [h]


/-! ### Sense-tap exclusion and the rail voltage faults (04 R83, R84, R110, R111) -/

theorem Spares.senseTaps {t s : State} (h : Spares t s) : t.senseTaps = s.senseTaps := by simp only [h]

theorem Spares.now {t s : State} (h : Spares t s) : t.tb.now = s.tb.now := by simp only [h]

theorem Spares.mram {t s : State} (h : Spares t s) : t.mram = s.mram := by simp only [h]

theorem Spares.sensors {t s : State} (h : Spares t s) : t.sensors = s.sensors := by simp only [h]

/-- A trigger of a reached pin latches it, whatever it then brings. -/
theorem State.trigger_pin {s : State} {n k : Nat} (i c pa : Nat) (hk : k < 4) (hr : s.pinReached n = true)
    (hg : s.gov.gathered = none) (hc : s.tb.gclk = true) : ((s.trigger n k i c pa).pin n).latched = true := by
  rw [State.trigger_arrives i c pa hk hr hg hc]
  obtain ⟨-, -, hlatched, -⟩ := (s.bump (0x5010 + n) 0x0B).arrive_lands n k i c pa
  exact (State.work_tells _ _ _).pin n hlatched

/-- A trigger of a pin at TRIP level takes a Governor that is not OFF to TRIP. -/
theorem State.trigger_lands_trip {s : State} {n k : Nat} (i c pa : Nat) (hk : k < 4) (hr : s.pinReached n = true)
    (hg : s.gov.gathered = none) (hc : s.tb.gclk = true) (hl : (s.pin n).latched = false) (h4 : 4 ≤ s.obj (0x5010 + n) 2)
    (hoff : s.gov.st ≠ .off) : (s.trigger n k i c pa).gov.st = .trip := by
  have hn := State.pinReached_lt hr
  rw [State.trigger_arrives i c pa hk hr hg hc]
  let b := s.bump (0x5010 + n) 0x0B
  obtain ⟨hgov, -, -, -⟩ := b.arrive_lands n k i c pa
  by_cases htrip : s.gov.st = .trip
  · obtain ⟨hstays, hlocal⟩ := State.arrive_tripped (s := b) htrip n k i c pa
    exact (State.work_tripped 4999 _ _ (by rw [hgov]; exact htrip) hlocal).1.1.trans (by rw [hgov]; exact htrip)
  · have hasks : b.levelWork n (s.obj (0x5010 + n) 2) = [.enter .trip n] := by
      unfold State.levelWork
      rw [if_pos h4, if_neg (by simp [b, htrip, hoff])]
    rw [State.arrive_asks, State.arriveEff_bump hn hl, hasks]
    exact (State.work_enterTrip _ n 4998 _ (by rw [hgov]; exact htrip) (by rw [hgov]; exact hoff)
      (State.arriveEvent_local b (b.arrived n k i c pa) n)).1

theorem State.senseTap_setSenseTap (s : State) (n k : Nat) (v : SenseTap) :
    (s.setSenseTap n v).senseTap k = if k = n then v else s.senseTap k := tget_tset ..

/-- A sense tap is lost, and with the last one the sense of its rail. -/
def State.senseExcluded (s : State) (tap r : Nat) : State :=
  let s := s.setSenseTap tap { (s.senseTap tap) with excluded := true, retry := false, suspect := 0 }
  let s := s.trigger 12 1 r 0 (s.railPa r tap)
  if (s.sensesOf r).isEmpty then
    (s.modRail r (fun v => { v with senseGone := true })).raiseCause 13 1 r 0 (s.railPa r tap)
  else s

theorem State.senseExcluded_settles {s : State} (tap r : Nat) (hg : s.gov.gathered = none) (hc : s.tb.gclk = true) :
    Spares (s.senseExcluded tap r)
      (s.setSenseTap tap { (s.senseTap tap) with excluded := true, retry := false, suspect := 0 }) ∧
    ((s.senseExcluded tap r).pin 12).latched = true := by
  unfold State.senseExcluded
  extract_lets v s1 s2
  have hr : s1.pinReached 12 = true := State.pinReached_running hc (by decide) rfl
  have h1 : Spares s2 s1 := State.trigger_spares _ _ _ _ _ _
  have hpin : (s2.pin 12).latched = true := State.trigger_pin r 0 (s1.railPa r tap) (by decide) hr hg hc
  clear_value s2
  split
  · have h2 : Spares (s2.modRail r (fun v => { v with senseGone := true })) s2 := (Drives.modRail s2 r _).spares
    refine ⟨Spares.chain (State.raiseCause_spares _ _ _ _ _ _) (h2.chain h1), (State.raiseCause_tells _ _ _ _ _ _).pin 12 hpin⟩
  · exact ⟨h1, hpin⟩

theorem execSenseTapExclusion_lost {s : State} {tap r : Nat} (hr : s.senseRail tap = some r)
    (hc : (s.senseTap tap).confirmed = true) (he : (s.senseTap tap).excluded = false) :
    exec (.senseTapExclusion tap) s = .next (s.senseExcluded tap r) := by
  show execSenseTapExclusion tap s = _
  unfold execSenseTapExclusion State.senseExcluded
  rw [hr]
  dsimp only
  rw [if_pos (by simp [hc, he])]
  exact (apply_ite Host.Outcome.next _ _ _).symm

/-- Settles O18: each event is a trigger of a reached pin (`State.trigger_pin`, `State.trigger_lands_trip`). -/
theorem railFaults : Obligations.RailFaults := by
  unfold Obligations.RailFaults
  refine ⟨fun tap r s hg ha hr hc he => ?_, fun r high s hg ha hu hv hh => ?_, fun r s hg ha hu h8 => ?_,
    fun tap s h => ?_, fun r high s h => if_neg ?_, fun r s h => if_neg ?_⟩
  case refine_1 =>
    obtain ⟨hs, hpin⟩ := State.senseExcluded_settles tap r ha hg
    refine ⟨_, execSenseTapExclusion_lost hr hc he, ?_⟩
    have hall : ∀ k, (s.senseExcluded tap r).senseTap k = (s.setSenseTap tap _).senseTap k := fun k => by
      unfold State.senseTap
      rw [hs.senseTaps]
    have htap := fun k => (hall k).trans (s.senseTap_setSenseTap tap k _)
    refine ⟨?_, fun k hk => ?_, hpin, hs.now, hs.mram, hs.sensors⟩
    · rw [htap, if_pos rfl]
    · rw [htap, if_neg hk]
  case refine_2 =>
    have hr : s.pinReached 14 = true := State.pinReached_running hg (by decide) rfl
    exact ⟨_, if_pos (by simp [hu, hv, hh]), State.trigger_pin r 0 _ (by decide) hr ha hg, State.trigger_spares _ _ _ _ _ _,
      fun hl h4 hoff => State.trigger_lands_trip r 0 _ (by decide) hr ha hg hl h4 hoff⟩
  case refine_3 =>
    let s1 := s.setRail r { s.rail r with uvRun := 0 }
    have hrun : exec (.railUndervoltage r) s = .next (s1.trigger 15 1 r 0 (s.railPa r 0)) := if_pos (by simp [hu, h8])
    have hr : s1.pinReached 15 = true := State.pinReached_running hg (by decide) rfl
    have h1 : Spares s1 s := (Drives.setRail s r _).spares
    have h2 : Spares (s1.trigger 15 1 r 0 (s.railPa r 0)) s1 := State.trigger_spares _ _ _ _ _ _
    refine ⟨_, hrun, State.trigger_pin r 0 _ (by decide) hr ha hg, ?_, h2.chain h1⟩
    exact ((State.trigger_tells s1 15 1 r 0 _).rail r).uv (by rw [State.rail_setRail, if_pos rfl])
  case refine_4 =>
    show execSenseTapExclusion tap s = _
    unfold execSenseTapExclusion
    cases hr : s.senseRail tap with
    | none => rfl
    | some r => exact if_neg (by rcases h with h | h | h <;> simp_all)
  case refine_5 =>
    rcases h with h | h | h
    · simp [h]
    · simp [h]
    · simp [Nat.not_lt.mpr h]
  case refine_6 =>
    rcases h with h | h
    · simp [h]
    · simp [Nat.not_le.mpr h]


/-! ### SEQUENCING of rails (03 R64, R65, 04 R115 to R117, 17 R400) -/

/-! #### Several triggers of one pin -/

/-- Triggers of one pin latch it together. -/
theorem State.latchAll_same {s : State} {n : Nat} {ts : List HeldTrigger} (hn : n < 64) (h : ∀ t ∈ ts, t.pin = n) :
    s.latchAll ts = (s.latchPin ts).1.work workFuel
      ((s.latchPin ts).2.filter Work.trips ++ (s.latchPin ts).2.filter (fun w => !w.trips)) := by
  obtain ⟨a, b, hab⟩ := List.append_of_mem (List.mem_range.mpr hn)
  have hnodup : (a ++ n :: b).Nodup := hab ▸ List.nodup_range
  have hother : ∀ m, m ≠ n → ts.filter (·.pin == m) = [] := fun m hm => by
    rw [List.filter_eq_nil_iff]
    intro t ht
    simp [h t ht, hm.symm]
  have hself : ts.filter (·.pin == n) = ts := by
    rw [List.filter_eq_self]
    intro t ht
    simp [h t ht]
  have ha : ∀ m ∈ a, ts.filter (·.pin == m) = [] := fun m hm =>
    hother m fun e => (List.nodup_append.mp hnodup).2.2 m hm n (by simp) e
  have hb : ∀ m ∈ b, ts.filter (·.pin == m) = [] := fun m hm =>
    hother m fun e => (List.nodup_cons.mp (List.nodup_append.mp hnodup).2.1).1 (e ▸ hm)
  unfold State.latchAll
  rw [hab, List.foldl_append, State.foldPins_untriggered _ a ha, List.foldl_cons, State.foldPins_untriggered _ b hb, hself]
  simp

theorem State.latchPin_reached {s : State} {t : HeldTrigger} (rest : List HeldTrigger) (hr : s.pinReached t.pin = true)
    (hc : s.tb.gclk = true) (hk : t.kind < 4) : ((s.latchPin (t :: rest)).1.pin t.pin).latched = true := by
  let b := s.bumpBy (0x5010 + t.pin) 0x0B (rest.filter (·.kind != 4)).length
  have hq : b.doWork t.work = (b.bump (0x5010 + t.pin) 0x0B).arrive t.pin t.kind t.idx t.cause t.pa := by
    rw [show t.work = .trigger t.pin t.kind t.idx t.cause t.pa from rfl, State.doWork_trigger (s := b) hr hc, if_neg (by omega)]
  obtain ⟨-, -, hl, -⟩ := (b.bump (0x5010 + t.pin) 0x0B).arrive_lands t.pin t.kind t.idx t.cause t.pa
  unfold State.latchPin
  dsimp only
  rw [if_pos hr]
  dsimp only
  rw [hq, State.modPin_eq, State.pin_setPin, if_pos rfl, if_pos hl]
  exact hl

theorem State.triggerAll_pin {s : State} {n k : Nat} (c : Nat) {ts : List (Nat × Nat)} (hts : ts ≠ []) (hk : k < 4)
    (hr : s.pinReached n = true) (hg : s.gov.gathered = none) (hc : s.tb.gclk = true) :
    ((s.triggerAll n k c ts).pin n).latched = true := by
  unfold State.triggerAll State.raise
  rw [hg]
  dsimp only
  rw [State.latchAll_same (State.pinReached_lt hr) (by rintro t ht; obtain ⟨q, -, rfl⟩ := List.mem_map.mp ht; rfl)]
  refine (State.work_tells _ _ _).pin n ?_
  obtain ⟨q, rest, rfl⟩ := List.exists_cons_of_ne_nil hts
  exact State.latchPin_reached (s := s) (t := { pin := n, kind := k, idx := q.1, cause := c, pa := q.2 }) _ hr hc hk

/-! #### What a power-down leaves -/

/-- A latched pin stays latched, a COLD or MISSING lane stays so with its cause, and a rail that is off stays off, its
setpoint 0. -/
structure Downs (t s : State) : Prop where
  pin : ∀ m, (s.pin m).latched = true → (t.pin m).latched = true
  lane : ∀ n, (s.lane n).st = .cold ∨ (s.lane n).st = .missing →
    (t.lane n).st = (s.lane n).st ∧ (t.lane n).cause = (s.lane n).cause
  rail : ∀ r, (s.rail r).seq = .off → (t.rail r).seq = .off ∧ ((s.rail r).setpoint = 0 → (t.rail r).setpoint = 0)

theorem Downs.refl (s : State) : Downs s s := ⟨fun _ h => h, fun _ _ => ⟨rfl, rfl⟩, fun _ h => ⟨h, fun h => h⟩⟩

theorem Downs.trans {a b c : State} (h : Downs a b) (g : Downs b c) : Downs a c := by
  refine ⟨fun m hm => h.pin m (g.pin m hm), fun n hn => ?_, fun r hr => ?_⟩
  · obtain ⟨h1, h2⟩ := g.lane n hn
    obtain ⟨h3, h4⟩ := h.lane n (by rw [h1]; exact hn)
    exact ⟨h3.trans h1, h4.trans h2⟩
  · obtain ⟨h1, h2⟩ := g.rail r hr
    obtain ⟨h3, h4⟩ := h.rail r h1
    exact ⟨h3, fun h0 => h4 (h2 h0)⟩

theorem Downs.ite {c : Prop} [Decidable c] {a b s : State} (ha : Downs a s) (hb : Downs b s) :
    Downs (if c then a else b) s := by split <;> assumption

theorem Lane.down_cold {l : Lane} (h : l.st = .cold ∨ l.st = .missing) : l.down.st = l.st ∧ l.down.cause = l.cause := by
  unfold Lane.down
  rcases h with h | h <;> rw [h]
  · exact ⟨rfl, rfl⟩
  · exact ⟨h, rfl⟩

theorem Tells.downs {t s : State} (h : Tells t s) : Downs t s := by
  refine ⟨h.pin, fun n hn => ?_, fun r hr => ⟨(h.rail r).off hr, (h.rail r).zero⟩⟩
  rcases h.lane n with e | e <;> rw [e]
  · exact ⟨rfl, rfl⟩
  · exact Lane.down_cold hn

theorem Downs.of_eq {t s : State} (hp : t.pins = s.pins := by rfl) (hl : t.lanes = s.lanes := by rfl)
    (hr : t.rails = s.rails := by rfl) : Downs t s := by
  refine ⟨fun m hm => ?_, fun n _ => ?_, fun r h => ?_⟩
  · unfold State.pin at hm ⊢; rw [hp]; exact hm
  · rw [State.lane_of_lanes hl]; exact ⟨rfl, rfl⟩
  · unfold State.rail at h ⊢; rw [hr]; exact ⟨h, fun h => h⟩

theorem Lane.endRetry_cold {l : Lane} (h : l.st = .cold ∨ l.st = .missing) :
    l.endRetry.st = l.st ∧ l.endRetry.cause = l.cause := by
  unfold Lane.endRetry
  rw [if_neg (by rcases h with h | h <;> simp [h])]
  exact ⟨rfl, rfl⟩

/-- The lanes of a rail at the beginning of its power-down. -/
def State.retriesEnded (s : State) (r : Nat) : State := each (s.railLanes r) (fun s n => s.modLane n Lane.endRetry) s

theorem State.retriesEnded_downs (s : State) (r : Nat) : Downs (s.retriesEnded r) s := by
  unfold State.retriesEnded
  refine each_carries (f := fun (s : State) n => s.modLane n Lane.endRetry) (fun t => Downs t s) (fun t n ht => ?_) _ s
    (Downs.refl s)
  have hone : Downs (t.modLane n Lane.endRetry) t := ⟨fun _ h => h, fun k hk => ?_, fun _ h => ⟨h, fun h => h⟩⟩
  · exact hone.trans ht
  rw [State.modLane_eq, State.lane_setLane]
  split
  · next e => rw [e] at hk ⊢; exact Lane.endRetry_cold hk
  · exact ⟨rfl, rfl⟩

theorem State.retriesEnded_rails (s : State) (r : Nat) : (s.retriesEnded r).rails = s.rails :=
  each_keeps (f := fun (s : State) n => s.modLane n Lane.endRetry) (fun t : State => t.rails) (fun _ _ => rfl) _ s

theorem State.rail_railOff (s : State) (r k : Nat) : (s.railOff r).rail k = if k = r then (s.rail r).down else s.rail k := by
  unfold State.railOff
  dsimp only
  split
  · exact State.rail_setRail s r k _
  · exact State.rail_setRail s r k _

theorem State.rail_abortShed (s : State) {r k : Nat} (h : k ≠ r) : (s.abortShed r).rail k = s.rail k := by
  unfold State.abortShed
  dsimp only
  split <;> exact (State.rail_setRail s r k _).trans (if_neg h)

theorem State.startDischarge_cases (s : State) (r : Nat) : s.startDischarge r = (s.retriesEnded r).railOff r ∨
    ∃ v, s.startDischarge r = ((s.retriesEnded r).abortShed r).setRail r v := by
  unfold State.startDischarge
  extract_lets s1
  split
  · exact Or.inl rfl
  · exact Or.inr ⟨_, rfl⟩

theorem State.startDischarge_rail (s : State) {r k : Nat} (h : k ≠ r) : (s.startDischarge r).rail k = s.rail k := by
  have hrails : (s.retriesEnded r).rail k = s.rail k := by unfold State.rail; rw [s.retriesEnded_rails r]
  rcases s.startDischarge_cases r with e | ⟨v, e⟩ <;> rw [e]
  · rw [State.rail_railOff, if_neg h, hrails]
  · rw [State.rail_setRail, if_neg h, State.rail_abortShed _ h, hrails]

theorem State.railOff_lanes (s : State) (r : Nat) : (s.railOff r).lanes = s.lanes := by
  unfold State.railOff
  dsimp only
  split <;> rfl

theorem State.abortShed_pins (s : State) (r : Nat) : (s.abortShed r).pins = s.pins := by
  unfold State.abortShed
  dsimp only
  split <;> rfl

theorem State.startDischarge_downs {s : State} {r : Nat} (h : (s.rail r).seq ≠ .off) : Downs (s.startDischarge r) s := by
  have h1 := s.retriesEnded_downs r
  have hlanes : (s.startDischarge r).lanes = (s.retriesEnded r).lanes := by
    rcases s.startDischarge_cases r with e | ⟨v, e⟩ <;> rw [e]
    · exact State.railOff_lanes _ r
    · exact State.abortShed_lanes _ r
  refine ⟨fun m hm => ?_, fun n hn => ?_, fun k hk => ?_⟩
  · have hm1 := h1.pin m hm
    rcases s.startDischarge_cases r with e | ⟨v, e⟩ <;> rw [e]
    · exact (State.railOff_tells _ r).pin m hm1
    · show (tget ((s.retriesEnded r).abortShed r).pins m {}).latched = true
      rw [State.abortShed_pins]
      exact hm1
  · rw [State.lane_of_lanes hlanes]
    exact h1.lane n hn
  · rw [State.startDischarge_rail s (r := r) (k := k) fun e => h (e ▸ hk)]
    exact ⟨hk, fun h => h⟩

theorem State.discharges_downs (l : List Nat) (hl : l.Nodup) : ∀ s : State, (∀ r ∈ l, (s.rail r).seq ≠ .off) →
    Downs (each l State.startDischarge s) s := by
  induction l with
  | nil => exact fun s _ => Downs.refl s
  | cons r l ih =>
    intro s h
    rw [List.nodup_cons] at hl
    rw [each_cons]
    refine (ih hl.2 _ fun k hk => ?_).trans (State.startDischarge_downs (h r (by simp)))
    rw [State.startDischarge_rail s (r := r) (k := k) fun e => hl.1 (e ▸ hk)]
    exact h k (by simp [hk])

theorem State.enter_tells (s : State) (new : GovState) (why : Nat) : Tells (s.enter new why) s := State.work_tells _ _ s

theorem State.downDone_downs (s : State) : Downs s.downDone s := by
  unfold State.downDone
  dsimp only
  exact Downs.ite (Downs.ite ((State.enter_tells _ _ _).downs.trans Downs.of_eq) Downs.of_eq)
    ((State.enter_tells _ _ _).downs.trans Downs.of_eq)

theorem State.railsLeft_off {s : State} {r : Nat} (h : r ∈ s.railsLeft) : (s.rail r).seq ≠ .off := by
  unfold State.railsLeft at h
  simpa using (List.mem_filter.mp h).2

theorem State.railsLeft_nodup (s : State) : s.railsLeft.Nodup := (List.nodup_range.filter _).filter _

theorem State.railsDownStep_downs (fuel : Nat) : ∀ s : State, Downs (s.railsDownStep fuel) s := by
  induction fuel with
  | zero => exact fun s => Downs.refl s
  | succ fuel ih =>
    intro s
    unfold State.railsDownStep
    refine Downs.ite s.downDone_downs ?_
    have hd := State.discharges_downs (((s.railsLeft).filter (fun r => s.position r == (s.railsLeft.map s.position).foldl max 0)).filter
      (fun r => (s.rail r).seq != .discharging)) ((s.railsLeft_nodup.filter _).filter _) s (fun r hr =>
        State.railsLeft_off (List.mem_filter.mp (List.mem_filter.mp hr).1).1)
    exact Downs.ite ((ih _).trans (Downs.trans Downs.of_eq hd)) (Downs.trans Downs.of_eq hd)

theorem State.waitTick_downs (s : State) : Downs s.waitTick s := by
  unfold State.waitTick
  exact each_carries (f := fun (s : State) d => s.modDomain d _) (fun t => Downs t s)
    (fun t d ht => Downs.trans Downs.of_eq ht) _ s (Downs.refl s)

theorem State.startFall_downs (s : State) {d : Nat} (hd : d < 32) (delay : Nat) (after : AfterGating) :
    Downs (s.startFall d delay after) s :=
  (State.waitTick_downs _).trans (Downs.trans Downs.of_eq (s.droopLoss_tells hd).downs)

theorem State.dropPredicted_downs (s : State) (n : Nat) : Downs (s.dropPredicted n) s := by
  obtain ⟨r, d, hw⟩ := s.withdraw_horizons n
  unfold State.dropPredicted
  rw [hw]
  exact Downs.of_eq

theorem State.withdrawDomain_downs (s : State) (d : Nat) : Downs (s.withdrawDomain d) s := by
  unfold State.withdrawDomain State.freeDomain
  refine each_carries (f := fun (s : State) n => if ((s.readSlot n).slot n).st == .predicted then (s.readSlot n).dropPredicted n
    else s.readSlot n) (fun t => Downs t s) (fun t n ht => ?_) _ s (Downs.refl s)
  have hread : Downs (t.readSlot n) t := by
    unfold State.readSlot
    exact Downs.ite ((State.dEvent_tells _ _).downs.trans Downs.of_eq) (Downs.refl t)
  exact Downs.ite (((t.readSlot n).dropPredicted_downs n).trans (hread.trans ht)) (hread.trans ht)

theorem State.startDrain_downs (s : State) (d : Nat) : Downs (s.startDrain d) s :=
  (State.withdrawDomain_downs _ d).trans Downs.of_eq

/-- One domain's turn in SEQUENCING down. -/
def State.gateDomain (s : State) (d : Nat) : State :=
  match (s.domain d).st with
  | .waking | .settling => s.startFall d 0 .off
  | .on => if (s.domainsUsed.filter (fun o => s.droopRail o == s.droopRail d
      && ((s.domain o).st == .draining || (s.domain o).st == .gating))).length < s.obj 0x3400 5 then s.startDrain d else s
  | .unused | .off | .draining | .gating | .faulted => s

theorem State.gateDomain_downs (s : State) {d : Nat} (hd : d < 32) : Downs (s.gateDomain d) s := by
  unfold State.gateDomain
  split
  · exact s.startFall_downs hd 0 .off
  · exact s.startFall_downs hd 0 .off
  · exact Downs.ite (s.startDrain_downs d) (Downs.refl s)
  all_goals exact Downs.refl s

theorem Downs.each_of {α : Type} {f : State → α → State} {l : List α} (h : ∀ x ∈ l, ∀ s, Downs (f s x) s) (s : State) :
    Downs (each l f s) s := by
  induction l generalizing s with
  | nil => exact Downs.refl s
  | cons x l ih =>
    rw [each_cons]
    exact (ih (fun y hy => h y (by simp [hy])) _).trans (h x (by simp) s)

theorem State.gateNext_eq (s : State) : s.gateNext = if s.gov.phase == .gating then
    let t := each (List.range 32).reverse State.gateDomain s
    if t.domainsUsed.all (fun d => (t.domain d).st == .off || (t.domain d).st == .faulted) then t.railsDownStep railFuel else t
  else s := rfl

theorem State.gateNext_downs (s : State) : Downs s.gateNext s := by
  rw [State.gateNext_eq]
  have h := Downs.each_of (f := State.gateDomain) (l := (List.range 32).reverse)
    (fun d hd t => t.gateDomain_downs (by simpa using hd)) s
  exact Downs.ite (Downs.ite ((State.railsDownStep_downs _ _).trans h) h) (Downs.refl s)

theorem State.seqFail_downs (s : State) : Downs s.seqFail s := by
  unfold State.seqFail State.startDown
  exact Downs.ite (Downs.refl s) ((State.gateNext_downs _).trans Downs.of_eq)

theorem State.railMissed_downs (s : State) (r : Nat) : Downs (s.railMissed r) s :=
  (State.seqFail_downs _).trans (State.trigger_tells _ _ _ _ _ _).downs


/-! #### The census of a position, and the events of SEQUENCING -/

/-- One rail's turn when the census of its position starts. -/
def State.railCensused (s : State) (r : Nat) : State :=
  let s := s.modRail r (fun v => { v.down with
    seq := .census, code := s.obj 0x1201 (1 + r), senseLost := false, senseGone := false
    censusFrom := s.tb.now, censusN := 0 })
  let s := each ((List.range s.laneCount).filter (fun n => s.laneRail n == r || s.laneRail n == 0xFF)) (fun s n =>
    s.modLane n (fun l => { l with good := 0, bad := false })) s
  let s := each (s.desc.senseRail.filter (fun q => q.2 == r)) (fun s q => s.setSenseTap q.1 {}) s
  s.dropCause 13 1 r

theorem State.startCensus_eq (s : State) (p : Nat) : s.startCensus p =
    each (s.positionRails p) State.railCensused { s with gov := { s.gov with phase := .rails, seqPos := p } } := rfl

/-- The start of a census changes the rail, lanes, sense taps and the pin's causes. -/
theorem State.railCensused_frame (s : State) (r : Nat) : s.railCensused r = { s with
    rails := (s.railCensused r).rails, lanes := (s.railCensused r).lanes, senseTaps := (s.railCensused r).senseTaps
    pins := (s.railCensused r).pins } := by
  unfold State.railCensused
  extract_lets s1 s2 s3
  have h2 : s2 = { s1 with lanes := s2.lanes } :=
    each_carries (f := fun (s : State) n => s.modLane n (fun l => { l with good := 0, bad := false }))
      (fun t => t = { s1 with lanes := t.lanes }) (fun t n ht => by rw [ht]; rfl) _ s1 rfl
  have h3 : s3 = { s2 with senseTaps := s3.senseTaps } :=
    each_carries (f := fun (s : State) (q : Nat × Nat) => s.setSenseTap q.1 {})
      (fun t => t = { s2 with senseTaps := t.senseTaps }) (fun t n ht => by rw [ht]; rfl) _ s2 rfl
  show s3.dropCause 13 1 r = { s with rails := s3.rails, lanes := s3.lanes, senseTaps := s3.senseTaps, pins := _ }
  rw [h3, h2]
  rfl

theorem State.railCensused_rail (s : State) (r k : Nat) : (s.railCensused r).rail k =
    if k = r then { (s.rail r).down with
      seq := .census, code := s.obj 0x1201 (1 + r), senseLost := false, senseGone := false
      censusFrom := s.tb.now, censusN := 0 } else s.rail k := by
  unfold State.railCensused
  extract_lets s1 s2 s3
  have h2 : s2.rails = s1.rails := each_keeps (f := fun (s : State) n => s.modLane n (fun l => { l with good := 0, bad := false }))
    (fun t : State => t.rails) (fun _ _ => rfl) _ s1
  have h3 : s3.rails = s2.rails := each_keeps (f := fun (s : State) (q : Nat × Nat) => s.setSenseTap q.1 {})
    (fun t : State => t.rails) (fun _ _ => rfl) _ s2
  show tget s3.rails k {} = _
  rw [h3, h2]
  exact State.rail_setRail s r k _

theorem State.obj_railCensused (s : State) (r i j : Nat) : (s.railCensused r).obj i j = s.obj i j := by
  rw [State.railCensused_frame]
  exact State.obj_same

/-- Every rail of the list is in census, with its divider code. -/
theorem State.censuses_rail {r : Nat} : ∀ (l : List Nat) (s : State), (r ∈ l ∨
      (s.rail r).seq = .census ∧ (s.rail r).code = s.obj 0x1201 (1 + r)) →
    ((each l State.railCensused s).rail r).seq = .census ∧
      ((each l State.railCensused s).rail r).code = s.obj 0x1201 (1 + r) := by
  intro l
  induction l with
  | nil => intro s h; exact h.resolve_left (by simp)
  | cons x l ih =>
    intro s h
    rw [each_cons, ← s.obj_railCensused x 0x1201 (1 + r)]
    refine ih _ ?_
    rw [State.obj_railCensused, State.railCensused_rail]
    by_cases e : r = x
    · rw [if_pos e, e]
      exact Or.inr ⟨rfl, rfl⟩
    · rw [if_neg e]
      exact h.imp_left fun hm => (List.mem_cons.mp hm).resolve_left e

theorem State.mem_railsUsed {s : State} {r : Nat} (hu : s.railUsed r = true) : r ∈ s.railsUsed := by
  refine List.mem_filter.mpr ⟨?_, hu⟩
  unfold State.railUsed at hu
  simp only [Bool.and_eq_true, decide_eq_true_eq] at hu
  exact List.mem_range.mpr hu.1

theorem State.startCensus_starts {s : State} {p r : Nat} (hu : s.railUsed r = true) (hp : s.position r = p) :
    (s.startCensus p).gov = { s.gov with phase := .rails, seqPos := p } ∧ ((s.startCensus p).rail r).seq = .census ∧
      ((s.startCensus p).rail r).code = s.obj 0x1201 (1 + r) ∧ (s.startCensus p).tb = s.tb := by
  rw [State.startCensus_eq]
  have hmem : r ∈ s.positionRails p := by simp [State.positionRails, State.mem_railsUsed hu, hp]
  let u : State := { s with gov := { s.gov with phase := .rails, seqPos := p } }
  have hgov : (each (s.positionRails p) State.railCensused u).gov = u.gov :=
    each_keeps (fun t : State => t.gov) (fun t r => by rw [State.railCensused_frame]) _ u
  have htb : (each (s.positionRails p) State.railCensused u).tb = u.tb :=
    each_keeps (fun t : State => t.tb) (fun t r => by rw [State.railCensused_frame]) _ u
  obtain ⟨h1, h2⟩ := State.censuses_rail (s.positionRails p) u (Or.inl hmem)
  exact ⟨hgov, h1, h2.trans State.obj_same, htb⟩

/-! #### The lanes that a census finds -/

theorem State.censusLane_lane (s : State) {n : Nat} (found : Bool) (h : s.laneRail n < s.railCount) (k : Nat) :
    (s.censusLane n found).lane k = if k = n then
      { (s.lane n).down with st := if found then .cold else .missing, cause := if found then 0 else 5 } else s.lane k := by
  unfold State.censusLane
  dsimp only
  rw [if_pos h]
  exact State.lane_setLane s n k _

theorem State.censusLane_other (s : State) {n k : Nat} (found : Bool) (h : k ≠ n) :
    (s.censusLane n found).lane k = s.lane k := by
  unfold State.censusLane
  dsimp only
  split
  · exact (State.lane_setLane s n k _).trans (if_neg h)
  · split
    · have hn := State.enqueueGroup_noted (s.setLane n { s.lane n with st := .unused }) [(0x0260, n * 2 ^ 40, 0)] false
      unfold Noted at hn
      unfold State.record
      rw [hn]
      exact (State.lane_setLane s n k _).trans (if_neg h)
    · rfl

theorem State.censusLane_noted (s : State) (n : Nat) (found : Bool) :
    Noted (s.censusLane n found) { s with lanes := (s.censusLane n found).lanes } := by
  unfold State.censusLane
  dsimp only
  split
  · rfl
  · split
    · have h := State.enqueueGroup_noted (s.setLane n { s.lane n with st := .unused }) [(0x0260, n * 2 ^ 40, 0)] false
      unfold State.record Noted at *
      rw [h]
      rfl
    · rfl

theorem State.obj_censusLane (s : State) (n : Nat) (found : Bool) {i j : Nat} (hj : j < 256) (h : told i j = false) :
    (s.censusLane n found).obj i j = s.obj i j := by
  unfold State.censusLane
  dsimp only
  split
  · exact State.obj_same
  · split
    · exact ((State.record_tells _ _ _ _ _).obj i j hj h).trans State.obj_same
    · rfl

/-- The lanes of a list looked at: each is found where its samples say so and its stream has not turned stuck. -/
def State.censusLanes (s : State) (l stuck : List Nat) : State :=
  each l (fun s n => s.censusLane n ((s.lane n).found && !stuck.contains n)) s

theorem State.censusLanes_other {n : Nat} (stuck : List Nat) : ∀ (l : List Nat) (s : State), n ∉ l →
    (s.censusLanes l stuck).lane n = s.lane n := by
  intro l
  induction l with
  | nil => exact fun s _ => rfl
  | cons x l ih =>
    intro s h
    rw [List.mem_cons, not_or] at h
    exact (ih _ h.2).trans (s.censusLane_other _ h.1)

theorem State.censusLanes_lane {n : Nat} (hb : n < 256) (stuck : List Nat) : ∀ (l : List Nat) (s : State), l.Nodup → n ∈ l →
    s.laneRail n < s.railCount → (s.censusLanes l stuck).lane n = { (s.lane n).down with
      st := if (s.lane n).found && !stuck.contains n then .cold else .missing
      cause := if (s.lane n).found && !stuck.contains n then 0 else 5 } := by
  intro l
  induction l with
  | nil => intro s _ h; simp at h
  | cons x l ih =>
    intro s hl h hr
    rw [List.nodup_cons] at hl
    unfold State.censusLanes
    rw [each_cons]
    by_cases e : n = x
    · rw [← e] at hl ⊢
      refine (State.censusLanes_other stuck l _ hl.1).trans ?_
      rw [s.censusLane_lane _ hr, if_pos rfl]
    · have hrail : (s.censusLane x ((s.lane x).found && !stuck.contains x)).laneRail n = s.laneRail n :=
        s.obj_censusLane x _ (by decide) (by simp [told]; omega)
      have hcount : (s.censusLane x ((s.lane x).found && !stuck.contains x)).railCount = s.railCount := by
        rw [s.censusLane_noted]
        rfl
      have hn := ih (s.censusLane x ((s.lane x).found && !stuck.contains x)) hl.2 ((List.mem_cons.mp h).resolve_left e)
        (by rw [hrail, hcount]; exact hr)
      rw [s.censusLane_other _ e] at hn
      exact hn

theorem State.censusLanes_noted (s : State) (l stuck : List Nat) :
    Noted (s.censusLanes l stuck) { s with lanes := (s.censusLanes l stuck).lanes } := by
  refine each_carries (f := fun (s : State) n => s.censusLane n ((s.lane n).found && !stuck.contains n))
    (fun t => Noted t { s with lanes := t.lanes }) (fun t n ht => ?_) l s rfl
  have h := t.censusLane_noted n ((t.lane n).found && !stuck.contains n)
  unfold Noted at *
  rw [h, ht]

theorem State.obj_censusLanes (s : State) (l stuck : List Nat) {i j : Nat} (hj : j < 256) (h : told i j = false) :
    (s.censusLanes l stuck).obj i j = s.obj i j :=
  each_keeps (f := fun (s : State) n => s.censusLane n ((s.lane n).found && !stuck.contains n))
    (fun t : State => t.obj i j) (fun t n => t.obj_censusLane n _ hj h) l s

/-- The lanes that the census of a rail looks at. -/
def State.censusList (s : State) (r : Nat) : List Nat :=
  (List.range s.laneCount).filter (fun n => s.laneRail n == r || s.laneRail n == 0xFF)

/-- A census with its missing lanes reported and the rail's floor looked at. -/
def State.censusTaken (s : State) (r : Nat) (stuck : List Nat) : State :=
  let s := s.censusLanes (s.censusList r) stuck
  let lost := (s.railLanes r).filter (fun n => (s.lane n).st == .missing)
  (s.triggerAll 10 1 5 (lost.map (fun n => (r, s.lanePa n)))).floorCheck r

theorem execLaneCensusComplete_due {s : State} {r : Nat} (stuck : List Nat) (h1 : (s.rail r).seq = .census)
    (h2 : s.gov.phase = .rails) (h3 : 64 ≤ (s.rail r).censusN) : exec (.laneCensusComplete r stuck) s =
      .next (let t := s.censusTaken r stuck
        if (t.rail r).seq != .census then t else if t.floorMet r then t.startRamp r else t.railMissed r) := by
  show execLaneCensusComplete r stuck s = _
  unfold execLaneCensusComplete
  rw [if_pos (by simp [h1, h2, h3])]
  show (if _ then _ else if _ then _ else _) = _
  rw [← apply_ite Host.Outcome.next, ← apply_ite Host.Outcome.next]
  rfl

theorem State.startRamp_lane (s : State) (r n : Nat) :
    ((s.startRamp r).lane n).st = (s.lane n).st ∧ ((s.startRamp r).lane n).cause = (s.lane n).cause := by
  unfold State.startRamp State.raisePlan
  extract_lets start s1 v count
  have hadd : ∀ t : State, ∀ k, (((t.addLane k 0).lane n).st, ((t.addLane k 0).lane n).cause) =
      ((t.lane n).st, (t.lane n).cause) := by
    intro t k
    have hwake : (((t.wakeLane k false 0).lane n).st, ((t.wakeLane k false 0).lane n).cause) =
        ((t.lane n).st, (t.lane n).cause) := by
      unfold State.wakeLane
      dsimp only
      split
      · rw [State.lane_setLane]
        split
        · next e => rw [e]
        · rfl
      · rfl
    unfold State.addLane
    dsimp only
    split
    · rfl
    · rw [← hwake, State.modLane_eq, State.lane_setLane]
      split
      · next e => rw [e]
      · rfl
  have h := each_keeps (f := fun (s : State) k => s.addLane k 0) (fun t : State => ((t.lane n).st, (t.lane n).cause))
    hadd ((s1.addOrder r).take count) (s1.setRail r { v with plan := count })
  exact Prod.mk.inj h

theorem State.startRamp_rail (s : State) (r : Nat) :
    ((s.startRamp r).rail r).seq = .ramping ∧ ((s.startRamp r).rail r).rampUp = true := by
  unfold State.startRamp State.raisePlan
  extract_lets start s1 v count
  have hadd : ∀ t : State, ∀ k, (t.addLane k 0).rails = t.rails := by
    intro t k
    unfold State.addLane State.wakeLane
    dsimp only
    split
    · rfl
    · split <;> rfl
  have h := each_keeps (f := fun (s : State) k => s.addLane k 0) (fun t : State => t.rails)
    hadd ((s1.addOrder r).take count) (s1.setRail r { v with plan := count })
  unfold State.rail
  rw [h]
  have hr : (s1.setRail r { v with plan := count }).rail r = { v with plan := count } :=
    (State.rail_setRail _ r r _).trans (if_pos rfl)
  have hv : v = _ := (State.rail_setRail s r r _).trans (if_pos rfl)
  change ((s1.setRail r { v with plan := count }).rail r).seq = .ramping ∧ ((s1.setRail r { v with plan := count }).rail r).rampUp = true
  rw [hr, hv]
  exact ⟨rfl, rfl⟩



theorem State.railLanes_lt {s : State} {r n : Nat} (h : n ∈ s.railLanes r) : n < 256 := by
  have hn := List.mem_range.mp (List.mem_filter.mp h).1
  unfold State.laneCount Sys2Proof.Machine.laneCount at hn
  split at hn <;> omega

theorem State.laneRail_of_mem {s : State} {r n : Nat} (h : n ∈ s.railLanes r) : s.laneRail n = r := by
  simpa using (List.mem_filter.mp h).2

theorem State.railUsed_count {s : State} {r : Nat} (h : s.railUsed r = true) : r < s.railCount := by
  unfold State.railUsed at h
  simp only [Bool.and_eq_true, decide_eq_true_eq] at h
  exact h.1

theorem State.mem_censusList {s : State} {r n : Nat} (h : n ∈ s.railLanes r) : n ∈ s.censusList r :=
  List.mem_filter.mpr ⟨(List.mem_filter.mp h).1, by simp [State.laneRail_of_mem h]⟩

/-- What the census finds of an assigned lane. -/
theorem State.censused_lane {s : State} {r n : Nat} (stuck : List Nat) (hu : s.railUsed r = true) (h : n ∈ s.railLanes r) :
    (s.censusLanes (s.censusList r) stuck).lane n = { (s.lane n).down with
      st := if (s.lane n).found && !stuck.contains n then .cold else .missing
      cause := if (s.lane n).found && !stuck.contains n then 0 else 5 } :=
  State.censusLanes_lane (State.railLanes_lt h) stuck _ s (List.nodup_range.filter _) (State.mem_censusList h)
    (by rw [State.laneRail_of_mem h]; exact State.railUsed_count hu)

theorem State.censusTaken_tells (s : State) (r : Nat) (stuck : List Nat) :
    Tells (s.censusTaken r stuck) (s.censusLanes (s.censusList r) stuck) :=
  (State.floorCheck_tells _ r).trans (State.raise_tells _ _)

/-- A lane of the rail after its census is COLD or MISSING, whatever follows. -/
theorem State.census_settles {s : State} {r n : Nat} (stuck : List Nat) (hu : s.railUsed r = true) (h : n ∈ s.railLanes r) :
    let t := s.censusTaken r stuck
    let u := if (t.rail r).seq != .census then t else if t.floorMet r then t.startRamp r else t.railMissed r
    (u.lane n).st = (if (s.lane n).found && !stuck.contains n then .cold else .missing) ∧
      (u.lane n).cause = (if (s.lane n).found && !stuck.contains n then 0 else 5) := by
  intro t u
  have hl := State.censused_lane stuck hu h
  have hst : ((s.censusLanes (s.censusList r) stuck).lane n).st =
      if (s.lane n).found && !stuck.contains n then .cold else .missing := by rw [hl]
  have hcause : ((s.censusLanes (s.censusList r) stuck).lane n).cause =
      if (s.lane n).found && !stuck.contains n then 0 else 5 := by rw [hl]
  have hcold : ((s.censusLanes (s.censusList r) stuck).lane n).st = .cold ∨
      ((s.censusLanes (s.censusList r) stuck).lane n).st = .missing := by
    rw [hst]
    split
    · exact Or.inl rfl
    · exact Or.inr rfl
  obtain ⟨h1, h2⟩ := (s.censusTaken_tells r stuck).downs.lane n hcold
  have hu : (u.lane n).st = (t.lane n).st ∧ (u.lane n).cause = (t.lane n).cause := by
    simp only [u]
    split
    · exact ⟨rfl, rfl⟩
    · split
      · exact t.startRamp_lane r n
      · exact (t.railMissed_downs r).lane n (by rw [h1]; exact hcold)
  exact ⟨hu.1.trans (h1.trans hst), hu.2.trans (h2.trans hcause)⟩

theorem Lane.found_iff (l : Lane) (stuck : List Nat) (n : Nat) :
    (l.found && !stuck.contains n) = true ↔ 64 ≤ l.good ∧ l.bad = false ∧ n ∉ stuck := by
  simp [Lane.found, and_assoc]

/-- With every lane of the rail found the census reports nothing. -/
theorem State.censusTaken_found {s : State} {r : Nat} {stuck : List Nat} (hu : s.railUsed r = true)
    (hall : ∀ n ∈ s.railLanes r, 64 ≤ (s.lane n).good ∧ (s.lane n).bad = false ∧ n ∉ stuck)
    (hfloor : s.laneFloor r ≤ (s.railLanes r).length) :
    s.censusTaken r stuck = (s.censusLanes (s.censusList r) stuck).dropCause 11 1 r ∧
      ((s.censusLanes (s.censusList r) stuck).dropCause 11 1 r).floorMet r = true := by
  have hn := s.censusLanes_noted (s.censusList r) stuck
  have hcold : ∀ n ∈ s.railLanes r, ((s.censusLanes (s.censusList r) stuck).lane n).st = .cold := fun n h => by
    rw [State.censused_lane stuck hu h, (Lane.found_iff _ _ _).mpr (hall n h)]
    rfl
  have hr : r < 8 := State.railsUsed_lt (State.mem_railsUsed hu)
  have hfl : (s.censusLanes (s.censusList r) stuck).laneFloor r = s.laneFloor r :=
    State.obj_censusLanes s _ _ (by decide) (by simp [told]; omega)
  have hlanes : (s.censusLanes (s.censusList r) stuck).railLanes r = s.railLanes r := by
    have hcount : (s.censusLanes (s.censusList r) stuck).laneCount = s.laneCount := by rw [hn]; rfl
    unfold State.railLanes
    rw [hcount]
    refine List.filter_congr fun n hm => ?_
    have hlt : n < 256 := by
      have h := List.mem_range.mp hm
      unfold State.laneCount Sys2Proof.Machine.laneCount at h
      split at h <;> omega
    rw [show (s.censusLanes (s.censusList r) stuck).laneRail n = s.laneRail n from
      State.obj_censusLanes s _ _ (by decide) (by simp [told]; omega)]
  generalize hu' : s.censusLanes (s.censusList r) stuck = u at hcold hfl hlanes
  have hmet : u.floorMet r = true := by
    have havail : u.availableLanes r = u.railLanes r :=
      List.filter_eq_self.mpr fun n h => by rw [hcold n (hlanes ▸ h)]; rfl
    unfold State.floorMet
    rw [havail, hfl, hlanes, decide_eq_true hfloor]
  refine ⟨?_, hmet⟩
  unfold State.censusTaken
  rw [hu']
  dsimp only
  have hlost : (u.railLanes r).filter (fun n => (u.lane n).st == .missing) = [] := by
    rw [List.filter_eq_nil_iff]
    intro n h
    rw [hcold n (hlanes ▸ h)]
    decide
  rw [hlost]
  unfold State.triggerAll
  rw [List.map_nil, List.map_nil, State.raise_nil]
  exact if_pos hmet

theorem State.stackCensus_sensors (s : State) (r : Nat) : s.stackCensus r = { s with sensors := (s.stackCensus r).sensors } := by
  unfold State.stackCensus
  exact each_carries (f := fun (s : State) k => s.modSensor (256 + k) (fun v => { v with
      st := .off, reads := 0, fails := 0, bad := false, fresh := false, word := none, sampled := none
      censusEnd := some (s.tb.now + 1008000) })) (fun t => t = { s with sensors := t.sensors })
    (fun t k ht => by rw [ht]; rfl) _ s rfl

/-- A rail that has become power-good, with the census of its memory stacks. -/
def State.railGood (s : State) (r : Nat) : State :=
  (s.setRail r { s.rail r with seq := .good, goodOnce := true }).stackCensus r

theorem State.railGood_frame (s : State) (r : Nat) : s.railGood r = { s with
    rails := tset s.rails r { s.rail r with seq := .good, goodOnce := true }, sensors := (s.railGood r).sensors } :=
  State.stackCensus_sensors _ r

theorem State.railGood_rail (s : State) (r k : Nat) : (s.railGood r).rail k =
    if k = r then { s.rail r with seq := .good, goodOnce := true } else s.rail k := by
  rw [State.railGood_frame]
  exact tget_tset ..

theorem execRailPowerGood_due {s : State} {r : Nat} (h1 : (s.rail r).seq = .ramping) (h2 : 16 ≤ (s.rail r).pgRun) :
    exec (.railPowerGood r) s = .next (s.railGood r).positionDone :=
  if_pos (by simp [h1, h2])

/-- What decides the positions: the configuration, the descriptor and the store. -/
theorem State.positions_congr {t s : State} (hcfg : t.cfg = s.cfg) (hdesc : t.desc = s.desc)
    (hobj : ∀ r, t.position r = s.position r) : (∀ p, t.positionRails p = s.positionRails p) ∧
      ∀ p, t.nextPosition p = s.nextPosition p := by
  have hu : t.railsUsed = s.railsUsed := by
    unfold State.railsUsed State.railUsed State.railCount
    rw [hcfg, hdesc]
  have hp : t.position = s.position := funext hobj
  exact ⟨fun p => by unfold State.positionRails; rw [hu, hp], fun p => by unfold State.nextPosition; rw [hu, hp]⟩

theorem State.seqFail_now (s : State) : s.seqFail.tb.now = s.tb.now := by simp only [s.seqFail_keeps]

theorem State.railMissed_now (s : State) (r : Nat) : (s.railMissed r).tb.now = s.tb.now :=
  (State.seqFail_now _).trans (State.trigger_spares _ _ _ _ _ _).now

/-- A rail that has discharged is off, its setpoint 0, whatever follows. -/
theorem State.discharged_off (s : State) (r : Nat) : ((s.discharged r).rail r).seq = .off ∧
    ((s.discharged r).rail r).setpoint = 0 ∧ (s.discharged r).tb.now = s.tb.now := by
  unfold State.discharged
  extract_lets s1
  have hrail : s1.rail r = ((s.railLanesDown r).rail r).down := (State.rail_railOff _ r r).trans (if_pos rfl)
  have hoff : (s1.rail r).seq = .off ∧ (s1.rail r).setpoint = 0 := by rw [hrail]; exact ⟨rfl, rfl⟩
  have hnow : s1.tb.now = s.tb.now := by
    simp only [s1]
    simp only [State.railOff_keeps, State.railLanesDown_keeps]
  split
  · obtain ⟨h1, h2⟩ := (State.railsDownStep_downs railFuel s1).rail r hoff.1
    exact ⟨h1, h2 hoff.2, (by simp only [s1.railsDownStep_keeps] : _ = s1.tb.now).trans hnow⟩
  · exact ⟨hoff.1, hoff.2, hnow⟩

/-- Settles O19: the census of a position (`State.startCensus_starts`, `State.census_settles`), what a power-down leaves
(`Downs`), and the triggers of pin 16. -/
theorem sequencingEvents : Obligations.SequencingEvents := by
  unfold Obligations.SequencingEvents
  refine ⟨fun r s hph hu hp => ?_, fun p r s hph hnext hu hp => ?_, fun r n stuck s h1 h2 h3 hu hn => ?_,
    fun r stuck s h1 h2 h3 hu hall hfloor => ?_, fun r s h1 h2 hph => ?_, fun r p s h1 h2 hph hall hnext => ?_,
    fun r s hc hg h1 => ?_, fun r s hc hg hph hu hp => ?_, fun r high s h1 hh => ?_, fun r s h1 => ?_,
    fun s h => ⟨if_neg (by simp [h]), if_neg (by simp [h])⟩, fun s h => if_neg (by simp [h]),
    fun r stuck s h => if_neg (by simp [h]), fun r s h => ⟨if_neg (by simp [h]), if_neg (by simp [h])⟩,
    fun r high s h => ⟨if_neg (by simp [h]), if_neg (by simp [h])⟩⟩
  case refine_1 =>
    obtain ⟨hgov, hseq, hcode, htb⟩ := State.startCensus_starts hu hp
    exact ⟨_, if_pos (by simp [hph]), by rw [hgov], hseq, hcode, htb⟩
  case refine_2 =>
    let u := s.atTime (s.gov.seqStart + s.cyc 0x2003 1)
    obtain ⟨hpos, hnx⟩ := State.positions_congr (t := u) (s := s) rfl rfl (fun r => s.obj_atTime _ _ _)
    have hrun : exec .interRailDelayEnd s = .next (u.startCensus p) := by
      show execInterRailDelayEnd s = _
      unfold execInterRailDelayEnd
      rw [if_pos (by simp [hph])]
      change (match u.nextPosition (some s.gov.seqPos) with | some p => Host.Outcome.next (u.startCensus p) | none => _) = _
      rw [hnx, hnext]
    obtain ⟨hgov, hseq, -, htb⟩ := State.startCensus_starts (s := u) hu ((s.obj_atTime _ _ _).trans hp)
    exact ⟨_, hrun, hgov, hseq, htb⟩
  case refine_3 =>
    obtain ⟨hst, hcause⟩ := State.census_settles stuck hu hn
    refine ⟨_, execLaneCensusComplete_due stuck h1 h2 h3, ?_, ?_⟩
    · rw [hst]
      simp only [Lane.found_iff]
    · rw [hcause]
      simp only [Lane.found_iff]
  case refine_4 =>
    obtain ⟨ht, hmet⟩ := State.censusTaken_found hu hall hfloor
    refine ⟨_, execLaneCensusComplete_due stuck h1 h2 h3, ?_⟩
    rw [ht]
    dsimp only
    have hseq : (((s.censusLanes (s.censusList r) stuck).dropCause 11 1 r).rail r).seq = .census := by
      show ((s.censusLanes (s.censusList r) stuck).rail r).seq = _
      rw [s.censusLanes_noted]
      exact h1
    rw [if_neg (by rw [hseq]; decide), if_pos hmet]
    exact State.startRamp_rail _ r
  case refine_5 =>
    have hdone : (s.railGood r).positionDone = s.railGood r := if_neg (by rw [State.railGood_frame]; simp [hph])
    refine ⟨_, (execRailPowerGood_due h1 h2).trans (congrArg _ hdone), ?_, ?_⟩
    · rw [State.railGood_rail, if_pos rfl]
    · rw [State.railGood_frame]
  case refine_6 =>
    obtain ⟨hpos, hnx⟩ := State.positions_congr (t := s.railGood r) (s := s) (by rw [State.railGood_frame])
      (by rw [State.railGood_frame]) (fun k => by rw [State.railGood_frame]; exact State.obj_same)
    have hgov : (s.railGood r).gov = s.gov := by rw [State.railGood_frame]
    have hdone : (s.railGood r).positionDone =
        { s.railGood r with gov := { s.gov with phase := .delay, seqStart := s.tb.now } } := by
      unfold State.positionDone
      rw [if_pos, hnx, hgov, hnext]
      · rw [State.railGood_frame]
      · rw [hpos, hgov, hph, Bool.and_eq_true, List.all_eq_true]
        refine ⟨rfl, fun k hk => ?_⟩
        rw [State.railGood_rail]
        split
        · rfl
        · next hne => simp [Rail.good, hall k hk hne]
    refine ⟨_, (execRailPowerGood_due h1 h2).trans (congrArg _ hdone), ?_, rfl, ?_⟩
    · exact (State.railGood_rail s r r).trans (if_pos rfl)
    · rw [State.railGood_frame]
  case refine_7 =>
    have hrun : exec (.railPowerGoodMiss r) s = .next ((s.atTime (s.rail r).deadline).railMissed r) := if_pos (by simp [h1])
    refine ⟨_, hrun, State.railMissed_now _ r, (State.seqFail_downs _).pin 16 ?_⟩
    exact State.trigger_pin r 0 _ (by decide) (State.pinReached_running hc (by decide) rfl) hg hc
  case refine_8 =>
    let u := s.atTime (s.gov.seqStart + cycles 100000000)
    let ts := (u.positionRails s.gov.seqPos).map (fun r => (r, u.railPa r 0))
    have hrun : exec .stageSupplyTimeout s = .next (u.triggerAll 16 1 0 ts).seqFail := if_pos (by simp [hph])
    have hmem : r ∈ u.positionRails s.gov.seqPos := by
      rw [(State.positions_congr (t := u) (s := s) rfl rfl (fun r => s.obj_atTime _ _ _)).1]
      simp [State.positionRails, State.mem_railsUsed hu, hp]
    have hts : ts ≠ [] := fun e => by
      rw [List.map_eq_nil_iff] at e
      rw [e] at hmem
      simp at hmem
    refine ⟨_, hrun, ?_, (State.seqFail_downs _).pin 16 ?_⟩
    · exact (State.seqFail_now _).trans (State.triggerAll_spares _ _ _ _ _).now
    · exact State.triggerAll_pin 0 hts (by decide) (State.pinReached_running hc (by decide) rfl) hg hc
  case refine_9 => exact ⟨_, if_pos (by simp [h1, hh]), s.discharged_off r⟩
  case refine_10 =>
    let u := (s.atTime (s.rail r).deadline).record 0x0261 (r * 2 ^ 56) 0 false
    have hrun : exec (.railDischargeTimeout r) s = .next (u.discharged r) := if_pos (by simp [h1])
    obtain ⟨hoff, hzero, hnow⟩ := u.discharged_off r
    exact ⟨_, hrun, hoff, hzero, hnow.trans (State.record_spares _ _ _ _ _).now⟩


/-! ### Accepted writes of objects (15 R361 to R363) -/

/-- An accepted write whose effect stands: the effect, counted and answered. -/
theorem State.writeRow_effect {s u : State} {sess i j v : Nat} (h : s.accepts sess i j v = true)
    (he : ∀ bs, s.touch.writeEffect sess i j v bs = (u, 0)) : s.writeRow sess i j v = .next u.wrote := by
  obtain ⟨bs, -, hrow⟩ := s.writeRow_accepts sess i j v h
  rw [hrow, he bs]
  rfl

theorem State.writeBytesRow_effect {s u : State} {sess i j : Nat} {bs : List Byte} (h : s.acceptsBytes sess i j bs = true)
    (he : s.touch.writeEffect sess i j (natLE bs) bs = (u, 0)) : s.writeBytesRow sess i j bs = .next u.wrote := by
  rw [s.writeBytesRow_accepts sess i j bs h, he]
  rfl

/-- A code of the effect refuses the write. -/
theorem State.writeRow_fails {s u : State} {sess i j v c : Nat} (h : s.accepts sess i j v = true) (hc : c ≠ 0)
    (he : ∀ bs, s.touch.writeEffect sess i j v bs = (u, c)) : s.writeRow sess i j v = .next (u.refuseWrite i j c) := by
  obtain ⟨bs, -, hrow⟩ := s.writeRow_accepts sess i j v h
  rw [hrow, he bs]
  exact congrArg _ (if_neg hc)

/-- The close of an accepted write is seen at its counter alone. -/
theorem State.obj_wrote (s : State) {i j : Nat} (hj : j < 256) (h : i ≠ 0x1402 ∨ j ≠ 2) : s.wrote.obj i j = s.obj i j :=
  (State.obj_same (s := s.bump64 0x1402 2 1)).trans (s.obj_setObj_other _ hj (by decide) (by decide) h)

theorem State.wrote_spares (s : State) : Spares s.wrote { s with answer := s.wrote.answer } := by
  simp [State.wrote]


/-! ### Coolant events, sensor re-arm, domain requests (09 R227, R236 to R240, 10 R251, R252, R258) -/

theorem State.coolFollow_stale {s : State} (h : s.coolValid = false ∨ s.inletHot = true) :
    s.coolFollow = { s with thermal := { s.thermal with coolSince := none } } := by
  unfold State.coolFollow
  dsimp only
  rw [if_neg (by rcases h with h | h <;> simp [h])]

/-- The state at the coolant timeout: its clock comes to the timeout after the last update, where there was one. -/
def State.coolTimedOut (s : State) : State :=
  if s.thermal.coolExt.isNone && s.thermal.coolMgmt.isNone then s
  else s.atTime (max (s.thermal.coolExt.getD 0) (s.thermal.coolMgmt.getD 0) + s.cyc 0x3008 2)

theorem State.recent_passed {s : State} {o : Option Nat} (h : ∀ u, o = some u → u + s.cyc 0x3008 2 ≤ s.tb.now) :
    s.recent o = false := by
  cases o with
  | none => rfl
  | some u => exact decide_eq_false (Nat.not_lt.mpr (h u rfl))

theorem State.coolTimedOut_invalid (s : State) : s.coolTimedOut.coolValid = false := by
  have hboth : s.coolTimedOut.recent s.thermal.coolExt = false ∧ s.coolTimedOut.recent s.thermal.coolMgmt = false := by
    unfold State.coolTimedOut
    split
    · next h =>
      simp only [Bool.and_eq_true, Option.isNone_iff_eq_none] at h
      exact ⟨by rw [h.1]; rfl, by rw [h.2]; rfl⟩
    · constructor
      · refine State.recent_passed fun u hu => ?_
        show u + s.cyc 0x3008 2 ≤ max s.tb.now _
        rw [hu]
        exact (Nat.add_le_add_right (Nat.le_max_left u _) _).trans (Nat.le_max_right _ _)
      · refine State.recent_passed fun u hu => ?_
        show u + s.cyc 0x3008 2 ≤ max s.tb.now _
        rw [hu]
        exact (Nat.add_le_add_right (Nat.le_max_right _ u) _).trans (Nat.le_max_right _ _)
  have hth : s.coolTimedOut.thermal = s.thermal := by
    unfold State.coolTimedOut
    split <;> rfl
  unfold State.coolValid
  rw [hth, hboth.1, hboth.2]
  simp

theorem execCoolantTimeout_due {s : State} (h : s.coolSource ≠ 0) :
    exec .coolantTimeout s = .next { s with
      tb := { s.tb with now := (if s.thermal.coolExt.isNone && s.thermal.coolMgmt.isNone then s.tb.now
        else max s.tb.now (max (s.thermal.coolExt.getD 0) (s.thermal.coolMgmt.getD 0) + s.cyc 0x3008 2)) }
      thermal := { s.thermal with coolSince := none } } := by
  show execCoolantTimeout s = _
  unfold execCoolantTimeout
  rw [if_neg h]
  show Host.Outcome.next s.coolTimedOut.coolFollow = _
  rw [State.coolFollow_stale (Or.inl s.coolTimedOut_invalid)]
  unfold State.coolTimedOut
  split <;> rfl

theorem execCoolantRecovery_due {s : State} {u : Nat} (hu : s.thermal.coolSince = some u) (hc : s.thermal.coolCap = true) :
    exec .coolantRecovery s = .next { s with
      tb := { s.tb with now := max s.tb.now (u + s.cyc 0x3008 3) }
      thermal := (if (s.atTime (u + s.cyc 0x3008 3)).coolValid && !s.inletHot then { s.thermal with coolArm := some false }
        else { s.thermal with coolSince := none }) } := by
  show execCoolantRecovery s = _
  unfold execCoolantRecovery
  rw [hu]
  dsimp only
  rw [if_pos hc]
  refine congrArg _ ?_
  let t := s.atTime (u + s.cyc 0x3008 3)
  change (if (t.coolValid && !s.inletHot) = true then { t with thermal := { t.thermal with coolArm := some false } }
    else t.coolFollow) = _
  by_cases h : (t.coolValid && !s.inletHot) = true
  · rw [if_pos h, if_pos h]
    rfl
  · have hstale : t.coolValid = false ∨ t.inletHot = true := by
      change t.coolValid = false ∨ s.inletHot = true
      cases hv : t.coolValid
      · exact Or.inl rfl
      · rw [hv] at h
        exact Or.inr (by simpa using h)
    rw [if_neg h, if_neg h, State.coolFollow_stale hstale]
    rfl

/-! #### Sensors and coolant updates -/

theorem objSensor_sensorObj {n : Nat} (h : n < 288) : objSensor (sensorObj n) = n := by
  unfold objSensor sensorObj
  split_ifs <;> omega

theorem State.writeEffect_sensorRearm (s : State) {n : Nat} (h : n < 288) (sess : Nat) (bs : List Byte) :
    s.writeEffect sess (sensorObj n) 8 1 bs = (s.rearmSensor n, 0) := by
  have h1 : 0x3100 ≤ sensorObj n ∧ sensorObj n ≤ 0x321F := by unfold sensorObj; split_ifs <;> omega
  unfold State.writeEffect State.effectStates
  rw [if_neg (by omega), if_neg (by omega), if_neg (by omega), if_pos (by omega), if_pos (by simp [h1]),
    if_pos rfl, objSensor_sensorObj h]
  rfl

theorem State.writeEffect_coolantCommit (s : State) (sess : Nat) (bs : List Byte) :
    s.writeEffect sess 0x3008 8 1 bs = (s.coolantCommit, 0) := rfl

theorem State.writeEffect_domain (s : State) {d : Nat} (h : d < 32) (sess v : Nat) (bs : List Byte) :
    s.writeEffect sess (0x3410 + d) 3 v bs = (s.domainRequest d v, 0) := by
  unfold State.writeEffect State.effectStates
  rw [if_neg (by omega), if_neg (by omega), if_neg (by omega), if_pos (by omega), if_neg (by simp),
    if_neg (by simp), if_neg (by simp), if_pos (by simp; omega), Nat.add_sub_cancel_left]
  rfl

theorem State.writeEffect_domainRearm (s : State) {d : Nat} (h : d < 32) (sess : Nat) (bs : List Byte) :
    s.writeEffect sess (0x3410 + d) 9 1 bs = (s.rearmDomain d, 0) := by
  unfold State.writeEffect State.effectStates
  rw [if_neg (by omega), if_neg (by omega), if_neg (by omega), if_pos (by omega), if_neg (by simp),
    if_neg (by simp), if_neg (by simp), if_pos (by simp; omega), Nat.add_sub_cancel_left]
  rfl

theorem Spares.thermal {t s : State} (h : Spares t s) : t.thermal = s.thermal := by simp only [h]

/-- An inlet reading: the inlet and what follows of it. -/
theorem State.inlet_sets (s : State) (k : Nat) (x : Int) : (s.inlet k x).thermal.coolMgmt = s.thermal.coolMgmt ∧
    (s.inlet k x).thermal.coolFlow = s.thermal.coolFlow ∧ tget (s.inlet k x).thermal.inlets k 0 = x ∧
      Spares (s.inlet k x) { s with thermal := (s.inlet k x).thermal } := by
  have hf : ∀ u : State, u.coolFollow = { u with thermal := { u.thermal with coolSince := u.coolFollow.thermal.coolSince } } :=
    fun u => rfl
  unfold State.inlet
  extract_lets v s1 pa
  have h : Spares (s1.followCause 40 0 0 s1.inletHot 0 pa) s1 := State.followCause_spares _ _ _ _ _ _ _
  have ht := h.thermal
  generalize s1.followCause 40 0 0 s1.inletHot 0 pa = u at h ht ⊢
  rw [hf]
  generalize u.coolFollow.thermal.coolSince = since
  refine ⟨(congrArg Thermal.coolMgmt ht : _), (congrArg Thermal.coolFlow ht : _), ?_, ?_⟩
  · show tget u.thermal.inlets k 0 = x
    rw [ht]
    exact tget_tset_same ..
  · simp only [Spares, h, s1, and_true]

/-! #### Domain requests -/

/-- Two domains differ at most in the accounting of their wake waits. -/
def Domain.Waits (v w : Domain) : Prop := v = { w with waited := v.waited, rushWait := v.rushWait }

theorem Domain.Waits.refl (v : Domain) : Domain.Waits v v := rfl

theorem Domain.Waits.trans {u v w : Domain} (h : Domain.Waits u v) (g : Domain.Waits v w) : Domain.Waits u w := by
  unfold Domain.Waits at *
  rw [h, g]

theorem State.waitTick_waits (s : State) : s.waitTick = { s with domains := s.waitTick.domains } ∧
    ∀ d, Domain.Waits (s.waitTick.domain d) (s.domain d) := by
  unfold State.waitTick
  refine each_carries (fun t => t = { s with domains := t.domains } ∧ ∀ d, Domain.Waits (t.domain d) (s.domain d))
    (fun t k ht => ?_) _ s ⟨rfl, fun d => Domain.Waits.refl _⟩
  refine ⟨?_, fun d => ?_⟩
  · dsimp only
    generalize (_ && _ : Bool) = alone
    rw [ht.1]
    rfl
  · refine Domain.Waits.trans ?_ (ht.2 d)
    dsimp only
    generalize (_ && _ : Bool) = alone
    refine (congrArg (Domain.Waits · (t.domain d)) (tget_tset ..)).mpr ?_
    split
    · next e => rw [e]; rfl
    · rfl

theorem State.wantWake_wants (s : State) (d : Nat) : ((s.wantWake d).domain d).st = (s.domain d).st ∧
    ((s.wantWake d).domain d).wanted = true ∧ ((s.wantWake d).domain d).written = (s.domain d).written ∧
      (∀ k, k ≠ d → Domain.Waits ((s.wantWake d).domain k) (s.domain k)) ∧
        s.wantWake d = { s with domains := (s.wantWake d).domains, od := (s.wantWake d).od } ∧
          (s.wantWake d).obj (0x3410 + d) 3 = s.obj (0x3410 + d) 3 := by
  unfold State.wantWake
  extract_lets v room waits s1
  let s2 := if waits then s1.bump (0x3410 + d) 0x0B else s1
  change (let t := if v.wanted then s else s2.waitTick; _)
  split
  · next h => exact ⟨rfl, h, rfl, fun k _ => Domain.Waits.refl _, rfl, rfl⟩
  · have hs1 : ∀ k, s1.domain k = if k = d then { v with
        wanted := true, rushWait := if room && !s.rushRoom d then some s.tb.now else none, waited := 0, retryAt := none }
        else s.domain k := fun k => tget_tset ..
    have hs2 : s2.domains = s1.domains ∧ s2 = { s with domains := s2.domains, od := s2.od } ∧
        s2.obj (0x3410 + d) 3 = s.obj (0x3410 + d) 3 := by
      simp only [s2]
      split
      · refine ⟨rfl, rfl, Eq.trans (State.obj_setObj_other s1 _ (by decide) (by decide) (by simp [defaultReads])
          (Or.inr (by decide))) State.obj_same⟩
      · exact ⟨rfl, rfl, State.obj_same⟩
    obtain ⟨hdom, hframe, hobj⟩ := hs2
    have hk : ∀ k, s2.domain k = s1.domain k := fun k => by unfold State.domain; rw [hdom]
    obtain ⟨hf, hw⟩ := s2.waitTick_waits
    have hself := hw d
    rw [hk, hs1, if_pos rfl] at hself
    refine ⟨by rw [hself], by rw [hself], by rw [hself], fun k hne => ?_, ?_, ?_⟩
    · have h := hw k
      rw [hk, hs1, if_neg hne] at h
      exact h
    · rw [hf, hframe]
    · rw [hf]
      exact Eq.trans State.obj_same hobj

theorem State.requestWake_off {s : State} {d : Nat} (h : (s.domain d).st = .off) (hr : (s.domain d).retryAt = none) :
    s.requestWake d = (s.setDomain d { s.domain d with written := true }).wantWake d := by
  unfold State.requestWake
  dsimp only
  rw [h, hr]
  rfl

theorem State.requestGate_on {s : State} {d : Nat} (h : (s.domain d).st = .on) :
    s.requestGate d = (s.setDomain d { s.domain d with written := true }).startDrain d := by
  unfold State.requestGate
  dsimp only
  rw [h]

/-- The poisoned words of a state are none, and only forecast state of the Tally and its poison differ. -/
theorem State.freeDomain_clean {s : State} (h : s.poison = []) (d : Nat) :
    s.withdrawDomain d = { s with tally := (s.withdrawDomain d).tally } := by
  unfold State.withdrawDomain State.freeDomain
  have hall := each_carries (f := fun (s : State) n => if ((s.readSlot n).slot n).st == .predicted then
      (s.readSlot n).dropPredicted n else s.readSlot n)
    (fun t => t.poison = [] ∧ t = { s with tally := t.tally }) (fun t n ht => ?_) (s.domainSlots d .predicted) s ⟨h, rfl⟩
  · exact hall.2
  · have hread : t.readSlot n = t := State.readSlot_clean (by simp [State.poisoned, ht.1])
    rw [hread]
    split
    · obtain ⟨r, o, hw⟩ := t.withdraw_horizons n
      have hp : t.poison.filter (· != (.slot, n)) = t.poison := by rw [ht.1]; rfl
      unfold State.dropPredicted State.freeSlot
      rw [hw]
      dsimp only
      rw [hp]
      exact ⟨ht.1, by rw [ht.2]⟩
    · exact ht

/-- Settles O14: the coolant timers by `State.coolFollow_stale`, the writes by their effects (`State.writeRow_effect`). -/
theorem coolantEvents : Obligations.CoolantEvents := by
  unfold Obligations.CoolantEvents
  refine ⟨⟨fun s h => execCoolantTimeout_due h, fun s h => if_pos h, fun u s hu hc => execCoolantRecovery_due hu hc,
    fun s h => ?_⟩, fun sess n s hn hacc hst => ?_, fun sess s hacc hsrc => ?_, fun sess d s hd hacc hst hre => ?_,
    fun sess d s hd hacc hst hlost hp => ?_, fun sess d s hd hacc hst => ?_⟩
  case refine_1 =>
    show execCoolantRecovery s = _
    unfold execCoolantRecovery
    rcases h with h | h
    · rw [h]
    · split
      · exact if_neg (by simp [h])
      · rfl
  case refine_2 =>
    have hrow := State.writeRow_effect hacc fun bs => s.touch.writeEffect_sensorRearm hn sess bs
    refine ⟨_, (if_pos hn).trans hrow, ?_⟩
    have he : s.touch.rearmSensor n =
        s.touch.setSensor n { s.touch.sensor n with rearm := true, rearmRead := false, count := 0 } := by
      refine if_pos ?_
      change (s.sensorSt n == .quarantined || s.sensorSt n == .failed || s.sensorSt n == .missing) = true
      rcases hst with h | h | h <;> simp [h]
    rw [he]
    refine ⟨(tget_tset ..).trans (if_pos rfl), fun k hk => (tget_tset ..).trans (if_neg hk), rfl⟩
  case refine_3 =>
    have hrow := State.writeRow_effect hacc fun bs => s.touch.writeEffect_coolantCommit sess bs
    let u : State := { s.touch with thermal := { s.thermal with coolMgmt := some s.tb.now, coolFlow := s.obj 0x3008 7 } }
    have he : s.touch.coolantCommit = u.inlet 16 (s.obj16 0x3008 6) := if_neg (by
      change ¬ s.coolSource < 2
      omega)
    rw [he] at hrow
    refine ⟨_, hrow, ?_⟩
    obtain ⟨h1, h2, h3, h4⟩ := u.inlet_sets 16 (s.obj16 0x3008 6)
    have hw := (u.inlet 16 (s.obj16 0x3008 6)).wrote_spares
    have hth : (u.inlet 16 (s.obj16 0x3008 6)).wrote.thermal = (u.inlet 16 (s.obj16 0x3008 6)).thermal := rfl
    generalize u.inlet 16 (s.obj16 0x3008 6) = t at h1 h2 h3 h4 hw hth ⊢
    rw [hth]
    refine ⟨h1, h2, h3, ?_⟩
    refine Spares.chain hw ?_
    simp only [Spares] at h4 ⊢
    simp [h4, u, State.touch]
  case refine_4 =>
    have hrow := State.writeRow_effect hacc fun bs => s.touch.writeEffect_domain hd sess 1 bs
    let u := (s.touch.setObj (0x3410 + d) 3 1).setDomain d { s.domain d with written := true }
    have he : s.touch.domainRequest d 1 = u.wantWake d := by
      unfold State.domainRequest
      rw [if_neg (by simp), if_pos rfl]
      exact State.requestWake_off hst hre
    rw [he] at hrow
    refine ⟨_, (if_pos hd).trans hrow, ?_⟩
    obtain ⟨h1, h2, h3, h4, h5, h6⟩ := u.wantWake_wants d
    have hu : ∀ k, u.domain k = if k = d then { s.domain d with written := true } else s.domain k :=
      fun k => tget_tset ..
    have hobj : u.obj (0x3410 + d) 3 = 1 := Eq.trans State.obj_same (State.obj_setObj_same _ _ _ _)
    generalize u.wantWake d = t at h1 h2 h3 h4 h5 h6 ⊢
    refine ⟨?_, h2, ?_, ?_, fun k hk => ?_, ?_⟩
    · exact h1.trans (by rw [hu, if_pos rfl]; exact hst)
    · exact h3.trans (by rw [hu, if_pos rfl])
    · exact (State.obj_wrote t (by decide) (Or.inl (by omega))).trans (h6.trans hobj)
    · have h := h4 k hk
      rw [hu, if_neg hk] at h
      exact h
    · unfold Answered State.wrote
      rw [h5]
      rfl
  case refine_5 =>
    have hrow := State.writeRow_effect hacc fun bs => s.touch.writeEffect_domain hd sess 0 bs
    let w := (s.touch.setObj (0x3410 + d) 3 0).setDomain d { s.domain d with written := true }
    let u := w.setDomain d { s.domain d with written := true, st := .draining, drainEnd := some (s.tb.now + s.cyc 0x3400 7) }
    have hcyc : w.cyc 0x3400 7 = s.cyc 0x3400 7 := by
      unfold State.cyc
      rw [show w.obj 0x3400 7 = s.obj 0x3400 7 from Eq.trans State.obj_same
        (State.obj_setObj_other _ _ (by decide) (by decide) (by simp [defaultReads]) (Or.inr (by decide)))]
    have hself : w.domain d = { s.domain d with written := true } := (tget_tset ..).trans (if_pos rfl)
    have he : s.touch.domainRequest d 0 = u.withdrawDomain d := by
      unfold State.domainRequest
      rw [if_neg (by rw [show s.touch.domain d = s.domain d from rfl, show s.touch.tb.now = s.tb.now from rfl]; simpa using hlost),
        if_neg (by decide), State.requestGate_on (s := s.touch.setObj (0x3410 + d) 3 0) hst]
      change w.startDrain d = _
      unfold State.startDrain
      rw [State.modDomain_eq, hself, hcyc]
      rfl
    rw [he, State.freeDomain_clean (s := u) hp d] at hrow
    refine ⟨_, (if_pos hd).trans hrow, ?_⟩
    have hdom : ∀ k, u.domain k = if k = d then { s.domain d with
        written := true, st := .draining, drainEnd := some (s.tb.now + s.cyc 0x3400 7) } else s.domain k := fun k => by
      refine (tget_tset ..).trans ?_
      split
      · rfl
      · next hk => exact (tget_tset ..).trans (if_neg hk)
    refine ⟨(hdom d).trans (if_pos rfl), ?_, fun k hk => (hdom k).trans (if_neg hk), ?_⟩
    · refine (State.obj_wrote _ (by decide) (Or.inl (by omega))).trans ?_
      exact Eq.trans State.obj_same (State.obj_setObj_same s.touch (0x3410 + d) 3 0)
    · simp [State.wrote, u, w, State.touch]
  case refine_6 =>
    have hrow := State.writeRow_effect hacc fun bs => s.touch.writeEffect_domainRearm hd sess bs
    have he : s.touch.rearmDomain d = s.touch.setDomain d { s.domain d with st := .off, retry := false } :=
      if_pos (by change ((s.domain d).st == .faulted) = true; simp [hst])
    rw [he] at hrow
    exact ⟨_, (if_pos hd).trans hrow, (tget_tset ..).trans (if_pos rfl),
      fun k hk => (tget_tset ..).trans (if_neg hk), rfl⟩


/-! ### Writes of the Loop Engine and the Tally (07 R194 to R198, 08 R209 to R216) -/

theorem State.writeEffect_commit (s : State) {i : Nat} (h : i < 160) (sess : Nat) (bs : List Byte) :
    s.writeEffect sess (0x4100 + i) 0x0C 1 bs = (s.commitLaw i, 0) := by
  unfold State.writeEffect State.effectLoop
  rw [if_neg (by omega), if_neg (by omega), if_neg (by omega), if_neg (by omega), if_pos (by omega), if_neg (by simp; omega),
    if_neg (by simp), if_pos (by simp; omega), Nat.add_sub_cancel_left]
  rfl

theorem State.writeEffect_startInjection (s : State) (sess : Nat) (bs : List Byte) :
    s.writeEffect sess 0x4001 0x0C 1 bs = (s.startInjection, 0) := rfl

theorem State.writeEffect_stopInjection (s : State) (sess : Nat) (bs : List Byte) :
    s.writeEffect sess 0x4001 0x0C 2 bs = (s.endInjection 4, 0) := rfl

theorem State.writeEffect_armCapture (s : State) (sess : Nat) (bs : List Byte) :
    s.writeEffect sess 0x4002 0x0A 1 bs = (s.armCapture, 0) := rfl

theorem State.writeEffect_forceCapture (s : State) (sess : Nat) (bs : List Byte) :
    s.writeEffect sess 0x4002 0x0A 2 bs = (s.forceCapture, 0) := rfl

theorem State.writeEffect_stopCapture (s : State) (sess : Nat) (bs : List Byte) :
    s.writeEffect sess 0x4002 0x0A 3 bs = (s.stopCapture, 0) := rfl

/-- Settles O33: each write is its effect, counted and answered (`State.writeRow_effect`). -/
theorem loopWrites : Obligations.LoopWrites := by
  unfold Obligations.LoopWrites
  refine ⟨fun sess i s hi hacc => ?_, fun sess s hacc => ?_, fun sess s hacc hst => ?_, fun sess s hacc => ?_,
    fun sess s hacc hst hseen => ?_, fun sess s hacc h1 h3 => ?_⟩
  case refine_1 =>
    have hrow := State.writeRow_effect hacc fun bs => s.touch.writeEffect_commit hi sess bs
    exact ⟨_, (if_pos hi).trans hrow, (tget_tset ..).trans (if_pos rfl), fun k hk => (tget_tset ..).trans (if_neg hk), rfl⟩
  case refine_2 =>
    have he : s.touch.startInjection = { s.touch with
        injector := { status := 1, delay := s.obj 0x4001 5, f := s.obj 0x4001 7, x := s.injector.x } } := by
      unfold State.startInjection
      rw [State.obj_touch, State.obj_touch]
      rfl
    have hrow := State.writeRow_effect hacc fun bs => State.writeEffect_startInjection s.touch sess bs
    rw [he] at hrow
    exact ⟨_, hrow, rfl⟩
  case refine_3 =>
    let u : State := { s.touch with injector := { s.injector with status := 4, stopping := true } }
    have he : s.touch.endInjection 4 = u.signal 0x0C5 :=
      if_pos (by change (s.injector.status = 1 || s.injector.status = 2) = true; simpa using hst)
    have hrow := State.writeRow_effect (u := u.signal 0x0C5) hacc fun bs =>
      (State.writeEffect_stopInjection _ sess bs).trans (congrArg (·, 0) he)
    have hn := u.signal_noted 0x0C5
    refine ⟨_, hrow, ?_⟩
    generalize u.signal 0x0C5 = t at hn
    unfold Noted at *
    rw [hn]
    exact ⟨rfl, rfl⟩
  case refine_4 =>
    have he : s.touch.armCapture = { s.touch with
        capture := { status := if s.obj 0x4002 9 = 0 then 2 else 1 }
        poison := s.poison.filter (·.1 != .capture) } := by
      unfold State.armCapture
      rw [State.obj_touch]
      rfl
    have hrow := State.writeRow_effect hacc fun bs => State.writeEffect_armCapture s.touch sess bs
    rw [he] at hrow
    refine ⟨_, hrow, rfl, fun k => ?_⟩
    unfold State.poisoned
    refine Bool.eq_false_iff.mpr fun hc => ?_
    have hm : ((PoisonAt.capture, k) : PoisonAt × Nat) ∈ s.poison.filter (·.1 != .capture) := List.contains_iff_mem.mp hc
    simpa using (List.mem_filter.mp hm).2
  case refine_5 =>
    let u : State := { s.touch with capture := { s.capture with seen := true, status := 3, trigC := s.tb.cframe } }
    have he : s.touch.forceCapture = u := if_pos (by
      change ((s.capture.status = 1 || s.capture.status = 2) && !s.capture.seen) = true
      rw [hseen]
      simpa using hst)
    exact ⟨_, State.writeRow_effect (u := u) hacc fun bs =>
      (State.writeEffect_forceCapture _ sess bs).trans (congrArg (·, 0) he), rfl⟩
  case refine_6 =>
    have he : s.touch.stopCapture = s.touch.closeCapture := if_pos (by
      change (1 ≤ s.capture.status && s.capture.status ≤ 3) = true
      simp [h1, h3])
    exact ⟨_, State.writeRow_effect (u := s.touch.closeCapture) hacc fun bs =>
      (State.writeEffect_stopCapture _ sess bs).trans (congrArg (·, 0) he), rfl, rfl, rfl⟩

/-! #### A poisoned signature entry -/

/-- A Governor in READY, GCLK running, whose signature entry 0 reads with poison. -/
def poisonedSignature : State := { State.reset with
  tb := { State.reset.tb with gclk := true }, gov := { State.reset.gov with st := .ready }, poison := [(.signature, 0)] }

theorem poisonedSignature_accepts : poisonedSignature.accepts windowSession 0x2C03 2 (0 : W64).toNat = true := by decide +kernel

/-- The write of the entry ends its poison. -/
theorem poisonedSignature_written : ∃ t, exec (.signatureEntryWrite windowSession 0) poisonedSignature = .next t ∧
    t.poison = [] :=
  ⟨_, State.writeRow_effect (u := (poisonedSignature.touch.fitsAt 1).setSig (poisonedSignature.touch.obj 0x2C03 1) 0)
    poisonedSignature_accepts fun _ => rfl, rfl⟩

/-- Refutes O32: a write of a signature entry that reads with poison ends the poison, which is not the Tally's own
(`ofTally`), so that the state does not keep it as the frame of the first clause says. -/
theorem not_tallyWrites : ¬ Obligations.TallyWrites := by
  unfold Obligations.TallyWrites
  rintro ⟨h, -⟩
  obtain ⟨t, ht, -, hs, -⟩ := h windowSession 0 poisonedSignature poisonedSignature_accepts
  obtain ⟨u, hu, hp⟩ := poisonedSignature_written
  rw [hu] at ht
  obtain rfl : u = t := by simpa using ht
  have hpoison : u.poison.filter (!ofTally ·) = poisonedSignature.poison.filter (!ofTally ·) := by simp only [hs]
  rw [hp] at hpoison
  exact absurd hpoison (by decide)


/-! ### Re-arms, AVS trim, droop thresholds and the quantum (03 R73, 04 R91, 05 R125, R136, 06 R142) -/

theorem State.writeEffect_laneRearm (s : State) {n : Nat} (h : n < 96) (sess : Nat) (bs : List Byte) :
    s.writeEffect sess (0x2100 + n) 0x11 1 bs = (s.rearmLane n, 0) := by
  unfold State.writeEffect State.effectPower
  rw [if_neg (by omega), if_pos (by omega), if_pos (by simp; omega), Nat.add_sub_cancel_left]
  rfl

theorem State.writeEffect_tapRearm (s : State) {n : Nat} (h : n < 512) (sess : Nat) (bs : List Byte) :
    s.writeEffect sess (0x2500 + n) 7 1 bs = (s.rearmTap n, 0) := by
  unfold State.writeEffect State.effectPower
  rw [if_neg (by omega), if_pos (by omega), if_neg (by simp), if_neg (by simp; omega), if_pos (by simp; omega),
    Nat.add_sub_cancel_left]
  rfl

/-- Objects of Rail Control and of the droop groups take their value. -/
theorem State.writeEffect_plain (s : State) {i : Nat} (h1 : 0x2200 ≤ i) (h2 : i < 0x2500) (sess j v : Nat) (bs : List Byte) :
    s.writeEffect sess i j v bs = (s.setObj i j v, 0) := by
  unfold State.writeEffect State.effectPower
  rw [if_neg (by omega), if_pos (by omega), if_neg (by simp; omega), if_neg (by simp; omega), if_neg (by simp; omega),
    if_neg (by simp; omega), if_neg (by simp; omega)]
  rfl

theorem State.writeEffect_quantum (s : State) (sess v : Nat) (bs : List Byte) :
    s.writeEffect sess 0x2800 1 v bs = (s.setQuantum v, 0) := rfl

/-- A plain object after its accepted write. -/
theorem State.obj_wrote_setObj (s : State) {i j : Nat} (v : Nat) (hj : j < 256) (h : i ≠ 0x1402) :
    (s.setObj i j v).wrote.obj i j = v :=
  (State.obj_wrote _ hj (Or.inl h)).trans (State.obj_setObj_same s i j v)

/-- A lane that is re-armed, before its rail's floor is looked at. -/
theorem State.rearmLane_cold {s : State} {n : Nat} (h : (s.lane n).st = .faulted ∨ (s.lane n).st = .blind) :
    ((s.rearmLane n).lane n).st = .cold ∧ ((s.rearmLane n).lane n).cause = 0 ∧ Spares (s.rearmLane n) s := by
  unfold State.rearmLane
  extract_lets l r v s1 s2
  rw [if_pos (by rcases h with h | h <;> simp [l, h])]
  have hd : Drives s1 s := Drives.setLane s n _
  have hd2 : Drives s2 s := Drives.ite ((Drives.modRail s1 r _).trans hd) hd
  have hlane : s2.lane n = s1.lane n := by
    simp only [s2]
    split <;> rfl
  have hself : s1.lane n = { l.stop .cold with cause := 0 } := (State.lane_setLane s n n _).trans (if_pos rfl)
  have hst : (s2.lane n).st = .cold ∧ (s2.lane n).cause = 0 := by rw [hlane, hself]; exact ⟨rfl, rfl⟩
  obtain ⟨h1, h2⟩ := (State.floorCheck_tells s2 r).downs.lane n (Or.inl hst.1)
  exact ⟨h1.trans hst.1, h2.trans hst.2, (s2.floorCheck_spares r).chain hd2.spares⟩

/-- A blind check with pin 20 calm is noted, and changes else only droop state and learning. -/
theorem State.blindCheck_noted {s : State} (h : s.calm 20) (d : Nat) :
    Noted (s.blindCheck d) { s with droops := (s.blindCheck d).droops, tally := (s.blindCheck d).tally } := by
  unfold State.blindCheck
  split
  · extract_lets v s1 s2
    have hcalm : s2.calm 20 := State.calm_of h State.obj_same
    have hn := State.raiseCause_noted hcalm 2 d 0 (s2.droopPa d 0)
    generalize s2.raiseCause 20 2 d 0 (s2.droopPa d 0) = t at hn
    unfold Noted at *
    rw [hn]
    rfl
  · exact s.dropCause_noted _ _ _

/-- The tap that a re-arm brings back. -/
def State.tapRearmed (s : State) (t : Nat) : State :=
  s.modTap t (fun p => { p with
    st := if s.tapGroup t == 0xFE then .sense else if s.tapGroup t == 0xFF then .unassigned
      else if s.tapDomain t < 32 && (s.domain (s.tapDomain t)).good then .valid else .idle
    suspect := 0, agreed := none, parityBad := false, reach := 0 })

theorem State.rearmTap_masked {s : State} {n : Nat} (h : (s.tap n).st = .masked) : s.rearmTap n =
    if s.tapDomain n < 32 && (s.domain (s.tapDomain n)).good then (s.tapRearmed n).blindCheck (s.tapDomain n)
    else s.tapRearmed n :=
  if_pos (by rw [h]; decide)

theorem State.rearmTap_noted {s : State} {n : Nat} (h : (s.tap n).st = .masked) (hc : s.calm 20) :
    Noted (s.rearmTap n) { s.tapRearmed n with droops := (s.rearmTap n).droops, tally := (s.rearmTap n).tally } := by
  rw [State.rearmTap_masked h]
  split
  · exact State.blindCheck_noted (State.calm_of (t := s.tapRearmed n) hc State.obj_same) _
  · rfl

/-- Settles O31: each write is its effect, counted and answered (`State.writeRow_effect`). -/
theorem laneTapAndCreditWrites : Obligations.LaneTapAndCreditWrites := by
  unfold Obligations.LaneTapAndCreditWrites
  refine ⟨fun sess n s hn hacc hst => ?_, fun sess r v s hr hacc => ?_, fun sess n s hn hacc hst hcalm => ?_,
    fun sess g k v s hg h6 h1D hacc => ?_, fun sess v s hacc => ?_⟩
  case refine_1 =>
    have hrow := State.writeRow_effect hacc fun bs => s.touch.writeEffect_laneRearm hn sess bs
    obtain ⟨h1, h2, h3⟩ := State.rearmLane_cold (s := s.touch) hst
    refine ⟨_, (if_pos hn).trans hrow, h1, h2, ?_⟩
    generalize s.touch.rearmLane n = t at h3
    simp only [Spares, State.wrote, State.touch] at *
    simp [h3]
  case refine_2 =>
    have hrow := State.writeRow_effect hacc fun bs => s.touch.writeEffect_plain (by omega) (by omega) sess 0x0A v bs
    exact ⟨_, (if_pos hr).trans hrow, State.obj_wrote_setObj _ v (by decide) (by omega), rfl⟩
  case refine_3 =>
    have hrow := State.writeRow_effect hacc fun bs => s.touch.writeEffect_tapRearm hn sess bs
    have hnoted := State.rearmTap_noted (s := s.touch) hst (State.calm_of (t := s.touch) hcalm State.obj_same)
    refine ⟨_, (if_pos hn).trans hrow, ?_⟩
    have htap : ∀ k, (s.touch.rearmTap n).tap k = (s.touch.tapRearmed n).tap k := fun k => by
      unfold Noted at hnoted
      rw [hnoted]
      rfl
    have hself : (s.touch.tapRearmed n).tap n = _ := (tget_tset ..).trans (if_pos rfl)
    generalize s.touch.rearmTap n = t at hnoted htap ⊢
    refine ⟨?_, ?_, fun k hk => ?_, ?_⟩
    · show (t.tap n).suspect = 0
      rw [htap, hself]
    · show (t.tap n).st = _
      rw [htap, hself]
      simp only [beq_iff_eq, Bool.and_eq_true, decide_eq_true_eq]
      rfl
    · exact (htap k).trans ((tget_tset ..).trans (if_neg hk))
    · unfold Noted State.wrote at *
      rw [hnoted]
      rfl
  case refine_4 =>
    have hrow := State.writeRow_effect hacc fun bs => s.touch.writeEffect_plain (by omega) (by omega) sess k v bs
    exact ⟨_, (if_pos (by simp [hg, h6, h1D])).trans hrow, State.obj_wrote_setObj _ v (by omega) (by omega), rfl⟩
  case refine_5 =>
    have hrow := State.writeRow_effect hacc fun bs => s.touch.writeEffect_quantum sess v bs
    refine ⟨_, hrow, ?_, fun a => ?_, fun k => ?_, rfl⟩
    · exact (State.obj_wrote _ (by decide) (Or.inl (by decide))).trans
        (Eq.trans State.obj_same (State.obj_setObj_same s.touch 0x2800 1 v))
    · show (tget (s.arrays.map (fun p : Nat × ArrayAcc => (p.1, { p.2 with bal := 0, fil := 0, cum := 0 }))) a {}).bal = 0 ∧
        (tget (s.arrays.map (fun p : Nat × ArrayAcc => (p.1, { p.2 with bal := 0, fil := 0, cum := 0 }))) a {}).fil = 0
      rw [tget_map s.arrays (fun v => { v with bal := 0, fil := 0, cum := 0 })]
      split <;> exact ⟨rfl, rfl⟩
    · show (tget (s.rings.map (fun p : Nat × RingAcc => (p.1, { p.2 with bal := 0, snap := 0 }))) k {}).bal = 0
      rw [tget_map s.rings (fun v => { v with bal := 0, snap := 0 })]
      split <;> rfl


/-! ### Writes of the Assayer (11 R278, R283, R287 to R289) -/

theorem State.writeEffect_releaseQuarantine (s : State) {a : Nat} (h : a < 256) (sess : Nat) (bs : List Byte) :
    s.writeEffect sess (0x6010 + a) 9 1 bs = (s.endQuarantine a, 0) := by
  unfold State.writeEffect State.effectAssay
  rw [if_neg (by omega), if_neg (by omega), if_neg (by omega), if_neg (by omega), if_neg (by omega), if_neg (by omega),
    if_pos (by omega), if_neg (by simp), if_neg (by simp), if_neg (by simp), if_neg (by simp; omega), if_pos (by simp; omega),
    Nat.add_sub_cancel_left]
  rfl

theorem State.writeEffect_peerReport (s : State) (sess v : Nat) (bs : List Byte) :
    s.writeEffect sess 0x6004 1 v bs = (s.peerReported v, 0) := rfl

theorem State.writeEffect_startKnown (s : State) (sess : Nat) (bs : List Byte) :
    s.writeEffect sess 0x6003 3 1 bs = (s.startKnown, 0) := rfl

theorem State.writeEffect_stopKnown (s : State) (sess : Nat) (bs : List Byte) :
    s.writeEffect sess 0x6003 3 2 bs = (s.stopRun, 0) := rfl

theorem State.writeEffect_startSweep (s : State) (sess : Nat) (bs : List Byte) :
    s.writeEffect sess 0x6002 2 1 bs = (s.startSweep, 0) := rfl

theorem State.writeEffect_stopSweep (s : State) (sess : Nat) (bs : List Byte) :
    s.writeEffect sess 0x6002 2 2 bs = (s.abortSweep, 0) := rfl

/-- An array released from quarantine, before its domain's cause is looked at. -/
def State.unquarantined (s : State) (a : Nat) : State :=
  { s.modArray a (fun v => { v with quarantined := false }) with
    assayer := { s.assayer with qcause := tset s.assayer.qcause a 0, lost := tset s.assayer.lost a [] } }

theorem State.endQuarantine_noted {s : State} {a : Nat} (h : s.quarantined a = true) :
    Noted (s.endQuarantine a) (s.unquarantined a) := by
  unfold State.endQuarantine
  rw [if_neg (by rw [h]; decide)]
  dsimp only
  split
  · exact Noted.refl _
  · exact State.dropCause_noted _ _ _ _

/-- The request of one array and one kernel: sent, put back, or resolved as not run. -/
def State.pumpOne (s : State) (q : Nat × Nat) : State :=
  let a := q.1
  let i := q.2
  let on : Bool := match s.arrayDomain a with
    | some d => (s.domain d).st == .on && !s.quarantined a
    | none => false
  if !on then s.bump 0x6003 7
  else if s.poisoned .library i then (s.bump 0x6003 7).dEvent 53
  else if s.pendingOn a < s.obj 0x6000 0x0A then
    let s := s.request (requestWord 3 a a 0 i i (s.obj (0x6300 + i) 6))
    { s with assayer := { s.assayer with run := { s.assayer.run with
      out := s.assayer.run.out ++ [(a, i, s.tb.now)] } } }
  else { s with assayer := { s.assayer with run := { s.assayer.run with
    todo := s.assayer.run.todo ++ [q] } } }

theorem State.pumpRun_active {s : State} (h : s.assayer.run.active = true) : s.pumpRun =
    each s.assayer.run.todo State.pumpOne
      { s with assayer := { s.assayer with run := { s.assayer.run with todo := [] } } } :=
  if_neg (by simp [h])

/-- A run keeps going: the state differs in the Assayer and the counters, the run in what it has to do and has sent. -/
structure Pumps (t s : State) : Prop where
  frame : t = { s with assayer := t.assayer, od := t.od }
  active : t.assayer.run.active = s.assayer.run.active
  status : t.assayer.run.status = s.assayer.run.status
  sweep : t.assayer.run.sweep = s.assayer.run.sweep

theorem Pumps.refl (s : State) : Pumps s s := ⟨rfl, rfl, rfl, rfl⟩

theorem Pumps.trans {a b c : State} (h : Pumps a b) (g : Pumps b c) : Pumps a c :=
  ⟨by rw [h.frame, g.frame], h.active.trans g.active, h.status.trans g.status, h.sweep.trans g.sweep⟩

theorem Pumps.ite {c : Prop} [Decidable c] {a b s : State} (ha : Pumps a s) (hb : Pumps b s) :
    Pumps (if c then a else b) s := by split <;> assumption

theorem Pumps.sends (s : State) (rs : List W64) (out : List (Nat × Nat × Nat)) : Pumps { s with
    assayer := { s.assayer with requests := rs, run := { s.assayer.run with out := out } } } s := ⟨rfl, rfl, rfl, rfl⟩

theorem State.request_run (s : State) (w : W64) :
    s.request w = { s with assayer := { s.assayer with requests := (s.request w).assayer.requests } } := by
  unfold State.request
  split <;> rfl

theorem State.pumpOne_pumps {s : State} (h : s.poison = []) (q : Nat × Nat) : Pumps (s.pumpOne q) s := by
  obtain ⟨rs, hr⟩ : ∃ rs, s.request (requestWord 3 q.1 q.1 0 q.2 q.2 (s.obj (0x6300 + q.2) 6)) =
      { s with assayer := { s.assayer with requests := rs } } := ⟨_, s.request_run _⟩
  unfold State.pumpOne
  dsimp only
  rw [if_neg (show ¬ s.poisoned .library q.2 = true by simp [State.poisoned, h]), hr]
  exact Pumps.ite ⟨rfl, rfl, rfl, rfl⟩ (Pumps.ite (Pumps.sends s rs _) ⟨rfl, rfl, rfl, rfl⟩)

theorem State.pumpRun_pumps {s : State} (h : s.poison = []) (ha : s.assayer.run.active = true) : Pumps s.pumpRun s := by
  rw [State.pumpRun_active ha]
  have hall := each_carries (f := State.pumpOne) (fun t => t.poison = [] ∧ Pumps t s) (fun t q ht => ?_) s.assayer.run.todo
    { s with assayer := { s.assayer with run := { s.assayer.run with todo := [] } } } ⟨h, ⟨rfl, rfl, rfl, rfl⟩⟩
  · exact hall.2
  · have hone := State.pumpOne_pumps ht.1 q
    refine ⟨?_, hone.trans ht.2⟩
    rw [hone.frame]
    exact ht.1

/-- A run that has been set up, before its requests are sent. -/
theorem State.beginRun_eq (s : State) (arrays kernels : List Nat) (votes : Bool) : ∃ todo,
    s.beginRun arrays kernels false votes = State.pumpRun { (s.setObj 0x6003 5 0).setObj 0x6003 6 0 with
      assayer := { s.assayer with run := { status := 1, active := true, sweep := false, votes := votes, todo := todo } } } :=
  ⟨_, rfl⟩

/-- A sweep that is aborted, its run stopped, before the interrupt. -/
theorem State.abortSweep_stops {s : State} (h : s.assayer.sweep.status = 1) : ∃ od run,
    s.abortSweep = State.signal { s with
      od := od, rails := tset s.rails s.assayer.sweep.rail { s.rail s.assayer.sweep.rail with avs := 0 }
      assayer := { s.assayer with
        run := run, sweep := { s.assayer.sweep with status := 3, trim := 0, settleEnd := none, stop := s.tb.now } } } 0x0C7 := by
  obtain ⟨od, run, hs⟩ : ∃ od run, (if s.assayer.run.sweep then s.stopRun else s) =
      { s with od := od, assayer := { s.assayer with run := run } } := by
    split
    · next hsw =>
      by_cases ha : s.assayer.run.active = true
      · refine ⟨(s.bumpBy 0x6003 7 (s.assayer.run.todo.length + s.assayer.run.out.length)).od,
          { s.assayer.run with active := false, todo := [], out := [] }, ?_⟩
        unfold State.stopRun
        dsimp only
        rw [if_pos ha]
        simp only [hsw, if_true]
        rfl
      · refine ⟨s.od, s.assayer.run, if_neg ha⟩
    · exact ⟨s.od, s.assayer.run, rfl⟩
  refine ⟨od, run, ?_⟩
  unfold State.abortSweep
  rw [if_pos h]
  dsimp only
  rw [hs]
  rfl

theorem State.startSweep_starts {s : State} {r : Nat} (h : s.obj 0x6002 1 = r) : s.startSweep.assayer.sweep.rail = r ∧
    s.startSweep.assayer.sweep.settleEnd = some (s.tb.now + s.cyc 0x6002 4) ∧ (s.startSweep.rail r).avs = 0 := by
  unfold State.startSweep
  rw [h]
  exact ⟨rfl, congrArg (fun k => some (s.tb.now + cycles k)) State.obj_same,
    congrArg Rail.avs ((tget_tset ..).trans (if_pos rfl))⟩

/-- Settles O35: each write is its effect, counted and answered (`State.writeRow_effect`). -/
theorem assayWrites : Obligations.AssayWrites := by
  unfold Obligations.AssayWrites
  refine ⟨fun sess a s ha hacc hq => ?_, fun sess w s hacc hcfg => ?_, fun sess s hacc hp => ?_, fun sess s hacc hact hsw => ?_,
    fun sess s hacc => ?_, fun sess s hacc hst => ?_⟩
  case refine_1 =>
    have hrow := State.writeRow_effect hacc fun bs => s.touch.writeEffect_releaseQuarantine ha sess bs
    have hn := State.endQuarantine_noted (s := s.touch) hq
    refine ⟨_, (if_pos ha).trans hrow, ?_⟩
    have harray : ∀ k, (s.touch.unquarantined a).array k =
        if k = a then { s.array a with quarantined := false } else s.array k := fun k => tget_tset ..
    generalize s.touch.endQuarantine a = t at hn
    have hall : ∀ k, t.wrote.array k = (s.touch.unquarantined a).array k := fun k => by
      unfold Noted at hn
      rw [hn]
      rfl
    refine ⟨?_, fun k hk => ?_, ?_, ?_⟩
    · unfold State.quarantined
      rw [hall, harray, if_pos rfl]
    · rw [hall, harray, if_neg hk]
    · unfold Noted at hn
      rw [hn]
      rfl
    · unfold Noted at *
      rw [hn]
      rfl
  case refine_2 =>
    have hrow := State.writeRow_effect hacc fun bs => s.touch.writeEffect_peerReport sess w.toNat bs
    let u := (s.touch.bump 0x6004 2).record 0x0224 w.toNat 0 false
    have ht : Tells (u.trigger 51 0 0 0 0) (s.touch.bump 0x6004 2) :=
      (State.trigger_tells _ _ _ _ _ _).trans (State.record_tells _ _ _ _ _)
    have hsp : Spares (u.trigger 51 0 0 0 0) u := State.trigger_spares _ _ _ _ _ _
    have hu : Spares u (s.touch.bump 0x6004 2) := State.record_spares _ _ _ _ _
    have hnu : Noted u s.touch := by
      have h := State.enqueueGroup_noted (s.touch.bump 0x6004 2) [(0x0224, w.toNat, 0)] false
      exact Noted.trans (b := s.touch.bump 0x6004 2) h rfl
    refine ⟨_, hrow, ?_, ?_, fun hcalm => ?_⟩
    · refine (State.obj_wrote _ (by decide) (Or.inl (by decide))).trans ?_
      refine (ht.obj 0x6004 2 (by decide) (by decide)).trans ?_
      rw [State.obj_bump_same, State.obj_touch]
    · have h := hsp.chain hu
      change Spares (u.trigger 51 0 0 0 0).wrote _
      generalize u.trigger 51 0 0 0 0 = t at h
      simp only [Spares, State.wrote, State.touch] at *
      simp [h]
    · have hcu : u.calm 51 := by
        obtain ⟨h1, h2, h3, h4, h5, h6⟩ := hcalm
        have hobj : u.obj (0x5010 + 51) 2 = s.obj (0x5010 + 51) 2 :=
          ((State.record_tells _ _ _ _ _).obj _ 2 (by decide) (by decide)).trans
            (State.obj_bump_other s.touch (by decide) (by decide) (by decide) (by decide))
        have hrec : u.pins = s.pins ∧ u.events = s.events ∧ u.gov = s.gov ∧ u.tb.gclk = s.tb.gclk := by
          simp only [u]
          unfold State.record State.enqueueGroup
          dsimp only
          split <;> exact ⟨rfl, rfl, rfl, rfl⟩
        obtain ⟨hp, he, hg, ht⟩ := hrec
        refine ⟨ht.trans h1, by rw [hg]; exact h2, h3, ?_, by rw [hobj]; exact h5, by rw [he]; exact h6⟩
        unfold State.pin
        rw [hp]
        exact h4
      obtain ⟨hn, hl⟩ := u.trigger_calm 51 0 0 0 0 hcu
      have hreach : u.pinReached 51 = true := by
        have hc : u.cfg = .full := by rw [hnu]; exact hcfg
        simp [State.pinReached, hcu.1, hc]
      refine ⟨hl hreach, ?_⟩
      have h := hn.trans hnu
      change Noted (u.trigger 51 0 0 0 0).wrote _
      generalize u.trigger 51 0 0 0 0 = t at h
      unfold Noted at *
      rw [h]
      rfl
  case refine_3 =>
    obtain ⟨todo, hbegin⟩ := s.touch.beginRun_eq (bitsOf 256 (s.touch.obj 0x6003 1)) (bitsOf 64 (s.touch.obj 0x6003 2)) true
    have hrow := State.writeRow_effect hacc fun bs => s.touch.writeEffect_startKnown sess bs
    unfold State.startKnown at hrow
    rw [hbegin] at hrow
    let u : State := { (s.touch.setObj 0x6003 5 0).setObj 0x6003 6 0 with
      assayer := { s.assayer with run := { status := 1, active := true, sweep := false, votes := true, todo := todo } } }
    change _ = Host.Outcome.next u.pumpRun.wrote at hrow
    have hp : Pumps u.pumpRun u := State.pumpRun_pumps hp rfl
    have htell := u.pumpRun_tells
    have h5 : u.obj 0x6003 5 = 0 := by
      refine Eq.trans State.obj_same ((State.obj_setObj_other _ _ (by decide) (by decide) (by decide) (Or.inr (by decide))).trans
        (State.obj_setObj_same _ _ _ _))
    have h6 : u.obj 0x6003 6 = 0 := Eq.trans State.obj_same (State.obj_setObj_same _ _ _ _)
    refine ⟨_, hrow, hp.active, hp.status, hp.sweep, ?_, ?_, ?_⟩
    · exact (State.obj_wrote _ (by decide) (Or.inl (by decide))).trans ((htell.obj _ 5 (by decide) (by decide)).trans h5)
    · exact (State.obj_wrote _ (by decide) (Or.inl (by decide))).trans ((htell.obj _ 6 (by decide) (by decide)).trans h6)
    · have hf := hp.frame
      generalize u.pumpRun = t at hf
      unfold State.wrote
      rw [hf]
      rfl
  case refine_4 =>
    let u : State := { s.touch.bumpBy 0x6003 7 (s.assayer.run.todo.length + s.assayer.run.out.length) with
      assayer := { s.assayer with run := { s.assayer.run with status := 3, active := false, todo := [], out := [] } } }
    have he : s.touch.stopRun = u.signal 0x0C6 := by
      unfold State.stopRun
      dsimp only
      rw [show s.touch.assayer = s.assayer from rfl, if_pos hact, if_neg (by rw [hsw]; decide), if_neg (by rw [hsw]; decide)]
      rfl
    have hrow := State.writeRow_effect (u := u.signal 0x0C6) hacc fun bs =>
      (State.writeEffect_stopKnown _ sess bs).trans (congrArg (·, 0) he)
    have hn := u.signal_noted 0x0C6
    refine ⟨_, hrow, ?_⟩
    generalize u.signal 0x0C6 = t at hn
    unfold Noted at *
    rw [hn]
    exact ⟨rfl, rfl⟩
  case refine_5 =>
    have hrow := State.writeRow_effect hacc fun bs => s.touch.writeEffect_startSweep sess bs
    obtain ⟨h1, h2, h3⟩ := State.startSweep_starts (s.obj_touch 0x6002 1)
    have hcyc : s.touch.cyc 0x6002 4 = s.cyc 0x6002 4 := congrArg cycles (s.obj_touch 0x6002 4)
    rw [hcyc] at h2
    have hframe : s.touch.startSweep = { s.touch with
        assayer := s.touch.startSweep.assayer, rails := s.touch.startSweep.rails } := rfl
    have hst : s.touch.startSweep.assayer.sweep.status = 1 ∧ s.touch.startSweep.assayer.sweep.start = s.tb.now ∧
        s.touch.startSweep.assayer.sweep.trim = 0 := ⟨rfl, rfl, rfl⟩
    generalize s.touch.startSweep = t at h1 h2 h3 hframe hst hrow
    refine ⟨_, hrow, hst.1, hst.2.1, h1, hst.2.2, h2, h3, ?_⟩
    unfold State.wrote
    rw [hframe]
    rfl
  case refine_6 =>
    obtain ⟨od, run, he⟩ := State.abortSweep_stops (s := s.touch) hst
    have hrow := State.writeRow_effect hacc fun bs => (s.touch.writeEffect_stopSweep sess bs).trans (congrArg (·, 0) he)
    refine ⟨_, hrow, ?_⟩
    have hn := State.signal_noted { s.touch with
      od := od, rails := tset s.touch.rails s.touch.assayer.sweep.rail { s.touch.rail s.touch.assayer.sweep.rail with avs := 0 }
      assayer := { s.touch.assayer with
        run := run
        sweep := { s.touch.assayer.sweep with status := 3, trim := 0, settleEnd := none, stop := s.touch.tb.now } } } 0x0C7
    generalize State.signal _ 0x0C7 = t at hn
    unfold Noted at *
    refine ⟨by rw [hn]; rfl, by rw [hn]; rfl, by rw [hn]; rfl, ?_, by rw [hn]; rfl⟩
    show (tget t.rails s.assayer.sweep.rail {}).avs = 0
    rw [hn]
    exact congrArg Rail.avs ((tget_tset ..).trans (if_pos rfl))


/-! ### Acknowledgement, clears of the recorder, dump release and time set (12 R299, R310, R313, R315) -/

theorem State.writeEffect_acknowledge (s : State) (sess : Nat) (w : W64) (bs : List Byte) :
    s.writeEffect sess 0x5000 1 w.toNat bs = (s.acknowledgeWord w, 0) := by
  show (s.acknowledgeWord (BitVec.ofNat 64 w.toNat), 0) = _
  rw [BitVec.ofNat_toNat, BitVec.setWidth_eq]

theorem State.writeEffect_daybookClear (s : State) (sess : Nat) (bs : List Byte) : s.writeEffect sess 0x5400 7 1 bs =
    ({ s with recorder := { s.recorder with first := s.recorder.head + 1 } }, 0) := rfl

theorem State.writeEffect_vitrineClear (s : State) (sess : Nat) (bs : List Byte) : s.writeEffect sess 0x5400 8 1 bs =
    ({ s with recorder := { s.recorder with vitrine := [], copying := false }
              poison := s.poison.filter (·.1 != .vitrine) }, 0) := rfl

theorem State.writeEffect_dumpRelease (s : State) {c : Nat} (h : c < 4) (sess : Nat) (bs : List Byte) :
    s.writeEffect sess (0x5410 + c) 2 1 bs = (s.releaseDump c, 0) := by
  unfold State.writeEffect State.effectFaults
  rw [if_neg (by omega), if_neg (by omega), if_neg (by omega), if_neg (by omega), if_neg (by omega), if_pos (by omega),
    if_neg (by simp), if_neg (by simp), if_neg (by simp), if_pos (by simp; omega), Nat.add_sub_cancel_left]
  rfl

/-! #### Acknowledgement -/

/-- A pin as an acknowledgement clears it. -/
def State.ackPin (s : State) (n : Nat) : Pin :=
  { s.pin n with latched := false, eff := s.obj (0x5010 + n) 2, scope := 0 }

/-- Records leave pins alone. -/
theorem State.record_pin (s : State) (a b c : Nat) (v : Bool) (k : Nat) : (s.record a b c v).pin k = s.pin k := by
  unfold State.record State.enqueueGroup
  dsimp only
  split <;> rfl

theorem State.record_noted (s : State) (a b c : Nat) (v : Bool) : Noted (s.record a b c v) s := s.enqueueGroup_noted _ _

/-- The record of a clearance. -/
def State.clearRecorded (s : State) (n : Nat) (v : Pin) : State :=
  (s.setPin n v).record (0x0180 + n) 0 (min ((s.setPin n v).obj (0x5010 + n) 0x0B) (2 ^ 24 - 1)) false

theorem State.clearRecorded_tells (s : State) (n : Nat) (v : Pin) {i j : Nat} (hj : j < 256) (h : told i j = false) :
    (s.clearRecorded n v).obj i j = s.obj i j :=
  ((State.record_tells _ _ _ _ _).obj i j hj h).trans State.obj_same

theorem State.clearRecorded_noted (s : State) (n : Nat) (v : Pin) : Noted (s.clearRecorded n v) s :=
  Noted.trans (b := s.setPin n v) (State.record_noted _ _ _ _ _) rfl

theorem State.clearRecorded_pin (s : State) (n : Nat) (v : Pin) (k : Nat) :
    (s.clearRecorded n v).pin k = if k = n then v else s.pin k :=
  (State.record_pin _ _ _ _ _ k).trans (State.pin_setPin s n k v)

/-- An acknowledged pin with no held cause is cleared and recorded. -/
theorem State.acknowledge_free {s : State} {n : Nat} (hl : (s.pin n).latched = true) (hh : (s.pin n).held = []) :
    s.acknowledge n = s.clearRecorded n (s.ackPin n) := by
  unfold State.acknowledge State.clearRecorded State.ackPin
  dsimp only
  rw [if_neg (by rw [hl]; decide), if_pos (by rw [hh]; rfl)]

theorem State.acknowledge_unlatched {s : State} {n : Nat} (hl : (s.pin n).latched = false) : s.acknowledge n = s :=
  if_pos (by rw [hl]; rfl)

/-- What acknowledging one pin of no held cause does to a pin. -/
theorem State.acknowledge_pin {s : State} {n : Nat} (hh : (s.pin n).held = []) (k : Nat) :
    (s.acknowledge n).pin k = if k = n ∧ (s.pin n).latched = true then s.ackPin n else s.pin k := by
  cases hl : (s.pin n).latched with
  | true =>
    rw [State.acknowledge_free hl hh, State.clearRecorded_pin]
    simp only [and_true]
  | false =>
    rw [State.acknowledge_unlatched hl]
    exact (if_neg (by simp)).symm

theorem State.acknowledge_noted {s : State} {n : Nat} (hh : (s.pin n).held = []) : Noted (s.acknowledge n) s := by
  cases hl : (s.pin n).latched with
  | true =>
    rw [State.acknowledge_free hl hh]
    exact s.clearRecorded_noted n _
  | false =>
    rw [State.acknowledge_unlatched hl]
    exact Noted.refl s

theorem State.obj_acknowledge {s : State} {n : Nat} (hh : (s.pin n).held = []) {i j : Nat} (hj : j < 256)
    (h : told i j = false) : (s.acknowledge n).obj i j = s.obj i j := by
  cases hl : (s.pin n).latched with
  | true =>
    rw [State.acknowledge_free hl hh]
    exact s.clearRecorded_tells n _ hj h
  | false => rw [State.acknowledge_unlatched hl]

theorem told_level (n : Nat) : told (0x5010 + n) 2 = false := by simp [told]

/-- Pins of no held cause acknowledged in order. -/
theorem State.acknowledges_pin : ∀ (l : List Nat) (s : State), l.Nodup → (∀ n ∈ l, n < 64 ∧ (s.pin n).held = []) →
    (∀ k, (each l State.acknowledge s).pin k = if k ∈ l ∧ (s.pin k).latched = true then s.ackPin k else s.pin k) ∧
      Noted (each l State.acknowledge s) s := by
  intro l
  induction l with
  | nil => exact fun s _ _ => ⟨fun k => (if_neg (by simp)).symm, Noted.refl s⟩
  | cons n l ih =>
    intro s hl h
    rw [List.nodup_cons] at hl
    obtain ⟨hn, hh⟩ := h n (by simp)
    have hrest : ∀ k ∈ l, (s.acknowledge n).pin k = s.pin k := fun k hk => by
      rw [State.acknowledge_pin hh]
      exact if_neg fun (e : k = n ∧ (s.pin n).latched = true) => hl.1 (e.1 ▸ hk)
    obtain ⟨hpin, hnoted⟩ := ih (s.acknowledge n) hl.2 fun k hk => by
      rw [hrest k hk]
      exact h k (by simp [hk])
    rw [each_cons]
    refine ⟨fun k => ?_, hnoted.trans (State.acknowledge_noted hh)⟩
    rw [hpin k]
    by_cases hk : k ∈ l
    · have hc : (s.acknowledge n).ackPin k = s.ackPin k := by
        unfold State.ackPin
        rw [hrest k hk, State.obj_acknowledge hh (by decide) (told_level k)]
      rw [hrest k hk, hc]
      simp [hk]
    · rw [if_neg (by simp [hk]), State.acknowledge_pin hh]
      by_cases e : k = n
      · rw [e]
        simp
      · simp [e, hk]

/-- A pin that latches again after its clearance: counted, no trigger. -/
def State.relatched (s : State) (n : Nat) (v : Pin) : State := ((s.setPin n v).bump (0x5010 + n) 8).bump 0x5000 7

theorem State.relatched_noted (s : State) (n : Nat) (v : Pin) : Noted (s.relatched n v) s := rfl

theorem State.relatched_pin (s : State) (n : Nat) (v : Pin) (k : Nat) :
    (s.relatched n v).pin k = if k = n then v else s.pin k := State.pin_setPin s n k v

theorem State.obj_relatched (s : State) (n : Nat) (v : Pin) :
    (s.relatched n v).obj (0x5010 + n) 8 = min (s.obj (0x5010 + n) 8 + 1) 0xFFFFFFFF := by
  refine (State.obj_bump_counter _ (by decide) (by decide) (by decide) (Or.inr (by decide))).trans ?_
  rw [State.obj_bump_same]
  exact congrArg (fun x => min (x + 1) 0xFFFFFFFF) State.obj_same

theorem State.signal_pin (s : State) (n k : Nat) : (s.signal n).pin k = s.pin k := by
  unfold State.signal State.setPending
  repeat' split
  all_goals rfl

/-- A latched pin below SAFE whose cause is held latches again: its level is the programmed one, nothing is asked for. -/
theorem State.acknowledge_held {s : State} {n : Nat} (hl : (s.pin n).latched = true)
    (hh : (s.pin n).held ≠ []) (hlow : s.obj (0x5010 + n) 2 < 3) :
    ((s.acknowledge n).pin n).latched = true ∧ ((s.acknowledge n).pin n).eff = s.obj (0x5010 + n) 2 ∧
      ((s.acknowledge n).pin n).held = (s.pin n).held ∧
      (s.acknowledge n).obj (0x5010 + n) 8 = min (s.obj (0x5010 + n) 8 + 1) 0xFFFFFFFF ∧
      (∀ k, k ≠ n → (s.acknowledge n).pin k = s.pin k) ∧ Noted (s.acknowledge n) s := by
  let c := s.clearRecorded n (s.ackPin n)
  let scope := maskOf ((s.pin n).held.flatMap (fun h => c.scopeRails h.1 h.2))
  let v : Pin := { s.pin n with latched := true, eff := s.obj (0x5010 + n) 2, scope := scope }
  have he : s.acknowledge n =
      if 1 ≤ s.obj (0x5010 + n) 2 then (c.relatched n v).signal (0x040 + n) else c.relatched n v := by
    unfold State.acknowledge
    dsimp only
    rw [if_neg (by rw [hl]; decide), if_neg (by simpa using hh), State.serviceFault_low hlow, State.levelWork_low _ _ hlow,
      State.work_nil]
    rfl
  have hpin : ∀ k, (c.relatched n v).pin k = if k = n then v else s.pin k := fun k => by
    rw [State.relatched_pin]
    by_cases e : k = n
    · rw [if_pos e, if_pos e]
    · rw [if_neg e, if_neg e]
      exact (s.clearRecorded_pin n _ k).trans (if_neg e)
  have hobj : (c.relatched n v).obj (0x5010 + n) 8 = min (s.obj (0x5010 + n) 8 + 1) 0xFFFFFFFF := by
    rw [State.obj_relatched, show c.obj (0x5010 + n) 8 = s.obj (0x5010 + n) 8 from
      s.clearRecorded_tells n _ (by decide) (by simp [told])]
  have hnoted : Noted (c.relatched n v) s := (c.relatched_noted n v).trans (s.clearRecorded_noted n _)
  rw [he]
  generalize c.relatched n v = u at hpin hobj hnoted
  have hall : ∀ t : State, (t = u ∨ t = u.signal (0x040 + n)) → (∀ k, t.pin k = u.pin k) ∧
      t.obj (0x5010 + n) 8 = u.obj (0x5010 + n) 8 ∧ Noted t u := by
    rintro t (rfl | rfl)
    · exact ⟨fun _ => rfl, rfl, Noted.refl _⟩
    · exact ⟨u.signal_pin _, (State.signal_tells _ _).obj _ 8 (by decide) (by simp [told]), State.signal_noted _ _⟩
  obtain ⟨hp, ho, hn'⟩ := hall (if 1 ≤ s.obj (0x5010 + n) 2 then u.signal (0x040 + n) else u) (by
    split
    · exact Or.inr rfl
    · exact Or.inl rfl)
  have hself := (hp n).trans ((hpin n).trans (if_pos rfl))
  exact ⟨by rw [hself], by rw [hself], by rw [hself], ho.trans hobj, fun k hk => (hp k).trans ((hpin k).trans (if_neg hk)),
    hn'.trans hnoted⟩

/-! #### The set of the time -/

theorem State.setTime_sets (s : State) (v q : Nat) : (s.setTime v q).clock.base = v - s.sinceBase ∧
    (s.setTime v q).clock.quality = q ∧ (s.setTime v q).clock.lastSet = s.tb.now ∧
      Spares (s.setTime v q) { s with clock := (s.setTime v q).clock } := by
  let u : State := { s with clock := { s.clock with
    base := v - s.sinceBase, quality := q, lastSet := s.tb.now, stopped := s.clock.stopped.map (fun _ => s.tb.now) } }
  have h : Spares (s.setTime v q) u := by
    unfold State.setTime
    extract_lets before was change c s1 s2
    have h2 : Spares s2 s1 := State.record_spares _ _ _ _ _
    have h3 : Spares (s2.trigger 61 0 0 0 0) s2 := State.trigger_spares _ _ _ _ _ _
    exact Spares.ite (h3.chain h2) h2
  have hc : (s.setTime v q).clock = u.clock := by simp only [h]
  generalize s.setTime v q = t at h hc ⊢
  rw [hc]
  refine ⟨rfl, rfl, rfl, ?_⟩
  simp only [Spares, h, u, and_true]

theorem valueBytes_time (v : W64) : valueBytes 0x1300 3 v.toNat = bytesLE 8 v.toNat := by
  obtain ⟨r, h1, h2⟩ : ∃ r, objRow 0x1300 3 = some r ∧ r.ty.size = 8 := ⟨_, rfl, rfl⟩
  unfold valueBytes
  rw [h1]
  dsimp only
  rw [h2]
  exact if_pos v.isLt

theorem valueBytes_quality {q : Nat} (h : q < 256) : valueBytes 0x1300 4 q = bytesLE 1 q := by
  obtain ⟨r, h1, h2⟩ : ∃ r, objRow 0x1300 4 = some r ∧ r.ty.size = 1 := ⟨_, rfl, rfl⟩
  unfold valueBytes
  rw [h1]
  dsimp only
  rw [h2, if_pos (by omega)]

/-- A write that the object engine has admitted and whose effect stands. -/
theorem State.writeObject_effect {s u : State} {sess i j v : Nat} (h : s.admits sess i j v = true)
    (he : ∀ bs, s.writeEffect sess i j v bs = (u, 0)) : s.writeObject sess i j (valueBytes i j v) 0 = u.wrote := by
  obtain ⟨bs, -, hb, hw⟩ := s.writeObject_admits sess i j v h
  rw [hb, hw, he bs]
  rfl

theorem State.writeEffect_timeValue (s : State) (sess v : Nat) (bs : List Byte) :
    s.writeEffect sess 0x1300 3 v bs = (s.setObj 0x1300 3 v, 0) := rfl

theorem State.writeEffect_timeSet (s : State) (sess q : Nat) (bs : List Byte) :
    s.writeEffect sess 0x1300 4 q bs = (s.setTime (s.obj 0x1300 3) q, 0) := rfl

theorem State.accepts_split {s : State} {sess i j v : Nat} (h : s.accepts sess i j v = true) :
    s.presents sess = true ∧ s.touch.admits sess i j v = true := by
  unfold State.accepts at h
  rwa [Bool.and_eq_true] at h

/-- Settles O36: each write is its effect, counted and answered; the acknowledgement by the cases of the held cause. -/
theorem recordWrites : Obligations.RecordWrites := by
  unfold Obligations.RecordWrites
  refine ⟨fun sess w s hacc hheld => ?_, fun sess n w s hacc hn hw hl hh hlow => ?_, fun sess s hacc => ?_,
    fun sess s hacc => ?_, fun sess c s hc hacc => ?_, fun sess q v s hacc hq hadm => ?_⟩
  case refine_1 =>
    have hrow := State.writeRow_effect hacc fun bs => s.touch.writeEffect_acknowledge sess w bs
    obtain ⟨hpin, hnoted⟩ := State.acknowledges_pin ((List.range 64).filter (fun n => w.getLsbD n)) s.touch
      (List.nodup_range.filter _) fun n hm => by
        obtain ⟨h1, h2⟩ := List.mem_filter.mp hm
        exact ⟨List.mem_range.mp h1, hheld n (List.mem_range.mp h1) h2⟩
    refine ⟨_, hrow, fun n hn => ?_, ?_⟩
    · refine (hpin n).trans ?_
      unfold State.ackPin
      rw [State.obj_touch]
      refine if_congr ?_ rfl rfl
      rw [List.mem_filter, List.mem_range, Bool.and_eq_true]
      exact ⟨fun h => ⟨h.1.2, h.2⟩, fun h => ⟨⟨hn, h.1⟩, h.2⟩⟩
    · change Noted (each _ State.acknowledge s.touch).wrote _
      generalize each _ State.acknowledge s.touch = t at hnoted
      unfold Noted at *
      rw [hnoted]
      rfl
  case refine_2 =>
    have hrow := State.writeRow_effect hacc fun bs => s.touch.writeEffect_acknowledge sess w bs
    have hword : s.touch.acknowledgeWord w = s.touch.acknowledge n := by
      have hlist : (List.range 64).filter (fun k => w.getLsbD k) = [n] := by
        rw [List.filter_congr (q := fun k => k == n) fun k hk => by
          rw [hw k (List.mem_range.mp hk)]
          rfl]
        rw [List.filter_beq, List.nodup_range.count, if_pos (List.mem_range.mpr hn)]
        rfl
      unfold State.acknowledgeWord
      rw [hlist]
      rfl
    rw [hword] at hrow
    obtain ⟨h1, h2, h3, h4, h5, h6⟩ := State.acknowledge_held (s := s.touch) hl hh (by rw [State.obj_touch]; exact hlow)
    rw [State.obj_touch] at h2 h4
    generalize s.touch.acknowledge n = t at h1 h2 h3 h4 h5 h6 hrow
    refine ⟨_, hrow, h1, h2, h3, (State.obj_wrote _ (by decide) (Or.inl (by omega))).trans h4, h5, ?_⟩
    unfold Noted State.wrote at *
    rw [h6]
    rfl
  case refine_3 =>
    exact ⟨_, State.writeRow_effect hacc fun bs => s.touch.writeEffect_daybookClear sess bs, rfl⟩
  case refine_4 =>
    exact ⟨_, State.writeRow_effect hacc fun bs => s.touch.writeEffect_vitrineClear sess bs, rfl⟩
  case refine_5 =>
    exact ⟨_, (if_pos hc).trans (State.writeRow_effect hacc fun bs => s.touch.writeEffect_dumpRelease hc sess bs), rfl⟩
  case refine_6 =>
    obtain ⟨hpres, hfirst⟩ := State.accepts_split hacc
    let u := (s.touch.setObj 0x1300 3 v.toNat).wrote
    have h1 := State.writeObject_effect hfirst fun bs => s.touch.writeEffect_timeValue sess v.toNat bs
    have h2 := State.writeObject_effect hadm fun bs => State.writeEffect_timeSet u sess q bs
    rw [valueBytes_time] at h1
    rw [valueBytes_quality hq] at h2
    have hrun : exec (.timeSet sess v q) s = .next (u.setTime (u.obj 0x1300 3) q).wrote := by
      show execTimeSet sess v q s = _
      unfold execTimeSet
      rw [if_pos (by simp [hpres, hq]), h1, h2]
    have hv : u.obj 0x1300 3 = v.toNat := State.obj_wrote_setObj _ _ (by decide) (by decide)
    rw [hv] at hrun
    obtain ⟨hb, hqual, hlast, hs⟩ := u.setTime_sets v.toNat q
    generalize u.setTime v.toNat q = t at hb hqual hlast hs hrun
    refine ⟨_, hrun, hb, hqual, hlast, ?_⟩
    simp only [Spares, State.wrote, u, State.touch] at *
    simp [hs]


/-! ### Live update, locks, authentication and the test buses (14 R346 to R349, 15 R366, R377 to R379, 19 R441) -/

/-! #### Refusals -/

/-- A refusal that is not late: counted and answered. -/
theorem State.refuse_answered (s : State) {code : Nat} (h : code ≠ 0x00070001) :
    Answered (s.refuse code) s ∧ (s.refuse code).answer = { code := code, data := [] } := by
  unfold State.refuse
  dsimp only
  rw [if_neg h]
  split <;> exact ⟨rfl, rfl⟩

/-- The refusal of a write that is neither a state command nor a coefficient commit. -/
theorem State.refuseWrite_answered (s : State) {i j code : Nat} (h : code ≠ 0x00070001)
    (h1 : ¬ (i = 0x3400 ∧ j = 8)) (h2 : ¬ (0x4100 ≤ i ∧ i ≤ 0x419F ∧ j = 0x0C)) :
    Answered (s.refuseWrite i j code) s ∧ (s.refuseWrite i j code).answer = { code := code, data := [] } := by
  unfold State.refuseWrite
  extract_lets s1 s2 s3 t u
  have hs1 : Answered s1 s := by
    simp only [s1]
    split <;> rfl
  have hs2 : s2 = s1 := if_neg (by simpa using h1)
  have hs3 : Answered s3 s := by
    simp only [s3]
    rw [hs2]
    split
    · exact Answered.trans rfl hs1
    · exact hs1
  have hu : (if 0x4100 ≤ i && i ≤ 0x419F && j == 0x0C && code != 0x00050001 then
      (if code = 0x00030002 then (s3.bump 0x4000 7).modLaw (i - 0x4100) (fun v => { v with status := code })
        else s3.bump 0x4000 7) else s3) = s3 := if_neg (by
    simp only [Bool.and_eq_true, decide_eq_true_eq, beq_iff_eq]
    exact fun hc => h2 ⟨hc.1.1.1, hc.1.1.2, hc.1.2⟩)
  obtain ⟨ha, hc⟩ := s3.refuse_answered h
  change Answered (State.refuse (if _ then _ else s3) code) s ∧ (State.refuse (if _ then _ else s3) code).answer = _
  rw [hu]
  exact ⟨ha.trans hs3, hc⟩

theorem State.obj_refuse (s : State) {code : Nat} (h : code ≠ 0x00070001) {i j : Nat} (hj : j < 256)
    (h1 : i ≠ 0x1402) (h2 : i ≠ 0x1100) : (s.refuse code).obj i j = s.obj i j := by
  have hc : codeCounter code < 256 := by
    unfold codeCounter
    split <;> decide
  have hb : (s.bump 0x1402 (codeCounter code)).obj i j = s.obj i j :=
    s.obj_setObj_other _ hj hc (by simp [defaultReads]) (Or.inl h1)
  unfold State.refuse
  dsimp only
  rw [if_neg h]
  split
  · exact Eq.trans State.obj_same ((State.obj_setObj_other _ _ hj (by decide) (by decide) (Or.inl h2)).trans hb)
  · exact Eq.trans State.obj_same hb

/-! #### Effects -/

theorem State.writeEffect_updateTarget (s : State) (sess c : Nat) (bs : List Byte) :
    s.writeEffect sess 0x7420 1 c bs = (s.updateBegin c, 0) := rfl

theorem State.writeEffect_updateLoad (s : State) (sess v : Nat) (bs : List Byte) :
    s.writeEffect sess 0x7420 3 v bs = (s.updateLoad bs, 0) := rfl

theorem State.writeEffect_updateVerify (s : State) (sess : Nat) (bs : List Byte) :
    s.writeEffect sess 0x7420 4 1 bs = s.updateCheck := rfl

theorem State.writeEffect_updateActivate (s : State) (sess : Nat) (bs : List Byte) :
    s.writeEffect sess 0x7420 4 2 bs = (s.updateArm, 0) := rfl

theorem State.writeEffect_updateAbort (s : State) (sess : Nat) (bs : List Byte) :
    s.writeEffect sess 0x7420 4 3 bs = (s.updateDrop, 0) := rfl

theorem State.writeEffect_releaseHold (s : State) {c : Nat} (h : c < 4) (sess : Nat) (bs : List Byte) :
    s.writeEffect sess (0x7410 + c) 0x0A 1 bs = (s.releaseHeld c, 0) := by
  unfold State.writeEffect State.effectHost
  rw [if_neg (by omega), if_neg (by omega), if_neg (by omega), if_neg (by omega), if_neg (by omega), if_neg (by omega),
    if_neg (by omega), if_neg (by simp), if_neg (by simp), if_neg (by simp), if_neg (by simp), if_pos (by simp; omega),
    Nat.add_sub_cancel_left]
  rfl

/-- The inactive bank of the target takes what is given; no other core changes. -/
theorem State.setUpdateBank_sets (s : State) (b : FwBank) : (s.setUpdateBank b).updateBank = b ∧
    ∀ k, k ≠ s.update.target → (s.setUpdateBank b).core k = s.core k := by
  refine ⟨?_, fun k hk => (s.core_setCore s.update.target k _).trans (if_neg hk)⟩
  have hself : (s.setUpdateBank b).core s.update.target =
      { s.core s.update.target with banks := tset (s.core s.update.target).banks (1 - (s.core s.update.target).active) b } :=
    (s.core_setCore s.update.target s.update.target _).trans (if_pos rfl)
  unfold State.updateBank
  rw [show (s.setUpdateBank b).update = s.update from rfl, hself]
  exact tget_tset_same ..

theorem State.imageRefusal_code (s : State) (c : Nat) (f : FwImage) : s.imageRefusal c f ≠ 0x00070001 := by
  unfold State.imageRefusal
  split_ifs <;> decide

/-- The check of a loaded image by its code: verified, or refused with pin 55. -/
theorem State.updateCheck_refused {s : State} (h : s.imageRefusal s.update.target s.updateBank.image ≠ 0) :
    s.updateCheck = (({ s with update := { s.update with
      status := s.imageRefusal s.update.target s.updateBank.image } } : State).trigger 55 0 0 0 0,
      s.imageRefusal s.update.target s.updateBank.image) := if_neg h

theorem State.updateCheck_verified {s : State} (h : s.imageRefusal s.update.target s.updateBank.image = 0) :
    s.updateCheck = ({ s.setUpdateBank { s.updateBank with release := imageRelease s.updateBank.image } with
      update := { s.update with status := 2 } }, 0) := if_pos h

theorem Spares.update {t s : State} (h : Spares t s) : t.update = s.update := by simp only [h]

/-- Settles O37: each write is its effect, counted and answered; the refusal of an image is a trigger of pin 55. -/
theorem firmwareWrites : Obligations.FirmwareWrites := by
  unfold Obligations.FirmwareWrites
  refine ⟨fun sess c s hacc => ?_, fun sess bs s hacc => ?_, fun sess s hacc => ?_, fun sess s hacc => ?_,
    fun sess s hacc => ?_, fun sess c s hc hacc hst => ?_⟩
  case refine_1 =>
    have hrow := State.writeRow_effect hacc fun bs => s.touch.writeEffect_updateTarget sess c bs
    obtain ⟨hbank, hcore⟩ :=
      ({ s.touch with update := { s.update with target := c, status := 1 } } : State).setUpdateBank_sets {}
    exact ⟨_, hrow, rfl, hbank, State.obj_wrote_setObj _ _ (by decide) (by decide), hcore, rfl⟩
  case refine_2 =>
    let b : FwBank := { bytes := mwriteBytes s.updateBank.bytes (s.obj 0x7420 2) bs
                        loaded := max s.updateBank.loaded (s.obj 0x7420 2 + bs.length) }
    have he : s.touch.updateLoad bs = { s.touch.setUpdateBank b with update := { s.update with status := 1 } } := by
      unfold State.updateLoad
      rw [State.obj_touch]
      rfl
    have hrow := State.writeBytesRow_effect hacc ((s.touch.writeEffect_updateLoad sess (natLE bs) bs).trans (congrArg (·, 0) he))
    obtain ⟨hbank, hcore⟩ := s.touch.setUpdateBank_sets b
    exact ⟨_, hrow, rfl, congrArg FwBank.bytes hbank, congrArg FwBank.loaded hbank, hcore, rfl⟩
  case refine_3 =>
    by_cases h : s.touch.imageRefusal s.touch.update.target s.touch.updateBank.image = 0
    · have hrow := State.writeRow_effect hacc fun bs =>
        (s.touch.writeEffect_updateVerify sess bs).trans (State.updateCheck_verified h)
      refine ⟨_, hrow, h.symm, rfl, ?_⟩
      simp [State.wrote, State.touch, State.setUpdateBank, State.setCore]
    · have hrow := State.writeRow_fails hacc h fun bs =>
        (s.touch.writeEffect_updateVerify sess bs).trans (State.updateCheck_refused h)
      let u : State := { s.touch with update := { s.update with
        status := s.touch.imageRefusal s.touch.update.target s.touch.updateBank.image } }
      change s.writeRow sess 0x7420 4 1 = .next ((u.trigger 55 0 0 0 0).refuseWrite 0x7420 4 _) at hrow
      have hs : Spares (u.trigger 55 0 0 0 0) u := State.trigger_spares _ _ _ _ _ _
      have hup := hs.update
      obtain ⟨ha, hans⟩ := (u.trigger 55 0 0 0 0).refuseWrite_answered (i := 0x7420) (j := 4)
        (s.touch.imageRefusal_code s.touch.update.target s.touch.updateBank.image)
        (fun hc => absurd hc.1 (by decide)) (fun hc => absurd hc.2.1 (by decide))
      refine ⟨_, hrow, by rw [hans]; rfl, ?_, ?_⟩
      · rw [hans, ha]
        refine hup.trans ?_
        exact congrArg (fun x => ({ s.update with status := x } : Update)) (if_neg h).symm
      · rw [ha]
        generalize u.trigger 55 0 0 0 0 = t at hs
        simp only [Spares, u, State.touch] at *
        simp [hs]
  case refine_4 =>
    exact ⟨_, State.writeRow_effect hacc fun bs => s.touch.writeEffect_updateActivate sess bs, rfl⟩
  case refine_5 =>
    have hrow := State.writeRow_effect hacc fun bs => s.touch.writeEffect_updateAbort sess bs
    obtain ⟨hbank, -⟩ := ({ s.touch with update := { s.update with status := 0 } } : State).setUpdateBank_sets {}
    exact ⟨_, hrow, rfl, hbank, rfl⟩
  case refine_6 =>
    have he : s.touch.releaseHeld c = s.touch.setCore c { s.core c with st := .restarting, trapAt := s.tb.now } :=
      if_pos (by change ((s.core c).st == .held) = true; rw [hst]; rfl)
    have hrow := State.writeRow_effect hacc fun bs => (s.touch.writeEffect_releaseHold hc sess bs).trans (congrArg (·, 0) he)
    exact ⟨_, (if_pos hc).trans hrow, (State.core_setCore _ c c _).trans (if_pos rfl),
      fun k hk => (State.core_setCore _ c k _).trans (if_neg hk), rfl⟩


/-! ### Locks, authentication and the analogue test buses (15 R366, R377 to R379, 19 R441) -/

theorem firstCode_eq_zero {l : List Nat} (h : firstCode l = 0) : ∀ c ∈ l, c = 0 := by
  induction l with
  | nil => simp
  | cons c l ih =>
    unfold firstCode at h
    split at h
    · next hc =>
      intro d hd
      rcases List.mem_cons.mp hd with rfl | hd
      · exact hc
      · exact ih h d hd
    · next hc => exact absurd h hc

/-- An accepted write passes the check of authorization. -/
theorem State.accepts_auth {s : State} {sess i j v : Nat} (h : s.accepts sess i j v = true) :
    s.touch.writeAuthCode sess i j v = 0 := by
  obtain ⟨-, hadm⟩ := State.accepts_split h
  unfold State.admits at hadm
  split at hadm
  · next r hr =>
    simp only [Bool.and_eq_true, beq_iff_eq] at hadm
    have hcode := hadm.2
    unfold State.writeCode at hcode
    rw [hr] at hcode
    have hearly := firstCode_eq_zero hcode _ (List.mem_cons_self ..)
    unfold State.writeCodeEarly at hearly
    rw [hr] at hearly
    exact firstCode_eq_zero hearly _ (by simp)
  · exact absurd hadm (by decide)

/-- A lock that the session may take: nobody else holds it. -/
theorem State.accepts_lock {s : State} {sess i : Nat} (h : s.accepts sess 0x1410 1 i = true) : s.lockedBy i sess = false := by
  have hauth := State.accepts_auth h
  have hlock : s.lockCode sess i = 0 ∨ s.touch.writeAuthCode sess 0x1410 1 i ≠ 0 := by
    unfold State.writeAuthCode
    by_cases hl : s.touch.lockedBy 0x1410 sess = true
    · exact Or.inr (by simp [hl])
    · rw [if_neg (by simp), if_neg hl, if_neg (by simp), if_neg (by simp), if_pos (by simp)]
      by_cases hc : s.lockCode sess i = 0
      · exact Or.inl hc
      · exact Or.inr hc
  have hcode := hlock.resolve_right (by simp [hauth])
  unfold State.lockCode codeIf at hcode
  split at hcode
  · exact absurd hcode (by decide)
  · split at hcode
    · exact absurd hcode (by decide)
    · split at hcode
      · exact absurd hcode (by decide)
      · next hc =>
        simp only [Bool.or_eq_true, not_or] at hc
        exact Bool.eq_false_iff.mpr hc.1.2

theorem assoc_append (l : List (Nat × Nat)) (i v k : Nat) :
    assoc (l ++ [(i, v)]) k = (assoc l k).or (if i = k then some v else none) := by
  induction l with
  | nil => rfl
  | cons p l ih =>
    obtain ⟨a, b⟩ := p
    simp only [List.cons_append, assoc]
    split
    · rfl
    · exact ih

theorem assoc_filter (l : List (Nat × Nat)) (i k : Nat) :
    assoc (l.filter (fun p => p.1 != i)) k = if k = i then none else assoc l k := by
  induction l with
  | nil => simp [assoc]
  | cons p l ih =>
    obtain ⟨a, b⟩ := p
    by_cases ha : a = i
    · rw [List.filter_cons_of_neg (by simp [ha]), ih]
      by_cases hk : k = i
      · rw [if_pos hk, if_pos hk]
      · rw [if_neg hk, if_neg hk, assoc, if_neg (by omega)]
    · rw [List.filter_cons_of_pos (by simp [ha]), assoc, assoc, ih]
      by_cases hk : k = i
      · rw [if_pos hk, if_pos hk, if_neg (by omega)]
      · rw [if_neg hk, if_neg hk]

theorem thas_tdel {α : Type} (t : Tbl α) (k j : Nat) : thas (tdel t k) j = if j = k then false else thas t j := by
  unfold thas tdel
  rw [List.any_filter]
  split
  · next h =>
    rw [List.any_eq_false]
    intro p _
    simp [h]
  · next h =>
    congr 1
    funext p
    by_cases hp : p.1 = j
    · simp [hp, h]
    · simp [hp]

/-- The lock of an index after it is taken by a session that nobody bars. -/
theorem State.takeLock_locker {s : State} {i sess : Nat} (h : s.lockedBy i sess = false) :
    (s.takeLock i sess).locker i = some sess ∧ (∀ k, k ≠ i → (s.takeLock i sess).locker k = s.locker k) ∧
      s.takeLock i sess = { s with access := (s.takeLock i sess).access } := by
  unfold State.lockedBy at h
  unfold State.takeLock
  cases hl : s.locker i with
  | some o =>
    rw [hl] at h
    rw [if_pos (by simp)]
    refine ⟨?_, fun k _ => rfl, rfl⟩
    rw [hl]
    simpa using h
  | none =>
    rw [if_neg (by simp)]
    refine ⟨?_, fun k hk => ?_, rfl⟩
    · refine (assoc_append s.access.locks i sess i).trans ?_
      rw [show assoc s.access.locks i = none from hl, if_pos rfl]
      rfl
    · refine (assoc_append s.access.locks i sess k).trans ?_
      rw [if_neg (by omega), Option.or_none]
      rfl

theorem State.writeEffect_lock (s : State) (sess i : Nat) (bs : List Byte) :
    s.writeEffect sess 0x1410 1 i bs = (s.takeLock i sess, 0) := rfl

theorem State.writeEffect_unlock (s : State) (sess i : Nat) (bs : List Byte) :
    s.writeEffect sess 0x1410 2 i bs = (s.dropLock i, 0) := rfl

theorem State.writeEffect_response (s : State) (sess : Nat) (r : BitVec 256) (bs : List Byte) :
    s.writeEffect sess 0x1420 2 r.toNat bs = s.respond sess r := by
  show s.respond sess (BitVec.ofNat 256 r.toNat) = _
  rw [BitVec.ofNat_toNat, BitVec.setWidth_eq]

theorem State.writeEffect_endAuth (s : State) (sess : Nat) (bs : List Byte) :
    s.writeEffect sess 0x1420 4 1 bs = (s.endAuth sess, 0) := rfl

theorem State.writeEffect_atb (s : State) (sess : Nat) (w : BitVec 16) (bs : List Byte) :
    s.writeEffect sess 0xF000 3 w.toNat bs = (s.routeAtb w, 0) := by
  show (s.routeAtb (BitVec.ofNat 16 w.toNat), 0) = _
  rw [BitVec.ofNat_toNat, BitVec.setWidth_eq]

/-- A session's challenge used up. -/
def State.challengeUsed (s : State) (sess : Nat) : State :=
  { s with access := { s.access with challenges := tdel s.access.challenges sess } }

theorem State.respond_right {s : State} {sess : Nat} {r : BitVec 256} {c : Challenge} (hb : s.blocked = false)
    (hc : s.liveChallenge sess = some c) (hr : r = Free.response s.test.fused.key c.bytes sess s.test.fused.serial) :
    s.respond sess r = ({ s.challengeUsed sess with access := { (s.challengeUsed sess).access with
      authed := tset s.access.authed sess c.bytes } }, 0) := by
  unfold State.respond
  rw [if_neg (by rw [hb]; decide), hc]
  exact if_pos hr

theorem State.respond_wrong {s : State} {sess : Nat} {r : BitVec 256} (hb : s.blocked = false)
    (hr : ∀ c, s.liveChallenge sess = some c → r ≠ Free.response s.test.fused.key c.bytes sess s.test.fused.serial) :
    s.respond sess r = ((s.challengeUsed sess).authFailed, 0x00040002) := by
  unfold State.respond
  rw [if_neg (by rw [hb]; decide)]
  cases hc : s.liveChallenge sess with
  | none => rfl
  | some c => exact if_neg (hr c hc)

theorem State.respond_blocked {s : State} {sess : Nat} {r : BitVec 256} (hb : s.blocked = true) :
    s.respond sess r = (s, 0x00040002) := if_pos hb

theorem Spares.access {t s : State} (h : Spares t s) : t.access = s.access := by simp only [h]

/-- A failed response: counted, its instant kept. -/
theorem State.authFailed_counts (s : State) : s.authFailed.obj 0x1420 6 = min (s.obj 0x1420 6 + 1) 0xFFFFFFFF ∧
    s.authFailed.access.authed = s.access.authed ∧ s.authFailed.access.challenges = s.access.challenges ∧
      Spares s.authFailed { s with access := s.authFailed.access } := by
  unfold State.authFailed
  extract_lets recent full acc u
  have hs : Spares ((u.bump 0x1420 6).dEvent 59) (u.bump 0x1420 6) := State.dEvent_spares _ _
  have hobj := (State.dEvent_tells (u.bump 0x1420 6) 59).obj 0x1420 6 (by decide) (by decide)
  rw [State.obj_bump_same] at hobj
  have hu : u.obj 0x1420 6 = s.obj 0x1420 6 := State.obj_same
  have hacc := hs.access
  generalize (u.bump 0x1420 6).dEvent 59 = t at hs hobj hacc ⊢
  refine ⟨hobj.trans (by rw [hu]), by rw [hacc]; rfl, by rw [hacc]; rfl, ?_⟩
  simp only [Spares, hs, u, State.bump_eq, State.setObj, and_true]

/-- A read of the challenge object that no check refuses. -/
theorem State.readObject_challenge (s : State) {sess : Nat} (h : s.readCode sess 0x1420 1 0 0 = 0) :
    s.readObject sess 0x1420 1 0 0 = { (s.newChallenge sess).1 with
      od := ((s.newChallenge sess).1.bump64 0x1402 1 1).od
      answer := { code := 0, data := (s.newChallenge sess).2 } } := by
  unfold State.readObject
  dsimp only
  rw [if_neg (by simp [h])]
  split
  next r _ =>
    rw [show s.readEffect sess 0x1420 1 0 r = s.newChallenge sess from if_pos (by decide)]
    simp only [State.bump64_eq, State.setObj]
  next hnone => exact absurd hnone (by decide)

/-- Settles O38: each write is its effect, counted and answered; a refused response is counted and refused. -/
theorem accessWrites : Obligations.AccessWrites := by
  unfold Obligations.AccessWrites
  refine ⟨fun sess i s hacc => ?_, fun sess i s hacc => ?_, fun sess s hp hcode => ?_, fun sess r s hacc hb => ?_,
    fun sess r c s hacc hb hc hr => ?_, fun sess r s hacc hb hr => ?_, fun sess s hacc => ?_, fun sess w s hacc => ?_,
    fun w s hoff hout => ?_⟩
  case refine_1 =>
    have hfree := State.accepts_lock hacc
    obtain ⟨h1, h2, h3⟩ := State.takeLock_locker (s := s.touch) hfree
    have hrow := State.writeRow_effect (u := s.touch.takeLock i sess) hacc (s.touch.writeEffect_lock sess i)
    refine ⟨_, hrow, h1, h2, ?_⟩
    generalize s.touch.takeLock i sess = t at h3
    unfold Answered State.wrote
    rw [h3]
    rfl
  case refine_2 =>
    refine ⟨_, State.writeRow_effect hacc fun bs => s.touch.writeEffect_unlock sess i bs, ?_, fun k hk => ?_, rfl⟩
    · exact (assoc_filter s.access.locks i i).trans (if_pos rfl)
    · exact (assoc_filter s.access.locks i k).trans (if_neg hk)
  case refine_3 =>
    have hrun : exec (.authChallenge sess) s = .next (s.touch.readObject sess 0x1420 1 0 0) := if_pos hp
    rw [s.touch.readObject_challenge hcode] at hrun
    exact ⟨_, hrun, rfl, rfl, rfl, rfl⟩
  case refine_4 =>
    have hrow := State.writeRow_fails hacc (by decide) fun bs =>
      (s.touch.writeEffect_response sess r bs).trans (State.respond_blocked (s := s.touch) hb)
    obtain ⟨ha, hans⟩ := s.touch.refuseWrite_answered (i := 0x1420) (j := 2) (code := 0x00040002) (by decide)
      (fun hc => absurd hc.1 (by decide)) (fun hc => absurd hc.1 (by decide))
    exact ⟨_, hrow, by rw [hans], ha⟩
  case refine_5 =>
    have hrow := State.writeRow_effect hacc fun bs =>
      (s.touch.writeEffect_response sess r bs).trans (State.respond_right (s := s.touch) hb hc hr)
    exact ⟨_, hrow, thas_tset_same _ _ _, rfl, rfl, rfl⟩
  case refine_6 =>
    have hrow := State.writeRow_fails hacc (by decide) fun bs =>
      (s.touch.writeEffect_response sess r bs).trans (State.respond_wrong (s := s.touch) hb hr)
    obtain ⟨h1, h2, h3, h4⟩ := (s.touch.challengeUsed sess).authFailed_counts
    have hobj : (s.touch.challengeUsed sess).obj 0x1420 6 = s.obj 0x1420 6 := State.obj_same
    rw [hobj] at h1
    generalize (s.touch.challengeUsed sess).authFailed = t at h1 h2 h3 h4 hrow
    obtain ⟨ha, hans⟩ := t.refuseWrite_answered (i := 0x1420) (j := 2) (code := 0x00040002) (by decide)
      (fun hc => absurd hc.1 (by decide)) (fun hc => absurd hc.1 (by decide))
    have hplain : t.refuseWrite 0x1420 2 0x00040002 = t.refuse 0x00040002 := rfl
    refine ⟨_, hrow, by rw [hans], ?_, ?_, ?_, ?_⟩
    · rw [hplain]
      exact (t.obj_refuse (by decide) (by decide) (by decide) (by decide)).trans h1
    · rw [ha]
      exact h2
    · rw [ha]
      exact h3
    · rw [ha]
      simp only [Spares, State.challengeUsed, State.touch] at *
      simp [h4]
  case refine_7 =>
    refine ⟨_, State.writeRow_effect hacc fun bs => s.touch.writeEffect_endAuth sess bs, ?_, fun k hk => ?_, rfl⟩
    · exact (thas_tdel s.access.authed sess sess).trans (if_pos rfl)
    · exact (thas_tdel s.access.authed sess k).trans (if_neg hk)
  case refine_8 =>
    exact ⟨_, State.writeRow_effect hacc fun bs => s.touch.writeEffect_atb sess w bs, rfl, rfl⟩
  case refine_9 => exact if_pos (by simp [hoff, hout])


/-! ### The Governor's registers after a transition

What each entry of R261 leaves in the Governor's registers, and the registers that no trigger and no transition touches. -/

/-- The Governor's registers with the marks of a transition to `new` at an instant (10 R261). -/
def Gov.marked (g : Gov) (new : GovState) (now : Nat) : Gov :=
  { g with
    st := new
    prev := g.st
    entered := now
    limitMark := false
    svcExit := if g.st == .service then false else g.svcExit
    seqDown := if g.st == .service then false else g.seqDown
    tripLatch := if g.st == .cooldown && new != .boot then false else g.tripLatch
    meterWait := g.meterWait && new == .limit
    prolonged := false
    critSince := none
    safeCapArm := if g.st == .safe then some false else g.safeCapArm }

theorem State.mark_gov (s : State) (new : GovState) (why : Nat) :
    (s.mark new why).gov = s.gov.marked new s.tb.now := by
  unfold State.mark
  extract_lets old s1 s2 wakes w1 s3 w2 s4 s5 w3 s6
  have h2 : s2.gov = s.gov ∧ s2.tb.now = s.tb.now := by
    have h : Noted s1 s := State.enqueueGroup_noted _ _ _
    have hb : Noted s2 s1 := rfl
    have h' := hb.trans h
    exact ⟨by rw [h'], by rw [h']⟩
  have h5 : s5.gov = s4.gov := by
    show (if new.learns then s4 else s4.unlearnAll 1).gov = _
    rw [apply_ite State.gov, (State.unlearnAll_rests _ _).1, ite_self]
  have h6 : s6.gov = s5.gov := by
    show (if old == .service then _ else s5 : State).gov = _
    split <;> rfl
  have h4 : s4.gov = ({ s2.gov with st := s.gov.st } : Gov).marked new s2.tb.now := rfl
  rw [(State.signal_rests _ _).1, h6, h5, h4, h2.1, h2.2]

/-- The Governor's registers on entry to READY (06 R149, 07 R172). -/
def Gov.readied (g : Gov) : Gov := { g with hostRel := true, phase := .idle }

/-- The Governor's registers on entry to SAFE from a state (10 R262). -/
def Gov.secured (g : Gov) (from_ : GovState) : Gov :=
  { g with
    safeCapArm := some true
    seqDown := false
    hostRel := if from_ == .sequencing then true else g.hostRel
    phase := .idle }

/-- The Governor's registers on entry to TRIP (09 R243). -/
def Gov.tripped (g : Gov) (why : Nat) : Gov :=
  { g with
    tripLatch := true
    tripCause := if why = 35 || g.tripAsked then g.tripCause else 4
    tripAsked := false
    hostRel := false
    seqDown := false
    phase := .idle
    safeCap := false
    safeCapArm := none }

/-- The Governor's registers on entry to RUN (06 R149). -/
def Gov.running (g : Gov) (from_ : GovState) : Gov := { g with meterWait := g.meterWait || from_ == .ready }

/-- The Governor's registers on entry to SEQUENCING. -/
def Gov.sequenced (g : Gov) (from_ : GovState) : Gov :=
  { g with hostRel := if from_ == .standby || from_ == .cooldown then g.hostRel else false }

/-- The Governor's registers on entry to STANDBY. -/
def Gov.stoodBy (g : Gov) : Gov := { g with phase := .idle, seqDown := false }

theorem State.enterReady_gov (s : State) : s.enterReady.1.gov = s.gov.readied := by
  have h : s.creditsReady.tallyClear.gov = s.gov := (State.tallyClear_rests _).1
  rw [← h]
  exact (State.abandonAssays_rests _).1

theorem State.enterSafe_gov (s : State) (from_ : GovState) : (s.enterSafe from_).gov = s.gov.secured from_ := by
  unfold State.enterSafe
  extract_lets s1 s2 s3
  have h1 : Rests s1 s := Rests.ite s.abortService_rests (Rests.refl s)
  have h3 : Rests s3 s2 := by
    refine Rests.each (fun t r => ?_) s2.railsUsed s2
    exact Rests.of_pins rfl rfl rfl
  have h : s3.gov = s.gov := (h3.trans ((State.abortSheds_rests _).trans ((State.avsZero_rests _).trans h1))).1
  exact congrArg (fun g => Gov.secured g from_) h

theorem State.enterTrip_gov (s : State) (why : Nat) : (s.enterTrip why).1.gov = s.gov.tripped why := by
  unfold State.enterTrip
  extract_lets w s1 s2 s3 s4 s5
  have h2 : s2.gov = s1.gov := ((State.avsZero_rests _).trans (State.abortService_rests _)).1
  have h4 : Rests s4 s3 := Rests.each (fun t r => t.railOff_rests r) _ s3
  have h5 : Rests s5 s4 := Rests.each (fun t d => t.isolateDomain_rests d) _ s4
  have h3 : s3.gov = s2.gov := rfl
  rw [(State.abandonAssays_rests _).1, (State.tallyClear_rests _).1, (State.creditsZero_rests _).1, h5.1, h4.1, h3, h2]
  rfl

theorem State.enterRun_gov (s : State) (from_ : GovState) : (s.enterRun from_).gov = s.gov.running from_ := by
  unfold State.enterRun
  extract_lets s1
  have h : Rests s1 s := by
    refine Rests.each (fun t r => ?_) s.railsUsed s
    exact Rests.of_pins rfl rfl rfl
  exact congrArg (fun g => Gov.running g from_) h.1

/-- The Governor's registers after a transition (10 R261). -/
def Gov.after (g : Gov) (new : GovState) (why now : Nat) : Gov :=
  match new with
  | .ready => (g.marked new now).readied
  | .safe => (g.marked new now).secured g.st
  | .trip => (g.marked new now).tripped why
  | .run => (g.marked new now).running g.st
  | .sequencing => (g.marked new now).sequenced g.st
  | .standby => (g.marked new now).stoodBy
  | _ => g.marked new now

theorem State.transit_gov (s : State) (new : GovState) (why : Nat) :
    (s.transit new why).1.gov = s.gov.after new why s.tb.now := by
  unfold State.transit
  extract_lets from_ s1 s2
  have h2 : s2.gov = s.gov.marked new s.tb.now := by
    rw [← s.mark_gov new why]
    show (if from_ == .service then s1.endInjection 5 else s1).gov = _
    split
    · exact (State.endInjection_rests _ _).1
    · rfl
  have ha : s2.abortSheds.gov = s.gov.marked new s.tb.now := (State.abortSheds_rests _).1.trans h2
  cases new with
  | ready => exact s2.enterReady_gov.trans (congrArg Gov.readied h2)
  | safe => exact (s2.enterSafe_gov from_).trans (congrArg (fun g => Gov.secured g from_) h2)
  | trip => exact (s2.enterTrip_gov why).trans (congrArg (fun g => Gov.tripped g why) h2)
  | run => exact (s2.enterRun_gov from_).trans (congrArg (fun g => Gov.running g from_) h2)
  | sequencing => exact congrArg (fun g => Gov.sequenced g from_) h2
  | service => exact ha
  | limit => exact h2
  | standby => exact congrArg Gov.stoodBy h2
  | off => exact h2
  | boot => exact h2
  | cooldown => exact h2

/-- Registers of the Governor that only commands and resets write. -/
def Gov.own (g : Gov) : Nat × List Nat × Bool × Bool × BitVec 2 × Bool × Bool × Bool :=
  (g.cmdStatus, g.restarts, g.booting, g.govRstLow, g.strap, g.scanMode, g.constSet, g.autoTried)

/-- Those registers stay. -/
def Owns (t s : State) : Prop := t.gov.own = s.gov.own

theorem Owns.trans {a b c : State} (h : Owns a b) (g : Owns b c) : Owns a c := Eq.trans h g

theorem Rests.owns {t s : State} (h : Rests t s) : Owns t s := congrArg Gov.own h.1

theorem Noted.owns {t s : State} (h : Noted t s) : Owns t s := by
  unfold Noted at h
  unfold Owns
  rw [h]

theorem Owns.each {α : Type} {f : State → α → State} (h : ∀ s x, Owns (f s x) s) (l : List α) (s : State) :
    Owns (each l f s) s :=
  each_carries (fun t => Owns t s) (fun t x ht => (h t x).trans ht) l s rfl

theorem Owns.cmd {t s : State} (h : Owns t s) : t.gov.cmdStatus = s.gov.cmdStatus := congrArg Prod.fst h

theorem State.transit_owns (s : State) (new : GovState) (why : Nat) : Owns (s.transit new why).1 s := by
  have h := s.transit_gov new why
  unfold Owns
  rw [h]
  cases new <;> rfl

theorem State.arrive_owns (s : State) (n kind idx cause pa : Nat) : Owns (s.arrive n kind idx cause pa).1 s := by
  rw [State.arrive_eq]
  refine (State.serviceFault_rests _ _).owns.trans (Owns.trans ?_ (s.arrived_noted n kind idx cause pa).owns)
  unfold State.arriveEvent
  split
  · exact (State.queueEvent_rests _ _ _ _).owns
  · rfl

theorem State.dEvents_owns (s : State) (n c : Nat) : Owns (s.dEvents n c).1 s := rfl

theorem State.doWork_owns (s : State) (w : Work) : Owns (s.doWork w).1 s := by
  cases w with
  | trigger n kind idx cause pa =>
    show Owns (if !s.pinReached n then _ else if !s.tb.gclk then _ else if kind = 4 then _ else _ : State × List Work).1 s
    split_ifs
    · rfl
    · rfl
    · rfl
    · exact s.arrive_owns n 0 0 cause pa
    · exact (State.arrive_owns _ n kind idx cause pa).trans rfl
  | events n c =>
    show Owns (if s.pinReached n && c != 0 then _ else _ : State × List Work).1 s
    split
    · exact s.dEvents_owns n c
    · rfl
  | enter new why =>
    show Owns (if s.wanted new then _ else _ : State × List Work).1 s
    split
    · exact s.transit_owns new why
    · rfl

theorem State.work_owns (f : Nat) (ws : List Work) (s : State) : Owns (s.work f ws) s := by
  induction f generalizing ws s with
  | zero => rfl
  | succ f ih =>
    cases ws with
    | nil => rfl
    | cons w rest => exact (ih _ _).trans (s.doWork_owns w)

theorem State.enter_owns (s : State) (new : GovState) (why : Nat) : Owns (s.enter new why) s := State.work_owns _ _ s

theorem State.latchPin_owns (s : State) (ts : List HeldTrigger) : Owns (s.latchPin ts).1 s := by
  cases ts with
  | nil => rfl
  | cons h rest =>
    show Owns (if s.pinReached h.pin then _ else _ : State × List Work).1 s
    split
    · have hw := State.doWork_owns (s.bumpBy (0x5010 + h.pin) 0x0B (rest.filter (·.kind != 4)).length) h.work
      unfold Owns at hw ⊢
      rw [State.modPin_eq]
      exact hw
    · rfl

theorem State.latchAll_owns (s : State) (ts : List HeldTrigger) : Owns (s.latchAll ts) s := by
  have hfold : ∀ (l : List Nat) (q : State × List Work), Owns q.1 s →
      Owns (l.foldl (fun (q : State × List Work) n =>
        let r := q.1.latchPin (ts.filter (·.pin == n))
        (r.1, q.2 ++ r.2)) q).1 s := by
    intro l
    induction l with
    | nil => exact fun q h => h
    | cons n l ih => exact fun q h => ih _ ((State.latchPin_owns _ _).trans h)
  exact (State.work_owns _ _ _).trans (hfold _ (s, []) rfl)

theorem State.raise_owns (s : State) (ts : List HeldTrigger) : Owns (s.raise ts) s := by
  unfold State.raise
  split
  · rfl
  · exact s.latchAll_owns ts

theorem State.trigger_owns (s : State) (n k i c pa : Nat) : Owns (s.trigger n k i c pa) s := by
  unfold State.trigger
  split
  · rfl
  · exact State.work_owns _ _ s

theorem State.dEvent_owns (s : State) (n : Nat) : Owns (s.dEvent n) s := by
  unfold State.dEvent State.dEventsNow
  split
  · exact (State.raise_owns _ _).trans (s.dEvents_owns n 1)
  · rfl


/-! ### Writes without effect and refused writes -/

/-! #### A value other than 1 has no effect -/

theorem State.writeEffect_laneRearm_other (s : State) {n v : Nat} (h : n < 96) (hv : v ≠ 1) (sess : Nat) (bs : List Byte) :
    s.writeEffect sess (0x2100 + n) 0x11 v bs = (s, 0) := by
  unfold State.writeEffect State.effectPower
  rw [if_neg (by omega), if_pos (by omega), if_pos (by simp; omega), if_neg hv]
  rfl

theorem State.writeEffect_tapRearm_other (s : State) {n v : Nat} (h : n < 512) (hv : v ≠ 1) (sess : Nat) (bs : List Byte) :
    s.writeEffect sess (0x2500 + n) 7 v bs = (s, 0) := by
  unfold State.writeEffect State.effectPower
  rw [if_neg (by omega), if_pos (by omega), if_neg (by simp), if_neg (by simp; omega), if_pos (by simp; omega), if_neg hv]
  rfl

theorem State.writeEffect_sticky_other (s : State) {v : Nat} (hv : v ≠ 1) (sess : Nat) (bs : List Byte) :
    s.writeEffect sess 0x2C08 0x0A v bs = (s, 0) := by
  show (if v = 1 then _ else s, 0) = _
  rw [if_neg hv]

theorem State.writeEffect_commit_other (s : State) {i v : Nat} (h : i < 160) (hv : v ≠ 1) (sess : Nat) (bs : List Byte) :
    s.writeEffect sess (0x4100 + i) 0x0C v bs = (s, 0) := by
  unfold State.writeEffect State.effectLoop
  rw [if_neg (by omega), if_neg (by omega), if_neg (by omega), if_neg (by omega), if_pos (by omega), if_neg (by simp; omega),
    if_neg (by simp), if_pos (by simp; omega), if_neg hv]
  rfl

theorem State.writeEffect_sensorRearm_other (s : State) {n v : Nat} (h : n < 288) (hv : v ≠ 1) (sess : Nat)
    (bs : List Byte) : s.writeEffect sess (sensorObj n) 8 v bs = (s, 0) := by
  have h1 : 0x3100 ≤ sensorObj n ∧ sensorObj n ≤ 0x321F := by unfold sensorObj; split_ifs <;> omega
  unfold State.writeEffect State.effectStates
  rw [if_neg (by omega), if_neg (by omega), if_neg (by omega), if_pos (by omega), if_pos (by simp [h1]), if_neg hv]
  rfl

theorem State.writeEffect_coolantCommit_other (s : State) {v : Nat} (hv : v ≠ 1) (sess : Nat) (bs : List Byte) :
    s.writeEffect sess 0x3008 8 v bs = (s, 0) := by
  show (if v = 1 then _ else s, 0) = _
  rw [if_neg hv]

theorem State.writeEffect_domainRearm_other (s : State) {d v : Nat} (h : d < 32) (hv : v ≠ 1) (sess : Nat)
    (bs : List Byte) : s.writeEffect sess (0x3410 + d) 9 v bs = (s, 0) := by
  unfold State.writeEffect State.effectStates
  rw [if_neg (by omega), if_neg (by omega), if_neg (by omega), if_pos (by omega), if_neg (by simp),
    if_neg (by simp), if_neg (by simp), if_pos (by simp; omega)]
  dsimp only
  rw [if_neg hv]
  rfl

theorem State.writeEffect_releaseQuarantine_other (s : State) {a v : Nat} (h : a < 256) (hv : v ≠ 1) (sess : Nat)
    (bs : List Byte) : s.writeEffect sess (0x6010 + a) 9 v bs = (s, 0) := by
  unfold State.writeEffect State.effectAssay
  rw [if_neg (by omega), if_neg (by omega), if_neg (by omega), if_neg (by omega), if_neg (by omega), if_neg (by omega),
    if_pos (by omega), if_neg (by simp), if_neg (by simp), if_neg (by simp), if_neg (by simp; omega), if_pos (by simp; omega),
    if_neg hv]
  rfl

theorem State.writeEffect_daybookClear_other (s : State) {v : Nat} (hv : v ≠ 1) (sess : Nat) (bs : List Byte) :
    s.writeEffect sess 0x5400 7 v bs = (s, 0) := by
  show (if v = 1 then _ else s, 0) = _
  rw [if_neg hv]

theorem State.writeEffect_vitrineClear_other (s : State) {v : Nat} (hv : v ≠ 1) (sess : Nat) (bs : List Byte) :
    s.writeEffect sess 0x5400 8 v bs = (s, 0) := by
  show (if v = 1 then _ else s, 0) = _
  rw [if_neg hv]

theorem State.writeEffect_dumpRelease_other (s : State) {c v : Nat} (h : c < 4) (hv : v ≠ 1) (sess : Nat)
    (bs : List Byte) : s.writeEffect sess (0x5410 + c) 2 v bs = (s, 0) := by
  unfold State.writeEffect State.effectFaults
  rw [if_neg (by omega), if_neg (by omega), if_neg (by omega), if_neg (by omega), if_neg (by omega), if_pos (by omega),
    if_neg (by simp), if_neg (by simp), if_neg (by simp), if_pos (by simp; omega), if_neg hv]
  rfl

theorem State.writeEffect_releaseHold_other (s : State) {c v : Nat} (h : c < 4) (hv : v ≠ 1) (sess : Nat)
    (bs : List Byte) : s.writeEffect sess (0x7410 + c) 0x0A v bs = (s, 0) := by
  unfold State.writeEffect State.effectHost
  rw [if_neg (by omega), if_neg (by omega), if_neg (by omega), if_neg (by omega), if_neg (by omega), if_neg (by omega),
    if_neg (by omega), if_neg (by simp), if_neg (by simp), if_neg (by simp), if_neg (by simp), if_pos (by simp; omega),
    if_neg hv]
  rfl

theorem State.writeEffect_endAuth_other (s : State) {v : Nat} (hv : v ≠ 1) (sess : Nat) (bs : List Byte) :
    s.writeEffect sess 0x1420 4 v bs = (s, 0) := by
  show (if v = 1 then _ else s, 0) = _
  rw [if_neg hv]

theorem State.writeEffect_activate_other (s : State) {v : Nat} (hv : v ≠ 1) (sess : Nat) (bs : List Byte) :
    s.writeEffect sess 0x2C08 5 v bs = (s, 0) := by
  show (if v = 1 then _ else (s, 0)) = _
  rw [if_neg hv]

/-! #### A refused write -/

/-- A row that writes a value of its object's type that a check refuses. -/
theorem State.writeRow_refused {s : State} {sess i j v : Nat} {r : ObjRow} (hp : s.presents sess = true)
    (hr : objRow i j = some r) (hv : v < 256 ^ r.ty.size) (hc : s.touch.writeCode sess i j v r.ty.size 0 ≠ 0) :
    s.writeRow sess i j v = .next (s.touch.refuseWrite i j (s.touch.writeCode sess i j v r.ty.size 0)) := by
  have hbs : valueBytes i j v = bytesLE r.ty.size v := by
    unfold valueBytes
    rw [hr]
    exact if_pos hv
  unfold State.writeRow
  rw [if_pos hp, hbs]
  unfold State.writeObject
  dsimp only
  rw [natLE_bytesLE _ _ hv, bytesLE_length, if_pos (by simpa using hc)]

theorem firstCode_mem (l : List Nat) : firstCode l = 0 ∨ firstCode l ∈ l := by
  induction l with
  | nil => exact Or.inl rfl
  | cons c rest ih =>
    unfold firstCode
    split
    · exact ih.imp_right (List.mem_cons_of_mem _)
    · exact Or.inr (by simp)

theorem codeIf_cases (c : Bool) (code : Nat) : codeIf c code = 0 ∨ codeIf c code = code := by
  cases c
  · exact Or.inl rfl
  · exact Or.inr rfl

/-- A first code is none that neither stands in the list nor is 0. -/
theorem firstCode_ne {l : List Nat} {k : Nat} (hk : k ≠ 0) (h : ∀ c ∈ l, c ≠ k) : firstCode l ≠ k := by
  rcases firstCode_mem l with h0 | hm
  · rw [h0]
    exact hk.symm
  · exact h _ hm

theorem codeIf_ne {c : Bool} {code k : Nat} (hk : k ≠ 0) (h : code ≠ k) : codeIf c code ≠ k := by
  rcases codeIf_cases c code with h' | h' <;> rw [h']
  · exact hk.symm
  · exact h

theorem State.presenceCode_ne_unserved (s : State) (sess i j : Nat) : s.presenceCode sess i j ≠ 0x00070001 := by
  unfold State.presenceCode
  split_ifs
  · decide
  · decide
  · decide
  · exact codeIf_ne (by decide) (by decide)

/-- Only an object that firmware serves, or a lock object, can answer that its core does not serve. -/
theorem State.writeCode_ne_unserved (s : State) {i j : Nat} (h1 : servedBy i j = none) (h2 : i ≠ 0x1410) (sess v len : Nat) :
    s.writeCode sess i j v len 0 ≠ 0x00070001 := by
  have hpres := s.presenceCode_ne_unserved sess i j
  have hauth : s.writeAuthCode sess i j v ≠ 0x00070001 := by
    unfold State.writeAuthCode
    rw [if_neg (c := (i == 0x1410 && j == 1) = true) (by simp [h2]), if_neg (c := (i == 0x1410 && j == 2) = true) (by simp [h2])]
    split_ifs <;> decide
  unfold State.writeCode
  split
  · next r hr =>
    have hlen : writeLengthCode r len ≠ 0x00070001 := by
      unfold writeLengthCode
      split <;> exact codeIf_ne (by decide) (by decide)
    refine firstCode_ne (by decide) fun c hc => ?_
    simp only [List.mem_cons, List.not_mem_nil, or_false] at hc
    rcases hc with rfl | rfl | rfl
    · unfold State.writeCodeEarly
      rw [hr]
      refine firstCode_ne (by decide) fun c hc => ?_
      simp only [List.mem_cons, List.not_mem_nil, or_false] at hc
      rcases hc with rfl | rfl | rfl | rfl | rfl | rfl
      · exact hpres
      · decide
      · exact codeIf_ne (by decide) (by decide)
      · exact hauth
      · exact hlen
      · exact codeIf_ne (by decide) (by decide)
    · exact codeIf_ne (by decide) (by decide)
    · unfold State.servingCode
      rw [h1]
      exact Nat.zero_ne_add_one _
  · exact hpres

/-- A state command refused by state: its code stands in the command status, and it is counted. -/
theorem State.commandRefused_byState (s : State) : (s.commandRefused 0x00040001).gov.cmdStatus = 0x00040001 ∧
    (s.commandRefused 0x00040001).obj 0x3400 0x0B = min (s.obj 0x3400 0x0B + 1) 0xFFFFFFFF ∧
      Spares (s.commandRefused 0x00040001) s := by
  have hun : s.commandRefused 0x00040001 =
      (({ s with gov := { s.gov with cmdStatus := 0x00040001 } } : State).bump 0x3400 0x0B).dEvent 45 := by
    unfold State.commandRefused
    dsimp only
    rw [if_pos rfl]
  rw [hun]
  refine ⟨(State.dEvent_owns _ 45).cmd, ?_, ?_⟩
  · refine ((State.dEvent_tells _ 45).obj 0x3400 0x0B (by decide) (by decide)).trans ((State.obj_bump_same _ _ _).trans ?_)
    rw [show State.obj ({ s with gov := { s.gov with cmdStatus := 0x00040001 } }) 0x3400 0x0B = s.obj 0x3400 0x0B from
      State.obj_same]
  · simp

/-- A state command refused by state, as the object engine answers it. -/
theorem State.refuseWrite_command (s : State) : s.refuseWrite 0x3400 8 0x00040001 =
    ((s.bump 0x1402 0x0E).commandRefused 0x00040001).refuse 0x00040001 := rfl

/-- The refusal of a write that has no rule of its own. -/
theorem State.refuseWrite_plain (s : State) {i j code : Nat} (h1 : ¬ (i = 0x3400 ∧ j = 8)) (h2 : ¬ (i = 0x1300 ∧ j = 4))
    (h3 : ¬ (0x4100 ≤ i ∧ i ≤ 0x419F ∧ j = 0x0C)) :
    s.refuseWrite i j code = (if code = 0x00040001 then s.bump 0x1402 0x0E else s).refuse code := by
  unfold State.refuseWrite
  dsimp only
  rw [if_neg (c := (i == 0x3400 && j == 8) = true) (by simpa using h1),
    if_neg (c := (i == 0x1300 && j == 4 && Decidable.decide (code = 0x00030002)) = true) (by simp; tauto), if_neg (by simp; tauto)]

/-- Another object's value after the refusal of a write. -/
theorem State.obj_refuseWrite (s : State) {i j code k m : Nat} (h : code ≠ 0x00070001) (h1 : ¬ (i = 0x3400 ∧ j = 8))
    (h2 : ¬ (i = 0x1300 ∧ j = 4)) (h3 : ¬ (0x4100 ≤ i ∧ i ≤ 0x419F ∧ j = 0x0C)) (hm : m < 256) (hk : k ≠ 0x1402)
    (hk' : k ≠ 0x1100) : (s.refuseWrite i j code).obj k m = s.obj k m := by
  rw [s.refuseWrite_plain h1 h2 h3, State.obj_refuse _ h hm hk hk']
  split
  · exact s.obj_setObj_other _ hm (by decide) (by decide) (Or.inl hk)
  · rfl

theorem objRow_quantum : ∃ r, objRow 0x2800 1 = some r ∧ r.ty.size = 4 :=
  Option.map_eq_some_iff.mp (by decide +kernel : (objRow 0x2800 1).map (fun r => r.ty.size) = some 4)

theorem objRow_command : ∃ r, objRow 0x3400 8 = some r ∧ r.ty.size = 1 :=
  Option.map_eq_some_iff.mp (by decide +kernel : (objRow 0x3400 8).map (fun r => r.ty.size) = some 1)

/-- Settles O39: each value other than 1 has no effect; a refusal is counted and answered; what cannot be presented does
nothing. -/
theorem writesWithoutEffect : Obligations.WritesWithoutEffect := by
  unfold Obligations.WritesWithoutEffect
  refine ⟨fun sess n v s hv => ⟨fun hn hacc => ?_, fun hn hacc => ?_, fun hacc => ?_, fun hn hacc => ?_, fun hn hacc => ?_,
    fun hacc => ?_, fun hn hacc => ?_, fun hn hacc => ?_, fun hacc => ?_, fun hacc => ?_, fun hn hacc => ?_, fun hn hacc => ?_,
    fun hacc => ?_, fun hacc => ?_⟩, fun sess v s hp hv hc => ?_, fun sess s hp hc => ?_, fun sess v s hp => if_neg (by simp [hp])⟩
  · exact (if_pos hn).trans (State.writeRow_effect hacc (s.touch.writeEffect_laneRearm_other hn hv sess))
  · exact (if_pos hn).trans (State.writeRow_effect hacc (s.touch.writeEffect_tapRearm_other hn hv sess))
  · exact State.writeRow_effect hacc (s.touch.writeEffect_sticky_other hv sess)
  · exact (if_pos hn).trans (State.writeRow_effect hacc (s.touch.writeEffect_commit_other hn hv sess))
  · exact (if_pos hn).trans (State.writeRow_effect hacc (s.touch.writeEffect_sensorRearm_other hn hv sess))
  · exact State.writeRow_effect hacc (s.touch.writeEffect_coolantCommit_other hv sess)
  · exact (if_pos hn).trans (State.writeRow_effect hacc (s.touch.writeEffect_domainRearm_other hn hv sess))
  · exact (if_pos hn).trans (State.writeRow_effect hacc (s.touch.writeEffect_releaseQuarantine_other hn hv sess))
  · exact State.writeRow_effect hacc (s.touch.writeEffect_daybookClear_other hv sess)
  · exact State.writeRow_effect hacc (s.touch.writeEffect_vitrineClear_other hv sess)
  · exact (if_pos hn).trans (State.writeRow_effect hacc (s.touch.writeEffect_dumpRelease_other hn hv sess))
  · exact (if_pos hn).trans (State.writeRow_effect hacc (s.touch.writeEffect_releaseHold_other hn hv sess))
  · exact State.writeRow_effect hacc (s.touch.writeEffect_endAuth_other hv sess)
  · exact State.writeRow_effect hacc (s.touch.writeEffect_activate_other hv sess)
  · obtain ⟨r, hr, hsize⟩ := objRow_quantum
    have hrow := State.writeRow_refused (v := v) hp hr (by rw [hsize]; exact hv) (by rw [hsize]; exact hc)
    rw [hsize] at hrow
    have hne := s.touch.writeCode_ne_unserved (i := 0x2800) (j := 1) rfl (by decide) sess v 4
    obtain ⟨ha, hans⟩ := s.touch.refuseWrite_answered (i := 0x2800) (j := 1) hne (by decide) (by decide)
    refine ⟨_, hrow, hans, ?_, ha⟩
    exact (s.touch.obj_refuseWrite hne (by decide) (by decide) (by decide) (by decide) (by decide) (by decide)).trans
      (s.obj_touch _ _)
  · obtain ⟨r, hr, hsize⟩ := objRow_command
    have hrow := State.writeRow_refused (v := 1) hp hr (by rw [hsize]; decide) (by rw [hsize, hc]; decide)
    rw [hsize, hc, State.refuseWrite_command] at hrow
    obtain ⟨hcmd, hobj, hsp⟩ := (s.touch.bump 0x1402 0x0E).commandRefused_byState
    have hin : (s.touch.bump 0x1402 0x0E).obj 0x3400 0x0B = s.obj 0x3400 0x0B :=
      (State.obj_setObj_other _ _ (by decide) (by decide) (by decide) (by decide)).trans
        (s.obj_touch _ _)
    have hin' : Spares (s.touch.bump 0x1402 0x0E) s := (State.bump_spares _ _ _).chain s.touch_spares
    generalize (s.touch.bump 0x1402 0x0E).commandRefused 0x00040001 = t at hrow hcmd hobj hsp
    obtain ⟨ha, hans⟩ := t.refuse_answered (code := 0x00040001) (by decide)
    have hend := t.obj_refuse (code := 0x00040001) (i := 0x3400) (j := 0x0B) (by decide) (by decide) (by decide) (by decide)
    refine ⟨_, hrow, hans, ?_, hend.trans (hobj.trans (by rw [hin])), ?_⟩
    · rw [ha]
      exact hcmd
    · unfold Answered at ha
      rw [ha]
      have hchain := hsp.chain hin'
      simp [hchain]


/-! ### A power-down that a poisoned group slot turns into a trip -/

/-- A Governor in RUN with one rail and the domain 31 ON, whose array 255 has a predicted group in a slot that reads with
poison; pin 29, of such reads, latches at the first event and stands at TRIP level. Mailbox session 1 holds metering control. -/
def poisonedGating : State :=
  ((({ State.reset with
    tb := { State.reset.tb with gclk := true }
    gov := { State.reset.gov with st := .run }
    desc := { State.reset.desc with arrayDomain := [(255, 31)], rails := [⟨7, []⟩] }
    domains := [(31, { st := .on })]
    poison := [(.slot, slotKey 255 0)]
    tally := { State.reset.tally with slots := [(slotKey 255 0, { st := .predicted })] }
    cores := [(3, { st := .running })]
    host := { State.reset.host with sessions := [(63, { id := 1, metering := true })] } } : State).setObj (0x2410 + 31) 1
      7).setObj (0x5010 + 29) 2 4).setObj (0x5010 + 29) 5 1

theorem poisonedGating_powersOff : poisonedGating.accepts 1 0x3400 8 2 = true ∧ 31 ∈ poisonedGating.domainsUsed ∧
    (poisonedGating.domain 31).st = .on := by decide +kernel

/-- The Governor's state that an outcome leads to. -/
def outcomeState (o : Host.Outcome State Fault Refusal) : Option GovState :=
  match o with
  | .next t => some t.gov.st
  | _ => none

/-- The drain of domain 31 reads the slot: pin 29 takes the Governor to TRIP, every domain is OFF, and the power-down that
goes on ends in STANDBY. -/
theorem poisonedGating_ends : outcomeState (exec (.powerOff 1) poisonedGating) = some .standby := by decide +kernel

/-- Refutes O34: the second clause claims SEQUENCING after POWER_OFF whatever the drain of the domains meets; in
`poisonedGating` it meets a poisoned slot whose pin trips. -/
theorem not_stateCommands : ¬ Obligations.StateCommands := by
  unfold Obligations.StateCommands
  rintro ⟨-, h, -⟩
  obtain ⟨hacc, hused, hon⟩ := poisonedGating_powersOff
  obtain ⟨t, ht, hst, -⟩ := h 1 31 poisonedGating hacc hused hon
  have hend := poisonedGating_ends
  rw [ht] at hend
  have hstandby : t.gov.st = .standby := Option.some.inj hend
  rw [hst] at hstandby
  exact absurd hstandby (by decide)


/-! ### A Governor in BOOT whose trip latch is set -/

/-- Work that faults bring: a transition only to TRIP or SAFE. -/
def Work.forced : Work → Bool
  | .enter new _ => new == .trip || new == .safe
  | _ => true

/-- In BOOT or TRIP with the trip latch set. -/
def Gov.latchedBoot (g : Gov) : Prop := (g.st = .boot ∨ g.st = .trip) ∧ g.tripLatch = true

theorem Gov.latchedBoot_of {g k : Gov} (h : g.latchedBoot) (hst : k.st = g.st) (hl : k.tripLatch = g.tripLatch) :
    k.latchedBoot := by
  unfold Gov.latchedBoot at h ⊢
  rwa [hst, hl]

theorem State.levelWork_forced (s : State) (n eff : Nat) : (s.levelWork n eff).all Work.forced = true := by
  unfold State.levelWork
  split_ifs <;> rfl

theorem Work.forced_of_local {l : List Work} (h : l.all Work.local = true) : l.all Work.forced = true := by
  rw [List.all_eq_true] at h ⊢
  intro w hw
  have := h w hw
  cases w <;> simp_all [Work.local, Work.forced]

theorem State.arrive_forced (s : State) (n kind idx cause pa : Nat) :
    (s.arrive n kind idx cause pa).2.all Work.forced = true := by
  rw [s.arrive_asks, List.all_append, s.levelWork_forced, Work.forced_of_local (State.arriveEvent_local _ _ _)]
  rfl

theorem State.arrive_latchedBoot {s : State} (h : s.gov.latchedBoot) (n kind idx cause pa : Nat) :
    (s.arrive n kind idx cause pa).1.gov.latchedBoot := by
  rwa [(s.arrive_lands n kind idx cause pa).1]

/-- What a fault brings leaves such a Governor in BOOT or takes it to TRIP. -/
theorem State.doWork_latchedBoot {s : State} {w : Work} (h : s.gov.latchedBoot) (hw : w.forced = true) :
    (s.doWork w).1.gov.latchedBoot ∧ (s.doWork w).2.all Work.forced = true := by
  cases w with
  | trigger n kind idx cause pa =>
    by_cases hr : s.pinReached n = true
    · by_cases hc : s.tb.gclk = true
      · rw [State.doWork_trigger hr hc]
        split
        · exact ⟨State.arrive_latchedBoot h _ _ _ _ _, State.arrive_forced _ _ _ _ _ _⟩
        · exact ⟨State.arrive_latchedBoot (s := s.bump (0x5010 + n) 0x0B) h _ _ _ _ _, State.arrive_forced _ _ _ _ _ _⟩
      · rw [State.doWork_trigger_stopped hr (by simpa using hc)]
        refine ⟨Gov.latchedBoot_of h rfl rfl, ?_⟩
        dsimp only
        split <;> rfl
    · rw [show s.doWork (.trigger n kind idx cause pa) = (s, []) from if_pos (by simp [hr])]
      exact ⟨h, rfl⟩
  | events n c =>
    show (if s.pinReached n && c != 0 then _ else _ : State × List Work).1.gov.latchedBoot ∧
      (if s.pinReached n && c != 0 then _ else _ : State × List Work).2.all Work.forced = true
    split
    · exact ⟨Gov.latchedBoot_of h (s.dEvents_stays n c).1.1 (s.dEvents_stays n c).1.2.1,
        Work.forced_of_local (s.dEvents_local n c)⟩
    · exact ⟨h, rfl⟩
  | enter new why =>
    by_cases hwant : s.wanted new = true
    · have hnew : new = .trip := by
        obtain ⟨hst, -⟩ := h
        unfold State.wanted at hwant
        rcases hst with hst | hst <;> cases new <;> simp_all [Work.forced, GovState.toSafe]
      subst hnew
      rw [show s.doWork (.enter .trip why) = s.transit .trip why from if_pos hwant]
      refine ⟨?_, rfl⟩
      rw [s.transit_gov .trip why]
      exact ⟨Or.inr rfl, rfl⟩
    · rw [show s.doWork (.enter new why) = (s, []) from if_neg hwant]
      exact ⟨h, rfl⟩

theorem State.work_latchedBoot (f : Nat) (ws : List Work) (s : State) (h : s.gov.latchedBoot)
    (hw : ws.all Work.forced = true) : (s.work f ws).gov.latchedBoot := by
  induction f generalizing ws s with
  | zero => exact h
  | succ f ih =>
    cases ws with
    | nil => exact h
    | cons w rest =>
      rw [List.all_cons, Bool.and_eq_true] at hw
      obtain ⟨hs, hl⟩ := State.doWork_latchedBoot h hw.1
      exact ih _ _ hs (by rw [List.all_append, hl, hw.2]; rfl)

theorem State.latchPin_latchedBoot {s : State} (h : s.gov.latchedBoot) (ts : List HeldTrigger) :
    (s.latchPin ts).1.gov.latchedBoot ∧ (s.latchPin ts).2.all Work.forced = true := by
  cases ts with
  | nil => exact ⟨h, rfl⟩
  | cons u rest =>
    show (if s.pinReached u.pin then _ else _ : State × List Work).1.gov.latchedBoot ∧
      (if s.pinReached u.pin then _ else _ : State × List Work).2.all Work.forced = true
    split
    · obtain ⟨hs, hl⟩ := State.doWork_latchedBoot (w := u.work)
        (s := s.bumpBy (0x5010 + u.pin) 0x0B (rest.filter (·.kind != 4)).length) h rfl
      refine ⟨?_, hl⟩
      rw [State.modPin_eq]
      exact hs
    · exact ⟨h, rfl⟩

theorem State.latchAll_latchedBoot {s : State} (h : s.gov.latchedBoot) (ts : List HeldTrigger) :
    (s.latchAll ts).gov.latchedBoot := by
  have hfold : ∀ (l : List Nat) (q : State × List Work), q.1.gov.latchedBoot ∧ q.2.all Work.forced = true →
      (l.foldl (fun (q : State × List Work) n =>
        let r := q.1.latchPin (ts.filter (·.pin == n))
        (r.1, q.2 ++ r.2)) q).1.gov.latchedBoot ∧
      (l.foldl (fun (q : State × List Work) n =>
        let r := q.1.latchPin (ts.filter (·.pin == n))
        (r.1, q.2 ++ r.2)) q).2.all Work.forced = true := by
    intro l
    induction l with
    | nil => exact fun q hq => hq
    | cons n l ih =>
      refine fun q hq => ih _ ?_
      obtain ⟨hs, hl⟩ := State.latchPin_latchedBoot hq.1 (ts.filter (·.pin == n))
      exact ⟨hs, by rw [List.all_append, hq.2, hl]; rfl⟩
  obtain ⟨hs, hl⟩ := hfold (List.range 64) (s, []) ⟨h, rfl⟩
  refine State.work_latchedBoot _ _ _ hs ?_
  rw [List.all_eq_true] at hl ⊢
  intro w hw
  rw [List.mem_append, List.mem_filter, List.mem_filter] at hw
  exact hl w (hw.elim And.left And.left)

theorem State.raise_latchedBoot {s : State} (h : s.gov.latchedBoot) (ts : List HeldTrigger) :
    (s.raise ts).gov.latchedBoot := by
  unfold State.raise
  split
  · exact Gov.latchedBoot_of h rfl rfl
  · exact State.latchAll_latchedBoot h ts

theorem State.trigger_latchedBoot {s : State} (h : s.gov.latchedBoot) (n k i c pa : Nat) :
    (s.trigger n k i c pa).gov.latchedBoot := by
  unfold State.trigger
  split
  · exact Gov.latchedBoot_of h rfl rfl
  · exact State.work_latchedBoot _ _ _ h rfl

theorem State.raiseCause_latchedBoot {s : State} (h : s.gov.latchedBoot) (n k i c pa : Nat) :
    (s.raiseCause n k i c pa).gov.latchedBoot := by
  unfold State.raiseCause
  split
  · exact h
  · refine State.trigger_latchedBoot ?_ _ _ _ _ _
    split <;> exact h

/-! ### The clock -/

theorem State.drainHeld_spares (s : State) : Spares s.drainHeld s := by
  unfold State.drainHeld
  extract_lets sigs trigs w1 w2 s1 s2
  have h2 : Spares s2 s := by
    refine Spares.chain (b := s1) ?_ (by simp [s1])
    exact each_carries (fun t => Spares t s1) (fun t n ht => (State.signal_spares t n).chain ht) _ _ (Spares.refl s1)
  exact (State.raise_spares s2 trigs).chain h2

theorem State.drainHeld_latchedBoot {s : State} (h : s.gov.latchedBoot) : s.drainHeld.gov.latchedBoot := by
  unfold State.drainHeld
  extract_lets sigs trigs w1 w2 s1 s2
  have h2 : Rests s2 s1 := Rests.each (fun t n => State.signal_rests t n) sigs s1
  refine State.raise_latchedBoot ?_ trigs
  exact Gov.latchedBoot_of (g := s1.gov) (Gov.latchedBoot_of h rfl rfl) (by rw [h2.1]) (by rw [h2.1])

/-- The state with GCLK running from now on, before what was held for it comes. -/
def State.clockStarted (s : State) : State :=
  { s with
    clock := { s.clock with base := s.tai, stopped := none }
    tb := { s.tb with
      gclk := true, waking := false, cStart := s.tb.now, fStart := s.tb.now, phase := 0, moved := 0, movedC := 0
      plAt := some s.tb.now } }

theorem State.startGclk_eq (s : State) : s.startGclk = s.clockStarted.touch.drainHeld := rfl

/-- Counters of the timebase and the instant at which GCLK begins to run. -/
theorem State.startGclk_spares (s : State) : Spares s.startGclk s.clockStarted := by
  rw [s.startGclk_eq]
  exact (State.drainHeld_spares _).chain (State.touch_spares _)

theorem State.startGclk_latchedBoot {s : State} (h : s.gov.latchedBoot) : s.startGclk.gov.latchedBoot := by
  rw [s.startGclk_eq]
  exact State.drainHeld_latchedBoot (s := s.clockStarted.touch) h

/-- Holdover: TB_STATE, the quality and the counter. -/
theorem State.holdover_lands (s : State) : s.holdover.tb.tb = .holdover ∧
    s.holdover.clock.quality = min s.clock.quality 1 ∧ s.holdover.obj 0x1200 3 = min (s.obj 0x1200 3 + 1) 0xFFFFFFFF ∧
    s.holdover.tb.gclk = s.tb.gclk ∧ s.holdover.tb.now = s.tb.now ∧ s.holdover.tb.cStart = s.tb.cStart ∧
    s.holdover.tb.fStart = s.tb.fStart ∧ s.holdover.tb.phase = s.tb.phase ∧ s.holdover.tb.cframe = s.tb.cframe ∧
    s.holdover.tb.waiting = s.tb.waiting := by
  unfold State.holdover
  extract_lets w s1
  have hu : Spares ((s1.bump 0x1200 3).unlearnAll 5) s1 :=
    (State.unlearnAll_spares _ _).chain (State.bump_spares _ _ _)
  have hq : ((s1.bump 0x1200 3).unlearnAll 5).qualityFalls.clock.quality = min s.clock.quality 1 :=
    congrArg (fun c : Clock => min c.quality 1) (by simp only [hu] : ((s1.bump 0x1200 3).unlearnAll 5).clock = s1.clock)
  have htb : ((s1.bump 0x1200 3).unlearnAll 5).qualityFalls.tb = ((s1.bump 0x1200 3).unlearnAll 5).tb := rfl
  have hobj : (((s1.bump 0x1200 3).unlearnAll 5).qualityFalls).obj 0x1200 3 = min (s.obj 0x1200 3 + 1) 0xFFFFFFFF := by
    refine Eq.trans State.obj_same (((State.unlearnAll_tells _ 5).obj 0x1200 3 (by decide) (by decide)).trans ?_)
    refine (State.obj_bump_same s1 0x1200 3).trans ?_
    rw [show s1.obj 0x1200 3 = s.obj 0x1200 3 from State.obj_same]
  have hr := State.raiseCause_spares (((s1.bump 0x1200 3).unlearnAll 5).qualityFalls) 1 0 0 0 0
  have ht := (State.raiseCause_tells (((s1.bump 0x1200 3).unlearnAll 5).qualityFalls) 1 0 0 0 0).obj 0x1200 3
    (by decide) (by decide)
  generalize ((s1.bump 0x1200 3).unlearnAll 5).qualityFalls.raiseCause 1 0 0 0 0 = t at hr ht ⊢
  refine ⟨?_, ?_, ht.trans hobj, ?_, ?_, ?_, ?_, ?_, ?_, ?_⟩
  case refine_2 => exact (congrArg Clock.quality (by simp only [hr] : t.clock = _)).trans hq
  all_goals simp only [hr, htb, hu]; rfl

theorem State.holdover_latchedBoot {s : State} (h : s.gov.latchedBoot) : s.holdover.gov.latchedBoot := by
  unfold State.holdover
  refine State.raiseCause_latchedBoot ?_ _ _ _ _ _
  exact Gov.latchedBoot_of h (congrArg Gov.st (State.unlearnAll_rests _ _).1) (congrArg Gov.tripLatch (State.unlearnAll_rests _ _).1)

theorem State.bootTrip_spares (s : State) : Spares s.bootTrip s := by
  unfold State.bootTrip
  split
  · exact State.enter_spares _ _ _
  · exact Spares.refl s

theorem State.bootTrip_lands {s : State} (h : s.gov.latchedBoot) : s.bootTrip.gov.st = .trip := by
  obtain ⟨hst, hl⟩ := h
  unfold State.bootTrip
  rcases hst with hb | ht
  · rw [if_pos (by simp [hb, hl])]
    exact State.enter_trip_lands (by rw [hb]; decide) _
  · rw [if_neg (by simp [ht])]
    exact ht

/-- The state of a PLL that has locked, before the trip latch of BOOT is looked at. -/
def State.locked (s : State) (sync : Bool) : State :=
  if sync then ({ s.startGclk with tb := { s.startGclk.tb with tb := .locked } } : State).dropCause 1 0 0
  else s.startGclk.holdover

/-- Whether or not SYNC_IN is present, the frames begin at the instant of the lock. -/
theorem State.locked_runs (s : State) (sync : Bool) : (s.locked sync).tb.gclk = true ∧
    (s.locked sync).tb.now = s.tb.now ∧ (s.locked sync).tb.cStart = s.tb.now ∧ (s.locked sync).tb.fStart = s.tb.now ∧
    (s.locked sync).tb.phase = 0 ∧ (s.locked sync).tb.cframe = s.tb.cframe ∧
    (s.locked sync).tb.tb = (if sync then .locked else .holdover) ∧ (s.locked sync).tb.waiting = s.tb.waiting := by
  have h := s.startGclk_spares
  cases sync with
  | true =>
    have hd : s.locked true = ({ s.startGclk with tb := { s.startGclk.tb with tb := .locked } } : State).dropCause 1 0 0 := rfl
    rw [hd]
    generalize s.startGclk = t at h ⊢
    refine ⟨?_, ?_, ?_, ?_, ?_, ?_, ?_, ?_⟩ <;> simp only [h, if_true] <;> rfl
  | false =>
    have hd : s.locked false = s.startGclk.holdover := rfl
    rw [hd]
    obtain ⟨htb, -, -, h1, h2, h3, h4, h5, h6, h7⟩ := s.startGclk.holdover_lands
    rw [h1, h2, h3, h4, h5, h6, h7, htb]
    generalize s.startGclk = t at h ⊢
    refine ⟨?_, ?_, ?_, ?_, ?_, ?_, rfl, ?_⟩ <;> simp only [h] <;> rfl

theorem State.locked_latchedBoot {s : State} (h : s.gov.latchedBoot) (sync : Bool) : (s.locked sync).gov.latchedBoot := by
  have hs := State.startGclk_latchedBoot h
  cases sync with
  | true => exact hs
  | false => exact State.holdover_latchedBoot hs

theorem execPllLock_eq (sync : Bool) (s : State) (hg : s.tb.gclk = false) (hlow : s.gov.govRstLow = false)
    (hoff : s.gov.st ≠ .off) (hw : s.gov.booting = true ∨ s.tb.waking = true) :
    execPllLock sync s = .next (s.locked sync).bootTrip.serveWaiting :=
  if_pos (by simp only [hg, hlow]; simpa [hoff] using hw)

/-- A clock failure takes a Governor that is not OFF to TRIP, whether or not GCLK runs. -/
theorem State.clockFailure_lands {s : State} (hoff : s.gov.st ≠ .off) (hg : s.gov.gathered = none)
    (hl : (s.pin 0).latched = false) (h4 : 4 ≤ s.obj 0x5010 2) : (s.trigger 0 0 0 0 0).gov.st = .trip := by
  have hr : s.pinReached 0 = true := by simp [State.pinReached, corePinAbsent]
  by_cases hc : s.tb.gclk = true
  · exact State.trigger_lands_trip 0 0 0 (by decide) hr hg hc hl h4 hoff
  · have htr : s.trigger 0 0 0 0 0 = s.work workFuel [.trigger 0 0 0 0 0] := by
      unfold State.trigger
      rw [hg]
    rw [htr]
    have hland : ∀ u : State, u.gov.st = s.gov.st → (u.work 4999 [.enter .trip 0]).gov.st = .trip := by
      intro u hu
      by_cases ht : u.gov.st = .trip
      · exact (State.work_tripped 4999 [.enter .trip 0] u ht rfl).1.1.trans ht
      · exact (State.work_enterTrip u 0 4998 [] ht (by rwa [hu]) rfl).1
    rw [show workFuel = 4999 + 1 from rfl, State.work, State.doWork_trigger_stopped hr (by simpa using hc),
      if_pos (by decide), List.append_nil]
    exact hland _ rfl

/-- GCLK stopped: the timebase and the clock alone change. -/
theorem State.stopGclk_stops (s : State) : s.stopGclk.tb.gclk = false ∧ s.stopGclk.tb.now = s.tb.now ∧
    s.stopGclk.tb.cframe = s.tb.cframe ∧ s.stopGclk.tb.tb = .unlocked ∧ s.stopGclk.clock.quality ≤ 1 ∧
    s.stopGclk = { s with tb := s.stopGclk.tb, clock := s.stopGclk.clock } :=
  ⟨rfl, rfl, rfl, rfl, Nat.min_le_right _ _, rfl⟩

/-- Settles O9: each event by its conditions; at a lock what was held for GCLK leaves a latched BOOT in BOOT or TRIP. -/
theorem clockEvents : Obligations.ClockEvents := by
  unfold Obligations.ClockEvents
  refine ⟨⟨fun sync s hg hlow hoff hw => ?_, fun sync s h => if_neg ?_, fun s hc hoff hg hl h4 => ?_, fun s hg hw => ?_,
    fun s hst hg hlow => ?_, fun s hst hg hflag hlast => ?_, fun u s hst hg hflag hlast => ?_⟩,
    fun s hg htb => ?_, fun s hg htb => ?_, fun s hg htb hre => ?_, fun err s hg hre herr => ?_⟩
  case refine_1 =>
    obtain ⟨h1, h2, h3, h4, h5, h6, h7, h8⟩ := s.locked_runs sync
    have hb := (s.locked sync).bootTrip_spares
    have hlatched := fun hst hlatch => State.bootTrip_lands (State.locked_latchedBoot (s := s) ⟨Or.inl hst, hlatch⟩ sync)
    refine ⟨(s.locked sync).bootTrip, execPllLock_eq sync s hg hlow hoff hw, ?_, ?_, ?_, ?_, ?_, ?_, ?_, ?_, hlatched⟩ <;>
      simp only [hb, h1, h2, h3, h4, h5, h6, h7, h8]
  case refine_2 =>
    rcases h with h | h | h | ⟨h, h'⟩ <;> simp [*]
  case refine_3 =>
    exact ⟨_, if_pos (by simpa using hc), State.clockFailure_lands hoff hg hl h4, State.trigger_spares _ _ _ _ _ _⟩
  case refine_4 => exact if_neg (by simp [hg, hw])
  case refine_5 => exact if_pos (by simp [hst, hg, hlow])
  case refine_6 =>
    have hrun : exec .standbyClockStop s = .next s.stopGclk := by
      show execStandbyClockStop s = _
      unfold execStandbyClockStop
      rw [if_pos (by simp [hst, hg, hflag]), hlast]
    obtain ⟨h1, h2, h3, h4, h5, h6⟩ := s.stopGclk_stops
    exact ⟨_, hrun, h1, h2, h3, h4, h5, h6⟩
  case refine_7 =>
    have hrun : exec .standbyClockStop s = if s.anyPosted then .next s else .next (s.atTime (u + cycles 100000000)).stopGclk := by
      show execStandbyClockStop s = _
      unfold execStandbyClockStop
      rw [if_pos (by simp [hst, hg, hflag]), hlast]
    split
    · next hp => rw [hrun, if_pos hp]
    · next hp =>
      rw [hrun, if_neg hp]
      exact ⟨_, rfl, rfl, rfl, Nat.min_le_right _ _, rfl, rfl⟩
  case refine_8 =>
    have hrun : exec .syncInLoss s = .next s.holdover := by
      show execSyncInLoss s = _
      unfold execSyncInLoss
      rw [if_neg (by simp [hg]), htb]
    obtain ⟨h1, h2, h3, -, h4, -, -, -, h5, -⟩ := s.holdover_lands
    exact ⟨_, hrun, h1, h2, h4, h5, h3⟩
  case refine_9 =>
    show execSyncInLoss s = _
    unfold execSyncInLoss
    rw [if_neg (by simp [hg]), htb]
  case refine_10 => exact if_pos (by simp [hg, htb, hre])
  case refine_11 => exact if_pos (by simp [hg, hre, herr])


/-! ### Resets -/

/-! #### Entry to READY with no assay held -/

theorem State.safeLatched_rests {t s : State} (h : Rests t s) : t.safeLatched = s.safeLatched := by
  unfold State.safeLatched
  simp only [h.2.2]

theorem State.tallyClear_assayer (s : State) : s.tallyClear.assayer = s.assayer := by
  unfold State.tallyClear
  refine each_keeps (f := State.dropFit) (fun s => s.assayer) (fun t f => ?_) s.tally.fits s
  cases f <;> rfl

/-- With no duplicate in the Assayer an entry to READY abandons none. -/
theorem State.enterReady_none {s : State} (h : s.assayer.entries = []) : s.enterReady.2 = 0 := by
  have he : s.creditsReady.tallyClear.assayer.entries = [] := by
    rw [State.tallyClear_assayer]
    exact h
  exact congrArg List.length he

theorem State.enterReady_safeLatched (s : State) : s.enterReady.1.safeLatched = s.safeLatched := by
  have h1 : Rests s.creditsReady.tallyClear s := (State.tallyClear_rests _).trans (Rests.of_pins rfl rfl rfl)
  have h2 := State.abandonAssays_rests
    ({ s.creditsReady.tallyClear with gov := { s.creditsReady.tallyClear.gov with hostRel := true, phase := .idle } } : State)
  have h3 : ({ s.creditsReady.tallyClear with
      gov := { s.creditsReady.tallyClear.gov with hostRel := true, phase := .idle } } : State).safeLatched =
        s.creditsReady.tallyClear.safeLatched := rfl
  exact (State.safeLatched_rests h2).trans (h3.trans (State.safeLatched_rests h1))

/-- From RUN or LIMIT with no duplicate in the Assayer the Governor comes to READY, and on to SAFE where a latched pin has
that level (10 R261). -/
theorem State.enter_ready_lands {s : State} (hst : s.gov.st = .run ∨ s.gov.st = .limit) (he : s.assayer.entries = [])
    (why : Nat) : (s.enter .ready why).gov.st = if s.safeLatched then .safe else .ready := by
  have hserv : (s.gov.st == .service) = false := by rcases hst with h | h <;> simp [h]
  have hwant : s.wanted .ready = true := by
    unfold State.wanted
    rcases hst with h | h <;> simp [h]
  let m := s.mark .ready why
  have htr : s.doWork (.enter .ready why) = (m.enterReady.1, .events 52 m.enterReady.2 ::
      if m.enterReady.1.safeLatched then [.enter .safe 0xFF] else []) := by
    refine (if_pos hwant).trans ?_
    unfold State.transit
    dsimp only
    rw [hserv, if_neg (by decide)]
  have hm : m.assayer.entries = [] := by
    have : m.assayer = s.assayer := by simp [m]
    rw [this, he]
  have hlatch : m.enterReady.1.safeLatched = s.safeLatched := by
    rw [m.enterReady_safeLatched]
    have hp : m.pins = s.pins := by simp [m]
    unfold State.safeLatched State.pin
    rw [hp]
  have hgov : m.enterReady.1.gov.st = .ready := by
    rw [m.enterReady_gov, s.mark_gov .ready why]
    rfl
  rw [State.enterReady_none hm, hlatch] at htr
  generalize m.enterReady.1 = q at htr hgov
  have hev : q.doWork (.events 52 0) = (q, []) := if_neg (by simp)
  have hwork : s.enter .ready why = q.work 4998 (if s.safeLatched then [.enter .safe 0xFF] else []) := by
    unfold State.enter
    rw [show workFuel = 4998 + 1 + 1 from rfl, State.work, htr]
    dsimp only
    rw [List.append_nil, State.work, hev]
    rfl
  rw [hwork]
  split
  · exact (State.work_enterSafe q 0xFF 4997 (by rw [hgov]; rfl)).1
  · exact (congrArg (fun t : State => t.gov.st) (State.work_nil 4998 q)).trans hgov

/-! #### What host_rst_n does to the host's side -/

/-- What host_rst_n may change: interrupts, mailboxes, epochs, the host port, sessions, the window and counters. -/
def HostSide (t s : State) : Prop :=
  t = { s with od := t.od, icu := t.icu, channels := t.channels, epochs := t.epochs, host := t.host, access := t.access }

theorem HostSide.refl (s : State) : HostSide s s := rfl

theorem HostSide.trans {a b c : State} (h : HostSide a b) (g : HostSide b c) : HostSide a c := by
  unfold HostSide at *
  rw [h, g]

theorem HostSide.each {α : Type} {f : State → α → State} (h : ∀ s x, HostSide (f s x) s) (l : List α) (s : State) :
    HostSide (each l f s) s :=
  each_carries (fun t => HostSide t s) (fun t x ht => (h t x).trans ht) l s (HostSide.refl s)

theorem State.setPending_hostSide (s : State) (n : Nat) : HostSide (s.setPending n) s := by
  unfold State.setPending
  split <;> rfl

theorem State.completeSource_hostSide (s : State) (n : Nat) : HostSide (s.completeSource n) s := by
  unfold State.completeSource
  extract_lets w s1
  split
  · exact (State.setPending_hostSide _ _).trans rfl
  · rfl

theorem State.waitFor_hostSide (s : State) (t : Nat) : HostSide (s.waitFor t) s := by
  unfold State.waitFor
  refine each_carries (f := fun (s : State) n => if (tget s.icu.waitSince n none).isSome then s
    else { s with icu := { s.icu with waitSince := tset s.icu.waitSince n (some s.tb.now) } })
    (fun t => HostSide t s) (fun u n hu => HostSide.trans ?_ hu) _ s (HostSide.refl s)
  split <;> rfl

theorem State.wakeTarget_hostSide (s : State) (t : Nat) : HostSide (s.wakeTarget t) s := by
  unfold State.wakeTarget
  split
  · rfl
  · refine each_carries (f := fun (s : State) n => { s with icu := { s.icu with
        fallen := s.icu.fallen.filter (· != n)
        waitSince := tset s.icu.waitSince n none } })
      (fun t => HostSide t s) (fun u n hu => HostSide.trans ?_ hu) _ s (HostSide.refl s)
    rfl

theorem State.setSleep_hostSide (s : State) (t : Nat) (v : Bool) : HostSide (s.setSleep t v) s := by
  unfold State.setSleep
  dsimp only
  split
  · exact (State.waitFor_hostSide _ t).trans rfl
  · exact (State.wakeTarget_hostSide _ t).trans rfl

theorem State.epochChange_hostSide (s : State) (a : Nat) : HostSide (s.epochChange a) s := by
  unfold State.epochChange
  extract_lets s1 s2
  have hstale : ∀ (u : State) (c : Nat), HostSide (u.staleChannel c) u := fun u c => rfl
  have horphan : ∀ (u : State) (c : Nat), HostSide (u.orphanChannel c) u := fun u c => rfl
  exact (HostSide.each horphan _ s2).trans ((HostSide.each hstale _ s1).trans rfl)

theorem State.closeMail_hostSide (s : State) (c : Nat) : HostSide (s.closeMail c) s := by
  unfold State.closeMail
  split <;> rfl

/-- A mailbox session closed leaves the sessions of the other channels. -/
theorem State.closeMail_sessions (s : State) (c : Nat) : (s.closeMail c).host.sessions = tdel s.host.sessions c := by
  unfold State.closeMail
  split
  · rfl
  · next hnone =>
    refine (List.filter_eq_self.mpr fun p hp => ?_).symm
    simpa using List.find?_eq_none.mp hnone p hp

theorem State.closeAllMail_sessions (s : State) : s.closeAllMail.host.sessions = [] := by
  have h : ∀ (l : List Nat) (u : State), (∀ p ∈ u.host.sessions, p.1 ∈ l) → (each l State.closeMail u).host.sessions = [] := by
    intro l
    induction l with
    | nil => exact fun u hu => List.eq_nil_iff_forall_not_mem.mpr fun p hp => by simpa using hu p hp
    | cons c l ih =>
      intro u hu
      rw [each_cons]
      refine ih _ fun p hp => ?_
      rw [u.closeMail_sessions c] at hp
      obtain ⟨hmem, hne⟩ := List.mem_filter.mp hp
      exact (List.mem_cons.mp (hu p hmem)).resolve_left (by simpa using hne)
  exact h _ s fun p hp => List.mem_map_of_mem hp

/-- host_rst_n's work on the host's side, after the transition of the Governor. -/
def State.hostSideReset (s : State) : State :=
  let u := ((((s.completeTarget 4).completeTarget 5).setSleep 4 false).setSleep 5 false |>.epochChange 4).closeAllMail
  { u with host := { u.host with hostState := 2 }, window := { u.window with claimed := false } }

theorem State.closeAllMail_hostSide (s : State) : HostSide s.closeAllMail s :=
  HostSide.each State.closeMail_hostSide _ s

/-- Both targets of the host completed and awake, its epoch changed. -/
theorem State.hostTargets_hostSide (s : State) :
    HostSide (((((s.completeTarget 4).completeTarget 5).setSleep 4 false).setSleep 5 false).epochChange 4) s :=
  (State.epochChange_hostSide _ 4).trans ((State.setSleep_hostSide _ 5 false).trans ((State.setSleep_hostSide _ 4 false).trans
    ((HostSide.each State.completeSource_hostSide _ _).trans (HostSide.each State.completeSource_hostSide _ _))))

theorem State.hostSideReset_frame (s : State) : s.hostSideReset.host.hostState = 2 ∧
    s.hostSideReset.window.claimed = false ∧ s.hostSideReset.host.sessions = [] ∧
    HostSide s.hostSideReset { s with window := s.hostSideReset.window } := by
  have h := (State.closeAllMail_hostSide _).trans s.hostTargets_hostSide
  have hs := State.closeAllMail_sessions
    (((((s.completeTarget 4).completeTarget 5).setSleep 4 false).setSleep 5 false).epochChange 4)
  unfold State.hostSideReset
  generalize (((((s.completeTarget 4).completeTarget 5).setSleep 4 false).setSleep 5 false).epochChange 4).closeAllMail = u
    at h hs ⊢
  refine ⟨rfl, rfl, hs, ?_⟩
  unfold HostSide at h ⊢
  dsimp only
  rw [h]

/-! #### The Governor's own resets -/

/-- With no rail in use a transition leaves the Tally alone. -/
theorem State.mark_tally {s : State} (h : s.railsUsed = []) (new : GovState) (why : Nat) :
    (s.mark new why).tally = s.tally := by
  unfold State.mark
  extract_lets old s1 s2 wakes w1 s3 w2 s4 s5 w3 s6
  have h2 : s2.tally = s.tally ∧ s2.cfg = s.cfg ∧ s2.desc = s.desc := by
    have h' : Noted s2 s := Noted.trans (b := s1) rfl (State.enqueueGroup_noted _ _ _)
    exact ⟨by rw [h'], by rw [h'], by rw [h']⟩
  have hused : s4.railsUsed = [] := by
    rw [← h]
    unfold State.railsUsed State.railUsed State.railCount
    rw [show s4.cfg = s.cfg from h2.2.1, show s4.desc = s.desc from h2.2.2]
  have h5 : s5 = s4 := by
    have hun : s4.unlearnAll 1 = s4 := by
      unfold State.unlearnAll
      rw [hused]
      rfl
    show (if new.learns then s4 else s4.unlearnAll 1) = s4
    rw [hun, ite_self]
  have h6 : s6.tally = s5.tally := by
    show (if old == .service then _ else s5 : State).tally = _
    split <;> rfl
  rw [show (s6.signal 0x0C9).tally = s6.tally by rw [s6.signal_noted 0x0C9], h6, h5]
  exact h2.1

/-- The state that the supply's return finds. -/
def State.cold (s : State) : State :=
  { s.blank with
    gov := { s.blank.gov with st := .off }
    test := { fuses := s.test.fuses, fused := s.test.fuses } }

theorem State.cold_railsUsed (s : State) : s.cold.railsUsed = [] := by
  refine List.filter_eq_nil_iff.mpr fun r _ => ?_
  unfold State.railUsed
  rw [show s.cold.desc.rails = [] from rfl]
  simp

theorem State.cold_marked (s : State) : (s.cold.mark .boot 0xFF).gov.st = .boot ∧
    (s.cold.mark .boot 0xFF).gov.tripLatch = false ∧ (s.cold.mark .boot 0xFF).gov.restarts = [] ∧
    (s.cold.mark .boot 0xFF).tally = {} := by
  rw [s.cold.mark_gov .boot 0xFF, State.mark_tally s.cold_railsUsed]
  exact ⟨rfl, rfl, rfl, rfl⟩

theorem State.droopTotals_frame (s : State) : s.droopTotals = { s with od := s.droopTotals.od } := by
  unfold State.droopTotals
  exact each_carries (f := fun (s : State) d =>
      (s.bump64 (0x2410 + d) 8 ((s.droop d).account s.tb.now).frozenH).bump64 (0x2410 + d) 9
        ((s.droop d).account s.tb.now).stretchedH)
    (fun t => t = { s with od := t.od }) (fun t d ht => by rw [ht]; rfl) _ s rfl

/-- What gov_rst_n and a soft reset keep of the state whose GCLK has stopped, and what they restore. -/
theorem State.fresh_retains (s : State) : s.fresh.gov.st = s.gov.st ∧ s.fresh.gov.tripLatch = s.gov.tripLatch ∧
    s.fresh.gov.tripCause = s.gov.tripCause ∧ s.fresh.gov.restarts = s.gov.restarts ∧ s.fresh.recorder = s.recorder ∧
    s.fresh.dumps = s.dumps ∧ s.fresh.test.fuses = s.test.fuses := by
  unfold State.fresh
  dsimp only
  rw [s.droopTotals_frame]
  exact ⟨rfl, rfl, rfl, rfl, rfl, rfl, rfl⟩

theorem execHostReset_eq {s : State} (hg : s.tb.gclk = true) (hoff : s.gov.st ≠ .off) : execHostReset s =
    .next (if s.gov.st == .run || s.gov.st == .limit then s.enter .ready 0xFF else s).hostSideReset :=
  if_pos (by simp [hg, hoff])

/-- Settles O7: each reset restores what it names; host_rst_n takes RUN and LIMIT to READY, then works on the host's side. -/
theorem resets : Obligations.Resets := by
  unfold Obligations.Resets
  refine ⟨⟨fun s => ?_, fun s => ⟨_, rfl, rfl, rfl, rfl, rfl, rfl, rfl, rfl, rfl, rfl⟩, fun sel s hst => ?_,
    fun sel s hst => if_neg (by simpa using hst), fun s hst => ?_, fun s hst => if_pos (by simp [hst]), fun s hlow => ?_,
    fun s hlow => if_neg (by simp [hlow])⟩, fun s hg hoff => ?_, fun s h => if_neg ?_⟩
  case refine_1 =>
    obtain ⟨h1, h2, h3, h4⟩ := s.cold_marked
    have hm := s.cold.mark_marks .boot 0xFF
    have hs := s.cold.mark_spares .boot 0xFF
    have hrun : exec .coldReset s = .next (s.cold.mark .boot 0xFF) := rfl
    generalize s.cold.mark .boot 0xFF = t at h1 h2 h3 h4 hm hs hrun
    refine ⟨t, hrun, h1, h2, h3, ?_, ?_, ?_, ?_, ?_, ?_, ?_, ?_, ?_, ?_, h4, ?_, ?_, ?_, ?_, ?_, ?_, ?_⟩ <;>
      simp only [hm, hs] <;> rfl
  case refine_2 =>
    refine (if_pos (by simp [hst])).trans ?_
    have hsel : strapMode sel = if sel = 0 then 0 else if sel = 1 then 1 else 2 := by revert sel; decide
    rw [hsel]
  case refine_3 =>
    obtain ⟨h1, h2, h3, h4, h5, h6, h7⟩ := s.stopGclk.fresh_retains
    have hrun : exec .govReset s = .next { s.stopGclk.fresh with
        gov := { s.stopGclk.fresh.gov with govRstLow := true, scanMode := false } } := if_neg (by simp [hst])
    exact ⟨_, hrun, rfl, rfl, h1, h2, h3, h4, h5, h6, rfl, rfl, rfl, rfl, rfl, rfl, rfl, rfl, h7⟩
  case refine_4 =>
    let u : State := { s with gov := { s.gov with govRstLow := false } }
    have hgov := u.mark_gov .boot 0xFF
    have hu : Spares u s := by simp [u]
    have hrun : exec .govResetRelease s = .next (u.mark .boot 0xFF) := if_pos hlow
    refine ⟨_, hrun, ?_, ?_, ?_, ?_, (u.mark_spares .boot 0xFF).chain hu⟩ <;> rw [hgov]
    · rfl
    · rfl
    · rfl
    · show (if s.gov.st == .cooldown && GovState.boot != .boot then false else s.gov.tripLatch) = _
      rw [if_neg (by simp)]
  case refine_5 =>
    obtain ⟨h1, h2, h3, h4⟩ := State.hostSideReset_frame
      (if s.gov.st == .run || s.gov.st == .limit then s.enter .ready 0xFF else s)
    have hrun : exec .hostReset s = _ := execHostReset_eq hg hoff
    have hu : Spares (if s.gov.st == .run || s.gov.st == .limit then s.enter .ready 0xFF else s) s := by
      split
      · exact s.enter_spares .ready 0xFF
      · exact Spares.refl s
    have hout : s.gov.st ≠ .run → s.gov.st ≠ .limit →
        (if s.gov.st == .run || s.gov.st == .limit then s.enter .ready 0xFF else s) = s := fun ha hb => if_neg (by simp [ha, hb])
    have hin : s.gov.st = .run ∨ s.gov.st = .limit →
        (if s.gov.st == .run || s.gov.st == .limit then s.enter .ready 0xFF else s) = s.enter .ready 0xFF :=
      fun h => if_pos (by simpa using h)
    generalize (if s.gov.st == .run || s.gov.st == .limit then s.enter .ready 0xFF else s) = u at h1 h2 h3 h4 hrun hu hout hin
    generalize u.hostSideReset = t at h1 h2 h3 h4 hrun
    unfold HostSide at h4
    have hgov : t.gov = u.gov := by rw [h4]
    refine ⟨t, hrun, h1, h2, h3, ?_, ?_, ?_, ?_, fun ha hb => ?_, fun ha he => ?_⟩
    · rw [h4]
      simp only [hu]
    · rw [h4]
      simp only [hu]
    · rw [h4]
      simp only [hu]
    · rw [h4]
      simp only [hu]
    · rw [h4, hout ha hb]
      exact ⟨rfl, rfl, rfl, rfl⟩
    · rw [hgov, hin ha]
      exact State.enter_ready_lands ha he 0xFF
  case refine_6 =>
    rcases h with h | h <;> simp [h]


/-! ### The end of BOOT -/

/-- A transition that asks for nothing more is all that its request brings. -/
theorem State.enter_plain {s : State} {new : GovState} {why : Nat} (hw : s.wanted new = true)
    (hq : (s.transit new why).2 = []) : s.enter new why = (s.transit new why).1 := by
  have hdo : s.doWork (.enter new why) = ((s.transit new why).1, []) :=
    (if_pos hw).trans (Prod.ext rfl hq)
  unfold State.enter
  rw [show workFuel = 4999 + 1 from rfl, State.work, hdo]
  exact State.work_nil 4999 _

/-- The Governor's registers after a transition that asks for nothing more. -/
theorem State.enter_plain_gov {s : State} {new : GovState} {why : Nat} (hw : s.wanted new = true)
    (hq : (s.transit new why).2 = []) : (s.enter new why).gov = s.gov.after new why s.tb.now := by
  rw [State.enter_plain hw hq, State.transit_gov]

/-- An automatic start that has been tried, or is not set, does nothing but note it. -/
theorem State.autoStart_st {s : State} (h : s.gov.autoTried = true ∨ s.flag 0x3400 3 = false) :
    s.autoStart.gov.st = s.gov.st := by
  unfold State.autoStart
  split
  · next hc =>
    have hf : s.flag 0x3400 3 = false := h.resolve_left (by simp at hc; simp [hc.2])
    have hf' : ({ s with gov := { s.gov with autoTried := true } } : State).flag 0x3400 3 = false := by
      unfold State.flag at hf ⊢
      rwa [State.obj_same]
    dsimp only
    rw [if_neg (by simpa using hf')]
  · rfl

/-- What loading an image leaves before its units are judged: the descriptor, the configuration, the test port, the
Governor's registers, the arrays, and every object outside the law instances. -/
structure Loads (t s : State) : Prop where
  desc : t.desc = s.desc
  cfg : t.cfg = s.cfg
  test : t.test = s.test
  gov : t.gov = s.gov
  arrays : t.arrays = s.arrays
  obj : ∀ i j, j < 256 → (i < 0x4100 ∨ 0x419F < i) → t.obj i j = s.obj i j

theorem Loads.refl (s : State) : Loads s s := ⟨rfl, rfl, rfl, rfl, rfl, fun _ _ _ _ => rfl⟩

theorem Loads.trans {a b c : State} (h : Loads a b) (g : Loads b c) : Loads a c :=
  ⟨h.desc.trans g.desc, h.cfg.trans g.cfg, h.test.trans g.test, h.gov.trans g.gov, h.arrays.trans g.arrays,
    fun i j hj hi => (h.obj i j hj hi).trans (g.obj i j hj hi)⟩

theorem Loads.of_eq {t s : State} (hd : t.desc = s.desc := by rfl) (hc : t.cfg = s.cfg := by rfl)
    (ht : t.test = s.test := by rfl) (hg : t.gov = s.gov := by rfl) (ha : t.arrays = s.arrays := by rfl)
    (ho : t.od = s.od := by rfl) : Loads t s :=
  ⟨hd, hc, ht, hg, ha, fun i j _ _ => State.obj_congr ho hc i j⟩

theorem Loads.each {α : Type} {f : State → α → State} (h : ∀ s x, Loads (f s x) s) (l : List α) (s : State) :
    Loads (each l f s) s :=
  each_carries (fun t => Loads t s) (fun t x ht => (h t x).trans ht) l s (Loads.refl s)

theorem State.bootUnits_loads (s : State) : Loads s.bootUnits s := by
  unfold State.bootUnits
  extract_lets s1 s2
  have h1 : Loads s1 s := by
    refine Loads.each (f := fun (s : State) n => if !s.railUsed (s.laneRail n) then s
      else s.setLane n (if n < s.laneCount then { st := .cold } else { st := .missing, cause := 5 })) (fun t n => ?_) _ s
    split
    · exact Loads.refl t
    · exact Loads.of_eq
  have h2 : Loads s2 s1 := by
    refine Loads.each (f := fun (s : State) t => if s.tapGroup t == 0xFF then s
      else s.setTap t { st := if s.tapCount ≤ t then .missing else if s.tapGroup t == 0xFE then .sense else .idle })
      (fun u t => ?_) _ s1
    split
    · exact Loads.refl u
    · exact Loads.of_eq
  have h3 : ∀ (u : State) (d : Nat), Loads (u.setDomain d { st := .off }) u := fun u d => Loads.of_eq
  exact (Loads.each h3 _ s2).trans (h2.trans h1)

theorem State.bootTally_loads (s : State) (img : Image) : Loads (s.bootTally img) s := by
  have h : ∀ (u : State) (p : Nat × Nat), Loads (u.setSig p.1 p.2) u := fun u p => Loads.of_eq
  unfold State.bootTally
  exact Loads.trans Loads.of_eq (Loads.each h img.sigs s)

/-- What every element of a list keeps, the run over the list keeps. -/
theorem each_keeps_of {σ α : Type} (P : σ → Prop) {f : σ → α → σ} {l : List α} (h : ∀ x ∈ l, ∀ s, P s → P (f s x)) (s : σ)
    (hs : P s) : P (each l f s) := by
  induction l generalizing s with
  | nil => exact hs
  | cons x rest ih => exact ih (fun y hy => h y (List.mem_cons_of_mem _ hy)) _ (h x List.mem_cons_self s hs)

theorem Loads.setGain (s : State) {i : Nat} (v : Nat) (h : i < 160) : Loads (s.setObj (0x4100 + i) 4 v) s :=
  ⟨rfl, rfl, rfl, rfl, rfl, fun a b hb ha =>
    s.obj_setObj_other v hb (by decide) (by simp [defaultReads]; omega) (Or.inl (by omega))⟩

theorem State.bootLaws_loads (s : State) : Loads s.bootLaws s := by
  unfold State.bootLaws
  dsimp only
  have hlaw : ∀ (u : State) (i : Nat), Loads (u.setLaw i { active := u.staged i, shadow := u.staged i }) u := fun u i => Loads.of_eq
  refine (Loads.each hlaw _ _).trans (each_keeps_of (fun t => Loads t s) (fun i hi t ht => ?_) s (Loads.refl s))
  have hlt : i < 40 := List.mem_range.mp (List.mem_filter.mp hi).1
  exact (Loads.setGain t _ (by omega)).trans ht

theorem State.bootIcu_loads (s : State) (img : Image) : Loads (s.bootIcu img) s := Loads.of_eq

theorem State.wakeTarget_icu (s : State) (t : Nat) : s.wakeTarget t = { s with icu := (s.wakeTarget t).icu } := by
  unfold State.wakeTarget
  split
  · rfl
  · exact each_carries (f := fun (s : State) n => { s with icu := { s.icu with
        fallen := s.icu.fallen.filter (· != n)
        waitSince := tset s.icu.waitSince n none } })
      (fun t => t = { s with icu := t.icu }) (fun u n hu => by rw [hu]) _ s rfl

theorem State.wakeTarget_loads (s : State) (c : Nat) : Loads (s.wakeTarget c) s := by
  rw [s.wakeTarget_icu c]
  exact Loads.of_eq

/-- One core's image of the boot store. -/
def State.bootCore (s : State) (fw : List FwImage) (c : Nat) : State :=
  match fw.find? (fun f => f.core == c && s.imageRefusal c f == 0) with
  | some f => (s.setCore c { s.core c with
      st := .running, active := 0, banks := [(0, { release := imageRelease f })] }).wakeTarget c
  | none => s

theorem State.bootCores_eq (s : State) (fw : List FwImage) : s.bootCores fw =
    (((s.bootCore fw 0).bootCore fw 1).bootCore fw 2).bootCore fw 3 := rfl

theorem State.imageRefusal_congr {t s : State} (h : t.test = s.test) (c : Nat) (f : FwImage) :
    t.imageRefusal c f = s.imageRefusal c f := by
  unfold State.imageRefusal
  rw [h]

theorem State.bootCore_loads (s : State) (fw : List FwImage) (c : Nat) : Loads (s.bootCore fw c) s := by
  unfold State.bootCore
  split
  · exact (State.wakeTarget_loads _ c).trans Loads.of_eq
  · exact Loads.refl s

/-- Whether the boot store holds an image that a core accepts. -/
def State.storeHas (s : State) (fw : List FwImage) (c : Nat) : Bool :=
  fw.any (fun f => f.core == c && s.imageRefusal c f == 0)

theorem State.bootCore_running {t s : State} {fw : List FwImage} {c : Nat} (ht : t.test = s.test)
    (h : s.storeHas fw c = true) :
    ((t.bootCore fw c).core c).st = .running ∧ ∀ k, k ≠ c → (t.bootCore fw c).core k = t.core k := by
  unfold State.bootCore
  have hp : (fun f : FwImage => f.core == c && t.imageRefusal c f == 0) =
      fun f => f.core == c && s.imageRefusal c f == 0 := funext fun f => by rw [State.imageRefusal_congr ht]
  rw [hp]
  cases hf : fw.find? (fun f => f.core == c && s.imageRefusal c f == 0) with
  | none =>
    obtain ⟨f, hmem, hgood⟩ := List.any_eq_true.mp h
    exact absurd hgood (List.find?_eq_none.mp hf f hmem)
  | some f =>
    dsimp only
    have hcore : ∀ (u : State) k, (u.wakeTarget c).core k = u.core k := fun u k => by rw [u.wakeTarget_icu c]; rfl
    refine ⟨?_, fun k hk => ?_⟩
    · rw [hcore, State.core_setCore, if_pos rfl]
    · rw [hcore, State.core_setCore, if_neg hk]

theorem State.bootCores_loads (s : State) (fw : List FwImage) : Loads (s.bootCores fw) s := by
  rw [s.bootCores_eq]
  exact (State.bootCore_loads _ fw 3).trans ((State.bootCore_loads _ fw 2).trans ((State.bootCore_loads _ fw 1).trans
    (State.bootCore_loads _ fw 0)))

/-- With an acceptable image for each, every core runs. -/
theorem State.bootCores_running {t s : State} {fw : List FwImage} (ht : t.test = s.test) (h : s.firmwareGood fw = true) :
    ∀ c, c < 4 → ((t.bootCores fw).core c).st = .running := by
  have hall : ∀ c, c < 4 → s.storeHas fw c = true := by
    intro c hc
    have hmem : c ∈ [0, 1, 2, 3] := by simp; omega
    exact List.all_eq_true.mp h c hmem
  have h0 := (t.bootCore_loads fw 0).test.trans ht
  have h1 := (State.bootCore_loads (t.bootCore fw 0) fw 1).test.trans h0
  have h2 := (State.bootCore_loads ((t.bootCore fw 0).bootCore fw 1) fw 2).test.trans h1
  have r0 := State.bootCore_running (t := t) ht (hall 0 (by decide))
  have r1 := State.bootCore_running (t := t.bootCore fw 0) h0 (hall 1 (by decide))
  have r2 := State.bootCore_running (t := (t.bootCore fw 0).bootCore fw 1) h1 (hall 2 (by decide))
  have r3 := State.bootCore_running (t := ((t.bootCore fw 0).bootCore fw 1).bootCore fw 2) h2 (hall 3 (by decide))
  rw [t.bootCores_eq]
  intro c hc
  obtain rfl | rfl | rfl | rfl : c = 0 ∨ c = 1 ∨ c = 2 ∨ c = 3 := by omega
  · rw [r3.2 0 (by decide), r2.2 0 (by decide), r1.2 0 (by decide)]
    exact r0.1
  · rw [r3.2 1 (by decide), r2.2 1 (by decide)]
    exact r1.1
  · rw [r3.2 2 (by decide)]
    exact r2.1
  · exact r3.1

/-- One array of the image's quarantine list. -/
def State.bootListed (s : State) (a : Nat) : State :=
  let s := s.modArray a (fun v => { v with quarantined := true })
  { s with assayer := { s.assayer with qcause := tset s.assayer.qcause a 2 } }

theorem State.bootQuarantine_spares (s : State) : Spares s.bootQuarantine s := by
  have hone : ∀ (l : List Nat) (u : State), Spares (each l State.bootListed u) u := fun l u =>
    each_carries (fun t => Spares t u) (fun t a ht => Spares.chain (by simp [State.bootListed]) ht) l u (Spares.refl u)
  have hall : ∀ (l : List Nat) (u : State), Spares (each l (fun (s : State) a =>
      s.raiseCause 49 2 ((s.arrayDomain a).getD 32) 0 (a * 2 ^ 56 + tget s.assayer.qcause a 0 * 2 ^ 48)) u) u := fun l u =>
    each_carries (fun t => Spares t u) (fun t a ht => (State.raiseCause_spares t _ _ _ _ _).chain ht) l u (Spares.refl u)
  unfold State.bootQuarantine
  split
  · exact Spares.refl s
  · exact (hall _ _).chain (hone _ _)

/-- With no array quarantined and none listed nothing is raised. -/
theorem State.bootQuarantine_none {s : State} (h : s.cfg = .core ∨ (s.arrays = [] ∧ s.obj 0x6000 0x0D = 0)) :
    s.bootQuarantine = s := by
  unfold State.bootQuarantine
  rcases h with h | ⟨ha, ho⟩
  · exact if_pos (by simp [h])
  · split
    · rfl
    · have hlist : (if s.gov.prev == .off then bitsOf 256 (s.obj 0x6000 0x0D) else []) = [] := by
        rw [ho]
        split
        · exact List.filter_eq_nil_iff.mpr fun i _ => by simp [bit]
        · rfl
      rw [hlist]
      dsimp only
      rw [each_nil, ha]
      rfl

/-- What the image's objects give the Credit Unit's dither and the Assayer's seed. -/
def State.seeded (s : State) : State :=
  { s with dither := s.obj 0x2801 7, assayer := { s.assayer with seed := s.obj 0x6000 6 } }

/-- The units of a loaded image before the quarantined arrays are looked at. -/
def State.bootUnitsLoaded (s : State) (img : Image) (fw : List FwImage) : State :=
  (((((s.withImage img).seeded.bootUnits).bootTally img).bootLaws).bootIcu img).bootCores fw

theorem State.bootLoad_eq (s : State) (img : Image) (fw : List FwImage) :
    s.bootLoad img fw = (s.bootUnitsLoaded img fw).bootQuarantine.bootSegment := rfl

theorem State.bootUnitsLoaded_loads (s : State) (img : Image) (fw : List FwImage) :
    Loads (s.bootUnitsLoaded img fw) (s.withImage img) := by
  have hseed : Loads (s.withImage img).seeded (s.withImage img) := Loads.of_eq
  exact (State.bootCores_loads _ fw).trans ((State.bootIcu_loads _ img).trans ((State.bootLaws_loads _).trans
    ((State.bootTally_loads _ img).trans ((State.bootUnits_loads _).trans hseed))))

theorem State.bootUnitsLoaded_running {s : State} {img : Image} {fw : List FwImage} (h : s.firmwareGood fw = true) :
    ∀ c, c < 4 → ((s.bootUnitsLoaded img fw).core c).st = .running := by
  have hseed : Loads (s.withImage img).seeded (s.withImage img) := Loads.of_eq
  refine State.bootCores_running (s := s) ?_ h
  exact ((State.bootIcu_loads _ img).trans ((State.bootLaws_loads _).trans
    ((State.bootTally_loads _ img).trans ((State.bootUnits_loads _).trans hseed)))).test.trans rfl

theorem State.bootSegment_frame (s : State) : s.bootSegment = { s with segment := s.bootSegment.segment } := by
  unfold State.bootSegment
  split <;> rfl

/-- An image and a boot store that are accepted, as BOOT_COMPLETE leaves them before the way out of BOOT. -/
def State.booted (s : State) (img : Image) (fw : List FwImage) : State :=
  { s.bootLoad img fw with gov := { (s.bootLoad img fw).gov with booting := false, constSet := true } }

theorem State.booted_spares (s : State) (img : Image) (fw : List FwImage) :
    (s.booted img fw).desc = (s.bootUnitsLoaded img fw).desc ∧ (s.booted img fw).cores = (s.bootUnitsLoaded img fw).cores := by
  have hq := (s.bootUnitsLoaded img fw).bootQuarantine_spares
  have hseg := (s.bootUnitsLoaded img fw).bootQuarantine.bootSegment_frame
  unfold State.booted
  rw [s.bootLoad_eq]
  dsimp only
  rw [hseg]
  exact ⟨by simp only [hq], by simp only [hq]⟩

/-- With no array quarantined and none listed the Governor's registers stay. -/
theorem State.booted_calm {s : State} {img : Image} {fw : List FwImage}
    (h : s.cfg = .core ∨ (s.arrays = [] ∧ (s.withImage img).obj 0x6000 0x0D = 0)) :
    (s.booted img fw).gov = { s.gov with booting := false, constSet := true } ∧
      (s.booted img fw).flag 0x3400 3 = (s.withImage img).flag 0x3400 3 := by
  have hl := s.bootUnitsLoaded_loads img fw
  have hnone : (s.bootUnitsLoaded img fw).bootQuarantine = s.bootUnitsLoaded img fw := by
    refine State.bootQuarantine_none (h.imp (fun hc => hl.cfg.trans hc) fun ha => ⟨hl.arrays.trans ha.1, ?_⟩)
    rw [hl.obj 0x6000 0x0D (by decide) (Or.inr (by decide)), ha.2]
  have hseg := (s.bootUnitsLoaded img fw).bootSegment_frame
  have hgov : (s.bootUnitsLoaded img fw).bootSegment.gov = s.gov := by
    rw [hseg]
    exact hl.gov
  have hobj : (s.bootUnitsLoaded img fw).bootSegment.obj 0x3400 3 = (s.withImage img).obj 0x3400 3 := by
    rw [hseg]
    exact Eq.trans State.obj_same (hl.obj 0x3400 3 (by decide) (Or.inl (by decide)))
  unfold State.booted
  rw [s.bootLoad_eq, hnone, hgov]
  refine ⟨rfl, ?_⟩
  unfold State.flag
  rw [show State.obj ({ (s.bootUnitsLoaded img fw).bootSegment with gov := { s.gov with booting := false, constSet := true } })
    0x3400 3 = (s.bootUnitsLoaded img fw).bootSegment.obj 0x3400 3 from State.obj_same, hobj]

/-- The way out of BOOT with auto-start clear. -/
theorem State.standby_lands {s : State} (hst : s.gov.st = .boot) (h : s.flag 0x3400 3 = false) :
    (s.enter .standby 0xFF).autoStart.gov.st = .standby := by
  have hg := State.enter_plain_gov (s := s) (new := .standby) (why := 0xFF) (by simp [State.wanted, hst]) rfl
  refine (State.autoStart_st (Or.inr ?_)).trans (by rw [hg]; rfl)
  unfold State.flag at h ⊢
  rwa [(s.enter_tells .standby 0xFF).obj 0x3400 3 (by decide) (by decide)]

theorem State.waitTick_spares (s : State) : Spares s.waitTick s := by
  unfold State.waitTick
  exact each_carries (f := fun (s : State) d => s.modDomain d _) (fun t => Spares t s)
    (fun t d ht => Spares.chain (by simp) ht) _ s (Spares.refl s)

theorem State.wantWake_spares (s : State) (d : Nat) : Spares (s.wantWake d) s := by
  unfold State.wantWake
  dsimp only
  split
  · exact Spares.refl s
  · refine (State.waitTick_spares _).chain ?_
    split
    · exact (State.bump_spares _ _ _).chain (by simp)
    · simp

theorem State.waitTick_gov (s : State) : s.waitTick.gov = s.gov := by
  unfold State.waitTick
  exact each_keeps (f := fun (s : State) d => s.modDomain d _) (fun s => s.gov) (fun t d => rfl) _ s

theorem State.wantWake_gov (s : State) (d : Nat) : (s.wantWake d).gov = s.gov := by
  unfold State.wantWake
  dsimp only
  split
  · rfl
  · rw [State.waitTick_gov]
    split <;> rfl

/-- What SEQUENCING up leaves alone: what no transition touches, and the registers of commands and resets. -/
structure Sequences (t s : State) : Prop where
  spares : Spares t s
  owns : Owns t s

theorem Sequences.refl (s : State) : Sequences s s := ⟨Spares.refl s, rfl⟩

theorem Sequences.trans {a b c : State} (h : Sequences a b) (g : Sequences b c) : Sequences a c :=
  ⟨h.spares.chain g.spares, h.owns.trans g.owns⟩

theorem Sequences.ite {c : Prop} [Decidable c] {a b s : State} (ha : Sequences a s) (hb : Sequences b s) :
    Sequences (if c then a else b) s := by split <;> assumption

theorem Sequences.each {α : Type} {f : State → α → State} (h : ∀ s x, Sequences (f s x) s) (l : List α) (s : State) :
    Sequences (each l f s) s :=
  each_carries (fun t => Sequences t s) (fun t x ht => (h t x).trans ht) l s (Sequences.refl s)

theorem State.enter_sequences (s : State) (new : GovState) (why : Nat) : Sequences (s.enter new why) s :=
  ⟨s.enter_spares new why, s.enter_owns new why⟩

theorem State.wantWake_sequences (s : State) (d : Nat) : Sequences (s.wantWake d) s :=
  ⟨s.wantWake_spares d, congrArg Gov.own (s.wantWake_gov d)⟩

/-- A port in no group that becomes UNUSED at the end of SEQUENCING. -/
theorem State.portUnused_sequences (s : State) (t : Nat) : Sequences
    ((s.modTap t (fun p => { p with st := .unused })).record 0x0260 (1 * 2 ^ 56 + t * 2 ^ 40) 0 false) s := by
  have hmod : Sequences (s.modTap t (fun p => { p with st := .unused })) s := ⟨by simp, rfl⟩
  have hrec : ∀ (u : State) (pa : Nat), Sequences (u.record 0x0260 pa 0 false) u := fun u pa =>
    ⟨u.record_spares _ _ _ _, (u.enqueueGroup_rests _ _).owns⟩
  exact (hrec _ _).trans hmod

theorem State.seqCheck_sequences (s : State) : Sequences s.seqCheck s := by
  unfold State.seqCheck
  refine Sequences.ite ?_ (Sequences.refl s)
  dsimp only
  have hports : ∀ (l : List Nat) (u : State), Sequences (each l (fun (s : State) t =>
      (s.modTap t (fun p => { p with st := .unused })).record 0x0260 (1 * 2 ^ 56 + t * 2 ^ 40) 0 false) u) u :=
    fun l u => Sequences.each State.portUnused_sequences l u
  have h0 : Sequences ({ s with gov := { s.gov with phase := .idle } } : State) s := ⟨by simp, rfl⟩
  generalize hA : each _ _ _ = A
  have h : Sequences A s := by
    rw [← hA]
    exact (hports _ _).trans h0
  exact (Sequences.ite (Sequences.ite (State.enter_sequences _ _ _) (State.enter_sequences _ _ _)) (Sequences.refl _)).trans h

theorem State.startDomains_sequences (s : State) : Sequences s.startDomains s := by
  unfold State.startDomains
  refine (State.seqCheck_sequences _).trans ((Sequences.each State.wantWake_sequences _ _).trans ?_)
  exact ⟨by simp, rfl⟩

theorem State.startUp_sequences (s : State) : Sequences s.startUp s := by
  unfold State.startUp
  dsimp only
  split
  · exact ⟨by simp, rfl⟩
  · exact (State.startDomains_sequences _).trans ⟨by simp, rfl⟩

/-- An automatic start. -/
theorem State.autoStart_spares (s : State) : Spares s.autoStart s ∧ s.autoStart.gov.restarts = s.gov.restarts ∧
    s.autoStart.gov.booting = s.gov.booting := by
  unfold State.autoStart
  dsimp only
  have h0 : Spares ({ s with gov := { s.gov with autoTried := true } } : State) s := by simp
  split
  · split
    · have h := (State.startUp_sequences _).trans
        (State.enter_sequences ({ s with gov := { s.gov with autoTried := true } } : State) .sequencing 0xFF)
      exact ⟨h.spares.chain h0, congrArg (fun p => p.2.1) h.owns, congrArg (fun p => p.2.2.1) h.owns⟩
    · exact ⟨h0, rfl, rfl⟩
  · exact ⟨Spares.refl s, rfl, rfl⟩

theorem Spares.desc {t s : State} (h : Spares t s) : t.desc = s.desc := by simp only [h]

theorem Spares.cores {t s : State} (h : Spares t s) : t.cores = s.cores := by simp only [h]

/-- Settles O8: a refused image is a trigger of pin 55; an accepted one is loaded unit by unit and leaves BOOT for STANDBY. -/
theorem bootOutcome : Obligations.BootOutcome := by
  unfold Obligations.BootOutcome
  refine ⟨fun img fw s hst hb hg hbad => ?_, fun img fw s hst hb hg him hfw => ?_, fun img fw s h => if_neg ?_⟩
  case refine_1 =>
    have hrun : exec (.bootComplete img fw) s = .next (s.trigger 55 0 0 0 0) := by
      refine (if_pos (by simpa [hb, hg, or_assoc] using hst)).trans (if_pos ?_)
      simpa using hbad
    refine ⟨_, hrun, fun hgath => State.trigger_pin 0 0 0 (by decide) ?_ hgath hg, ?_, s.trigger_spares _ _ _ _ _⟩
    · simp [State.pinReached, corePinAbsent, hg]
    · exact (congrArg (fun p => p.2.2.1) (s.trigger_owns 55 0 0 0 0)).trans hb
  case refine_2 =>
    have hrun : exec (.bootComplete img fw) s = if (s.booted img fw).gov.st == .boot then
        .next ((s.booted img fw).enter .standby 0xFF).autoStart else .next (s.booted img fw) := by
      refine (if_pos (by simpa [hb, hg, or_assoc] using hst)).trans (if_neg ?_)
      simp [him, hfw]
    obtain ⟨hdesc, hcores⟩ := s.booted_spares img fw
    have hl := (s.bootUnitsLoaded_loads img fw).desc
    have hr := State.bootUnitsLoaded_running (img := img) hfw
    have hcore : ∀ {u : State} c, u.cores = (s.booted img fw).cores → u.core c = (s.bootUnitsLoaded img fw).core c :=
      fun c h => by
        unfold State.core
        rw [h, hcores]
    split at hrun
    · next hboot =>
      have henter := State.enter_sequences (s.booted img fw) .standby 0xFF
      obtain ⟨hauto, -, hbooting⟩ := ((s.booted img fw).enter .standby 0xFF).autoStart_spares
      have hs := hauto.chain henter.spares
      refine ⟨_, hrun, ?_, hs.desc.trans (hdesc.trans hl), fun c hc => ?_, fun _ hcalm hflag => ?_⟩
      · exact hbooting.trans (congrArg (fun p => p.2.2.1) henter.owns)
      · rw [hcore c hs.cores]
        exact hr c hc
      · refine State.standby_lands (by simpa using hboot) ?_
        rw [(State.booted_calm hcalm).2, hflag]
    · next hboot =>
      refine ⟨_, hrun, rfl, hdesc.trans hl, fun c hc => ?_, fun hst hcalm _ => ?_⟩
      · rw [hcore c rfl]
        exact hr c hc
      · rw [(State.booted_calm hcalm).1] at hboot
        exact absurd hst (by simpa using hboot)
  case refine_3 =>
    rcases h with h | h | ⟨h1, h2, h3⟩ <;> simp [*]


/-! ### Thermal trips and the way out of TRIP -/

/-! #### The cause of a trip -/

/-- Work that takes no Governor out of TRIP leaves the cause of the trip. -/
theorem State.doWork_tripCause {s : State} {w : Work} (h : s.gov.st = .trip) (hw : w.local = true) :
    (s.doWork w).1.gov.tripCause = s.gov.tripCause := by
  cases w with
  | trigger n kind idx cause pa =>
    by_cases hr : s.pinReached n = true
    · by_cases hc : s.tb.gclk = true
      · rw [State.doWork_trigger hr hc]
        split
        · rw [(s.arrive_lands n 0 0 cause pa).1]
        · rw [((s.bump (0x5010 + n) 0x0B).arrive_lands n kind idx cause pa).1]
          rfl
      · rw [State.doWork_trigger_stopped hr (by simpa using hc)]
    · rw [show s.doWork (.trigger n kind idx cause pa) = (s, []) from if_pos (by simp [hr])]
  | events n c =>
    show (if s.pinReached n && c != 0 then _ else _ : State × List Work).1.gov.tripCause = _
    split <;> rfl
  | enter new why =>
    have hnew : new = .trip := by simpa [Work.local] using hw
    rw [show s.doWork (.enter new why) = (s, []) from if_neg (by simp [State.wanted, h, hnew])]

theorem State.work_tripCause (f : Nat) (ws : List Work) (s : State) (h : s.gov.st = .trip)
    (hw : ws.all Work.local = true) : (s.work f ws).gov.tripCause = s.gov.tripCause := by
  induction f generalizing ws s with
  | zero => rfl
  | succ f ih =>
    cases ws with
    | nil => rfl
    | cons w rest =>
      rw [List.all_cons, Bool.and_eq_true] at hw
      obtain ⟨hs, hl⟩ := State.doWork_tripped h hw.1
      exact (ih _ _ (hs.1.1.trans h) (by rw [List.all_append, hl, hw.2]; rfl)).trans (State.doWork_tripCause h hw.1)

/-- A transition to TRIP that a thermal source asks for keeps the cause noted. -/
theorem State.work_enterTrip_cause {s : State} (f : Nat) {ws : List Work} (hst : s.gov.st ≠ .trip) (hoff : s.gov.st ≠ .off)
    (hw : ws.all Work.local = true) : (s.work (f + 1) (.enter .trip 35 :: ws)).gov.tripCause = s.gov.tripCause := by
  have hdo : s.doWork (.enter .trip 35) = s.transit .trip 35 := if_pos (by simp [State.wanted, hst, hoff])
  have hgov := s.transit_gov .trip 35
  have hlocal : (s.transit .trip 35).2.all Work.local = true := rfl
  rw [State.work, hdo, State.work_tripCause f _ _ (by rw [hgov]; rfl) (by rw [List.all_append, hlocal, hw]; rfl), hgov]
  rfl

/-- A trigger of pin 35 at TRIP level, whether or not GCLK runs. -/
theorem State.thermalTrigger_lands {s : State} (c pa : Nat) (hst : s.gov.st ≠ .trip) (hoff : s.gov.st ≠ .off)
    (hg : s.gov.gathered = none) (hl : (s.pin 35).latched = false) (h4 : 4 ≤ s.obj 0x5033 2) :
    (s.trigger 35 0 0 c pa).gov.st = .trip ∧ (s.trigger 35 0 0 c pa).gov.tripLatch = true ∧
      (s.trigger 35 0 0 c pa).gov.tripCause = s.gov.tripCause := by
  have hr : s.pinReached 35 = true := by simp [State.pinReached, corePinAbsent]
  have hland : ∀ (u : State) (ws : List Work), u.gov.st = s.gov.st → u.gov.tripCause = s.gov.tripCause →
      ws.all Work.local = true → (u.work 4999 (.enter .trip 35 :: ws)).gov.st = .trip ∧
        (u.work 4999 (.enter .trip 35 :: ws)).gov.tripLatch = true ∧
        (u.work 4999 (.enter .trip 35 :: ws)).gov.tripCause = s.gov.tripCause := by
    intro u ws hu hcause hws
    obtain ⟨h1, h2, -⟩ := State.work_enterTrip u 35 4998 ws (by rwa [hu]) (by rwa [hu]) hws
    exact ⟨h1, h2, (State.work_enterTrip_cause 4998 (by rwa [hu]) (by rwa [hu]) hws).trans hcause⟩
  by_cases hc : s.tb.gclk = true
  · rw [State.trigger_arrives 0 c pa (by decide) hr hg hc]
    let b := s.bump (0x5010 + 35) 0x0B
    obtain ⟨hgov, -, -, -⟩ := b.arrive_lands 35 0 0 c pa
    have hasks : b.levelWork 35 (b.arriveEff 35) = [.enter .trip 35] := by
      rw [State.arriveEff_bump (by decide) hl]
      unfold State.levelWork
      rw [if_pos h4, if_neg (by simp [b, hst, hoff])]
    have hwork := b.arrive_asks 35 0 0 c pa
    rw [hasks] at hwork
    change (State.work 4999 (b.arrive 35 0 0 c pa).2 (b.arrive 35 0 0 c pa).1).gov.st = .trip ∧
      (State.work 4999 (b.arrive 35 0 0 c pa).2 (b.arrive 35 0 0 c pa).1).gov.tripLatch = true ∧
      (State.work 4999 (b.arrive 35 0 0 c pa).2 (b.arrive 35 0 0 c pa).1).gov.tripCause = _
    rw [hwork]
    exact hland _ _ (by rw [hgov]; rfl) (by rw [hgov]; rfl) (State.arriveEvent_local _ _ _)
  · have htr : s.trigger 35 0 0 c pa = s.work workFuel [.trigger 35 0 0 c pa] := by
      unfold State.trigger
      rw [hg]
    rw [htr, show workFuel = 4999 + 1 from rfl, State.work, State.doWork_trigger_stopped hr (by simpa using hc),
      if_pos (by decide), List.append_nil]
    exact hland _ [] rfl rfl rfl

/-- A comparator assertion outside TRIP and OFF, gov_rst_n high. -/
theorem State.thermalTrip_lands {s : State} (n : Nat) (v : Int) {code : Nat} (hcode : code ≤ 4) (hst : s.gov.st ≠ .trip)
    (hoff : s.gov.st ≠ .off) (hg : s.gov.gathered = none) (hl : (s.pin 35).latched = false) (h4 : 4 ≤ s.obj 0x5033 2) :
    (s.thermalTrip n v [code]).gov.st = .trip ∧ (s.thermalTrip n v [code]).gov.tripLatch = true ∧
      (s.thermalTrip n v [code]).gov.tripCause = code ∧ (s.thermalTrip n v [code]).sensors = s.sensors := by
  let u : State := ({ s with gov := { s.gov with tripCause := lowestCode [code], tripAsked := true } } : State).bump 0x3000 0x11
  have heq : s.thermalTrip n v [code] = u.trigger 35 0 0 (tripCode [code]) (u.thermalPa n v) := by
    refine (if_neg (by simp [hst])).trans ?_
    dsimp only
    rw [if_neg (by simp [hst, hoff])]
  have hobj : u.obj 0x5033 2 = s.obj 0x5033 2 :=
    (State.obj_bump_other _ (by decide) (by decide) (by decide) (by decide)).trans State.obj_same
  have hlow : lowestCode [code] = code := by
    unfold lowestCode
    simpa using hcode
  obtain ⟨h1, h2, h3⟩ := State.thermalTrigger_lands (s := u) (tripCode [code]) (u.thermalPa n v) hst hoff hg hl
    (by rw [hobj]; exact h4)
  have hs := State.trigger_spares u 35 0 0 (tripCode [code]) (u.thermalPa n v)
  rw [heq]
  exact ⟨h1, h2, h3.trans hlow, Spares.sensors hs⟩

/-! #### Programming of the cells -/

theorem State.readBad_sensor (s : State) {n k : Nat} (restart : Bool) (h : k ≠ n) :
    (s.readBad n restart).sensor k = s.sensor k := by
  have hset : ∀ (u : State) (v : Sensor), (u.setSensor n v).sensor k = u.sensor k := fun u v =>
    (tget_tset _ _ _ _ _).trans (if_neg h)
  have hsp : ∀ {t u : State}, Spares t u → t.sensor k = u.sensor k := fun hs => by
    unfold State.sensor
    rw [Spares.sensors hs]
  have hcensus : ∀ u : State, (u.censusRead n false).sensor k = u.sensor k := by
    intro u
    unfold State.censusRead
    dsimp only
    split
    · rfl
    · split
      · unfold State.sensorMissing
        rw [hsp (State.trigger_spares _ _ _ _ _ _), State.sensor_modSensor, if_neg h, hset]
      · rw [hset]
  unfold State.readBad
  extract_lets s1 v third st s2 s3
  have h1 : s1.sensor k = s.sensor k := (hsp (State.dEvent_spares _ _)).trans rfl
  have h2 : s2.sensor k = s.sensor k := (hset _ _).trans h1
  rw [hcensus]
  show (if _ then _ else s2 : State).sensor k = _
  split
  · rw [hsp (State.trigger_spares _ _ _ _ _ _), h2]
  · exact h2

/-- A cell that does not fail after the program operation. -/
theorem State.programCells_sensor (s : State) {failed : List Nat} {n : Nat} (hn : n < 256) (hf : failed.contains n = false) :
    (s.programCells failed).sensor n = { s.sensor n with
      programmed := true, thr := s.obj (kindObj 0) 5 / 16 * 16, hys := s.obj (kindObj 0) 6 / 16 * 16 } := by
  unfold State.programCells
  extract_lets thr hys s1
  have hbad : ∀ l : List Nat, (∀ m ∈ l, n ≠ m) → ∀ u : State,
      (each l (fun (s : State) n => s.readBad n false) u).sensor n = u.sensor n := by
    intro l hl u
    refine each_keeps_of (fun t : State => t.sensor n = u.sensor n) (fun m hm t ht => ?_) u rfl
    rw [t.readBad_sensor false (hl m hm)]
    exact ht
  rw [hbad _ (fun m hm => by
    have hmem := (List.mem_filter.mp hm).1
    rintro rfl
    simp [hmem] at hf)]
  have hset : ∀ (l : List Nat) (u : State), (each l (fun (s : State) k =>
      s.modSensor k (fun v => { v with programmed := true, thr := thr, hys := hys })) u).sensor n =
      if n ∈ l then { u.sensor n with programmed := true, thr := thr, hys := hys } else u.sensor n := by
    intro l
    induction l with
    | nil => exact fun u => rfl
    | cons k l ih =>
      intro u
      rw [each_cons, ih, State.sensor_modSensor]
      by_cases hk : n = k
      · subst hk
        simp
      · simp [hk]
  refine (hset _ s).trans (if_pos ?_)
  simp only [List.mem_filter, List.mem_range]
  exact ⟨hn, by simpa using hf⟩

/-! #### COOLDOWN and the restart -/

theorem State.autoStart_tried {s : State} (h : s.gov.autoTried = true) : s.autoStart = s := if_neg (by simp [h])

theorem Owns.tried {t s : State} (h : Owns t s) : t.gov.autoTried = s.gov.autoTried :=
  congrArg (fun p => p.2.2.2.2.2.2.2) h

theorem Owns.restarts {t s : State} (h : Owns t s) : t.gov.restarts = s.gov.restarts := congrArg (fun p => p.2.1) h

/-- The way from COOLDOWN to STANDBY with the first STANDBY past. -/
theorem State.cooldown_standby {s : State} (hst : s.gov.st = .cooldown) (h : s.gov.autoTried = true) :
    (s.enter .standby 0xFF).autoStart.gov.st = .standby ∧ (s.enter .standby 0xFF).autoStart.gov.tripLatch = false := by
  have hg := State.enter_plain_gov (s := s) (new := .standby) (why := 0xFF) (by simp [State.wanted, hst]) rfl
  rw [State.autoStart_tried ((s.enter_owns .standby 0xFF).tried.trans h), hg]
  refine ⟨rfl, ?_⟩
  show (if s.gov.st == .cooldown && GovState.standby != .boot then false else s.gov.tripLatch) = false
  rw [if_pos (by simp [hst])]

/-- SEQUENCING up with a rail to sequence. -/
theorem State.startUp_some {s : State} {p : Nat} (h : s.nextPosition none = some p) :
    s.startUp.gov = { s.gov with seqDown := false, phase := .supply, seqStart := s.tb.now, seqPos := p } := by
  have hup : ∀ u : State, u.nextPosition none = some p → (match u.nextPosition none with
      | some p => { u with gov := { u.gov with seqPos := p } }
      | none => u.startDomains).gov = { u.gov with seqPos := p } := fun u hu => by rw [hu]
  exact hup _ (((State.positions_congr (s := s) rfl rfl fun r => State.obj_same).2 none).trans h)

/-- The restart after the hold: recorded where the last hour admits one, else STANDBY. -/
theorem State.restart_allowed {s : State} (h : s.recentRestarts.length < s.obj 0x3000 0x0C) (hst : s.gov.st = .cooldown) :
    s.restart.tb.now = s.tb.now ∧ s.restart.gov.restarts = (s.tb.now :: s.gov.restarts).take 3 ∧
      ∀ p, s.nextPosition none = some p → s.restart.gov.st = .sequencing ∧ s.restart.gov.phase = .supply ∧
        s.restart.gov.seqPos = p ∧ s.restart.gov.tripLatch = false := by
  let u : State := { s with gov := { s.gov with restarts := (s.tb.now :: s.gov.restarts).take 3 } }
  let v := u.record 0x0230 u.recentRestarts.length u.gov.tripCause true
  have heq : s.restart = (v.enter .sequencing 0xFF).startUp := if_pos h
  have hv : Noted v u := State.enqueueGroup_noted _ _ _
  have hvg : v.gov = u.gov := by rw [hv]
  have hvt : v.tb = s.tb := by rw [hv]
  have hgov := State.enter_plain_gov (s := v) (new := .sequencing) (why := 0xFF)
    (by unfold State.wanted; rw [hvg]; simp [u, hst]) rfl
  have hseq := (v.enter .sequencing 0xFF).startUp_sequences.trans (v.enter_sequences .sequencing 0xFF)
  rw [heq]
  refine ⟨?_, ?_, fun p hp => ?_⟩
  · exact (Spares.now hseq.spares).trans (by rw [hvt])
  · exact hseq.owns.restarts.trans (by rw [hvg])
  · have hcongr : (v.enter .sequencing 0xFF).nextPosition none = some p := by
      have hs := v.enter_spares .sequencing 0xFF
      have ht := (v.enter_tells .sequencing 0xFF).trans (u.record_tells _ _ _ _)
      refine ((State.positions_congr (s := s) ?_ ?_ fun r => ?_).2 none).trans hp
      · rw [show (v.enter .sequencing 0xFF).cfg = v.cfg by simp only [hs], hv]
      · rw [hs.desc, hv]
      · refine ((ht.obj _ _ (by decide) ?_).trans State.obj_same)
        simp [told]
    rw [State.startUp_some hcongr, hgov, hvg]
    refine ⟨rfl, rfl, rfl, ?_⟩
    show (if s.gov.st == .cooldown && GovState.sequencing != .boot then false else s.gov.tripLatch) = false
    rw [if_pos (by simp [hst])]

theorem State.restart_spent {s : State} (h : ¬ s.recentRestarts.length < s.obj 0x3000 0x0C) :
    s.restart = (s.enter .standby 0xFF).autoStart := if_neg h

/-- A comparator that asserts while gov_rst_n is low. -/
theorem State.tripInReset_frame (s : State) (n : Nat) (v : Int) (code : Nat) : ∃ h : HeldTrigger, h.pin = 35 ∧ h.kind = 0 ∧
    (s.tripInReset n v code).gov =
      { s.gov with tripLatch := true, tripCause := code, heldTriggers := s.gov.heldTriggers ++ [h] } ∧
    s.tripInReset n v code = { s with od := (s.tripInReset n v code).od, gov := (s.tripInReset n v code).gov } := by
  unfold State.tripInReset
  dsimp only
  split <;> exact ⟨_, rfl, rfl, rfl, rfl⟩

/-- Settles O13: the trips by their latch and cause, each way out of TRIP and COOLDOWN by its conditions. -/
theorem thermalShutdown : Obligations.ThermalShutdown := by
  unfold Obligations.ThermalShutdown
  refine ⟨fun n s hn hoff hlow => ?_, fun n s hn hoff hst hlow hg hl h4 _ => ?_, fun retried failed n s hg hn hf => ?_,
    fun s hst hat => ?_, fun s h => if_neg ?_, fun s hst hscan hboot hcause hcool htried => ?_,
    fun u s hst hscan hboot hcause hcrit => ?_, fun s hst hp hcalm => ?_⟩
  case refine_1 =>
    let w := s.setSensor n { s.sensor n with tripped := true }
    have hrun : exec (.oxsTTrip n) s = .next (w.tripInReset n (s.sensor n).reading (if (s.sensor n).programmed then 1 else 2)) :=
      (if_neg (by simp [hoff]; omega)).trans (if_pos hlow)
    have hw : (w.sensor n).tripped = true := congrArg Sensor.tripped (tget_tset_same _ _ _ _)
    obtain ⟨h, h1, h2, hgov, hframe⟩ :=
      w.tripInReset_frame n (s.sensor n).reading (if (s.sensor n).programmed then 1 else 2)
    generalize w.tripInReset n (s.sensor n).reading (if (s.sensor n).programmed then 1 else 2) = t at hrun hgov hframe
    have hsens : t.sensors = w.sensors := by rw [hframe]
    refine ⟨t, hrun, ?_, ?_, ?_, ⟨h, h1, h2, ?_⟩, ?_⟩
    · unfold State.sensor
      rw [hsens]
      exact hw
    · rw [hgov]
    · rw [hgov]
    · rw [hgov]
      rfl
    · rw [hframe, hgov]
      rfl
  case refine_2 =>
    let w := s.setSensor n { s.sensor n with tripped := true }
    have hrun : exec (.oxsTTrip n) s = .next (w.thermalTrip n (s.sensor n).reading [if (s.sensor n).programmed then 1 else 2]) :=
      (if_neg (by simp [hoff]; omega)).trans (if_neg (by simp [hlow]))
    have hw : (w.sensor n).tripped = true := congrArg Sensor.tripped (tget_tset_same _ _ _ _)
    obtain ⟨h1, h2, h3, h5⟩ := State.thermalTrip_lands (s := w) n (s.sensor n).reading
      (code := if (s.sensor n).programmed then 1 else 2) (by split <;> decide) hst hoff hg hl
      (by rw [show w.obj 0x5033 2 = s.obj 0x5033 2 from State.obj_same]; exact h4)
    refine ⟨_, hrun, ?_, h1, h2, h3⟩
    exact (congrArg (fun l => (tget l n {}).tripped) h5).trans hw
  case refine_3 =>
    have hrun : exec (.oxsTProgram retried failed) s =
      .next (each (retried.filter (fun n => n < 256)) (fun s _ => s.transient 43) (s.programCells failed)) := if_pos hg
    have hsame : (each (retried.filter (fun n => n < 256)) (fun s _ => s.transient 43) (s.programCells failed)).sensor n =
        (s.programCells failed).sensor n := by
      refine each_keeps (f := fun (s : State) (_ : Nat) => s.transient 43) (fun t => t.sensor n) (fun t _ => ?_) _ _
      unfold State.transient
      split <;> rfl
    refine ⟨_, hrun, ?_⟩
    rw [hsame, s.programCells_sensor hn hf]
    exact ⟨rfl, rfl, rfl, rfl⟩
  case refine_4 =>
    have hg := State.enter_plain_gov (s := s) (new := .cooldown) (why := 0xFF) (by simp [State.wanted, hst]) rfl
    refine ⟨_, if_pos (by simp [hst, hat]), ?_, ?_, ?_, s.enter_spares _ _⟩ <;> rw [hg]
    · rfl
    · rfl
    · show (if s.gov.st == .cooldown && GovState.cooldown != .boot then false else s.gov.tripLatch) = _
      rw [if_neg (by simp [hst])]
  case refine_5 =>
    rcases h with h | h
    · simp [h]
    · simp
      omega
  case refine_6 =>
    obtain ⟨h1, h2⟩ := State.cooldown_standby hst htried
    have hrun : exec .restartHoldComplete s = .next (s.enter .standby 0xFF).autoStart :=
      (if_pos (by simp [hst, hscan, hboot])).trans ((if_pos hcause).trans (if_pos hcool))
    exact ⟨_, hrun, h1, h2, (State.autoStart_spares _).1.chain (s.enter_spares _ _)⟩
  case refine_7 =>
    let w := s.atTime (u + s.cyc 0x3000 0x0B)
    have hrun : exec .restartHoldComplete s = .next w.restart := by
      refine (if_pos (by simp [hst, hscan, hboot])).trans ((if_neg hcause).trans ?_)
      rw [hcrit]
    have hcount : w.obj 0x3000 0x0C = s.obj 0x3000 0x0C := s.obj_atTime _ _ _
    refine ⟨_, hrun, ?_⟩
    by_cases hroom : w.recentRestarts.length < s.obj 0x3000 0x0C
    · obtain ⟨h1, h2, h3⟩ := State.restart_allowed (s := w) (by rw [hcount]; exact hroom) hst
      rw [if_pos hroom]
      refine ⟨h1, ?_, fun p hp => h3 p ?_⟩
      · rw [h2, h1]
        rfl
      · exact ((State.positions_congr (t := w) (s := s) rfl rfl fun r => s.obj_atTime _ _ _).2 none).trans hp
    · rw [if_neg hroom, State.restart_spent (s := w) (by rw [hcount]; exact hroom)]
      have hs := State.autoStart_spares (w.enter .standby 0xFF)
      refine ⟨(Spares.now (hs.1.chain (w.enter_spares _ _))).trans rfl,
        hs.2.1.trans (w.enter_owns .standby 0xFF).restarts, fun ht => State.cooldown_standby (s := w) hst ht⟩
  case refine_8 =>
    let v := s.atTime (s.gov.entered + 600 * 1008000000)
    let u : State := { v with gov := { v.gov with prolonged := true } }
    have hrun : exec .cooldownProlonged s = .next (u.trigger 42 0 0 0 (v.thermalPa v.thermal.hotSensor v.thermal.hotValue)) :=
      if_pos (by simp [hst, hp])
    have hu : u.calm 42 := State.calm_of hcalm
      (Eq.trans (State.obj_same (s := v)) (s.obj_atTime (s.gov.entered + 600 * 1008000000) _ _))
    obtain ⟨hn, hlatched⟩ := u.trigger_calm 42 0 0 0 (v.thermalPa v.thermal.hotSensor v.thermal.hotValue) hu
    generalize u.trigger 42 0 0 0 (v.thermalPa v.thermal.hotSensor v.thermal.hotValue) = t at hrun hn hlatched
    have hreach := hlatched (State.pinReached_running hu.1 (by decide) rfl)
    unfold Noted at hn ⊢
    refine ⟨t, hrun, by rw [hn]; rfl, hreach, ?_, by rw [hn]; rfl⟩
    rw [hn]
    rfl


/-! ### Cores: restart, activation and probation

Interrupts and mailbox slots follow an epoch: of what a restart changes, nothing else leaves its core. -/

/-! #### Interrupts and slots of an epoch -/

/-- A step of the interrupt controller and of mailbox slots, and of what they count. -/
structure Sweeps (t s : State) : Prop where
  frame : t = { s with od := t.od, icu := t.icu, channels := t.channels }
  obj : ∀ i j, j < 256 → 0x5000 ≤ i → i < 0x7480 → t.obj i j = s.obj i j

theorem Sweeps.refl (s : State) : Sweeps s s := ⟨rfl, fun _ _ _ _ _ => rfl⟩

theorem Sweeps.trans {a b c : State} (h : Sweeps a b) (g : Sweeps b c) : Sweeps a c := by
  refine ⟨?_, fun i j hj hi hlt => (h.obj i j hj hi hlt).trans (g.obj i j hj hi hlt)⟩
  rw [h.frame, g.frame]

theorem Sweeps.each {α : Type} {f : State → α → State} (h : ∀ s x, Sweeps (f s x) s) (l : List α) (s : State) :
    Sweeps (each l f s) s :=
  each_carries (fun t => Sweeps t s) (fun t x ht => (h t x).trans ht) l s (Sweeps.refl s)

theorem Sweeps.bumpBy (s : State) {a b : Nat} (n : Nat) (ha : 0x7480 ≤ a) (hb : b < 256) : Sweeps (s.bumpBy a b n) s :=
  ⟨rfl, fun _ _ hj hi hlt => s.obj_bumpBy_other n hi hj hb (Or.inl (by omega))⟩

theorem Sweeps.icu (s : State) (i : Icu) : Sweeps { s with icu := i } s := ⟨rfl, fun _ _ _ _ _ => State.obj_same⟩

theorem Sweeps.setChannel (s : State) (c : Nat) (v : Channel) : Sweeps (s.setChannel c v) s :=
  ⟨rfl, fun _ _ _ _ _ => State.obj_same⟩

theorem State.setPending_sweeps (s : State) (n : Nat) : Sweeps (s.setPending n) s := by
  unfold State.setPending
  split <;> exact Sweeps.icu s _

theorem State.completeSource_sweeps (s : State) (n : Nat) : Sweeps (s.completeSource n) s := by
  have h := Sweeps.icu s { s.icu with active := tset s.icu.active n none }
  unfold State.completeSource
  dsimp only
  split
  · exact (State.setPending_sweeps _ n).trans ((Sweeps.bumpBy _ 1 (by decide) (by decide)).trans h)
  · exact h

theorem State.completeTarget_sweeps (s : State) (t : Nat) : Sweeps (s.completeTarget t) s :=
  Sweeps.each State.completeSource_sweeps _ s

theorem State.waitFor_sweeps (s : State) (t : Nat) : Sweeps (s.waitFor t) s := by
  refine Sweeps.each (f := fun (s : State) n => if (tget s.icu.waitSince n none).isSome then s
    else { s with icu := { s.icu with waitSince := tset s.icu.waitSince n (some s.tb.now) } }) (fun u n => ?_) _ s
  split
  · exact Sweeps.refl u
  · exact Sweeps.icu u _

theorem State.staleChannel_sweeps (s : State) (c : Nat) : Sweeps (s.staleChannel c) s :=
  (Sweeps.bumpBy _ _ (by omega) (by decide)).trans ((Sweeps.bumpBy _ _ (by omega) (by decide)).trans (Sweeps.setChannel s c _))

theorem State.orphanChannel_sweeps (s : State) (c : Nat) : Sweeps (s.orphanChannel c) s :=
  (Sweeps.bumpBy _ _ (by omega) (by decide)).trans (Sweeps.setChannel s c _)

theorem State.epochChange_sweeps (s : State) (a : Nat) :
    Sweeps (s.epochChange a) { s with epochs := tset s.epochs a ((s.epoch a + 1) % 2 ^ 16) } :=
  (Sweeps.each State.orphanChannel_sweeps _ _).trans (Sweeps.each State.staleChannel_sweeps _ _)

/-! #### A restart -/

/-- The core halted: what `beginRestart` does to it. -/
def Core.halted (v : Core) (now : Nat) : Core := { v with st := .restarting, trapAt := now, compFaults := [] }

/-- Of a restart: the core is halted with a new epoch, and no other unit but the interrupts and the mailboxes follows. -/
structure Restarts (t s : State) (c : Nat) : Prop where
  cores : t.cores = tset s.cores c ((s.core c).halted s.tb.now)
  epochs : t.epochs = tset s.epochs c ((s.epoch c + 1) % 2 ^ 16)
  frame : t = { s with
    od := t.od
    icu := t.icu
    channels := t.channels
    cores := t.cores
    epochs := t.epochs
    muriri := t.muriri
    replies := t.replies }
  obj : ∀ i j, j < 256 → 0x5000 ≤ i → i < 0x7480 → t.obj i j = s.obj i j

theorem State.beginRestart_restarts (s : State) (c : Nat) : Restarts (s.beginRestart c) s c := by
  let u : State := { s with
    cores := tset s.cores c ((s.core c).halted s.tb.now), epochs := tset s.epochs c ((s.epoch c + 1) % 2 ^ 16) }
  have h : Sweeps (((s.modCore c (fun v => v.halted s.tb.now)).epochChange c).completeTarget c |>.waitFor c) u :=
    (State.waitFor_sweeps _ c).trans ((State.completeTarget_sweeps _ c).trans (State.epochChange_sweeps _ c))
  have he : s.beginRestart c =
      if c = 3 then (((s.modCore c (fun v => v.halted s.tb.now)).epochChange c).completeTarget c |>.waitFor c).comDown
      else (((s.modCore c (fun v => v.halted s.tb.now)).epochChange c).completeTarget c |>.waitFor c) := rfl
  rw [he]
  generalize (((s.modCore c (fun v => v.halted s.tb.now)).epochChange c).completeTarget c |>.waitFor c) = t at h
  have hcores : t.cores = u.cores := by rw [h.frame]
  have hepochs : t.epochs = u.epochs := by rw [h.frame]
  have hobj : ∀ i j, j < 256 → 0x5000 ≤ i → i < 0x7480 → t.obj i j = s.obj i j := fun i j hj hi hlt =>
    (h.obj i j hj hi hlt).trans State.obj_same
  have hframe := h.frame
  split
  · refine ⟨hcores, hepochs, ?_, fun i j hj hi hlt => Eq.trans State.obj_same (hobj i j hj hi hlt)⟩
    unfold State.comDown
    rw [hframe]
  · refine ⟨hcores, hepochs, ?_, hobj⟩
    rw [hframe]

theorem Restarts.core {t s : State} {c : Nat} (h : Restarts t s c) : t.core c = (s.core c).halted s.tb.now := by
  unfold State.core
  rw [h.cores]
  exact tget_tset_same _ _ _ _

theorem Restarts.epoch {t s : State} {c : Nat} (h : Restarts t s c) : t.epoch c = (s.epoch c + 1) % 2 ^ 16 := by
  unfold State.epoch
  rw [h.epochs]
  exact tget_tset_same _ _ _ _

/-- An update rolled back: the banks of its target exchanged, the status given and counted. -/
def State.rolled (s : State) : State :=
  { s.modCore s.update.target Core.swap with update := { s.update with status := 0x00070001, restarting := false } }

theorem State.rollBack_spares (s : State) : Spares s.rollBack s.rolled :=
  Spares.chain (State.trigger_spares _ _ _ _ _ _) (State.bump_spares _ _ _)

theorem State.rollBack_counts (s : State) : s.rollBack.obj 0x7420 8 = min (s.obj 0x7420 8 + 1) 0xFFFFFFFF :=
  ((State.trigger_tells _ _ _ _ _ _).obj 0x7420 8 (by decide) (by decide)).trans
    ((s.rolled.obj_bump_same _ _).trans (congrArg (fun n => min (n + 1) 0xFFFFFFFF) State.obj_same))

/-! #### The statements -/

theorem State.holdCore_held (s : State) (c : Nat) :
    (s.holdCore c).cores = (s.modCore c (fun v => { v with st := .held })).cores ∧
    Spares (s.holdCore c) (s.modCore c (fun v => { v with st := .held })) := by
  have h := State.trigger_spares (s.modCore c (fun v => { v with st := .held })) 54 0 0 0 0
  refine ⟨?_, h⟩
  obtain ⟨-, -, -, -, -, -, -, -, -, -, -, -, -, -, -, -, -, -, -, -, hcores, -⟩ := h
  exact hcores

/-- COM serves again with nothing waiting for it. -/
theorem State.comUp_drained {s : State} (hq : s.host.queue = []) (hw : s.host.waiting = []) (away : Nat) :
    (s.comUp away).g3Drain = { s with muriri := (s.comUp away).muriri, host := (s.comUp away).host } := by
  unfold State.g3Drain
  dsimp only
  rw [show (s.comUp away).host.queue = [] from hq, show (s.comUp away).host.waiting = [] from hw]
  simp [State.comUp, hq, hw]

/-- The core has started again: it runs, its target is awake, and COM serves again. -/
def State.restarted (s : State) (c : Nat) : State :=
  let w := (s.setCore c { s.core c with st := .running, lastRestart := nsOf (s.tb.now - (s.core c).trapAt) }).wakeTarget c
  if c = 3 then (w.comUp (w.tb.now - (s.core c).trapAt)).g3Drain else w

/-- The probation of a restart for an update begins. -/
def State.probation (s : State) : State :=
  { s with update := { s.update with status := 4, restarting := false, probEnd := s.tb.now + s.cyc 0x7420 6 } }

theorem State.restarted_frame {s : State} {c : Nat} (hcom : c = 3 → s.host.queue = [] ∧ s.host.waiting = []) :
    s.restarted c = { s with
      cores := tset s.cores c { s.core c with st := .running, lastRestart := nsOf (s.tb.now - (s.core c).trapAt) }
      icu := (s.restarted c).icu
      muriri := (s.restarted c).muriri
      host := (s.restarted c).host } := by
  unfold State.restarted
  have hw := State.wakeTarget_icu
    (s.setCore c { s.core c with st := .running, lastRestart := nsOf (s.tb.now - (s.core c).trapAt) }) c
  generalize (s.setCore c { s.core c with
    st := .running, lastRestart := nsOf (s.tb.now - (s.core c).trapAt) }).wakeTarget c = w at hw ⊢
  dsimp only
  have hhost : w.host = s.host := by
    rw [hw]
    rfl
  split
  · next h3 =>
    rw [State.comUp_drained (hhost ▸ (hcom h3).1) (hhost ▸ (hcom h3).2)]
    dsimp only
    rw [hw]
    rfl
  · rw [hw]
    rfl

theorem exec_coreRestartComplete {s : State} {c : Nat} (hc : c < 4) (hst : (s.core c).st = .restarting) :
    exec (.coreRestartComplete c) s = .next (if (s.restarted c).update.restarting && (s.restarted c).update.target == c then
      (s.restarted c).probation else s.restarted c) := by
  show execCoreRestartComplete c s = _
  unfold execCoreRestartComplete
  dsimp only
  rw [if_pos (by simp [hc, hst])]
  rfl

/-- The banks of the update's target exchanged for its restart. -/
def State.exchanged (s : State) : State :=
  { (s.modCore s.update.target Core.swap).bump (0x7410 + s.update.target) 4 with
    update := { s.update with restarting := true, restartEnd := s.tb.now + cycles 2000000 } }

theorem Restarts.banks {t u s : State} {c : Nat} (h : Restarts t u c) (hu : u.cores = (s.modCore c Core.swap).cores) :
    t.core c = ((s.core c).swap).halted u.tb.now := by
  have hc : u.core c = (s.core c).swap := by
    unfold State.core
    rw [hu]
    exact tget_tset_same _ _ _ _
  rw [h.core, hc]

theorem Spares.of_cores {t u s : State} {k : Tbl Core} (h : Spares t { u with cores := k }) (g : Spares u s) :
    Spares t { s with cores := t.cores } := by
  simp only [Spares, g] at h ⊢
  simp only [h, and_self]

/-- Settles O49: each restart is `beginRestart` or its end, whose frames say what else moves. -/
theorem coreRestarts : Obligations.CoreRestarts := by
  unfold Obligations.CoreRestarts
  refine ⟨fun c m s hc hst hok => ?_, fun c m s hc hst hbad => ?_, fun c s hc hst hcom => ?_, fun s hg h3 hr hf => ?_,
    fun s hr => ?_, fun s h4 => ?_, fun c m s hst => ⟨if_neg (by simp [hst]), if_neg ?_⟩, fun s h => if_neg (by simp [h]),
    fun s h => if_neg (by simp [h]), fun s h => if_neg (by simp [h])⟩
  case refine_1 =>
    have hrun : exec (.bankReloadComplete c m) s = _ := (if_pos (by simp [hc, hst])).trans (if_neg (by simp [hok]))
    have hcore := (State.core_setCore s c c { s.core c with
      banks := tset (s.core c).banks (s.core c).active { release := imageRelease m } }).trans (if_pos rfl)
    refine ⟨_, hrun, ?_⟩
    split
    · exact ⟨(congrArg Core.st hcore).trans hst, congrArg Core.banks hcore, rfl⟩
    · exact ⟨(congrArg Core.st hcore).trans hst, congrArg Core.banks hcore, rfl⟩
  case refine_2 =>
    have hrun : exec (.bankReloadComplete c m) s = .next ((s.trigger 55 0 0 0 0).holdCore c) :=
      (if_pos (by simp [hc, hst])).trans (if_pos (by simp [hbad]))
    obtain ⟨hcores, hs⟩ := (s.trigger 55 0 0 0 0).holdCore_held c
    refine ⟨_, hrun, ?_, ?_⟩
    · unfold State.core
      rw [hcores]
      exact congrArg Core.st (tget_tset_same _ _ _ _)
    · exact Spares.of_cores hs (s.trigger_spares 55 0 0 0 0)
  case refine_3 =>
    have hframe := State.restarted_frame hcom
    have hrun := exec_coreRestartComplete hc hst
    generalize s.restarted c = w at hframe hrun
    have hupd : w.update = s.update := by rw [hframe]
    have hcores : w.cores =
        tset s.cores c { s.core c with st := .running, lastRestart := nsOf (s.tb.now - (s.core c).trapAt) } := by rw [hframe]
    refine ⟨_, hrun, ?_, fun hr ht => ?_, fun hr => ?_, ?_⟩
    · have hcore : w.core c =
          { s.core c with st := .running, lastRestart := nsOf (s.tb.now - (s.core c).trapAt) } := by
        unfold State.core
        rw [hcores]
        exact tget_tset_same _ _ _ _
      split <;> exact hcore
    · have htb : w.tb = s.tb := by rw [hframe]
      have hcyc : w.cyc 0x7420 6 = s.cyc 0x7420 6 :=
        congrArg cycles (State.obj_congr (by rw [hframe]) (by rw [hframe]) _ _)
      rw [if_pos (by simp [hupd, hr, ht])]
      unfold State.probation
      rw [hupd, htb, hcyc]
    · rw [if_neg (by simp [hupd, hr]), hupd]
    · unfold State.probation
      split <;> rw [hframe]
  case refine_4 =>
    have hrun : exec .updateActivation s = .next (s.exchanged.beginRestart s.update.target) :=
      if_pos (by simp [hg, h3, hr, hf])
    have h := s.exchanged.beginRestart_restarts s.update.target
    generalize s.exchanged.beginRestart s.update.target = t at hrun h
    have hcore := h.banks (s := s) rfl
    refine ⟨t, hrun, by rw [hcore]; rfl, by rw [hcore]; rfl, by rw [hcore]; rfl, ?_, h.epoch, ?_⟩ <;> rw [h.frame] <;> rfl
  case refine_5 =>
    let w := s.atTime s.update.restartEnd
    have hrun : exec .updateRestartTimeout s =
      .next ((w.rollBack.bump (0x7410 + s.update.target) 4).beginRestart s.update.target) := if_pos hr
    have hs : Spares (w.rollBack.bump (0x7410 + s.update.target) 4) w.rolled :=
      Spares.chain (State.bump_spares _ _ _) w.rollBack_spares
    have hobj : (w.rollBack.bump (0x7410 + s.update.target) 4).obj 0x7420 8 = min (s.obj 0x7420 8 + 1) 0xFFFFFFFF :=
      (w.rollBack.obj_bump_other (i := 0x7420) (j := 8) (a := 0x7410 + s.update.target) (b := 4) (by decide) (by decide)
        (by decide) (Or.inr (by decide))).trans (w.rollBack_counts.trans
        (congrArg (fun n => min (n + 1) 0xFFFFFFFF) (s.obj_atTime s.update.restartEnd 0x7420 8)))
    have h := (w.rollBack.bump (0x7410 + s.update.target) 4).beginRestart_restarts s.update.target
    generalize w.rollBack.bump (0x7410 + s.update.target) 4 = u at hrun h hs hobj
    generalize u.beginRestart s.update.target = t at hrun h
    have hcore := h.banks (s := s) hs.cores
    refine ⟨t, hrun, ?_, by rw [hcore]; rfl, by rw [hcore]; rfl, ?_, ?_⟩
    · rw [h.frame]
      exact hs.update
    · rw [h.frame]
      exact hs.now
    · exact (h.obj 0x7420 8 (by decide) (by decide) (by decide)).trans hobj
  case refine_6 =>
    let v := s.atTime s.update.probEnd
    let w : State := { v with update := { v.update with status := 5 } }
    have hobj : w.obj 0x7420 7 = s.obj 0x7420 7 := Eq.trans (State.obj_same (s := v)) (s.obj_atTime _ _ _)
    exact ⟨w.bump 0x7420 7, if_pos h4, rfl, rfl, (w.obj_bump_same _ _).trans (by rw [hobj]), rfl⟩
  · exact fun h => absurd ((Bool.and_eq_true _ _).mp h).2 (by simp [hst])


/-! ### The object window, and a crash that a forecast counts twice -/

theorem exec_objectWindowClaim {s : State} (h : s.busUp) : exec .objectWindowClaim s =
    .next (if s.window.claimed then s.touch.setWindow { s.window with got := false }
      else s.touch.setWindow { s.window with claimed := true, got := true, usedAt := s.tb.now }) := by
  show execObjectWindowClaim s = _
  unfold execObjectWindowClaim
  rw [State.onBus_up _ _ h]
  rfl

theorem exec_objectWindowRelease (w : W64) {s : State} (h : s.busUp) : exec (.objectWindowRelease w) s =
    .next (if w.getLsbD 0 then s.touch.setWindow { s.window with claimed := false } else s.touch) := by
  show execObjectWindowRelease w s = _
  unfold execObjectWindowRelease
  rw [State.onBus_up _ _ h]
  rfl

theorem exec_objectWindowRead (w : W64) {s : State} (h : s.busUp) :
    exec (.objectWindowRead w) s = .next (s.touch.windowCommand w) := by
  show execObjectWindowRead w s = _
  unfold execObjectWindowRead
  rw [State.onBus_up _ _ h]

theorem exec_objectWindowWrite (w : W64) {s : State} (h : s.busUp) :
    exec (.objectWindowWrite w) s = .next (s.touch.windowCommand w) := by
  show execObjectWindowWrite w s = _
  unfold execObjectWindowWrite
  rw [State.onBus_up _ _ h]

/-- The access that a word to OBJ_CMD starts while the window is claimed, by its operation. -/
theorem State.windowCommand_claimed {s : State} (h : s.window.claimed = true) (w : W64) :
    s.windowCommand w =
      (let v := s.setWindow { s.window with isDone := false, usedAt := s.tb.now }
      match bits w.toNat 63 62 with
      | 1 =>
        let u := v.readObject windowSession (bits w.toNat 55 40) (bits w.toNat 39 32) (bits w.toNat 12 0) 0
        u.windowDone u.answer.code u.answer.data
      | 2 =>
        let u := v.writeObject windowSession (bits w.toNat 55 40) (bits w.toNat 39 32)
          (mreadBytes v.window.data 0 (bits w.toNat 12 0)) 0
        u.windowDone u.answer.code []
      | _ => (v.refuse 0x00030002).windowDone (v.refuse 0x00030002).answer.code []) := by
  unfold State.windowCommand
  dsimp only
  exact if_neg (by simp [h])

theorem State.windowCommand_closed {s : State} (h : s.window.claimed = false) (w : W64) :
    s.windowCommand w = s.bump 0x1402 0x0F := if_pos (by simp [h])

/-- Settles O53: by the branch of each access that its condition takes. -/
theorem objectWindow : Obligations.ObjectWindow := by
  unfold Obligations.ObjectWindow
  refine ⟨fun s hup hc => ?_, fun s hup hc => ?_, fun w s hup => ?_, fun w s u hup hc hop hu => ?_,
    fun w s u hup hc hop hu => ?_, fun w s hup hc => ?_, fun s hg hc => if_pos (by simp [hg, hc]), fun s => rfl,
    fun u s hb => ?_, fun s hc => if_neg (by simp [hc]), fun s hb => ?_⟩
  case refine_1 =>
    rw [exec_objectWindowClaim hup, if_neg (by simp [hc])]
    rfl
  case refine_2 =>
    rw [exec_objectWindowClaim hup, if_pos hc]
    rfl
  case refine_3 =>
    rw [exec_objectWindowRelease w hup]
    cases w.getLsbD 0
    · rw [Bool.not_false, Bool.and_true]
      rfl
    · rw [Bool.not_true, Bool.and_false]
      rfl
  case refine_4 =>
    rw [exec_objectWindowRead w hup, State.windowCommand_claimed (s := s.touch) hc]
    dsimp only
    rw [hop, hu]
    rfl
  case refine_5 =>
    rw [exec_objectWindowWrite w hup, State.windowCommand_claimed (s := s.touch) hc]
    dsimp only
    rw [hop, hu]
    rfl
  case refine_6 =>
    have hclosed := State.windowCommand_closed (s := s.touch) hc w
    exact ⟨_, (exec_objectWindowRead w hup).trans (congrArg _ hclosed),
      (exec_objectWindowWrite w hup).trans (congrArg _ hclosed), s.obj_touch_bump _ _, rfl⟩
  case refine_7 =>
    show execAuthBlockExpiry s = _
    unfold execAuthBlockExpiry
    rw [hb]
    rfl
  case refine_8 =>
    show execAuthBlockExpiry s = _
    unfold execAuthBlockExpiry
    rw [hb]

/-! #### A crash in a state whose fits name no rail -/

/-- A Governor in RUN whose first core runs; pin 54, of crashes, stands at TRIP level; among the fits that wait in the Tally is
one of a rail 0x4800, of which there is none: its counter 0x2C10+r:04 is the crash counter 0x7410:04. -/
def strayFit : State :=
  ({ State.reset with
    tb := { State.reset.tb with gclk := true }
    gov := { State.reset.gov with st := .run }
    tally := { State.reset.tally with fits := [.close 0x4800 0 0 0 0] }
    cores := [(0, { st := .running })] } : State).setObj (0x5010 + 54) 2 4

/-- An object of the state that an outcome leads to. -/
def outcomeObj (o : Host.Outcome State Fault Refusal) (idx sub : Nat) : Option Nat :=
  match o with
  | .next t => some (t.obj idx sub)
  | _ => none

/-- The trip drops the fit and counts it: the crash counter advances by two. -/
theorem strayFit_counts : strayFit.obj 0x7410 4 = 0 ∧
    outcomeObj (exec (.watchdogExpiry 0 { mepc := 0, bytes := [] }) strayFit) 0x7410 4 = some 2 := by decide +kernel

/-- Refutes O48: the count of crashes is claimed of every state; in `strayFit` the trip of pin 54 drops a fit whose counter
is the crash counter of the core. -/
theorem not_coreCrashes : ¬ Obligations.CoreCrashes := by
  unfold Obligations.CoreCrashes
  rintro ⟨-, h, -⟩
  obtain ⟨t, ht, -, -, -, -, hobj, -⟩ := h 0 0 { mepc := 0, bytes := [] } strayFit (by decide) rfl
  obtain ⟨hzero, htwo⟩ := strayFit_counts
  rw [ht] at htwo
  have hcount : t.obj 0x7410 4 = 2 := Option.some.inj htwo
  rw [hcount, hzero] at hobj
  exact absurd hobj (by decide)


/-! ### Writes of the emulated G3 block, and its timeouts (14 R355, 18 R430, R433) -/

/-! #### A write served at once -/

/-- An emulated write that is admitted is not refused. -/
theorem State.g3Put_effect {s u : State} {i j v : Nat} (h : s.admits emulSession i j v = true)
    (he : ∀ bs, s.writeEffect emulSession i j v bs = (u, 0)) : s.g3Put i j v = u.wrote := by
  unfold State.g3Put
  dsimp only
  rw [State.writeObject_effect h he]
  rfl

/-- An emulated write of an object with no effect of its own. -/
theorem State.g3Put_stores {s : State} {i j v : Nat} (h : s.admits emulSession i j v = true)
    (he : ∀ bs, s.writeEffect emulSession i j v bs = (s.setObj i j v, 0)) (hj : j < 256) (hne : i ≠ 0x1402) :
    (s.g3Put i j v).obj i j = v ∧ Answered (s.g3Put i j v) s := by
  rw [State.g3Put_effect h he]
  exact ⟨(State.obj_wrote _ hj (Or.inl hne)).trans (s.obj_setObj_same i j v), rfl⟩

theorem State.emulBase_answered (s : State) : Answered s.emulBase s.touch := rfl

theorem State.obj_emulBase (s : State) {i j : Nat} (hj : j < 256) (h : i ≠ 0x7400 ∨ j ≠ 7) :
    s.emulBase.obj i j = s.obj i j := s.touch.obj_setObj_other _ hj (by decide) (by decide) h

/-- A register written through the port while COM serves at once. -/
theorem exec_g3Write_now {s : State} (o : Nat) (w : W64) (h : s.emulNow) :
    s.g3Write o w = .next (s.emulBase.g3Apply o (w.toNat % 2 ^ 32)) := by
  unfold State.g3Write
  rw [State.onBus_up _ _ h.1, State.g3Access_now _ _ _ h]
  rfl

theorem writeEffect_powerTarget {r : Nat} (hr : r < 8) (s : State) (v : Nat) (bs : List Byte) :
    s.writeEffect emulSession (powerLaw r) 0x0A v bs = (s.setObj (powerLaw r) 0x0A v, 0) := by
  have hlaw : 0x4109 ≤ powerLaw r ∧ powerLaw r ≤ 0x4125 := by
    unfold powerLaw
    omega
  unfold State.writeEffect State.effectLoop
  rw [if_neg (by omega), if_neg (by omega), if_neg (by omega), if_neg (by omega), if_pos (by omega), if_neg (by simp),
    if_neg (by simp; omega), if_neg (by simp)]
  rfl

/-- A rail whose power target is written. -/
theorem State.railsUsed_emulBase (s : State) : s.emulBase.railsUsed = s.railsUsed := by
  unfold State.railsUsed
  rfl

theorem bit_shifted (w : W64) {n : Nat} (hn : n < 32) (h : w.getLsbD n = true) (high : Bool) :
    (BitVec.ofNat 64 (w.toNat % 2 ^ 32 * (if high then 2 ^ 32 else 1))).getLsbD (n + if high then 32 else 0) = true := by
  rw [← bit_lowHalf w hn, bit_eq_testBit] at h
  cases high
  · simp only [Bool.false_eq_true, if_false, Nat.mul_one, Nat.add_zero, BitVec.getLsbD_ofNat, h, Bool.and_true,
      decide_eq_true_eq]
    omega
  · simp only [if_true, BitVec.getLsbD_ofNat, Bool.and_eq_true, decide_eq_true_eq]
    refine ⟨by omega, ?_⟩
    rw [Nat.mul_comm, Nat.testBit_two_pow_mul]
    simpa using h

/-! #### Accesses that wait too long -/

theorem State.g3Refill_full {s : State} (h : s.host.queue.length = 16) : s.g3Refill = s := by
  unfold State.g3Refill
  simp [h]

theorem State.g3Refill_none {s : State} (h : s.host.waiting = []) : s.g3Refill = s := by
  unfold State.g3Refill
  simp only [h, List.take_nil, List.append_nil, List.drop_nil]
  rw [← h]

/-- The state in which an access has come to its limit. -/
def State.g3Late (s : State) (a : G3Access) : State := (s.atTime (a.at_ + 2016)).bump 0x7400 6

theorem State.obj_g3Late (s : State) (a : G3Access) (h : HostIf) :
    ({ s.g3Late a with host := h } : State).obj 0x7400 6 = min (s.obj 0x7400 6 + 1) 0xFFFFFFFF := by
  refine Eq.trans (State.obj_same (s := s.g3Late a)) ((State.obj_bump_same _ _ _).trans ?_)
  rw [State.obj_atTime]

/-! #### The statement -/

theorem State.g3Plimit_refused {s : State} {p : Nat} (h : p = 0 ∨ 13 * s.obj 0x2801 1 < p * 10000) :
    s.g3Plimit p = s.bump 0x7400 8 := by
  unfold State.g3Plimit
  dsimp only
  rw [if_pos (by simpa using h)]
  rfl

theorem State.g3Plimit_one {s : State} {p r : Nat} (hp : p ≠ 0) (ht : p * 10000 ≤ 13 * s.obj 0x2801 1)
    (hr : s.railsUsed = [r]) :
    s.g3Plimit p = s.g3Put (powerLaw r) 0x0A (p * 1000 * s.obj (0x2810 + r) 4 / s.obj 0x2801 1) := by
  unfold State.g3Plimit
  dsimp only
  rw [if_neg (by simp [hp]; omega), hr]
  rfl

/-- A threshold in eighths that its object's type holds. -/
theorem State.g3Scaled_fits {s : State} {j w : Nat} {v : Int} (signed : Bool)
    (h : (if signed then satS w v == v else v == satU w v.toNat) = true) :
    s.g3Scaled 0x3001 j w v signed = s.g3Put 0x3001 j (ofSigned w v) := by
  unfold State.g3Scaled
  dsimp only
  rw [if_pos h]

theorem writeEffect_threshold {j : Nat} (hj : j = 1 ∨ j = 3 ∨ j = 7) (s : State) (v : Nat) (bs : List Byte) :
    s.writeEffect emulSession 0x3001 j v bs = (s.setObj 0x3001 j v, 0) := by
  rcases hj with rfl | rfl | rfl <;> rfl

theorem State.g3Access_off {s : State} (h : s.emulates = false) (o : Nat) (w : W64) :
    s.g3Access true o w = s.bump 0x7400 8 := by
  unfold State.g3Access
  rw [if_pos (by rw [h]; rfl), if_pos rfl]
  rfl

theorem State.g3Apply_clear (s : State) (high : Bool) (w : Nat) :
    s.g3Apply (if high then 0x048 else 0x044) w = s.g3Put 0x5000 1 (w * (if high then 2 ^ 32 else 1)) := by
  have hlow : s.g3Apply 0x044 w = s.g3Put 0x5000 1 w := by simp [State.g3Apply]
  have hhigh : s.g3Apply 0x048 w = s.g3Put 0x5000 1 (w * 2 ^ 32) := by simp [State.g3Apply]
  cases high
  · rw [if_neg (by decide), if_neg (by decide), Nat.mul_one, hlow]
  · rw [if_pos rfl, if_pos rfl, hhigh]

/-- The access that comes to its limit is taken out, and what waits takes the places. -/
def State.g3Dropped (s : State) (a : G3Access) : State :=
  ({ s.g3Late a with host := { s.host with queue := s.host.queue.erase a, waiting := s.host.waiting.erase a } } :
    State).g3Refill

theorem State.g3Expire_eq (s : State) (a : G3Access) : s.g3Expire a = if a.write then s.g3Dropped a
    else { s.g3Dropped a with host := { (s.g3Dropped a).host with read := BitVec.allOnes 64 } } := rfl

/-- The only access that waits, a read, comes to its limit. -/
theorem State.g3Expire_read {s : State} {a : G3Access} (hq : s.host.queue = [a]) (hw : s.host.waiting = [])
    (ha : a.write = false) :
    s.g3Expire a = { s.g3Late a with host := { s.host with queue := [], read := BitVec.allOnes 64 } } := by
  have hdropped : s.g3Dropped a = { s.g3Late a with host := { s.host with queue := [], waiting := [] } } := by
    unfold State.g3Dropped
    rw [State.g3Refill_none (by simp [hw])]
    simp [hq, hw]
  rw [State.g3Expire_eq, if_neg (by simp [ha]), hdropped]
  dsimp only
  rw [← hw]

/-- A write that has found no place in a full queue comes to its limit. -/
theorem State.g3Expire_write {s : State} {a : G3Access} (ha : a.write = true) (hq : s.host.queue.length = 16)
    (hnot : a ∉ s.host.queue) :
    s.g3Expire a = { s.g3Late a with host := { s.host with waiting := s.host.waiting.erase a } } := by
  rw [State.g3Expire_eq, if_pos ha]
  unfold State.g3Dropped
  rw [List.erase_of_not_mem hnot]
  exact State.g3Refill_full hq

/-- Settles O52: each register write is the object write that R430 and R433 give it, under the checks of the engine. -/
theorem g3Accesses : Obligations.G3Accesses := by
  unfold Obligations.G3Accesses
  refine ⟨fun w s h hbad => ?_, fun r w s h hp ht hr hadm hr8 => ?_, fun w s h hfit hadm => ?_, fun w s h hfit hadm => ?_,
    fun w s h hfit hadm => ?_, fun high w s h hadm hheld => ?_, fun a s hq hw ha => ?_, fun a s hw hq ha => ?_,
    fun w s hup hoff => ?_, fun s hn => ?_, fun s hn => ?_⟩
  case refine_1 =>
    have hrun : exec (.g3PlimitWrite w) s = .next (s.emulBase.bump 0x7400 8) :=
      (exec_g3Write_now 0x030 w h).trans (congrArg _ (State.g3Plimit_refused (by
        rw [State.obj_emulBase _ (by decide) (Or.inl (by decide))]
        exact hbad)))
    refine ⟨_, hrun, (s.emulBase.obj_bump_same _ _).trans (by rw [State.emulBase_refusals]), fun r hr => ?_, rfl⟩
    have hlaw : powerLaw r < 0x7400 := by
      unfold powerLaw
      omega
    exact (s.emulBase.obj_setObj_other _ (by decide) (by decide) (by decide) (Or.inl (by omega))).trans
      (s.obj_emulBase (by decide) (Or.inl (by omega)))
  case refine_2 =>
    have h1 : s.emulBase.obj 0x2801 1 = s.obj 0x2801 1 := s.obj_emulBase (by decide) (Or.inl (by decide))
    have h2 : s.emulBase.obj (0x2810 + r) 4 = s.obj (0x2810 + r) 4 := s.obj_emulBase (by decide) (Or.inl (by omega))
    have hrun : exec (.g3PlimitWrite w) s = .next (s.emulBase.g3Put (powerLaw r) 0x0A
        (w.toNat % 2 ^ 32 * 1000 * s.obj (0x2810 + r) 4 / s.obj 0x2801 1)) := by
      refine (exec_g3Write_now 0x030 w h).trans (congrArg _ ?_)
      rw [← h1, ← h2]
      exact State.g3Plimit_one hp (by rw [h1]; exact ht) (s.railsUsed_emulBase.trans hr)
    have hlaw : powerLaw r ≠ 0x1402 := by
      unfold powerLaw
      omega
    obtain ⟨hv, hf⟩ := State.g3Put_stores hadm (writeEffect_powerTarget hr8 _ _) (by decide) hlaw
    exact ⟨_, hrun, hv, hf.trans s.emulBase_answered⟩
  case refine_3 =>
    have hrun : exec (.g3ThresholdWrite .warn w) s = _ :=
      (exec_g3Write_now 0x038 w h).trans (congrArg _ (State.g3Scaled_fits true (by simpa using hfit)))
    obtain ⟨hv, hf⟩ := State.g3Put_stores hadm (writeEffect_threshold (Or.inl rfl) _ _) (by decide) (by decide)
    exact ⟨_, hrun, hv, hf.trans s.emulBase_answered⟩
  case refine_4 =>
    have hrun : exec (.g3ThresholdWrite .throttle w) s = _ :=
      (exec_g3Write_now 0x03C w h).trans (congrArg _ (State.g3Scaled_fits true (by simpa using hfit)))
    obtain ⟨hv, hf⟩ := State.g3Put_stores hadm (writeEffect_threshold (Or.inr (Or.inl rfl)) _ _) (by decide) (by decide)
    exact ⟨_, hrun, hv, hf.trans s.emulBase_answered⟩
  case refine_5 =>
    have hval : ofSigned 16 (((w.toNat % 2 ^ 32 : Nat) : Int) * 8) = w.toNat % 2 ^ 32 * 8 := by
      unfold ofSigned
      omega
    have hrun : exec (.g3ThresholdWrite .ror w) s = _ :=
      (exec_g3Write_now 0x040 w h).trans (congrArg _ (State.g3Scaled_fits false (by
        simp [satU]
        omega)))
    rw [hval] at hrun
    obtain ⟨hv, hf⟩ := State.g3Put_stores hadm (writeEffect_threshold (Or.inr (Or.inr rfl)) _ _) (by decide) (by decide)
    exact ⟨_, hrun, hv, hf.trans s.emulBase_answered⟩
  case refine_6 =>
    let x := w.toNat % 2 ^ 32 * (if high then 2 ^ 32 else 1)
    have hrun : exec (.g3FaultClear high w) s = .next (s.emulBase.g3Put 0x5000 1 x) :=
      (exec_g3Write_now _ w h).trans (congrArg _ (s.emulBase.g3Apply_clear high _))
    have hput : s.emulBase.g3Put 0x5000 1 x = (s.emulBase.acknowledgeWord (BitVec.ofNat 64 x)).wrote :=
      State.g3Put_effect hadm fun _ => rfl
    obtain ⟨hpin, hnoted⟩ := State.acknowledges_pin ((List.range 64).filter (fun n => (BitVec.ofNat 64 x).getLsbD n))
      s.emulBase (List.nodup_range.filter _) fun n hm => by
        obtain ⟨h1, -⟩ := List.mem_filter.mp hm
        exact ⟨List.mem_range.mp h1, hheld n (List.mem_range.mp h1)⟩
    rw [hput] at hrun
    refine ⟨_, hrun, fun n hn hbit => ?_, ?_⟩
    · have hlt : n + (if high then 32 else 0) < 64 := by split <;> omega
      have hmem := bit_shifted w hn hbit high
      generalize n + (if high then 32 else 0) = k at hlt hmem ⊢
      refine (congrArg Pin.latched (hpin k)).trans ?_
      split
      · rfl
      · next hnot =>
        exact Bool.not_eq_true _ ▸ fun hl => hnot ⟨List.mem_filter.mpr ⟨List.mem_range.mpr hlt, hmem⟩, hl⟩
    · change Noted (each _ State.acknowledge s.emulBase).wrote _
      generalize each _ State.acknowledge s.emulBase = t at hnoted
      unfold Noted at *
      rw [hnoted]
      rfl
  case refine_7 =>
    have hfind : (s.host.queue ++ s.host.waiting).find? (fun a => !a.write) = some a := by simp [hq, hw, ha]
    have hrun : exec .g3ReadTimeout s = .next (s.g3Expire a) := by
      show execG3ReadTimeout s = _
      unfold execG3ReadTimeout
      rw [hfind]
    rw [State.g3Expire_read hq hw ha] at hrun
    exact ⟨_, hrun, rfl, rfl, s.obj_g3Late a { s.host with queue := [], read := BitVec.allOnes 64 }, rfl⟩
  case refine_8 =>
    have hrun : exec .g3WriteQueueTimeout s = .next (s.g3Expire a) := by
      show execG3WriteQueueTimeout s = _
      unfold execG3WriteQueueTimeout
      rw [hw]
    rw [State.g3Expire_write (List.find?_some hw) hq ha] at hrun
    exact ⟨_, hrun, rfl, rfl, s.obj_g3Late a { s.host with waiting := s.host.waiting.erase a }, rfl⟩
  case refine_9 =>
    have hrun : exec (.g3PowerRequest w) s = .next (s.touch.bump 0x7400 8) := by
      show s.g3Write 8 w = _
      unfold State.g3Write
      rw [State.onBus_up _ _ hup]
      have hmode : s.touch.emulates = false := by rwa [State.emulates, State.obj_touch]
      rw [State.g3Access_off hmode]
    exact ⟨s.touch.bump 0x7400 8, hrun, s.obj_touch_bump 0x7400 8, rfl⟩
  case refine_10 =>
    show execG3ReadTimeout s = _
    unfold execG3ReadTimeout
    rw [hn]
  case refine_11 =>
    show execG3WriteQueueTimeout s = _
    unfold execG3WriteQueueTimeout
    rw [hn]


/-! ### Writes of the host register window (17 R415, 18 R423, R427, R428) -/

/-! #### Strobed writes -/

/-- The byte of a word that a strobe lets through at one place. -/
def strobeOne (a : Nat) (b : BitVec 8) (w : W64) (m : List Host.Cell) (i : Nat) : List Host.Cell :=
  if b.getLsbD i then mwrite m (a + i) (BitVec.ofNat 8 (w.toNat / 256 ^ i)) else m

theorem strobedWrite_eq (m : List Host.Cell) (a : Nat) (b : BitVec 8) (w : W64) :
    strobedWrite m a b w = each (List.range 8) (strobeOne a b w) m := rfl

theorem wf_strobeOne {m : List Host.Cell} (h : Memory.wf m = true) (a : Nat) (b : BitVec 8) (w : W64) (i : Nat) :
    Memory.wf (strobeOne a b w m i) = true := by
  unfold strobeOne
  split
  · exact Memory.wf_mwrite _ _ h
  · exact h

theorem mread_strobeOne {m : List Host.Cell} (h : Memory.wf m = true) (a : Nat) (b : BitVec 8) (w : W64) (i k : Nat) :
    mread (strobeOne a b w m i) k =
      if k = a + i ∧ b.getLsbD i = true then BitVec.ofNat 8 (w.toNat / 256 ^ i) else mread m k := by
  unfold strobeOne
  split
  · next hb => rw [mread_mwrite _ _ _ h, hb]; simp
  · next hb => simp [hb]

/-- Bytes written at distinct places of a list: each is read back where its strobe is set, and nothing else moves. -/
theorem mread_strobes (a : Nat) (b : BitVec 8) (w : W64) : ∀ (l : List Nat) (m : List Host.Cell), Memory.wf m = true →
    ∀ k, mread (each l (strobeOne a b w) m) k =
      if a ≤ k ∧ k - a ∈ l ∧ b.getLsbD (k - a) = true then BitVec.ofNat 8 (w.toNat / 256 ^ (k - a)) else mread m k := by
  intro l
  induction l with
  | nil => exact fun m _ k => (if_neg (by simp)).symm
  | cons i l ih =>
    intro m h k
    rw [each_cons, ih _ (wf_strobeOne h a b w i), mread_strobeOne h]
    by_cases hk : k = a + i
    · subst hk
      rw [Nat.add_sub_cancel_left]
      by_cases hb : b.getLsbD i = true
      · simp [hb]
      · simp [hb]
    · have hne : a ≤ k → k - a ≠ i := by omega
      refine if_congr ⟨fun h => ⟨h.1, List.mem_cons_of_mem _ h.2.1, h.2.2⟩, fun h => ⟨h.1, ?_, h.2.2⟩⟩ rfl (if_neg (by simp [hk]))
      exact (List.mem_cons.mp h.2.1).resolve_left (hne h.1)

theorem mread_strobedWrite {m : List Host.Cell} (h : Memory.wf m = true) (a : Nat) (b : BitVec 8) (w : W64) (k : Nat) :
    mread (strobedWrite m a b w) k =
      if a ≤ k ∧ k < a + 8 ∧ b.getLsbD (k - a) = true then BitVec.ofNat 8 (w.toNat / 256 ^ (k - a)) else mread m k := by
  rw [strobedWrite_eq, mread_strobes a b w _ m h]
  refine if_congr (and_congr_right fun hk => and_congr_left fun _ => ?_) rfl rfl
  rw [List.mem_range]
  omega

/-! #### Which register a write reaches -/

theorem exec_registerWrite_message {a : Nat} (ha : a % 8 = 0) (hlt : a < 0x10000) (b : BitVec 8) (w : W64) {s : State}
    (h : s.busUp) : exec (.registerWrite (0x40000 + a) b w) s = .next (s.touch.writeMessage a b w) := by
  show execRegisterWrite (0x40000 + a) b w s = _
  unfold execRegisterWrite
  rw [if_neg (by simp; omega), if_pos (by simp; omega), State.onBus_up _ _ h, Nat.add_sub_cancel_left]

theorem exec_registerWrite_window {a : Nat} (ha : a % 8 = 0) (hlt : a < 0x1000) (b : BitVec 8) (w : W64) {s : State}
    (h : s.busUp) : exec (.registerWrite (0x11000 + a) b w) s =
      .next (s.touch.setWindow { s.window with data := strobedWrite s.window.data a b w }) := by
  show execRegisterWrite (0x11000 + a) b w s = _
  unfold execRegisterWrite
  rw [if_neg (by simp; omega), if_neg (by simp; omega), if_pos (by simp; omega), State.onBus_up _ _ h,
    Nat.add_sub_cancel_left]
  rfl

theorem exec_registerWrite_icu {a : Nat} (ha : a % 8 = 0) (hlo : 0x2000 ≤ a) (hhi : a < 0x4000) (w : W64) (s : State) :
    exec (.registerWrite a 0xFF w) s = s.writeIcu a w := by
  show execRegisterWrite a 0xFF w s = _
  unfold execRegisterWrite
  rw [if_neg (by simp; omega), if_neg (by simp; omega), if_neg (by simp; omega), if_neg (by decide), if_pos (by simp; omega)]

theorem exec_registerWrite_mailbox {a : Nat} (ha : a % 8 = 0) (hlo : 0x4000 ≤ a) (hhi : a < 0x5000) (w : W64) (s : State) :
    exec (.registerWrite a 0xFF w) s = s.writeMailbox a w := by
  show execRegisterWrite a 0xFF w s = _
  unfold execRegisterWrite
  rw [if_neg (by simp; omega), if_neg (by simp; omega), if_neg (by simp; omega), if_neg (by decide), if_neg (by simp; omega),
    if_pos (by simp; omega)]

/-- A register outside the interrupt controller, the mailboxes, the object window and the G3 block. -/
theorem exec_registerWrite_plain {a : Nat} (ha : a % 8 = 0) (hr : a < 0x2000 ∨ (0x5000 ≤ a ∧ a < 0x10000)) (w : W64) {s : State}
    (h : s.busUp) : exec (.registerWrite a 0xFF w) s = .next (s.touch.writePlain a w) := by
  show execRegisterWrite a 0xFF w s = _
  unfold execRegisterWrite
  rw [if_neg (by simp; omega), if_neg (by simp; omega), if_neg (by simp; omega), if_neg (by decide), if_neg (by simp; omega),
    if_neg (by simp; omega), if_neg (by omega), if_neg (by omega), if_neg (by simp; omega), State.onBus_up _ _ h]

/-! #### The registers of the interrupt controller and the mailboxes -/

theorem State.writeIcu_complete {k : Nat} (hk : k < 6) (w : W64) (s : State) :
    s.writeIcu (0x2048 + 16 * k) w = execComplete 4 k w s := by
  unfold State.writeIcu
  rw [if_neg (by omega), if_neg (by omega), if_pos (by simp; omega), if_pos (by omega),
    show (0x2048 + 16 * k - 0x2040) / 16 = k by omega]

theorem State.writeIcu_target {k : Nat} (hk : k < 6) (w : W64) (s : State) :
    s.writeIcu (0x20C0 + 8 * k) w = execTargetConfigWrite 4 k w s := by
  unfold State.writeIcu
  rw [if_neg (by omega), if_neg (by omega), if_neg (by simp; omega), if_pos (by simp; omega),
    show (0x20C0 + 8 * k - 0x20C0) / 8 = k by omega]

theorem State.writeIcu_pendSet {k : Nat} (hk : k < 16) (w : W64) (s : State) :
    s.writeIcu (0x2200 + 8 * k) w = execPendSet k w s := by
  unfold State.writeIcu
  rw [if_neg (by omega), if_neg (by omega), if_neg (by simp; omega), if_neg (by simp; omega), if_neg (by simp; omega),
    if_neg (by simp), if_pos (by simp; omega), show (0x2200 + 8 * k - 0x2200) / 8 = k by omega]

theorem State.writeIcu_pendClr {k : Nat} (hk : k < 16) (w : W64) (s : State) :
    s.writeIcu (0x2280 + 8 * k) w = execPendClr k w s := by
  unfold State.writeIcu
  rw [if_neg (by omega), if_neg (by omega), if_neg (by simp; omega), if_neg (by simp; omega), if_neg (by simp; omega),
    if_neg (by simp; omega), if_neg (by simp), if_pos (by simp; omega), show (0x2280 + 8 * k - 0x2280) / 8 = k by omega]

theorem State.writeIcu_maskSet {k : Nat} (hk : k < 16) (w : W64) (s : State) :
    s.writeIcu (0x2300 + 8 * k) w = execMaskSet k w s := by
  unfold State.writeIcu
  rw [if_neg (by omega), if_neg (by omega), if_neg (by simp; omega), if_neg (by simp; omega), if_neg (by simp; omega),
    if_neg (by simp; omega), if_neg (by simp; omega), if_neg (by simp), if_pos (by simp; omega),
    show (0x2300 + 8 * k - 0x2300) / 8 = k by omega]

theorem State.writeIcu_maskClr {k : Nat} (hk : k < 16) (w : W64) (s : State) :
    s.writeIcu (0x2380 + 8 * k) w = execMaskClr k w s := by
  unfold State.writeIcu
  rw [if_neg (by omega), if_neg (by omega), if_neg (by simp; omega), if_neg (by simp; omega), if_neg (by simp; omega),
    if_neg (by simp; omega), if_neg (by simp; omega), if_neg (by simp; omega), if_neg (by simp), if_pos (by simp; omega),
    show (0x2380 + 8 * k - 0x2380) / 8 = k by omega]

theorem State.writeIcu_watch {k : Nat} (hk : k < 32) (w : W64) (s : State) :
    s.writeIcu (0x2C00 + 8 * k) w = execWatchWrite k w s := by
  unfold State.writeIcu
  rw [if_neg (by omega), if_neg (by omega), if_neg (by simp; omega), if_neg (by simp; omega), if_neg (by simp; omega),
    if_neg (by simp; omega), if_neg (by simp; omega), if_neg (by simp; omega), if_neg (by simp; omega), if_neg (by simp; omega),
    if_neg (by simp), if_pos (by simp; omega), show (0x2C00 + 8 * k - 0x2C00) / 8 = k by omega]

theorem State.writeMailbox_post (k : Nat) (w : W64) (s : State) : s.writeMailbox (0x4000 + 64 * k) w = execPost 4 k w s := by
  unfold State.writeMailbox
  dsimp only
  rw [show (0x4000 + 64 * k - 0x4000) / 64 = k by omega, show (0x4000 + 64 * k - 0x4000) % 64 = 0 by omega]
  rfl

theorem State.writeMailbox_free (k : Nat) (w : W64) (s : State) : s.writeMailbox (0x4030 + 64 * k) w = execFree 4 k w s := by
  unfold State.writeMailbox
  dsimp only
  rw [show (0x4030 + 64 * k - 0x4000) / 64 = k by omega, show (0x4030 + 64 * k - 0x4000) % 64 = 0x30 by omega]
  rfl

/-! #### The statement -/

/-- Settles O59: by the part of the window that the address names. -/
theorem registerWrites : Obligations.RegisterWrites := by
  unfold Obligations.RegisterWrites
  refine ⟨fun a b w s ha => if_pos (by simpa using ha), fun a b w s ha hlt hup hwf => ?_, fun a b w s ha hlt hup => ?_,
    fun a b w s ha hb hm hwin hup => ?_, fun k w s => ?_, fun w s hup => ?_, fun w s hup hheld => ?_, fun w s hup => ?_⟩
  case refine_1 =>
    refine ⟨_, exec_registerWrite_message ha hlt b w hup, fun i hi => ?_, fun k hk => ?_, rfl, rfl⟩
    · refine (mread_strobedWrite hwf a b w (a + i)).trans ?_
      rw [Nat.add_sub_cancel_left]
      exact if_congr ⟨fun h => h.2.2, fun h => ⟨by omega, by omega, h⟩⟩ rfl rfl
    · exact (mread_strobedWrite hwf a b w k).trans (if_neg (by omega))
  case refine_2 => exact exec_registerWrite_window ha hlt b w hup
  case refine_3 =>
    show execRegisterWrite a b w s = _
    unfold execRegisterWrite
    rw [if_neg (by simp; omega), if_neg (by simpa using hm), if_neg (by simpa using hwin), if_pos (by simpa using hb),
      State.onBus_up _ _ hup]
    rfl
  case refine_4 =>
    refine ⟨exec_registerWrite_icu (a := 0x2008) rfl (by decide) (by decide) w s,
      exec_registerWrite_icu (a := 0x2010) rfl (by decide) (by decide) w s, fun hk => ?_, fun hk => ?_, fun hk => ?_,
      fun hk => ?_, fun hk => ?_, fun hk => ?_, fun hk => ?_, fun hk => ?_, fun hk => ?_, rfl⟩
    · exact (exec_registerWrite_icu (by omega) (by omega) (by omega) w s).trans (State.writeIcu_complete hk w s)
    · exact (exec_registerWrite_icu (by omega) (by omega) (by omega) w s).trans (State.writeIcu_target hk w s)
    · exact (exec_registerWrite_icu (by omega) (by omega) (by omega) w s).trans (State.writeIcu_pendSet hk w s)
    · exact (exec_registerWrite_icu (by omega) (by omega) (by omega) w s).trans (State.writeIcu_pendClr hk w s)
    · exact (exec_registerWrite_icu (by omega) (by omega) (by omega) w s).trans (State.writeIcu_maskSet hk w s)
    · exact (exec_registerWrite_icu (by omega) (by omega) (by omega) w s).trans (State.writeIcu_maskClr hk w s)
    · exact (exec_registerWrite_icu (by omega) (by omega) (by omega) w s).trans (State.writeIcu_watch hk w s)
    · exact (exec_registerWrite_mailbox (by omega) (by omega) (by omega) w s).trans (State.writeMailbox_post k w s)
    · exact (exec_registerWrite_mailbox (by omega) (by omega) (by omega) w s).trans (State.writeMailbox_free k w s)
  case refine_5 => exact exec_registerWrite_plain (a := 0x1018) rfl (by decide) w hup
  case refine_6 =>
    obtain ⟨hpin, hnoted⟩ := State.acknowledges_pin ((List.range 64).filter (fun n => w.getLsbD n)) s.touch
      (List.nodup_range.filter _) fun n hm => by
        obtain ⟨h1, -⟩ := List.mem_filter.mp hm
        exact ⟨List.mem_range.mp h1, hheld n (List.mem_range.mp h1)⟩
    refine ⟨s.touch.acknowledgeWord w, exec_registerWrite_plain (a := 0x8000) rfl (by decide) w hup, fun n hn hbit => ?_, hnoted⟩
    refine (congrArg Pin.latched (hpin n)).trans ?_
    split
    · rfl
    · next hnot =>
      exact Bool.not_eq_true _ ▸ fun hl => hnot ⟨List.mem_filter.mpr ⟨List.mem_range.mpr hn, hbit⟩, hl⟩
  case refine_7 => exact exec_registerWrite_plain (a := 0x9020) rfl (by decide) w hup


/-! ### Frames of the Muriri port: what receipt and sending leave alone (15 R368 to R372) -/

/-! #### What the port's own work moves -/

/-- Work of the Muriri port: its sessions and frames, their counts and interrupts. -/
structure Posts (t s : State) : Prop where
  frame : t = { s with muriri := t.muriri, icu := t.icu, od := t.od }
  obj : ∀ i j, j < 256 → told i j = false → (i ≠ 0x1401 ∨ (j ≠ 1 ∧ j ≠ 2)) → t.obj i j = s.obj i j

theorem Posts.refl (s : State) : Posts s s := ⟨rfl, fun _ _ _ _ _ => rfl⟩

theorem Posts.trans {a b c : State} (h : Posts a b) (g : Posts b c) : Posts a c := by
  refine ⟨?_, fun i j hj ht hn => (h.obj i j hj ht hn).trans (g.obj i j hj ht hn)⟩
  rw [h.frame, g.frame]

theorem Posts.muriri (s : State) (m : Muriri) : Posts { s with muriri := m } s :=
  ⟨rfl, fun _ _ _ _ _ => State.obj_same⟩

theorem Posts.setMu (s : State) (n : Nat) (v : MuSession) : Posts (s.setMu n v) s := Posts.muriri s _

theorem Posts.modMu (s : State) (n : Nat) (f : MuSession → MuSession) : Posts (s.modMu n f) s := by
  unfold State.modMu
  split
  · exact Posts.setMu s n _
  · exact Posts.refl s

theorem Posts.bump64 (s : State) (j k : Nat) (hj : j = 1 ∨ j = 2) : Posts (s.bump64 0x1401 j k) s :=
  ⟨rfl, fun _ _ hj' _ hn => s.obj_setObj_other _ hj' (by omega) (by rcases hj with rfl | rfl <;> decide) (by omega)⟩

theorem State.signal_posts (s : State) (n : Nat) : Posts (s.signal n) s := by
  refine ⟨?_, fun i j hj ht _ => (s.signal_tells n).obj i j hj ht⟩
  rw [s.signal_counts n]

theorem State.send_posts (s : State) (f : OutFrame) : Posts (s.send f) s :=
  (State.signal_posts _ _).trans ((Posts.bump64 _ 2 1 (Or.inr rfl)).trans (Posts.muriri s _))

theorem State.received_posts (s : State) : Posts s.received s.touch :=
  (State.signal_posts _ _).trans ((Posts.bump64 _ 1 1 (Or.inl rfl)).trans (Posts.muriri s.touch _))

/-- A signal leaves the port alone. -/
theorem State.signal_muriri (s : State) (n : Nat) : (s.signal n).muriri = s.muriri := by rw [s.signal_counts n]

theorem State.send_muriri (s : State) (f : OutFrame) : (s.send f).muriri = { s.muriri with tx := s.muriri.tx ++ [f] } :=
  State.signal_muriri _ _

theorem State.received_muriri (s : State) : s.received.muriri = { s.muriri with tx := [] } := State.signal_muriri _ _

theorem Posts.tb {t s : State} (h : Posts t s) : t.tb = s.tb := by rw [h.frame]
theorem Posts.access {t s : State} (h : Posts t s) : t.access = s.access := by rw [h.frame]
theorem Posts.answer {t s : State} (h : Posts t s) : t.answer = s.answer := by rw [h.frame]
theorem Posts.segment {t s : State} (h : Posts t s) : t.segment = s.segment := by rw [h.frame]

/-! #### Sessions of the port -/

theorem find_tset {α : Type} (t : Tbl α) (k : Nat) (v : α) : (tset t k v).find? (fun p => p.1 == k) = some (k, v) := by
  induction t with
  | nil => simp [tset]
  | cons p rest ih =>
    obtain ⟨j, w⟩ := p
    unfold tset
    split
    · simp
    · next hjk =>
      split
      · simp
      · simp [hjk, ih]

theorem State.muSession_setMu (s : State) (n : Nat) (v : MuSession) : (s.setMu n v).muSession n = some v := by
  show (match (tset s.muriri.sessions n v).find? (fun p => p.1 == n) with
    | some p => some p.2
    | none => none) = _
  rw [find_tset]

theorem State.modMu_open {s : State} {n : Nat} {v : MuSession} (h : s.muSession n = some v) (f : MuSession → MuSession) :
    s.modMu n f = s.setMu n (f v) := by
  unfold State.modMu
  rw [h]

theorem State.modMu_closed {s : State} {n : Nat} (h : s.muSession n = none) (f : MuSession → MuSession) : s.modMu n f = s := by
  unfold State.modMu
  rw [h]

/-- A change of a session shows in it, if it is still open. -/
theorem State.muSession_modMu (s : State) (n : Nat) (f : MuSession → MuSession) :
    (s.modMu n f).muSession n = (s.muSession n).map f := by
  cases h : s.muSession n with
  | some v =>
    rw [State.modMu_open h]
    exact s.muSession_setMu n (f v)
  | none =>
    rw [State.modMu_closed h]
    exact h

theorem State.muSession_congr {t s : State} (h : t.muriri.sessions = s.muriri.sessions) (n : Nat) :
    t.muSession n = s.muSession n := by
  unfold State.muSession
  rw [h]

theorem State.modMu_tx (s : State) (n : Nat) (f : MuSession → MuSession) : (s.modMu n f).muriri.tx = s.muriri.tx := by
  unfold State.modMu
  split <;> rfl

/-! #### Receipt -/

theorem State.onFrame_gets {s : State} {f : Frame} {kind : Nat} (h : s.gets f kind) (c : Instr) (g : State → State) :
    s.onFrame c f kind g = .next (g s.received) := by
  obtain ⟨hears, hok, hkind⟩ := h
  unfold State.onFrame State.receive
  dsimp only
  rw [if_pos (by simp [hears, hkind]), if_neg (by simp [hok])]
  rfl

theorem State.earlyCode_congr {t s : State} (h : ∀ j, j < 256 → t.obj 0x1000 j = s.obj 0x1000 j) (f : Frame) :
    t.earlyCode f = s.earlyCode f := by
  unfold State.earlyCode
  rw [h 8 (by decide), h 5 (by decide)]

theorem told_identity {j : Nat} (i : Nat) (hi : i ≤ 0x1400) : told i j = false := by
  simp only [told, Bool.or_eq_false_iff, Bool.and_eq_false_iff, decide_eq_false_iff_not, beq_eq_false_iff_ne]
  omega

theorem Posts.low {t s : State} (h : Posts t s) {i j : Nat} (hi : i ≤ 0x1400) (hj : j < 256) : t.obj i j = s.obj i j :=
  h.obj i j hj (told_identity i hi) (Or.inl (by omega))

theorem State.received_early (s : State) (f : Frame) : s.received.earlyCode f = s.earlyCode f :=
  (State.earlyCode_congr (fun _ hj => s.received_posts.low (by decide) hj) f).trans
    (State.earlyCode_congr (fun j _ => s.obj_touch 0x1000 j) f)

/-- A frame of an open session reaches it with the idle timer restarted. -/
theorem State.inSession_bound {s : State} {f : Frame} {v : MuSession} (h : s.bound f v) (g : State → MuSession → State) :
    s.received.inSession f g = g (s.heard f v) { v with heardAt := s.tb.now } := by
  obtain ⟨hsess, hmac, htag⟩ := h
  have hses : s.received.muSession f.session = some v :=
    (State.muSession_congr (by rw [s.received_muriri]) _).trans hsess
  have hbad : s.received.tagBad f = false := by
    rw [← htag, s.received_posts.frame]
    rfl
  have hnow : s.received.tb.now = s.tb.now := congrArg (·.now) s.received_posts.tb
  unfold State.inSession State.heard
  rw [hses]
  dsimp only
  rw [if_neg (by simp [hmac]), if_neg (by simp [hbad]), hnow]

theorem State.heard_posts (s : State) (f : Frame) (v : MuSession) : Posts (s.heard f v) s.touch :=
  (Posts.setMu _ _ _).trans s.received_posts

theorem State.heard_session (s : State) (f : Frame) (v : MuSession) :
    (s.heard f v).muSession f.session = some { v with heardAt := s.tb.now } := State.muSession_setMu _ _ _

theorem State.heard_tx (s : State) (f : Frame) (v : MuSession) : (s.heard f v).muriri.tx = [] :=
  congrArg Muriri.tx s.received_muriri

/-- With no transfer there is nothing to abandon. -/
theorem State.abandon_none {s : State} {n : Nat} {v : MuSession} (h : s.muSession n = some v) (ht : v.transfer = none)
    (code : Nat) : s.abandon n code = s := by
  unfold State.abandon
  rw [h]
  dsimp only
  rw [ht]

/-- A new request in a session with no transfer: its access, one REPLY, and what follows it. -/
theorem State.muRequest_new {s : State} {f : Frame} {v : MuSession} (h : s.bound f v) (hnew : v.lastSeq ≠ some f.seq)
    (ht : v.transfer = none) (run : State → State × List Byte) (after : State → OutFrame → State) :
    s.received.muRequest f run after =
      (let q := run (s.heard f v)
      let r := q.1.frameFor f.src 0x20 f.session f.seq q.2
      after ((q.1.send r).modMu f.session (fun v => { v with lastSeq := some f.seq, cache := some r, opened := false })) r) := by
  unfold State.muRequest
  rw [State.inSession_bound h]
  dsimp only
  rw [if_neg (by simp [hnew]), State.abandon_none (s.heard_session f v) ht]

/-- A repeat of the last request is answered from the cache. -/
theorem State.muRequest_repeat {s : State} {f : Frame} {v : MuSession} {r : OutFrame} (h : s.bound f v)
    (hold : v.lastSeq = some f.seq) (hr : v.cache = some r) (run : State → State × List Byte)
    (after : State → OutFrame → State) : s.received.muRequest f run after = ((s.heard f v).bump 0x1401 6).send r := by
  unfold State.muRequest
  rw [State.inSession_bound h]
  dsimp only
  rw [if_pos (by simp [hold, hr]), hr]


/-! ### Muriri sessions: open, close, idle timeout, short reads and writes, repeats (15 R369 to R373) -/

/-! #### What a session's end takes with it -/

theorem assoc_filter_value (l : List (Nat × Nat)) (v k : Nat) : assoc (l.filter (fun p => p.2 != v)) k ≠ some v := by
  induction l with
  | nil => simp [assoc]
  | cons p l ih =>
    obtain ⟨a, b⟩ := p
    by_cases hb : b = v
    · rw [List.filter_cons_of_neg (by simp [hb])]
      exact ih
    · rw [List.filter_cons_of_pos (by simp [hb]), assoc]
      split
      · exact fun h => hb (Option.some.inj h)
      · exact ih

theorem tdel_tset {α : Type} (t : Tbl α) (k : Nat) (v : α) : tdel (tset t k v) k = tdel t k := by
  induction t with
  | nil => simp [tset, tdel]
  | cons p rest ih =>
    obtain ⟨j, w⟩ := p
    unfold tset
    split
    · next h => simp [tdel, h]
    · next h =>
      split
      · simp [tdel]
      · unfold tdel at ih ⊢
        rw [List.filter_cons, List.filter_cons, ih]

theorem State.closeMuriri_ends (s : State) (n : Nat) : (∀ i, (s.closeMuriri n).locker i ≠ some n) ∧
    (s.closeMuriri n).authenticated n = false :=
  ⟨fun i => assoc_filter_value s.access.locks n i, (thas_tdel s.access.authed n n).trans (if_pos rfl)⟩

theorem State.closeMuriri_frame (s : State) (n : Nat) : s.closeMuriri n = { s with
    muriri := { s.muriri with sessions := tdel s.muriri.sessions n }, access := (s.closeMuriri n).access } := rfl

/-! #### The id of a new session -/

theorem State.freeId_congr {t s : State} (h : ∀ n, t.sessionOpen n = s.sessionOpen n) (fuel n : Nat) :
    t.freeId fuel n = s.freeId fuel n := by
  induction fuel generalizing n with
  | zero => rfl
  | succ fuel ih =>
    unfold State.freeId
    dsimp only
    rw [h, ih]

theorem State.received_id (s : State) : s.received.assignId.1 = s.assignId.1 := by
  have hopen : ∀ n, s.received.sessionOpen n = s.sessionOpen n := fun n => by
    unfold State.sessionOpen State.mailSession
    rw [s.received_muriri, s.received_posts.frame]
    rfl
  have hnext : s.received.access.nextId = s.access.nextId := congrArg (·.nextId) s.received_posts.access
  show s.received.freeId 16 s.received.access.nextId = s.freeId 16 s.access.nextId
  rw [hnext, State.freeId_congr hopen]

theorem State.received_opened (s : State) (f : Frame) : s.received.openedBy f = s.openedBy f := by
  unfold State.openedBy
  rw [s.received_muriri]

/-- The REPLY to an accepted OPEN. -/
def State.openReply (s : State) (f : Frame) : OutFrame :=
  s.assignId.2.frameFor f.src 0x20 s.assignId.1 f.seq
    (bytesLE 4 0 ++ bytesLE 2 s.assignId.1 ++ bytesLE 1 s.assignId.2.gov.st.code ++ bytesLE 1 0 ++
      bytesLE 4 (s.assignId.2.obj 0x1000 5))

/-- The session of an accepted OPEN, and its REPLY. -/
def State.opens (s : State) (f : Frame) : State :=
  (s.assignId.2.setMu s.assignId.1
    { mac := f.src, heardAt := s.tb.now, lastSeq := some f.seq, cache := some (s.openReply f) }).send (s.openReply f)

theorem State.opens_posts (s : State) (f : Frame) : Posts (s.opens f) s.assignId.2 :=
  (State.send_posts _ _).trans (Posts.setMu _ _ _)

theorem State.openSession_new {s : State} {f : Frame} (h : s.openedBy f = none) (he : s.earlyCode f = 0)
    (hroom : s.muriri.sessions.length < s.obj 0x1400 0x0B) :
    s.openSession f = s.opens f := by
  have hcode : firstCode [s.earlyCode f, codeIf (s.obj 0x1400 0x0B ≤ s.muriri.sessions.length) 0x00040002] = 0 := by
    rw [he]
    simp [firstCode, codeIf, hroom]
  unfold State.openSession
  rw [h]
  dsimp only
  rw [hcode, if_neg (by decide)]
  rfl

/-- A new CLOSE in a session with no transfer. -/
theorem State.closeSession_new {s : State} {f : Frame} {v : MuSession} (h : s.bound f v) (hnew : v.lastSeq ≠ some f.seq)
    (ht : v.transfer = none) (he : s.earlyCode f = 0) : s.received.closeSession f =
      ((s.heard f v).closeMuriri f.session).send ((s.heard f v).frameFor f.src 0x20 f.session f.seq (bytesLE 4 0)) := by
  have hearly : (s.heard f v).earlyCode f = 0 :=
    (State.earlyCode_congr (fun _ hj => (s.heard_posts f v).low (by decide) hj) f).trans
      ((State.earlyCode_congr (fun j _ => s.obj_touch 0x1000 j) f).trans he)
  unfold State.closeSession
  rw [State.inSession_bound h]
  dsimp only
  rw [if_neg (by simp [hnew]), State.abandon_none (s.heard_session f v) ht, hearly, if_neg (by decide)]

/-! #### The statement -/

theorem Spares.muriri {t s : State} (h : Spares t s) : t.muriri = s.muriri := by simp only [h]

/-- What a request answered with one REPLY keeps of it. -/
theorem State.answered_reply {u t : State} {r : OutFrame} {n : Nat} {g : MuSession → MuSession}
    (h : t = (u.send r).modMu n g) : t.answer = u.answer ∧ t.muriri.tx = u.muriri.tx ++ [r] := by
  rw [h]
  refine ⟨((Posts.modMu _ _ _).trans (u.send_posts r)).answer, ?_⟩
  rw [State.modMu_tx, State.send_muriri]

/-- Settles O54: by receipt, the session the frame finds, and the reply that is sent. -/
theorem muririSessions : Obligations.MuririSessions := by
  unfold Obligations.MuririSessions
  refine ⟨fun f s hg hno he hroom => ?_, fun f v s hg hb hnew ht he => ?_, fun n v s hv hcom => ?_,
    fun f v s hg hb hnew ht => ?_, fun f v s hg hb hnew ht => ?_, fun f v r s hh hm hk hb hold hr => ?_,
    fun f s hh hm => ?_, fun bad s hup => ?_, fun n s hn => ?_⟩
  case refine_1 =>
    have hrun : exec (.muOpen f) s = .next (s.received.openSession f) := State.onFrame_gets hg _ _
    rw [State.openSession_new ((s.received_opened f).trans hno) ((s.received_early f).trans he) (by
      rw [s.received_muriri, s.received_posts.low (by decide) (by decide), State.obj_touch]
      exact hroom)] at hrun
    have hid := s.received_id
    have hp := s.received_posts.frame
    have hmu := s.received_muriri
    have hnow : s.received.tb.now = s.tb.now := congrArg (·.now) s.received_posts.tb
    refine ⟨_, s.received.openReply f, hrun, ?_, rfl, rfl, hid, rfl, ?_⟩
    · rw [← hid, ← hnow]
      unfold State.opens
      rw [State.send_muriri]
      show ({ sessions := tset s.received.muriri.sessions _ _, tx := s.received.muriri.tx ++ [_] } : Muriri) = _
      rw [hmu]
      rfl
    · rw [(s.received.opens_posts f).frame]
      generalize s.received = u at hp
      rw [hp]
      rfl
  case refine_2 =>
    have hrun : exec (.muClose f) s = .next (s.received.closeSession f) := State.onFrame_gets hg _ _
    rw [State.closeSession_new hb hnew ht he] at hrun
    have hp := (s.heard_posts f v).frame
    have hses : tdel (s.heard f v).muriri.sessions f.session = tdel s.muriri.sessions f.session := by
      refine (tdel_tset s.received.muriri.sessions f.session { v with heardAt := s.tb.now }).trans ?_
      rw [s.received_muriri]
    have htx := s.heard_tx f v
    obtain ⟨hl, ha⟩ := (s.heard f v).closeMuriri_ends f.session
    generalize (s.heard f v).frameFor f.src 0x20 f.session f.seq (bytesLE 4 0) = r at hrun
    have hpost := State.send_posts ((s.heard f v).closeMuriri f.session) r
    have hacc := hpost.access
    have hmu := State.send_muriri ((s.heard f v).closeMuriri f.session) r
    refine ⟨_, r, hrun, ?_, fun i => ?_, ?_, ?_⟩
    · rw [hmu]
      show ({ sessions := tdel (s.heard f v).muriri.sessions f.session, tx := (s.heard f v).muriri.tx ++ [r] } : Muriri) = _
      rw [hses, htx]
      rfl
    · unfold State.locker
      rw [hacc]
      exact hl i
    · unfold State.authenticated
      rw [hacc]
      exact ha
    · rw [hpost.frame, State.closeMuriri_frame]
      generalize s.heard f v = u at hp
      rw [hp]
  case refine_3 =>
    have hrun : exec (.sessionIdleTimeout n) s = .next ((s.atTime (v.heardAt + s.cyc 0x1400 9)).closeMuriri n) := by
      show execSessionIdleTimeout n s = _
      unfold execSessionIdleTimeout
      rw [hv]
      exact if_pos hcom
    obtain ⟨hl, ha⟩ := State.closeMuriri_ends (s.atTime (v.heardAt + s.cyc 0x1400 9)) n
    exact ⟨_, hrun, rfl, hl, ha, rfl, rfl⟩
  case refine_4 =>
    have hrun : exec (.muRead f) s = .next _ := (State.onFrame_gets hg _ _).trans
      (congrArg _ (State.muRequest_new hb hnew ht (fun s => s.shortRead f) (fun s _ => s)))
    obtain ⟨h1, h2⟩ := State.answered_reply (t := _) (rfl)
    exact ⟨_, _, _, hrun, h1, h2, rfl, rfl, rfl, rfl, rfl⟩
  case refine_5 =>
    have hrun : exec (.muWrite f) s = .next _ := (State.onFrame_gets hg _ _).trans
      (congrArg _ (State.muRequest_new hb hnew ht (fun s => s.shortWrite f) (fun s _ => s)))
    obtain ⟨h1, h2⟩ := State.answered_reply (t := _) (rfl)
    exact ⟨_, _, _, hrun, h1, h2, rfl, rfl, rfl, rfl, rfl⟩
  case refine_6 =>
    have hrun : exec (if f.kind = 0x10 then .muRead f else .muWrite f) s = .next (((s.heard f v).bump 0x1401 6).send r) := by
      split
      · next h10 =>
        exact (State.onFrame_gets ⟨hh, hm, h10⟩ _ _).trans (congrArg _ (State.muRequest_repeat hb hold hr _ _))
      · next hne =>
        exact (State.onFrame_gets ⟨hh, hm, hk.resolve_left hne⟩ _ _).trans
          (congrArg _ (State.muRequest_repeat hb hold hr _ _))
    have hp := (s.heard_posts f v).frame
    have hobj := (s.heard_posts f v).obj 0x1401 6 (by decide) (by decide) (Or.inr (by decide))
    have hpost := State.send_posts ((s.heard f v).bump 0x1401 6) r
    refine ⟨_, hrun, ?_, ?_, ?_⟩
    · rw [State.send_muriri]
      exact congrArg (· ++ [r]) (s.heard_tx f v)
    · rw [hpost.obj 0x1401 6 (by decide) (by decide) (Or.inr (by decide)), State.obj_bump_same, hobj, State.obj_touch]
    · rw [hpost.frame]
      generalize s.heard f v = u at hp
      rw [hp]
      rfl
  case refine_7 =>
    have hrun : exec (.malformedFrame f) s = .next (s.received.dropFrame 3) := by
      show execMalformedFrame f s = _
      unfold execMalformedFrame State.receive
      dsimp only
      rw [if_pos (by simp [hh, hm]), if_pos hm]
      rfl
    have hs : Spares (s.received.dropFrame 3) { s with muriri := s.received.muriri } := by
      refine Spares.chain (b := s.received) (Spares.chain (State.dEvent_spares _ _) (State.bump_spares _ _ _)) ?_
      rw [s.received_posts.frame]
      exact Spares.chain (b := { s.touch with muriri := s.received.muriri }) (by simp) (by simp [State.touch])
    have hmu : (s.received.dropFrame 3).muriri = s.received.muriri := by
      rw [show (s.received.dropFrame 3).muriri = _ from hs.muriri]
    refine ⟨_, hrun, hmu.trans s.received_muriri, ?_, by rw [hmu]; exact hs⟩
    refine ((State.dEvent_tells _ 59).obj 0x1401 3 (by decide) (by decide)).trans ?_
    rw [State.obj_bump_same, s.received_posts.obj 0x1401 3 (by decide) (by decide) (Or.inr (by decide)), State.obj_touch]
  case refine_8 =>
    exact ⟨_, if_pos (by simp [hup.1, hup.2]), s.obj_touch_bump _ _, rfl⟩
  case refine_9 =>
    show execSessionIdleTimeout n s = _
    unfold execSessionIdleTimeout
    rw [hn]


/-! ### Events of the Muriri port: send, retransmit, acknowledge (15 R375, R376) -/

/-- An event of a D-class pin that stays below its count is only counted. -/
theorem State.dEvent_quiet {s : State} {n : Nat} (h : s.quiet n) :
    s.dEvent n = { s with od := (s.dEvent n).od, pins := (s.dEvent n).pins } ∧
      ∀ i j, 0x5000 ≤ i ∨ i < 0x2000 → j < 256 → (i ≠ 0x5010 + n ∨ j ≠ 0x0B) → (s.dEvent n).obj i j = s.obj i j := by
  by_cases hr : s.pinReached n = true
  · have hlt : s.dCount n < max 1 (s.obj (0x5010 + n) 5) := by
      unfold State.dCount
      split <;> omega
    rw [State.dEvent_reached hr, State.dEvents_below hlt, State.raise_nil]
    exact ⟨rfl, fun i j _ hj hne => (State.setPin_obj _ _ _ i j).trans
      (s.obj_setObj_other _ hj (by decide) (by simp [defaultReads]) hne)⟩
  · unfold State.dEvent State.dEventsNow
    rw [if_neg (by simp [hr])]
    exact ⟨rfl, fun _ _ _ _ _ => rfl⟩

/-- The EVENT frame of an event. -/
def State.eventFrame (s : State) (e : Event) (record : List Byte) : OutFrame :=
  s.frameFor (s.obj 0x1400 6) 0x30 0 (Free.value s.free % 2 ^ 16)
    (bytesLE 1 e.level ++ bytesLE 1 e.pin ++ bytesLE 2 0 ++ record)

/-- A record still in the Daybook and not poisoned is sent as it stands. -/
theorem State.eventRecord_clean {s : State} {n : Nat} {q : Record} (h : s.daybookRecord n = some q) (hp : s.poison = []) :
    s.eventRecord n = some (s, q.toBytes) := by
  unfold State.eventRecord
  rw [h]
  dsimp only
  rw [if_neg (by simp [State.poisoned, hp])]

/-- An event sent: one frame, counted by `j` of 0x1401. -/
structure Sent (t s : State) (e : Event) (record : List Byte) (j : Nat) : Prop where
  port : t.muriri = { s.muriri with tx := s.muriri.tx ++ [s.eventFrame e record] }
  events : t.events = s.events.map (fun x => if x.seq = e.seq then e else x)
  count : t.obj 0x1401 j = min (s.obj 0x1401 j + 1) 0xFFFFFFFF
  frame : t = { s with muriri := t.muriri, events := t.events, free := t.free, icu := t.icu, od := t.od }

theorem State.sendEvent_sent (s : State) (e : Event) (record : List Byte) {j : Nat} (hj : j = 9 ∨ j = 0x0A) :
    Sent (((s.setEvent e).sendEvent e record).bump 0x1401 j) s e record j := by
  let u : State := { s.setEvent e with free := s.free + 1 }
  have hsend : (s.setEvent e).sendEvent e record = u.send (s.eventFrame e record) := rfl
  have hpost := u.send_posts (s.eventFrame e record)
  have hmu := u.send_muriri (s.eventFrame e record)
  have hobj : (u.send (s.eventFrame e record)).obj 0x1401 j = s.obj 0x1401 j := by
    refine (hpost.obj 0x1401 j (by omega) ?_ (Or.inr (by omega))).trans State.obj_same
    rcases hj with rfl | rfl <;> decide
  rw [hsend]
  generalize u.send (s.eventFrame e record) = w at hpost hmu hobj
  have hframe := hpost.frame
  refine ⟨hmu, ?_, (w.obj_bump_same _ _).trans (by rw [hobj]), ?_⟩
  · show w.events = _
    rw [hframe]
    rfl
  · rw [State.bump_eq, State.setObj]
    dsimp only
    rw [hframe]
    rfl

/-- The first event is dropped, with an event of pin 59 that is only counted. -/
theorem State.dropEvent_quiet {s : State} (h : s.quiet 59) : s.dropEvent.events = s.events.drop 1 ∧
    s.dropEvent.muriri = s.muriri ∧ s.dropEvent.tb = s.tb ∧
      s.dropEvent.obj 0x1401 0x0B = min (s.obj 0x1401 0x0B + 1) 0xFFFFFFFF := by
  let u : State := ({ s with events := s.events.drop 1 } : State).bump 0x1401 0x0B
  have hlimit : u.obj (0x5010 + 59) 5 = s.obj (0x5010 + 59) 5 :=
    (State.obj_bump_other _ (by decide) (by decide) (by decide) (Or.inl (by decide))).trans State.obj_same
  have hquiet : u.quiet 59 := by
    show (s.pin 59).count + 1 < u.obj (0x5010 + 59) 5
    rw [hlimit]
    exact h
  have hcount : u.obj 0x1401 0x0B = min (s.obj 0x1401 0x0B + 1) 0xFFFFFFFF := by
    refine (State.obj_bump_same _ _ _).trans (congrArg (fun n => min (n + 1) 0xFFFFFFFF) State.obj_same)
  obtain ⟨hframe, hobj⟩ := State.dEvent_quiet hquiet
  have hdrop : s.dropEvent = u.dEvent 59 := rfl
  have hu : u.events = s.events.drop 1 ∧ u.muriri = s.muriri ∧ u.tb = s.tb := ⟨rfl, rfl, rfl⟩
  rw [hdrop]
  have h1 := hobj 0x1401 0x0B (by decide) (by decide) (Or.inl (by decide))
  generalize u.dEvent 59 = t at hframe h1
  obtain ⟨he, hm, ht⟩ := hu
  refine ⟨?_, ?_, ?_, h1.trans hcount⟩
  · rw [hframe]
    exact he
  · rw [hframe]
    exact hm
  · rw [hframe]
    exact ht

/-- Events up to a sequence number acknowledged. -/
def State.ackEvents (s : State) (n : Nat) : State := { s with events := s.events.filter (fun e => n < e.seq) }

theorem State.received_events (s : State) : s.received.events = s.events := by
  rw [s.received_posts.frame]
  rfl

/-! #### The statement -/

/-- The port at the instant of an event's repeat, with nothing sent. -/
def State.eventTurn (s : State) (u : Nat) : State :=
  { s.atTime (u + s.cyc 0x1400 7) with muriri := { s.muriri with tx := [] } }

theorem State.obj_eventTurn (s : State) (u i j : Nat) : (s.eventTurn u).obj i j = s.obj i j :=
  Eq.trans (State.obj_same (s := s.atTime (u + s.cyc 0x1400 7))) (s.obj_atTime _ i j)

/-- What an EVENT_RETRANSMIT does of the oldest event, once sent. -/
theorem exec_eventRetransmit {s : State} {e : Event} {rest : List Event} {u : Nat} (he : s.events = e :: rest)
    (hu : e.sentAt = some u) (hcom : s.comRuns = true) : exec .eventRetransmit s =
      (if s.obj 0x1400 8 ≤ e.repeats then .next (s.eventTurn u).dropEvent
      else match (s.eventTurn u).eventRecord e.seq with
        | some q => .next (((q.1.setEvent { e with
            sentAt := some (s.eventTurn u).tb.now, repeats := e.repeats + 1 }).sendEvent { e with
            sentAt := some (s.eventTurn u).tb.now, repeats := e.repeats + 1 } q.2).bump 0x1401 0x0A)
        | none => .next (s.eventTurn u).dropEvent) := by
  show execEventRetransmit s = _
  unfold execEventRetransmit
  rw [he]
  dsimp only
  rw [hu]
  dsimp only
  rw [if_neg (by simp [hcom])]
  exact if_congr (by rw [← s.obj_eventTurn u 0x1400 8]; rfl) rfl rfl

/-- Settles O56: by the event at hand, the frame it is sent in, and the count that follows. -/
theorem muririEvents : Obligations.MuririEvents := by
  unfold Obligations.MuririEvents
  refine ⟨fun e q s he hcom hseq hq hp => ?_, fun e rest u q s he hu hcom hr hq hp => ?_, fun e rest u s he hu hcom hr hquiet => ?_,
    fun f s hg h0 => ?_, fun f v s hg h0 hb => ?_, fun s h => ⟨?_, ?_⟩⟩
  case refine_1 =>
    let w : State := { s with muriri := { s.muriri with tx := [] } }
    have hrun : exec .eventSend s = .next
        (((w.setEvent { e with sentAt := some s.tb.now }).sendEvent { e with sentAt := some s.tb.now } q.toBytes).bump
          0x1401 9) := by
      show execEventSend s = _
      unfold execEventSend
      rw [he]
      dsimp only
      rw [if_neg (by simp [hcom]; omega), State.eventRecord_clean (s := w) hq hp]
      rfl
    have h := w.sendEvent_sent { e with sentAt := some s.tb.now } q.toBytes (Or.inl rfl)
    exact ⟨_, _, hrun, h.port, rfl, rfl, rfl, h.events, h.count, h.frame⟩
  case refine_2 =>
    let e' : Event := { e with sentAt := some (s.eventTurn u).tb.now, repeats := e.repeats + 1 }
    have hrun : exec .eventRetransmit s =
        .next ((((s.eventTurn u).setEvent e').sendEvent e' q.toBytes).bump 0x1401 0x0A) := by
      rw [exec_eventRetransmit he hu hcom, if_neg (by omega), State.eventRecord_clean (s := s.eventTurn u) hq hp]
    have h := (s.eventTurn u).sendEvent_sent e' q.toBytes (Or.inr rfl)
    generalize (((s.eventTurn u).setEvent e').sendEvent e' q.toBytes).bump 0x1401 0x0A = t at hrun h
    have hnow : t.tb.now = (s.eventTurn u).tb.now := by rw [h.frame]
    refine ⟨t, _, hrun, hnow.trans rfl, h.port, rfl, ?_, h.count.trans (by rw [s.obj_eventTurn])⟩
    rw [h.events, hnow, show (s.eventTurn u).events = e :: rest from he]
    simp [e']
  case refine_3 =>
    have hrun : exec .eventRetransmit s = .next (s.eventTurn u).dropEvent := by
      rw [exec_eventRetransmit he hu hcom, if_pos hr]
    obtain ⟨h1, h2, h3, h4⟩ := State.dropEvent_quiet (s := s.eventTurn u) (by
      show (s.pin 59).count + 1 < (s.eventTurn u).obj (0x5010 + 59) 5
      rw [s.obj_eventTurn]
      exact hquiet)
    refine ⟨_, hrun, by rw [h3]; rfl, h1.trans ?_, h2, h4.trans (by rw [s.obj_eventTurn])⟩
    rw [show (s.eventTurn u).events = e :: rest from he]
    rfl
  case refine_4 =>
    have hrun : exec (.eventAck f) s = .next (s.received.ackEvents (field (bodyOf f) 0 6)) :=
      (State.onFrame_gets hg _ _).trans (congrArg _ (if_pos h0))
    refine ⟨_, hrun, congrArg (List.filter _) s.received_events, ?_⟩
    have hp := s.received_posts.frame
    have hmu := s.received_muriri
    unfold State.ackEvents
    dsimp only
    rw [← hmu]
    generalize s.received = u at hp
    rw [hp]
  case refine_5 =>
    have hrun : exec (.eventAck f) s = .next ((s.heard f v).ackEvents (field (bodyOf f) 0 6)) :=
      (State.onFrame_gets hg _ _).trans (congrArg _ ((if_neg h0).trans (State.inSession_bound hb _)))
    exact ⟨_, hrun, congrArg (List.filter _) s.received_events⟩
  case refine_6 =>
    show execEventSend s = _
    unfold execEventSend
    rw [h]
    rfl
  case refine_7 =>
    show execEventRetransmit s = _
    unfold execEventRetransmit
    rw [h]


/-! ### Segmented transfers of the Muriri port (15 R373, R374) -/

/-! #### What an accepted read leaves alone -/

/-- A read changes neither the port's sessions, the time, nor the settings of the port. -/
structure Reads (t s : State) : Prop where
  port : t.muriri = s.muriri
  now : t.tb.now = s.tb.now
  obj : ∀ j, j < 256 → t.obj 0x1400 j = s.obj 0x1400 j

theorem Reads.refl (s : State) : Reads s s := ⟨rfl, rfl, fun _ _ => rfl⟩

theorem Reads.trans {a b c : State} (h : Reads a b) (g : Reads b c) : Reads a c :=
  ⟨h.port.trans g.port, h.now.trans g.now, fun j hj => (h.obj j hj).trans (g.obj j hj)⟩

theorem Reads.of_tells {t s : State} (h : Spares t s) (g : Tells t s) : Reads t s :=
  ⟨h.muriri, h.now, fun j hj => g.obj 0x1400 j hj (told_identity 0x1400 (by decide))⟩

theorem Reads.bump {i j : Nat} (s : State) (hi : 0x5000 ≤ i) (hj : j < 256) : Reads (s.bump i j) s :=
  ⟨rfl, rfl, fun k hk => s.obj_setObj_other _ hk hj (by
    simp only [defaultReads, Bool.or_eq_false_iff, Bool.and_eq_false_iff, decide_eq_false_iff_not, beq_eq_false_iff_ne]
    omega) (Or.inl (by omega))⟩

theorem State.dEventsNow_tells (s : State) (n k : Nat) : Tells (s.dEventsNow n k) s := by
  unfold State.dEventsNow
  split
  · next h =>
    rw [Bool.and_eq_true] at h
    exact (State.raise_tells _ _).trans (s.dEvents_tells (State.pinReached_lt h.1) k)
  · exact Tells.refl s

theorem Reads.ite {c : Prop} [Decidable c] {a b s : State} (ha : Reads a s) (hb : Reads b s) :
    Reads (if c then a else b) s := by split <;> assumption

theorem State.readPoison_reads (s : State) (i j : Nat) : Reads (s.readPoison i j) s := by
  have h : Reads ((s.bump 0x5400 6).dEvent 63) s :=
    (Reads.of_tells (State.dEvent_spares _ 63) (State.dEvent_tells _ 63)).trans (Reads.bump s (by decide) (by decide))
  unfold State.readPoison
  exact Reads.ite h (Reads.refl s)

theorem State.bufferBytes_reads (s : State) (f : Nat → Byte) (a b n : Nat) : Reads (s.bufferBytes f a b n).1 s :=
  ⟨rfl, rfl, fun _ _ => State.obj_same⟩

theorem State.readEffect_reads (s : State) (sess i j n : Nat) (r : ObjRow) : Reads (s.readEffect sess i j n r).1 s := by
  unfold State.readEffect
  split
  · exact ⟨rfl, rfl, fun _ _ => State.obj_same⟩
  · split
    · exact (State.bufferBytes_reads _ _ _ _ _).trans
        (Reads.of_tells (State.dEventsNow_spares _ 6 _) (State.dEventsNow_tells _ 6 _))
    · split
      · exact State.bufferBytes_reads _ _ _ _ _
      · exact s.readPoison_reads i j

/-- A read that is answered with no code. -/
theorem State.readObject_reads {s : State} {sess i j n early : Nat} (h : (s.readObject sess i j n early).answer.code = 0) :
    Reads (s.readObject sess i j n early) s := by
  unfold State.readObject at h ⊢
  dsimp only at h ⊢
  split
  · next hc =>
    rw [if_pos hc] at h
    have hcode : s.readCode sess i j n early = 0 := h
    simp [hcode] at hc
  · cases hr : objRow i j with
    | none => exact Reads.refl s
    | some r =>
      have hq := s.readEffect_reads sess i j n r
      refine ⟨hq.port, hq.now, fun k hk => Eq.trans ?_ (hq.obj k hk)⟩
      exact State.obj_setObj_other _ _ hk (by decide) (by decide) (Or.inl (by decide))

/-! #### Transfers of a session -/

theorem State.segmentDue_congr {t s : State} (hnow : t.tb.now = s.tb.now) (hobj : t.obj 0x1400 0x0A = s.obj 0x1400 0x0A) :
    t.segmentDue = s.tb.now + s.cyc 0x1400 0x0A := by
  unfold State.segmentDue State.cyc
  rw [hnow, hobj]

theorem Posts.due {t s : State} (h : Posts t s.touch) : t.segmentDue = s.tb.now + s.cyc 0x1400 0x0A :=
  State.segmentDue_congr (congrArg (·.now) h.tb) ((h.low (by decide) (by decide)).trans (s.obj_touch 0x1400 0x0A))

theorem State.send_session (s : State) (f : OutFrame) (n : Nat) : (s.send f).muSession n = s.muSession n :=
  State.muSession_congr (by rw [s.send_muriri]) n

/-- Segment `x.next` of a read sent in an open session: one frame, which the transfer keeps. -/
theorem State.sendSegment_open {s : State} {n mac : Nat} {v : MuSession} (h : s.muSession n = some v) (x : Transfer) :
    ∃ r : OutFrame, r.kind = 0x14 ∧ s.sendSegment n mac x = (s.setMu n { v with
      transfer := some { x with misses := 0, due := s.segmentDue, last := r } }).send r := by
  unfold State.sendSegment
  dsimp only
  rw [State.modMu_open h]
  exact ⟨_, rfl, rfl⟩

/-- A segment in order, of the right length and mark. -/
theorem State.takeSegment_right {s : State} {f : Frame} {x : Transfer} (hn : x.next = field (bodyOf f) 2 1)
    (hl : field (bodyOf f) 4 2 = segmentLength x.total x.next)
    (hm : bit (field (bodyOf f) 3 1) 0 = segmentLast x.total x.next) : s.takeSegment f x =
      (let data := x.data ++ ((bodyOf f).drop 8).take (field (bodyOf f) 4 2)
      if segmentLast x.total x.next then s.applySegments f x data
      else
        let r := s.ackFrame f x.seq x.next
        (s.modMu f.session (fun v => { v with transfer := some { x with
          next := x.next + 1, data := data, misses := 0, due := s.segmentDue, last := r } })).send r) := by
  unfold State.takeSegment
  dsimp only
  rw [← hn, if_neg (by omega), if_neg (by simp [hl, hm])]

/-- The state in which a segment timeout acts. -/
def State.segmentTurn (s : State) (u : Nat) : State := { s.atTime u with muriri := { s.muriri with tx := [] } }

theorem State.obj_segmentTurn (s : State) (u i j : Nat) : (s.segmentTurn u).obj i j = s.obj i j :=
  Eq.trans (State.obj_same (s := s.atTime u)) (s.obj_atTime u i j)

theorem exec_segmentTimeout {s : State} {n : Nat} {v : MuSession} {x : Transfer} (hv : s.muSession n = some v)
    (hx : v.transfer = some x) (hcom : s.comRuns = true) : exec (.segmentTimeout n) s =
      (if x.misses = 0 then .next ((((s.segmentTurn x.due).setMu n { v with
          transfer := some { x with misses := 1, due := (s.segmentTurn x.due).segmentDue } }).bump 0x1401 7).send x.last)
      else .next (((s.segmentTurn x.due).abandon n 0x00070001).dEvent 59)) := by
  show execSegmentTimeout n s = _
  unfold execSegmentTimeout
  rw [hv]
  dsimp only
  rw [hx]
  dsimp only
  rw [if_neg (by simp [hcom])]
  rfl

/-- A transfer abandoned: the session keeps nothing of it, and it is counted. -/
theorem State.abandon_open {s : State} {n : Nat} {v : MuSession} {x : Transfer} (hv : s.muSession n = some v)
    (hx : v.transfer = some x) (code : Nat) : (s.abandon n code).muSession n = some { v with transfer := none } ∧
      (s.abandon n code).tb.now = s.tb.now ∧
      (s.abandon n code).obj 0x1401 8 = min (s.obj 0x1401 8 + 1) 0xFFFFFFFF := by
  let r := s.frameFor v.mac 0x16 n x.seq (bytesLE 2 x.seq ++ bytesLE 2 0 ++ bytesLE 4 code)
  have he : s.abandon n code = ((s.send r).setMu n { v with transfer := none }).bump 0x1401 8 := by
    unfold State.abandon
    rw [hv]
    dsimp only
    rw [hx]
  have hpost := (Posts.setMu (s.send r) n { v with transfer := none }).trans (s.send_posts r)
  have hses := (s.send r).muSession_setMu n { v with transfer := none }
  rw [he]
  generalize (s.send r).setMu n { v with transfer := none } = t at hpost hses
  refine ⟨hses, congrArg (·.now) hpost.tb, ?_⟩
  rw [State.obj_bump_same, hpost.obj 0x1401 8 (by decide) (by decide) (Or.inr (by decide))]

/-! #### The statement -/

/-- Settles O55: each frame by the transfer it finds, each timeout by its turn. -/
theorem muririTransfers : Obligations.MuririTransfers := by
  unfold Obligations.MuririTransfers
  refine ⟨fun f v s hg hb hnew ht hcode => ?_, fun f v s hg hb hnew ht hcode => ?_,
    fun f v x s hg hb ht hw hseq hnext hlen hmark hlast => ?_, fun f v x s hg hb ht hw hseq hnext hlen hmark hlast => ?_,
    fun f v x s hg hb ht hw hseq hnext => ?_, fun f v x s hg hb ht hseq => ?_, fun n v x s hv ht hcom => ?_, fun n s hn => ?_⟩
  case refine_1 =>
    have hq : Reads ((s.heard f v).captureRead f).1 (s.heard f v) := State.readObject_reads hcode
    have hrun : exec (.muReadInit f) s = .next _ := (State.onFrame_gets hg _ _).trans
      (congrArg _ (State.muRequest_new hb hnew ht (fun s => s.captureRead f) (fun s r => s.startRead f r)))
    dsimp only at hrun
    have hp := s.heard_posts f v
    have hses := (State.muSession_congr (congrArg Muriri.sessions hq.port) f.session).trans (s.heard_session f v)
    have htx := (congrArg Muriri.tx hq.port).trans (s.heard_tx f v)
    have hnow : ((s.heard f v).captureRead f).1.tb.now = s.tb.now := hq.now.trans (congrArg (·.now) hp.tb)
    have hobj : ((s.heard f v).captureRead f).1.obj 0x1400 0x0A = s.obj 0x1400 0x0A :=
      (hq.obj 0x0A (by decide)).trans ((hp.low (by decide) (by decide)).trans (s.obj_touch 0x1400 0x0A))
    generalize ha : ((s.heard f v).captureRead f).1.frameFor f.src 0x20 f.session f.seq ((s.heard f v).captureRead f).2 = a
      at hrun
    have hkind : a.kind = 0x20 := by
      rw [← ha]
      rfl
    clear ha
    generalize ((s.heard f v).captureRead f).1 = q at hrun hq hses htx hnow hobj hcode
    rw [State.modMu_open (v := { v with heardAt := s.tb.now }) ((q.send_session a _).trans hses)] at hrun
    let g : MuSession := { v with heardAt := s.tb.now, lastSeq := some f.seq, cache := some a, opened := false }
    have hpu : Posts ((q.send a).setMu f.session g) q := (Posts.setMu _ _ _).trans (q.send_posts a)
    have hsu := (q.send a).muSession_setMu f.session g
    have htu : ((q.send a).setMu f.session g).muriri.tx = [a] := by
      refine (congrArg Muriri.tx (q.send_muriri a)).trans ?_
      rw [htx]
      rfl
    change exec (.muReadInit f) s = .next (((q.send a).setMu f.session g).startRead f a) at hrun
    generalize (q.send a).setMu f.session g = u at hrun hpu hsu htu
    have hdue : u.segmentDue = s.tb.now + s.cyc 0x1400 0x0A :=
      State.segmentDue_congr ((congrArg (·.now) hpu.tb).trans hnow) ((hpu.low (by decide) (by decide)).trans hobj)
    unfold State.startRead at hrun
    rw [if_neg (by rw [hpu.answer, hcode]; decide)] at hrun
    obtain ⟨b, hbk, hsend⟩ := State.sendSegment_open (mac := f.src) hsu {
      write := false, index := field (bodyOf f) 0 2, sub := field (bodyOf f) 2 1, total := u.answer.data.length
      seq := f.seq, next := 0, data := u.answer.data, last := a }
    dsimp only at hrun
    rw [hsend, hdue, hpu.answer] at hrun
    refine ⟨_, a, b, _, _, hrun, ?_, hkind, hbk, (State.send_session _ _ _).trans (State.muSession_setMu _ _ _), rfl, rfl, rfl,
      rfl, rfl, rfl, rfl, rfl⟩
    rw [State.send_muriri]
    exact congrArg (· ++ [b]) htu
  case refine_2 =>
    have hrun : exec (.muWriteInit f) s = .next _ := (State.onFrame_gets hg _ _).trans
      (congrArg _ (State.muRequest_new hb hnew ht (fun s => s.checkWrite f) (fun s r => s.startWrite f r)))
    dsimp only at hrun
    have hp := s.heard_posts f v
    have hq : ((s.heard f v).checkWrite f).1 = { s.heard f v with answer := { code := 0, data := [] } } := by
      unfold State.checkWrite
      dsimp only
      rw [hcode]
      rfl
    generalize ha : ((s.heard f v).checkWrite f).1.frameFor f.src 0x20 f.session f.seq ((s.heard f v).checkWrite f).2 = a
      at hrun
    have hkind : a.kind = 0x20 := by
      rw [← ha]
      rfl
    clear ha
    rw [hq] at hrun
    let q : State := { s.heard f v with answer := { code := 0, data := [] } }
    let g : MuSession := { v with heardAt := s.tb.now, lastSeq := some f.seq, cache := some a, opened := false }
    rw [State.modMu_open (v := { v with heardAt := s.tb.now }) ((q.send_session a _).trans (s.heard_session f v))] at hrun
    change exec (.muWriteInit f) s = .next (((q.send a).setMu f.session g).startWrite f a) at hrun
    have hpu : Posts ((q.send a).setMu f.session g) q := (Posts.setMu _ _ _).trans (q.send_posts a)
    have hsu := (q.send a).muSession_setMu f.session g
    have htu : ((q.send a).setMu f.session g).muriri.tx = [a] :=
      (congrArg Muriri.tx (q.send_muriri a)).trans (congrArg (· ++ [a]) (s.heard_tx f v))
    generalize (q.send a).setMu f.session g = u at hrun hpu hsu htu
    have hdue : u.segmentDue = s.tb.now + s.cyc 0x1400 0x0A :=
      State.segmentDue_congr ((congrArg (·.now) hpu.tb).trans (congrArg (·.now) hp.tb))
        ((hpu.low (by decide) (by decide)).trans
          ((State.obj_same (s := s.heard f v)).trans ((hp.low (by decide) (by decide)).trans (s.obj_touch 0x1400 0x0A))))
    unfold State.startWrite at hrun
    rw [if_neg (by rw [hpu.answer]; exact Bool.false_ne_true)] at hrun
    dsimp only at hrun
    rw [State.modMu_open hsu, hdue] at hrun
    refine ⟨_, a, _, hrun, htu, hkind, State.muSession_setMu _ _ _, rfl, ?_⟩
    rw [((Posts.setMu u f.session _).trans hpu).frame]
    have hframe := hp.frame
    show ({ s.heard f v with muriri := _, icu := _, od := _, answer := _ } : State) = _
    generalize s.heard f v = h at hframe
    rw [hframe]
  case refine_3 =>
    have hrun : exec (.muSegment f) s = .next ((s.heard f v).takeSegment f x) := by
      refine (State.onFrame_gets hg _ _).trans (congrArg _ ((State.inSession_bound hb _).trans ?_))
      dsimp only
      rw [ht]
      exact if_pos (by simp [hw, hseq])
    rw [State.takeSegment_right hnext hlen hmark] at hrun
    dsimp only at hrun
    rw [if_neg (by simp [hlast]), State.modMu_open (s.heard_session f v), (s.heard_posts f v).due] at hrun
    have hp := (State.send_posts _ ((s.heard f v).ackFrame f x.seq x.next)).trans
      ((Posts.setMu (s.heard f v) f.session { v with heardAt := s.tb.now, transfer := some { x with
        next := x.next + 1, data := x.data ++ ((bodyOf f).drop 8).take (field (bodyOf f) 4 2), misses := 0
        due := s.tb.now + s.cyc 0x1400 0x0A, last := (s.heard f v).ackFrame f x.seq x.next } }).trans (s.heard_posts f v))
    refine ⟨_, (s.heard f v).ackFrame f x.seq x.next, hrun, ?_, rfl, ?_, hp.frame⟩
    · rw [State.send_muriri]
      exact congrArg (· ++ [_]) (s.heard_tx f v)
    · rw [State.send_session]
      exact State.muSession_setMu _ _ _
  case refine_4 =>
    have hrun : exec (.muSegment f) s = .next ((s.heard f v).takeSegment f x) := by
      refine (State.onFrame_gets hg _ _).trans (congrArg _ ((State.inSession_bound hb _).trans ?_))
      dsimp only
      rw [ht]
      exact if_pos (by simp [hw, hseq])
    rw [State.takeSegment_right hnext hlen hmark] at hrun
    dsimp only at hrun
    rw [if_pos hlast] at hrun
    unfold State.applySegments at hrun
    dsimp only at hrun
    generalize (s.heard f v).writeObject f.session x.index x.sub (x.data ++ ((bodyOf f).drop 8).take (field (bodyOf f) 4 2))
      ((s.heard f v).earlyCode f) = w at hrun ⊢
    generalize hr : w.frameFor f.src 0x20 f.session x.seq (bytesLE 4 w.answer.code) = r at hrun
    have hpost := (State.send_posts (w.modMu f.session (fun v => { v with transfer := none, cache := some r })) r).trans
      (Posts.modMu w f.session _)
    refine ⟨_, r, w.muriri.tx, hrun, ?_, by rw [← hr]; rfl, hpost.answer, ?_, fun z hz => ?_⟩
    · rw [State.send_muriri]
      exact congrArg (· ++ [r]) (w.modMu_tx _ _)
    · rw [hpost.answer, ← hr]
      rfl
    · rw [State.send_session, State.muSession_modMu, Option.map_eq_some_iff] at hz
      obtain ⟨y, -, hy⟩ := hz
      rw [← hy]
  case refine_5 =>
    have hp := s.heard_posts f v
    have hrun : exec (.muSegmentAck f) s = .next (if segmentLast x.total x.next then
        (s.heard f v).setMu f.session { v with heardAt := s.tb.now, transfer := none }
        else (s.heard f v).sendSegment f.session f.src { x with next := x.next + 1 }) := by
      refine (State.onFrame_gets hg _ _).trans (congrArg _ ((State.inSession_bound hb _).trans ?_))
      dsimp only
      rw [ht]
      dsimp only
      rw [if_neg (by simp [hw, hseq, hnext])]
    cases hl : segmentLast x.total x.next with
    | true =>
      rw [if_pos hl] at hrun
      exact ⟨_, _, hrun, State.muSession_setMu _ _ _, fun _ => ⟨rfl, s.heard_tx f v⟩, fun h => absurd h (by simp),
        ((Posts.setMu _ _ _).trans hp).frame⟩
    | false =>
      rw [if_neg (by simp [hl])] at hrun
      obtain ⟨r, hk, hsend⟩ := State.sendSegment_open (mac := f.src) (s.heard_session f v) { x with next := x.next + 1 }
      rw [hsend, hp.due] at hrun
      refine ⟨_, _, hrun, (State.send_session _ _ _).trans (State.muSession_setMu _ _ _), fun h => absurd h (by simp),
        fun _ => ⟨r, ?_, hk, rfl⟩, ((State.send_posts _ _).trans ((Posts.setMu _ _ _).trans hp)).frame⟩
      rw [State.send_muriri]
      exact congrArg (· ++ [r]) (s.heard_tx f v)
  case refine_6 =>
    refine (State.onFrame_gets hg _ _).trans (congrArg _ ((State.inSession_bound hb _).trans ?_))
    dsimp only
    rw [ht]
    exact if_pos hseq
  case refine_7 =>
    have hrun := exec_segmentTimeout hv ht hcom
    by_cases hm : x.misses = 0
    · rw [if_pos hm] at hrun
      generalize hu : ((s.segmentTurn x.due).setMu n { v with
        transfer := some { x with misses := 1, due := (s.segmentTurn x.due).segmentDue } }).bump 0x1401 7 = u at hrun
      have hpost := u.send_posts x.last
      have hnow : u.tb.now = max s.tb.now x.due := by
        rw [← hu]
        rfl
      have hobj : u.obj 0x1401 7 = min (s.obj 0x1401 7 + 1) 0xFFFFFFFF := by
        rw [← hu]
        refine (State.obj_bump_same _ _ _).trans (congrArg (fun n => min (n + 1) 0xFFFFFFFF) ?_)
        exact (State.obj_same (s := s.segmentTurn x.due)).trans (s.obj_segmentTurn _ _ _)
      have hses : u.muSession n = some { v with
          transfer := some { x with misses := 1, due := (s.segmentTurn x.due).segmentDue } } := by
        rw [← hu]
        exact (s.segmentTurn x.due).muSession_setMu n _
      have htx : u.muriri.tx = [] := by
        rw [← hu]
        rfl
      have hdue : (s.segmentTurn x.due).segmentDue = max s.tb.now x.due + s.cyc 0x1400 0x0A :=
        congrArg (fun n => max s.tb.now x.due + cycles n) (s.obj_segmentTurn _ _ _)
      have hclock : (u.send x.last).tb.now = max s.tb.now x.due := (congrArg (·.now) hpost.tb).trans hnow
      refine ⟨_, hrun, hclock, fun _ => ⟨?_, ?_, ?_⟩, fun h => absurd hm h⟩
      · rw [State.send_muriri, htx]
        rfl
      · rw [State.send_session, hses, hdue, hclock]
      · rw [hpost.obj 0x1401 7 (by decide) (by decide) (Or.inr (by decide)), hobj]
    · rw [if_neg hm] at hrun
      have hvt : (s.segmentTurn x.due).muSession n = some v := hv
      obtain ⟨hses, hnow, hobj⟩ := State.abandon_open hvt ht 0x00070001
      generalize (s.segmentTurn x.due).abandon n 0x00070001 = u at hrun hses hnow hobj
      have hs := State.dEvent_spares u 59
      refine ⟨_, hrun, hs.now.trans hnow, fun h => absurd h hm, fun _ => ⟨?_, ?_⟩⟩
      · exact (State.muSession_congr (congrArg Muriri.sessions (Spares.muriri hs)) n).trans hses
      · rw [(u.dEvent_tells 59).obj 0x1401 8 (by decide) (by decide), hobj, s.obj_segmentTurn]
  case refine_8 =>
    show execSegmentTimeout n s = _
    unfold execSegmentTimeout
    rw [hn]


/-! ### A budget accepted in a state whose Assayer lists a group of no array -/

/-- A worker in RUN with the shortfall of an earlier formation noted; pin 60, of the fleet, stands at TRIP level; the Assayer
holds an entry of an array 0xFF0, of which there is none: its counter 0x6010+a:0A is the counter 0x7000:0A of accepted
budgets. -/
def strayEntry : State :=
  (({ State.reset with
    tb := { State.reset.tb with gclk := true }
    gov := { State.reset.gov with st := .run }
    cores := [(3, { st := .running })]
    segment := { State.reset.segment with shortfall := true }
    assayer := { State.reset.assayer with
      entries := [(0, { origin := 0xFF0, ring := 0, tag := 0, grant := 0, dup := 0, selected := 0, limit := 0, window := 0 })] } } :
    State).setObj (0x5010 + 60) 2 4).setObj 0x7000 1 2

/-- A BUDGET of one entry, for member 0. -/
def strayBudget : Frame :=
  { src := 0, dst := broadcastMac, version := 1, kind := 0x41, session := 0, seq := 0, bodyLen := 28, schema := 0x402
    flags := 0, epoch := 0, body := [0, 0, 0, 0, 0, 0, 0, 0, 1] ++ List.replicate 19 0, tag := none }

/-- The grant that its entry makes. -/
def strayGrant : Grant := { mw := 0, up := 0, down := 0, dither := some 0 }

theorem strayBudget_taken : strayEntry.gets strayBudget 0x41 ∧ strayEntry.role = 2 ∧
    strayBudget.src = strayEntry.obj 0x7000 3 ∧ strayEntry.sameSchema strayBudget = true ∧
    strayEntry.segment.lastSeq ≠ some (field (bodyOf strayBudget) 0 4) ∧
    entryFor (bodyOf strayBudget) (strayEntry.obj 0x7000 2) = some strayGrant := by decide +kernel

/-- The trip of pin 60 abandons the entry and counts it: the counter of accepted budgets advances by two. -/
theorem strayBudget_counts : strayEntry.obj 0x7000 0x0A = 0 ∧
    outcomeObj (exec (.budget strayBudget) strayEntry) 0x7000 0x0A = some 2 := by decide +kernel

/-- Refutes O57: the second clause claims the count of accepted budgets of every state; in `strayEntry` the trip of pin 60
abandons an entry whose counter it is. -/
theorem not_segmentCoordination : ¬ Obligations.SegmentCoordination := by
  unfold Obligations.SegmentCoordination
  rintro ⟨-, h, -⟩
  obtain ⟨hgets, hrole, hsrc, hschema, hseq, hentry⟩ := strayBudget_taken
  obtain ⟨t, r, ht, -, -, -, -, hobj⟩ := h strayBudget strayGrant strayEntry hgets hrole hsrc hschema hseq hentry
  obtain ⟨hzero, htwo⟩ := strayBudget_counts
  rw [ht] at htwo
  have hcount : t.obj 0x7000 0x0A = 2 := Option.some.inj htwo
  rw [hcount, hzero] at hobj
  exact absurd hobj (by decide)


/-! ### What COM does with the messages it serves (13 R338, 14 R351 to R353) -/

/-! #### A message served, and its reply -/

/-- A message that nothing refuses reaches what its kind does. -/
theorem State.serve_served {s : State} {c b kind : Nat} (h : s.serves c b kind)
    (f : State → MsgHeader → List Byte → State) : s.serve c b kind f =
      .next (f s (s.slotHeader c b) (s.payload ((s.channel c).slot b).offset (s.slotHeader c b))) := by
  obtain ⟨hc, hb, hcom, hused, hrecv, hst, hhead, hkind, hreply, hpoison, hreq⟩ := h
  unfold State.slotHeader at *
  unfold State.serve
  dsimp only
  rw [if_neg (by simp [hc, hb, hcom, hused, hrecv, hst]), if_neg (by simp [hhead]), if_neg (by simp [hkind, hreply]),
    if_neg (by simp [hreq]), if_neg (by simp [hpoison])]

/-- A reply to a request changes the messages formed alone. -/
theorem State.reply_replied {s : State} {h : MsgHeader} (hreq : bit h.flags 0 = false) (c status : Nat)
    (payload : List Byte) : Replied (s.reply c h status payload) s.replies c h status payload ∧
      s.reply c h status payload =
        { s with free := (s.reply c h status payload).free, replies := (s.reply c h status payload).replies } := by
  unfold State.reply Replied
  by_cases hq : bit h.flags 1 = true
  · rw [if_pos hq, if_pos (by simp [hq])]
    exact ⟨rfl, rfl⟩
  · rw [if_neg hq, if_neg (by simp [hq, hreq])]
    exact ⟨⟨_, rfl⟩, rfl⟩

theorem Spares.replies {t s : State} (h : Spares t s) : t.replies = s.replies := by simp only [h]

theorem State.refuse_replies (s : State) (code : Nat) : (s.refuse code).replies = s.replies := by
  unfold State.refuse State.lateAnswer
  dsimp only
  repeat' split
  all_goals rfl

theorem State.readPoison_replies (s : State) (i j : Nat) : (s.readPoison i j).replies = s.replies := by
  have h : ((s.bump 0x5400 6).dEvent 63).replies = s.replies := (State.dEvent_spares _ 63).replies
  unfold State.readPoison
  dsimp only
  rw [apply_ite State.replies, h, ite_self]

theorem State.readEffect_replies (s : State) (sess i j n : Nat) (r : ObjRow) :
    (s.readEffect sess i j n r).1.replies = s.replies := by
  unfold State.readEffect
  split
  · rfl
  · split
    · exact (State.dEventsNow_spares s 6 _).replies
    · split
      · rfl
      · exact s.readPoison_replies i j

/-- A read forms no message. -/
theorem State.readObject_replies (s : State) (sess i j n early : Nat) :
    (s.readObject sess i j n early).replies = s.replies := by
  unfold State.readObject
  dsimp only
  split
  · exact s.refuse_replies _
  · cases objRow i j with
    | none => rfl
    | some r => exact s.readEffect_replies sess i j n r

/-! #### The statement -/

/-- The session of an accepted Attach. -/
def State.attached (s : State) (driver period : Nat) (asks : Bool) : HostSession :=
  { id := s.assignId.1, driver := driver, period := if period = 0 then 100 else period
    metering := asks && !(s.host.sessions.any (fun p => p.2.metering)), beatAt := s.tb.now, sentAt := s.tb.now }

/-- The state with that session open. -/
def State.withMail (s : State) (c : Nat) (v : HostSession) : State :=
  ({ s.assignId.2 with host := { s.host with hostState := 1, sessions := tset s.host.sessions c v } } : State).dropCause 56 0 0

theorem State.openMail_opens {s : State} {h : MsgHeader} (hreq : bit h.flags 0 = false) (c driver period : Nat) (asks : Bool) :
    (s.openMail c h driver period asks).host =
        { s.host with hostState := 1, sessions := tset s.host.sessions c (s.attached driver period asks) } ∧
      s.openMail c h driver period asks = { s with
        host := (s.openMail c h driver period asks).host
        access := (s.openMail c h driver period asks).access
        pins := (s.openMail c h driver period asks).pins
        free := (s.openMail c h driver period asks).free
        replies := (s.openMail c h driver period asks).replies } := by
  obtain ⟨payload, he⟩ : ∃ payload, s.openMail c h driver period asks =
      (s.withMail c (s.attached driver period asks)).reply c h 0 payload := ⟨_, rfl⟩
  obtain ⟨-, hframe⟩ := (s.withMail c (s.attached driver period asks)).reply_replied hreq c 0 payload
  rw [he, hframe]
  exact ⟨rfl, rfl⟩

theorem exec_objectRead {s : State} {c b : Nat} {p : List Byte} (h : s.serves c b msgObjectRead)
    (hp : s.payload ((s.channel c).slot b).offset (s.slotHeader c b) = p) (hlen : 8 ≤ p.length) :
    exec (.objectRead c b) s = .next
      (let w := s.readObject (s.slotHeader c b).session (natLE (p.take 2)) (natLE ((p.drop 2).take 1))
        (natLE ((p.drop 4).take 2)) 0
      w.reply c (s.slotHeader c b) w.answer.code (bytesLE 4 w.answer.data.length ++ w.answer.data)) := by
  show execObjectRead c b s = _
  unfold execObjectRead
  rw [State.serve_served h, hp]
  dsimp only
  rw [if_neg (by omega)]

theorem exec_objectWrite {s : State} {c b : Nat} {p : List Byte} (h : s.serves c b msgObjectWrite)
    (hp : s.payload ((s.channel c).slot b).offset (s.slotHeader c b) = p)
    (hlen : 8 + natLE ((p.drop 4).take 4) ≤ p.length) : exec (.objectWrite c b) s = .next
      (let w := s.writeObject (s.slotHeader c b).session (natLE (p.take 2)) (natLE ((p.drop 2).take 1))
        ((p.drop 8).take (natLE ((p.drop 4).take 4))) 0
      w.reply c (s.slotHeader c b) w.answer.code []) := by
  show execObjectWrite c b s = _
  unfold execObjectWrite
  rw [State.serve_served h, hp]
  dsimp only
  rw [if_neg (by simp; omega)]

/-- An Attach of the host is refused with its status, or opens its session. -/
theorem exec_attach {s : State} {c b : Nat} {p : List Byte} (h : s.serves c b msgAttach) (hs : s.sender c = 4)
    (hp : s.payload ((s.channel c).slot b).offset (s.slotHeader c b) = p) (hlen : 12 ≤ p.length) :
    exec (.attach c b) s = .next
      (if s.attachStatus c (natLE ((p.drop 4).take 2)) (natLE ((p.drop 8).take 4)) != 0 then
        s.reply c (s.slotHeader c b) (s.attachStatus c (natLE ((p.drop 4).take 2)) (natLE ((p.drop 8).take 4))) []
      else s.openMail c (s.slotHeader c b) (natLE ((p.drop 0).take 4)) (natLE ((p.drop 4).take 2))
        (bit (natLE ((p.drop 6).take 2)) 0)) := by
  show execAttach c b s = _
  unfold execAttach
  rw [if_neg (by simp [hs]), State.serve_served h, hp]
  dsimp only
  rw [if_neg (by omega)]

theorem exec_hostLost {s : State} {n c : Nat} {v : HostSession} (hn : s.mailSession n = some (c, v))
    (hcom : s.comRuns = true) : exec (.hostLost n) s = .next
      ((({ ((s.atTime (v.beatAt + msCycles (s.obj 0x7400 2 * v.period))).epochChange 4).closeAllMail with
          host := { ((s.atTime (v.beatAt + msCycles (s.obj 0x7400 2 * v.period))).epochChange 4).closeAllMail.host with
            hostState := 3 } } : State).bump 0x7400 5).raiseCause 56 0 0 0 0) := by
  show execHostLost n s = _
  unfold execHostLost
  rw [hn]
  exact if_pos hcom

/-- Closing mailbox sessions counts nothing and changes no epoch. -/
theorem State.closeAllMail_rest (s : State) : s.closeAllMail.od = s.od ∧ s.closeAllMail.cfg = s.cfg ∧
    s.closeAllMail.epochs = s.epochs ∧ s.closeAllMail.tb = s.tb := by
  have h : ∀ (u : State) (c : Nat), (u.closeMail c).od = u.od ∧ (u.closeMail c).cfg = u.cfg ∧
      (u.closeMail c).epochs = u.epochs ∧ (u.closeMail c).tb = u.tb := fun u c => by
    unfold State.closeMail
    split <;> exact ⟨rfl, rfl, rfl, rfl⟩
  refine each_carries (f := State.closeMail) (fun t : State => t.od = s.od ∧ t.cfg = s.cfg ∧ t.epochs = s.epochs ∧ t.tb = s.tb)
    (fun t c ht => ?_) _ s ⟨rfl, rfl, rfl, rfl⟩
  obtain ⟨h1, h2, h3, h4⟩ := h t c
  obtain ⟨g1, g2, g3, g4⟩ := ht
  exact ⟨h1.trans g1, h2.trans g2, h3.trans g3, h4.trans g4⟩

theorem Spares.host {t s : State} (h : Spares t s) : t.host = s.host := by simp only [h]

theorem Spares.epochs {t s : State} (h : Spares t s) : t.epochs = s.epochs := by simp only [h]

/-- A session closed; after the last one the host is detached. -/
def State.detached (s : State) (c : Nat) : State :=
  if (s.closeMail c).host.sessions.isEmpty then
    { s.closeMail c with host := { (s.closeMail c).host with hostState := 2 } }
  else s.closeMail c

theorem State.detached_closes (s : State) (c : Nat) : (s.detached c).host.sessions = tdel s.host.sessions c ∧
    (s.detached c).host.hostState = (if (tdel s.host.sessions c).isEmpty then 2 else s.host.hostState) ∧
    s.detached c = { s with host := (s.detached c).host, access := (s.detached c).access } := by
  have hses := s.closeMail_sessions c
  have hframe : s.closeMail c = { s with host := (s.closeMail c).host, access := (s.closeMail c).access } := by
    unfold State.closeMail
    split <;> rfl
  have hstate : (s.closeMail c).host.hostState = s.host.hostState := by
    unfold State.closeMail
    split <;> rfl
  unfold State.detached
  generalize s.closeMail c = u at hses hframe hstate
  rw [hses]
  split
  · exact ⟨hses, rfl, by rw [hframe]⟩
  · exact ⟨hses, hstate, by rw [hframe]⟩

/-- Settles O47: each message by what its kind does, each timer by its turn. -/
theorem mailMessages : Obligations.MailMessages := by
  unfold Obligations.MailMessages
  refine ⟨fun c b s h hlen => ?_, fun c b s h hlen => ?_, fun c b s h hs hlen hok => ?_, fun c b s h hs hlen hbad => ?_,
    fun c b s h => ?_, fun c b s h => ?_, fun n c v s hn hcom => ?_, fun n c v s hn hcom => ?_, fun n s hn => ⟨?_, ?_⟩⟩
  case refine_1 =>
    obtain ⟨-, -, -, -, -, -, -, -, hreq, -⟩ := id h
    generalize hp : s.payload ((s.channel c).slot b).offset (s.slotHeader c b) = p at hlen ⊢
    have hrun := exec_objectRead h hp hlen
    have hrep := s.readObject_replies (s.slotHeader c b).session (natLE (p.take 2)) (natLE ((p.drop 2).take 1))
      (natLE ((p.drop 4).take 2)) 0
    dsimp only at hrun
    rw [List.drop_zero]
    generalize s.readObject (s.slotHeader c b).session (natLE (p.take 2)) (natLE ((p.drop 2).take 1))
      (natLE ((p.drop 4).take 2)) 0 = w at hrun hrep ⊢
    obtain ⟨hreplied, hframe⟩ := w.reply_replied hreq c w.answer.code (bytesLE 4 w.answer.data.length ++ w.answer.data)
    generalize w.reply c (s.slotHeader c b) w.answer.code (bytesLE 4 w.answer.data.length ++ w.answer.data) = t
      at hrun hreplied hframe
    have hanswer : t.answer = w.answer := by rw [hframe]
    rw [← hrep]
    exact ⟨t, hrun, hanswer, hanswer.symm ▸ hreplied, hframe⟩
  case refine_2 =>
    obtain ⟨-, -, -, -, -, -, -, -, hreq, -⟩ := id h
    generalize hp : s.payload ((s.channel c).slot b).offset (s.slotHeader c b) = p at hlen ⊢
    have hrun := exec_objectWrite h hp hlen
    dsimp only at hrun
    rw [List.drop_zero]
    generalize s.writeObject (s.slotHeader c b).session (natLE (p.take 2)) (natLE ((p.drop 2).take 1))
      ((p.drop 8).take (natLE ((p.drop 4).take 4))) 0 = w at hrun ⊢
    obtain ⟨hreplied, hframe⟩ := w.reply_replied hreq c w.answer.code []
    generalize w.reply c (s.slotHeader c b) w.answer.code [] = t at hrun hreplied hframe
    have hanswer : t.answer = w.answer := by rw [hframe]
    exact ⟨t, w.replies, hrun, hanswer.symm ▸ hreplied, hframe⟩
  case refine_3 =>
    obtain ⟨-, -, -, -, -, -, -, -, hreq, -⟩ := id h
    generalize hp : s.payload ((s.channel c).slot b).offset (s.slotHeader c b) = p at hlen hok ⊢
    have hrun := exec_attach h hs hp hlen
    rw [if_neg (by simp [hok])] at hrun
    obtain ⟨hhost, hframe⟩ := State.openMail_opens (s := s) hreq c (natLE ((p.drop 0).take 4)) (natLE ((p.drop 4).take 2))
      (bit (natLE ((p.drop 6).take 2)) 0)
    exact ⟨_, _, hrun, hhost, rfl, rfl, rfl, rfl, rfl, hframe⟩
  case refine_4 =>
    obtain ⟨-, -, -, -, -, -, -, -, hreq, -⟩ := id h
    generalize hp : s.payload ((s.channel c).slot b).offset (s.slotHeader c b) = p at hlen hbad ⊢
    have hrun := exec_attach h hs hp hlen
    rw [if_pos (by simpa using hbad)] at hrun
    obtain ⟨hreplied, hframe⟩ := s.reply_replied hreq c
      (s.attachStatus c (natLE ((p.drop 4).take 2)) (natLE ((p.drop 8).take 4))) []
    exact ⟨_, hrun, hreplied, hframe⟩
  case refine_5 =>
    obtain ⟨-, -, -, -, -, -, -, -, hreq, -⟩ := id h
    have hrun : exec (.heartbeat c b) s = .next ((s.beat c).reply c (s.slotHeader c b) 0 []) := by
      show execHeartbeat c b s = _
      unfold execHeartbeat
      rw [State.serve_served (kind := msgHeartbeat) h]
      dsimp only
      rw [if_neg (by simp [hreq])]
    obtain ⟨hrep, hframe⟩ := (s.beat c).reply_replied hreq c 0 []
    refine ⟨_, hrun, ?_, hrep, ?_⟩
    · rw [hframe]
      rfl
    · rw [hframe]
      rfl
  case refine_6 =>
    obtain ⟨-, -, -, -, -, -, -, -, hreq, -⟩ := id h
    have hrun : exec (.detach c b) s = .next ((s.detached c).reply c (s.slotHeader c b) 0 []) := by
      show execDetach c b s = _
      unfold execDetach
      rw [State.serve_served (kind := msgDetach) h]
      rfl
    obtain ⟨hrep, hframe⟩ := (s.detached c).reply_replied hreq c 0 []
    obtain ⟨hses, hstate, hdet⟩ := s.detached_closes c
    have hreplies : (s.detached c).replies = s.replies := by rw [hdet]
    rw [hreplies] at hrep
    refine ⟨_, hrun, ?_, ?_, hrep, ?_⟩
    · rw [hframe]
      exact hses
    · rw [hframe]
      exact hstate
    · rw [hframe]
      generalize s.detached c = u at hdet
      rw [hdet]
  case refine_7 =>
    let w := s.atTime (v.sentAt + msCycles v.period)
    let u : State := { w with host := { s.host with
      beats := (s.host.beats + 1) % 2 ^ 32, sessions := tset s.host.sessions c { v with sentAt := w.tb.now } } }
    have hrun : exec (.heartbeatSend n) s = .next (u.formMessage (pairedChannel c) 0 msgHeartbeat n 0 0
        (bytesLE 2 (u.epoch 3) ++ bytesLE 1 u.gov.st.code ++ bytesLE 1 u.highestLevel ++
          bytesLE 4 ((s.host.beats + 1) % 2 ^ 32))) := by
      show execHeartbeatSend n s = _
      unfold execHeartbeatSend
      rw [hn]
      exact if_pos hcom
    refine ⟨_, hrun, rfl, rfl, ?_, rfl⟩
    unfold State.formMessage
    exact List.length_append
  case refine_8 =>
    have hrun := exec_hostLost hn hcom
    have hsweeps := (s.atTime (v.beatAt + msCycles (s.obj 0x7400 2 * v.period))).epochChange_sweeps 4
    generalize (s.atTime (v.beatAt + msCycles (s.obj 0x7400 2 * v.period))).epochChange 4 = u at hrun hsweeps
    obtain ⟨hod, hcfg, hep, htb⟩ := u.closeAllMail_rest
    have hses := u.closeAllMail_sessions
    generalize u.closeAllMail = w at hrun hod hcfg hep htb hses
    have hepoch : w.epoch 4 = (s.epoch 4 + 1) % 2 ^ 16 := by
      unfold State.epoch
      rw [hep, hsweeps.frame]
      exact tget_tset_same _ _ _ _
    have hnow : w.tb.now = max s.tb.now (v.beatAt + msCycles (s.obj 0x7400 2 * v.period)) := by
      rw [htb, hsweeps.frame]
      rfl
    have hobj : w.obj 0x7400 5 = s.obj 0x7400 5 :=
      (State.obj_congr hod hcfg _ _).trans ((hsweeps.obj 0x7400 5 (by decide) (by decide) (by decide)).trans
        ((State.obj_same (s := s.atTime (v.beatAt + msCycles (s.obj 0x7400 2 * v.period)))).trans (s.obj_atTime _ _ _)))
    let x : State := { w with host := { w.host with hostState := 3 } }
    have hcount : (x.bump 0x7400 5).obj 0x7400 5 = min (s.obj 0x7400 5 + 1) 0xFFFFFFFF :=
      (x.obj_bump_same _ _).trans (congrArg (fun n => min (n + 1) 0xFFFFFFFF) ((State.obj_same (s := w)).trans hobj))
    change exec (.hostLost n) s = .next ((x.bump 0x7400 5).raiseCause 56 0 0 0 0) at hrun
    have hspares := State.raiseCause_spares (x.bump 0x7400 5) 56 0 0 0 0
    have htells := State.raiseCause_tells (x.bump 0x7400 5) 56 0 0 0 0
    refine ⟨_, hrun, ?_, ?_, ?_, (htells.obj 0x7400 5 (by decide) (by decide)).trans hcount, hspares.now.trans hnow⟩
    · rw [hspares.host]
      exact hses
    · rw [hspares.host]
      rfl
    · unfold State.epoch
      rw [hspares.epochs]
      exact hepoch
  case refine_9 =>
    show execHeartbeatSend n s = _
    unfold execHeartbeatSend
    rw [hn]
  case refine_10 =>
    show execHostLost n s = _
    unfold execHostLost
    rw [hn]


/-! ### What faults and transitions keep of answers, sweeps, taps and domains

A trip isolates domains and takes the used and missing taps of those with power-good to IDLE; the last reading of a tap, a
mask, an answer on a port and the end of a sweep's settle time outlast it. -/

/-- A domain isolated with every stage fallen (10 R259). -/
def Domain.isolated (v : Domain) : Domain :=
  { v with
    st := if v.st == .faulted then .faulted else if v.st == .unused then .unused else .off
    stages := 0, iso := true, wanted := false, rushWait := none, retry := false, retryAt := none,
    stageAt := none, pgEnd := none, pgAt := none, isoAt := none, censusDone := false, censusEnd := none,
    drainEnd := none, after := .off, written := v.written && v.st == .off, meterFrom := false }

theorem Domain.isolated_isolated (v : Domain) : v.isolated.isolated = v.isolated := by
  cases h : v.st <;> simp [Domain.isolated, h]

/-- The last reading of a tap stays, and its state, or it is IDLE; a MASKED tap stays so. -/
structure DroopTap.Keeps (v w : DroopTap) : Prop where
  code : w.code = v.code
  volts : w.volts = v.volts
  sum : w.sum = v.sum
  count : w.count = v.count
  st : w.st = v.st ∨ w.st = .idle
  masked : v.st = .masked → w.st = .masked

theorem DroopTap.Keeps.refl (v : DroopTap) : DroopTap.Keeps v v := ⟨rfl, rfl, rfl, rfl, Or.inl rfl, fun h => h⟩

theorem DroopTap.Keeps.trans {u v w : DroopTap} (h : DroopTap.Keeps u v) (g : DroopTap.Keeps v w) : DroopTap.Keeps u w where
  code := g.code.trans h.code
  volts := g.volts.trans h.volts
  sum := g.sum.trans h.sum
  count := g.count.trans h.count
  st := by
    rcases g.st with e | e
    · rw [e]; exact h.st
    · exact Or.inr e
  masked := fun hm => g.masked (h.masked hm)

/-- Answers on the ports and the counts of evaluations stay, no prediction is taken, no settle time of a sweep begins,
taps keep their readings, a domain is as it was or isolated, and no power-down begins. -/
structure Retains (t s : State) : Prop where
  answers : t.tally.answers = s.tally.answers
  evals : (t.tally.evalsH, t.tally.fallbacksH) = (s.tally.evalsH, s.tally.fallbacksH)
  taken : s.tally.taken = [] → t.tally.taken = []
  settle : s.assayer.sweep.settleEnd = none → t.assayer.sweep.settleEnd = none
  tap : ∀ k, DroopTap.Keeps (s.tap k) (t.tap k)
  domain : ∀ d, t.domain d = s.domain d ∨ t.domain d = (s.domain d).isolated
  up : s.gov.seqDown = false → t.gov.seqDown = false

theorem Retains.refl (s : State) : Retains s s :=
  ⟨rfl, rfl, fun h => h, fun h => h, fun _ => DroopTap.Keeps.refl _, fun _ => Or.inl rfl, fun h => h⟩

theorem Retains.trans {a b c : State} (h : Retains a b) (g : Retains b c) : Retains a c where
  answers := h.answers.trans g.answers
  evals := h.evals.trans g.evals
  taken := fun x => h.taken (g.taken x)
  settle := fun x => h.settle (g.settle x)
  tap := fun k => (g.tap k).trans (h.tap k)
  up := fun x => h.up (g.up x)
  domain := fun d => by
    rcases h.domain d with e | e <;> rcases g.domain d with f | f <;> rw [e, f]
    · exact Or.inl rfl
    · exact Or.inr rfl
    · exact Or.inr rfl
    · exact Or.inr (Domain.isolated_isolated _)

theorem Retains.ite {c : Prop} [Decidable c] {a b s : State} (ha : Retains a s) (hb : Retains b s) :
    Retains (if c then a else b) s := by split <;> assumption

theorem Retains.each {α : Type} {f : State → α → State} (h : ∀ s x, Retains (f s x) s) (l : List α) (s : State) :
    Retains (each l f s) s :=
  each_carries (fun t => Retains t s) (fun t x ht => (h t x).trans ht) l s (Retains.refl s)

theorem Retains.of_units {t s : State} (hs : s.assayer.sweep.settleEnd = none → t.assayer.sweep.settleEnd = none)
    (hu : s.gov.seqDown = false → t.gov.seqDown = false) (ht : t.taps = s.taps := by rfl)
    (hd : t.domains = s.domains := by rfl) (ha : t.tally.answers = s.tally.answers := by rfl)
    (he : (t.tally.evalsH, t.tally.fallbacksH) = (s.tally.evalsH, s.tally.fallbacksH) := by rfl)
    (hk : t.tally.taken = s.tally.taken := by rfl) : Retains t s where
  answers := ha
  evals := he
  taken := fun h => hk.trans h
  settle := hs
  tap := fun k => by unfold State.tap; rw [ht]; exact DroopTap.Keeps.refl _
  domain := fun d => by unfold State.domain; rw [hd]; exact Or.inl rfl
  up := hu

theorem Retains.of_eq {t s : State} (ht : t.taps = s.taps := by rfl) (hd : t.domains = s.domains := by rfl)
    (ha : t.tally.answers = s.tally.answers := by rfl)
    (he : (t.tally.evalsH, t.tally.fallbacksH) = (s.tally.evalsH, s.tally.fallbacksH) := by rfl)
    (hk : t.tally.taken = s.tally.taken := by rfl)
    (hs : t.assayer.sweep.settleEnd = s.assayer.sweep.settleEnd := by rfl)
    (hg : t.gov.seqDown = s.gov.seqDown := by rfl) : Retains t s :=
  Retains.of_units (fun h => hs.trans h) (fun h => hg.trans h) ht hd ha he hk

theorem Noted.retains {t s : State} (h : Noted t s) : Retains t s := by
  unfold Noted at h
  rw [h]
  exact Retains.of_eq

/-! #### The parts of a transition -/

theorem State.signal_retains (s : State) (n : Nat) : Retains (s.signal n) s := (State.signal_noted s n).retains

theorem State.record_retains (s : State) (a b c : Nat) (v : Bool) : Retains (s.record a b c v) s :=
  (State.enqueueGroup_noted _ _ _).retains

theorem State.stopRun_retains (s : State) : Retains s.stopRun s := by
  unfold State.stopRun
  refine Retains.ite (Retains.ite Retains.of_eq ((State.signal_retains _ _).trans Retains.of_eq)) (Retains.refl s)

theorem State.abortSweep_retains (s : State) : Retains s.abortSweep s := by
  unfold State.abortSweep
  extract_lets s1 r w s2
  have h1 : Retains s1 s := Retains.ite s.stopRun_retains (Retains.refl s)
  have h2 : Retains s2 s := Retains.trans (b := s1) Retains.of_eq h1
  exact Retains.ite ((State.signal_retains _ _).trans (Retains.trans (b := s2) (Retains.of_units (fun _ => rfl) fun h => h) h2)) (Retains.refl s)

theorem State.endInjection_retains (s : State) (st : Nat) : Retains (s.endInjection st) s := by
  unfold State.endInjection
  exact Retains.ite ((State.signal_retains _ _).trans Retains.of_eq) (Retains.refl s)

theorem State.abortService_retains (s : State) : Retains s.abortService s :=
  (State.stopRun_retains _).trans ((State.abortSweep_retains _).trans (State.endInjection_retains _ _))

theorem State.avsZero_retains (s : State) : Retains s.avsZero s := by
  refine Retains.each (fun t r => ?_) s.railsUsed s
  exact Retains.of_eq

theorem State.abortShed_retains (s : State) (r : Nat) : Retains (s.abortShed r) s := by
  unfold State.abortShed
  exact Retains.ite Retains.of_eq Retains.of_eq

theorem State.abortSheds_retains (s : State) : Retains s.abortSheds s :=
  Retains.each (fun t r => t.abortShed_retains r) _ s

theorem State.unlearnAll_retains (s : State) (b : Nat) : Retains (s.unlearnAll b) s := by
  refine Retains.each (fun t r => ?_) s.railsUsed s
  exact Retains.of_eq

theorem State.railOff_retains (s : State) (r : Nat) : Retains (s.railOff r) s := by
  unfold State.railOff
  exact Retains.ite Retains.of_eq Retains.of_eq

theorem State.finishEvent_retains (s : State) (d : Nat) : Retains (s.finishEvent d) s := by
  unfold State.finishEvent
  exact Retains.ite Retains.of_eq (Retains.refl s)

/-- A tap whose state no loss of power-good of its domain masks or unmasks. -/
theorem State.modTap_retains (s : State) (k : Nat) {f : DroopTap → DroopTap} (h : DroopTap.Keeps (s.tap k) (f (s.tap k))) :
    Retains (s.modTap k f) s := by
  refine ⟨rfl, rfl, fun h => h, fun hs => hs, fun j => ?_, fun _ => Or.inl rfl, fun hu => hu⟩
  rw [State.modTap_eq, State.tap_setTap]
  split
  · next hj => rw [hj]; exact h
  · exact DroopTap.Keeps.refl _

/-- A tap at the loss of power-good of its domain (05 R123, R136). -/
def DroopTap.lost (p : DroopTap) : DroopTap :=
  if p.st == .valid || p.st == .suspect || p.st == .missing then
    { p with st := .idle, suspect := 0, agreed := none, parityBad := false, reach := 0, run := 0 }
  else { p with reach := 0, run := 0 }

theorem DroopTap.keeps_lost (p : DroopTap) : DroopTap.Keeps p p.lost := by
  unfold DroopTap.lost
  split
  · next h => exact ⟨rfl, rfl, rfl, rfl, Or.inr rfl, fun hm => by rw [hm] at h; exact absurd h (by decide)⟩
  · exact ⟨rfl, rfl, rfl, rfl, Or.inl rfl, fun h => h⟩

theorem State.droopLoss_retains (s : State) (d : Nat) : Retains (s.droopLoss d) s := by
  unfold State.droopLoss
  extract_lets s1 w s2 s3
  have h1 : Retains s1 s := (State.finishEvent_retains _ d).trans Retains.of_eq
  have h3 : Retains s3 s := Retains.trans (b := s1) Retains.of_eq h1
  exact (Retains.each (fun t k => t.modTap_retains k (t.tap k).keeps_lost) _ s3).trans h3

theorem State.droopLoss_domains (s : State) (d : Nat) : (s.droopLoss d).domains = s.domains := by
  have h : (s.droopLoss d).domains = ((s.setDroop d ((s.droop d).account s.tb.now)).finishEvent d).domains := by
    unfold State.droopLoss
    extract_lets s1 w s2 s3
    refine each_carries (fun t => t.domains = s3.domains) (fun t k ht => ?_) _ s3 rfl
    exact ht
  rw [h]
  unfold State.finishEvent
  dsimp only
  split <;> rfl

theorem State.isolateDomain_domain (s : State) (d e : Nat) :
    (s.isolateDomain d).domain e = if e = d then (s.domain d).isolated else s.domain e := by
  unfold State.isolateDomain
  extract_lets v s1 w
  have h1 : s1.domains = s.domains := by
    show (if v.good then s.droopLoss d else s).domains = _
    split
    · exact s.droopLoss_domains d
    · rfl
  have hd : ∀ j, s1.domain j = s.domain j := fun j => by unfold State.domain; rw [h1]
  rw [State.domain_setDomain]
  split
  · rw [show w = s.domain d from hd d]; rfl
  · exact hd e

theorem State.isolateDomain_retains (s : State) (d : Nat) : Retains (s.isolateDomain d) s := by
  have h : Retains (if (s.domain d).good then s.droopLoss d else s) s :=
    Retains.ite (s.droopLoss_retains d) (Retains.refl s)
  refine ⟨h.answers, h.evals, h.taken, h.settle, h.tap, fun e => ?_, h.up⟩
  rw [s.isolateDomain_domain]
  split
  · next he => rw [he]; exact Or.inr rfl
  · exact Or.inl rfl

theorem State.tallyClear_retains (s : State) : Retains s.tallyClear s := by
  unfold State.tallyClear
  extract_lets s1 w
  have h1 : Retains s1 s := Retains.each (fun t f => by cases f <;> exact Retains.of_eq) _ s
  exact ⟨h1.answers, h1.evals, fun _ => rfl, h1.settle, h1.tap, h1.domain, h1.up⟩

theorem State.releaseSafe_retains (s : State) (e : Entry) : Retains (s.releaseSafe e) s := by
  unfold State.releaseSafe State.lowerStretch
  split
  · exact Retains.refl s
  · exact Retains.ite (Retains.ite Retains.of_eq Retains.of_eq) (Retains.refl s)

theorem State.fenceCount_retains (s : State) (a b c : Nat) : Retains (s.fenceCount a b c) s := by
  unfold State.fenceCount
  exact Retains.ite Retains.of_eq Retains.of_eq

theorem State.request_retains (s : State) (w : W64) : Retains (s.request w) s := by
  unfold State.request
  exact Retains.ite Retains.of_eq (Retains.refl s)

theorem State.unassay_retains (s : State) (k : Nat) (e : Entry) (sub : Nat) (rel : Bool) :
    Retains (s.unassay k e sub rel) s := by
  unfold State.unassay onlyIf
  have h1 : Retains ((s.dropEntry k).releaseSafe e) s := (State.releaseSafe_retains _ e).trans Retains.of_eq
  have h2 : Retains (((s.dropEntry k).releaseSafe e |>.bump 0x6001 sub).bump (0x6010 + e.origin) 0x0A) s :=
    Retains.trans (b := (s.dropEntry k).releaseSafe e) Retains.of_eq h1
  have h3 := (State.fenceCount_retains _ e.window 0 1).trans h2
  exact Retains.ite ((State.request_retains _ _).trans h3) h3

theorem State.abandonAssays_retains (s : State) : Retains s.abandonAssays.1 s := by
  have h := Retains.each (fun t (p : Nat × Entry) => t.unassay_retains p.1 p.2 9 false) s.assayer.entries s
  unfold State.abandonAssays
  dsimp only
  generalize Sys2Proof.Machine.each s.assayer.entries _ s = t at h
  exact Retains.trans (b := t) Retains.of_eq h

/-! #### Triggers and transitions -/

theorem State.queueEvent_retains (s : State) (a b c : Nat) : Retains (s.queueEvent a b c).1 s := by
  unfold State.queueEvent
  dsimp only
  split <;> exact Retains.of_eq

theorem State.arrive_retains (s : State) (n kind idx cause pa : Nat) : Retains (s.arrive n kind idx cause pa).1 s := by
  rw [State.arrive_eq]
  refine Retains.trans (Retains.ite (State.abortService_retains _) (Retains.refl _)) (Retains.trans ?_
    (s.arrived_noted n kind idx cause pa).retains)
  unfold State.arriveEvent
  split
  · exact State.queueEvent_retains _ _ _ _
  · exact Retains.refl _

theorem State.mark_retains (s : State) (new : GovState) (why : Nat) : Retains (s.mark new why) s := by
  unfold State.mark
  extract_lets old s1 s2 wakes w1 s3 w2 s4 s5 w3 s6
  have h2 : Retains s2 s := Retains.trans (b := s1) Retains.of_eq (State.record_retains _ _ _ _ _)
  have hup : s2.gov.seqDown = false → s4.gov.seqDown = false := fun h => by
    show (if old == .service then false else s2.gov.seqDown) = false
    rw [h, ite_self]
  have h4 : Retains s4 s := Retains.trans (b := s2) (Retains.of_units (fun h => h) hup) h2
  have h5 : Retains s5 s := Retains.ite h4 ((State.unlearnAll_retains _ _).trans h4)
  have h6 : Retains s6 s := Retains.ite (Retains.trans (b := s5) Retains.of_eq h5) h5
  exact (State.signal_retains _ _).trans h6

theorem Retains.gov (s : State) (g : Gov) (h : s.gov.seqDown = false → g.seqDown = false) : Retains { s with gov := g } s :=
  Retains.of_units (fun h => h) h

theorem State.creditsZero_retains (s : State) : Retains s.creditsZero s := Retains.of_eq

theorem State.enterReady_retains (s : State) : Retains s.enterReady.1 s := by
  unfold State.enterReady
  have h : Retains s.creditsReady.tallyClear s := (State.tallyClear_retains _).trans Retains.of_eq
  exact (State.abandonAssays_retains _).trans (Retains.trans (b := s.creditsReady.tallyClear) Retains.of_eq h)

theorem State.enterSafe_retains (s : State) (from_ : GovState) : Retains (s.enterSafe from_) s := by
  unfold State.enterSafe
  extract_lets s1 s2 s3
  have h1 : Retains s1 s := Retains.ite s.abortService_retains (Retains.refl s)
  have h2 : Retains s2 s := (State.abortSheds_retains _).trans ((State.avsZero_retains _).trans h1)
  have h3 : Retains s3 s2 := by
    refine Retains.each (fun t r => ?_) s2.railsUsed s2
    exact Retains.of_eq
  exact Retains.trans (b := s3) (Retains.of_units (fun h => h) fun _ => rfl) (h3.trans h2)

theorem State.enterTrip_retains (s : State) (why : Nat) : Retains (s.enterTrip why).1 s := by
  unfold State.enterTrip
  extract_lets w s1 s2 s3 s4 s5
  have h1 : Retains s1 s := Retains.of_units (fun h => h) fun _ => rfl
  have h2 : Retains s2 s := (State.avsZero_retains _).trans ((State.abortService_retains _).trans h1)
  have h3 : Retains s3 s := Retains.trans (b := s2) Retains.of_eq h2
  have h4 : Retains s4 s := (Retains.each (fun t r => t.railOff_retains r) _ s3).trans h3
  have h5 : Retains s5 s := (Retains.each (fun t d => t.isolateDomain_retains d) _ s4).trans h4
  exact (State.abandonAssays_retains _).trans ((State.tallyClear_retains _).trans ((State.creditsZero_retains s5).trans h5))

theorem State.enterRun_retains (s : State) (from_ : GovState) : Retains (s.enterRun from_) s := by
  unfold State.enterRun
  extract_lets s1
  have h : Retains s1 s := by
    refine Retains.each (fun t r => ?_) s.railsUsed s
    exact Retains.of_eq
  exact Retains.trans (b := s1) Retains.of_eq h

theorem State.transit_retains (s : State) (new : GovState) (why : Nat) : Retains (s.transit new why).1 s := by
  unfold State.transit
  extract_lets from_ s1 s2
  have h2 : Retains s2 s := Retains.ite ((State.endInjection_retains _ _).trans (s.mark_retains new why)) (s.mark_retains new why)
  have hsheds : Retains s2.abortSheds s := (State.abortSheds_retains s2).trans h2
  cases new with
  | ready => exact (State.enterReady_retains _).trans h2
  | safe => exact (State.enterSafe_retains _ _).trans h2
  | trip => exact (State.enterTrip_retains s2 why).trans h2
  | run => exact (State.enterRun_retains _ _).trans h2
  | sequencing =>
    refine Retains.trans (b := s2.abortSheds.creditsZero) (Retains.of_units (fun h => h) ?_) ?_
    · rw [show s2.abortSheds.creditsZero.gov = s2.gov from (State.abortSheds_rests s2).1]
      exact fun h => h
    · exact (State.creditsZero_retains s2.abortSheds).trans hsheds
  | service => exact hsheds
  | limit => exact h2
  | standby => exact Retains.trans (b := s2.creditsZero) (Retains.of_units (fun h => h) fun _ => rfl) ((State.creditsZero_retains s2).trans h2)
  | off => exact (State.creditsZero_retains s2).trans h2
  | boot => exact (State.creditsZero_retains s2).trans h2
  | cooldown => exact (State.creditsZero_retains s2).trans h2

theorem State.dEvents_retains (s : State) (n c : Nat) : Retains (s.dEvents n c).1 s := Retains.of_eq

theorem State.doWork_retains (s : State) (w : Work) : Retains (s.doWork w).1 s := by
  cases w with
  | trigger n kind idx cause pa =>
    show Retains (if !s.pinReached n then _ else if !s.tb.gclk then _ else if kind = 4 then _ else _ : State × List Work).1 s
    split_ifs
    · exact Retains.refl s
    · exact Retains.of_eq
    · exact Retains.of_eq
    · exact s.arrive_retains n 0 0 cause pa
    · exact (State.arrive_retains _ n kind idx cause pa).trans Retains.of_eq
  | events n c =>
    show Retains (if s.pinReached n && c != 0 then _ else _ : State × List Work).1 s
    split
    · exact s.dEvents_retains n c
    · exact Retains.refl s
  | enter new why =>
    show Retains (if s.wanted new then _ else _ : State × List Work).1 s
    split
    · exact s.transit_retains new why
    · exact Retains.refl s

theorem State.work_retains (f : Nat) (ws : List Work) (s : State) : Retains (s.work f ws) s := by
  induction f generalizing ws s with
  | zero => exact Retains.refl s
  | succ f ih =>
    cases ws with
    | nil => exact Retains.refl s
    | cons w rest => exact (ih _ _).trans (s.doWork_retains w)

theorem State.enter_retains (s : State) (new : GovState) (why : Nat) : Retains (s.enter new why) s := State.work_retains _ _ s

theorem State.setPin_retains (s : State) (n : Nat) (v : Pin) : Retains (s.setPin n v) s := Retains.of_eq

theorem State.latchPin_retains (s : State) (ts : List HeldTrigger) : Retains (s.latchPin ts).1 s := by
  cases ts with
  | nil => exact Retains.refl s
  | cons h rest =>
    show Retains (if s.pinReached h.pin then _ else _ : State × List Work).1 s
    split
    · have hb : Retains (s.bumpBy (0x5010 + h.pin) 0x0B (rest.filter (·.kind != 4)).length) s := Retains.of_eq
      have hw := (State.doWork_retains (s.bumpBy (0x5010 + h.pin) 0x0B (rest.filter (·.kind != 4)).length) h.work).trans hb
      exact (State.setPin_retains _ _ _).trans hw
    · exact Retains.refl s

theorem State.latchAll_retains (s : State) (ts : List HeldTrigger) : Retains (s.latchAll ts) s := by
  have hfold : ∀ (l : List Nat) (q : State × List Work), Retains (l.foldl (fun (q : State × List Work) n =>
      let r := q.1.latchPin (ts.filter (·.pin == n))
      (r.1, q.2 ++ r.2)) q).1 q.1 := fun l => by
    induction l with
    | nil => exact fun q => Retains.refl q.1
    | cons n l ih => exact fun q => (ih _).trans (State.latchPin_retains q.1 _)
  exact (State.work_retains _ _ _).trans (hfold (List.range 64) (s, []))

theorem State.raise_retains (s : State) (ts : List HeldTrigger) : Retains (s.raise ts) s := by
  unfold State.raise
  split
  · exact Retains.of_eq
  · exact s.latchAll_retains ts

theorem State.trigger_retains (s : State) (n k i c pa : Nat) : Retains (s.trigger n k i c pa) s := by
  unfold State.trigger
  split
  · exact Retains.of_eq
  · exact State.work_retains _ _ s

theorem State.dEvent_retains (s : State) (n : Nat) : Retains (s.dEvent n) s := by
  unfold State.dEvent State.dEventsNow
  split
  · exact (State.raise_retains _ _).trans (s.dEvents_retains n 1)
  · exact Retains.refl s


/-! ### O26: words of the host ports at the Tally (07 R166, R170, R173, R176, R177, R180, R181) -/

/-! #### Words on a port -/

/-- With a digest awaited every word of the port is that digest (R166). -/
theorem exec_word_digest (port : Nat) {d : W64} (w : W64) {s : State} (h : s.awaits port = some d) :
    exec (.issue port w) s = exec (.doneDigest port w) s ∧ exec (.announce port w) s = exec (.doneDigest port w) s ∧
      exec (.done port w) s = exec (.doneDigest port w) s ∧ exec (.cancel port w) s = exec (.doneDigest port w) s := by
  show execIssue port w s = execDoneDigest port w s ∧ execAnnounce port w s = execDoneDigest port w s ∧
    execDone port w s = execDoneDigest port w s ∧ execCancel port w s = execDoneDigest port w s
  unfold execIssue execAnnounce execDone execCancel execDoneDigest
  rw [h]
  exact ⟨rfl, rfl, rfl, rfl⟩

theorem exec_doneDigest {port : Nat} {d : W64} (w : W64) {s : State} (hopen : s.portOpen port = true)
    (h : s.awaits port = some d) : exec (.doneDigest port w) s = .next (s.acceptDigest port d w) := by
  show execDoneDigest port w s = _
  unfold execDoneDigest
  rw [if_neg (by rw [hopen]; decide), h]

/-- A word of a used array is taken in the states that take words (R170). -/
theorem State.wordCheck_taken {s : State} {w : W64} (hst : s.gov.st.words = true)
    (ha : (s.arrayDomain (wordArray w)).isSome = true) : s.wordCheck w = (s, true) := by
  unfold State.wordCheck
  rw [if_neg (by rw [hst]; decide), if_neg (by rw [Option.isNone_iff_eq_none]; intro e; rw [e] at ha; cases ha)]

theorem exec_announce {port : Nat} {w : W64} {s : State} (hopen : s.portOpen port = true) (haw : s.awaits port = none)
    (hk : wordKind w = 0) (hst : s.gov.st.words = true) (ha : (s.arrayDomain (wordArray w)).isSome = true) :
    exec (.announce port w) s = if 1024 ≤ s.tally.queue.length then .next s.announceOverrun
      else .next (({ s with tally := { s.tally with queue := s.tally.queue ++
        [{ word := w, arrived := s.tb.cframe, at_ := s.tb.now }] } } : State).bump64 0x2C02 1 1) := by
  show execAnnounce port w s = _
  unfold execAnnounce
  rw [if_neg (by rw [hopen]; decide), haw]
  dsimp only
  rw [if_pos hk, State.wordCheck_taken hst ha]
  rfl

theorem exec_done {port : Nat} {w : W64} {s : State} (hopen : s.portOpen port = true) (haw : s.awaits port = none)
    (hk : wordKind w = 2) (hst : s.gov.st.words = true) (ha : (s.arrayDomain (wordArray w)).isSome = true) :
    exec (.done port w) s = .next (({ s.noteDone w with tally := { (s.noteDone w).tally with
      doneAt := tset (s.noteDone w).tally.doneAt port (s.noteDone w).tb.now } } : State).setAwaits port (some w)) := by
  show execDone port w s = _
  unfold execDone
  rw [if_neg (by rw [hopen]; decide), haw]
  dsimp only
  rw [if_pos hk, State.wordCheck_taken hst ha]
  rfl

theorem exec_cancel {port : Nat} {w : W64} {s : State} (hopen : s.portOpen port = true) (haw : s.awaits port = none)
    (hk : wordKind w = 3) (hst : s.gov.st.words = true) (ha : (s.arrayDomain (wordArray w)).isSome = true) :
    exec (.cancel port w) s = if (s.inPipeline (slotKey (wordArray w) (wordTag w))).isSome then
        .next { s with tally := { s.tally with deferred := s.tally.deferred ++ [w] } }
      else .next (s.cancel w) := by
  show execCancel port w s = _
  unfold execCancel
  rw [if_neg (by rw [hopen]; decide), haw]
  dsimp only
  rw [if_pos hk, State.wordCheck_taken hst ha]
  rfl

theorem State.holds_clean {s : State} {n ring tag : Nat} {st : GroupSt} (h : s.holds n ring tag st = true) :
    (s.slot n).st = st ∧ s.poisoned .slot n = false := by
  unfold State.holds at h
  simp only [Bool.and_eq_true, beq_iff_eq, Bool.not_eq_true'] at h
  exact ⟨h.1.1.1, h.2⟩

/-- Without poison at its slot a slot written changes the Tally alone. -/
theorem State.setSlot_tally {s : State} {n : Nat} (v : GroupSlot) (h : s.poisoned .slot n = false) :
    s.setSlot n v = { s with tally := { s.tally with slots := tset s.tally.slots n v } } := by
  unfold State.setSlot
  rw [State.unpoisoned_filter h]

theorem State.freeSlot_tally {s : State} {n : Nat} (h : s.poisoned .slot n = false) :
    s.freeSlot n = { s with tally := { s.tally with slots := s.tally.slots.filter (fun p => p.1 != n) } } := by
  unfold State.freeSlot
  rw [State.unpoisoned_filter h]

/-- A DONE is noted in the Tally alone. -/
theorem State.noteDone_tally (s : State) (w : W64) : s.noteDone w = { s with tally := (s.noteDone w).tally } := by
  unfold State.noteDone
  dsimp only
  split
  · next h =>
    rw [Bool.and_eq_true] at h
    rw [State.setSlot_tally _ (State.holds_clean h.2).2]
  · rfl

theorem State.noteDone_slot {s : State} {w : W64} (hrole : wordRole w = 0)
    (h : s.holds (slotKey (wordArray w) (wordTag w)) (wordRing w) (wordTag w) .granted = true) :
    (s.noteDone w).slot (slotKey (wordArray w) (wordTag w)) =
      { s.slot (slotKey (wordArray w) (wordTag w)) with doneC := some s.tb.cframe } := by
  unfold State.noteDone
  dsimp only
  rw [if_pos (by rw [hrole, h]; rfl)]
  exact tget_tset_same s.tally.slots _ _ _

/-- The DONE of a granted original group in NW-OXG4-C frees its slot. -/
theorem State.finish_granted {s : State} {d : W64} (w : W64) (t : Nat) (hrole : wordRole d = 0) (hcfg : s.cfg = .core)
    (h : s.holds (slotKey (wordArray d) (wordTag d)) (wordRing d) (wordTag d) .granted = true) :
    ((s.finish d w t).slot (slotKey (wordArray d) (wordTag d))).st = .free ∧
      s.finish d w t = { s with tally := (s.finish d w t).tally } ∧ (s.finish d w t).tally.awaiting = s.tally.awaiting := by
  have hcl := (State.holds_clean h).2
  let n := slotKey (wordArray d) (wordTag d)
  let u := if (s.slot n).doneC.getD s.tb.cframe = s.tb.cframe then s.endActive n else s
  have hu : u = { s with tally := u.tally } ∧ u.tally.awaiting = s.tally.awaiting := by
    show (if _ then s.endActive n else s) = ({ s with tally := (if _ then s.endActive n else s : State).tally } : State) ∧
      (if _ then s.endActive n else s : State).tally.awaiting = _
    split <;> exact ⟨rfl, rfl⟩
  have hfin : s.finish d w t = u.freeSlot n := by
    unfold State.finish
    dsimp only
    rw [if_pos hrole, if_pos hrole, State.readSlot_clean hcl, if_pos h]
    show (u.freeSlot n).assayDone _ _ _ _ _ _ _ = _
    have hc : (u.freeSlot n).cfg = .core := by
      show u.cfg = _
      rw [hu.1]
      exact hcfg
    unfold State.assayDone
    rw [if_pos (by rw [hc]; rfl)]
  have hcu : u.poisoned .slot n = false := by
    unfold State.poisoned
    rw [hu.1]
    exact hcl
  have hframe : u.freeSlot n = { s with tally := (u.freeSlot n).tally } := by
    rw [State.freeSlot_tally hcu]
    obtain ⟨hu1, -⟩ := hu
    generalize u = v at hu1 ⊢
    rw [hu1]
  rw [hfin]
  exact ⟨congrArg GroupSlot.st ((u.slot_freeSlot n n).trans (if_pos rfl)), hframe, hu.2⟩

/-! #### A dropped word -/

/-- The bar of sheds after a dropped word: the shed of each rail is aborted. -/
theorem State.announceOverrun_bars (s : State) :
    s.announceOverrun.tb.barEnd = s.tb.cframe + 65 ∧ s.announceOverrun.tb.now = s.tb.now := by
  unfold State.announceOverrun
  extract_lets s1 w s2
  have h1 : Spares s1 s := (State.dEvent_spares _ 2).chain (Spares.refl s)
  have hframe : s1.tb.cframe = s.tb.cframe := by simp only [h1]
  have hnow : s1.tb.now = s.tb.now := by simp only [h1]
  have h2 : s2.tb.barEnd = s.tb.cframe + 65 ∧ s2.tb.now = s.tb.now := ⟨congrArg (· + 65) hframe, hnow⟩
  refine each_carries (fun t => t.tb.barEnd = s.tb.cframe + 65 ∧ t.tb.now = s.tb.now) (fun t r ht => ?_) _ s2 h2
  show (t.abortShed r).tb.barEnd = _ ∧ (t.abortShed r).tb.now = _
  unfold State.abortShed
  dsimp only
  split <;> exact ht

/-! #### Lookups -/

/-- Without poison anywhere nothing reads with it. -/
theorem State.poisoned_empty {s : State} (h : s.poison = []) (w : PoisonAt) (n : Nat) : s.poisoned w n = false := by
  unfold State.poisoned
  rw [h]
  rfl

theorem State.lookup_clean {s : State} (h : s.poison = []) (key : Nat) : s.lookup key = (s, s.sigEntry key) := by
  unfold State.lookup
  rw [if_neg (by rw [State.poisoned_empty h]; decide)]

theorem State.readFamily_clean {s : State} (h : s.poison = []) (key : Nat) : s.readFamily key = (s, s.familyDefault key) := by
  unfold State.readFamily
  rw [if_neg (by rw [State.poisoned_empty h]; decide)]

/-- Fits that meet no poison change the entries, the learned terms and their counters alone. -/
structure Fits (t s : State) : Prop where
  frame : t = { s with tally := t.tally, od := t.od }
  taken : t.tally.taken = s.tally.taken
  active : t.tally.active = s.tally.active
  banks : t.tally.banks = s.tally.banks
  enabled : t.obj 0x2C08 1 = s.obj 0x2C08 1

theorem Fits.refl (s : State) : Fits s s := ⟨rfl, rfl, rfl, rfl, rfl⟩

theorem Fits.trans {a b c : State} (h : Fits a b) (g : Fits b c) : Fits a c where
  frame := by
    have h1 := h.frame
    rw [g.frame] at h1
    exact h1
  taken := h.taken.trans g.taken
  active := h.active.trans g.active
  banks := h.banks.trans g.banks
  enabled := h.enabled.trans g.enabled

theorem Fits.clean {t s : State} (h : Fits t s) (hp : s.poison = []) : t.poison = [] := by rw [h.frame]; exact hp

theorem State.setSig_fits {s : State} (h : s.poison = []) (key e : Nat) : Fits (s.setSig key e) s := by
  refine ⟨?_, rfl, rfl, rfl, rfl⟩
  unfold State.setSig
  rw [h]
  cases s
  cases h
  rfl

theorem State.fitEntry_fits {s : State} (h : s.poison = []) (t : Int) (g : Active) : Fits (s.fitEntry t g) s := by
  unfold State.fitEntry
  rw [State.lookup_clean h]
  dsimp only
  split
  · exact Fits.refl s
  · exact State.setSig_fits h _ _

theorem State.closeFit_fits (s : State) (r lst : Nat) (eps epsC : Int) (groups : Nat) :
    Fits (s.closeFit r lst eps epsC groups) s := by
  refine ⟨rfl, rfl, rfl, rfl, ?_⟩
  unfold State.closeFit
  exact (State.obj_setObj_other _ _ (by decide) (by decide) (by simp [defaultReads]) (Or.inr (by decide))).trans State.obj_same

theorem State.fitList_fits (l : List Fit) : ∀ (n : Nat) (s : State), s.poison = [] → Fits (s.fitList n l) s := by
  induction l with
  | nil => exact fun n s _ => ⟨rfl, rfl, rfl, rfl, rfl⟩
  | cons f rest ih =>
    intro n s hp
    cases f with
    | entry t g =>
      cases n with
      | zero => exact ⟨rfl, rfl, rfl, rfl, rfl⟩
      | succ k =>
        have h := State.fitEntry_fits hp t g
        exact (ih k _ (h.clean hp)).trans h
    | close r lst eps epsC groups =>
      have h := s.closeFit_fits r lst eps epsC groups
      exact (ih n _ (h.clean hp)).trans h

theorem State.fitNow_fits {s : State} (hp : s.poison = []) : Fits s.fitNow s := by
  unfold State.fitNow State.fitsAt
  split
  · exact Fits.refl s
  · have h := State.fitList_fits s.tally.fits (min 1000 (s.tb.now - s.tb.cStart - 8) - s.tally.fitDone) s hp
    exact Fits.trans ⟨rfl, rfl, rfl, rfl, rfl⟩ h

theorem Fits.activeBank {t s : State} (h : Fits t s) : t.activeBank = s.activeBank := by
  have hcfg : t.cfg = s.cfg := by rw [h.frame]
  unfold State.activeBank State.flag
  rw [h.active, h.banks, h.enabled, hcfg]

/-- A word predicted with no poison and no bank in use joins those taken in the C-frame. -/
theorem State.predict_taken {s : State} (hp : s.poison = []) (hb : s.activeBank = none) (x : Waiting) :
    ∃ p, s.predict x = { s with tally := { s.tally with taken := s.tally.taken ++ [p] } } := by
  unfold State.predict
  dsimp only
  rw [State.lookup_clean hp, State.readFamily_clean hp]
  dsimp only
  generalize Decidable.decide (entryConf (s.sigEntry (bits x.word.toNat 48 31)) < s.obj 0x2C00 5) = low
  cases low
  all_goals
    simp only [Bool.false_eq_true, if_false, if_true, hb]
    exact ⟨_, rfl⟩

/-! #### The statement -/

/-- Settles O26: each word by its kind, its port and the slot of its group; a lookup by the fits due before it. -/
theorem tallyWords : Obligations.TallyWords := by
  unfold Obligations.TallyWords
  refine ⟨fun port w s hopen haw hk hst ha hq => ?_, fun port w s hopen haw hk hst ha hq => ?_,
    fun port w s hopen haw hk hst ha => ?_, fun port w s hopen haw => exec_doneDigest w hopen haw,
    fun port d w s hopen haw hd hrole hcfg hp hh => ?_, fun x rest s hq hturn hp hb => ?_,
    fun port w s hopen haw hk hst ha hpipe hh => ?_, fun port w s hopen haw hk hst ha hpipe => ?_,
    fun port d w s haw => exec_word_digest port w haw, fun port w s h => ⟨if_pos ?_, if_pos ?_, if_pos ?_, if_pos ?_⟩⟩
  case refine_1 =>
    refine ⟨_, (exec_announce hopen haw hk hst ha).trans (if_neg (by omega)), rfl, rfl⟩
  case refine_2 =>
    exact ⟨_, (exec_announce hopen haw hk hst ha).trans (if_pos hq), s.announceOverrun_bars⟩
  case refine_3 =>
    have hnote := s.noteDone_tally w
    refine ⟨_, exec_done hopen haw hk hst ha, ?_, ?_, fun hrole hh => ?_, ?_⟩
    · exact tget_tset_same _ port _ _
    · refine (tget_tset_same (s.noteDone w).tally.doneAt port _ _).trans ?_
      rw [hnote]
    · exact State.noteDone_slot hrole hh
    · generalize s.noteDone w = t at hnote ⊢
      rw [hnote]
      rfl
  case refine_4 =>
    let u := s.setAwaits port none
    have hrun : exec (.doneDigest port w) s = .next (u.finish d w (tget u.tally.doneAt port u.tb.now)) := by
      rw [exec_doneDigest w hopen haw]
      exact congrArg _ (if_neg hd)
    obtain ⟨hfree, hframe, hwait⟩ := State.finish_granted (s := u) w (tget u.tally.doneAt port u.tb.now) hrole hcfg hh
    refine ⟨_, hrun, ?_, hfree, ?_⟩
    · unfold State.awaits
      rw [hwait]
      exact tget_tset_same s.tally.awaiting port _ _
    · generalize u.finish d w (tget u.tally.doneAt port u.tb.now) = t at hframe ⊢
      rw [hframe]
      rfl
  case refine_5 =>
    let turn := max s.tb.now (max s.tally.lookAt (x.at_ + 1))
    let u := (s.atTime turn).fitNow
    let v : State := { u with tally := { u.tally with queue := rest, lookAt := turn + 1 } }
    have hrun : exec .announceLookup s = .next (v.predict x) := by
      show execAnnounceLookup s = _
      unfold execAnnounceLookup
      rw [hq]
      exact if_pos hturn
    have hfit : Fits u (s.atTime turn) := State.fitNow_fits (s := s.atTime turn) hp
    have hclean : v.poison = [] := hfit.clean hp
    have hbank : v.activeBank = none := by
      have h : v.activeBank = (s.atTime turn).activeBank := hfit.activeBank
      exact h.trans hb
    obtain ⟨p, hpred⟩ := State.predict_taken hclean hbank x
    have hnow : (s.atTime turn).tb.now = turn := Nat.max_eq_right (Nat.le_max_left _ _)
    have htb : u.tb = { s.tb with now := turn } := by
      rw [hfit.frame]
      show ({ s.tb with now := (s.atTime turn).tb.now } : Timebase) = _
      rw [hnow]
    refine ⟨_, hrun, ?_, ?_, ?_, ?_, ?_⟩
    · rw [hpred]
    · rw [hpred]
      show (u.tally.taken ++ [p]).length = _
      rw [hfit.taken]
      exact List.length_append
    · rw [hpred]; exact htb
    · rw [hpred]
      show turn + 1 = u.tb.now + 1
      rw [htb]
    · rw [hpred]
      have hframe := hfit.frame
      show ({ u with tally := { u.tally with queue := rest, lookAt := turn + 1, taken := u.tally.taken ++ [p] } } : State) =
        { s with
          tb := u.tb
          tally := { u.tally with queue := rest, lookAt := turn + 1, taken := u.tally.taken ++ [p] }
          od := u.od }
      generalize u = y at hframe ⊢
      rw [hframe]
      rfl
  case refine_6 =>
    have hcl := (State.holds_clean hh).2
    refine ⟨_, (exec_cancel hopen haw hk hst ha).trans ((if_neg (by rw [hpipe]; decide)).trans
      (congrArg _ (State.cancel_predicted hcl hh))), ?_, ?_⟩
    · exact congrArg GroupSlot.st ((s.dropPredicted_slot _ _).trans (if_pos rfl))
    · exact State.dropPredicted_tally hcl
  case refine_7 => exact (exec_cancel hopen haw hk hst ha).trans (if_pos hpipe)
  all_goals rw [h]; rfl


/-! ### O24: the answer to an ISSUE (06 R150, R151, 07 R169, R171, R174) -/

/-! #### The Assayer's part of a GRANT leaves the answer -/

theorem State.unassayedGroup_retains (s : State) (g : Group) (sub : Nat) : Retains (s.unassayedGroup g sub) s := by
  unfold State.unassayedGroup
  exact (State.dEvent_retains _ 52).trans ((State.fenceCount_retains _ _ _ _).trans Retains.of_eq)

theorem State.select_retains (s : State) (g : Group) (tagged : Bool) : Retains (s.select g tagged).1 s := by
  unfold State.select
  extract_lets s1
  have h1 : Retains s1 s := Retains.of_eq
  split
  · exact (State.request_retains _ _).trans (Retains.trans (b := s1) Retains.of_eq h1)
  · exact (State.unassayedGroup_retains _ _ _).trans h1
  · split
    · exact (State.unassayedGroup_retains _ _ _).trans h1
    · exact Retains.trans (b := s1) Retains.of_eq h1

theorem State.assayGrant_retains (s : State) (a ring tag : Nat) : Retains (s.assayGrant a ring tag) s := by
  unfold State.assayGrant
  split
  · exact Retains.refl s
  · extract_lets x w s1 at_ g tagged q
    have h1 : Retains s1 s := Retains.of_eq
    have hq : Retains q.1 s := by
      show Retains (if _ then s1.select g tagged else (s1, false) : State × Bool).1 s
      split
      · exact (State.select_retains _ _ _).trans h1
      · exact h1
    split
    · exact hq
    · exact Retains.trans (b := q.1) Retains.of_eq hq

theorem State.answerPort_answers (s : State) (port : Nat) (w : BitVec 32) :
    tget (s.answerPort port w).tally.answers port 0 = w := tget_tset_same s.tally.answers port w 0

/-! #### The decision -/

/-- A reservation as an ISSUE of a ring finds it: the ring's own has been re-ISSUEd in this C-frame (06 R152). -/
def Reservation.asked (x : Reservation) (ring cframe : Nat) : Reservation :=
  if x.ring = ring then { x with last := cframe } else x

/-- The state in which an ISSUE of an original group is decided: its array's reservation re-ISSUEd, the group in the
pipeline. -/
def State.issued (s : State) (a ring n : Nat) : State :=
  let u := s.modArray a (fun v => { v with resv := match v.resv with
    | some x => some (if x.ring = ring then { x with last := s.tb.cframe } else x)
    | none => none })
  { u with tally := { u.tally with inFlight := (u.tally.inFlight.filter (fun q => u.tb.now ≤ q.2 + 8)) ++ [(n, u.tb.now)] } }

theorem State.issued_array (s : State) (a ring n : Nat) : (s.issued a ring n).array a =
    { s.array a with resv := (s.array a).resv.map (fun x => x.asked ring s.tb.cframe) } := by
  refine (tget_tset_same s.arrays a _ _).trans ?_
  generalize s.array a = v
  obtain ⟨bal, fil, alloc, resv, cum, refill, quarantined⟩ := v
  cases resv <;> rfl

theorem State.issued_frame (s : State) (a ring n : Nat) :
    s.issued a ring n = { s with tally := (s.issued a ring n).tally, arrays := (s.issued a ring n).arrays } := rfl

theorem State.hold_frame (s : State) (port a ring role tag reason : Nat) : s.hold port a ring role tag reason = { s with
    tally := (s.hold port a ring role tag reason).tally
    od := (s.hold port a ring role tag reason).od } := rfl

theorem State.hold_slot (s : State) (port a ring role tag reason n : Nat) :
    (s.hold port a ring role tag reason).slot n = s.slot n := rfl

/-- An ISSUE of an announced original group, no read of which meets poison. -/
theorem exec_issue {port d : Nat} {w : W64} {s : State} (hopen : s.portOpen port = true) (haw : s.awaits port = none)
    (hk : wordKind w = 1) (hrole : wordRole w = 0) (hd : s.arrayDomain (wordArray w) = some d)
    (hnew : s.tb.now < s.tb.cStart + 1004 ∨ s.tally.taken = [])
    (hh : s.holds (slotKey (wordArray w) (wordTag w)) (wordRing w) (wordTag w) .predicted = true) :
    exec (.issue port w) s = .next (
      let n := slotKey (wordArray w) (wordTag w)
      let u := s.issued (wordArray w) (wordRing w) n
      if u.metered = false then u.hold port (wordArray w) (wordRing w) 0 (wordTag w) 2
      else if u.issueFrozen d = true then u.hold port (wordArray w) (wordRing w) 0 (wordTag w) 1
      else if u.quarantined (wordArray w) = true then u.hold port (wordArray w) (wordRing w) 0 (wordTag w) 3
      else if (s.slot n).cls = fillerKey then u.decideFiller port (wordArray w) (wordRing w) 0 (wordTag w) (some n)
      else u.decide port (wordArray w) (wordRing w) 0 (wordTag w) (s.cost (wordArray w) (some n)) (some n)) := by
  have hcl := (State.holds_clean hh).2
  have htake : (if s.tb.cStart + 1004 ≤ s.tb.now then s.commitTaken else s) = s := by
    rcases hnew with h | h
    · exact if_neg (by omega)
    · split
      · unfold State.commitTaken
        rw [h]
        show ({ s with tally := { s.tally with taken := [] } } : State) = s
        rw [← h]
      · rfl
  have hmatch : s.matchSlot (wordArray w) (wordRing w) 0 (bits w.toNat 46 39) (wordTag w) =
      some (slotKey (wordArray w) (wordTag w)) := if_pos hh
  show execIssue port w s = _
  unfold execIssue
  rw [if_neg (by rw [hopen]; decide), haw]
  dsimp only
  rw [if_pos hk, hd]
  dsimp only
  rw [htake, hrole]
  unfold State.issueUsed
  dsimp only
  rw [if_pos (rfl : (0 : Nat) = 0), State.readSlot_clean hcl, hmatch]
  dsimp only [Option.isNone]
  simp only [Bool.false_eq_true, if_false, Bool.not_eq_true', beq_iff_eq]
  rfl

/-- The accounts of array and ring after a normal GRANT: the cost leaves both (06 R151). -/
def State.paid (s : State) (a ring cost : Nat) : State :=
  let v := s.array a
  let g := ringKey a ring
  let fromF : Int := min (v.fil : Int) (max ((cost : Int) - max (intPart v.bal) 0) 0)
  let u := if s.ringCap a ring < cost || s.arrayCap a / 65536 < cost then s.bump 0x2802 8 else s
  let u := u.setArray a { v with
    fil := ((v.fil : Int) - fromF).toNat
    bal := satS 48 (v.bal - ((cost : Int) - fromF) * 65536)
    resv := match v.resv with
      | some x => if x.ring = ring then none else some x
      | none => none }
  u.setRing g { (u.ring g) with bal := satS 24 ((u.ring g).bal - (cost : Int)) }

theorem State.paid_frame (s : State) (a ring cost : Nat) :
    s.paid a ring cost = { s with
      arrays := (s.paid a ring cost).arrays
      rings := (s.paid a ring cost).rings
      od := (s.paid a ring cost).od } := by
  unfold State.paid
  dsimp only
  split <;> rfl

theorem State.paid_ring (s : State) (a ring cost : Nat) :
    ((s.paid a ring cost).ring (ringKey a ring)).bal = satS 24 ((s.ring (ringKey a ring)).bal - (cost : Int)) := by
  refine (congrArg RingAcc.bal (tget_tset_same _ (ringKey a ring) _ _)).trans ?_
  split <;> rfl

/-- An ISSUE that ring and array can pay, with no reservation of another ring, is granted. -/
theorem State.decide_grants {s : State} {a ring cost : Nat} (port role tag : Nat) (m : Option Nat)
    (hresv : ∀ x, (s.array a).resv = some x → x.ring = ring) (hw : s.ringWeight a ring ≠ 0)
    (hring : ((min cost (s.ringCap a ring) : Nat) : Int) ≤ s.ringNow a ring)
    (harray : ((min cost (s.arrayCap a / 65536) : Nat) : Int) ≤ max (intPart (s.array a).bal) 0 + ((s.array a).fil : Int)) :
    s.decide port a ring role tag cost m = ((s.ringUpdate a ring).paid a ring cost).grant port a ring role tag cost m false := by
  have hfree : (match (s.array a).resv with
      | some x => x.ring != ring && Decidable.decide
        (max (intPart (s.array a).bal) 0 + ((s.array a).fil : Int) - (cost : Int) < x.amount)
      | none => false) = false := by
    cases h : (s.array a).resv with
    | none => rfl
    | some x => simp [hresv x h]
  have hbal : ((s.ringUpdate a ring).ring (ringKey a ring)).bal = s.ringNow a ring :=
    congrArg RingAcc.bal (tget_tset_same s.rings (ringKey a ring) _ _)
  have hpay : ((s.ringUpdate a ring).ringWeight a ring != 0 && Decidable.decide
      (((min cost ((s.ringUpdate a ring).ringCap a ring) : Nat) : Int) ≤ ((s.ringUpdate a ring).ring (ringKey a ring)).bal) &&
      Decidable.decide (((min cost ((s.ringUpdate a ring).arrayCap a / 65536) : Nat) : Int) ≤
        max (intPart (s.array a).bal) 0 + ((s.array a).fil : Int))) = true := by
    rw [hbal]
    simp only [Bool.and_eq_true, bne_iff_ne, decide_eq_true_eq]
    exact ⟨⟨hw, hring⟩, harray⟩
  unfold State.decide
  exact (if_neg (by rw [Bool.not_eq_true]; exact hfree)).trans (if_pos hpay)

/-- A GRANT of an original group with a prediction: answered, its slot GRANTED; of the accounts it changes none, and in
NW-OXG4-C the Assayer does not act. -/
theorem State.grant_answers (s : State) (port a ring tag cost n : Nat) :
    tget (s.grant port a ring 0 tag cost (some n) false).tally.answers port 0 = answerWord true 0 a ring 0 tag ∧
      (s.cfg = .core → ((s.grant port a ring 0 tag cost (some n) false).slot n).st = .granted ∧
        (s.grant port a ring 0 tag cost (some n) false).rings = s.rings) := by
  let u := (((s.bump64 0x2802 1 1).bump (0x2A00 + a) 7).modShaper
    (((s.bump64 0x2802 1 1).bump (0x2A00 + a) 7).arrayRail a) (fun v => { v with debited := v.debited + cost }))
  let v := (u.grantSlot a ring tag (some n)).answerPort port (answerWord true 0 a ring 0 tag)
  have hgrant : s.grant port a ring 0 tag cost (some n) false = v.assayGrant a ring tag := rfl
  rw [hgrant, (v.assayGrant_retains a ring tag).answers]
  refine ⟨State.answerPort_answers _ _ _, fun hc => ?_⟩
  have hcfg : v.cfg = .core := hc
  have hid : v.assayGrant a ring tag = v := if_pos (by rw [hcfg]; rfl)
  rw [hid]
  exact ⟨congrArg GroupSlot.st (tget_tset_same u.tally.slots n _ _), rfl⟩

/-- Settles O24: the answers of R151 and R171 in order, the accounts by `decide_grants`. -/
theorem issueAnswers : Obligations.IssueAnswers := by
  unfold Obligations.IssueAnswers
  refine ⟨fun port w s hopen haw hk hd => ?_, fun port d w s hopen haw hk hrole hd _ hnew hh hheld => ?_,
    fun port d cost w s hopen haw hk hrole hd _ hnew hh hcls hmet hfr hq hcost hresv hw hring harray => ?_,
    fun port w s h => ?_, fun port w s haw hk => ?_⟩
  case refine_1 =>
    have hrun : exec (.issue port w) s =
        .next (s.issueUnused port (wordArray w) (wordRing w) (wordRole w) (wordTag w)) := by
      show execIssue port w s = _
      unfold execIssue
      rw [if_neg (by rw [hopen]; decide), haw]
      dsimp only
      rw [if_pos hk, hd]
    exact ⟨_, hrun, State.answerPort_answers _ _ _⟩
  case refine_2 =>
    let n := slotKey (wordArray w) (wordTag w)
    let u := s.issued (wordArray w) (wordRing w) n
    have hquar : u.quarantined (wordArray w) = s.quarantined (wordArray w) := by
      unfold State.quarantined
      rw [s.issued_array]
    have hheldBack : ∀ r, exec (.issue port w) s = .next (u.hold port (wordArray w) (wordRing w) 0 (wordTag w) r) →
        ∃ t, exec (.issue port w) s = .next t ∧
          tget t.tally.answers port 0 = answerWord false r (wordArray w) (wordRing w) 0 (wordTag w) ∧
          t.slot n = s.slot n ∧ t = { s with tally := t.tally, arrays := t.arrays, od := t.od } :=
      fun r hr => by
        have hframe := u.hold_frame port (wordArray w) (wordRing w) 0 (wordTag w) r
        refine ⟨_, hr, State.answerPort_answers _ _ _, u.hold_slot _ _ _ _ _ _ n, ?_⟩
        generalize u.hold port (wordArray w) (wordRing w) 0 (wordTag w) r = t at hframe ⊢
        rw [hframe]
        show ({ s.issued (wordArray w) (wordRing w) n with tally := t.tally, od := t.od } : State) = _
        rw [s.issued_frame]
    have hrun := exec_issue hopen haw hk hrole hd hnew hh
    dsimp only at hrun
    by_cases hmet : s.metered = false
    · rw [if_pos hmet]
      rw [if_pos (show u.metered = false from hmet)] at hrun
      exact hheldBack 2 hrun
    · rw [if_neg hmet]
      rw [if_neg (show ¬ u.metered = false from hmet)] at hrun
      by_cases hfr : s.issueFrozen d = true
      · rw [if_pos hfr]
        rw [if_pos (show u.issueFrozen d = true from hfr)] at hrun
        exact hheldBack 1 hrun
      · rw [if_neg hfr]
        rw [if_neg (show ¬ u.issueFrozen d = true from hfr),
          if_pos (hquar.trans ((hheld.resolve_left hmet).resolve_left hfr))] at hrun
        exact hheldBack 3 hrun
  case refine_3 =>
    let n := slotKey (wordArray w) (wordTag w)
    let u := s.issued (wordArray w) (wordRing w) n
    have harr := s.issued_array (wordArray w) (wordRing w) n
    have hquar : u.quarantined (wordArray w) = false := by
      unfold State.quarantined
      rw [harr]
      exact hq
    have hresv' : ∀ x, (u.array (wordArray w)).resv = some x → x.ring = wordRing w := fun x hx => by
      rw [harr] at hx
      obtain ⟨y, hy, rfl⟩ := Option.map_eq_some_iff.mp hx
      unfold Reservation.asked
      split
      · exact hresv y hy
      · exact hresv y hy
    have hcap : u.arrayCap (wordArray w) = s.arrayCap (wordArray w) := by
      unfold State.arrayCap
      rw [harr]
      rfl
    have hrcap : u.ringCap (wordArray w) (wordRing w) = s.ringCap (wordArray w) (wordRing w) := by
      unfold State.ringCap
      rw [harr]
      rfl
    have hnow : u.ringNow (wordArray w) (wordRing w) = s.ringNow (wordArray w) (wordRing w) := by
      unfold State.ringNow
      rw [harr, hrcap]
      rfl
    have hgrants := State.decide_grants (s := u) port 0 (wordTag w) (some n) (cost := cost) hresv' hw (by rw [hrcap, hnow]; exact hring)
      (by rw [hcap, harr]; exact harray)
    have hrun := exec_issue hopen haw hk hrole hd hnew hh
    have hdec : exec (.issue port w) s = .next (((u.ringUpdate (wordArray w) (wordRing w)).paid (wordArray w) (wordRing w)
        cost).grant port (wordArray w) (wordRing w) 0 (wordTag w) cost (some n) false) := by
      rw [hrun]
      dsimp only
      rw [if_neg (show ¬ u.metered = false from fun e => absurd (hmet.symm.trans e) (by decide)),
        if_neg (show ¬ u.issueFrozen d = true from fun e => absurd (hfr.symm.trans e) (by decide)),
        if_neg (by rw [hquar]; decide), if_neg hcls, hcost, hgrants]
    obtain ⟨hans, hcore⟩ := State.grant_answers ((u.ringUpdate (wordArray w) (wordRing w)).paid (wordArray w) (wordRing w)
      cost) port (wordArray w) (wordRing w) (wordTag w) cost n
    refine ⟨_, hdec, hans, fun hc => ?_⟩
    have hpc : ((u.ringUpdate (wordArray w) (wordRing w)).paid (wordArray w) (wordRing w) cost).cfg = .core := by
      rw [State.paid_frame]
      exact hc
    obtain ⟨hst, hrings⟩ := hcore hpc
    refine ⟨hst, ?_⟩
    unfold State.ring
    rw [hrings]
    refine (State.paid_ring _ _ _ _).trans ?_
    rw [show (u.ringUpdate (wordArray w) (wordRing w)).ring (ringKey (wordArray w) (wordRing w)) = _ from
      tget_tset_same u.rings (ringKey (wordArray w) (wordRing w)) _ _, hnow]
  case refine_4 => exact if_pos (by rw [h]; rfl)
  case refine_5 =>
    show execIssue port w s = _
    unfold execIssue
    rw [haw]
    dsimp only
    rw [if_neg hk, ite_self]


/-! ### O21: releases of stretch and freeze, windows and tap disagreement (05 R129, R130, R132, R135, R138) -/

/-! #### A release step -/

/-- What ends with a domain's event: the counters of the store and the event's own fields. -/
theorem State.finishEvent_droops (s : State) (d : Nat) :
    s.finishEvent d = { s with droops := (s.finishEvent d).droops, od := (s.finishEvent d).od } ∧
      (∀ e, e ≠ d → (s.finishEvent d).droop e = s.droop e) ∧
      ((s.finishEvent d).droop d).stretch = (s.droop d).stretch ∧ ((s.finishEvent d).droop d).frozen = (s.droop d).frozen ∧
      ((s.finishEvent d).droop d).level = (s.droop d).level := by
  have hfix : ∀ (v : Droop) (t : Nat), (v.fixClose t).stretch = v.stretch ∧ (v.fixClose t).frozen = v.frozen ∧
      (v.fixClose t).level = v.level := fun v t => by
    unfold Droop.fixClose
    split
    · split <;> exact ⟨rfl, rfl, rfl⟩
    · exact ⟨rfl, rfl, rfl⟩
  unfold State.finishEvent
  extract_lets v s1 w
  split
  · refine ⟨rfl, fun e he => ?_, ?_⟩
    · exact (State.droop_setDroop s1 d e _).trans (if_neg he)
    · rw [State.droop_setDroop, if_pos rfl]
      split
      · exact hfix w _
      · exact ⟨rfl, rfl, rfl⟩
  · exact ⟨rfl, fun _ _ => rfl, rfl, rfl, rfl⟩

theorem State.endEvent_droops (s : State) (d : Nat) :
    s.endEvent d = { s with droops := (s.endEvent d).droops, od := (s.endEvent d).od } ∧
      (∀ e, e ≠ d → (s.endEvent d).droop e = s.droop e) ∧
      ((s.endEvent d).droop d).stretch = (s.droop d).stretch ∧ ((s.endEvent d).droop d).frozen = (s.droop d).frozen ∧
      ((s.endEvent d).droop d).level = (s.droop d).level := by
  unfold State.endEvent
  split
  · exact s.finishEvent_droops d
  · exact ⟨rfl, fun _ _ => rfl, rfl, rfl, rfl⟩

/-- A command that no line holds: the stretch is the one commanded, and nothing changes but the domain and counters. -/
theorem State.command_released {s : State} {d n : Nat} {dl : Bool} (h : n ≠ 0 ∨ dl = false) :
    ((s.command d n dl false).droop d).stretch = n ∧ (∀ e, e ≠ d → (s.command d n dl false).droop e = s.droop e) ∧
      s.command d n dl false = { s with
        droops := (s.command d n dl false).droops
        od := (s.command d n dl false).od } := by
  unfold State.command
  extract_lets s1 v want w ends
  have hsev : (s1.droop d).lineSev = false ∧ (s1.droop d).lineDeep = dl := by
    show ((s.setDroop d _).droop d).lineSev = _ ∧ ((s.setDroop d _).droop d).lineDeep = _
    rw [State.droop_setDroop, if_pos rfl]
    exact ⟨rfl, rfl⟩
  have hheld : s1.strobeHeld d want = false := by
    unfold State.strobeHeld
    rw [hsev.1, hsev.2]
    rcases h with hn | hdl
    · have hwant : want ≠ 0 := by
        have : n ≤ want := (Nat.le_max_left _ _).trans (Nat.le_max_left _ _)
        omega
      simp [hwant]
    · simp [hdl]
  rw [if_neg (by rw [hheld]; decide)]
  generalize hu : s1.setDroop d _ = u
  have hdu : (u.droop d).stretch = n := by rw [← hu, State.droop_setDroop, if_pos rfl]
  have hou : ∀ e, e ≠ d → u.droop e = s.droop e := fun e he => by
    rw [← hu, State.droop_setDroop, if_neg he]
    exact (State.droop_setDroop s d e _).trans (if_neg he)
  have hfu : u = { s with droops := u.droops } := by rw [← hu]; rfl
  obtain ⟨hframe, hother, hstretch, -⟩ := u.endEvent_droops d
  refine ⟨hstretch.trans hdu, fun e he => (hother e he).trans (hou e he), ?_⟩
  generalize u.endEvent d = t at hframe ⊢
  rw [hframe, hfu]

/-- The same at the instant of the step. -/
theorem State.command_steps {s : State} {d n u : Nat} {dl : Bool} (h : n ≠ 0 ∨ dl = false) :
    (((s.atTime u).command d n dl false).droop d).stretch = n ∧
      ((s.atTime u).command d n dl false).tb = { s.tb with now := max s.tb.now u } ∧
      (∀ e, e ≠ d → ((s.atTime u).command d n dl false).droop e = s.droop e) ∧
      (s.atTime u).command d n dl false = { s with
        tb := ((s.atTime u).command d n dl false).tb
        droops := ((s.atTime u).command d n dl false).droops
        od := ((s.atTime u).command d n dl false).od } := by
  obtain ⟨hstretch, hother, hframe⟩ := State.command_released (s := s.atTime u) (d := d) h
  refine ⟨hstretch, by rw [hframe]; rfl, hother, ?_⟩
  generalize (s.atTime u).command d n dl false = t at hframe ⊢
  rw [hframe]
  rfl

theorem State.stepTime_later (s : State) (d u : Nat) : max s.tb.now (s.stepTime d u) = s.stepTime d u := by
  unfold State.stepTime
  dsimp only
  split <;> omega

/-! #### A masked tap -/

theorem State.raiseCause_retains (s : State) (n k i c pa : Nat) : Retains (s.raiseCause n k i c pa) s := by
  unfold State.raiseCause
  split
  · exact Retains.refl s
  · exact (State.trigger_retains _ _ _ _ _ _).trans (Retains.ite Retains.of_eq (Retains.refl s))

theorem State.blindCheck_retains (s : State) (d : Nat) : Retains (s.blindCheck d) s := by
  unfold State.blindCheck
  split
  · exact (State.raiseCause_retains _ _ _ _ _ _).trans Retains.of_eq
  · exact Retains.of_eq

theorem State.blindCheck_spares (s : State) (d : Nat) : Spares (s.blindCheck d) s := by
  unfold State.blindCheck
  split
  · exact (State.raiseCause_spares _ _ _ _ _ _).chain ((State.unlearn_spares _ _ _).chain (by simp))
  · exact State.dropCause_spares _ _ _ _

theorem State.relevel_spares (s : State) (d : Nat) : Spares (s.relevel d) s := by simp [State.relevel]

/-- A tap masked by a lasting fault, before its pin is raised (05 R134, R136). -/
def DroopTap.mask (p : DroopTap) (now : Nat) : DroopTap :=
  { p with st := .masked, suspect := 0, agreed := none, parityBad := false, reach := 0, maskedAt := some now }

/-- The trigger of a masked tap. -/
def State.maskRaised (s : State) (k : Nat) : State :=
  let u := s.setTap k ((s.tap k).mask s.tb.now)
  u.trigger 18 2 (s.tapDomain k) 0 (u.droopPa (s.tapDomain k) k)

theorem State.maskTap_eq (s : State) (k : Nat) : s.maskTap k =
    if s.tapDomain k < 32 then ((s.maskRaised k).relevel (s.tapDomain k)).blindCheck (s.tapDomain k)
    else s.maskRaised k := rfl

theorem State.maskTap_spares (s : State) (k : Nat) : Spares (s.maskTap k) s := by
  have h : Spares (s.maskRaised k) s := (State.trigger_spares _ _ _ _ _ _).chain (by simp)
  rw [State.maskTap_eq]
  exact Spares.ite ((State.blindCheck_spares _ _).chain ((State.relevel_spares _ _).chain h)) h

/-- Beyond the mask of its own tap a masking changes taps as a fault does. -/
theorem State.maskTap_retains (s : State) (k : Nat) : Retains (s.maskTap k) (s.setTap k ((s.tap k).mask s.tb.now)) := by
  have h : Retains (s.maskRaised k) (s.setTap k ((s.tap k).mask s.tb.now)) := State.trigger_retains _ _ _ _ _ _
  rw [State.maskTap_eq]
  exact Retains.ite ((State.blindCheck_retains _ _).trans (Retains.trans (b := s.maskRaised k) Retains.of_eq h)) h

theorem State.maskTap_masked (s : State) (k : Nat) : ((s.maskTap k).tap k).st = .masked := by
  refine ((s.maskTap_retains k).tap k).masked ?_
  rw [State.tap_setTap, if_pos rfl]
  rfl

/-! #### Windows -/

theorem State.closeWindow_frame (s : State) (d : Nat) (w : Window) (c : Nat) :
    s.closeWindow d w c = { s with
      droops := tset s.droops d { s.droop d with window := none }
      od := (s.closeWindow d w c).od
      recorder := (s.closeWindow d w c).recorder
      windowRecs := (s.closeWindow d w c).windowRecs } := by
  unfold State.closeWindow State.record State.enqueueGroup
  dsimp only
  split
  · split <;> rfl
  · rfl

theorem State.transient_od (s : State) (n : Nat) : s.transient n = { s with od := (s.transient n).od } := by
  unfold State.transient
  split <;> rfl

/-- Settles O21: releases by `command_released`, windows by `closeWindow_frame`, a masked tap by `maskTap_masked`. -/
theorem droopReleases : Obligations.DroopReleases := by
  unfold Obligations.DroopReleases
  refine ⟨fun d dl sl s h hsl => ?_, fun d dl sl s h h4 hsl => ?_, fun d dl sl s h hb hdl hsl => ?_, fun d s h => ?_,
    fun d u s hf hl hcalm => ?_, fun d c w s hw hc => ?_, fun k s hst hsus => ?_, fun k s hst hag => ?_,
    fun k s hst hag => ?_, fun d dl sl s h hb => ?_, fun d dl sl s h hsl hsafe hfast => ?_, fun d s h => ⟨?_, ?_⟩,
    fun d s h => ?_, fun d s h => ?_, fun k s hv hs => ?_⟩
  case refine_1 =>
    subst hsl
    have hrun : exec (.stretchReleaseStep d dl false) s =
        .next ((s.atTime (s.stepTime d (s.clearAt (s.droop d).badSevere))).command d 3 dl false) := if_pos h
    obtain ⟨hst, htb, hother, hframe⟩ := State.command_steps (s := s) (d := d) (n := 3)
      (u := s.stepTime d (s.clearAt (s.droop d).badSevere)) (dl := dl) (Or.inl (by decide))
    exact ⟨_, hrun, hst, htb.trans (by rw [s.stepTime_later]), hother, hframe⟩
  case refine_2 =>
    subst hsl
    have hrun : exec (.stretchReleaseStep d dl false) s =
        .next ((s.atTime (s.stepTime d ((s.droop d).stepAt + s.obj 0x2400 5))).command d ((s.droop d).stretch - 1) dl
          false) := (if_neg (by omega)).trans (if_pos h)
    obtain ⟨hst, htb, hother, hframe⟩ := State.command_steps (s := s) (d := d) (n := (s.droop d).stretch - 1)
      (u := s.stepTime d ((s.droop d).stepAt + s.obj 0x2400 5)) (dl := dl) (Or.inl (by omega))
    exact ⟨_, hrun, hst, htb.trans (by rw [s.stepTime_later]), hother, hframe⟩
  case refine_3 =>
    subst hdl hsl
    have hrun : exec (.stretchReleaseStep d false false) s = .next ((s.atTime (if (s.droop d).stood then
        s.stepTime d (s.lastStep d) else s.clearAt (s.droop d).badDeep)).command d 0 false false) := by
      refine ((if_neg (by omega)).trans (if_neg (by omega))).trans ((if_pos h).trans ((if_neg (by rw [hb]; decide)).trans ?_))
      split <;> rfl
    obtain ⟨hst, htb, hother, hframe⟩ := State.command_steps (s := s) (d := d) (n := 0)
      (u := if (s.droop d).stood then s.stepTime d (s.lastStep d) else s.clearAt (s.droop d).badDeep) (dl := false)
      (Or.inr rfl)
    exact ⟨_, hrun, hst, by rw [htb], hother, hframe⟩
  case refine_4 =>
    let u := s.atTime ((s.droop d).badMild + s.obj 0x2400 6 + 1)
    let v : Droop := { (s.droop d).account u.tb.now with frozen := none, level := 0 }
    have hrun : exec (.freezeRelease d) s = .next ((u.setDroop d v).endEvent d) := if_pos h
    obtain ⟨hframe, hother, -, hfrozen, hlevel⟩ := (u.setDroop d v).endEvent_droops d
    have hv : (u.setDroop d v).droop d = v := by rw [State.droop_setDroop, if_pos rfl]
    refine ⟨_, hrun, by rw [hfrozen, hv], by rw [hlevel, hv], by rw [hframe]; rfl, fun e he => (hother e he).trans ?_, ?_⟩
    · exact (State.droop_setDroop u d e v).trans (if_neg he)
    · generalize (u.setDroop d v).endEvent d = t at hframe ⊢
      rw [hframe]
      rfl
  case refine_5 =>
    let base := (s.atTime (u + s.cyc 0x2400 9)).setDroop d { s.droop d with long := true }
    have hrun : exec (.longFreeze d) s = .next (base.trigger 21 2 d 0 (base.droopPa d (s.droop d).lowTap)) := by
      show execLongFreeze d s = _
      unfold execLongFreeze
      dsimp only
      split
      · next t ht =>
        obtain rfl : u = t := Option.some.inj (hf.symm.trans ht)
        exact if_neg (by rw [hl]; decide)
      · next hn => exact absurd (hf.symm.trans hn) (Option.some_ne_none u)
    have hbase : base.calm 21 := State.calm_of hcalm State.obj_same
    obtain ⟨hn, hlatch⟩ := State.trigger_latches hbase rfl 2 d 0 (base.droopPa d (s.droop d).lowTap)
    generalize base.trigger 21 2 d 0 (base.droopPa d (s.droop d).lowTap) = t at hrun hn hlatch
    have hdroops : t.droops = base.droops := by unfold Noted at hn; rw [hn]
    have hdroop : ∀ e, t.droop e = if e = d then { s.droop d with long := true } else s.droop e := fun e => by
      have h : t.droop e = base.droop e := by unfold State.droop; rw [hdroops]
      rw [h]
      exact State.droop_setDroop _ d e _
    refine ⟨t, hrun, (hdroop d).trans (if_pos rfl), hlatch, fun e he => (hdroop e).trans (if_neg he), ?_, ?_⟩
    · unfold Noted at hn; rw [hn]; rfl
    · unfold Noted at hn ⊢
      rw [hn]
      rfl
  case refine_6 =>
    have hrun : exec (.excursionWindowClose d) s = .next ((s.atTime c).closeWindow d w c) := by
      show execExcursionWindowClose d s = _
      unfold execExcursionWindowClose
      rw [hw]
      dsimp only
      rw [hc]
    have hframe := (s.atTime c).closeWindow_frame d w c
    generalize (s.atTime c).closeWindow d w c = t at hrun hframe
    have hdroop : ∀ e, t.droop e = if e = d then { s.droop d with window := none } else s.droop e := fun e => by
      unfold State.droop
      rw [hframe]
      exact State.droop_setDroop s d e { s.droop d with window := none }
    refine ⟨t, hrun, (hdroop d).trans (if_pos rfl), fun e he => (hdroop e).trans (if_neg he), ?_, ?_⟩
    · rw [hframe]; rfl
    · rw [hframe]; rfl
  case refine_7 =>
    let p : DroopTap := { s.tap k with st := .suspect, suspect := 0, agreed := none }
    have hrun : exec (.tapDisagreement k) s = .next ((s.setTap k p).bump (0x2500 + k) 5) := by
      show execTapDisagreement k s = _
      unfold execTapDisagreement
      dsimp only
      rw [hst]
      exact if_pos hsus
    refine ⟨_, hrun, ?_, fun j hj => (State.tap_setTap s k j p).trans (if_neg hj), rfl⟩
    exact congrArg DroopTap.st ((State.tap_setTap s k k p).trans (if_pos rfl))
  case refine_8 =>
    let p : DroopTap := { s.tap k with st := .valid, agreed := none }
    let u := (s.setTap k p).bump (0x2500 + k) 6
    have hrun : exec (.tapDisagreement k) s = .next (u.transient 18) := by
      show execTapDisagreement k s = _
      unfold execTapDisagreement
      dsimp only
      rw [hst, hag]
    have htaps : (u.transient 18).taps = (s.setTap k p).taps := by rw [u.transient_od]; rfl
    have htap : ∀ j, (u.transient 18).tap j = if j = k then p else s.tap j := fun j => by
      unfold State.tap
      rw [htaps]
      exact State.tap_setTap s k j p
    refine ⟨_, hrun, by rw [htap, if_pos rfl], fun j hj => (htap j).trans (if_neg hj), ?_⟩
    rw [u.transient_od]
    rfl
  case refine_9 =>
    have hrun : exec (.tapDisagreement k) s = .next (s.maskTap k) := by
      show execTapDisagreement k s = _
      unfold execTapDisagreement
      dsimp only
      rw [hst, hag]
    exact ⟨_, hrun, s.maskTap_masked k, s.maskTap_spares k⟩
  case refine_10 =>
    exact ((if_neg (by omega)).trans (if_neg (by omega))).trans ((if_pos h).trans (if_pos hb))
  case refine_11 =>
    subst hsl
    let u := s.atTime (s.stepTime d (s.clearAt (s.droop d).badSevere))
    let v : Droop := { s.droop d with lineDeep := dl, lineSev := true }
    have hv : (u.setDroop d v).droop d = v := by rw [State.droop_setDroop, if_pos rfl]
    have hheld : (u.setDroop d v).strobeHeld d (max (max 3 ((u.setDroop d v).safeStretch d)) ((u.setDroop d v).droop d).fast) =
        true := by
      have hsafe0 : (u.setDroop d v).safeStretch d = 0 := by
        unfold State.safeStretch
        rw [hv]
        exact if_pos hsafe
      have hfast0 : v.fast = 0 := hfast
      have hlow : 3 < (u.setDroop d v).ocLevel d := by
        unfold State.ocLevel State.ocSet
        rw [hv]
        have : 4 ≤ v.stretch := h
        omega
      unfold State.strobeHeld
      rw [hsafe0, hv, hfast0]
      simp [hlow, v]
    have hrun : exec (.stretchReleaseStep d dl true) s = .next (u.setDroop d v) :=
      (if_pos h).trans (congrArg _ (if_pos hheld))
    exact ⟨_, hrun, by rw [hv], by rw [hv], rfl⟩
  case refine_12 => exact if_neg (by rw [h]; decide)
  case refine_13 =>
    show execLongFreeze d s = _
    unfold execLongFreeze
    dsimp only
    rw [h]
  case refine_14 =>
    show execLongFreeze d s = _
    unfold execLongFreeze
    dsimp only
    split
    · exact if_pos h
    · rfl
  case refine_15 =>
    show execExcursionWindowClose d s = _
    unfold execExcursionWindowClose
    cases hw : (s.droop d).window with
    | none => rfl
    | some w =>
      dsimp only
      rw [h w hw]
  case refine_16 =>
    show execTapDisagreement k s = _
    unfold execTapDisagreement
    dsimp only
    cases hst : (s.tap k).st with
    | valid => exact if_neg (by rcases hv with e | e
                                · exact absurd hst e
                                · omega)
    | suspect => rw [hs.resolve_left (fun e => e hst)]
    | _ => rfl


/-! ### O20: reports of droop taps and the fast path (05 R120, R123, R127, R128, R132, R134) -/

/-! #### A report's actions keep the taps' readings -/

theorem State.captureEvent_retains (s : State) (a b : Nat) : Retains (s.captureEvent a b) s := by
  rw [State.captureEvent_capture]
  exact Retains.of_eq

theorem State.closeWindow_retains (s : State) (d : Nat) (w : Window) (c : Nat) : Retains (s.closeWindow d w c) s := by
  rw [State.closeWindow_frame]
  exact Retains.of_eq

theorem State.windowNotice_retains (s : State) (d : Nat) (opened : Int) : Retains (s.windowNotice d opened) s := by
  unfold State.windowNotice
  split
  · refine (Retains.each (fun t g => ?_) _ _).trans (Retains.each (fun t p => Retains.of_eq) _ s)
    refine Retains.ite (Retains.refl t) (Retains.ite ?_ ?_)
    · exact (State.dEvent_retains _ 53).trans Retains.of_eq
    · exact (State.select_retains _ _ _).trans Retains.of_eq
  · exact Retains.refl s

/-- A window that the present one would not reach closes first (05 R132). -/
def State.windowPassed (s : State) (d : Nat) : State :=
  match (s.droop d).window with
  | some w => (match w.closed with
    | some c => if (c : Int) < (s.tb.now : Int) - (s.cyc 0x2400 1 : Int) then s.closeWindow d w c else s
    | none => s)
  | none => s

/-- The window as an event or a thermal request extends it. -/
def Window.extended (w : Window) (deepest : Nat) (thermal : Bool) : Window :=
  { w with closed := none, droop := w.droop || !thermal, thermal := w.thermal || thermal, deepest := max w.deepest deepest }

/-- The window that an event or a thermal request opens. -/
def State.newWindow (s : State) (opened : Int) (deepest : Nat) (thermal : Bool) : Window :=
  { opened := opened, droop := !thermal, thermal := thermal, deepest := deepest, post := s.cyc 0x2400 2 }

/-- A domain with a window. -/
def Droop.windowed (v : Droop) (w : Window) : Droop := { v with window := some w }

theorem State.openWindow_eq (s : State) (d deepest : Nat) (thermal : Bool) : s.openWindow d deepest thermal =
    match ((s.windowPassed d).droop d).window with
    | some w => (s.windowPassed d).modDroop d (fun v => v.windowed (w.extended deepest thermal))
    | none => (((s.windowPassed d).modDroop d (fun v => v.windowed ((s.windowPassed d).newWindow
        ((s.tb.now : Int) - (s.cyc 0x2400 1 : Int)) deepest thermal))).bump (0x2410 + d) 0x0A).windowNotice d
          ((s.tb.now : Int) - (s.cyc 0x2400 1 : Int)) := rfl

theorem State.windowPassed_retains (s : State) (d : Nat) : Retains (s.windowPassed d) s := by
  unfold State.windowPassed
  split
  · split
    · exact Retains.ite (s.closeWindow_retains _ _ _) (Retains.refl s)
    · exact Retains.refl s
  · exact Retains.refl s

theorem State.openWindow_retains (s : State) (d deepest : Nat) (thermal : Bool) : Retains (s.openWindow d deepest thermal) s := by
  rw [State.openWindow_eq]
  split
  · exact Retains.trans (b := s.windowPassed d) Retains.of_eq (s.windowPassed_retains d)
  · exact (State.windowNotice_retains _ _ _).trans (Retains.trans (b := s.windowPassed d) Retains.of_eq (s.windowPassed_retains d))

theorem State.raisePlan_retains (s : State) (r count delay : Nat) : Retains (s.raisePlan r count delay) s := by
  unfold State.raisePlan
  refine Retains.trans (Retains.each (fun t k => ?_) _ _) (b := s.setRail r { s.rail r with plan := max (s.rail r).plan count }) ?_
  · unfold State.addLane State.wakeLane
    dsimp only
    split
    · exact Retains.refl t
    · split <;> exact Retains.of_eq
  · exact Retains.of_eq

theorem State.fireTrigger_retains (s : State) (r : Nat) : Retains (s.fireTrigger r) s := by
  unfold State.fireTrigger
  extract_lets v was s1 s2 s3 s4 s5
  have h2 : Retains s2 s := Retains.of_eq
  have h5 : Retains s5 s := (State.captureEvent_retains _ _ _).trans ((State.raisePlan_retains _ _ _ _).trans
    ((State.abortShed_retains _ _).trans h2))
  refine Retains.ite (Retains.ite Retains.of_eq Retains.of_eq) (Retains.ite (Retains.ite ?_ h5) (Retains.refl s))
  exact (State.trigger_retains _ _ _ _ _ _).trans h5

theorem State.deepEvent_retains (s : State) (d level : Nat) : Retains (s.deepEvent d level) s := by
  unfold State.deepEvent
  extract_lets r w1 w2 s1 s2
  have h1 : Retains s1 s := Retains.ite Retains.of_eq Retains.of_eq
  exact (State.captureEvent_retains _ _ _).trans ((State.openWindow_retains _ _ _ _).trans h1)

theorem State.severeEvent_retains (s : State) (d : Nat) : Retains (s.severeEvent d) s := by
  unfold State.severeEvent
  extract_lets s1 s2
  have h2 : Retains s2 s := (State.fireTrigger_retains _ _).trans Retains.of_eq
  exact Retains.ite ((State.trigger_retains _ _ _ _ _ _).trans h2) h2

theorem State.indicate_retains (s : State) (d level : Nat) : Retains (s.indicate d level) s := by
  unfold State.indicate
  split
  · exact Retains.refl s
  · extract_lets now v old stretch s1 s2 s3
    have h2 : Retains s2 s := Retains.of_eq
    have h3 : Retains s3 s := Retains.ite ((State.deepEvent_retains _ _ _).trans h2) h2
    exact Retains.ite ((State.severeEvent_retains _ _).trans h3) h3

theorem State.fastOnly_retains (s : State) (d : Nat) : Retains (s.fastOnly d) s := by
  unfold State.fastOnly
  exact Retains.ite (Retains.refl s) ((State.indicate_retains _ _ _).trans Retains.of_eq)

theorem State.fastLate_retains (s : State) (d : Nat) : Retains (s.fastLate d) s :=
  Retains.ite (s.fastOnly_retains d) (Retains.refl s)

/-- The last reading of a tap: code, sense voltage, sum and number of its codes. -/
def DroopTap.reading (p : DroopTap) : Nat × BitVec 16 × Nat × Nat := (p.code, p.volts, p.sum, p.count)

theorem Retains.reading {t s : State} (h : Retains t s) (k : Nat) : (t.tap k).reading = (s.tap k).reading := by
  have hk := h.tap k
  unfold DroopTap.reading
  rw [hk.code, hk.volts, hk.sum, hk.count]

theorem State.badReport_reading (s : State) (k : Nat) : ((s.badReport k).tap k).reading = (s.tap k).reading := by
  have hd := (s.dEvent_retains 23).reading k
  unfold State.badReport
  dsimp only
  generalize s.dEvent 23 = u at hd ⊢
  split
  · rw [(u.maskTap_retains k).reading k, State.tap_setTap, if_pos rfl]
    exact hd
  · rw [State.modTap_eq, State.tap_setTap, if_pos rfl]
    exact hd

theorem State.discardReport_reading (s : State) (k d : Nat) : ((s.discardReport k d).tap k).reading = (s.tap k).reading := by
  unfold State.discardReport
  extract_lets now u
  rw [(State.fastOnly_retains _ d).reading k]
  exact (State.badReport_reading u k).trans rfl

/-! #### The levels of a report -/

/-- A tap that a used report of it leaves, before the domain acts (05 R133). -/
def DroopTap.reported (p : DroopTap) (code reach : Nat) : DroopTap :=
  { p with code := code, sum := p.sum + code, count := p.count + 1, reach := reach }

/-- A domain's statistics and clearance counts after a used report (05 R129, R130, R133). -/
def Droop.reported (v : Droop) (now k code hyst : Nat) (g : TapGroup) (deepSeen severeSeen : Bool) : Droop :=
  { v with
    lowest := if code < v.lowest then code else v.lowest
    lowTap := if code < v.lowest then k else v.lowTap
    fLow := min v.fLow code
    badMild := if code ≤ g.mild + hyst then now else v.badMild
    badDeep := if code ≤ g.deep + hyst || deepSeen || severeSeen then now else v.badDeep
    badSevere := if code ≤ g.severe + hyst || severeSeen then now else v.badSevere }

/-- The state in which a used report's level is taken. -/
def State.reported (s : State) (k d code : Nat) (deepSeen severeSeen : Bool) : State :=
  let g := s.group (s.tapGroup k)
  let u := s.setTap k ((s.tap k).reported code (reachOf g code deepSeen severeSeen))
  u.setDroop d ((u.droop d).reported s.tb.now k code (s.obj 0x2400 3) g deepSeen severeSeen)

/-- The domain after the actions of the report's level. -/
def State.levelled (s : State) (d reach : Nat) : State :=
  if reach = s.domainLevel d && s.domainLevel d != 0 then s.indicate d (s.domainLevel d) else s.relevel d

theorem State.useReport_eq (s : State) (k d code : Nat) (deepSeen severeSeen : Bool) :
    s.useReport k d code deepSeen severeSeen =
      (((s.reported k d code deepSeen severeSeen).levelled d
        (reachOf (s.group (s.tapGroup k)) code deepSeen severeSeen)).modDroop d (fun v =>
          { v.note s.tb.now k code with
            lineDeep := 2 ≤ (s.reported k d code deepSeen severeSeen).domainLevel d
            lineSev := (s.reported k d code deepSeen severeSeen).domainLevel d = 3 })).fastLate d := rfl

theorem State.levelled_retains (s : State) (d reach : Nat) : Retains (s.levelled d reach) s :=
  Retains.ite (s.indicate_retains d _) Retains.of_eq

theorem State.useReport_reading (s : State) (k d code : Nat) (deepSeen severeSeen : Bool) :
    ((s.useReport k d code deepSeen severeSeen).tap k).reading =
      (code, (s.tap k).volts, (s.tap k).sum + code, (s.tap k).count + 1) := by
  rw [State.useReport_eq, (State.fastLate_retains _ d).reading k]
  refine ((State.levelled_retains _ _ _).reading k).trans ?_
  exact congrArg DroopTap.reading ((State.tap_setTap s k k _).trans (if_pos rfl))

/-! #### A level below SEVERE touches its own domain's droop state -/

/-- Of the droop state only the window of domain `d` changes. -/
structure Windows (d : Nat) (t s : State) : Prop where
  other : ∀ e, e ≠ d → t.droop e = s.droop e
  own : t.droop d = { s.droop d with window := (t.droop d).window }

theorem Windows.of_eq {d : Nat} {t s : State} (h : t.droops = s.droops := by rfl) : Windows d t s := by
  have hd : ∀ e, t.droop e = s.droop e := fun e => by unfold State.droop; rw [h]
  exact ⟨fun e _ => hd e, by rw [hd d]⟩

theorem Windows.trans {d : Nat} {a b c : State} (h : Windows d a b) (g : Windows d b c) : Windows d a c := by
  refine ⟨fun e he => (h.other e he).trans (g.other e he), ?_⟩
  have h1 := h.own
  rw [g.own] at h1
  exact h1

theorem Windows.setDroop (s : State) (d : Nat) (w : Option Window) :
    Windows d (s.setDroop d { s.droop d with window := w }) s := by
  refine ⟨fun e he => (State.droop_setDroop s d e _).trans (if_neg he), ?_⟩
  rw [State.droop_setDroop, if_pos rfl]

theorem State.closeWindow_windows (s : State) (d : Nat) (w : Window) (c : Nat) : Windows d (s.closeWindow d w c) s := by
  have h : Windows d (s.closeWindow d w c) (s.setDroop d { s.droop d with window := none }) := by
    rw [State.closeWindow_frame]
    exact Windows.of_eq
  exact h.trans (Windows.setDroop s d none)

theorem State.windowPassed_windows (s : State) (d : Nat) : Windows d (s.windowPassed d) s := by
  unfold State.windowPassed
  split
  · split
    · split
      · exact s.closeWindow_windows _ _ _
      · exact Windows.of_eq
    · exact Windows.of_eq
  · exact Windows.of_eq

theorem State.closeWindow_assayer (s : State) (d : Nat) (w : Window) (c : Nat) :
    (s.closeWindow d w c).assayer = s.assayer := by rw [State.closeWindow_frame]

theorem State.windowPassed_assayer (s : State) (d : Nat) : (s.windowPassed d).assayer = s.assayer := by
  unfold State.windowPassed
  split
  · split
    · split
      · exact s.closeWindow_assayer _ _ _
      · rfl
    · rfl
  · rfl

/-- With no group held in its log the Assayer only tags entries at the open notice of a window (11 R269). -/
theorem State.windowNotice_droops {s : State} (h : s.assayer.groups = []) (d : Nat) (opened : Int) :
    (s.windowNotice d opened).droops = s.droops := by
  unfold State.windowNotice
  split
  · dsimp only
    generalize hu : each (s.assayer.entries.filter _) _ s = u
    have hkeep : u.droops = s.droops ∧ u.assayer.groups = [] := by
      rw [← hu]
      refine each_carries (fun t => t.droops = s.droops ∧ t.assayer.groups = []) (fun t p ht => ?_) _ s ⟨rfl, h⟩
      exact ht
    rw [hkeep.2]
    exact hkeep.1
  · rfl

theorem State.openWindow_windows {s : State} (h : s.assayer.groups = []) (d deepest : Nat) (thermal : Bool) :
    Windows d (s.openWindow d deepest thermal) s := by
  have hp := s.windowPassed_windows d
  rw [State.openWindow_eq]
  split
  · exact (Windows.setDroop (s.windowPassed d) d _).trans hp
  · let v := (s.windowPassed d).setDroop d (((s.windowPassed d).droop d).windowed ((s.windowPassed d).newWindow
      ((s.tb.now : Int) - (s.cyc 0x2400 1 : Int)) deepest thermal))
    have hv : Windows d v s := (Windows.setDroop (s.windowPassed d) d _).trans hp
    have hgroups : (v.bump (0x2410 + d) 0x0A).assayer.groups = [] := by
      show (s.windowPassed d).assayer.groups = []
      rw [s.windowPassed_assayer]
      exact h
    exact Windows.trans (b := v.bump (0x2410 + d) 0x0A) (Windows.of_eq (State.windowNotice_droops hgroups _ _))
      (Windows.trans (b := v) Windows.of_eq hv)

theorem State.captureEvent_windows (s : State) (d a b : Nat) : Windows d (s.captureEvent a b) s := by
  rw [State.captureEvent_capture]
  exact Windows.of_eq

theorem State.deepEvent_windows {s : State} (h : s.assayer.groups = []) (d level : Nat) : Windows d (s.deepEvent d level) s := by
  unfold State.deepEvent
  extract_lets r w1 w2 s1 s2
  have h1 : Windows d s1 s ∧ s1.assayer.groups = [] := by
    show Windows d (if s.sweeping r then _ else _ : State) s ∧ (if s.sweeping r then _ else _ : State).assayer.groups = []
    split
    · exact ⟨Windows.of_eq, h⟩
    · exact ⟨Windows.of_eq, h⟩
  exact (State.captureEvent_windows _ _ _ _).trans ((State.openWindow_windows h1.2 _ _ _).trans h1.1)

/-- What stands in a domain at a level below SEVERE with no fast-path latch (05 R127 to R129). -/
structure Droop.Stands (v : Droop) (lv : Nat) : Prop where
  level : v.level = lv
  frozen : v.frozen.isSome = true
  active : v.active = true
  stretch : lv = 2 → 1 ≤ v.stretch
  fast : v.fast = 0

theorem State.indicate_stands {s : State} {d lv : Nat} (h1 : 1 ≤ lv) (h2 : lv ≤ 2) (hfast : (s.droop d).fast = 0)
    (hgroups : s.assayer.groups = []) :
    ((s.indicate d lv).droop d).Stands lv ∧ ∀ e, e ≠ d → (s.indicate d lv).droop e = s.droop e := by
  unfold State.indicate
  rw [if_neg (by omega)]
  extract_lets now v old stretch s1 s2 s3
  have hstretch : lv = 2 → 1 ≤ stretch := fun e => by
    show 1 ≤ if lv = 3 then 4 else if lv = 2 then max v.stretch 1 else v.stretch
    rw [if_neg (by omega), if_pos e]
    exact Nat.le_max_right _ _
  have hs1 : s1.droop d = _ := (State.droop_setDroop s d d _).trans (if_pos rfl)
  have hstands1 : (s1.droop d).Stands lv := by
    rw [hs1]
    refine ⟨rfl, ?_, rfl, hstretch, if_pos ?_⟩
    · dsimp only
      split
      · assumption
      · rfl
    · show v.fast ≤ stretch
      rw [show v.fast = 0 from hfast]
      exact Nat.zero_le _
  have hother1 : ∀ e, e ≠ d → s1.droop e = s.droop e := fun e he => (State.droop_setDroop s d e _).trans (if_neg he)
  have hw : Windows d s3 s2 := by
    show Windows d (if old < lv && Decidable.decide (2 ≤ lv) then s2.deepEvent d lv else s2) s2
    split
    · exact State.deepEvent_windows (s := s2) hgroups d lv
    · exact Windows.of_eq
  rw [if_neg (by simp; omega)]
  refine ⟨?_, fun e he => (hw.other e he).trans (hother1 e he)⟩
  obtain ⟨a, b, c, e, f⟩ := hstands1
  rw [hw.own]
  exact ⟨a, b, c, e, f⟩

/-! #### The level of a domain -/

theorem foldl_max_le (l : List Nat) (a b : Nat) (ha : a ≤ b) (h : ∀ x ∈ l, x ≤ b) : l.foldl max a ≤ b := by
  induction l generalizing a with
  | nil => exact ha
  | cons x rest ih =>
    refine ih (max a x) (Nat.max_le.mpr ⟨ha, h x (List.mem_cons_self ..)⟩) fun y hy => h y (List.mem_cons_of_mem x hy)

theorem le_foldl_max (l : List Nat) (a x : Nat) (h : x ≤ a ∨ x ∈ l) : x ≤ l.foldl max a := by
  induction l generalizing a with
  | nil => exact h.resolve_right (by simp)
  | cons y rest ih =>
    refine ih (max a y) ?_
    rcases h with h | h
    · exact Or.inl (h.trans (Nat.le_max_left _ _))
    · rcases List.mem_cons.mp h with rfl | h
      · exact Or.inl (Nat.le_max_right _ _)
      · exact Or.inr h

/-- A report that reaches the highest level of its domain's used taps gives the domain's level. -/
theorem State.reported_level {s : State} {k d code lv : Nat} {deepSeen severeSeen : Bool} (hk : k ∈ s.domainTaps d)
    (hst : (s.tap k).st = .valid) (hlv : reachOf (s.group (s.tapGroup k)) code deepSeen severeSeen = lv)
    (hmax : ∀ j ∈ s.domainTaps d, j ≠ k → (s.tap j).st.used = true → (s.tap j).reach ≤ lv) :
    (s.reported k d code deepSeen severeSeen).domainLevel d = lv := by
  let u := s.setTap k ((s.tap k).reported code (reachOf (s.group (s.tapGroup k)) code deepSeen severeSeen))
  have htap : ∀ j, u.tap j = if j = k then (s.tap k).reported code lv else s.tap j := fun j => by
    rw [← hlv]
    exact State.tap_setTap s k j _
  show (((s.domainTaps d).filter (fun j => (u.tap j).st.used)).map (fun j => (u.tap j).reach)).foldl max 0 = lv
  refine Nat.le_antisymm (foldl_max_le _ _ _ (Nat.zero_le _) fun x hx => ?_) (le_foldl_max _ _ _ (Or.inr ?_))
  · obtain ⟨j, hj, rfl⟩ := List.mem_map.mp hx
    obtain ⟨hmem, hused⟩ := List.mem_filter.mp hj
    rw [htap] at hused ⊢
    by_cases hjk : j = k
    · rw [if_pos hjk]
      exact Nat.le_refl _
    · rw [if_neg hjk] at hused ⊢
      exact hmax j hmem hjk hused
  · refine List.mem_map.mpr ⟨k, List.mem_filter.mpr ⟨hk, ?_⟩, ?_⟩
    · rw [htap, if_pos rfl]
      show (s.tap k).st.used = true
      rw [hst]
      rfl
    · rw [htap, if_pos rfl]
      rfl

theorem Droop.note_frame (v : Droop) (now k code : Nat) : v.note now k code = { v with window := (v.note now k code).window } := by
  unfold Droop.note
  split
  · split <;> rfl
  · rfl

/-! #### The statement -/

theorem State.goodParity_clean {s : State} {k : Nat} (h : (s.tap k).parityBad = false) : s.goodParity k = s :=
  if_neg (by rw [h]; decide)

/-- A tap whose report carries a sense voltage. -/
def State.sensed (s : State) (k : Nat) (v : BitVec 16) : State := s.setTap k { s.tap k with volts := v }

theorem exec_droopReport_used {s : State} {k : Nat} {rep : BitVec 10} {v : BitVec 16} (hk : k < s.tapCount)
    (hst : (s.tap k).st = .valid) (hbad : (s.tap k).parityBad = false) (hok : reportParity rep v = true)
    (hval : rep.getLsbD 6 = true) : exec (.droopReport k rep v) s =
      .next ((s.sensed k v).useReport k (s.tapDomain k) (rep.toNat % 64) (rep.getLsbD 7) (rep.getLsbD 8)) := by
  have htap : (s.sensed k v).tap k = { s.tap k with volts := v } := (State.tap_setTap s k k _).trans (if_pos rfl)
  show execDroopReport k rep v s = _
  unfold execDroopReport
  rw [if_neg (by omega)]
  dsimp only
  rw [hok]
  simp only [if_true, Bool.and_true, hval, Bool.not_true, Bool.false_eq_true, if_false]
  rw [show (s.modTap k fun p => { p with volts := v }) = s.sensed k v from rfl, htap]
  dsimp only
  rw [hst]
  dsimp only
  rw [State.goodParity_clean (by rw [htap]; exact hbad)]

/-- Settles O20: readings outlast what a report raises (`Retains.reading`); a level below SEVERE changes the droop state of
its own domain alone (`indicate_stands`). -/
theorem droopReports : Obligations.DroopReports := by
  unfold Obligations.DroopReports
  refine ⟨fun k rep v s hk => if_pos hk, fun k rep v s hk hst hbad hok hval => ?_,
    fun k d lv rep v s hk hst hbad hok hval hg hd hlv h1 h2 hmax hfast hgroups => ?_,
    fun k rep v s hk hst hok => ?_, fun d sev s hu hg hf ht => ?_, fun d sev s h => if_neg ?_,
    fun k rep v s hk hst => ?_⟩
  case refine_1 =>
    have hread := (s.sensed k v).useReport_reading k (s.tapDomain k) (rep.toNat % 64) (rep.getLsbD 7) (rep.getLsbD 8)
    have hkeep := (s.sensed k v).useReport_keeps k (s.tapDomain k) (rep.toNat % 64) (rep.getLsbD 7) (rep.getLsbD 8)
    have htap : (s.sensed k v).tap k = { s.tap k with volts := v } := (State.tap_setTap s k k _).trans (if_pos rfl)
    rw [htap] at hread
    obtain ⟨hcode, hrest⟩ := Prod.mk.inj hread
    obtain ⟨hvolts, hrest⟩ := Prod.mk.inj hrest
    obtain ⟨hsum, hcount⟩ := Prod.mk.inj hrest
    exact ⟨_, exec_droopReport_used hk hst hbad hok hval, hcode, hvolts, hsum, hcount, hkeep.2.2.2.1⟩
  case refine_2 =>
    have hdom : s.tapDomain k = d := (if_pos hg).trans hd
    let u := s.sensed k v
    let b := u.reported k d (rep.toNat % 64) (rep.getLsbD 7) (rep.getLsbD 8)
    have htap : ∀ j, u.tap j = if j = k then { s.tap k with volts := v } else s.tap j := fun j => State.tap_setTap s k j _
    have hmem : k ∈ u.domainTaps d :=
      List.mem_filter.mpr ⟨List.mem_range.mpr hk, by simp only [Bool.and_eq_true, decide_eq_true_eq, beq_iff_eq]; exact ⟨hg, hd⟩⟩
    have hlevel : b.domainLevel d = lv := by
      refine State.reported_level (s := u) hmem (by rw [htap, if_pos rfl]; exact hst) hlv fun j hj hjk hused => ?_
      rw [htap, if_neg hjk] at hused ⊢
      exact hmax j hj hjk hused
    have hb : b.droop d = _ := (State.droop_setDroop _ d d _).trans (if_pos rfl)
    have hbother : ∀ e, e ≠ d → b.droop e = s.droop e := fun e he => (State.droop_setDroop _ d e _).trans (if_neg he)
    have hbfast : (b.droop d).fast = 0 := by rw [hb]; exact hfast
    obtain ⟨hstands, hother⟩ := State.indicate_stands (s := b) h1 h2 hbfast hgroups
    have hlev : b.levelled d lv = b.indicate d lv := by
      unfold State.levelled
      rw [hlevel, if_pos (by simp; omega)]
    have hexec := exec_droopReport_used hk hst hbad hok hval
    rw [hdom, State.useReport_eq, show reachOf (u.group (u.tapGroup k)) _ _ _ = lv from hlv, hlev] at hexec
    generalize b.indicate d lv = w at hstands hother hexec
    obtain ⟨hl, hfr, hact, hstr, hfa⟩ := hstands
    let x : Droop := { (w.droop d).note u.tb.now k (rep.toNat % 64) with
      lineDeep := 2 ≤ b.domainLevel d
      lineSev := b.domainLevel d = 3 }
    have hx : (w.setDroop d x).droop d = x := (State.droop_setDroop w d d x).trans (if_pos rfl)
    have hnote := (w.droop d).note_frame u.tb.now k (rep.toNat % 64)
    have hxfast : x.fast = 0 := by
      show ((w.droop d).note u.tb.now k (rep.toNat % 64)).fast = 0
      rw [hnote]
      exact hfa
    have hlate : (w.setDroop d x).fastLate d = w.setDroop d x := by
      unfold State.fastLate State.fastOnly
      dsimp only
      rw [hx, if_pos hxfast, ite_self]
    refine ⟨w.setDroop d x, hexec.trans (congrArg _ hlate), ?_, ?_, ?_, fun e => ?_, fun e he => ?_⟩
    · rw [hx]
      show ((w.droop d).note u.tb.now k (rep.toNat % 64)).level = lv
      rw [hnote]
      exact hl
    · rw [hx]
      show ((w.droop d).note u.tb.now k (rep.toNat % 64)).frozen.isSome = true
      rw [hnote]
      exact hfr
    · rw [hx]
      show ((w.droop d).note u.tb.now k (rep.toNat % 64)).active = true
      rw [hnote]
      exact hact
    · rw [hx]
      show 1 ≤ ((w.droop d).note u.tb.now k (rep.toNat % 64)).stretch
      rw [hnote]
      exact hstr e
    · exact ((State.droop_setDroop w d e x).trans (if_neg he)).trans ((hother e he).trans (hbother e he))
  case refine_3 =>
    let u := s.sensed k (s.tap k).volts
    have htap : u.tap k = s.tap k := (State.tap_setTap s k k _).trans (if_pos rfl)
    have hrun : exec (.droopReport k rep v) s = .next (u.discardReport k (s.tapDomain k)) := by
      show execDroopReport k rep v s = _
      unfold execDroopReport
      rw [if_neg (by omega)]
      dsimp only
      rw [hok]
      simp only [Bool.false_eq_true, if_false, Bool.and_false, Bool.not_false, if_true]
      rw [show (s.modTap k fun p => { p with volts := p.volts }) = u from rfl, htap, hst]
    have hread := u.discardReport_reading k (s.tapDomain k)
    rw [htap] at hread
    obtain ⟨hcode, hrest⟩ := Prod.mk.inj hread
    obtain ⟨hvolts, hrest⟩ := Prod.mk.inj hrest
    exact ⟨_, hrun, hcode, hvolts, (Prod.mk.inj hrest).1⟩
  case refine_4 =>
    refine ⟨_, if_pos (by simp [hu, hg, hf, ht]), ?_⟩
    have hdroop : ∀ (t : State) (x : Droop) (e : Nat), (t.setDroop d x).droop e = if e = d then x else t.droop e :=
      fun t x e => State.droop_setDroop t d e x
    simp only [State.modDroop_eq]
    refine ⟨?_, ?_, ?_, fun e he => (hdroop _ _ e).trans (if_neg he), rfl⟩
    · rw [hdroop, if_pos rfl]; rfl
    · rw [hdroop, if_pos rfl]
    · rw [hdroop, if_pos rfl]
      dsimp only
      split
      · rfl
      · next h =>
        rw [Option.isNone_iff_eq_none] at h
        exact Option.isSome_iff_ne_none.mpr h
  case refine_5 => rcases h with h | h | h | h <;> simp [h]
  case refine_6 =>
    let u := s.sensed k (if reportParity rep v then v else (s.tap k).volts)
    have htap : (u.tap k).st = .idle := by
      rw [show u.tap k = _ from (State.tap_setTap s k k _).trans (if_pos rfl)]
      exact hst
    have hrun : exec (.droopReport k rep v) s =
        .next (u.censusReport k (s.tapDomain k) (rep.getLsbD 6 && reportParity rep v)) := by
      show execDroopReport k rep v s = _
      unfold execDroopReport
      rw [if_neg (by omega)]
      dsimp only
      rw [show (s.modTap k fun p => { p with volts := if reportParity rep v then v else p.volts }) = u from rfl, htap]
    exact ⟨_, hrun, rfl⟩


/-! ### O30: known-answer runs and margin sweeps (11 R287, R288) -/

theorem State.pumpRun_retains (s : State) : Retains s.pumpRun s := by
  unfold State.pumpRun
  split
  · exact Retains.refl s
  · refine Retains.trans (Retains.each (fun t q => ?_) _ _) Retains.of_eq
    refine Retains.ite Retains.of_eq (Retains.ite ((State.dEvent_retains _ 53).trans Retains.of_eq) (Retains.ite ?_ Retains.of_eq))
    exact Retains.trans (b := t.request _) Retains.of_eq (t.request_retains _)

/-- With nothing left to send no request goes out. -/
theorem State.pumpRun_empty {s : State} (h : s.assayer.run.todo = []) : s.pumpRun = s := by
  unfold State.pumpRun
  split
  · rfl
  · rw [h]
    show ({ s with assayer := { s.assayer with run := { s.assayer.run with todo := [] } } } : State) = s
    rw [← h]

/-! #### The end of a step -/

/-- The state in which the domains of a finished step are judged. -/
def State.stepOver (s : State) : State :=
  State.judgeStep { s with assayer := { s.assayer with run := { s.assayer.run with active := false } } }

theorem State.stepOver_frame (s : State) : s.stepOver = { s with assayer := s.stepOver.assayer } ∧
    s.stepOver.assayer.run.active = false ∧ s.stepOver.assayer.sweep.rail = s.assayer.sweep.rail ∧
    s.stepOver.assayer.sweep.status = s.assayer.sweep.status ∧ s.stepOver.assayer.sweep.trim = s.assayer.sweep.trim ∧
    s.stepOver.assayer.sweep.start = s.assayer.sweep.start := ⟨rfl, rfl, rfl, rfl, rfl, rfl⟩

theorem State.stepOver_cyc (s : State) (i j : Nat) : s.stepOver.cyc i j = s.cyc i j := by
  rw [s.stepOver_frame.1]
  rfl

theorem State.sweepStep_starts (s : State) (trim : Nat) :
    (s.sweepStep trim).assayer.run.active = s.assayer.run.active ∧
      (s.sweepStep trim).assayer.sweep.status = s.assayer.sweep.status ∧ (s.sweepStep trim).assayer.sweep.trim = trim ∧
      (s.sweepStep trim).assayer.sweep.settleEnd = some (s.tb.now + s.cyc 0x6002 4) ∧
      ((s.sweepStep trim).rail s.assayer.sweep.rail).avs = trim ∧
      s.sweepStep trim = { s with assayer := (s.sweepStep trim).assayer, rails := (s.sweepStep trim).rails } := by
  have hcyc : ∀ f, (s.modRail s.assayer.sweep.rail f).cyc 0x6002 4 = s.cyc 0x6002 4 := fun f => by
    unfold State.cyc
    rw [State.obj_same (s := s) (t := s.modRail s.assayer.sweep.rail f)]
  unfold State.sweepStep
  dsimp only
  rw [hcyc]
  exact ⟨rfl, rfl, rfl, rfl, congrArg Rail.avs (tget_tset_same s.rails s.assayer.sweep.rail _ _), rfl⟩

/-- Whether the sweep is at its end after a step (R288). -/
def State.sweepEnds (s : State) : Bool :=
  s.assayer.sweep.live.isEmpty || Decidable.decide (s.obj (0x2200 + s.assayer.sweep.rail) 1 <
    s.assayer.sweep.trim + 80 + s.obj (0x2200 + s.assayer.sweep.rail) 2) ||
    Decidable.decide (s.cyc 0x6002 5 < s.tb.now - s.assayer.sweep.start)

theorem exec_sweepStepComplete {s : State} (h1 : s.assayer.sweep.status = 1) (h2 : s.assayer.sweep.settleEnd = none)
    (h3 : s.assayer.run.sweep = true) (h4 : s.assayer.run.over = true) : exec .sweepStepComplete s =
      if s.stepOver.sweepEnds then .next s.stepOver.finishSweep
      else .next (s.stepOver.sweepStep (s.stepOver.assayer.sweep.trim + 80)) :=
  if_pos (by simp [h1, h2, h3, h4])

/-- A finished sweep: trim 0 on its rail, and beside what a signal notes only the Assayer, the rail and the vmin words. -/
theorem State.finishSweep_ends (s : State) :
    s.finishSweep.assayer.run.active = s.assayer.run.active ∧ s.finishSweep.assayer.sweep.status = 2 ∧
      s.finishSweep.assayer.sweep.trim = 0 ∧ (s.finishSweep.rail s.assayer.sweep.rail).avs = 0 ∧
      Noted s.finishSweep { s with
        assayer := s.finishSweep.assayer
        rails := s.finishSweep.rails
        poison := s.finishSweep.poison } := by
  unfold State.finishSweep
  extract_lets w s1 keep vmin res s2 results w3 s3
  have h2 : s2.assayer = s.assayer ∧ s2.rails = s1.rails ∧ s2 = { s1 with poison := s2.poison } :=
    each_carries (fun t => t.assayer = s.assayer ∧ t.rails = s1.rails ∧ t = { s1 with poison := t.poison })
      (fun t d ht => by
        obtain ⟨ha, hr, hf⟩ := ht
        refine ⟨ha, hr, ?_⟩
        unfold State.cleanse
        rw [hf]) keep s1 ⟨rfl, rfl, rfl⟩
  have hn := s3.signal_noted 0x0C7
  generalize s3.signal 0x0C7 = t at hn ⊢
  obtain ⟨ha, hr, hf⟩ := h2
  have hta : t.assayer = s3.assayer := by unfold Noted at hn; rw [hn]
  have htr : t.rails = s1.rails := by unfold Noted at hn; rw [hn]; exact hr
  refine ⟨?_, by rw [hta], by rw [hta], ?_, ?_⟩
  · rw [hta]
    show s2.assayer.run.active = _
    rw [ha]
  · unfold State.rail
    rw [htr]
    exact congrArg Rail.avs (tget_tset_same s.rails w.rail _ _)
  · have hs3 : s3 = { s with assayer := s3.assayer, rails := s3.rails, poison := s3.poison } := by
      show ({ s2 with assayer := s3.assayer } : State) = { s with assayer := s3.assayer, rails := s2.rails, poison := s2.poison }
      rw [hf]
      rfl
    unfold Noted at hn ⊢
    generalize s3 = v at hn hs3
    rw [hn, hs3]

/-- Settles O30: a run by what `pumpRun` keeps (`Retains`, `Spares`), a step by `finishSweep_ends`. -/
theorem assayRuns : Obligations.AssayRuns := by
  unfold Obligations.AssayRuns
  refine ⟨fun a i u s ho => ?_, fun s h1 h2 => ?_, fun u s h1 h2 => ?_, fun s h1 h2 h3 h4 => ?_, fun a i s ho => ?_,
    fun s h => if_neg ?_, fun s h => ?_, fun s h => if_neg ?_⟩
  case refine_1 =>
    let v := (s.atTime (u + s.cyc (0x6300 + i) 5)).notRun a i
    have hrun : exec (.knownAnswerTimeout a i) s = .next v.pumpRun := by
      show execKnownAnswerTimeout a i s = _
      unfold execKnownAnswerTimeout
      rw [ho]
    have hsp := v.pumpRun_spares
    have hnow : v.pumpRun.tb.now = v.tb.now := by simp only [hsp]
    refine ⟨_, hrun, hnow, fun htodo => ?_⟩
    have hv : v.pumpRun = v := State.pumpRun_empty (s := v) htodo
    rw [hv]
    refine ⟨?_, rfl, rfl⟩
    refine (State.obj_bump_same _ 0x6003 7).trans ?_
    exact congrArg (fun x => min (x + 1) 0xFFFFFFFF) State.obj_same
  case refine_2 =>
    exact ⟨_, if_pos (by simp [h1, h2]), State.signal_noted _ _⟩
  case refine_3 =>
    let v := s.atTime u
    let w : State := { v with assayer := { v.assayer with sweep := { s.assayer.sweep with settleEnd := none } } }
    let arrays := w.arraysUsed.filter (fun a => s.assayer.sweep.live.contains ((w.arrayDomain a).getD 32))
    have hrun : exec .sweepSettleEnd s =
        .next (w.beginRun arrays (bitsOf 64 (w.obj 0x6002 6)) true (s.assayer.sweep.trim = 0)) := by
      show execSweepSettleEnd s = _
      unfold execSweepSettleEnd
      dsimp only
      split
      · next t ht =>
        obtain rfl : u = t := Option.some.inj (h1.symm.trans ht)
        exact if_pos h2
      · next hn => exact absurd (h1.symm.trans hn) (Option.some_ne_none u)
    obtain ⟨run, hbegin⟩ : ∃ run, w.beginRun arrays (bitsOf 64 (w.obj 0x6002 6)) true (s.assayer.sweep.trim = 0) =
        State.pumpRun { (w.setObj 0x6003 5 0).setObj 0x6003 6 0 with assayer := { w.assayer with run := run } } := ⟨_, rfl⟩
    rw [hbegin] at hrun
    generalize hx : ({ (w.setObj 0x6003 5 0).setObj 0x6003 6 0 with assayer := { w.assayer with run := run } } : State) = x
      at hrun
    have hsp := x.pumpRun_spares
    have hnow : x.pumpRun.tb.now = x.tb.now := by simp only [hsp]
    refine ⟨_, hrun, hnow.trans (by rw [← hx]; rfl), x.pumpRun_retains.settle (by rw [← hx])⟩
  case refine_4 =>
    obtain ⟨hframe, hactive, hrail, hstatus, htrim, hstart⟩ := s.stepOver_frame
    have hnow : s.stepOver.tb.now = s.tb.now := rfl
    have hrun := exec_sweepStepComplete h1 h2 h3 h4
    by_cases hend : s.stepOver.sweepEnds = true
    · replace hrun := hrun.trans (if_pos hend)
      obtain ⟨ha, hst, htr, havs, hn⟩ := s.stepOver.finishSweep_ends
      refine ⟨_, hrun, ha.trans hactive, Or.inl ⟨hst, htr, ?_⟩, ?_⟩
      · rw [← hrail]
        exact havs
      · generalize s.stepOver.finishSweep = t at hn ⊢
        unfold Noted at hn ⊢
        generalize s.stepOver = v at hn hframe
        rw [hn, hframe]
    · replace hrun := hrun.trans (if_neg hend)
      have htime : s.tb.now - s.assayer.sweep.start ≤ s.cyc 0x6002 5 := by
        unfold State.sweepEnds at hend
        simp only [Bool.or_eq_true, decide_eq_true_eq, not_or, not_lt] at hend
        rw [← s.stepOver_cyc, ← hnow, ← hstart]
        exact hend.2
      obtain ⟨ha, hst, htr, hset, havs, hfr⟩ := s.stepOver.sweepStep_starts (s.stepOver.assayer.sweep.trim + 80)
      refine ⟨_, hrun, ha.trans hactive, Or.inr ⟨hst.trans (hstatus.trans h1), htr.trans (by rw [htrim]), ?_, ?_, htime⟩, ?_⟩
      · rw [hset, s.stepOver_cyc]
        rfl
      · rw [← hrail, havs, htrim]
      · generalize s.stepOver.sweepStep (s.stepOver.assayer.sweep.trim + 80) = t at hfr ⊢
        generalize s.stepOver = v at hfr hframe
        unfold Noted
        rw [hfr, hframe]
  case refine_5 =>
    show execKnownAnswerTimeout a i s = _
    unfold execKnownAnswerTimeout
    rw [ho]
  case refine_6 => rcases h with h | h <;> simp [h]
  case refine_7 =>
    show execSweepSettleEnd s = _
    unfold execSweepSettleEnd
    dsimp only
    rcases h with h | h
    · rw [h]
    · split
      · exact if_neg h
      · rfl
  case refine_8 => rcases h with h | h <;> simp [h]


/-! ### O22: a domain from its wake to ON (10 R251 to R256) -/

/-! #### Domains that are down stay so -/

/-- A domain that is OFF or FAULTED stays in that state, isolated where it was and with its stages fallen where they were. -/
def LeavesDown (t s : State) : Prop := ∀ e, (s.domain e).st = .off ∨ (s.domain e).st = .faulted →
  (t.domain e).st = (s.domain e).st ∧ ((s.domain e).iso = true → (t.domain e).iso = true) ∧
    ((s.domain e).stages = 0 → (t.domain e).stages = 0)

theorem LeavesDown.refl (s : State) : LeavesDown s s := fun _ _ => ⟨rfl, fun h => h, fun h => h⟩

theorem LeavesDown.trans {a b c : State} (h : LeavesDown a b) (g : LeavesDown b c) : LeavesDown a c := fun e he => by
  obtain ⟨g1, g2, g3⟩ := g e he
  obtain ⟨h1, h2, h3⟩ := h e (by rw [g1]; exact he)
  exact ⟨h1.trans g1, fun x => h2 (g2 x), fun x => h3 (g3 x)⟩

theorem LeavesDown.ite {c : Prop} [Decidable c] {a b s : State} (ha : LeavesDown a s) (hb : LeavesDown b s) :
    LeavesDown (if c then a else b) s := by split <;> assumption

theorem LeavesDown.of_eq {t s : State} (h : t.domains = s.domains := by rfl) : LeavesDown t s := fun e _ => by
  unfold State.domain
  rw [h]
  exact ⟨rfl, fun h => h, fun h => h⟩

theorem LeavesDown.each {α : Type} {f : State → α → State} (h : ∀ s x, LeavesDown (f s x) s) (l : List α) (s : State) :
    LeavesDown (each l f s) s :=
  each_carries (fun t => LeavesDown t s) (fun t x ht => (h t x).trans ht) l s (LeavesDown.refl s)

theorem Retains.leavesDown {t s : State} (h : Retains t s) : LeavesDown t s := fun e he => by
  rcases h.domain e with hd | hd <;> rw [hd]
  · exact ⟨rfl, fun h => h, fun h => h⟩
  · refine ⟨?_, fun _ => rfl, fun _ => rfl⟩
    rcases he with he | he <;> simp [Domain.isolated, he]

theorem Domain.Waits.down {v w : Domain} (h : Domain.Waits v w) : v.st = w.st ∧ v.iso = w.iso ∧ v.stages = w.stages := by
  unfold Domain.Waits at h
  rw [h]
  exact ⟨rfl, rfl, rfl⟩

theorem State.waitTick_leavesDown (s : State) : LeavesDown s.waitTick s := fun e _ => by
  obtain ⟨h1, h2, h3⟩ := (s.waitTick_waits.2 e).down
  exact ⟨h1, fun h => h2.trans h, fun h => h3.trans h⟩

/-- A change of a domain that is neither OFF nor FAULTED. -/
theorem State.modDomain_leavesDown (s : State) (d : Nat) (f : Domain → Domain)
    (h : (s.domain d).st ≠ .off ∧ (s.domain d).st ≠ .faulted) : LeavesDown (s.modDomain d f) s := fun e he => by
  have hne : e ≠ d := fun x => by
    rw [x] at he
    exact he.elim h.1 h.2
  rw [State.modDomain_eq, State.domain_setDomain, if_neg hne]
  exact ⟨rfl, fun h => h, fun h => h⟩

theorem State.startFall_leavesDown (s : State) (d delay : Nat) (after : AfterGating)
    (h : (s.domain d).st ≠ .off ∧ (s.domain d).st ≠ .faulted) : LeavesDown (s.startFall d delay after) s := by
  have hd : (s.droopLoss d).domain d = s.domain d := by unfold State.domain; rw [s.droopLoss_domains]
  exact (State.waitTick_leavesDown _).trans ((State.modDomain_leavesDown _ d _ (by rw [hd]; exact h)).trans
    (LeavesDown.of_eq (s.droopLoss_domains d)))

theorem State.readSlot_retains (s : State) (n : Nat) : Retains (s.readSlot n) s :=
  Retains.ite ((State.dEvent_retains _ 29).trans Retains.of_eq) (Retains.refl s)

theorem State.dropPredicted_retains (s : State) (n : Nat) : Retains (s.dropPredicted n) s := by
  obtain ⟨r, d, hw⟩ := s.withdraw_horizons n
  unfold State.dropPredicted
  rw [hw]
  exact Retains.of_eq

theorem State.withdrawDomain_retains (s : State) (d : Nat) : Retains (s.withdrawDomain d) s := by
  refine Retains.each (f := fun s n => if ((s.readSlot n).slot n).st == .predicted then (s.readSlot n).dropPredicted n
    else s.readSlot n) (fun t n => ?_) _ s
  exact Retains.ite ((State.dropPredicted_retains _ n).trans (t.readSlot_retains n)) (t.readSlot_retains n)

theorem State.startDrain_leavesDown (s : State) (d : Nat) (h : (s.domain d).st = .on) : LeavesDown (s.startDrain d) s :=
  (State.withdrawDomain_retains _ d).leavesDown.trans
    (s.modDomain_leavesDown d _ (by rw [h]; exact ⟨by decide, by decide⟩))

theorem State.gateDomain_leavesDown (s : State) (d : Nat) : LeavesDown (s.gateDomain d) s := by
  unfold State.gateDomain
  cases hst : (s.domain d).st with
  | waking => exact s.startFall_leavesDown d 0 .off (by rw [hst]; exact ⟨by decide, by decide⟩)
  | settling => exact s.startFall_leavesDown d 0 .off (by rw [hst]; exact ⟨by decide, by decide⟩)
  | on => exact LeavesDown.ite (s.startDrain_leavesDown d hst) (LeavesDown.refl s)
  | _ => exact LeavesDown.refl s

theorem State.startDischarge_retains (s : State) (r : Nat) : Retains (s.startDischarge r) s := by
  have h : Retains (s.retriesEnded r) s := Retains.each (f := fun (s : State) n => s.modLane n Lane.endRetry)
    (fun t n => Retains.of_eq) _ s
  rcases s.startDischarge_cases r with e | ⟨v, e⟩ <;> rw [e]
  · exact (State.railOff_retains _ _).trans h
  · exact Retains.trans (b := (s.retriesEnded r).abortShed r) Retains.of_eq ((State.abortShed_retains _ _).trans h)

theorem State.downDone_retains (s : State) : Retains s.downDone s := by
  unfold State.downDone
  exact Retains.ite (Retains.ite ((State.enter_retains _ _ _).trans Retains.of_eq) (Retains.of_units (fun h => h) fun _ => rfl))
    ((State.enter_retains _ _ _).trans Retains.of_eq)

theorem State.railsDownStep_retains (fuel : Nat) : ∀ s : State, Retains (s.railsDownStep fuel) s := by
  induction fuel with
  | zero => exact fun s => Retains.refl s
  | succ fuel ih =>
    intro s
    rw [State.railsDownStep]
    refine Retains.ite s.downDone_retains ?_
    extract_lets p now s1 w s2
    have h1 : Retains s1 s := Retains.each (fun t r => t.startDischarge_retains r) _ s
    have h2 : Retains s2 s := Retains.trans (b := s1) Retains.of_eq h1
    exact Retains.ite ((ih s2).trans h2) h2

theorem State.gateNext_leavesDown (s : State) : LeavesDown s.gateNext s := by
  rw [State.gateNext_eq]
  have h := LeavesDown.each (fun t d => t.gateDomain_leavesDown d) (List.range 32).reverse s
  exact LeavesDown.ite (LeavesDown.ite ((State.railsDownStep_retains _ _).leavesDown.trans h) h) (LeavesDown.refl s)

/-- What a power-down that begins leaves of a domain (10 States). -/
def Domain.downed (v : Domain) : Domain :=
  { v with
    wanted := false, rushWait := none, retryAt := none, retry := false
    after := if v.after == .fault then .fault else .off }

theorem tget_absent {α : Type} {t : Tbl α} {k : Nat} (h : thas t k = false) (d : α) : tget t k d = d := by
  induction t with
  | nil => rfl
  | cons p rest ih =>
    simp only [thas, List.any_cons, Bool.or_eq_false_iff, beq_eq_false_iff_ne, ne_eq] at h
    exact (if_neg h.1).trans (ih h.2)

theorem State.seqFail_leavesDown (s : State) : LeavesDown s.seqFail s := by
  unfold State.seqFail State.startDown
  refine LeavesDown.ite (LeavesDown.refl s) ((State.gateNext_leavesDown _).trans fun e _ => ?_)
  have hmap : ∀ u : State, u.domains = s.domains.map (fun p => (p.1, p.2.downed)) →
      u.domain e = if thas s.domains e then (s.domain e).downed else {} := fun u hu => by
    unfold State.domain
    rw [hu, tget_map]
  rw [hmap _ rfl]
  split
  · exact ⟨rfl, fun h => h, fun h => h⟩
  · next hne =>
    have habsent : s.domain e = ({} : Domain) := tget_absent (t := s.domains) (by simpa using hne) _
    rw [habsent]
    exact ⟨rfl, fun h => h, fun h => h⟩

theorem State.faultDomain_faulted (s : State) (d : Nat) : ((s.faultDomain d).domain d).st = .faulted ∧
    ((s.domain d).iso = true → ((s.faultDomain d).domain d).iso = true) ∧
    ((s.domain d).stages = 0 → ((s.faultDomain d).domain d).stages = 0) := by
  unfold State.faultDomain
  extract_lets s1 s2
  have h1 : s1.domain d = { s.domain d with st := .faulted, retry := false, wanted := false, retryAt := none } :=
    (State.domain_setDomain s d d _).trans (if_pos rfl)
  have h2 : LeavesDown s2 s1 := (State.trigger_retains _ _ _ _ _ _).leavesDown
  have h3 : LeavesDown (if s2.gov.phase == .domains && s2.initialOn d then s2.seqFail else s2) s1 :=
    LeavesDown.ite ((State.seqFail_leavesDown _).trans h2) h2
  obtain ⟨hst, hiso, hstages⟩ := h3 d (Or.inr (by rw [h1]))
  rw [h1] at hst hiso hstages
  exact ⟨hst, hiso, hstages⟩

theorem State.missedWake_lands (s : State) (d : Nat) :
    ((s.missedWake d).domain d).st = (if (s.domain d).retry then .faulted else .off) ∧
      ((s.domain d).iso = true → ((s.missedWake d).domain d).iso = true) ∧
      ((s.domain d).stages = 0 → ((s.missedWake d).domain d).stages = 0) := by
  unfold State.missedWake
  split
  · exact s.faultDomain_faulted d
  · rw [State.modDomain_eq, State.domain_setDomain, if_pos rfl]
    exact ⟨rfl, fun h => h, fun h => h⟩

/-! #### The steps of a wake -/

/-- A wake that is wanted waits for no retry. -/
theorem State.wantWake_retryAt (s : State) {d : Nat} (h : (s.domain d).wanted = false) :
    ((s.wantWake d).domain d).retryAt = none := by
  unfold State.wantWake
  rw [if_neg (by rw [h]; decide)]
  extract_lets room waits s1
  have h1 : (s1.domain d).retryAt = none := by rw [State.domain_setDomain, if_pos rfl]
  have h2 : ((if waits then s1.bump (0x3410 + d) 0x0B else s1).domain d).retryAt = none := by
    split
    · exact h1
    · exact h1
  have hw := (if waits then s1.bump (0x3410 + d) 0x0B else s1).waitTick_waits.2 d
  rw [hw]
  exact h2

/-- A domain written, and the wake waits brought up to date. -/
theorem State.setDomain_waitTick (s : State) (d : Nat) (v : Domain) :
    Domain.Waits ((s.setDomain d v).waitTick.domain d) v ∧
      (∀ e, e ≠ d → Domain.Waits ((s.setDomain d v).waitTick.domain e) (s.domain e)) ∧
      (s.setDomain d v).waitTick = { s with domains := (s.setDomain d v).waitTick.domains } := by
  obtain ⟨hf, hw⟩ := (s.setDomain d v).waitTick_waits
  refine ⟨?_, fun e he => ?_, ?_⟩
  · have h := hw d
    rwa [State.domain_setDomain, if_pos rfl] at h
  · have h := hw e
    rwa [State.domain_setDomain, if_neg he] at h
  · rw [hf]
    rfl

/-- The loss of power-good changes droop state, taps, the pin of blindness and counters. -/
theorem State.droopLoss_frame (s : State) (d : Nat) : s.droopLoss d = { s with
    droops := (s.droopLoss d).droops
    taps := (s.droopLoss d).taps
    pins := (s.droopLoss d).pins
    od := (s.droopLoss d).od } := by
  unfold State.droopLoss
  extract_lets s1 w s2 s3
  have h1 : s1 = { s with droops := s1.droops, od := s1.od } := by
    have h := ((s.setDroop d ((s.droop d).account s.tb.now)).finishEvent_droops d).1
    exact h
  have h3 : s3 = { s with droops := s3.droops, taps := s3.taps, pins := s3.pins, od := s3.od } := by
    have h : s3 = { s1 with droops := s3.droops, pins := s3.pins } := rfl
    clear_value s3 s2 w s1
    rw [h1] at h
    rw [h]
  refine each_carries (fun t => t = { s with droops := t.droops, taps := t.taps, pins := t.pins, od := t.od })
    (fun t k ht => ?_) _ s3 h3
  rw [ht]
  rfl

/-- A domain whose stages start to fall (10 R254, R255). -/
def Domain.falls (v : Domain) (at_ : Nat) (after : AfterGating) : Domain :=
  { v with
    st := .gating
    iso := true
    after := after
    stageAt := some at_
    pgEnd := none
    pgAt := none
    isoAt := none
    drainEnd := none
    censusDone := false
    censusEnd := none
    meterFrom := false }

theorem State.startFall_falls (s : State) (d delay : Nat) (after : AfterGating) :
    Domain.Waits ((s.startFall d delay after).domain d) ((s.domain d).falls (s.tb.now + delay) after) ∧
      (∀ e, e ≠ d → Domain.Waits ((s.startFall d delay after).domain e) (s.domain e)) ∧
      s.startFall d delay after = { s with
        domains := (s.startFall d delay after).domains
        droops := (s.startFall d delay after).droops
        taps := (s.startFall d delay after).taps
        pins := (s.startFall d delay after).pins
        od := (s.startFall d delay after).od } := by
  have hdom : ∀ e, (s.droopLoss d).domain e = s.domain e := fun e => by unfold State.domain; rw [s.droopLoss_domains]
  have hframe := s.droopLoss_frame d
  have hnow : (s.droopLoss d).tb.now = s.tb.now := by rw [hframe]
  have heq : s.startFall d delay after =
      ((s.droopLoss d).setDomain d (((s.droopLoss d).domain d).falls ((s.droopLoss d).tb.now + delay) after)).waitTick := rfl
  obtain ⟨hown, hother, hf⟩ := (s.droopLoss d).setDomain_waitTick d
    (((s.droopLoss d).domain d).falls ((s.droopLoss d).tb.now + delay) after)
  rw [← heq, hdom, hnow] at hown
  rw [← heq] at hother hf
  refine ⟨hown, fun e he => ?_, ?_⟩
  · have h := hother e he
    rwa [hdom] at h
  · generalize s.startFall d delay after = t at hf ⊢
    generalize s.droopLoss d = u at hf hframe
    rw [hf, hframe]

/-- A domain becomes ON outside the domains phase of SEQUENCING once its census is over and go_iso has fallen. -/
theorem State.domainOn_settled {s : State} {d : Nat} (hst : (s.domain d).st = .settling) (hiso : (s.domain d).iso = false)
    (hph : s.gov.phase ≠ .domains) :
    ((s.domainOn d).domain d).iso = false ∧ ((s.domainOn d).domain d).isoAt = (s.domain d).isoAt ∧
      ((s.domainOn d).domain d).censusDone = (s.domain d).censusDone ∧
      ((s.domainOn d).domain d).censusEnd = (s.domain d).censusEnd ∧
      ((s.domainOn d).domain d).st = (if (s.domain d).censusDone then .on else .settling) ∧
      (∀ e, e ≠ d → (s.domainOn d).domain e = s.domain e) ∧
      s.domainOn d = { s with domains := (s.domainOn d).domains, od := (s.domainOn d).od } := by
  have hcheck : ∀ u : State, u.gov = s.gov → u.seqCheck = u := fun u hu => if_neg (by rw [hu]; simp [hph])
  unfold State.domainOn
  extract_lets v s1 s2 s3
  cases hcd : v.censusDone with
  | false =>
    rw [if_neg (by simp)]
    exact ⟨hiso, rfl, hcd, rfl, hst, fun _ _ => rfl, rfl⟩
  | true =>
    rw [if_pos (by simp [v, hst, hiso])]
    have h3 : s3 = { s1 with od := s3.od } := by
      show (if v.retry then (s2.bump (0x3410 + d) 0x0D).transient 44 else s2) = _
      split
      · next hr =>
        have h := (s2.bump (0x3410 + d) 0x0D).transient_od 44
        rw [show s3 = (s2.bump (0x3410 + d) 0x0D).transient 44 from if_pos hr]
        rw [h]
        rfl
      · next hr =>
        rw [show s3 = s2 from if_neg hr]
        rfl
    have hdom : ∀ e, s3.domain e = if e = d then
        { v with st := .on, retry := false, lastWake := nsOf (s.tb.now - v.wakeStart) } else s.domain e := fun e => by
      have h : s3.domain e = s1.domain e := by unfold State.domain; rw [h3]
      rw [h]
      exact State.domain_setDomain s d e _
    rw [hcheck s3 (by rw [h3]; rfl)]
    refine ⟨by rw [hdom, if_pos rfl]; exact hiso, by rw [hdom, if_pos rfl], by rw [hdom, if_pos rfl]; exact hcd,
      by rw [hdom, if_pos rfl], ?_, fun e he => by rw [hdom, if_neg he], ?_⟩
    · rw [hdom, if_pos rfl]
      rfl
    · rw [h3]
      rfl

/-- Settles O22: each step by the domain it writes and the wake waits (`setDomain_waitTick`); a wake that fails for good by
what keeps a FAULTED domain (`LeavesDown`). -/
theorem domainWake : Obligations.DomainWake := by
  unfold Obligations.DomainWake
  refine ⟨fun d s h1 h2 h3 h4 h5 => ?_, fun d u s h1 h2 => ?_, fun d s h1 h2 => ?_, fun d u s h1 h2 h3 => ?_,
    fun d u s h1 h2 h3 => ?_, fun d s h1 h2 h3 h4 h5 h6 h7 h8 h9 h10 => ?_, fun d u s h1 h2 => ?_,
    fun d u s h1 h2 h3 h4 h5 h6 h7 => ?_, fun d s h => if_neg ?_, fun d s h => ⟨if_neg ?_, ?_⟩, fun d s h => ?_,
    fun d s h => ⟨?_, if_neg ?_, ?_⟩, fun d s h => ?_⟩
  case refine_1 =>
    obtain ⟨hown, hother, hframe⟩ := s.setDomain_waitTick d { s.domain d with
      st := .waking
      wanted := false
      rushWait := none
      iso := true
      stages := 1
      stageAt := some (s.tb.now + s.cyc (0x3410 + d) 5)
      wakeStart := s.tb.now }
    refine ⟨_, if_pos (by simp [h1, h2, h3, h4, h5]), ?_, ?_, ?_, ?_, ?_, ?_, hother, hframe⟩ <;> rw [hown]
  case refine_2 =>
    have hset : ∀ (v : Domain) (e : Nat), ((s.atTime u).setDomain d v).domain e = if e = d then v else s.domain e :=
      fun v e => State.domain_setDomain (s.atTime u) d e v
    by_cases hst : (s.domain d).stages < 3
    · let v : Domain := { s.domain d with
        stages := (s.domain d).stages + 1, stageAt := some ((s.atTime u).tb.now + (s.atTime u).cyc (0x3410 + d) 5) }
      have hrun : exec (.domainStageStep d) s = .next ((s.atTime u).setDomain d v) := by
        show execDomainStageStep d s = _
        unfold execDomainStageStep
        dsimp only
        split
        · next hn => exact absurd (h1.symm.trans hn) (Option.some_ne_none u)
        · next t ht =>
          obtain rfl : u = t := Option.some.inj (h1.symm.trans ht)
          exact (if_pos (by rw [h2]; rfl)).trans (if_pos hst)
      exact ⟨_, hrun, rfl, fun _ => (hset v d).trans (if_pos rfl), fun h => absurd h (by omega),
        fun e he => (hset v e).trans (if_neg he), rfl⟩
    · let v : Domain := { s.domain d with
        stages := 4, stageAt := none, pgEnd := some ((s.atTime u).tb.now + (s.atTime u).cyc (0x3410 + d) 6) }
      have hrun : exec (.domainStageStep d) s = .next ((s.atTime u).setDomain d v) := by
        show execDomainStageStep d s = _
        unfold execDomainStageStep
        dsimp only
        split
        · next hn => exact absurd (h1.symm.trans hn) (Option.some_ne_none u)
        · next t ht =>
          obtain rfl : u = t := Option.some.inj (h1.symm.trans ht)
          exact (if_pos (by rw [h2]; rfl)).trans (if_neg hst)
      exact ⟨_, hrun, rfl, fun h => absurd h hst, fun _ => (hset v d).trans (if_pos rfl),
        fun e he => (hset v e).trans (if_neg he), rfl⟩
  case refine_3 =>
    obtain ⟨hown, hother, hframe⟩ := s.setDomain_waitTick d { s.domain d with
      st := .settling
      pgEnd := none
      pgAt := some s.tb.now
      isoAt := some (s.tb.now + s.cyc (0x3410 + d) 7)
      censusDone := false
      censusEnd := none }
    refine ⟨_, if_pos (by simp [h1, h2]), ?_, ?_, ?_, ?_, ?_, hother, hframe⟩ <;> rw [hown]
  case refine_4 =>
    let v : Domain := { s.domain d with iso := false, isoAt := none }
    let w := (s.atTime u).setDomain d v
    have hw : ∀ e, w.domain e = if e = d then v else s.domain e := fun e => State.domain_setDomain (s.atTime u) d e v
    have hrun : exec (.domainIsolationRelease d) s = .next (w.domainOn d) := by
      show execDomainIsolationRelease d s = _
      unfold execDomainIsolationRelease
      dsimp only
      split
      · next t ht =>
        obtain rfl : u = t := Option.some.inj (h1.symm.trans ht)
        exact if_pos (by rw [h2]; rfl)
      · next hn => exact absurd (h1.symm.trans hn) (Option.some_ne_none u)
    have hd : w.domain d = v := (hw d).trans (if_pos rfl)
    obtain ⟨hiso, hisoAt, -, -, hst, hother, hframe⟩ := State.domainOn_settled (s := w) (d := d) (by rw [hd]; exact h2) (by rw [hd]) h3
    refine ⟨_, hrun, hiso, hisoAt.trans (by rw [hd]), hst.trans (by rw [hd]), ?_, fun e he => ?_, ?_⟩
    · rw [hframe]; rfl
    · exact (hother e he).trans ((hw e).trans (if_neg he))
    · generalize w.domainOn d = t at hframe ⊢
      rw [hframe]
      rfl
  case refine_5 =>
    have hrun : exec (.domainRetryDelayEnd d) s = .next ((s.atTime u).wantWake d) := by
      show execDomainRetryDelayEnd d s = _
      unfold execDomainRetryDelayEnd
      dsimp only
      rw [h1]
      exact if_pos (by rw [h2]; rfl)
    obtain ⟨-, hwant, -, hother, hframe, -⟩ := (s.atTime u).wantWake_wants d
    refine ⟨_, hrun, hwant, (s.atTime u).wantWake_retryAt h3, by rw [hframe]; rfl, hother, ?_⟩
    generalize (s.atTime u).wantWake d = t at hframe ⊢
    rw [hframe]
    rfl
  case refine_6 =>
    let w := s.bump (0x3410 + d) 0x0E
    have hrun : exec (.autoWake d) s = .next (w.wantWake d) :=
      if_pos (by rcases h6 with h6 | h6 <;> simp [h1, h2, h3, h4, h5, h6, h7, h8, h9, h10])
    obtain ⟨-, hwant, -, hother, hframe, -⟩ := w.wantWake_wants d
    refine ⟨_, hrun, hwant, hother, ?_⟩
    generalize w.wantWake d = t at hframe ⊢
    rw [hframe]
    rfl
  case refine_7 =>
    have hrun : exec (.domainPgWindowMiss d) s =
        .next ((s.atTime u).startFall d 0 (if (s.domain d).retry then .fault else .retry)) := by
      show execDomainPgWindowMiss d s = _
      unfold execDomainPgWindowMiss
      dsimp only
      rw [h1]
      exact if_pos (by rw [h2]; rfl)
    obtain ⟨hown, hother, hframe⟩ := (s.atTime u).startFall_falls d 0 (if (s.domain d).retry then .fault else .retry)
    refine ⟨_, hrun, by rw [hown]; rfl, by rw [hown]; rfl, by rw [hown]; rfl, by rw [hown]; rfl, by rw [hframe]; rfl, hother, ?_⟩
    generalize (s.atTime u).startFall d 0 (if (s.domain d).retry then .fault else .retry) = t at hframe ⊢
    rw [hframe]
    rfl
  case refine_8 =>
    let w := s.atTime (u + (s.cyc 0x3400 0x10 - (s.domain d).waited))
    have hrun : exec (.wakeWaitExpiry d) s = .next (w.missedWake d) := by
      show execWakeWaitExpiry d s = _
      unfold execWakeWaitExpiry
      dsimp only
      split
      · next t ht =>
        obtain rfl : u = t := Option.some.inj (h7.symm.trans ht)
        exact if_pos (by simp [h1, h2, h3, h4, h5, h6])
      · next hn => exact absurd (h7.symm.trans hn) (Option.some_ne_none u)
    exact ⟨_, hrun, (w.missedWake_lands d).1, (w.missedWake_keeps d).2.2.2.1⟩
  case refine_9 => rcases h with h | h | h | h <;> simp [h]
  case refine_10 => simp [h]
  case refine_11 =>
    show execDomainPgWindowMiss d s = _
    unfold execDomainPgWindowMiss
    dsimp only
    split
    · exact if_neg (by simpa using h)
    · rfl
  case refine_12 =>
    show execDomainIsolationRelease d s = _
    unfold execDomainIsolationRelease
    dsimp only
    split
    · exact if_neg (by simpa using h)
    · rfl
  case refine_13 =>
    show execDomainRetryDelayEnd d s = _
    unfold execDomainRetryDelayEnd
    dsimp only
    split
    · exact if_neg (by simpa using h)
    · rfl
  case refine_14 => simp [h]
  case refine_15 =>
    show execWakeWaitExpiry d s = _
    unfold execWakeWaitExpiry
    dsimp only
    split
    · exact if_neg (by simp [h])
    · rfl
  case refine_16 =>
    show execDomainStageStep d s = _
    unfold execDomainStageStep
    dsimp only
    rw [h]


/-! ### O23: a domain from draining to OFF, loss of power-good, and the droop census (10 R253 to R259, 05 R137) -/

/-! #### Slots that a domain leaves -/

theorem State.indeterminate_retains (s : State) (k : Nat) (e : Entry) : Retains (s.indeterminate k e) s := by
  unfold State.indeterminate
  extract_lets g pa against w s1 s2 s3 s4
  have h1 : Retains s1 s := Retains.of_eq
  have h2 : Retains s2 s := (State.request_retains _ _).trans ((State.releaseSafe_retains _ e).trans
    (Retains.trans (b := s1) Retains.of_eq h1))
  have h3 : Retains s3 s := (State.fenceCount_retains _ _ _ _).trans (Retains.trans (b := s2) Retains.of_eq h2)
  exact (State.trigger_retains _ _ _ _ _ _).trans ((State.enqueueGroup_noted s3 g true).retains.trans h3)

theorem State.startThird_retains (s : State) (k : Nat) (e : Entry) : Retains (s.startThird k e) s := by
  unfold State.startThird
  split
  · exact Retains.of_eq
  · exact s.indeterminate_retains k e

theorem State.startWaiting_retains (f : Nat) (s : State) : Retains (s.startWaiting f) s := by
  induction f generalizing s with
  | zero => exact Retains.refl s
  | succ f ih =>
    rw [State.startWaiting]
    split
    · exact Retains.refl s
    · refine Retains.ite ?_ (Retains.refl s)
      extract_lets w s1
      have h1 : Retains s1 s := Retains.of_eq
      split
      · exact (ih _).trans ((State.startThird_retains s1 _ _).trans h1)
      · exact (ih s1).trans h1

theorem State.assayTimedOut_retains (s : State) (a ring tag : Nat) : Retains (s.assayTimedOut a ring tag) s := by
  unfold State.assayTimedOut
  split
  · exact Retains.refl s
  · split
    · exact (State.pumpRun_retains _).trans ((State.startWaiting_retains _ _).trans ((State.dEvent_retains _ 52).trans
        (State.unassay_retains _ _ _ _ _)))
    · exact Retains.of_eq

theorem State.timeOutDomain_retains (s : State) (d : Nat) : Retains (s.timeOutDomain d) s := by
  refine Retains.each (f := fun s n => if ((s.readSlot n).slot n).st == .granted then (s.readSlot n).timeOutSlot n
    else s.readSlot n) (fun t n => ?_) _ s
  refine Retains.ite (Retains.trans ?_ (t.readSlot_retains n)) (t.readSlot_retains n)
  exact (State.assayTimedOut_retains _ _ _ _).trans Retains.of_eq

/-! #### Loss of power-good -/

/-- The domain after the loss, before what follows of it. -/
def State.lostGood (s : State) (d : Nat) : State :=
  ((s.timeOutDomain d).isolateDomain d).modDomain d (fun w => { w with
    retry := (s.domain d).retry
    written := (s.domain d).written
    lostAt := some ((s.timeOutDomain d).isolateDomain d).tb.now })

theorem State.lostGood_lands {s : State} {d : Nat} (h : (s.domain d).good = true) :
    ((s.lostGood d).domain d).st = .off ∧ ((s.lostGood d).domain d).iso = true ∧ ((s.lostGood d).domain d).stages = 0 ∧
      ((s.lostGood d).domain d).retry = (s.domain d).retry ∧
      (s.gov.seqDown = false → (s.lostGood d).gov.seqDown = false) ∧ (s.lostGood d).tb.now = s.tb.now := by
  have hout := s.timeOutDomain_retains d
  have hnow : (s.timeOutDomain d).tb.now = s.tb.now := (s.timeOutDomain_keeps d).2.2.2.1
  have hiso := (s.timeOutDomain d).isolateDomain_retains d
  have hisoNow : ((s.timeOutDomain d).isolateDomain d).tb.now = (s.timeOutDomain d).tb.now :=
    ((s.timeOutDomain d).isolateDomain_keeps d).2.2.2.1
  have hdom : (s.lostGood d).domain d = _ := (State.domain_setDomain _ d d _).trans (if_pos rfl)
  rw [hdom, (s.timeOutDomain d).isolateDomain_domain, if_pos rfl]
  refine ⟨?_, rfl, rfl, rfl, fun hs => hiso.up (hout.up hs), hisoNow.trans hnow⟩
  unfold Domain.good at h
  rcases hout.domain d with e | e <;> rw [e]
  · cases hst : (s.domain d).st <;> simp_all [Domain.isolated]
  · rw [Domain.isolated_isolated]
    cases hst : (s.domain d).st <;> simp_all [Domain.isolated]

theorem exec_domainPowerGoodLoss {s : State} {d : Nat} (h : (s.domain d).good = true) : exec (.domainPowerGoodLoss d) s =
    if (s.lostGood d).gov.seqDown then .next (((s.lostGood d).modDomain d (fun w => { w with retry := false })).gateNext)
    else .next ((s.lostGood d).missedWake d) := if_pos h

/-! #### The census of a domain's taps -/

/-- Each tap of a list changed in the same way. -/
theorem State.each_modTap (f : DroopTap → DroopTap) (l : List Nat) (hl : l.Nodup) (s : State) (k : Nat) :
    (each l (fun s t => s.modTap t f) s).tap k = if k ∈ l then f (s.tap k) else s.tap k := by
  induction l generalizing s with
  | nil => rfl
  | cons x rest ih =>
    rw [List.nodup_cons] at hl
    rw [each_cons, ih hl.2, State.modTap_eq, State.tap_setTap]
    by_cases hkx : k = x
    · subst hkx
      simp [hl.1]
    · simp [hkx]

theorem State.each_modTap_frame (f : DroopTap → DroopTap) (l : List Nat) (s : State) :
    each l (fun s t => s.modTap t f) s = { s with taps := (each l (fun s t => s.modTap t f) s).taps } := by
  refine each_carries (fun t => t = { s with taps := t.taps }) (fun t k ht => ?_) l s rfl
  rw [ht]
  rfl

theorem State.domainTaps_nodup (s : State) (d : Nat) : (s.domainTaps d).Nodup := List.nodup_range.filter _

/-- A tap at the end of its domain's census (05 R137). -/
def DroopTap.censused (p : DroopTap) : DroopTap :=
  { p with
    st := if 256 ≤ p.run then .valid else .missing
    run := 0
    suspect := 0
    agreed := none
    parityBad := false
    reach := 0 }

/-- The domain and its taps at the end of the census, before what is raised. -/
def State.censused (s : State) (d : Nat) : State :=
  (each (s.domainTaps d) (fun s t => s.modTap t DroopTap.censused) s).modDomain d (fun v =>
    { v with censusDone := true, censusEnd := none })

/-- What the taps that the census has not found ask for. -/
def State.censusLost (s : State) (d : Nat) : List (Nat × Nat) :=
  ((s.domainTaps d).filter (fun t => !s.tapFound t)).map (fun t => (d, (s.censused d).droopPa d t))

theorem State.endCensus_eq (s : State) (d : Nat) : s.endCensus d =
    ((((s.censused d).triggerAll 19 2 0 (s.censusLost d)).blindCheck d).domainOn d) := rfl

theorem State.censused_tap (s : State) (d k : Nat) :
    (s.censused d).tap k = if k ∈ s.domainTaps d then (s.tap k).censused else s.tap k :=
  State.each_modTap _ _ (s.domainTaps_nodup d) s k

theorem State.censused_domain (s : State) (d : Nat) :
    (s.censused d).domain d = { s.domain d with censusDone := true, censusEnd := none } := by
  unfold State.censused
  rw [State.modDomain_eq, State.domain_setDomain, if_pos rfl, State.each_modTap_frame]
  rfl

/-! #### Only a trip takes a MISSING tap to IDLE -/

theorem Noted.taps {t s : State} (h : Noted t s) : t.taps = s.taps := by
  unfold Noted at h
  rw [h]

theorem each_taps {α : Type} {f : State → α → State} (h : ∀ s x, (f s x).taps = s.taps) (l : List α) (s : State) :
    (each l f s).taps = s.taps :=
  each_carries (fun t => t.taps = s.taps) (fun t x ht => (h t x).trans ht) l s rfl

theorem State.signal_taps (s : State) (n : Nat) : (s.signal n).taps = s.taps := (State.signal_noted s n).taps

theorem State.endInjection_taps (s : State) (st : Nat) : (s.endInjection st).taps = s.taps := by
  unfold State.endInjection
  split
  · exact State.signal_taps _ _
  · rfl

theorem State.stopRun_taps (s : State) : s.stopRun.taps = s.taps := by
  unfold State.stopRun
  dsimp only
  split
  · split
    · rfl
    · exact State.signal_taps _ _
  · rfl

theorem State.abortSweep_taps (s : State) : s.abortSweep.taps = s.taps := by
  unfold State.abortSweep
  split
  · refine (State.signal_taps _ _).trans ?_
    show (if s.assayer.run.sweep then s.stopRun else s).taps = s.taps
    split
    · exact s.stopRun_taps
    · rfl
  · rfl

theorem State.abortService_taps (s : State) : s.abortService.taps = s.taps :=
  (State.stopRun_taps _).trans ((State.abortSweep_taps _).trans (State.endInjection_taps _ _))

theorem State.avsZero_taps (s : State) : s.avsZero.taps = s.taps := by
  refine each_taps (fun t r => ?_) _ s
  rfl

theorem State.abortSheds_taps (s : State) : s.abortSheds.taps = s.taps := by
  refine each_taps (fun t r => ?_) _ s
  unfold State.abortShed
  dsimp only
  split <;> rfl

theorem State.tallyClear_taps (s : State) : s.tallyClear.taps = s.taps := by
  show (each s.tally.fits State.dropFit s).taps = s.taps
  exact each_taps (fun t f => by cases f <;> rfl) _ s

theorem State.releaseSafe_taps (s : State) (e : Entry) : (s.releaseSafe e).taps = s.taps := by
  unfold State.releaseSafe State.lowerStretch
  split
  · rfl
  · dsimp only
    split
    · split <;> rfl
    · rfl

theorem State.unassay_taps (s : State) (k : Nat) (e : Entry) (sub : Nat) (rel : Bool) : (s.unassay k e sub rel).taps = s.taps := by
  have hfence : ∀ (u : State) (a b c : Nat), (u.fenceCount a b c).taps = u.taps := fun u a b c => by
    unfold State.fenceCount
    split <;> rfl
  have hreq : ∀ (u : State) (w : W64), (u.request w).taps = u.taps := fun u w => by
    unfold State.request
    split <;> rfl
  unfold State.unassay onlyIf
  have h := (hfence (((s.dropEntry k).releaseSafe e |>.bump 0x6001 sub).bump (0x6010 + e.origin) 0x0A) e.window 0 1).trans
    ((s.dropEntry k).releaseSafe_taps e)
  split
  · exact (hreq _ _).trans h
  · exact h

theorem State.abandonAssays_taps (s : State) : s.abandonAssays.1.taps = s.taps :=
  each_taps (f := fun (t : State) (p : Nat × Entry) => t.unassay p.1 p.2 9 false) (fun t p => t.unassay_taps p.1 p.2 9 false)
    s.assayer.entries s

theorem State.mark_taps (s : State) (new : GovState) (why : Nat) : (s.mark new why).taps = s.taps := by
  unfold State.mark
  extract_lets old s1 s2 wakes w1 s3 w2 s4 s5 w3 s6
  have h1 : s1.taps = s.taps := (State.enqueueGroup_noted _ _ _).taps
  have h5 : s5.taps = s4.taps := by
    show (if new.learns then s4 else s4.unlearnAll 1).taps = s4.taps
    split
    · rfl
    · refine each_taps (fun t r => ?_) _ s4
      rfl
  have h6 : s6.taps = s5.taps := by
    show (if old == .service then _ else s5 : State).taps = s5.taps
    split <;> rfl
  exact (State.signal_taps _ _).trans (h6.trans (h5.trans h1))

/-- A transition to READY or SAFE leaves the taps. -/
theorem State.transit_taps (s : State) {new : GovState} (h : new = .ready ∨ new = .safe) (why : Nat) :
    (s.transit new why).1.taps = s.taps := by
  unfold State.transit
  extract_lets from_ s1 s2
  have h2 : s2.taps = s.taps := by
    show (if from_ == .service then s1.endInjection 5 else s1).taps = s.taps
    split
    · exact (State.endInjection_taps _ _).trans (s.mark_taps new why)
    · exact s.mark_taps new why
  rcases h with rfl | rfl
  · refine Eq.trans ?_ h2
    exact (State.abandonAssays_taps _).trans ((State.tallyClear_taps _).trans rfl)
  · refine Eq.trans ?_ h2
    dsimp only
    unfold State.enterSafe
    extract_lets t1 t2 t3
    have ht1 : t1.taps = s2.taps := by
      show (if _ then s2.abortService else s2 : State).taps = _
      split
      · exact s2.abortService_taps
      · rfl
    have ht3 : t3.taps = t2.taps := by
      refine each_taps (fun t r => ?_) _ t2
      rfl
    exact ht3.trans ((State.abortSheds_taps _).trans ((State.avsZero_taps _).trans ht1))

theorem State.arrive_taps (s : State) (n kind idx cause pa : Nat) : (s.arrive n kind idx cause pa).1.taps = s.taps := by
  rw [State.arrive_eq]
  have hev : (s.arriveEvent (s.arrived n kind idx cause pa) n).1.taps = s.taps := by
    refine Eq.trans ?_ (s.arrived_noted n kind idx cause pa).taps
    unfold State.arriveEvent
    split
    · unfold State.queueEvent
      dsimp only
      split <;> rfl
    · rfl
  refine Eq.trans ?_ hev
  unfold State.serviceFault
  split
  · exact State.abortService_taps _
  · rfl

/-- Work that a fault asks for: no transition but to TRIP or SAFE. -/
def Work.faulty : Work → Bool
  | .enter new _ => new == .trip || new == .safe
  | _ => true

theorem State.arrive_faulty (s : State) (n kind idx cause pa : Nat) : (s.arrive n kind idx cause pa).2.all Work.faulty = true := by
  rw [State.arrive_asks, List.all_append, Bool.and_eq_true]
  constructor
  · unfold State.levelWork
    split_ifs <;> rfl
  · unfold State.arriveEvent
    split
    · unfold State.queueEvent
      dsimp only
      split <;> rfl
    · rfl

theorem HeldTrigger.work_faulty (t : HeldTrigger) : t.work.faulty = true := rfl

theorem State.transit_faulty (s : State) {new : GovState} (h : new = .trip ∨ new = .safe ∨ new = .ready) (why : Nat) :
    (s.transit new why).2.all Work.faulty = true := by
  unfold State.transit
  rcases h with rfl | rfl | rfl
  · rfl
  · rfl
  · dsimp only
    rw [List.all_cons, Bool.and_eq_true]
    refine ⟨rfl, ?_⟩
    generalize State.safeLatched _ = latched
    cases latched <;> rfl

theorem State.doWork_faulty (s : State) {w : Work} (hw : w.faulty = true) : (s.doWork w).2.all Work.faulty = true := by
  cases w with
  | trigger n kind idx cause pa =>
    show (if !s.pinReached n then _ else if !s.tb.gclk then _ else if kind = 4 then _ else _ : State × List Work).2.all
      Work.faulty = true
    split_ifs
    · rfl
    · rfl
    · rfl
    · exact s.arrive_faulty n 0 0 cause pa
    · exact State.arrive_faulty _ n kind idx cause pa
  | events n c =>
    show (if s.pinReached n && c != 0 then _ else _ : State × List Work).2.all Work.faulty = true
    split
    · rw [List.all_map]
      exact List.all_eq_true.mpr fun t _ => t.work_faulty
    · rfl
  | enter new why =>
    show (if s.wanted new then _ else _ : State × List Work).2.all Work.faulty = true
    split
    · refine s.transit_faulty ?_ why
      simp only [Work.faulty, Bool.or_eq_true, beq_iff_eq] at hw
      exact hw.elim Or.inl fun h => Or.inr (Or.inl h)
    · rfl

/-- Tap `k` is MISSING, or a trip has taken it to IDLE. -/
def State.TapLost (s : State) (k : Nat) : Prop :=
  (s.tap k).st = .missing ∨ ((s.tap k).st = .idle ∧ s.gov.st = .trip)

theorem State.TapLost.of_eq {t s : State} {k : Nat} (h : s.TapLost k) (ht : t.taps = s.taps) (hg : t.gov.st = s.gov.st) :
    t.TapLost k := by
  unfold State.TapLost State.tap at h ⊢
  rw [ht, hg]
  exact h

theorem State.arrive_gov (s : State) (n kind idx cause pa : Nat) : (s.arrive n kind idx cause pa).1.gov = s.gov :=
  (s.arrive_lands n kind idx cause pa).1

theorem State.doWork_tapLost {s : State} {w : Work} {k : Nat} (hw : w.faulty = true) (h : s.TapLost k) :
    (s.doWork w).1.TapLost k := by
  cases w with
  | trigger n kind idx cause pa =>
    show State.TapLost (if !s.pinReached n then _ else if !s.tb.gclk then _ else if kind = 4 then _ else _ :
      State × List Work).1 k
    split_ifs
    · exact h
    · exact h.of_eq rfl rfl
    · exact h.of_eq rfl rfl
    · exact h.of_eq (s.arrive_taps n 0 0 cause pa) (congrArg Gov.st (s.arrive_gov n 0 0 cause pa))
    · exact h.of_eq (State.arrive_taps _ n kind idx cause pa) (congrArg Gov.st (State.arrive_gov _ n kind idx cause pa))
  | events n c =>
    show State.TapLost (if s.pinReached n && c != 0 then _ else _ : State × List Work).1 k
    split
    · exact h.of_eq rfl rfl
    · exact h
  | enter new why =>
    show State.TapLost (if s.wanted new then _ else _ : State × List Work).1 k
    split
    · next hwant =>
      simp only [Work.faulty, Bool.or_eq_true, beq_iff_eq] at hw
      rcases hw with rfl | rfl
      · have htrip : (s.transit .trip why).1.gov.st = .trip := by rw [State.transit_gov]; rfl
        have hst := ((s.transit_retains .trip why).tap k).st
        rcases h with h | ⟨h, -⟩
        · rw [h] at hst
          exact hst.imp_right fun e => ⟨e, htrip⟩
        · rw [h] at hst
          exact Or.inr ⟨hst.elim id id, htrip⟩
      · rcases h with h | ⟨-, h⟩
        · refine Or.inl ?_
          unfold State.tap
          rw [s.transit_taps (Or.inr rfl)]
          exact h
        · simp [State.wanted, h, GovState.toSafe] at hwant
    · exact h

theorem State.work_tapLost (f : Nat) : ∀ (ws : List Work) (s : State) (k : Nat), ws.all Work.faulty = true → s.TapLost k →
    (s.work f ws).TapLost k := by
  induction f with
  | zero => exact fun _ _ _ _ h => h
  | succ f ih =>
    intro ws s k hw h
    cases ws with
    | nil => exact h
    | cons w rest =>
      rw [List.all_cons, Bool.and_eq_true] at hw
      exact ih _ _ k (by rw [List.all_append, Bool.and_eq_true]; exact ⟨s.doWork_faulty hw.1, hw.2⟩)
        (State.doWork_tapLost hw.1 h)

theorem State.trigger_tapLost {s : State} {k : Nat} (h : s.TapLost k) (n kind i c pa : Nat) :
    (s.trigger n kind i c pa).TapLost k := by
  unfold State.trigger
  split
  · exact h.of_eq rfl rfl
  · exact State.work_tapLost _ _ _ _ rfl h

theorem State.raiseCause_tapLost {s : State} {k : Nat} (h : s.TapLost k) (n kind i c pa : Nat) :
    (s.raiseCause n kind i c pa).TapLost k := by
  unfold State.raiseCause
  split
  · exact h
  · refine State.trigger_tapLost ?_ n kind i c pa
    split
    · exact h.of_eq rfl rfl
    · exact h

theorem State.latchPin_tapLost {s : State} {k : Nat} (h : s.TapLost k) (ts : List HeldTrigger) :
    (s.latchPin ts).1.TapLost k ∧ (s.latchPin ts).2.all Work.faulty = true := by
  cases ts with
  | nil => exact ⟨h, rfl⟩
  | cons t rest =>
    show State.TapLost (if s.pinReached t.pin then _ else _ : State × List Work).1 k ∧
      (if s.pinReached t.pin then _ else _ : State × List Work).2.all Work.faulty = true
    split
    · have hb : (s.bumpBy (0x5010 + t.pin) 0x0B (rest.filter (·.kind != 4)).length).TapLost k := h.of_eq rfl rfl
      exact ⟨(State.doWork_tapLost t.work_faulty hb).of_eq rfl rfl, State.doWork_faulty _ t.work_faulty⟩
    · exact ⟨h, rfl⟩

theorem State.latchAll_tapLost {s : State} {k : Nat} (h : s.TapLost k) (ts : List HeldTrigger) : (s.latchAll ts).TapLost k := by
  have hfold : ∀ (l : List Nat) (q : State × List Work), q.1.TapLost k → q.2.all Work.faulty = true →
      State.TapLost (l.foldl (fun (q : State × List Work) n =>
        let r := q.1.latchPin (ts.filter (·.pin == n))
        (r.1, q.2 ++ r.2)) q).1 k ∧ (l.foldl (fun (q : State × List Work) n =>
        let r := q.1.latchPin (ts.filter (·.pin == n))
        (r.1, q.2 ++ r.2)) q).2.all Work.faulty = true := fun l => by
    induction l with
    | nil => exact fun q h1 h2 => ⟨h1, h2⟩
    | cons n l ih =>
      intro q h1 h2
      obtain ⟨h3, h4⟩ := State.latchPin_tapLost h1 (ts.filter (·.pin == n))
      exact ih _ h3 (by rw [List.all_append, Bool.and_eq_true]; exact ⟨h2, h4⟩)
  obtain ⟨h1, h2⟩ := hfold (List.range 64) (s, []) h rfl
  refine State.work_tapLost _ _ _ _ ?_ h1
  rw [List.all_append, Bool.and_eq_true]
  rw [List.all_eq_true] at h2
  exact ⟨List.all_eq_true.mpr fun w hw => h2 w (List.mem_filter.mp hw).1,
    List.all_eq_true.mpr fun w hw => h2 w (List.mem_filter.mp hw).1⟩

theorem State.triggerAll_tapLost {s : State} {k : Nat} (h : s.TapLost k) (n kind c : Nat) (ts : List (Nat × Nat)) :
    (s.triggerAll n kind c ts).TapLost k := by
  unfold State.triggerAll State.raise
  split
  · exact h.of_eq rfl rfl
  · exact State.latchAll_tapLost h _

theorem State.blindCheck_tapLost {s : State} {k : Nat} (h : s.TapLost k) (d : Nat) : (s.blindCheck d).TapLost k := by
  unfold State.blindCheck
  split
  · dsimp only
    refine State.raiseCause_tapLost ?_ _ _ _ _ _
    exact h.of_eq rfl rfl
  · exact h.of_eq rfl rfl

theorem State.enter_tapLost {s : State} {k : Nat} (hst : s.gov.st = .sequencing) (h : s.TapLost k) {new : GovState}
    (hnew : new = .safe ∨ new = .ready) (why : Nat) : (s.enter new why).TapLost k := by
  have hmiss : (s.tap k).st = .missing := h.resolve_right fun e => absurd (hst.symm.trans e.2) (by decide)
  unfold State.enter
  rw [show workFuel = 4999 + 1 from rfl, State.work]
  have hdo : s.doWork (.enter new why) = s.transit new why :=
    if_pos (by rcases hnew with rfl | rfl <;> simp [State.wanted, hst])
  rw [hdo, List.append_nil]
  refine State.work_tapLost _ _ _ _ (s.transit_faulty (Or.inr hnew) why) (Or.inl ?_)
  unfold State.tap
  rw [s.transit_taps hnew.symm]
  exact hmiss

theorem State.seqCheck_tapLost {s : State} {k : Nat} (h : s.TapLost k) : s.seqCheck.TapLost k := by
  unfold State.seqCheck
  split
  · extract_lets w s1 s2
    have h1 : s1.TapLost k := h.of_eq rfl rfl
    have h2 : s2.TapLost k ∧ s2.gov = s1.gov := by
      refine each_keeps_of (fun t => t.TapLost k ∧ t.gov = s1.gov) (fun j hj t ht => ?_) s1 ⟨h1, rfl⟩
      obtain ⟨hlost, hgov⟩ := ht
      have hrec := State.record_noted (t.modTap j (fun p => { p with st := .unused })) 0x0260 (1 * 2 ^ 56 + j * 2 ^ 40) 0 false
      generalize State.record _ _ _ _ _ = q at hrec ⊢
      have hframe : q = _ := hrec
      have hne : k ≠ j := by
        rintro rfl
        have hopen := (List.mem_filter.mp hj).2
        rcases h1 with hk | ⟨hk, -⟩ <;> simp [hk] at hopen
      have hg : q.gov = t.gov := by rw [hframe]; rfl
      refine ⟨?_, hg.trans hgov⟩
      unfold State.TapLost at hlost ⊢
      have htap : q.tap k = t.tap k := by
        have hq : q.tap k = (t.modTap j (fun p => { p with st := .unused })).tap k := by
          unfold State.tap
          rw [hrec.taps]
        rw [hq, State.modTap_eq, State.tap_setTap, if_neg hne]
      rw [htap, hg]
      exact hlost
    show State.TapLost (if s2.gov.st == .sequencing then (if s2.safeLatched then s2.enter .safe 0xFF else s2.enter .ready 0xFF)
      else s2) k
    split
    · next hst =>
      split
      · exact State.enter_tapLost (eq_of_beq hst) h2.1 (Or.inl rfl) 0xFF
      · exact State.enter_tapLost (eq_of_beq hst) h2.1 (Or.inr rfl) 0xFF
    · exact h2.1
  · exact h

theorem State.domainOn_tapLost {s : State} {k : Nat} (h : s.TapLost k) (d : Nat) : (s.domainOn d).TapLost k := by
  unfold State.domainOn
  dsimp only
  split
  · refine State.seqCheck_tapLost ?_
    split
    · generalize hu : State.bump _ (0x3410 + d) 0x0D = u
      have hkeep : u.TapLost k := by
        rw [← hu]
        exact h.of_eq rfl rfl
      rw [u.transient_od 44]
      exact hkeep.of_eq rfl rfl
    · exact h.of_eq rfl rfl
  · exact h

theorem State.endCensus_tapLost {s : State} {d k : Nat} (hk : k ∈ s.domainTaps d) (hrun : (s.tap k).run < 256) :
    (s.endCensus d).TapLost k := by
  have htap : (s.censused d).TapLost k := by
    refine Or.inl ?_
    rw [s.censused_tap, if_pos hk]
    exact if_neg (by omega)
  rw [s.endCensus_eq]
  exact State.domainOn_tapLost (State.blindCheck_tapLost (State.triggerAll_tapLost htap 19 2 0 _) d) d

/-! #### A census that has found every tap -/

theorem State.blindCheck_calm {s : State} (h : s.calm 20) (d : Nat) : (s.blindCheck d).taps = s.taps ∧
    (s.blindCheck d).domains = s.domains ∧ (s.blindCheck d).gov = s.gov := by
  unfold State.blindCheck
  split
  · dsimp only
    generalize hv : State.unlearn _ _ _ = v
    have hcal : v.calm 20 := by
      rw [← hv]
      exact State.calm_of h rfl
    have hnoted : v.raiseCause 20 2 d 0 (v.droopPa d 0) = _ := State.raiseCause_noted hcal 2 d 0 _
    rw [hnoted, ← hv]
    exact ⟨rfl, rfl, rfl⟩
  · exact ⟨rfl, rfl, rfl⟩

theorem State.censused_frame (s : State) (d : Nat) : s.censused d = { s with
    taps := (s.censused d).taps
    domains := (s.censused d).domains } := by
  unfold State.censused
  rw [State.each_modTap_frame]
  rfl

/-- What a census leaves that has found every tap, outside the domains phase. -/
theorem State.endCensus_found {s : State} {d : Nat} (hst : (s.domain d).st = .settling)
    (hall : ∀ k ∈ s.domainTaps d, 256 ≤ (s.tap k).run) (hcalm : s.calm 20) (hph : s.gov.phase ≠ .domains) :
    ((s.endCensus d).domain d).censusDone = true ∧ ((s.endCensus d).domain d).censusEnd = none ∧
      (∀ k ∈ s.domainTaps d, ((s.endCensus d).tap k).st = .valid) ∧
      ((s.endCensus d).domain d).st = (if (s.domain d).iso then .settling else .on) := by
  have hlost : s.censusLost d = [] := by
    unfold State.censusLost
    rw [List.filter_eq_nil_iff.mpr fun k hk => by simp [State.tapFound, hall k hk]]
    rfl
  have hnone : (s.censused d).triggerAll 19 2 0 [] = s.censused d := State.raise_nil _
  rw [s.endCensus_eq, hlost, hnone]
  have hcal : (s.censused d).calm 20 := by
    rw [s.censused_frame]
    exact State.calm_of hcalm rfl
  obtain ⟨htaps, hdoms, hgov⟩ := State.blindCheck_calm hcal d
  generalize (s.censused d).blindCheck d = u at htaps hdoms hgov ⊢
  have hdom : u.domain d = { s.domain d with censusDone := true, censusEnd := none } := by
    rw [← s.censused_domain]
    unfold State.domain
    rw [hdoms]
  have htap : ∀ k ∈ s.domainTaps d, (u.tap k).st = .valid := fun k hk => by
    have : u.tap k = (s.censused d).tap k := by
      unfold State.tap
      rw [htaps]
    rw [this, s.censused_tap, if_pos hk]
    exact if_pos (hall k hk)
  cases hiso : (s.domain d).iso with
  | true =>
    have hsame : u.domainOn d = u := if_neg (by rw [hdom]; simp [hiso])
    rw [hsame]
    exact ⟨by rw [hdom], by rw [hdom], htap, by rw [hdom]; exact hst⟩
  | false =>
    have hphase : u.gov.phase ≠ .domains := by
      rw [hgov, s.censused_frame]
      exact hph
    obtain ⟨-, -, hdone, hend, hon, -, hframe⟩ := State.domainOn_settled (s := u) (d := d) (by rw [hdom]; exact hst) (by rw [hdom]; exact hiso)
      hphase
    refine ⟨by rw [hdone, hdom], by rw [hend, hdom], fun k hk => ?_, by rw [hon, hdom]; rfl⟩
    rw [hframe]
    exact htap k hk

/-- The last stage of a domain falls that only gates, wants no wake and is not part of a power-down. -/
theorem State.fallen_off {s : State} {d : Nat} (h1 : (s.domain d).after = .off) (h2 : (s.domain d).wanted = false)
    (h3 : s.gov.phase ≠ .gating) : s.fallen d = (s.setDomain d { s.domain d with
      stages := 0
      stageAt := none
      after := .off }).setDomain d { s.domain d with
      stages := 0
      stageAt := none
      after := .off
      st := .off
      retry := false
      written := false
      wanted := false } := by
  have hdone : ∀ q : State, q.gov = s.gov → q.gateNext = q := fun q hq => if_neg (by rw [hq]; simp [h3])
  unfold State.fallen
  extract_lets v s1 s2 s3
  have hoff : s3 = s2 := by
    show (match v.after with
      | .off => if v.wanted then s2.wantWake d else s2
      | .retry => s1.missedWake d
      | .fault => s1.faultDomain d) = s2
    rw [show v.after = .off from h1]
    exact if_neg (by rw [h2]; exact Bool.false_ne_true)
  have hset : s2 = s1.setDomain d _ := State.modDomain_eq _ _ _
  rw [hdone s3 (by rw [hoff]; rfl), hoff, hset, show s1.domain d = _ from State.domain_setDomain s d d _, if_pos rfl]

/-- Settles O23: a domain that lost power-good stays down (`LeavesDown`); a MISSING tap goes to IDLE in a trip alone
(`State.TapLost`). -/
theorem domainGating : Obligations.DomainGating := by
  unfold Obligations.DomainGating
  refine ⟨fun d u s h1 h2 h3 => ?_, fun d u s h1 h2 h3 h4 h5 h6 => ?_, fun d s h1 h2 => ?_, fun d u s h1 h2 => ?_,
    fun d s h1 => ?_, fun d u s h1 h2 h3 h4 => ?_, fun d s h1 h2 h3 h4 h5 => ?_, fun d u k s h1 h2 h3 h4 => ?_,
    fun d s h => ⟨if_neg ?_, ?_⟩, fun d s h => if_neg ?_, fun d s h => ⟨?_, if_neg ?_, ?_⟩⟩
  case refine_1 =>
    let v : Domain := { s.domain d with
      stages := (s.domain d).stages - 1, stageAt := some ((s.atTime u).tb.now + (s.atTime u).cyc (0x3410 + d) 5) }
    have hrun : exec (.domainStageStep d) s = .next ((s.atTime u).setDomain d v) := by
      show execDomainStageStep d s = _
      unfold execDomainStageStep
      dsimp only
      split
      · next hn => exact absurd (h1.symm.trans hn) (Option.some_ne_none u)
      · next t ht =>
        obtain rfl : u = t := Option.some.inj (h1.symm.trans ht)
        exact (if_neg (by rw [h2]; decide)).trans ((if_pos (by rw [h2]; rfl)).trans (if_pos h3))
    have hset : ∀ e, ((s.atTime u).setDomain d v).domain e = if e = d then v else s.domain e :=
      fun e => State.domain_setDomain (s.atTime u) d e v
    exact ⟨_, hrun, rfl, (hset d).trans (if_pos rfl), fun e he => (hset e).trans (if_neg he), rfl⟩
  case refine_2 =>
    let v : Domain := { s.domain d with stages := 0, stageAt := none, after := .off }
    let w : Domain := { v with st := .off, retry := false, written := false, wanted := false }
    have hfall : (s.atTime u).fallen d = ((s.atTime u).setDomain d v).setDomain d w :=
      State.fallen_off (s := s.atTime u) h4 h5 h6
    have hrun : exec (.domainStageStep d) s = .next ((s.atTime u).fallen d) := by
      show execDomainStageStep d s = _
      unfold execDomainStageStep
      dsimp only
      split
      · next hn => exact absurd (h1.symm.trans hn) (Option.some_ne_none u)
      · next t ht =>
        obtain rfl : u = t := Option.some.inj (h1.symm.trans ht)
        exact (if_neg (by rw [h2]; decide)).trans ((if_pos (by rw [h2]; rfl)).trans (if_neg (by omega)))
    rw [hfall] at hrun
    have hset : ∀ e, (((s.atTime u).setDomain d v).setDomain d w).domain e = if e = d then w else s.domain e := fun e => by
      rw [State.domain_setDomain, State.domain_setDomain]
      split <;> rfl
    refine ⟨_, hrun, by rw [hset, if_pos rfl], by rw [hset, if_pos rfl], rfl, fun e he => (hset e).trans (if_neg he), rfl⟩
  case refine_3 =>
    obtain ⟨hown, hother, hframe⟩ := s.startFall_falls d 8 .off
    refine ⟨_, if_pos (by rw [h1, h2]; rfl), ?_, ?_, ?_, ?_, hother, hframe⟩ <;> rw [hown] <;> rfl
  case refine_4 =>
    let w := ((s.atTime u).timeOutDomain d).bump (0x3410 + d) 0x0C
    have hrun : exec (.drainTimeout d) s = .next (w.startFall d 8 .off) := by
      show execDrainTimeout d s = _
      unfold execDrainTimeout
      dsimp only
      rw [h1]
      exact if_pos (by rw [h2]; rfl)
    obtain ⟨hown, -, hframe⟩ := w.startFall_falls d 8 .off
    have hnow : w.tb.now = max s.tb.now u := ((s.atTime u).timeOutDomain_keeps d).2.2.2.1
    have hsame : (w.startFall d 8 .off).tb = w.tb := by rw [hframe]
    refine ⟨_, hrun, by rw [hown]; rfl, by rw [hown]; rfl, by rw [hsame]; exact hnow, ?_⟩
    rw [hown, hsame]
    rfl
  case refine_5 =>
    rw [exec_domainPowerGoodLoss h1]
    obtain ⟨hst, hiso, hstages, hretry, hup, hnow⟩ := State.lostGood_lands h1
    split
    · next hdown =>
      let w := (s.lostGood d).modDomain d (fun w => { w with retry := false })
      have hw : w.domain d = { (s.lostGood d).domain d with retry := false } :=
        (State.domain_setDomain _ d d _).trans (if_pos rfl)
      obtain ⟨k1, k2, k3⟩ := w.gateNext_leavesDown d (Or.inl (by rw [hw]; exact hst))
      refine ⟨_, rfl, fun _ => k1.trans (by rw [hw]; exact hst), fun _ hs => ?_, k2 (by rw [hw]; exact hiso),
        k3 (by rw [hw]; exact hstages), w.gateNext_keeps.2.2.2.1.trans hnow⟩
      rw [hup hs] at hdown
      exact absurd hdown (by decide)
    · obtain ⟨k1, k2, k3⟩ := (s.lostGood d).missedWake_lands d
      rw [hretry] at k1
      exact ⟨_, rfl, fun hr => k1.trans (by rw [hr]; rfl), fun hr _ => k1.trans (by rw [hr]; rfl), k2 hiso, k3 hstages,
        ((s.lostGood d).missedWake_keeps d).2.2.2.1.trans hnow⟩
  case refine_6 =>
    let w := s.atTime (u + s.cyc 0x2400 7)
    let x := each (w.domainTaps d) (fun s t => s.modTap t (fun p => { p with run := 0 })) w
    have hx : x = { w with taps := x.taps } := State.each_modTap_frame _ _ w
    have htap : ∀ k ∈ s.domainTaps d, (x.tap k).run = 0 := fun k hk => by
      rw [State.each_modTap _ _ (w.domainTaps_nodup d) w k, if_pos (show k ∈ w.domainTaps d from hk)]
    have hrun : exec (.tapSettleEnd d) s =
        .next (x.setDomain d { s.domain d with censusEnd := some (x.tb.now + x.cyc 0x2400 0x0D) }) := by
      show execTapSettleEnd d s = _
      unfold execTapSettleEnd
      dsimp only
      split
      · next t ht =>
        obtain rfl : u = t := Option.some.inj (h1.symm.trans ht)
        exact if_pos (by rw [h2, h3, h4]; rfl)
      · next hn => exact absurd (h1.symm.trans hn) (Option.some_ne_none u)
    have hset : ∀ e, (x.setDomain d { s.domain d with censusEnd := some (x.tb.now + x.cyc 0x2400 0x0D) }).domain e =
      if e = d then { s.domain d with censusEnd := some (x.tb.now + x.cyc 0x2400 0x0D) } else x.domain e := fun e =>
      State.domain_setDomain x d e _
    refine ⟨_, hrun, ?_, ?_, htap, fun e he => ?_, ?_⟩
    · rw [hx]; rfl
    · rw [hset, if_pos rfl, hx]; rfl
    · rw [hset, if_neg he, hx]; rfl
    · rw [hx]; rfl
  case refine_7 =>
    refine ⟨_, if_pos ?_, State.endCensus_found h1 h3 h4 h5⟩
    have hall : (s.domainTaps d).all s.tapFound = true := List.all_eq_true.mpr fun k hk => decide_eq_true (h3 k hk)
    rw [h1, h2, hall]
    rfl
  case refine_8 =>
    have hrun : exec (.domainCensusWindowEnd d) s = .next ((s.atTime u).endCensus d) := by
      show execDomainCensusWindowEnd d s = _
      unfold execDomainCensusWindowEnd
      dsimp only
      rw [h1]
      exact if_pos (by rw [h2]; rfl)
    exact ⟨_, hrun, ((s.atTime u).endCensus_keeps d).2.2.2.1, State.endCensus_tapLost (s := s.atTime u) h3 h4⟩
  case refine_9 => simp [h]
  case refine_10 =>
    show execDrainTimeout d s = _
    unfold execDrainTimeout
    dsimp only
    split
    · exact if_neg (by simpa using h)
    · rfl
  case refine_11 => rw [h]; exact Bool.false_ne_true
  case refine_12 =>
    show execTapSettleEnd d s = _
    unfold execTapSettleEnd
    dsimp only
    split
    · exact if_neg (by simp [h])
    · rfl
  case refine_13 => simp [h]
  case refine_14 =>
    show execDomainCensusWindowEnd d s = _
    unfold execDomainCensusWindowEnd
    dsimp only
    split
    · exact if_neg (by simpa using h)
    · rfl


/-! ### O11: S-frames and the voltage-law overrun (09 R221, R222, 02 R38 to R41) -/

/-! #### The frames stand -/

/-- The clock, the F-frame and the C-frame stand. -/
structure Paced (t s : State) : Prop where
  now : t.tb.now = s.tb.now
  fStart : t.tb.fStart = s.tb.fStart
  phase : t.tb.phase = s.tb.phase
  cStart : t.tb.cStart = s.tb.cStart
  cframe : t.tb.cframe = s.tb.cframe

theorem Paced.refl (s : State) : Paced s s := ⟨rfl, rfl, rfl, rfl, rfl⟩

theorem Paced.trans {a b c : State} (h : Paced a b) (g : Paced b c) : Paced a c :=
  ⟨h.now.trans g.now, h.fStart.trans g.fStart, h.phase.trans g.phase, h.cStart.trans g.cStart, h.cframe.trans g.cframe⟩

theorem Paced.of_eq {t s : State} (h : t.tb = s.tb := by rfl) : Paced t s := by
  constructor <;> rw [h]

theorem Paced.of_spares {t s : State} (h : Spares t s) : Paced t s := by
  constructor <;> simp only [h]

/-- What a sensor's last read has left. -/
def Sensor.read (v : Sensor) : Int × Nat × Option (Option Int) := (v.reading, v.fails, v.sampled)

/-- What a lane's last sample has left. -/
def Lane.sample (l : Lane) : Nat × Int := (l.lastX, l.current)

/-- The budget of a segment that waits and the one in force. -/
def Segment.budget (g : Segment) : Option Grant × Option Nat × Option Nat × Option Nat := (g.arm, g.ceiling, g.up, g.down)

theorem Lane.sample_down (l : Lane) : l.down.sample = l.sample := by
  unfold Lane.down
  split <;> rfl

/-- The frames and the budget in force stand, lanes keep what their last sample has left, and the sensors of `P` what their
last read has. -/
structure Unread (P : Nat → Prop) (t s : State) : Prop where
  paced : Paced t s
  read : ∀ n, P n → (t.sensor n).read = (s.sensor n).read
  sample : ∀ n, (t.lane n).sample = (s.lane n).sample
  budget : t.segment.budget = s.segment.budget
  dither : t.dither = s.dither

/-- Every on-die sensor. -/
def OnDie (n : Nat) : Prop := n < 256

section
variable {P : Nat → Prop}

theorem Unread.refl (s : State) : Unread P s s := ⟨Paced.refl s, fun _ _ => rfl, fun _ => rfl, rfl, rfl⟩

theorem Unread.trans {a b c : State} (h : Unread P a b) (g : Unread P b c) : Unread P a c :=
  ⟨h.paced.trans g.paced, fun n hn => (h.read n hn).trans (g.read n hn), fun n => (h.sample n).trans (g.sample n),
    h.budget.trans g.budget, h.dither.trans g.dither⟩

theorem Unread.ite {c : Prop} [Decidable c] {a b s : State} (ha : Unread P a s) (hb : Unread P b s) :
    Unread P (if c then a else b) s := by split <;> assumption

theorem Unread.each_of {α : Type} {f : State → α → State} {l : List α} (h : ∀ x ∈ l, ∀ s, Unread P (f s x) s) (s : State) :
    Unread P (each l f s) s :=
  each_keeps_of (fun t => Unread P t s) (fun x hx t ht => (h x hx t).trans ht) s (Unread.refl s)

theorem Unread.each {α : Type} {f : State → α → State} (h : ∀ s x, Unread P (f s x) s) (l : List α) (s : State) :
    Unread P (each l f s) s := Unread.each_of (fun x _ t => h t x) s

theorem Unread.of_paced {t s : State} (h : Paced t s) (hs : t.sensors = s.sensors := by rfl) (hl : t.lanes = s.lanes := by rfl)
    (hb : t.segment.budget = s.segment.budget := by rfl) (hd : t.dither = s.dither := by rfl) : Unread P t s where
  paced := h
  read := fun n _ => by unfold State.sensor; rw [hs]
  sample := fun n => by unfold State.lane; rw [hl]
  budget := hb
  dither := hd

theorem Unread.of_eq {t s : State} (h : t.tb = s.tb := by rfl) (hs : t.sensors = s.sensors := by rfl)
    (hl : t.lanes = s.lanes := by rfl) (hb : t.segment.budget = s.segment.budget := by rfl)
    (hd : t.dither = s.dither := by rfl) : Unread P t s := Unread.of_paced (Paced.of_eq h) hs hl hb hd

theorem Unread.of_spares {t s : State} (h : Spares t s) (g : Tells t s) : Unread P t s where
  paced := Paced.of_spares h
  read := fun n _ => by unfold State.sensor; rw [h.sensors]
  sample := fun n => by
    rcases g.lane n with e | e <;> rw [e]
    exact Lane.sample_down _
  budget := by simp only [h]
  dither := by simp only [h]

theorem Unread.of_noted {t s : State} (h : Noted t s) : Unread P t s := by
  unfold Noted at h
  rw [h]
  exact Unread.of_eq

theorem Unread.setSensor (s : State) (m : Nat) (v : Sensor) (h : P m → v.read = (s.sensor m).read) :
    Unread P (s.setSensor m v) s := by
  refine ⟨Paced.of_eq, fun n hn => ?_, fun _ => rfl, rfl, rfl⟩
  rw [State.sensor_setSensor]
  split
  · next e =>
    subst e
    exact h hn
  · rfl

theorem Unread.sampled {t s : State} (h : Unread P t s) {n : Nat} (hn : P n) : (t.sensor n).sampled = (s.sensor n).sampled :=
  congrArg (fun x => x.2.2) (h.read n hn)

theorem State.bump_unread (s : State) (i j : Nat) : Unread P (s.bump i j) s := Unread.of_eq

theorem State.trigger_unread (s : State) (n k i c pa : Nat) : Unread P (s.trigger n k i c pa) s :=
  Unread.of_spares (State.trigger_spares _ _ _ _ _ _) (State.trigger_tells _ _ _ _ _ _)

theorem State.dEvent_unread (s : State) (n : Nat) : Unread P (s.dEvent n) s := Unread.of_spares (State.dEvent_spares _ _) (State.dEvent_tells _ _)

theorem State.dropCause_unread (s : State) (n k i : Nat) : Unread P (s.dropCause n k i) s := Unread.of_eq

theorem State.raiseCause_unread (s : State) (n k i c pa : Nat) : Unread P (s.raiseCause n k i c pa) s :=
  Unread.of_spares (State.raiseCause_spares _ _ _ _ _ _) (State.raiseCause_tells _ _ _ _ _ _)

theorem State.followCause_unread (s : State) (n k i : Nat) (b : Bool) (c pa : Nat) : Unread P (s.followCause n k i b c pa) s :=
  Unread.of_spares (State.followCause_spares _ _ _ _ _ _ _) (State.followCause_tells _ _ _ _ _ _ _)

theorem State.transient_unread (s : State) (n : Nat) : Unread P (s.transient n) s := by
  rw [State.transient_od]
  exact Unread.of_eq

theorem State.record_unread (s : State) (a b c : Nat) (v : Bool) : Unread P (s.record a b c v) s :=
  Unread.of_noted (State.record_noted _ _ _ _ _)

theorem State.overrun_unread (s : State) (sub : Nat) : Unread P (s.overrun sub) s :=
  (State.dEvent_unread _ 2).trans (s.bump_unread 0x1202 sub)

/-! #### Reads -/

theorem State.sensorMissing_unread (s : State) (n : Nat) : Unread P (s.sensorMissing n) s :=
  (State.trigger_unread _ _ _ _ _ _).trans (Unread.setSensor s n _ fun _ => rfl)

theorem State.censusRead_unread (s : State) (n : Nat) (good : Bool) : Unread P (s.censusRead n good) s := by
  unfold State.censusRead
  extract_lets v s1
  have h1 : Unread P s1 s := Unread.setSensor s n _ fun _ => rfl
  exact Unread.ite (Unread.refl s) (Unread.ite ((s1.sensorMissing_unread n).trans h1) h1)

theorem State.readGood_unread (s : State) (m : Nat) (t : Int) (a b : Bool) (h : ¬ P m) : Unread P (s.readGood m t a b) s := by
  unfold State.readGood
  extract_lets s1 s2
  have h1 : Unread P s1 s := Unread.ite ((State.transient_unread _ _).trans (s.bump_unread _ _)) (Unread.refl s)
  have h2 : Unread P s2 s1 := Unread.setSensor s1 m _ fun hm => absurd hm h
  exact (s2.censusRead_unread m true).trans (h2.trans h1)

theorem State.readBad_unread (s : State) (m : Nat) (b : Bool) (h : ¬ P m) : Unread P (s.readBad m b) s := by
  unfold State.readBad
  extract_lets s1 v third st s2 s3
  have h1 : Unread P s1 s := (State.dEvent_unread _ _).trans (s.bump_unread _ _)
  have h2 : Unread P s2 s1 := Unread.setSensor s1 m _ fun hm => absurd hm h
  have h3 : Unread P s3 s2 := Unread.ite (State.trigger_unread _ _ _ _ _ _) (Unread.refl s2)
  exact (s3.censusRead_unread m false).trans (h3.trans (h2.trans h1))

theorem State.readGood_reads (s : State) (n : Nat) (t : Int) (a b : Bool) (h : (s.sensor n).sampled = none) :
    ((s.readGood n t a b).sensor n).read = (t, 0, none) := by
  unfold State.readGood
  extract_lets s1 s2
  have h1 : Unread (fun _ => True) s1 s := Unread.ite ((State.transient_unread _ _).trans (s.bump_unread _ _)) (Unread.refl s)
  have hs1 : (s1.sensor n).sampled = none := (h1.sampled trivial).trans h
  refine ((s2.censusRead_unread (P := fun _ => True) n true).read n trivial).trans ?_
  rw [show s2.sensor n = _ from (State.sensor_modSensor s1 n _ n).trans (if_pos rfl)]
  exact congrArg (fun x => (t, 0, x)) hs1

theorem State.commitOnDie_unread (s : State) (reads : List OnDieRead) (m : Nat) (h : ¬ P m) :
    Unread P (s.commitOnDie reads m) s := by
  unfold State.commitOnDie
  extract_lets restart s1
  have h1 : Unread P s1 s := Unread.setSensor s m _ fun hm => absurd hm h
  split
  · split
    · exact (s1.readGood_unread m _ _ _ h).trans h1
    · exact (s1.readGood_unread m _ _ _ h).trans h1
    · exact (s1.readBad_unread m _ h).trans h1
  · exact (s1.readBad_unread m _ h).trans h1

/-- A read that is good at its first word. -/
theorem State.commitOnDie_reads (s : State) {reads : List OnDieRead} {n : Nat} {q : OnDieRead} {v : Int}
    (hq : reads.find? (fun r => r.sensor == n) = some q) (hv : q.first.bind onDieReading = some v) :
    ((s.commitOnDie reads n).sensor n).read = (v, 0, none) := by
  unfold State.commitOnDie
  extract_lets restart s1
  have hs1 : (s1.sensor n).sampled = none := by
    rw [show s1.sensor n = _ from (State.sensor_modSensor s n _ n).trans (if_pos rfl)]
  rw [hq]
  dsimp only
  rw [hv]
  exact s1.readGood_reads n v false restart hs1

theorem each_commitOnDie_reads {reads : List OnDieRead} {n : Nat} {q : OnDieRead} {v : Int}
    (hq : reads.find? (fun r => r.sensor == n) = some q) (hv : q.first.bind onDieReading = some v) {l : List Nat} (hn : n ∈ l)
    (s : State) : ((each l (fun s n => s.commitOnDie reads n) s).sensor n).read = (v, 0, none) := by
  induction l generalizing s with
  | nil => exact absurd hn List.not_mem_nil
  | cons x rest ih =>
    rw [each_cons]
    by_cases hr : n ∈ rest
    · exact ih hr _
    · obtain rfl : n = x := (List.mem_cons.mp hn).resolve_right hr
      have hrest : Unread (· = n) (each rest (fun s n => s.commitOnDie reads n) (s.commitOnDie reads n)) (s.commitOnDie reads n) :=
        Unread.each_of (fun m hm t => t.commitOnDie_unread reads m fun (e : m = n) => hr (e ▸ hm)) _
      exact (hrest.read n rfl).trans (s.commitOnDie_reads hq hv)

theorem State.surplusSensor_unread (s : State) (m : Nat) : Unread P (s.surplusSensor m) s := by
  unfold State.surplusSensor
  exact Unread.ite ((State.record_unread _ _ _ _ _).trans (Unread.setSensor s m _ fun _ => rfl)) (Unread.refl s)

end

theorem State.commitStack_unread (s : State) (k : Nat) : Unread OnDie (s.commitStack k) s := by
  have hk : ¬ OnDie (256 + k) := by unfold OnDie; omega
  unfold State.commitStack
  extract_lets n v s1
  have h1 : Unread OnDie s1 s := Unread.setSensor s n _ fun hm => absurd hm hk
  refine Unread.ite h1 ?_
  split
  · exact (s1.readGood_unread n _ _ _ hk).trans h1
  · exact (s1.readGood_unread n _ _ _ hk).trans h1
  · exact (s1.readBad_unread n _ hk).trans h1

theorem State.commitExternal_unread (s : State) (q : ExtRead) : Unread OnDie (s.commitExternal q) s := by
  have hk : ¬ OnDie (272 + q.sensor) := by unfold OnDie; omega
  unfold State.commitExternal
  extract_lets n
  split
  · next t _ =>
    have h := s.readGood_unread n t q.retried q.restart hk
    dsimp only
    split
    · refine Unread.trans ?_ h
      exact Unread.trans Unread.of_eq ((State.followCause_unread _ _ _ _ _ _ _).trans Unread.of_eq)
    · exact h
  · exact s.readBad_unread n q.restart hk

/-- The reads of a commit: a started read that is good at its first word gives its on-die sensor its reading. -/
theorem State.commitReads_reads (s : State) (reads : List OnDieRead) : Paced (s.commitReads reads) s ∧
    ∀ n q v, n < 256 → s.sensorUsed n = true → (s.sensor n).sampled.isSome = true →
      reads.find? (fun r => r.sensor == n) = some q → q.first.bind onDieReading = some v →
      ((s.commitReads reads).sensor n).read = (v, 0, none) := by
  unfold State.commitReads
  extract_lets started s1 s2 s3 s4 done
  have h1 : Unread (fun _ => False) s1 s := Unread.each (fun t n => t.commitOnDie_unread reads n not_false) _ s
  have h2 : Unread OnDie s2 s1 := Unread.ite (s1.overrun_unread 7) (Unread.refl s1)
  have h3 : Unread OnDie s3 s2 := Unread.each State.surplusSensor_unread _ s2
  have h4 : Unread OnDie s4 s3 := Unread.each State.commitStack_unread _ s3
  have h5 : Unread OnDie (each done State.commitExternal { s4 with thermal := { s4.thermal with extDone := [] } }) s4 :=
    (Unread.each State.commitExternal_unread _ _).trans Unread.of_eq
  have h : Unread OnDie _ s1 := h5.trans (h4.trans (h3.trans h2))
  refine ⟨h.paced.trans h1.paced, fun n q v hn hu hs hq hv => (h.read n hn).trans ?_⟩
  exact each_commitOnDie_reads hq hv (List.mem_filter.mpr ⟨List.mem_range.mpr hn, by rw [hu, hs]; rfl⟩) s

/-! #### What follows the reads of a commit -/

section
variable {P : Nat → Prop}

theorem State.nearCommit_paced (s : State) (found : Bool) : Unread P (s.nearCommit found) s := by
  unfold State.nearCommit
  refine Unread.ite ?_ (Unread.ite ?_ (Unread.refl s)) <;> exact Unread.of_paced ⟨rfl, rfl, rfl, rfl, rfl⟩

theorem State.unassayedGroup_unread (s : State) (g : Group) (sub : Nat) : Unread P (s.unassayedGroup g sub) s := by
  unfold State.unassayedGroup
  exact (State.dEvent_unread _ 52).trans (Unread.trans (Unread.of_spares (State.fenceCount_spares _ _ _ _)
    (State.fenceCount_tells _ _ _ _)) Unread.of_eq)

theorem State.select_unread (s : State) (g : Group) (tagged : Bool) : Unread P (s.select g tagged).1 s := by
  unfold State.select
  extract_lets s1
  have h1 : Unread P s1 s := Unread.of_eq
  split
  · exact Unread.trans (Unread.of_spares (State.request_spares _ _) (State.request_tells _ _)) (Unread.trans (b := s1) Unread.of_eq h1)
  · exact (State.unassayedGroup_unread _ _ _).trans h1
  · split
    · exact (State.unassayedGroup_unread _ _ _).trans h1
    · exact Unread.trans (b := s1) Unread.of_eq h1

theorem State.windowNotice_unread (s : State) (d : Nat) (opened : Int) : Unread P (s.windowNotice d opened) s := by
  unfold State.windowNotice
  split
  · refine (Unread.each (fun t g => ?_) _ _).trans (Unread.each (fun t p => Unread.of_eq) _ s)
    · refine Unread.ite (Unread.refl t) (Unread.ite ?_ ?_)
      · exact (State.dEvent_unread _ 53).trans Unread.of_eq
      · exact (State.select_unread _ _ _).trans Unread.of_eq
  · exact Unread.refl s

theorem State.closeWindow_unread (s : State) (d : Nat) (w : Window) (c : Nat) : Unread P (s.closeWindow d w c) s := by
  rw [State.closeWindow_frame]
  exact Unread.of_eq

theorem State.openWindow_unread (s : State) (d deepest : Nat) (thermal : Bool) :
    Unread P (s.openWindow d deepest thermal) s := by
  have h : Unread P (s.windowPassed d) s := by
    unfold State.windowPassed
    split
    · split
      · exact Unread.ite (s.closeWindow_unread _ _ _) (Unread.refl s)
      · exact Unread.refl s
    · exact Unread.refl s
  rw [State.openWindow_eq]
  split
  · exact Unread.trans (b := s.windowPassed d) Unread.of_eq h
  · exact (State.windowNotice_unread _ _ _).trans (Unread.trans (b := s.windowPassed d) Unread.of_eq h)

theorem State.bandMoved_unread (s : State) (d old : Nat) : Unread P (s.bandMoved d old) s := by
  unfold State.bandMoved
  extract_lets new w1 w2 s1
  have h1 : Unread P s1 s := Unread.ite Unread.of_eq (Unread.refl s)
  exact Unread.ite (Unread.trans Unread.of_eq ((s1.openWindow_unread d 0 true).trans h1))
    (Unread.ite (Unread.trans Unread.of_eq h1) h1)

theorem State.commitRegion_unread (s : State) (vals : List (Nat × Int)) (g : Nat) : Unread P (s.commitRegion vals g) s := by
  unfold State.commitRegion
  dsimp only
  split <;> exact Unread.of_eq

theorem State.warnKind_unread (s : State) (vals : List (Nat × Int)) (k : Nat) : Unread P (s.warnKind vals k) s := by
  unfold State.warnKind
  refine Unread.ite (Unread.ite ?_ (Unread.refl s)) ?_
  · exact Unread.ite Unread.of_eq (Unread.trans (State.dropCause_unread _ _ _ _) Unread.of_eq)
  · split
    · exact (State.raiseCause_unread _ _ _ _ _ _).trans Unread.of_eq
    · exact Unread.refl s

theorem State.setStair_unread (s : State) (f : Nat) : Unread P (s.setStair f) s := by
  unfold State.setStair
  refine Unread.ite ?_ (Unread.ite ?_ ?_)
  · exact (State.dropCause_unread _ _ _ _).trans Unread.of_eq
  · exact (State.raiseCause_unread _ _ _ _ _ _).trans Unread.of_eq
  · exact Unread.of_eq

theorem State.staircase_unread (s : State) (a b c : Bool) : Unread P (s.staircase a b c) s := by
  unfold State.staircase
  extract_lets f st floor want s1 w1 w2 s2 w3
  have h1 : Unread P s1 s := Unread.ite (s.setStair_unread _) (Unread.refl s)
  have h2 : Unread P s2 s := Unread.of_eq
  refine Unread.ite (Unread.trans Unread.of_eq h1) (Unread.trans ?_ h2)
  refine Unread.ite (Unread.ite (s2.setStair_unread _) (Unread.refl s2)) (Unread.ite (Unread.refl s2) ?_)
  refine Unread.ite (Unread.ite ?_ ?_) (Unread.ite ?_ (Unread.refl s2))
  · exact (State.trigger_unread _ _ _ _ _ _).trans Unread.of_eq
  · exact (State.bump_unread _ _ _).trans (s2.setStair_unread _)
  · exact (State.bump_unread _ _ _).trans (s2.setStair_unread _)

theorem State.judge_unread (s : State) (vals : List (Nat × Int)) : Unread P (s.judge vals) s := by
  unfold State.judge
  extract_lets bands s1 s2 w1 s3 s4 hot cool blind s5 w2 s6
  have h1 : Unread P s1 s := Unread.each (fun t g => t.commitRegion_unread vals g) _ s
  have h2 : Unread P s2 s1 := by
    refine Unread.each (fun t p => ?_) bands s1
    exact t.bandMoved_unread p.1 p.2
  have h3 : Unread P s3 s2 := by
    show Unread P (match hottest vals with | some (n, t) => _ | none => s2) s2
    split <;> exact Unread.of_eq
  have h4 : Unread P s4 s3 := Unread.each (fun t k => t.warnKind_unread vals k) _ s3
  have h5 : Unread P s5 s4 := by
    refine Unread.each (fun t g => ?_) _ s4
    exact State.followCause_unread _ _ _ _ _ _ _
  have h6 : Unread P s6 s5 := Unread.of_eq
  exact (s6.staircase_unread _ _ _).trans (h6.trans (h5.trans (h4.trans (h3.trans (h2.trans h1)))))

theorem State.crossCheck_unread (s : State) (valid : List Nat) (n : Nat) : Unread P (s.crossCheck valid n) s := by
  unfold State.crossCheck
  extract_lets nb num den pred v far count quar s1 s2
  have h1 : Unread P s1 s := Unread.setSensor s n _ fun _ => rfl
  have h2 : Unread P s2 s1 := Unread.ite (s1.bump_unread _ _) (Unread.refl s1)
  exact Unread.ite (Unread.refl s) (Unread.ite ((State.trigger_unread _ _ _ _ _ _).trans (h2.trans h1)) (h2.trans h1))

theorem State.coolCommit_unread (s : State) : Unread P s.coolCommit s := by
  unfold State.coolCommit
  have h : Unread P s.coolFollow s := Unread.of_eq
  exact Unread.ite h (Unread.ite (Unread.trans Unread.of_eq h) h)

theorem State.criterion_unread (s v : State) : Unread P (s.criterion v) s := by
  unfold State.criterion
  exact Unread.ite Unread.of_eq (Unread.refl s)

theorem State.thermalTrip_unread (s : State) (n : Nat) (v : Int) (causes : List Nat) : Unread P (s.thermalTrip n v causes) s := by
  unfold State.thermalTrip
  refine Unread.ite ?_ ?_
  · extract_lets s1 w s2
    have h2 : Unread P s2 s := Unread.trans (b := s1) Unread.of_eq (Unread.ite (s.bump_unread _ _) (Unread.refl s))
    exact Unread.ite (Unread.trans Unread.of_eq h2) ((State.trigger_unread _ _ _ _ _ _).trans h2)
  · refine (State.trigger_unread _ _ _ _ _ _).trans (Unread.ite (Unread.refl s) ?_)
    exact Unread.of_eq

/-- A commit point comes to cycle 840; the reads that are good at their first word stand. -/
theorem State.commitPoint_reads (s : State) (reads : List OnDieRead) :
    Paced (s.commitPoint reads) (s.atTime (s.tb.cStart + 840)) ∧
    ∀ n q v, n < 256 → s.sensorUsed n = true → (s.sensor n).sampled.isSome = true →
      reads.find? (fun r => r.sensor == n) = some q → q.first.bind onDieReading = some v →
      ((s.commitPoint reads).sensor n).read = (v, 0, none) := by
  unfold State.commitPoint
  extract_lets s0 before old s1 v s2 trips s3 s4 s5 causes
  obtain ⟨hpaced, hreads⟩ := s0.commitReads_reads reads
  have h2 : Unread (fun _ => True) s2 s1 := (State.judge_unread _ _).trans (s1.nearCommit_paced _)
  have h3 : Unread (fun _ => True) s3 s2 := Unread.each (fun t n => t.crossCheck_unread before n) _ s2
  have h4 : Unread (fun _ => True) s4 s3 := by
    refine Unread.each (fun t n => ?_) _ s3
    exact Unread.ite (Unread.setSensor t n _ fun _ => rfl) (Unread.refl t)
  have h5 : Unread (fun _ => True) s5 s4 := (State.criterion_unread _ _).trans s4.coolCommit_unread
  have h : Unread (fun _ => True) s5 s1 := h5.trans (h4.trans (h3.trans h2))
  have hlast : ∀ u : State, Unread (fun _ => True) u s1 → Paced u s0 ∧
      ∀ n q v, n < 256 → s.sensorUsed n = true → (s.sensor n).sampled.isSome = true →
        reads.find? (fun r => r.sensor == n) = some q → q.first.bind onDieReading = some v →
        (u.sensor n).read = (v, 0, none) := fun u hu =>
    ⟨hu.paced.trans hpaced, fun n q v hn hused hs hq hv => (hu.read n trivial).trans (hreads n q v hn hused hs hq hv)⟩
  split
  · exact hlast _ ((s5.thermalTrip_unread _ _ _).trans h)
  · exact hlast _ h

end

/-! #### The start of reads -/

/-- The sensors as an S-frame tick finds them: the near rate ends where it is due and is counted while it lasts. -/
def State.sFrameBegun (s : State) : State :=
  let back : Bool := s.tb.near && 10 ≤ s.tb.nearRun && s.tb.cframe % 100 == 0
  let s : State := { s with tb := { s.tb with near := s.tb.near && !back, nearRun := if back then 0 else s.tb.nearRun } }
  if s.tb.near then s.bump 0x1200 7 else s

/-- The reads of an S-frame tick started. -/
def State.readsStarted (s : State) : State :=
  each ((List.range 256).filter s.sensorUsed) (fun s n => s.modSensor n (fun v => { v with sampled := some none })) s

/-- What follows the start of the on-die reads: words of the stacks sampled, re-armed reads begun, band outputs. -/
def State.sFrameRest (s : State) : State :=
  let s := each ((List.range 16).filter (fun k => s.sensorUsed (256 + k) && s.stackUp k)) (fun s k =>
    s.modSensor (256 + k) (fun v => { v with sampled := some (s.stackNow k), again := none })) s
  let s := each ((List.range 272).filter (fun n => (s.sensor n).rearm)) (fun s n =>
    s.modSensor n (fun v => { v with rearm := false, rearmRead := true })) s
  if s.gov.st == .boot || s.gov.st == .off then s else s.bandOutputs

theorem exec_sFrameTick {s : State} (hg : s.tb.gclk = true) (h : s.tb.cframe % s.sLength = 0) :
    exec .sFrameTick s = .next s.sFrameBegun.readsStarted.sFrameRest := if_pos (by rw [hg, h]; rfl)

theorem State.sFrameBegun_unread (s : State) : Unread (fun _ => True) s.sFrameBegun s := by
  unfold State.sFrameBegun
  extract_lets back w s1
  have h1 : Unread (fun _ => True) s1 s := Unread.of_paced ⟨rfl, rfl, rfl, rfl, rfl⟩
  exact Unread.ite ((s1.bump_unread _ _).trans h1) h1

theorem State.sFrameBegun_sensorUsed (s : State) {n : Nat} (hn : n < 256) : s.sFrameBegun.sensorUsed n = s.sensorUsed n := by
  have hkey : okey (sensorObj n) 1 ≠ okey 0x1200 7 := okey_ne (by decide) (by decide) (by simp)
  unfold State.sFrameBegun
  extract_lets back w s1
  split
  · have hstored : stored (s1.bump 0x1200 7).od (sensorObj n) 1 = stored s.od (sensorObj n) 1 :=
      stored_tset s.od _ _ _ _ _ hkey
    unfold State.sensorUsed State.sensorRegion
    rw [if_pos (by omega), if_pos (by omega), hstored]
  · rfl

theorem State.readsStarted_unread (s : State) : Unread (fun _ => False) s.readsStarted s := by
  refine Unread.each (fun t n => ?_) _ s
  exact Unread.setSensor t n _ fun h => h.elim

theorem State.readsStarted_sampled (s : State) {n : Nat} (hn : n < 256) (hu : s.sensorUsed n = true) :
    (s.readsStarted.sensor n).sampled.isSome = true := by
  have hstart : ∀ (l : List Nat) (t : State), n ∈ l ∨ (t.sensor n).sampled.isSome = true →
      ((each l (fun s n => s.modSensor n (fun v => { v with sampled := some none })) t).sensor n).sampled.isSome = true := by
    intro l
    induction l with
    | nil => exact fun t h => h.resolve_left List.not_mem_nil
    | cons x rest ih =>
      intro t h
      rw [each_cons]
      refine ih _ ?_
      rw [State.sensor_modSensor]
      by_cases hx : n = x
      · rw [if_pos hx]
        exact Or.inr rfl
      · rw [if_neg hx]
        exact h.imp_left fun hm => (List.mem_cons.mp hm).resolve_left hx
  exact hstart _ s (Or.inl (List.mem_filter.mpr ⟨List.mem_range.mpr hn, hu⟩))

theorem State.sFrameRest_unread (s : State) : Unread OnDie s.sFrameRest s := by
  unfold State.sFrameRest
  extract_lets s1 s2
  have h1 : Unread OnDie s1 s := by
    refine Unread.each (fun t k => ?_) _ s
    exact Unread.setSensor t (256 + k) _ fun h => absurd h (by unfold OnDie; omega)
  have h2 : Unread OnDie s2 s1 := by
    refine Unread.each (fun t n => ?_) _ s1
    exact Unread.setSensor t n _ fun _ => rfl
  exact Unread.ite (h2.trans h1) (Unread.trans Unread.of_eq (h2.trans h1))

/-- Settles O11: a read outlasts what follows it in its commit (`Unread`); a rail without overruns keeps so (`Tells`). -/
theorem slowFrames : Obligations.SlowFrames := by
  unfold Obligations.SlowFrames
  refine ⟨fun n s h1 h2 h3 h4 => ?_, fun s h => if_neg ?_, fun reads s h1 h2 => ?_, fun reads s h => if_neg ?_,
    fun r s h1 h2 => ?_, fun r s h => if_neg ?_⟩
  case refine_1 =>
    have hrest := s.sFrameBegun.readsStarted.sFrameRest_unread
    have hpaced := hrest.paced.trans (s.sFrameBegun.readsStarted_unread.paced.trans s.sFrameBegun_unread.paced)
    refine ⟨_, exec_sFrameTick h1 h2, ?_, hpaced.cframe, hpaced.now⟩
    rw [hrest.sampled h3]
    exact (s.sFrameBegun.readsStarted_sampled h3 ((s.sFrameBegun_sensorUsed h3).trans h4))
  case refine_2 => rcases h with h | h <;> simp [h]
  case refine_3 =>
    have hrun : exec (.thermalCommit reads) s = .next (s.oneCycle (fun s => s.commitPoint reads)) :=
      if_pos (by rw [h1, h2]; rfl)
    obtain ⟨u, hu, htells, hspares⟩ := State.oneCycle_settles (fun s => s.commitPoint reads) s
    have hsettle : Unread (fun _ => True) _ _ := Unread.of_spares hspares htells
    obtain ⟨hpaced, hreads⟩ := u.commitPoint_reads reads
    have htb : u.tb = s.tb ∧ u.sensors = s.sensors ∧ u.od = s.od ∧ u.desc = s.desc := by
      rcases hu with rfl | rfl <;> exact ⟨rfl, rfl, rfl, rfl⟩
    obtain ⟨htb, hsensors, hod, hdesc⟩ := htb
    have hall := hsettle.paced.trans hpaced
    refine ⟨_, hrun, ?_, ?_, ?_, fun n q v hn hused hs hq hv => ?_⟩
    · rw [hall.now, State.atTime, htb]
    · rw [hall.cStart, State.atTime, htb]
    · rw [hall.cframe, State.atTime, htb]
    · have hread := (hsettle.read n trivial).trans (hreads n q v hn ?_ ?_ hq hv)
      · exact ⟨congrArg (fun x => x.1) hread, congrArg (fun x => x.2.1) hread, congrArg (fun x => x.2.2) hread⟩
      · unfold State.sensorUsed State.sensorRegion State.extSensor at hused ⊢
        rw [hod, hdesc]
        exact hused
      · unfold State.sensor at hs ⊢
        rw [hsensors]
        exact hs
  case refine_4 => rcases h with h | h <;> simp [h]
  case refine_5 =>
    let w := s.modRail r (fun v => { v with overruns := 0 })
    have hrun : exec (.loopOverrun r) s = .next (w.trigger 3 1 r 0 (s.railPa r r)) := if_pos (by simp [h1, h2])
    have hzero : (w.rail r).overruns = 0 := congrArg Rail.overruns ((State.rail_setRail s r r _).trans (if_pos rfl))
    have hreach : s.tb.gclk = true → w.pinReached 3 = true := fun hg => State.pinReached_running (s := w) hg (by decide) rfl
    have hspares : Spares w s := State.modRail_spares _ _ _
    have hgov : w.gov = s.gov := rfl
    have htb : w.tb = s.tb := rfl
    clear_value w
    refine ⟨_, hrun, ((w.trigger_tells 3 1 r 0 (s.railPa r r)).rail r).overruns hzero,
      (State.trigger_spares w 3 1 r 0 (s.railPa r r)).chain hspares, fun hg ha => ?_⟩
    exact State.trigger_pin r 0 (s.railPa r r) (by decide) (hreach hg) (by rw [hgov]; exact ha) (by rw [htb]; exact hg)
  case refine_6 => rcases h with h | h <;> simp [h]


/-! ### O17: all-phase fire, its lockout, the overvoltage clamp and the shed decision (04 R101 to R113) -/

/-! #### What acts on one rail alone -/

/-- Only rail `r`, lanes, the object store and the capture differ. -/
structure Fires (r : Nat) (t s : State) : Prop where
  frame : t = { s with rails := t.rails, lanes := t.lanes, od := t.od, capture := t.capture }
  other : ∀ k, k ≠ r → t.rail k = s.rail k

section
variable {r : Nat}

theorem Fires.refl (s : State) : Fires r s s := ⟨rfl, fun _ _ => rfl⟩

theorem Fires.trans {a b c : State} (h : Fires r a b) (g : Fires r b c) : Fires r a c := by
  refine ⟨?_, fun k hk => (h.other k hk).trans (g.other k hk)⟩
  rw [h.frame, g.frame]

theorem Fires.of_drives {t s : State} (h : Drives t s) (g : ∀ k, k ≠ r → t.rail k = s.rail k) : Fires r t s := by
  refine ⟨?_, g⟩
  unfold Drives at h
  rw [h]

theorem Fires.setRail (s : State) (v : Rail) : Fires r (s.setRail r v) s :=
  ⟨rfl, fun k hk => (State.rail_setRail s r k v).trans (if_neg hk)⟩

end

theorem State.rail_of_rails {t s : State} (h : t.rails = s.rails) (k : Nat) : t.rail k = s.rail k := by
  unfold State.rail
  rw [h]

theorem State.abortShed_fires (s : State) (r : Nat) : Fires r (s.abortShed r) s :=
  Fires.of_drives (s.abortShed_drives r) fun _ hk => s.rail_abortShed hk

/-- An aborted shed leaves no other mark on its rail. -/
theorem State.abortShed_rail (s : State) (r : Nat) :
    (s.abortShed r).rail r = { s.rail r with shed := none, shedDue := false, dwell := 0, dwellMax := 0 } := by
  unfold State.abortShed
  extract_lets v
  split
  · exact (State.rail_of_rails rfl r).trans ((State.rail_setRail s r r _).trans (if_pos rfl))
  · next h =>
    have hnone : v.shed = none := Option.not_isSome_iff_eq_none.mp h
    rw [State.rail_setRail, if_pos rfl]
    show { v with shedDue := false, dwell := 0, dwellMax := 0 } = { v with shed := none, shedDue := false, dwell := 0, dwellMax := 0 }
    rw [← hnone]

theorem State.addLane_rails (s : State) (n d : Nat) : (s.addLane n d).rails = s.rails := by
  unfold State.addLane State.wakeLane
  dsimp only
  split
  · rfl
  · split <;> rfl

theorem State.raisePlan_rail (s : State) (r count d k : Nat) : (s.raisePlan r count d).rail k =
    if k = r then { s.rail r with plan := max (s.rail r).plan count } else s.rail k := by
  refine Eq.trans (State.rail_of_rails ?_ k) (State.rail_setRail s r k _)
  exact each_keeps (fun t : State => t.rails) (fun t n => t.addLane_rails n d) _ _

theorem State.raisePlan_fires (s : State) (r count d : Nat) : Fires r (s.raisePlan r count d) s :=
  Fires.of_drives (s.raisePlan_drives r count d) fun _ hk => (s.raisePlan_rail r count d _).trans (if_neg hk)

theorem State.captureEvent_fires (s : State) (r a b : Nat) : Fires r (s.captureEvent a b) s := by
  rw [State.captureEvent_capture]
  exact ⟨rfl, fun _ _ => rfl⟩

theorem State.captureEvent_rails (s : State) (a b : Nat) : (s.captureEvent a b).rails = s.rails := by
  rw [State.captureEvent_capture]

/-! #### A fire engages and ends -/

/-- A fire that engages and is not the 17th of its H-frame. -/
theorem State.fireTrigger_engages {s : State} {r : Nat} (hfire : (s.rail r).fire = .armed)
    (hon : (s.flag (0x2200 + r) 0x19 && (s.rail r).goodOnce && !(s.rail r).clamp && !(s.rail r).senseLost && s.gov.st.fires) = true)
    (hn : (s.rail r).fires ≠ 16) : Fires r (s.fireTrigger r) s ∧ ((s.fireTrigger r).rail r).fire = .firing ∧
      ((s.fireTrigger r).rail r).fireAt = s.tb.now ∧ ((s.fireTrigger r).rail r).inFire = true ∧
      ((s.fireTrigger r).rail r).fires = (s.rail r).fires + 1 ∧ ((s.fireTrigger r).rail r).shed = none := by
  unfold State.fireTrigger
  extract_lets v was s1 s2 s3 s4 s5
  have h1 : Fires r s1 s := Fires.setRail s _
  have h1r : s1.rail r = _ := (State.rail_setRail s r r _).trans (if_pos rfl)
  have h2 : Fires r s2 s1 := ⟨rfl, fun _ _ => rfl⟩
  have h3 : Fires r s3 s2 := s2.abortShed_fires r
  have h4 : Fires r s4 s3 := State.raisePlan_fires _ _ _ _
  have h5 : Fires r s5 s4 := s4.captureEvent_fires r 2 r
  have hall : Fires r s5 s := h5.trans (h4.trans (h3.trans (h2.trans h1)))
  have h5r : s5.rail r = s4.rail r := State.rail_of_rails (s4.captureEvent_rails 2 r) r
  have h4r : s4.rail r = { s3.rail r with plan := max (s3.rail r).plan (s3.availableLanes r).length } :=
    (s3.raisePlan_rail r _ 0 r).trans (if_pos rfl)
  have h3r : s3.rail r = { s1.rail r with shed := none, shedDue := false, dwell := 0, dwellMax := 0 } := s2.abortShed_rail r
  have hfires : (s5.rail r).fires = (s.rail r).fires + 1 := by rw [h5r, h4r, h3r, h1r]
  rw [if_neg (by rw [show v.fire = .armed from hfire]; decide), if_pos hon, if_neg (by rw [hfires]; omega)]
  refine ⟨hall, ?_, ?_, ?_, hfires, ?_⟩ <;> rw [h5r, h4r, h3r, h1r]

/-- A fire ends: the rail is in lockout from this instant. -/
theorem State.endFire_ends {s : State} {r : Nat} (h : (s.rail r).fire = .firing) : Drives (s.endFire r) s ∧
    ∀ k, (s.endFire r).rail k = if k = r then { s.rail r with fire := .lockout, fireAt := s.tb.now, trigAt := none } else s.rail k := by
  unfold State.endFire
  extract_lets v t s1 s2
  have h1 : s1 = { s with lanes := s1.lanes } := by
    refine each_carries (fun t => t = { s with lanes := t.lanes }) (fun t n ht => ?_) _ s rfl
    rw [ht]
    rfl
  have hrail : ∀ k, s1.rail k = s.rail k := fun k => State.rail_of_rails (by rw [h1]) k
  have hnow : s1.tb = s.tb := by rw [h1]
  have h1d : Drives s1 s := by
    unfold Drives
    rw [h1]
  have h2 : Drives s2 s := (Drives.modRail s1 r _).trans h1d
  have h2r : ∀ k, s2.rail k = if k = r then { s.rail r with fire := .lockout, fireAt := s.tb.now, trigAt := none } else s.rail k :=
    fun k => by rw [show s2.rail k = _ from State.rail_setRail s1 r k _, hrail, hrail, hnow]
  rw [if_pos (by rw [show v.fire = .firing from h]; rfl)]
  split
  · exact ⟨(Drives.bump _ _ _).trans h2, h2r⟩
  · exact ⟨h2, h2r⟩

theorem State.endFire_idle {s : State} {r : Nat} (h : (s.rail r).fire ≠ .firing) : s.endFire r = s := if_neg (by simpa using h)

theorem State.endFire_drives (s : State) (r : Nat) : Drives (s.endFire r) s := by
  by_cases h : (s.rail r).fire = .firing
  · exact (State.endFire_ends h).1
  · rw [State.endFire_idle h]
    exact Drives.refl s

theorem State.endFire_over (s : State) (r : Nat) : ((s.endFire r).rail r).fire ≠ .firing := by
  by_cases h : (s.rail r).fire = .firing
  · rw [(State.endFire_ends h).2 r, if_pos rfl]
    exact FireSt.noConfusion
  · rw [State.endFire_idle h]
    exact h

theorem State.obj_endFire (s : State) (r : Nat) {i : Nat} : (s.endFire r).obj i 1 = s.obj i 1 := by
  unfold State.endFire
  extract_lets v t s1 s2
  have h1 : s1.obj i 1 = s.obj i 1 := by
    refine each_keeps (fun t : State => t.obj i 1) (fun t n => ?_) _ s
    rfl
  refine apply_ite (fun t : State => t.obj i 1) _ _ _ |>.trans ?_
  split
  · refine Eq.trans ?_ h1
    refine (apply_ite (fun t : State => t.obj i 1) _ _ _).trans ?_
    split
    · exact s2.obj_setObj_other _ (by decide) (by decide) (by simp [defaultReads]) (Or.inr (by decide))
    · rfl
  · rfl

/-- A fire that engaged in this cycle is taken back. -/
theorem State.voidFire_fires (s : State) (r : Nat) : Fires r (s.voidFire r) s ∧
    ∀ i, (s.voidFire r).obj i 1 = s.obj i 1 := by
  unfold State.voidFire
  extract_lets v s1
  split
  · next u hu =>
    split
    · extract_lets s2 s3 w
      have h1 : ∀ i, s1.obj i 1 = s.obj i 1 := fun i =>
        s.obj_setObj_other _ (by decide) (by decide) (by simp [defaultReads]) (Or.inr (by decide))
      have h2 : s2 = { s1 with lanes := s2.lanes } := by
        refine each_carries (fun t => t = { s1 with lanes := t.lanes }) (fun t q ht => ?_) _ s1 rfl
        rw [ht]
        rfl
      have hfire : Fires r s2 s1 := by
        refine ⟨?_, fun k _ => State.rail_of_rails (by rw [h2]) k⟩
        rw [h2]
      have h3 : Fires r s3 s := (Fires.setRail s2 _).trans (hfire.trans ⟨rfl, fun _ _ => rfl⟩)
      refine ⟨Fires.trans (b := s3) ⟨rfl, fun _ _ => rfl⟩ h3, fun i => ?_⟩
      have hobj : s2.obj i 1 = s1.obj i 1 := by
        rw [h2]
        exact State.obj_same
      exact (State.obj_same (s := s2)).trans (hobj.trans (h1 i))
    · exact ⟨Fires.refl s, fun _ => rfl⟩
  · exact ⟨Fires.refl s, fun _ => rfl⟩

/-! #### The clamp -/

/-- What one step of a fold brings and every step keeps stands at its end. -/
theorem each_brings {σ : Type} {f : σ → Nat → σ} {P : σ → Prop} {n : Nat} (hn : ∀ t, P (f t n)) (hk : ∀ t x, P t → P (f t x))
    {l : List Nat} (h : n ∈ l) (s : σ) : P (each l f s) := by
  induction l generalizing s with
  | nil => exact absurd h List.not_mem_nil
  | cons x rest ih =>
    rw [each_cons]
    rcases List.mem_cons.mp h with rfl | h
    · exact each_carries P (fun t x ht => hk t x ht) rest _ (hn s)
    · exact ih h _

/-- The lanes of a rail as a clamp ends their pulses. -/
def State.lanesClamped (s : State) (r : Nat) : State :=
  each (s.railLanes r) (fun s n => s.modLane n (fun l => l.clamp s.stepsNow)) s

theorem State.lanesClamped_frame (s : State) (r : Nat) : s.lanesClamped r = { s with lanes := (s.lanesClamped r).lanes } := by
  refine each_carries (fun t => t = { s with lanes := t.lanes }) (fun t n ht => ?_) _ s rfl
  rw [ht]
  rfl

theorem State.lanesClamped_drives (s : State) (r : Nat) : Drives (s.lanesClamped r) s := by
  unfold Drives
  rw [s.lanesClamped_frame]

theorem State.lanesClamped_lane {s : State} {r n : Nat} (h : n ∈ s.railLanes r) :
    ((s.lanesClamped r).lane n).duty = 0 ∧ ((s.lanesClamped r).lane n).nextDuty = 0 := by
  refine each_brings (P := fun t : State => (t.lane n).duty = 0 ∧ (t.lane n).nextDuty = 0) (fun t => ?_) (fun t x ht => ?_) h s
  · rw [show (t.modLane n _).lane n = _ from (State.lane_setLane t n n _).trans (if_pos rfl)]
    exact ⟨rfl, rfl⟩
  · rw [show (t.modLane x _).lane n = _ from State.lane_setLane t x n _]
    split
    · exact ⟨rfl, rfl⟩
    · exact ht

/-- A rail whose fire is over and whose shed is aborted. -/
def State.fireVoided (s : State) (r : Nat) : State := ((s.voidFire r).endFire r).abortShed r

theorem State.fireVoided_fires (s : State) (r : Nat) : Fires r (s.fireVoided r) s :=
  (State.abortShed_fires _ r).trans (Fires.trans (b := s.voidFire r) (Fires.of_drives (State.endFire_drives _ r) fun k hk => by
    by_cases h : ((s.voidFire r).rail r).fire = .firing
    · rw [(State.endFire_ends h).2, if_neg hk]
    · rw [State.endFire_idle h]) (s.voidFire_fires r).1)

theorem State.fireVoided_railLanes (s : State) (r : Nat) : (s.fireVoided r).railLanes r = s.railLanes r := by
  have hcfg : (s.fireVoided r).cfg = s.cfg := by rw [(s.fireVoided_fires r).frame]
  have hobj : ∀ i, (s.fireVoided r).obj i 1 = s.obj i 1 := fun i =>
    (State.obj_abortShed _ r (by decide) (by decide)).trans ((State.obj_endFire _ r).trans ((s.voidFire_fires r).2 i))
  unfold State.railLanes State.laneCount State.laneRail
  simp only [hcfg, hobj]

theorem State.fireVoided_over (s : State) (r : Nat) : ((s.fireVoided r).rail r).fire ≠ .firing := by
  have h : (s.fireVoided r).rail r = _ := State.abortShed_rail _ r
  rw [h]
  exact State.endFire_over _ r

/-- The rail of a clamp. -/
def Rail.clamped (v : Rail) : Rail := { v with clamp := true, drail := 0 }

theorem exec_overvoltageClamp {s : State} {r high : Nat} (h1 : s.railUsed r = true) (h2 : (s.rail r).guarded = true)
    (h3 : (s.rail r).clamp = false) (h4 : (s.rail r).setpoint + s.obj (0x2200 + r) 0x1A < high) :
    exec (.overvoltageClamp r high) s =
      .next ((((s.fireVoided r).modRail r Rail.clamped).lanesClamped r).bump (0x2200 + r) 0x2D) :=
  if_pos (by simp [h1, h2, h3, h4])

/-! #### The commands -/

theorem State.sawLow_fires (s : State) (r low : Nat) : Drives (s.sawLow r low) s ∧
    (∀ k, k ≠ r → (s.sawLow r low).rail k = s.rail k) ∧ ∃ seen, (s.sawLow r low).rail r = { s.rail r with fireSeen := seen } :=
  ⟨rfl, fun k hk => (State.rail_setRail s r k _).trans (if_neg hk), _, (State.rail_setRail s r r _).trans (if_pos rfl)⟩

theorem State.cooperAt_ge (s : State) : s.tb.now ≤ s.cooperAt := by
  unfold State.cooperAt
  dsimp only
  split <;> omega

/-- Settles O17: a fire by `fireTrigger_engages` and `endFire_ends`; a clamp ends it (`fireVoided_over`). -/
theorem fireAndClamp : Obligations.FireAndClamp := by
  unfold Obligations.FireAndClamp
  refine ⟨fun r low s h1 h2 h3 h4 h5 h6 h7 h8 h9 h10 => ?_, fun r low s h1 h2 h3 h4 => ?_, fun r low s h1 h2 => ?_,
    fun r low s h1 h2 => ?_, fun r low s h1 h2 => ?_, fun r high s h1 h2 h3 h4 => ?_, fun r s h1 h2 => ?_,
    fun r low s h1 h2 h3 => ?_, fun r low s h => if_neg ?_, fun r low s h => if_neg ?_, fun r high s h => if_neg ?_,
    fun r s h => if_neg ?_⟩
  case refine_1 =>
    let w := s.modRail r (fun v => { v with fireSeen := true })
    have hw : w.rail r = { s.rail r with fireSeen := true } := (State.rail_setRail s r r _).trans (if_pos rfl)
    have hflag : w.flag (0x2200 + r) 0x19 = true := h5
    obtain ⟨hall, hfire, hat, hin, hfires, hshed⟩ := State.fireTrigger_engages (s := w) (r := r) (by rw [hw]; exact h4)
      (by rw [hflag, hw, h6, h7, h8, show w.gov = s.gov from rfl, h9]; rfl) (by rw [hw]; exact h10)
    have hrun : exec (.allPhaseFire r low) s = .next (w.fireTrigger r) :=
      (if_pos (by simp [h1, h2])).trans (if_neg (by rw [h3]; exact Bool.false_ne_true))
    have hfull : Fires r (w.fireTrigger r) s := hall.trans (Fires.setRail s _)
    exact ⟨_, hrun, hfire, hat, hin, hfires.trans (by rw [hw]), hshed, hfull.other, hfull.frame⟩
  case refine_2 =>
    let w := s.modRail r (fun v => { v with fireSeen := true })
    have hw : w.rail r = { s.rail r with fireSeen := true } := (State.rail_setRail s r r _).trans (if_pos rfl)
    have hlock : w.fireTrigger r = w.bump (0x2200 + r) 0x2C :=
      (if_pos (by rw [hw, h4]; rfl)).trans (if_pos (by rw [hw, h4]; rfl))
    refine (if_pos (by simp [h1, h2])).trans ((if_neg (by rw [h3]; exact Bool.false_ne_true)).trans ?_)
    exact congrArg Host.Outcome.next hlock
  case refine_3 =>
    obtain ⟨hdrives, hother, seen, hown⟩ := s.sawLow_fires r low
    have hrun : exec (.fireEnd r low) s = .next ((s.sawLow r low).endFire r) := (if_pos (by rw [h1]; rfl)).trans (if_pos h2)
    obtain ⟨hend, hrail⟩ := State.endFire_ends (s := s.sawLow r low) (r := r) (by rw [hown]; exact h1)
    refine ⟨_, hrun, by rw [hrail, if_pos rfl], by rw [hrail, if_pos rfl]; rfl, fun k hk => ?_, hend.trans hdrives⟩
    rw [hrail, if_neg hk]
    exact hother k hk
  case refine_4 =>
    obtain ⟨hdrives, hother, seen, hown⟩ := s.sawLow_fires r low
    let w := (s.sawLow r low).atTime ((s.rail r).fireAt + periodCycles (s.rail r).code)
    have hrun : exec (.fireEnd r low) s = .next ((w.endFire r).bump (0x2200 + r) 0x23) :=
      (if_pos (by rw [h1]; rfl)).trans (if_neg (by rw [h2]; exact Bool.false_ne_true))
    have hwr : w.rail r = (s.sawLow r low).rail r := rfl
    obtain ⟨hend, hrail⟩ := State.endFire_ends (s := w) (r := r) (by rw [hwr, hown]; exact h1)
    have hfull : Drives ((w.endFire r).bump (0x2200 + r) 0x23) w := (Drives.bump _ _ _).trans hend
    have hr : ((w.endFire r).bump (0x2200 + r) 0x23).rail r = { w.rail r with fire := .lockout, fireAt := w.tb.now, trigAt := none } :=
      (State.rail_of_rails rfl r).trans ((hrail r).trans (if_pos rfl))
    refine ⟨_, hrun, by rw [hr], by rw [hr]; rfl, ?_, ?_⟩
    · rw [hr]
      unfold Drives at hfull
      rw [hfull]
      rfl
    · generalize (w.endFire r).bump (0x2200 + r) 0x23 = t at hfull ⊢
      unfold Drives at hfull
      rw [hfull]
      rfl
  case refine_5 =>
    let w := (s.sawLow r low).atTime ((s.rail r).fireAt + s.obj (0x2200 + r) 0x18 * periodCycles (s.rail r).code)
    have hrun : exec (.fireRearm r low) s =
        .next ((w.atTime w.cooperAt).modRail r (fun v => { v with fire := .armed })) := if_pos (by rw [h1, h2]; rfl)
    refine ⟨_, hrun, ?_, Nat.max_eq_right w.cooperAt_ge, fun k hk => ?_, rfl⟩
    · exact congrArg Rail.fire ((State.rail_setRail (w.atTime w.cooperAt) r r _).trans (if_pos rfl))
    · exact (State.rail_setRail _ r k _).trans ((if_neg hk).trans ((State.rail_setRail s r k _).trans (if_neg hk)))
  case refine_6 =>
    rw [exec_overvoltageClamp h1 h2 h3 h4]
    let w := (s.fireVoided r).modRail r Rail.clamped
    have hw : w.rail r = ((s.fireVoided r).rail r).clamped := (State.rail_setRail _ r r _).trans (if_pos rfl)
    have hlanes := w.lanesClamped_frame r
    have hrail : ((w.lanesClamped r).bump (0x2200 + r) 0x2D).rail r = ((s.fireVoided r).rail r).clamped :=
      (State.rail_of_rails (by rw [hlanes]; rfl) r).trans hw
    have hmem : w.railLanes r = s.railLanes r := s.fireVoided_railLanes r
    have hfires : Fires r w s := (Fires.setRail _ _).trans (s.fireVoided_fires r)
    have hclamp : Fires r (w.lanesClamped r) w := Fires.of_drives (w.lanesClamped_drives r) fun k _ =>
      State.rail_of_rails (by rw [hlanes]) k
    have hfull : Fires r ((w.lanesClamped r).bump (0x2200 + r) 0x2D) s :=
      Fires.trans (b := w.lanesClamped r) ⟨rfl, fun _ _ => rfl⟩ (hclamp.trans hfires)
    exact ⟨_, rfl, by rw [hrail]; rfl, by rw [hrail]; exact s.fireVoided_over r, by rw [hrail]; rfl,
      fun n hn => State.lanesClamped_lane (s := w) (by rw [hmem]; exact hn), hfull.frame⟩
  case refine_7 =>
    have hrun : exec (.shedDecision r) s = .next (s.setRail r { s.rail r with
        shedDue := false
        dwell := 0
        dwellMax := 0
        shed := if max (s.laneFloor r) (s.nPlan r (s.rail r).dwellMax) < (s.rail r).plan then
          some (max (s.laneFloor r) (s.nPlan r (s.rail r).dwellMax)) else none }) := if_pos (by rw [h1, h2]; rfl)
    refine ⟨_, hrun, ?_, ?_, fun c hc => ?_, fun k hk => (State.rail_setRail s r k _).trans (if_neg hk), rfl⟩
    · rw [State.rail_setRail, if_pos rfl]
    · rw [State.rail_setRail, if_pos rfl]
    · rw [State.rail_setRail, if_pos rfl] at hc
      dsimp only at hc
      split at hc
      · next hlt =>
        obtain rfl := Option.some.inj hc
        exact ⟨hlt, Nat.le_max_left _ _⟩
      · exact absurd hc.symm (Option.some_ne_none c)
  case refine_8 => exact (if_pos (by simp [h1, h2])).trans (if_pos h3)
  case refine_9 => simpa using h
  case refine_10 => rcases h with h | h <;> simp [h]
  case refine_11 => rcases h with h | h | h | h <;> simp [h]
  case refine_12 => rcases h with h | h <;> simp [h]


/-! ### O10: ticks and commits. The F-frame tick (03 R60 to R70, 04 R82 to R99, 02 R46) -/

/-! #### One lane latched -/

/-- A sample judged and marked: a lane record as `latchLane` leaves it before it judges the sample. -/
def State.latched (s : State) (q : LaneSample) : Lane :=
  let l := s.lane q.lane
  let b := bitFrame l.bitRun l.lastBit q.bits
  let x := if plausible q.x && b.1 != 128 then q.x else l.lastX
  { l with
    lastX := x
    current := laneCurrent x (s.obj16 (0x2100 + q.lane) 6) (s.obj (0x2100 + q.lane) 5) (s.obj (0x2100 + q.lane) 4)
    bitRun := b.1
    lastBit := b.2.1
    good := if s.inCensus q.lane && (plausible q.x && !b.2.2) then l.good + 1 else l.good
    bad := l.bad || (s.inCensus q.lane && !(plausible q.x && !b.2.2)) }

theorem State.latchLane_eq {s : State} {q : LaneSample} (h : (s.laneCount ≤ q.lane || s.lanesMute) = false) : s.latchLane q =
    (s.setLane q.lane (s.latched q)).judgeSample q.lane
      (plausible q.x && !(bitFrame (s.lane q.lane).bitRun (s.lane q.lane).lastBit q.bits).2.2)
      (bitFrame (s.lane q.lane).bitRun (s.lane q.lane).lastBit q.bits).2.2 :=
  if_neg (by rw [h]; exact Bool.false_ne_true)

theorem State.latchLane_muted {s : State} {q : LaneSample} (h : (s.laneCount ≤ q.lane || s.lanesMute) = true) :
    s.latchLane q = s := if_pos h

/-- A sample judged changes only what its lane has counted. -/
theorem State.judgeSample_judges (s : State) (n : Nat) (ok stuck : Bool) : Drives (s.judgeSample n ok stuck) s ∧
    (∀ k, k ≠ n → (s.judgeSample n ok stuck).lane k = s.lane k) ∧
    ((s.judgeSample n ok stuck).lane n).sample = (s.lane n).sample ∧
    ∀ i j, j = 4 ∨ j = 5 ∨ j = 6 → (s.judgeSample n ok stuck).obj i j = s.obj i j := by
  have hset : ∀ v : Lane, v.sample = (s.lane n).sample → Drives (s.setLane n v) s ∧
      (∀ k, k ≠ n → (s.setLane n v).lane k = s.lane k) ∧ ((s.setLane n v).lane n).sample = (s.lane n).sample ∧
      ∀ i j, j = 4 ∨ j = 5 ∨ j = 6 → (s.setLane n v).obj i j = s.obj i j := fun v hv =>
    ⟨rfl, fun k hk => (State.lane_setLane s n k v).trans (if_neg hk),
      (congrArg Lane.sample ((State.lane_setLane s n n v).trans (if_pos rfl))).trans hv, fun _ _ _ => State.obj_same⟩
  unfold State.judgeSample
  dsimp only
  split
  · exact ⟨Drives.refl s, fun _ _ => rfl, rfl, fun _ _ _ => rfl⟩
  split
  · split
    · exact hset _ rfl
    split
    · exact hset _ rfl
    obtain ⟨hdrives, hother, hown, hobj⟩ := hset { s.lane n with retrying := false, retryLeft := 0, badRun := 0 } rfl
    generalize s.setLane n { s.lane n with retrying := false, retryLeft := 0, badRun := 0 } = t at hdrives hother hown hobj ⊢
    have hlanes : ((t.bump (0x2100 + n) 0x10).transient 9).lanes = t.lanes := by rw [State.transient_od]; rfl
    refine ⟨(State.transient_drives _ 9).trans ((Drives.bump t _ _).trans hdrives), fun k hk => ?_, ?_, fun i j hj => ?_⟩
    · rw [State.lane_of_lanes hlanes]
      exact hother k hk
    · rw [State.lane_of_lanes hlanes]
      exact hown
    · have hbump : (t.bump (0x2100 + n) 0x10).obj i j = t.obj i j :=
        t.obj_setObj_other _ (by omega) (by decide) (by simp [defaultReads]) (Or.inr (by omega))
      refine Eq.trans ?_ (hbump.trans (hobj i j hj))
      unfold State.transient
      split
      · exact (State.obj_bump_counter _ (by decide) (by omega) (by decide) (Or.inr (by omega))).trans
          (State.obj_bump_counter _ (by decide) (by omega) (by decide) (Or.inr (by omega)))
      · rfl
  · exact hset _ rfl

theorem State.latchLane_drives (s : State) (q : LaneSample) : Drives (s.latchLane q) s := by
  cases h : (s.laneCount ≤ q.lane || s.lanesMute : Bool) with
  | true =>
    rw [State.latchLane_muted h]
    exact Drives.refl s
  | false =>
    rw [State.latchLane_eq h]
    exact (State.judgeSample_judges _ _ _ _).1.trans (Drives.setLane s _ _)

/-- What a sample of another lane leaves of the state that latches a lane. -/
theorem State.latchLane_other (s : State) {q : LaneSample} {n : Nat} (h : n ≠ q.lane) : (s.latchLane q).lane n = s.lane n := by
  cases hm : (s.laneCount ≤ q.lane || s.lanesMute : Bool) with
  | true => rw [State.latchLane_muted hm]
  | false =>
    rw [State.latchLane_eq hm, (State.judgeSample_judges _ _ _ _).2.1 n h]
    exact (State.lane_setLane s q.lane n _).trans (if_neg h)

theorem State.obj_latchLane (s : State) (q : LaneSample) {i j : Nat} (hj : j = 4 ∨ j = 5 ∨ j = 6) :
    (s.latchLane q).obj i j = s.obj i j := by
  cases hm : (s.laneCount ≤ q.lane || s.lanesMute : Bool) with
  | true => rw [State.latchLane_muted hm]
  | false =>
    rw [State.latchLane_eq hm, (State.judgeSample_judges _ _ _ _).2.2.2 i j hj]
    exact State.obj_same

/-- The sample of a lane as R60 scales it. -/
def State.scaled (s : State) (q : LaneSample) : Nat × Int :=
  (q.x, laneCurrent q.x (s.obj16 (0x2100 + q.lane) 6) (s.obj (0x2100 + q.lane) 5) (s.obj (0x2100 + q.lane) 4))

/-- A plausible sample is latched, or the lane keeps the same one from before. -/
theorem State.latchLane_scaled {s : State} {q : LaneSample} (hm : (s.laneCount ≤ q.lane || s.lanesMute) = false)
    (hx : plausible q.x = true) (h : (bitFrame (s.lane q.lane).bitRun (s.lane q.lane).lastBit q.bits).1 ≠ 128 ∨
      (s.lane q.lane).sample = s.scaled q) : ((s.latchLane q).lane q.lane).sample = s.scaled q := by
  rw [State.latchLane_eq hm, (State.judgeSample_judges _ _ _ _).2.2.1,
    show State.lane _ q.lane = _ from (State.lane_setLane s q.lane q.lane _).trans (if_pos rfl)]
  have hlast : (if plausible q.x && (bitFrame (s.lane q.lane).bitRun (s.lane q.lane).lastBit q.bits).1 != 128 then q.x
      else (s.lane q.lane).lastX) = q.x := by
    split
    · rfl
    · next hn =>
      rcases h with h | h
      · exact absurd (by simp [hx, h]) hn
      · exact congrArg Prod.fst h
  unfold State.latched Lane.sample State.scaled
  dsimp only
  rw [hlast]

/-- The samples of an F-frame latched one after the other. -/
theorem State.latchLanes_scaled {s : State} {q : LaneSample} {l : List LaneSample} (hq : q ∈ l)
    (hsole : ∀ p ∈ l, p.lane = q.lane → p = q) (hm : (s.laneCount ≤ q.lane || s.lanesMute) = false) (hx : plausible q.x = true)
    (h : (bitFrame (s.lane q.lane).bitRun (s.lane q.lane).lastBit q.bits).1 ≠ 128) :
    ((each l State.latchLane s).lane q.lane).sample = s.scaled q := by
  have hfold : ∀ (l : List LaneSample), (∀ p ∈ l, p.lane = q.lane → p = q) → ∀ t : State, Drives t s →
      (∀ j, j = 4 ∨ j = 5 ∨ j = 6 → t.obj (0x2100 + q.lane) j = s.obj (0x2100 + q.lane) j) →
      (t.lane q.lane).sample = s.scaled q ∨ (q ∈ l ∧ t.lane q.lane = s.lane q.lane) →
      ((each l State.latchLane t).lane q.lane).sample = s.scaled q := by
    intro l
    induction l with
    | nil => exact fun _ t _ _ ht => ht.resolve_right fun h => List.not_mem_nil h.1
    | cons p rest ih =>
      intro hl t hd ho ht
      rw [each_cons]
      have hd' : Drives (t.latchLane p) s := (t.latchLane_drives p).trans hd
      have ho' : ∀ j, j = 4 ∨ j = 5 ∨ j = 6 → (t.latchLane p).obj (0x2100 + q.lane) j = s.obj (0x2100 + q.lane) j := fun j hj =>
        (t.obj_latchLane p hj).trans (ho j hj)
      refine ih (fun p hp => hl p (List.mem_cons_of_mem _ hp)) _ hd' ho' ?_
      by_cases hlane : p.lane = q.lane
      · obtain rfl := hl p List.mem_cons_self hlane
        have hscaled : t.scaled p = s.scaled p := by
          unfold State.scaled State.obj16
          rw [ho 4 (by decide), ho 5 (by decide), ho 6 (by decide)]
        have hmute : (t.laneCount ≤ p.lane || t.lanesMute : Bool) = false := by
          unfold Drives at hd
          rw [hd]
          exact hm
        refine Or.inl ((State.latchLane_scaled hmute hx ?_).trans hscaled)
        rcases ht with ht | ht
        · exact Or.inr (ht.trans hscaled.symm)
        · rw [ht.2]
          exact Or.inl h
      · rw [t.latchLane_other fun e => hlane e.symm]
        exact ht.imp_right fun hx => ⟨(List.mem_cons.mp hx.1).resolve_left fun e => hlane (e ▸ rfl), hx.2⟩
  exact hfold l hsole s (Drives.refl s) (fun _ _ => rfl) (Or.inr ⟨hq, rfl⟩)

/-! #### What follows the samples -/

section
variable {P : Nat → Prop}

theorem Unread.setLane (s : State) (n : Nat) (v : Lane) (h : v.sample = (s.lane n).sample) : Unread P (s.setLane n v) s where
  paced := Paced.of_eq
  read := fun _ _ => rfl
  sample := fun k => by
    rw [State.lane_setLane]
    split
    · next e => rw [e]; exact h
    · rfl
  budget := rfl
  dither := rfl

theorem Unread.modLane (s : State) (n : Nat) (f : Lane → Lane) (h : ∀ l, (f l).sample = l.sample) : Unread P (s.modLane n f) s :=
  Unread.setLane s n _ (h _)

theorem Unread.modRail (s : State) (r : Nat) (f : Rail → Rail) : Unread P (s.modRail r f) s := Unread.of_eq

theorem State.abortShed_unread (s : State) (r : Nat) : Unread P (s.abortShed r) s := by
  unfold State.abortShed
  exact Unread.ite Unread.of_eq Unread.of_eq

theorem State.addLane_unread (s : State) (n d : Nat) : Unread P (s.addLane n d) s := by
  unfold State.addLane
  extract_lets l s1
  have h1 : Unread P s1 s := by
    show Unread P (s.wakeLane n false d) s
    unfold State.wakeLane
    exact Unread.ite (Unread.setLane s n _ rfl) (Unread.refl s)
  refine Unread.ite (Unread.refl s) (Unread.trans (Unread.modLane s1 n _ fun l => ?_) h1)
  rfl

theorem State.raisePlan_unread (s : State) (r count d : Nat) : Unread P (s.raisePlan r count d) s :=
  (Unread.each (fun t k => t.addLane_unread k d) _ _).trans Unread.of_eq

theorem State.captureEvent_unread (s : State) (a b : Nat) : Unread P (s.captureEvent a b) s := by
  rw [State.captureEvent_capture]
  exact Unread.of_eq

theorem State.latchRail_unread (s : State) (taps : List TapSample) (r : Nat) : Unread P (s.latchRail taps r) s := by
  unfold State.latchRail
  extract_lets l sum s1 s2
  have h1 : Unread P s1 s := Unread.of_eq
  have h2 : Unread P s2 s := by
    show Unread P (match (s1.rail r).low with
      | some low => s1.sawLow r low
      | none => s1) s
    split
    · exact Unread.trans (b := s1) Unread.of_eq h1
    · exact h1
  refine (Unread.each (fun t q => ?_) _ s2).trans h2
  unfold State.judgeSense
  refine Unread.ite Unread.of_eq (Unread.ite (Unread.ite Unread.of_eq ?_) Unread.of_eq)
  exact (State.transient_unread _ _).trans Unread.of_eq

theorem State.vminCheck_unread (s : State) (r : Nat) : Unread P (s.vminCheck r) s := by
  refine Unread.each (fun t k => ?_) _ s
  exact Unread.ite ((State.dEvent_unread _ 53).trans Unread.of_eq) (Unread.refl t)

theorem State.avsTick_unread (s : State) (r : Nat) : Unread P (s.avsTick r) s := by
  unfold State.avsTick
  extract_lets s1
  have h1 : Unread P s1 s := Unread.ite Unread.of_eq (Unread.refl s)
  exact Unread.ite h1 (Unread.trans (b := s1) Unread.of_eq h1)

theorem State.railLanesDown_unread (s : State) (r : Nat) : Unread P (s.railLanesDown r) s := by
  refine Unread.each (fun t n => ?_) _ s
  exact Unread.setLane t n _ (Lane.sample_down _)

theorem State.setpointTick_unread (s : State) (r : Nat) : Unread P (s.setpointTick r) s := by
  unfold State.setpointTick
  dsimp only
  split
  · exact Unread.refl s
  · exact Unread.refl s
  · exact Unread.of_eq
  · exact Unread.ite Unread.of_eq Unread.of_eq
  · exact Unread.ite ((State.railLanesDown_unread _ r).trans Unread.of_eq) Unread.of_eq

theorem Lane.sample_retime (l : Lane) (t w m : Nat) : (l.retime t w m).sample = l.sample := by
  unfold Lane.retime
  split
  · rfl
  · split <;> rfl

theorem Lane.sample_endPulse (l : Lane) (t toff : Nat) : (l.endPulse t toff).sample = l.sample := by
  unfold Lane.endPulse
  split <;> rfl

theorem State.takeDuty_unread (s : State) (n : Nat) : Unread P (s.takeDuty n) s := by
  unfold State.takeDuty
  exact Unread.ite (Unread.setLane s n _ (Lane.sample_retime _ _ _ _)) (Unread.refl s)

theorem State.startLane_unread (s : State) (n : Nat) : Unread P (s.startLane n) s := by
  unfold State.startLane
  dsimp only
  split
  · refine (State.takeDuty_unread _ n).trans (Unread.trans (Unread.modLane _ n _ fun l => ?_) ?_)
    · rfl
    · exact (Unread.modRail _ _ _).trans (Unread.setLane s n _ rfl)
  · exact (State.takeDuty_unread _ n).trans (Unread.setLane s n _ rfl)

theorem State.loadStep_unread (s : State) (r : Nat) : Unread P (s.loadStep r) s := by
  unfold State.loadStep
  extract_lets s1 s2
  have h1 : Unread P s1 s := (State.abortShed_unread _ r).trans (s.bump_unread _ _)
  exact (s2.raisePlan_unread _ _ _).trans (Unread.trans (b := s1) Unread.of_eq h1)

theorem State.currentTick_unread (s : State) (r : Nat) : Unread P (s.currentTick r) s := by
  unfold State.currentTick
  extract_lets i prev s1 step
  have h1 : Unread P s1 s := Unread.of_eq
  exact Unread.ite h1 (Unread.ite (Unread.trans (b := s1) Unread.of_eq h1) ((s1.loadStep_unread r).trans h1))

theorem State.markLane_unread (s : State) (n : Nat) : Unread P (s.markLane n) s := by
  unfold State.markLane
  extract_lets r peak s1
  have h1 : Unread P s1 s := Unread.ite (Unread.setLane s n _ (Lane.sample_endPulse _ _ _)) (Unread.refl s)
  refine Unread.ite h1 (Unread.trans (Unread.modLane s1 n _ fun l => ?_) h1)
  rfl

theorem State.applyCommit_unread (s : State) (i : Nat) : Unread P (s.applyCommit i) s := by
  unfold State.applyCommit
  exact Unread.ite (Unread.refl s) (Unread.ite Unread.of_eq Unread.of_eq)

theorem State.injectorTick_unread (s : State) (volt : Bool) : Unread P (s.injectorTick volt) s := by
  unfold State.injectorTick
  refine Unread.ite (Unread.refl s) (Unread.ite Unread.of_eq (Unread.ite (Unread.refl s) (Unread.ite Unread.of_eq ?_)))
  exact Unread.ite Unread.of_eq Unread.of_eq

theorem State.waitTick_unread (s : State) : Unread P s.waitTick s := by
  rw [s.waitTick_waits.1]
  exact Unread.of_eq

theorem State.fireTrigger_unread (s : State) (r : Nat) : Unread P (s.fireTrigger r) s := by
  unfold State.fireTrigger
  extract_lets v was s1 s2 s3 s4 s5
  have h2 : Unread P s2 s := Unread.of_eq
  have h5 : Unread P s5 s := (State.captureEvent_unread _ _ _).trans ((State.raisePlan_unread _ _ _ _).trans
    ((State.abortShed_unread _ _).trans h2))
  refine Unread.ite (Unread.ite Unread.of_eq Unread.of_eq) (Unread.ite (Unread.ite ?_ h5) (Unread.refl s))
  exact (State.trigger_unread _ _ _ _ _ _).trans h5

theorem State.deepEvent_unread (s : State) (d level : Nat) : Unread P (s.deepEvent d level) s := by
  unfold State.deepEvent
  extract_lets r w1 w2 s1 s2
  have h1 : Unread P s1 s := Unread.ite Unread.of_eq Unread.of_eq
  exact (State.captureEvent_unread _ _ _).trans ((State.openWindow_unread _ _ _ _).trans h1)

theorem State.severeEvent_unread (s : State) (d : Nat) : Unread P (s.severeEvent d) s := by
  unfold State.severeEvent
  extract_lets s1 s2
  have h2 : Unread P s2 s := (State.fireTrigger_unread _ _).trans Unread.of_eq
  exact Unread.ite ((State.trigger_unread _ _ _ _ _ _).trans h2) h2

theorem State.indicate_unread (s : State) (d level : Nat) : Unread P (s.indicate d level) s := by
  unfold State.indicate
  split
  · exact Unread.refl s
  · extract_lets now v old stretch s1 s2 s3
    have h2 : Unread P s2 s := Unread.of_eq
    have h3 : Unread P s3 s := Unread.ite ((State.deepEvent_unread _ _ _).trans h2) h2
    exact Unread.ite ((State.severeEvent_unread _ _).trans h3) h3

theorem State.fastLate_unread (s : State) (d : Nat) : Unread P (s.fastLate d) s := by
  refine Unread.ite ?_ (Unread.refl s)
  unfold State.fastOnly
  exact Unread.ite (Unread.refl s) ((State.indicate_unread _ _ _).trans Unread.of_eq)

theorem State.compareGroup_unread (s : State) (g : Nat) : Unread P (s.compareGroup g) s := by
  refine Unread.each (fun t k => ?_) _ s
  exact Unread.of_eq

theorem State.droopFrame_unread (s : State) : Unread P s.droopFrame s := by
  unfold State.droopFrame
  extract_lets s1 s2 s3
  have h1 : Unread P s1 s := Unread.each State.fastLate_unread _ s
  have h2 : Unread P s2 s1 := by
    refine Unread.each (fun t g => ?_) _ s1
    exact Unread.trans (b := t.compareGroup g) Unread.of_eq (t.compareGroup_unread g)
  exact Unread.trans (b := s2) Unread.of_eq (h2.trans h1)

/-- The F-frame begins: its tick and the phase counter (02 R34, R46). -/
def State.fFrameBegun (s : State) : State :=
  let m := s.tb.moved + s.tb.slewStep
  let t := s.tb.fStart + 168 + (m / 16 - s.tb.moved / 16)
  let s := s.atTime t.toNat
  { s with tb := { s.tb with fStart := t.toNat, moved := m, phase := s.tb.phase + 4, slewLeft := s.tb.slewLeft - 1 } }

theorem State.fFrame_unread (s : State) (lanes : List LaneSample) (taps : List TapSample) :
    Unread P (s.fFrame lanes taps) (each lanes State.latchLane s.fFrameBegun) := by
  unfold State.fFrame
  extract_lets m t s1 w s2 s3 s4 s5 s6 s7 s8
  have h4 : Unread P s4 s3 := by
    refine Unread.each (fun u r => ?_) _ s3
    exact (State.setpointTick_unread _ r).trans ((State.avsTick_unread _ r).trans ((State.vminCheck_unread _ r).trans
      (Unread.trans (b := u.latchRail taps r) Unread.of_eq (u.latchRail_unread taps r))))
  have h5 : Unread P s5 s4 := by
    refine Unread.each (fun u r => ?_) _ s4
    have hu : Unread P (each (u.railLanes r) State.startLane u) u := Unread.each State.startLane_unread _ u
    have hc := (State.currentTick_unread (P := P) _ r).trans hu
    exact (Unread.each State.markLane_unread _ _).trans ((Unread.ite (Unread.modRail _ _ _) (Unread.refl _)).trans hc)
  have h6 : Unread P s6 s5 := Unread.each State.applyCommit_unread _ s5
  have h7 : Unread P s7 s6 := s6.injectorTick_unread true
  have h8 : Unread P s8 s7 := Unread.ite s7.waitTick_unread (Unread.refl s7)
  exact s8.droopFrame_unread.trans (h8.trans (h7.trans (h6.trans (h5.trans h4))))

end

theorem Drives.paced {t s : State} (h : Drives t s) : Paced t s := Paced.of_spares h.spares

/-- An F-frame begins, and a plausible sample gives its lane's current. -/
theorem State.fFrame_lands (s : State) (lanes : List LaneSample) (taps : List TapSample) :
    Paced (s.fFrame lanes taps) s.fFrameBegun ∧ ∀ q ∈ lanes, (∀ p ∈ lanes, p.lane = q.lane → p = q) → q.lane < s.laneCount →
      plausible q.x = true → (bitFrame (s.lane q.lane).bitRun (s.lane q.lane).lastBit q.bits).1 ≠ 128 →
      (∀ u, s.tb.plAt = some u → u + 504 < s.fFrameBegun.tb.now) → ((s.fFrame lanes taps).lane q.lane).sample = s.scaled q := by
  have hrest := s.fFrame_unread (P := fun _ => False) lanes taps
  have hlatch : Drives (each lanes State.latchLane s.fFrameBegun) s.fFrameBegun := Drives.each State.latchLane_drives _ _
  refine ⟨hrest.paced.trans hlatch.paced, fun q hq hsole hlane hx hrun hpl => (hrest.sample q.lane).trans ?_⟩
  have hmute : (s.fFrameBegun.laneCount ≤ q.lane || s.fFrameBegun.lanesMute : Bool) = false := by
    have hcount : s.fFrameBegun.laneCount = s.laneCount := rfl
    have hpl' : s.fFrameBegun.lanesMute = false := by
      have hat : s.fFrameBegun.tb.plAt = s.tb.plAt := rfl
      unfold State.lanesMute
      rw [hat]
      split
      · next u hu => exact decide_eq_false (by have := hpl u hu; omega)
      · rfl
    rw [hpl', hcount, Bool.or_false]
    exact decide_eq_false (by omega)
  exact State.latchLanes_scaled (s := s.fFrameBegun) hq hsole hmute hx hrun


/-! ### O10: the F-frame commit (04 R85 to R89, R99, 08 R211 to R216) -/

/-! #### In a cycle that collects its triggers -/

theorem State.trigger_gathers {s : State} (h : s.gov.gathered.isSome = true) (n k i c pa : Nat) : ∃ l,
    s.trigger n k i c pa = { s with gov := { s.gov with gathered := some l } } := by
  obtain ⟨l, hl⟩ := Option.isSome_iff_exists.mp h
  unfold State.trigger
  rw [hl]
  exact ⟨_, rfl⟩

theorem State.dEvent_gathers {s : State} (h : s.gov.gathered.isSome = true) (n : Nat) : (s.dEvent n).gov.gathered.isSome = true ∧
    s.dEvent n = { s with gov := (s.dEvent n).gov, od := (s.dEvent n).od, pins := (s.dEvent n).pins } := by
  unfold State.dEvent State.dEventsNow
  split
  · obtain ⟨l, hl⟩ := Option.isSome_iff_exists.mp h
    have hraise : (s.dEvents n 1).1.raise (s.dEvents n 1).2 = { (s.dEvents n 1).1 with
        gov := { (s.dEvents n 1).1.gov with gathered := some (l ++ (s.dEvents n 1).2) } } := by
      unfold State.raise
      rw [show (s.dEvents n 1).1.gov.gathered = some l from hl]
    rw [hraise]
    exact ⟨rfl, rfl⟩
  · exact ⟨h, rfl⟩

theorem State.raiseCause_gathers {s : State} (h : s.gov.gathered.isSome = true) (n k i c pa : Nat) :
    (s.raiseCause n k i c pa).gov.gathered.isSome = true ∧
      s.raiseCause n k i c pa = { s with gov := (s.raiseCause n k i c pa).gov, pins := (s.raiseCause n k i c pa).pins } := by
  unfold State.raiseCause
  split
  · exact ⟨h, rfl⟩
  · split
    · obtain ⟨l, hl⟩ := State.trigger_gathers (s := s.modPin n fun p => { p with held := p.held ++ [(k, i)] }) h n k i c pa
      rw [hl]
      exact ⟨rfl, rfl⟩
    · obtain ⟨l, hl⟩ := State.trigger_gathers h n k i c pa
      rw [hl]
      exact ⟨rfl, rfl⟩

/-! #### What one rail's law leaves of another's -/

/-- What a voltage law reads of its rail. -/
def Rail.lawInput (v : Rail) : Nat × Nat × RailSeq × Bool × Bool × Bool × Nat :=
  (v.die, v.setpoint, v.seq, v.clamp, v.inFire, v.dieValid, v.code)

/-- What a law has taken and given. -/
def Law.work (v : Law) : Int × Int × Int := (v.meas, v.tgt, v.out)

/-- Objects that a voltage law reads: rails, lanes and the injector. -/
def lawReads (i j : Nat) : Bool := (0x2100 ≤ i && i < 0x2300 && j < 0x10) || (i == 0x4001 && j < 3)

theorem lawReads_range {i j : Nat} (h : lawReads i j = true) : (0x2100 ≤ i ∧ i < 0x2300 ∧ j < 0x10) ∨ (i = 0x4001 ∧ j < 3) := by
  unfold lawReads at h
  simp only [Bool.and_eq_true, Bool.or_eq_true, beq_iff_eq, decide_eq_true_eq] at h
  omega

theorem lawReads_lt {i j : Nat} (h : lawReads i j = true) : j < 256 := by
  rcases lawReads_range h with h | h <;> omega

theorem told_lawReads {i j : Nat} (h : lawReads i j = true) : told i j = false := by
  have hr := lawReads_range h
  unfold told
  simp
  omega

/-- Triggers are still collected, the frames stand, and what the law of rail `k` reads and has given stays. -/
structure Governs (k : Nat) (t s : State) : Prop where
  gathers : t.gov.gathered.isSome = true
  paced : Paced t s
  law : (t.law k).work = (s.law k).work
  rail : (t.rail k).lawInput = (s.rail k).lawInput
  x : t.injector.x = s.injector.x
  cfg : t.cfg = s.cfg
  desc : t.desc = s.desc
  obj : ∀ i j, lawReads i j = true → t.obj i j = s.obj i j

section
variable {k : Nat}

theorem Governs.refl {s : State} (h : s.gov.gathered.isSome = true) : Governs k s s :=
  ⟨h, Paced.refl s, rfl, rfl, rfl, rfl, rfl, fun _ _ _ => rfl⟩

theorem Governs.trans {a b c : State} (h : Governs k a b) (g : Governs k b c) : Governs k a c :=
  ⟨h.gathers, h.paced.trans g.paced, h.law.trans g.law, h.rail.trans g.rail, h.x.trans g.x, h.cfg.trans g.cfg,
    h.desc.trans g.desc, fun i j hr => (h.obj i j hr).trans (g.obj i j hr)⟩

/-- A step of the units that no law reads. -/
theorem Governs.of_eq {t s : State} (h : s.gov.gathered.isSome = true) (ho : ∀ i j, lawReads i j = true → t.obj i j = s.obj i j)
    (hg : t.gov = s.gov := by rfl) (ht : t.tb = s.tb := by rfl) (hl : t.laws = s.laws := by rfl) (hr : t.rails = s.rails := by rfl)
    (hx : t.injector.x = s.injector.x := by rfl) (hc : t.cfg = s.cfg := by rfl)
    (hd : t.desc = s.desc := by rfl) : Governs k t s where
  gathers := by rw [hg]; exact h
  paced := Paced.of_eq ht
  law := by unfold State.law; rw [hl]
  rail := by unfold State.rail; rw [hr]
  x := hx
  cfg := hc
  desc := hd
  obj := ho

theorem Governs.setLaw {s : State} (h : s.gov.gathered.isSome = true) (r : Nat) (v : Law) (hv : r = k → v.work = (s.law r).work) :
    Governs k (s.setLaw r v) s where
  gathers := h
  paced := Paced.of_eq
  law := by
    rw [State.law_setLaw]
    split
    · next e => subst e; exact hv rfl
    · rfl
  rail := rfl
  x := rfl
  cfg := rfl
  desc := rfl
  obj := fun _ _ _ => State.obj_same

theorem Governs.setRail {s : State} (h : s.gov.gathered.isSome = true) (r : Nat) (v : Rail)
    (hv : r = k → v.lawInput = (s.rail r).lawInput) : Governs k (s.setRail r v) s where
  gathers := h
  paced := Paced.of_eq
  law := rfl
  rail := by
    rw [State.rail_setRail]
    split
    · next e => subst e; exact hv rfl
    · rfl
  x := rfl
  cfg := rfl
  desc := rfl
  obj := fun _ _ _ => State.obj_same

theorem Governs.bump {s : State} (h : s.gov.gathered.isSome = true) {a b : Nat} (hb : b < 256) (hd : defaultReads a b = false)
    (hr : lawReads a b = false) : Governs k (s.bump a b) s :=
  Governs.of_eq h fun i j hij => by
    refine s.obj_setObj_other _ (lawReads_lt hij) hb hd ?_
    by_contra hn
    rw [not_or, not_not, not_not] at hn
    rw [← hn.1, ← hn.2, hij] at hr
    exact absurd hr (by decide)

theorem Governs.each_of {α : Type} {f : State → α → State} {l : List α}
    (h : ∀ x ∈ l, ∀ s : State, s.gov.gathered.isSome = true → Governs k (f s x) s) {s : State} (hs : s.gov.gathered.isSome = true) :
    Governs k (each l f s) s :=
  each_keeps_of (fun t => Governs k t s) (fun x hx t ht => (h x hx t ht.gathers).trans ht) s (Governs.refl hs)

theorem State.dEvent_governs {s : State} (h : s.gov.gathered.isSome = true) (n : Nat) : Governs k (s.dEvent n) s := by
  obtain ⟨hgather, hframe⟩ := State.dEvent_gathers h n
  refine ⟨hgather, ?_, ?_, ?_, ?_, ?_, ?_, fun i j hij => ?_⟩
  · exact Paced.of_eq (by rw [hframe])
  · unfold State.law; rw [hframe]
  · unfold State.rail; rw [hframe]
  · rw [hframe]
  · rw [hframe]
  · rw [hframe]
  · exact (s.dEvent_tells n).obj i j (lawReads_lt hij) (told_lawReads hij)

theorem State.raiseCause_governs {s : State} (h : s.gov.gathered.isSome = true) (n q i c pa : Nat) :
    Governs k (s.raiseCause n q i c pa) s := by
  obtain ⟨hgather, hframe⟩ := State.raiseCause_gathers h n q i c pa
  refine ⟨hgather, ?_, ?_, ?_, ?_, ?_, ?_, fun i j hij => ?_⟩
  · exact Paced.of_eq (by rw [hframe])
  · unfold State.law; rw [hframe]
  · unfold State.rail; rw [hframe]
  · rw [hframe]
  · rw [hframe]
  · rw [hframe]
  · rw [hframe]
    exact State.obj_same

theorem State.captureEvent_governs {s : State} (h : s.gov.gathered.isSome = true) (a b : Nat) : Governs k (s.captureEvent a b) s := by
  rw [State.captureEvent_capture]
  exact Governs.of_eq h fun _ _ _ => State.obj_same

theorem State.lawOverrun_governs {s : State} (h : s.gov.gathered.isSome = true) (i : Nat) {sub : Nat} (hs : sub < 256) :
    Governs k (s.lawOverrun i sub) s := by
  have h1 : Governs k (s.bump 0x1202 sub) s := Governs.bump h hs (by simp [defaultReads]) (by simp [lawReads])
  have h2 := (State.dEvent_governs h1.gathers 2).trans h1
  have h3 : Governs k ((s.overrun sub).bump (0x4100 + i) 0x14) s :=
    (Governs.bump h2.gathers (by decide) (by simp [defaultReads]) (by simp [lawReads])).trans h2
  exact (State.captureEvent_governs h3.gathers 5 0).trans h3

theorem State.endInjection_governs {s : State} (h : s.gov.gathered.isSome = true) (st : Nat) : Governs k (s.endInjection st) s := by
  unfold State.endInjection
  split
  · let w : State := { s with injector := { s.injector with status := st, stopping := true } }
    have hsig : w.signal 0x0C5 = _ := State.signal_noted w 0x0C5
    have hobj : ∀ i j, lawReads i j = true → (w.signal 0x0C5).obj i j = s.obj i j := fun i j hij =>
      ((w.signal_tells 0x0C5).obj i j (lawReads_lt hij) (told_lawReads hij)).trans State.obj_same
    refine Governs.of_eq h hobj ?_ ?_ ?_ ?_ ?_ ?_ ?_ <;> rw [hsig]
  · exact Governs.refl h

theorem State.repairState_governs {s : State} (h : s.gov.gathered.isSome = true) {i : Nat} (hi : i < 8 ∨ (40 ≤ i ∧ i < 136)) (rk : Int) :
    Governs k (s.repairState i rk) s := by
  unfold State.repairState
  split
  · extract_lets s1 s2 s3
    have h1 : Governs k s1 s := State.dEvent_governs h 6
    have h2 : Governs k s2 s := (Governs.of_eq h1.gathers fun _ _ _ => State.obj_same).trans h1
    have h3 : Governs k s3 s := (Governs.bump h2.gathers (by decide) (by decide) (by decide)).trans h2
    rcases hi with hi | ⟨hlo, hhi⟩
    · rw [if_pos hi]
      refine Governs.trans (Governs.setRail h3.gathers i _ fun _ => ?_) h3
      rfl
    · rw [if_neg (by omega), if_neg (by omega), if_pos hhi]
      exact (Governs.of_eq h3.gathers fun _ _ _ => State.obj_same).trans h3
  · exact Governs.refl h

/-- What a law has taken. -/
def Law.aim (v : Law) : Int × Int := (v.meas, v.tgt)

theorem State.dEvent_laws (s : State) (n : Nat) : (s.dEvent n).laws = s.laws := by
  have h : Spares (s.dEvent n) s := s.dEvent_spares n
  simp only [h]

theorem State.law_of_laws {t s : State} (h : t.laws = s.laws) (i : Nat) : t.law i = s.law i := by
  unfold State.law
  rw [h]

theorem State.readSet_governs {s : State} (h : s.gov.gathered.isSome = true) (i : Nat) : Governs k (s.readSet i).1 s := by
  unfold State.readSet
  extract_lets v s1 s2 s3 s4
  have h1 : Governs k s1 s := State.dEvent_governs h 6
  have hl1 : s1.laws = s.laws := s.dEvent_laws 6
  split
  · exact Governs.refl h
  split
  · have h2 : Governs k s2 s := (Governs.of_eq h1.gathers fun _ _ _ => State.obj_same).trans h1
    have h3 := (Governs.setLaw (k := k) h2.gathers i { v with active := v.shadow } fun _ => by
      rw [State.law_of_laws (show s2.laws = s.laws from hl1)]; rfl).trans h2
    have h4 := (Governs.bump h3.gathers (a := 0x4000) (b := 3) (by decide) (by decide) (by decide)).trans h3
    exact (Governs.bump h4.gathers (by decide) (by simp [defaultReads]) (by simp [lawReads])).trans h4
  · have h2 : Governs k (s1.dEvent 6) s := (State.dEvent_governs h1.gathers 6).trans h1
    have h3' := (Governs.setLaw (k := k) h2.gathers i { v with lost := true } fun _ => by
      rw [State.law_of_laws ((s1.dEvent_laws 6).trans hl1)]; rfl).trans h2
    have h3 : Governs k s3 s := (Governs.bump h3'.gathers (by decide) (by decide) (by decide)).trans h3'
    have h4 : Governs k s4 s := by
      show Governs k (if s3.obj 0x4001 1 = i then s3.endInjection 5 else s3) s
      split
      · exact (State.endInjection_governs h3.gathers 5).trans h3
      · exact h3
    exact (State.raiseCause_governs h4.gathers _ _ _ _ _).trans h4

theorem State.overrun_governs {s : State} (h : s.gov.gathered.isSome = true) {sub : Nat} (hs : sub < 256) :
    Governs k (s.overrun sub) s := by
  have h1 : Governs k (s.bump 0x1202 sub) s := Governs.bump h hs (by simp [defaultReads]) (by simp [lawReads])
  exact (State.dEvent_governs h1.gathers 2).trans h1

/-- The law of a rail with its measured value and target taken (08 R201). -/
def State.aimed (s : State) (r : Nat) : State :=
  s.modLaw r (fun l => { l with meas := ((s.rail r).die : Int), tgt := s.lawSetpoint r })

/-- The result of one evaluation. -/
def Law.given (e u : Int) (l : Law) : Law := { l with err := e, shown := e, out := u }

/-- What the voltage law of a rail keeps: a property of the aimed state that every step of no law's work and the result
keep. -/
theorem State.voltageLaw_carries {P : State → Prop} {r : Nat} (hr : r < 8) (hgather : ∀ t, P t → t.gov.gathered.isSome = true)
    (hstep : ∀ t u : State, P t → (∀ k, Governs k u t) → P u) (hgive : ∀ (t : State) (e u : Int), P t → P (t.modLaw r (Law.given e u)))
    {s : State} (h : P (s.aimed r)) (late : Bool) : P (s.voltageLaw r late).1 := by
  have hrail : ∀ (t : State) (v : Rail), v.lawInput = (t.rail r).lawInput → P t → P (t.setRail r v) := fun t v hv ht =>
    hstep t _ ht fun _ => Governs.setRail (hgather t ht) r v fun _ => hv
  have hover : ∀ t : State, P t → P ((t.lawOverrun r 1).modRail r fun v => { v with overruns := v.overruns + 1 }) := fun t ht => by
    refine hrail _ _ ?_ (hstep t _ ht fun _ => State.lawOverrun_governs (hgather t ht) r (by decide))
    rfl
  unfold State.voltageLaw
  extract_lets sp dmax s1 u s2 q s3
  have h1 : P s1 := h
  have h3 : P s3 := by
    have hrep : P (s1.repairState r 0) := hstep s1 _ h1 fun _ => State.repairState_governs (hgather s1 h1) (Or.inl hr) 0
    exact hstep _ _ hrep fun _ => State.readSet_governs (hgather _ hrep) r
  split
  · dsimp only
    exact hrail s1 _ rfl h1
  · dsimp only
    exact hrail s1 _ rfl h1
  · dsimp only
    exact hrail s1 _ rfl h1
  · split
    · dsimp only
      exact hover s1 h1
    · dsimp only
      exact hrail s2 _ rfl (hgive s1 0 u h1)
  · split
    · dsimp only
      refine hgive _ _ _ ?_
      have hset : ∀ v : Rail, v.lawInput = (s3.rail r).lawInput → P (s3.setRail r v) := fun v hv => hrail s3 v hv h3
      split
      · refine hstep _ _ (hset _ ?_) fun _ => Governs.bump (hgather _ (hset _ ?_)) (by decide) (by decide) (by decide) <;> rfl
      · refine hset _ ?_
        rfl
    · dsimp only
      exact hover s3 h3

/-- The voltage law of another rail. -/
theorem State.voltageLaw_governs {s : State} (h : s.gov.gathered.isSome = true) {r : Nat} (hr : r < 8) (hrk : r ≠ k) (late : Bool) :
    Governs k (s.voltageLaw r late).1 s := by
  have hlaw : ∀ (t : State) (f : Law → Law), Governs k t s → Governs k (t.modLaw r f) s := fun t f ht =>
    (Governs.setLaw ht.gathers r _ fun e => absurd e hrk).trans ht
  exact State.voltageLaw_carries (P := fun t => Governs k t s) hr (fun _ ht => ht.gathers) (fun _ _ ht hu => (hu k).trans ht)
    (fun t e u ht => hlaw t _ ht) (hlaw s _ (Governs.refl h)) late

/-- Triggers are still collected, the frames stand, and law `k` has taken a measured value and a target. -/
structure Aims (k : Nat) (a : Int × Int) (t s : State) : Prop where
  gathers : t.gov.gathered.isSome = true
  paced : Paced t s
  aim : (t.law k).aim = a

theorem Governs.aims {a : Int × Int} {u t s : State} (h : Governs k u t) (g : Aims k a t s) : Aims k a u s :=
  ⟨h.gathers, h.paced.trans g.paced, (congrArg (fun w : Int × Int × Int => (w.1, w.2.1)) h.law).trans g.aim⟩

/-- The voltage law of the rail takes its die voltage and its setpoint. -/
theorem State.voltageLaw_aims {s : State} (h : s.gov.gathered.isSome = true) (hk : k < 8) (late : Bool) :
    Aims k ((s.rail k).die, s.lawSetpoint k) (s.voltageLaw k late).1 s := by
  refine State.voltageLaw_carries (P := fun t => Aims k ((s.rail k).die, s.lawSetpoint k) t s) hk (fun _ ht => ht.gathers)
    (fun _ _ ht hu => (hu k).aims ht) (fun t e u ht => ⟨ht.gathers, Paced.trans Paced.of_eq ht.paced, ?_⟩)
    ⟨h, Paced.of_eq, ?_⟩ late
  · exact (congrArg Law.aim ((State.law_setLaw _ _ _ _).trans (if_pos rfl))).trans ht.aim
  · exact congrArg Law.aim ((State.law_setLaw _ _ _ _).trans (if_pos rfl))

/-- In open loop the result is the feed-forward within the duty limits (R85). -/
theorem State.voltageLaw_openLoop {s : State} (h : s.lawMode k = .openLoop) :
    ((s.voltageLaw k false).1.law k).out =
      clampI (lawUff (s.lawSetpoint k) (s.railKff k)) 0 ((s.dutyMax k * 256 : Nat) : Int) := by
  have hmode : (s.aimed k).lawMode k = .openLoop := h
  unfold State.voltageLaw
  extract_lets sp dmax s1 u s2 q s3
  rw [show s1.lawMode k = .openLoop from hmode]
  have hout : ((s1.modLaw k (Law.given 0 u)).law k).out = u :=
    congrArg Law.out ((State.law_setLaw _ _ _ _).trans (if_pos rfl))
  exact hout

/-! #### What follows the law of a rail -/

theorem State.followVolt_governs {s : State} (h : s.gov.gathered.isSome = true) (r : Nat) : Governs k (s.followVolt r) s := by
  have hset : ∀ n, Governs k (s.modLaw r fun v => { v with feRun := n }) s := fun n => by
    refine Governs.setLaw h r _ fun _ => ?_
    rfl
  unfold State.followVolt
  split
  · exact Governs.refl h
  unfold State.followFrame
  split
  · exact hset 0
  split
  · exact Governs.refl h
  · refine Governs.setLaw h r _ fun _ => ?_
    rfl

theorem State.trimLane_governs {s : State} (h : s.gov.gathered.isSome = true) {n : Nat} (hk : k < 40) (hn : n < 96) (r : Nat)
    (irail : Int) (rsum : Nat) (hold : Bool) : Governs k (s.trimLane r irail rsum hold n) s := by
  unfold State.trimLane
  extract_lets s1 l rat tgt tacc s2
  have h1 : Governs k s1 s := State.repairState_governs h (by omega) 0
  split
  · exact h1
  · have h2 : Governs k s2 s := (Governs.of_eq h1.gathers fun _ _ _ => State.obj_same).trans h1
    exact (Governs.setLaw h2.gathers (40 + n) _ fun e => absurd e (by omega)).trans h2

theorem State.commitDuties_governs {s : State} (h : s.gov.gathered.isSome = true) (r : Nat) : Governs k (s.commitDuties r) s := by
  refine Governs.each_of (fun n _ t ht => ?_) h
  exact Governs.of_eq ht fun _ _ _ => State.obj_same

theorem State.abortShed_governs {s : State} (h : s.gov.gathered.isSome = true) {r : Nat} : Governs k (s.abortShed r) s := by
  have hset : ∀ v : Rail, v.lawInput = (s.rail r).lawInput → Governs k (s.setRail r v) s := fun v hv =>
    Governs.setRail h r v fun _ => hv
  unfold State.abortShed
  extract_lets v
  split
  · refine Governs.trans (Governs.bump (a := 0x2200 + r) (b := 0x24) (by exact h) (by decide) (by simp [defaultReads]) (by simp [lawReads]))
      (hset _ ?_)
    rfl
  · refine hset _ ?_
    rfl

theorem State.addLane_governs {s : State} (h : s.gov.gathered.isSome = true) (n d : Nat) : Governs k (s.addLane n d) s := by
  have hset : ∀ (t : State) (v : Lane), t.gov.gathered.isSome = true → Governs k (t.setLane n v) t := fun _ _ ht =>
    Governs.of_eq ht fun _ _ _ => State.obj_same
  have hwake : Governs k (s.wakeLane n false d) s := by
    unfold State.wakeLane
    extract_lets l
    split
    · exact hset s _ h
    · exact Governs.refl h
  unfold State.addLane
  extract_lets l s1
  split
  · exact Governs.refl h
  · exact (hset s1 _ hwake.gathers).trans hwake

theorem State.raisePlan_governs {s : State} (h : s.gov.gathered.isSome = true) (r count d : Nat) :
    Governs k (s.raisePlan r count d) s := by
  have hset : Governs k (s.setRail r { s.rail r with plan := max (s.rail r).plan count }) s := by
    refine Governs.setRail h r _ fun _ => ?_
    rfl
  exact (Governs.each_of (fun n _ t ht => State.addLane_governs ht n d) hset.gathers).trans hset

theorem State.levelAdd_governs {s : State} (h : s.gov.gathered.isSome = true) (r : Nat) : Governs k (s.levelAdd r) s := by
  unfold State.levelAdd
  extract_lets i add count adds s1
  split
  · have h1 : Governs k s1 s := by
      show Governs k (if (s.rail r).shed.isSome = true then s.abortShed r else s) s
      split
      · exact State.abortShed_governs h
      · exact Governs.refl h
    exact (State.raisePlan_governs h1.gathers r count 0).trans h1
  · exact Governs.refl h

theorem State.captureFrame_governs {s : State} (h : s.gov.gathered.isSome = true) (kind : Nat) : Governs k (s.captureFrame kind) s := by
  have hset : ∀ c, Governs k { s with capture := c } s := fun _ => Governs.of_eq h fun _ _ _ => State.obj_same
  unfold State.captureFrame
  extract_lets v next sample samples
  split
  · exact Governs.refl h
  split
  · exact hset _
  · exact hset _

/-! #### The commit of every rail -/

/-- What cycle 132 of an F-frame does for one rail. -/
def State.railCommit (s : State) (lateLaws : List Nat) (lateTrims : Bool) (r : Nat) : State :=
  let q := s.voltageLaw r (lateLaws.contains r)
  let s := q.1.followVolt r
  let act := (s.railLanes r).filter (fun n => (s.lane n).st == .active)
  let irail := (act.map (fun n => (s.lane n).current)).foldl (· + ·) 0
  let rsum := (act.map (fun n => s.obj (0x2100 + n) 7)).foldl (· + ·) 0
  let s := each act (fun s n => s.trimLane r irail rsum lateTrims n) s
  let s := if q.2 then s.commitDuties r else s
  s.levelAdd r

theorem State.laneCount_le (s : State) : s.laneCount ≤ 96 := by
  unfold State.laneCount Sys2Proof.Machine.laneCount
  split <;> decide

theorem State.railCommit_governs {s : State} (hk : k < 40) {lateLaws : List Nat} {lateTrims : Bool} {r : Nat}
    (h : (s.voltageLaw r (lateLaws.contains r)).1.gov.gathered.isSome = true) :
    Governs k (s.railCommit lateLaws lateTrims r) (s.voltageLaw r (lateLaws.contains r)).1 := by
  unfold State.railCommit
  extract_lets q s1 act irail rsum s2 s3
  have h1 : Governs k s1 q.1 := State.followVolt_governs h r
  have h2 : Governs k s2 q.1 := by
    refine Governs.trans (Governs.each_of (fun n hn t ht => State.trimLane_governs ht hk ?_ r irail rsum lateTrims) h1.gathers) h1
    have hlane := List.mem_range.mp (List.mem_of_mem_filter (List.mem_of_mem_filter hn))
    exact lt_of_lt_of_le hlane (State.laneCount_le s1)
  have h3 : Governs k s3 q.1 := by
    show Governs k (if q.2 = true then s2.commitDuties r else s2) q.1
    split
    · exact (State.commitDuties_governs h2.gathers r).trans h2
    · exact h2
  exact (State.levelAdd_governs h3.gathers r).trans h3

/-- What the setpoint of a law depends on. -/
theorem State.lawSetpoint_congr {t s : State} (ho : ∀ i j, lawReads i j = true → t.obj i j = s.obj i j)
    (h2 : t.obj (0x2200 + k) 2 = s.obj (0x2200 + k) 2) (h3 : t.obj (0x2200 + k) 3 = s.obj (0x2200 + k) 3)
    (hx : t.injector.x = s.injector.x) (hsp : (t.rail k).setpoint = (s.rail k).setpoint) : t.lawSetpoint k = s.lawSetpoint k := by
  unfold State.lawSetpoint State.injected
  rw [ho 0x4001 1 (by decide), ho 0x4001 2 (by decide), hx, h2, h3, hsp]

/-- What the law of a rail reads of the rail's object. -/
theorem Governs.railObj {t s : State} (h : Governs k t s) (hk : k < 8) {j : Nat} (hj : j < 0x10) :
    t.obj (0x2200 + k) j = s.obj (0x2200 + k) j :=
  h.obj _ _ (by unfold lawReads; simp; omega)

theorem Governs.laneObj {t s : State} (h : Governs k t s) {n j : Nat} (hn : n < 96) (hj : j < 0x10) :
    t.obj (0x2100 + n) j = s.obj (0x2100 + n) j :=
  h.obj _ _ (by unfold lawReads; simp; omega)

theorem Governs.lawSetpoint {t s : State} (h : Governs k t s) (hk : k < 8) : t.lawSetpoint k = s.lawSetpoint k :=
  State.lawSetpoint_congr h.obj (h.railObj hk (by decide)) (h.railObj hk (by decide)) h.x
    (congrArg (fun v : Nat × Nat × _ => v.2.1) h.rail)

theorem Governs.railKff {t s : State} (h : Governs k t s) (hk : k < 8) : t.railKff k = s.railKff k := by
  unfold State.railKff
  rw [h.railObj hk (by decide : 4 < 0x10)]

theorem Governs.lawMode {t s : State} (h : Governs k t s) : t.lawMode k = s.lawMode k := by
  have hin := h.rail
  unfold Rail.lawInput at hin
  simp only [Prod.mk.injEq] at hin
  obtain ⟨-, -, hseq, hclamp, hfire, hdie, -⟩ := hin
  unfold State.lawMode
  dsimp only
  rw [hseq, hclamp, hfire, hdie]

theorem Governs.dutyMax {t s : State} (h : Governs k t s) : t.dutyMax k = s.dutyMax k := by
  have hcode : (t.rail k).code = (s.rail k).code := congrArg (fun v : Nat × Nat × RailSeq × Bool × Bool × Bool × Nat =>
    v.2.2.2.2.2.2) h.rail
  have hcount : t.laneCount = s.laneCount := by
    unfold State.laneCount
    rw [h.cfg]
  have hlanes : t.railLanes k = s.railLanes k := by
    unfold State.railLanes
    rw [hcount]
    refine List.filter_congr fun n hn => ?_
    unfold State.laneRail
    rw [h.laneObj (lt_of_lt_of_le (List.mem_range.mp hn) s.laneCount_le) (by decide)]
  have hoff : (s.railLanes k).map (fun n => stepsOfNs (t.obj (0x2100 + n) 0x0B)) =
      (s.railLanes k).map (fun n => stepsOfNs (s.obj (0x2100 + n) 0x0B)) := by
    refine List.map_congr_left fun n hn => ?_
    rw [h.laneObj (lt_of_lt_of_le (List.mem_range.mp (List.mem_of_mem_filter hn)) s.laneCount_le) (by decide)]
  unfold State.dutyMax
  rw [hcode, hlanes, hoff]

/-- The law of rail `k` has taken its values and, in open loop and in time, given its feed-forward. -/
structure Commits (k : Nat) (late : Bool) (t s : State) : Prop where
  aims : Aims k ((s.rail k).die, s.lawSetpoint k) t s
  out : s.lawMode k = .openLoop → late = false →
    (t.law k).out = clampI (lawUff (s.lawSetpoint k) (s.railKff k)) 0 ((s.dutyMax k * 256 : Nat) : Int)

theorem Commits.keep {late : Bool} {u t s : State} (h : Commits k late t s) (g : Governs k u t) : Commits k late u s where
  aims := g.aims h.aims
  out := fun hm hl => (congrArg (fun v : Int × Int × Int => v.2.2) g.law).trans (h.out hm hl)

/-- The commit of the rail itself. -/
theorem State.railCommit_commits {t s : State} (h : Governs k t s) (hk : k < 8) (lateLaws : List Nat) (lateTrims : Bool) :
    Commits k (lateLaws.contains k) (t.railCommit lateLaws lateTrims k) s := by
  have hlaw := State.voltageLaw_aims h.gathers hk (lateLaws.contains k)
  have hdie : (t.rail k).die = (s.rail k).die := congrArg Prod.fst h.rail
  refine Commits.keep ⟨⟨hlaw.gathers, hlaw.paced.trans h.paced, ?_⟩, fun hm hl => ?_⟩ (State.railCommit_governs (by omega) hlaw.gathers)
  · rw [hlaw.aim, hdie, h.lawSetpoint hk]
  · rw [hl, State.voltageLaw_openLoop (h.lawMode.trans hm), h.lawSetpoint hk, h.railKff hk, h.dutyMax]

/-- The commits of other rails. -/
theorem State.railCommits_governs {s : State} (h : s.gov.gathered.isSome = true) {l : List Nat} (hl : ∀ r ∈ l, r < 8)
    (hk : k < 40) (hn : k ∉ l) (lateLaws : List Nat) (lateTrims : Bool) :
    Governs k (each l (fun s r => s.railCommit lateLaws lateTrims r) s) s := by
  refine Governs.each_of (fun r hr v hv => ?_) h
  have hne : r ≠ k := fun e => hn (e ▸ hr)
  have hlaw := State.voltageLaw_governs hv (hl r hr) hne (lateLaws.contains r)
  exact (State.railCommit_governs hk hlaw.gathers).trans hlaw

/-- The commits of the rails in use, one after the other. -/
theorem State.railCommits_commits {t s : State} (h : Governs k t s) {l : List Nat} (hl : ∀ r ∈ l, r < 8) (hk : k ∈ l)
    (hnodup : l.Nodup) (lateLaws : List Nat) (lateTrims : Bool) :
    Commits k (lateLaws.contains k) (each l (fun s r => s.railCommit lateLaws lateTrims r) t) s := by
  have hk8 : k < 40 := lt_trans (hl k hk) (by decide)
  obtain ⟨before, after, rfl⟩ := List.append_of_mem hk
  have hapart := List.nodup_append.mp hnodup
  have hbefore : k ∉ before := fun hm => hapart.2.2 k hm k List.mem_cons_self rfl
  have hafter : k ∉ after := (List.nodup_cons.mp hapart.2.1).1
  have hsplit : each (before ++ k :: after) (fun s r => s.railCommit lateLaws lateTrims r) t = _ := List.foldl_append
  rw [hsplit]
  have hfirst := (State.railCommits_governs h.gathers (fun r hr => hl r (List.mem_append_left _ hr)) hk8 hbefore lateLaws
    lateTrims).trans h
  have hown := State.railCommit_commits hfirst (hl k hk) lateLaws lateTrims
  exact hown.keep (State.railCommits_governs hown.aims.gathers
    (fun r hr => hl r (List.mem_append_right _ (List.mem_cons_of_mem _ hr))) hk8 hafter lateLaws lateTrims)

theorem Governs.railUsed {t s : State} (h : Governs k t s) (r : Nat) : t.railUsed r = s.railUsed r := by
  unfold State.railUsed State.railCount
  rw [h.cfg, h.desc]

end

/-- Cycle 132 of an F-frame, with its triggers collected. -/
theorem State.fFrameCommit_commits {s : State} (h : s.gov.gathered.isSome = true) (lateLaws : List Nat) (lateTrims : Bool) :
    Paced (s.fFrameCommit lateLaws lateTrims) (s.atTime (s.tb.fStart + 132)) ∧
      ∀ r, s.railUsed r = true → Commits r (lateLaws.contains r) (s.fFrameCommit lateLaws lateTrims)
        (s.atTime (s.tb.fStart + 132)) := by
  let s1 := s.atTime (s.tb.fStart + 132)
  let s2 := if lateTrims then (s1.overrun 2).captureEvent 5 0 else s1
  have hrun : s.fFrameCommit lateLaws lateTrims =
      (each s2.railsUsed (fun s r => s.railCommit lateLaws lateTrims r) s2).captureFrame 0 := rfl
  have h1 : s1.gov.gathered.isSome = true := h
  have h2 : ∀ k, Governs k s2 s1 := fun k => by
    show Governs k (if lateTrims = true then (s1.overrun 2).captureEvent 5 0 else s1) s1
    split
    · have hover : Governs k (s1.overrun 2) s1 := State.overrun_governs h1 (by decide)
      exact (State.captureEvent_governs hover.gathers 5 0).trans hover
    · exact Governs.refl h1
  rw [hrun]
  refine ⟨?_, fun r hr => ?_⟩
  · have hall := State.railCommits_governs (k := 8) (l := s2.railsUsed) (h2 8).gathers (fun r hr => State.railsUsed_lt hr) (by decide)
      (fun hm => absurd (State.railsUsed_lt hm) (by decide)) lateLaws lateTrims
    exact ((State.captureFrame_governs hall.gathers 0).trans (hall.trans (h2 8))).paced
  · have hmem : r ∈ s2.railsUsed := State.mem_railsUsed (((h2 r).railUsed r).trans hr)
    have hnodup : s2.railsUsed.Nodup := List.nodup_range.filter _
    have hc := State.railCommits_commits (h2 r) (fun r hr => State.railsUsed_lt hr) hmem hnodup lateLaws lateTrims
    have hend := hc.keep (State.captureFrame_governs hc.aims.gathers 0)
    exact hend

/-- The body of a whole cycle collects its triggers. -/
theorem State.oneCycle_gathers (f : State → State) (s : State) : ∃ u, (u = s ∨ u = s.gathering) ∧
    u.gov.gathered.isSome = true ∧ Tells (s.oneCycle f) (f u) ∧ Spares (s.oneCycle f) (f u) := by
  rw [State.oneCycle_eq]
  split
  · next h => exact ⟨s, Or.inl rfl, h, Tells.refl _, Spares.refl _⟩
  · exact ⟨s.gathering, Or.inr rfl, rfl, State.settle_tells _, State.settle_spares _⟩

theorem Commits.law {r : Nat} {late : Bool} {t s : State} (h : Commits r late t s) :
    (t.law r).meas = (s.rail r).die ∧ (t.law r).tgt = s.lawSetpoint r ∧ (s.lawMode r = .openLoop → late = false →
      (t.law r).out = clampI (lawUff (s.lawSetpoint r) (s.railKff r)) 0 ((s.dutyMax r * 256 : Nat) : Int)) :=
  ⟨congrArg Prod.fst h.aims.aim, congrArg Prod.snd h.aims.aim, h.out⟩

/-- The values that the law of a rail works with. -/
def State.lawInputs (s : State) (r : Nat) : Rail × Int × LawMode × Nat × Nat :=
  (s.rail r, s.lawSetpoint r, s.lawMode r, s.railKff r, s.dutyMax r)

theorem lawInputs_atTime (s : State) (n r : Nat) : (s.atTime n).lawInputs r = s.lawInputs r := by
  have hsp : (s.atTime n).lawSetpoint r = s.lawSetpoint r :=
    State.lawSetpoint_congr (t := s.atTime n) (fun _ _ _ => State.obj_same) State.obj_same State.obj_same rfl rfl
  have hmode : (s.atTime n).lawMode r = s.lawMode r := rfl
  have hkff : (s.atTime n).railKff r = s.railKff r := rfl
  have hdmax : (s.atTime n).dutyMax r = s.dutyMax r := rfl
  unfold State.lawInputs
  rw [hsp, hmode, hkff, hdmax, show (s.atTime n).rail r = s.rail r from rfl]

theorem lawInputs_gathering (s : State) (r : Nat) : s.gathering.lawInputs r = s.lawInputs r := by
  have hsp : s.gathering.lawSetpoint r = s.lawSetpoint r :=
    State.lawSetpoint_congr (t := s.gathering) (fun _ _ _ => State.obj_same) State.obj_same State.obj_same rfl rfl
  have hmode : s.gathering.lawMode r = s.lawMode r := rfl
  have hkff : s.gathering.railKff r = s.railKff r := rfl
  have hdmax : s.gathering.dutyMax r = s.dutyMax r := rfl
  unfold State.lawInputs
  rw [hsp, hmode, hkff, hdmax, show s.gathering.rail r = s.rail r from rfl]

/-- F_FRAME_COMMIT with GCLK running. -/
theorem exec_fFrameCommit_lands (lateLaws : List Nat) (lateTrims : Bool) (s : State) (hg : s.tb.gclk = true) :
    ∃ t, exec (.fFrameCommit lateLaws lateTrims) s = .next t ∧ t.tb.now = max s.tb.now (s.tb.fStart + 132) ∧
      t.tb.fStart = s.tb.fStart ∧ t.tb.phase = s.tb.phase ∧ t.tb.cStart = s.tb.cStart ∧ t.tb.cframe = s.tb.cframe ∧
      ∀ r, s.railUsed r = true → (t.law r).meas = (s.rail r).die ∧ (t.law r).tgt = s.lawSetpoint r ∧
        (s.lawMode r = .openLoop → lateLaws.contains r = false →
          (t.law r).out = clampI (lawUff (s.lawSetpoint r) (s.railKff r)) 0 ((s.dutyMax r * 256 : Nat) : Int)) := by
  have hrun : exec (.fFrameCommit lateLaws lateTrims) s = .next (s.oneCycle fun s => s.fFrameCommit lateLaws lateTrims) := if_pos hg
  obtain ⟨u, hu, hgather, -, hspares⟩ := State.oneCycle_gathers (fun s => s.fFrameCommit lateLaws lateTrims) s
  obtain ⟨hpaced, hcommit⟩ := State.fFrameCommit_commits hgather lateLaws lateTrims
  generalize s.oneCycle (fun s => s.fFrameCommit lateLaws lateTrims) = t at hrun hspares
  have hall := (Paced.of_spares hspares).trans hpaced
  have htb : u.tb = s.tb := by rcases hu with rfl | rfl <;> rfl
  have hlaws : t.laws = (u.fFrameCommit lateLaws lateTrims).laws := by simp only [hspares]
  refine ⟨t, hrun, ?_, ?_, ?_, ?_, ?_, fun r hr => ?_⟩
  · rw [hall.now, State.atTime, htb]
  · rw [hall.fStart, State.atTime, htb]
  · rw [hall.phase, State.atTime, htb]
  · rw [hall.cStart, State.atTime, htb]
  · rw [hall.cframe, State.atTime, htb]
  · rw [State.law_of_laws hlaws]
    have hread := (lawInputs_atTime u (u.tb.fStart + 132) r).trans (show u.lawInputs r = s.lawInputs r by
      rcases hu with rfl | rfl
      · rfl
      · exact lawInputs_gathering s r)
    have hused : u.railUsed r = s.railUsed r := by rcases hu with rfl | rfl <;> rfl
    unfold State.lawInputs at hread
    simp only [Prod.mk.injEq] at hread
    obtain ⟨hrail, hsp, hmode, hkff, hdmax⟩ := hread
    have hlaw := (hcommit r (hused.trans hr)).law
    rw [hrail, hsp, hmode, hkff, hdmax] at hlaw
    exact hlaw


/-! ### O10: the C-frame tick (02 R35, R46, 16 R389) -/

section
variable {P : Nat → Prop}

theorem Unread.setLaw (s : State) (i : Nat) (v : Law) : Unread P (s.setLaw i v) s := Unread.of_eq

theorem Unread.modLaw (s : State) (i : Nat) (f : Law → Law) : Unread P (s.modLaw i f) s := Unread.of_eq

theorem Unread.setThermal (s : State) (v : Thermal) : Unread P { s with thermal := v } s := Unread.of_eq

theorem Unread.modShaper (s : State) (r : Nat) (f : Shaper → Shaper) : Unread P (s.modShaper r f) s := Unread.of_eq

theorem State.dEventsNow_unread (s : State) (n k : Nat) : Unread P (s.dEventsNow n k) s :=
  Unread.of_spares (State.dEventsNow_spares s n k) (State.dEventsNow_tells s n k)

theorem State.signal_unread (s : State) (n : Nat) : Unread P (s.signal n) s := Unread.of_noted (State.signal_noted s n)

theorem State.slewTick_unread (s : State) : Unread P s.slewTick s := by
  unfold State.slewTick
  refine Unread.ite (Unread.trans (State.dropCause_unread _ 1 0 0) (Unread.of_paced ?_)) (Unread.refl s)
  exact ⟨rfl, rfl, rfl, rfl, rfl⟩

theorem State.cutTick_unread (s : State) (r : Nat) : Unread P (s.cutTick r) s := by
  unfold State.cutTick State.clipFor
  dsimp only
  split
  · exact Unread.refl s
  · exact Unread.ite Unread.of_eq (Unread.ite (Unread.ite Unread.of_eq Unread.of_eq) Unread.of_eq)

theorem State.coolTick_unread (s : State) (entered : Bool) : Unread P (s.coolTick entered).1 s := by
  unfold State.coolTick
  extract_lets on0 on was w s1
  have h1 : Unread P s1 s := Unread.of_eq
  split
  · exact (State.raiseCause_unread _ _ _ _ _ _).trans ((State.bump_unread s1 _ _).trans h1)
  split
  · exact (State.dropCause_unread s1 39 0 0).trans h1
  · exact h1

theorem State.refillAll_unread (s : State) (cap : Bool) : Unread P (s.refillAll cap) s := by
  unfold State.refillAll
  refine Unread.ite (Unread.each (fun t m => ?_) _ s) Unread.of_eq
  unfold State.refillRail
  extract_lets prev refill clip w s1
  have h1 : Unread P s1 t := Unread.each (fun u a => by
    unfold State.refillArray
    exact Unread.ite Unread.of_eq Unread.of_eq) _ t
  exact Unread.trans (b := s1) Unread.of_eq h1

theorem State.sigmaUpdate_unread (s : State) (r : Nat) : Unread P (s.sigmaUpdate r) s := by
  unfold State.sigmaUpdate
  refine Unread.ite (Unread.refl s) (Unread.ite ?_ Unread.of_eq)
  exact (State.trigger_unread _ _ _ _ _ _).trans Unread.of_eq

theorem State.budgetCheck_unread (s : State) (r : Nat) : Unread P (s.budgetCheck r) s := by
  unfold State.budgetCheck
  refine Unread.ite (Unread.refl s) (Unread.ite ?_ Unread.of_eq)
  exact (State.trigger_unread _ _ _ _ _ _).trans Unread.of_eq

theorem State.activateProgram_unread (s : State) : Unread P s.activateProgram s := by
  unfold State.activateProgram State.setLoadStatus
  refine Unread.ite (Unread.refl s) ((State.dropCause_unread _ 30 0 0).trans ?_)
  exact Unread.ite Unread.of_eq ((State.signal_unread _ _).trans Unread.of_eq)

theorem State.restoreBins_unread (s : State) (h : Nat) : Unread P (s.restoreBins h) s := by
  unfold State.restoreBins
  refine Unread.ite (Unread.refl s) ((State.dEventsNow_unread _ _ _).trans ?_)
  exact Unread.of_eq

theorem State.planFit_unread (s : State) (r : Nat) : Unread P (s.planFit r) s := by
  unfold State.planFit
  exact Unread.ite Unread.of_eq Unread.of_eq

theorem State.tallyTick_unread (s : State) : Unread P s.tallyTick s := by
  unfold State.tallyTick
  extract_lets s1 loose move w s2 s3 s4 w2 s5 s6
  have h1 : Unread P s1 s := Unread.each State.restoreBins_unread _ s
  have h2 : Unread P s2 s1 := Unread.of_eq
  have h3 : Unread P s3 s2 := Unread.each (fun _ _ => Unread.of_eq) _ s2
  have h4 : Unread P s4 s3 := Unread.each (fun _ _ => Unread.ite (Unread.refl _) Unread.of_eq) _ s3
  have h5 : Unread P s5 s4 := Unread.of_eq
  have h6 : Unread P s6 s5 := Unread.each (fun _ _ => Unread.of_eq) _ s5
  exact (Unread.each State.planFit_unread _ s6).trans (h6.trans (h5.trans (h4.trans (h3.trans (h2.trans h1)))))

theorem State.readSet_unread (s : State) (i : Nat) : Unread P (s.readSet i).1 s := by
  unfold State.readSet
  extract_lets v s1 s2 s3 s4
  have h1 : Unread P s1 s := s.dEvent_unread 6
  split
  · exact Unread.refl s
  split
  · have h2 : Unread P s2 s := Unread.trans (b := s1) Unread.of_eq h1
    exact (State.bump_unread _ _ _).trans ((State.bump_unread _ _ _).trans ((Unread.setLaw s2 i _).trans h2))
  · have h3 : Unread P s3 s := (State.bump_unread _ _ _).trans ((Unread.setLaw _ i _).trans ((s1.dEvent_unread 6).trans h1))
    have h4 : Unread P s4 s3 := by
      refine Unread.ite ?_ (Unread.refl s3)
      unfold State.endInjection
      exact Unread.ite ((State.signal_unread _ _).trans Unread.of_eq) (Unread.refl s3)
    exact (State.raiseCause_unread s4 _ _ _ _ _).trans (h4.trans h3)

theorem State.repairState_unread (s : State) (i : Nat) (rk : Int) : Unread P (s.repairState i rk) s := by
  unfold State.repairState
  extract_lets s1 s2 s3
  have h3 : Unread P s3 s := Unread.trans (b := s1) Unread.of_eq (s.dEvent_unread 6)
  refine Unread.ite ?_ (Unread.refl s)
  refine Unread.ite (Unread.trans (b := s3) Unread.of_eq h3) (Unread.ite (Unread.trans (b := s3) Unread.of_eq h3)
    (Unread.ite (Unread.trans (Unread.modLane s3 _ _ fun l => ?_) h3) (Unread.trans (b := s3) Unread.of_eq h3)))
  rfl

theorem State.followFrame_unread (s : State) (i : Nat) (b : Bool) : Unread P (s.followFrame i b) s := by
  unfold State.followFrame
  exact Unread.ite Unread.of_eq (Unread.ite (Unread.refl s) Unread.of_eq)

theorem State.lawOverrun_unread (s : State) (i sub : Nat) : Unread P (s.lawOverrun i sub) s :=
  (State.captureEvent_unread _ _ _).trans ((State.bump_unread _ _ _).trans (s.overrun_unread sub))

theorem State.limitLaw_unread (s : State) (r t : Nat) : Unread P (s.limitLaw r t) s := by
  unfold State.limitLaw
  extract_lets i s1 rk s2 hi first s3 q s4 s5 v
  have h2 : Unread P s2 s := (s1.repairState_unread i rk).trans (s.applyCommit_unread i)
  have h3 : Unread P s3 s2 := Unread.ite Unread.of_eq (Unread.refl s2)
  have h4 : Unread P s4 s := (s3.readSet_unread i).trans (h3.trans h2)
  have h5 : Unread P s5 s := Unread.trans (b := s4) Unread.of_eq h4
  split
  · exact h5
  split
  · exact (Unread.setLaw s5 i _).trans h5
  · extract_lets c s6
    have h6 : Unread P s6 s5 := Unread.ite (State.bump_unread s5 0x4000 2) (Unread.refl s5)
    exact (Unread.modLaw s6 i _).trans (h6.trans h5)

theorem State.limitLaws_unread (s : State) : Unread P s.limitLaws s := by
  unfold State.limitLaws
  refine Unread.each (fun t r => ?_) _ s
  refine Unread.ite ?_ ?_
  · exact (Unread.modShaper _ r _).trans (Unread.each (fun u k => (State.followFrame_unread _ _ _).trans (u.limitLaw_unread r k)) _ t)
  · exact (Unread.modShaper _ r _).trans (Unread.each (fun u k => u.applyCommit_unread _) _ t)

theorem State.filterLaw_unread (s : State) (i : Nat) : Unread P (s.filterLaw i) s := by
  unfold State.filterLaw
  extract_lets s1 q s2 v x terms
  have h2 : Unread P s2 s := (s1.readSet_unread i).trans ((State.repairState_unread _ i 0).trans (s.applyCommit_unread i))
  split
  · exact (s2.lawOverrun_unread i 3).trans h2
  · extract_lets p y s3
    have h3 : Unread P s3 s2 := Unread.ite (State.bump_unread s2 0x4000 2) (Unread.refl s2)
    exact (Unread.setLaw s3 i _).trans (h3.trans h2)

/-- A C-frame's first work, the budget's turn left (02 R46, 06 R149). -/
def State.ratesTaken (s : State) : State :=
  each s.countFrame.slewTick.railsUsed (fun s r => (((s.latchEnergy r).dwellTick r).cutTick r).rateTick r) s.countFrame.slewTick

theorem State.ratesTaken_unread (s : State) : Unread P s.ratesTaken s.countFrame := by
  refine (Unread.each (fun t r => ?_) _ _).trans s.countFrame.slewTick_unread
  have h1 : Unread P (t.latchEnergy r) t := Unread.of_eq
  have h2 : Unread P ((t.latchEnergy r).dwellTick r) t := Unread.trans (b := t.latchEnergy r) Unread.of_eq h1
  exact Unread.trans (b := ((t.latchEnergy r).dwellTick r).cutTick r) Unread.of_eq ((State.cutTick_unread _ r).trans h2)

/-- The rest of a C-frame tick leaves the frames and the budget alone. -/
theorem State.cFrame_unread (s : State) : Unread P s.cFrame s.ratesTaken.budgetTick := by
  unfold State.cFrame
  extract_lets s1 s2 fresh q u gov thermal s3 s4 s5 s6 s7 s8 w s9
  clear_value gov thermal w
  have h3 : Unread P s3 s.ratesTaken.budgetTick := Unread.trans (b := u) Unread.of_eq (State.coolTick_unread s2.budgetTick fresh)
  have h4 : Unread P s4 s3 := (State.refillAll_unread _ q.2).trans (Unread.each (fun t r => by
    unfold State.firstRate
    exact Unread.ite Unread.of_eq (Unread.refl t)) _ s3)
  have h5 : Unread P s5 s4 := Unread.each (fun t r => (State.sigmaUpdate_unread _ r).trans Unread.of_eq) _ s4
  have h6 : Unread P s6 s5 := Unread.each State.budgetCheck_unread _ s5
  have h7 : Unread P s7 s6 := (State.tallyTick_unread _).trans s6.activateProgram_unread
  have h8 : Unread P s8 s7 := (State.limitLaws_unread _).trans (s7.injectorTick_unread false)
  have h9 : Unread P s9 s8 := Unread.setThermal s8 _
  have hend : Unread P s9.filters s9 := Unread.each State.filterLaw_unread _ s9
  exact hend.trans (h9.trans (h8.trans (h7.trans (h6.trans (h5.trans (h4.trans h3))))))

end

/-- What an accepted budget becomes at a C-frame tick (16 R389). -/
theorem State.budgetTick_applies (s : State) : Paced s.budgetTick s ∧ s.budgetTick.segment.arm = none ∧
    ∀ g, s.segment.arm = some g → s.budgetTick.segment.ceiling = some g.mw ∧ s.budgetTick.segment.up = some g.up ∧
      s.budgetTick.segment.down = some g.down ∧ s.budgetTick.dither = g.dither.getD s.dither := by
  unfold State.budgetTick
  split
  · next hn => exact ⟨Paced.refl s, hn, fun g hg => absurd (hg.symm.trans hn) (Option.some_ne_none g)⟩
  · next g hg =>
    refine ⟨Paced.of_eq, rfl, fun g' hg' => ?_⟩
    obtain rfl : g' = g := Option.some.inj (hg'.symm.trans hg)
    exact ⟨rfl, rfl, rfl, rfl⟩

/-- The instant of a C-frame tick (02 R46). -/
def State.nextTick (s : State) : Nat :=
  (s.tb.cStart + 1008 + ((s.tb.moved + (if s.tb.cStart + 924 < s.tb.fStart then 0 else s.tb.slewStep)) / 16
    - s.tb.movedC / 16) : Int).toNat

theorem State.countFrame_counts (s : State) : s.countFrame.tb.now = max s.tb.now s.nextTick ∧ s.countFrame.tb.cStart = s.nextTick ∧
    s.countFrame.tb.cframe = (s.tb.cframe + 1) % 2 ^ 48 ∧ s.countFrame.tb.fStart = s.tb.fStart ∧
    s.countFrame.segment = s.segment ∧ s.countFrame.dither = s.dither := by
  unfold State.countFrame
  extract_lets m t s1 s2
  have h1 : s1.tb = s.tb ∧ s1.segment = s.segment ∧ s1.dither = s.dither := by
    have hor : s1 = s.bump64 0x1200 4 1000 ∨ s1 = s := ite_eq_or_eq _ _ _
    rcases hor with h | h <;> rw [h] <;> exact ⟨rfl, rfl, rfl⟩
  obtain ⟨htb, hsegment, hdither⟩ := h1
  refine ⟨?_, rfl, ?_, ?_, hsegment, hdither⟩
  · show max s1.tb.now t = _
    rw [htb]
    rfl
  · show (s1.tb.cframe + 1) % 2 ^ 48 = _
    rw [htb]
  · show s1.tb.fStart = _
    rw [htb]

/-- C_FRAME_TICK with GCLK running. -/
theorem exec_cFrameTick_lands (s : State) (hg : s.tb.gclk = true) : ∃ t, exec .cFrameTick s = .next t ∧
    t.tb.now = max s.tb.now t.tb.cStart ∧ t.tb.cStart = s.nextTick ∧ t.tb.cframe = (s.tb.cframe + 1) % 2 ^ 48 ∧
    t.tb.fStart = s.tb.fStart ∧ t.segment.arm = none ∧
    ∀ g, s.segment.arm = some g → t.segment.ceiling = some g.mw ∧ t.segment.up = some g.up ∧ t.segment.down = some g.down ∧
      t.dither = g.dither.getD s.dither := by
  obtain ⟨u, hu, htells, hspares⟩ := State.oneCycle_settles (fun s => s.cFrame) s
  let w := s.oneCycle fun s => s.cFrame
  let t := if w.gov.st == .run && w.limited then w.enter .limit 0xFF else w.autoStart
  have hrun : exec .cFrameTick s = .next t := if_pos hg
  have ht : Spares t w := by
    show Spares (if _ then _ else _) _
    split
    · exact w.enter_spares _ _
    · exact w.autoStart_spares.1
  have hall : Unread (fun _ => False) w u.ratesTaken.budgetTick := (Unread.of_spares hspares htells).trans u.cFrame_unread
  have hrates : Unread (fun _ => False) u.ratesTaken u.countFrame := u.ratesTaken_unread
  obtain ⟨hpaced, harm, hgrant⟩ := u.ratesTaken.budgetTick_applies
  have hbudget : t.segment.budget = u.ratesTaken.budgetTick.segment.budget := by rw [← hall.budget]; simp only [ht]
  have hdither : t.dither = u.ratesTaken.budgetTick.dither := by rw [← hall.dither]; simp only [ht]
  have hpace := (Paced.of_spares ht).trans (hall.paced.trans (hpaced.trans hrates.paced))
  have htb : u.countFrame.tb.now = max s.tb.now s.nextTick ∧ u.countFrame.tb.cStart = s.nextTick ∧
      u.countFrame.tb.cframe = (s.tb.cframe + 1) % 2 ^ 48 ∧ u.countFrame.tb.fStart = s.tb.fStart ∧
      u.countFrame.segment = s.segment ∧ u.countFrame.dither = s.dither := by
    rcases hu with rfl | rfl
    · exact u.countFrame_counts
    · exact s.gathering.countFrame_counts
  obtain ⟨hnow, hstart, hcount, hf, hsegment, hdith⟩ := htb
  refine ⟨t, hrun, ?_, hpace.cStart.trans hstart, hpace.cframe.trans hcount, hpace.fStart.trans hf, ?_, fun g hg => ?_⟩
  · rw [hpace.cStart, hstart]
    exact hpace.now.trans hnow
  · exact (congrArg Prod.fst hbudget).trans harm
  · have hwait : u.ratesTaken.segment.arm = some g := by
      rw [show u.ratesTaken.segment.arm = u.countFrame.segment.arm from congrArg Prod.fst hrates.budget, hsegment]
      exact hg
    obtain ⟨hceil, hup, hdown, hdit⟩ := hgrant g hwait
    refine ⟨(congrArg (fun b => b.2.1) hbudget).trans hceil, (congrArg (fun b => b.2.2.1) hbudget).trans hup,
      (congrArg (fun b => b.2.2.2) hbudget).trans hdown, (hdither.trans hdit).trans ?_⟩
    rw [hrates.dither, hdith]


/-! ### O10: the competition of the rates (08 R206, R207, 06 R155 to R157) -/

/-- The units that the competition leaves alone, and the objects that it reads. -/
structure Aside (t s : State) : Prop where
  tb : t.tb = s.tb
  gov : t.gov = s.gov
  thermal : t.thermal = s.thermal
  segment : t.segment = s.segment
  rails : t.rails = s.rails
  lanes : t.lanes = s.lanes
  cfg : t.cfg = s.cfg
  desc : t.desc = s.desc
  obj : ∀ i j, j < 0x0C → t.obj i j = s.obj i j

theorem Aside.refl (s : State) : Aside s s := ⟨rfl, rfl, rfl, rfl, rfl, rfl, rfl, rfl, fun _ _ _ => rfl⟩

theorem Aside.trans {a b c : State} (h : Aside a b) (g : Aside b c) : Aside a c :=
  ⟨h.tb.trans g.tb, h.gov.trans g.gov, h.thermal.trans g.thermal, h.segment.trans g.segment, h.rails.trans g.rails,
    h.lanes.trans g.lanes, h.cfg.trans g.cfg, h.desc.trans g.desc, fun i j hj => (h.obj i j hj).trans (g.obj i j hj)⟩

theorem Aside.ite {c : Prop} [Decidable c] {a b s : State} (ha : Aside a s) (hb : Aside b s) : Aside (if c then a else b) s := by
  split <;> assumption

theorem Aside.each {α : Type} {f : State → α → State} (h : ∀ s x, Aside (f s x) s) (l : List α) (s : State) :
    Aside (each l f s) s := each_carries (fun t => Aside t s) (fun t x ht => (h t x).trans ht) l s (Aside.refl s)

theorem Aside.setLaw (s : State) (i : Nat) (v : Law) : Aside (s.setLaw i v) s :=
  ⟨rfl, rfl, rfl, rfl, rfl, rfl, rfl, rfl, fun _ _ _ => State.obj_same⟩

theorem Aside.setShaper (s : State) (r : Nat) (v : Shaper) : Aside (s.setShaper r v) s :=
  ⟨rfl, rfl, rfl, rfl, rfl, rfl, rfl, rfl, fun _ _ _ => State.obj_same⟩

theorem Aside.bump (s : State) {a b : Nat} (hb : 0x0C ≤ b) (hb' : b < 256) (hd : defaultReads a b = false) : Aside (s.bump a b) s :=
  ⟨rfl, rfl, rfl, rfl, rfl, rfl, rfl, rfl, fun i j hj => s.obj_setObj_other _ (by omega) hb' hd (Or.inr (by omega))⟩

theorem Aside.captureEvent (s : State) (a b : Nat) : Aside (s.captureEvent a b) s := by
  rw [State.captureEvent_capture]
  exact ⟨rfl, rfl, rfl, rfl, rfl, rfl, rfl, rfl, fun _ _ _ => State.obj_same⟩

theorem Aside.rail {t s : State} (h : Aside t s) (r : Nat) : t.rail r = s.rail r := State.rail_of_rails h.rails r

theorem Aside.quantum {t s : State} (h : Aside t s) : t.quantum = s.quantum := h.obj _ _ (by decide)

theorem Aside.rateOf {t s : State} (h : Aside t s) (mw : Nat) : t.rateOf mw = s.rateOf mw := by
  unfold State.rateOf
  rw [h.quantum]

theorem Aside.laneCapacity {t s : State} (h : Aside t s) (r : Nat) : t.laneCapacity r = s.laneCapacity r := by
  have hlanes : t.railLanes r = s.railLanes r := by
    unfold State.railLanes State.laneCount State.laneRail
    rw [h.cfg]
    refine List.filter_congr fun n _ => ?_
    rw [h.obj _ _ (by decide)]
  unfold State.laneCapacity State.lane
  rw [hlanes, h.lanes, h.obj _ _ (by decide)]
  simp only [h.obj _ 7 (by decide)]

theorem Aside.upStep {t s : State} (h : Aside t s) (r : Nat) : t.upStep r = s.upStep r := by
  unfold State.upStep State.slewStep State.shareRate
  rw [h.rateOf, h.obj _ 4 (by decide), h.obj _ 2 (by decide), h.segment]

/-- What the sources of a rail depend on. -/
theorem Aside.sources {t s : State} (h : Aside t s) {r : Nat}
    (hlaw : ∀ k, k < 4 → (t.law (8 + 4 * r + k)).cand = (s.law (8 + 4 * r + k)).cand)
    (henv : (t.shaper r).env = (s.shaper r).env) (hdither : (t.shaper r).dither = (s.shaper r).dither) :
    t.sources r = s.sources r := by
  have hcand : [3, 0, 1, 2].map (fun k => (k, (t.law (8 + 4 * r + k)).cand.toNat)) =
      [3, 0, 1, 2].map (fun k => (k, (s.law (8 + 4 * r + k)).cand.toNat)) := by
    refine List.map_congr_left fun k hk => ?_
    rw [hlaw k (by simp at hk; omega)]
  have hup : t.upBound r = s.upBound r := by
    unfold State.upBound
    dsimp only
    rw [henv, hdither, h.upStep]
  have hceil : t.ceilings r = s.ceilings r := by
    unfold State.ceilings
    dsimp only
    rw [h.thermal, h.gov, h.segment, h.rail, h.quantum, h.laneCapacity, hup, h.obj _ 4 (by decide), h.obj 0x2801 1 (by decide),
      h.obj 0x3400 4 (by decide), h.obj 0x3000 9 (by decide)]
    simp only [h.rateOf]
  unfold State.sources
  rw [hcand, hceil]

/-! #### One rail -/

/-- The competition of one rail (08 R206). -/
def State.railCompete (s : State) (r : Nat) : State :=
  let s := each [0, 1, 2, 3] (fun s t => s.enterCandidate (8 + 4 * r + t) (([] : List Nat).contains (8 + 4 * r + t))) s
  (s.rampRelease r).compete r

/-- What the competition of another rail leaves of rail `r`. -/
structure Apart (r : Nat) (t s : State) : Prop where
  law : ∀ k, k < 4 → t.law (8 + 4 * r + k) = s.law (8 + 4 * r + k)
  shaper : t.shaper r = s.shaper r

theorem Apart.refl (r : Nat) (s : State) : Apart r s s := ⟨fun _ _ => rfl, rfl⟩

theorem Apart.trans {r : Nat} {a b c : State} (h : Apart r a b) (g : Apart r b c) : Apart r a c :=
  ⟨fun k hk => (h.law k hk).trans (g.law k hk), h.shaper.trans g.shaper⟩

/-- The candidates of rail `r` have entered, and the lowest source has won. -/
structure Wins (r : Nat) (t s : State) : Prop where
  cand : ∀ k, k < 4 → ∀ c e h, (s.law (8 + 4 * r + k)).next = some (c, e, h) → (t.law (8 + 4 * r + k)).cand = c
  won : ∀ b x, lowest (t.sources r) = some (b, x) → (t.shaper r).next = x ∧ (t.shaper r).won = b

theorem State.rampRelease_aside (s : State) (r : Nat) : Aside (s.rampRelease r) s ∧ (s.rampRelease r).laws = s.laws ∧
    ∀ k, k ≠ r → (s.rampRelease r).shaper k = s.shaper k := by
  have hset : ∀ v : Shaper, Aside (s.setShaper r v) s ∧ (s.setShaper r v).laws = s.laws ∧
      ∀ k, k ≠ r → (s.setShaper r v).shaper k = s.shaper k := fun v =>
    ⟨Aside.setShaper s r v, rfl, fun k hk => (State.shaper_setShaper s r k v).trans (if_neg hk)⟩
  unfold State.rampRelease
  extract_lets v s1
  split
  · split
    · have h1 := hset { v with quiet := 0, dither := s.dither }
      split
      · exact h1
      · exact ⟨(Aside.bump s1 (by decide) (by decide) (by decide)).trans h1.1, h1.2⟩
    · exact hset _
  · exact hset _

/-- What the aim of the envelope keeps of its rail. -/
def Shaper.rival (v : Shaper) : Nat × Nat × Nat × Nat := (v.env, v.dither, v.next, v.won)

theorem Shaper.of_rival {v : Shaper} {a b c d : Nat} (h : v.rival = (a, b, c, d)) :
    v.env = a ∧ v.dither = b ∧ v.next = c ∧ v.won = d := by
  unfold Shaper.rival at h
  simpa using h

theorem State.modShaper_sets (s : State) (r : Nat) (f : Shaper → Shaper) (hf : ∀ v, (f v).rival = v.rival) : ∃ v : Shaper,
    s.modShaper r f = s.setShaper r v ∧ v.rival = (s.shaper r).rival := ⟨f (s.shaper r), rfl, hf _⟩

theorem State.envelopeAim_sets (s : State) (r : Nat) : ∃ v : Shaper, s.envelopeAim r = s.setShaper r v ∧
    v.rival = (s.shaper r).rival := by
  have haim : ∀ (v : Shaper) (a : Nat) (d : Bool), ({ v with envAim := a, drop := d } : Shaper).rival = v.rival := fun _ _ _ => rfl
  unfold State.envelopeAim
  extract_lets low t up role
  split
  · exact State.modShaper_sets s r _ fun v => haim v v.env false
  · exact State.modShaper_sets s r _ fun v => haim v (clampN t low up) (role != 1 && t < low)

/-- The winner counted and caught. -/
def State.winNoted (s : State) (r b old : Nat) : State :=
  let s := if b < 4 then s.bump (0x4100 + 8 + 4 * r + b) 0x16 else s
  if b != old then s.captureEvent 6 r else s

theorem State.captureEvent_laws (s : State) (a b : Nat) : (s.captureEvent a b).laws = s.laws := by
  rw [State.captureEvent_capture]

theorem State.captureEvent_shapers (s : State) (a b : Nat) : (s.captureEvent a b).shapers = s.shapers := by
  rw [State.captureEvent_capture]

theorem State.winNoted_aside (s : State) (r b old : Nat) : Aside (s.winNoted r b old) s ∧ (s.winNoted r b old).laws = s.laws ∧
    (s.winNoted r b old).shapers = s.shapers := by
  unfold State.winNoted
  extract_lets s1
  have h1 : Aside s1 s ∧ s1.laws = s.laws ∧ s1.shapers = s.shapers := by
    have hor : s1 = s.bump (0x4100 + 8 + 4 * r + b) 0x16 ∨ s1 = s := ite_eq_or_eq _ _ _
    rcases hor with e | e <;> rw [e]
    · exact ⟨Aside.bump s (by decide) (by decide) (by simp [defaultReads]), rfl, rfl⟩
    · exact ⟨Aside.refl s, rfl, rfl⟩
  split
  · exact ⟨(Aside.captureEvent s1 6 r).trans h1.1, (s1.captureEvent_laws 6 r).trans h1.2.1,
      (s1.captureEvent_shapers 6 r).trans h1.2.2⟩
  · exact h1

theorem State.shaper_of_shapers {t s : State} (h : t.shapers = s.shapers) (k : Nat) : t.shaper k = s.shaper k := by
  unfold State.shaper
  rw [h]

/-- The competition of a rail with a lowest source. -/
theorem State.compete_wins {s : State} {r b x : Nat} (h : lowest (s.sources r) = some (b, x)) : Aside (s.compete r) s ∧
    (s.compete r).laws = s.laws ∧ (∀ k, k ≠ r → (s.compete r).shaper k = s.shaper k) ∧
    ((s.compete r).shaper r).rival = ((s.shaper r).env, (s.shaper r).dither, x, b) := by
  let v1 : Shaper := { s.shaper r with next := x, won := b, competed := true }
  have hrun : s.compete r = ((s.setShaper r v1).winNoted r b (s.shaper r).won).envelopeAim r := by
    unfold State.compete
    rw [h]
    rfl
  obtain ⟨v, hv, hrival⟩ := State.envelopeAim_sets ((s.setShaper r v1).winNoted r b (s.shaper r).won) r
  obtain ⟨haside, hlaws, hshapers⟩ := State.winNoted_aside (s.setShaper r v1) r b (s.shaper r).won
  have hsh := State.shaper_of_shapers hshapers
  rw [hrun, hv]
  refine ⟨(Aside.setShaper _ r v).trans (haside.trans (Aside.setShaper s r v1)), hlaws, fun k hk => ?_, ?_⟩
  · rw [State.shaper_setShaper, if_neg hk, hsh, State.shaper_setShaper, if_neg hk]
  · rw [State.shaper_setShaper, if_pos rfl, hrival, hsh, State.shaper_setShaper, if_pos rfl]
    rfl

/-- A law whose candidate of this C-frame has entered. -/
def Law.entered (v : Law) (n : Int × Int × Int) : Law :=
  { v with cand := n.1, err := n.2.1, shown := n.2.2, out := n.1, next := none }

theorem State.enterCandidate_enters {s : State} {i : Nat} {n : Int × Int × Int} (hn : (s.law i).next = some n) :
    s.enterCandidate i false = s.setLaw i ((s.law i).entered n) := by
  unfold State.enterCandidate
  dsimp only
  rw [hn]
  rfl

/-- Candidates enter one after the other. -/
theorem State.candidates_enter {r : Nat} {l : List Nat} (hl : l.Nodup) {s : State}
    (hn : ∀ k ∈ l, (s.law (8 + 4 * r + k)).next.isSome = true) :
    Aside (each l (fun s k => s.enterCandidate (8 + 4 * r + k) false) s) s ∧
    (each l (fun s k => s.enterCandidate (8 + 4 * r + k) false) s).shapers = s.shapers ∧
    (∀ i, (∀ k ∈ l, i ≠ 8 + 4 * r + k) → (each l (fun s k => s.enterCandidate (8 + 4 * r + k) false) s).law i = s.law i) ∧
    ∀ k ∈ l, ∀ c e h, (s.law (8 + 4 * r + k)).next = some (c, e, h) →
      ((each l (fun s k => s.enterCandidate (8 + 4 * r + k) false) s).law (8 + 4 * r + k)).cand = c := by
  induction l generalizing s with
  | nil => exact ⟨Aside.refl s, rfl, fun _ _ => rfl, fun k hk => absurd hk List.not_mem_nil⟩
  | cons k rest ih =>
    obtain ⟨hnot, hrest⟩ := List.nodup_cons.mp hl
    obtain ⟨n, hk⟩ := Option.isSome_iff_exists.mp (hn k List.mem_cons_self)
    rw [each_cons, State.enterCandidate_enters hk]
    have hlaw : ∀ i, i ≠ 8 + 4 * r + k → (s.setLaw (8 + 4 * r + k) ((s.law (8 + 4 * r + k)).entered n)).law i = s.law i :=
      fun i hi => (State.law_setLaw _ _ _ _).trans (if_neg hi)
    have hown : ((s.setLaw (8 + 4 * r + k) ((s.law (8 + 4 * r + k)).entered n)).law (8 + 4 * r + k)).cand = n.1 :=
      congrArg Law.cand ((State.law_setLaw _ _ _ _).trans (if_pos rfl))
    have haside := Aside.setLaw s (8 + 4 * r + k) ((s.law (8 + 4 * r + k)).entered n)
    have hshapers : (s.setLaw (8 + 4 * r + k) ((s.law (8 + 4 * r + k)).entered n)).shapers = s.shapers := rfl
    generalize s.setLaw (8 + 4 * r + k) ((s.law (8 + 4 * r + k)).entered n) = t at hlaw hown haside hshapers ⊢
    have hne : ∀ m ∈ rest, 8 + 4 * r + m ≠ 8 + 4 * r + k := fun m hm he => hnot (by rwa [show k = m by omega])
    obtain ⟨h1, h2, h3, h4⟩ := ih hrest (s := t) fun m hm => by
      rw [hlaw _ (hne m hm)]
      exact hn m (List.mem_cons_of_mem _ hm)
    refine ⟨h1.trans haside, h2.trans hshapers, fun i hi => ?_, fun m hm c' e' h' hm' => ?_⟩
    · rw [h3 i fun m hm => hi m (List.mem_cons_of_mem _ hm)]
      exact hlaw i (hi k List.mem_cons_self)
    · rcases List.mem_cons.mp hm with rfl | hm
      · rw [h3 _ fun m' hm' => (hne m' hm').symm, hown]
        rw [hk] at hm'
        rw [Option.some.inj hm']
      · exact h4 m hm c' e' h' (by rw [hlaw _ (hne m hm)]; exact hm')

theorem State.compete_none {s : State} {r : Nat} (h : lowest (s.sources r) = none) : s.compete r = s := by
  unfold State.compete
  rw [h]

theorem State.railCompete_eq (s : State) (r : Nat) : s.railCompete r =
    ((each [0, 1, 2, 3] (fun s k => s.enterCandidate (8 + 4 * r + k) false) s).rampRelease r).compete r := rfl

/-- The competition of a rail whose candidates are there. -/
theorem State.railCompete_wins {s : State} {r : Nat} (hn : ∀ k, k < 4 → (s.law (8 + 4 * r + k)).next.isSome = true) :
    Aside (s.railCompete r) s ∧ (∀ q, q ≠ r → Apart q (s.railCompete r) s) ∧ Wins r (s.railCompete r) s := by
  obtain ⟨h1, h2, h3, h4⟩ := State.candidates_enter (r := r) (l := [0, 1, 2, 3]) (by decide) (s := s) fun k hk =>
    hn k (by simp at hk; omega)
  rw [State.railCompete_eq]
  generalize each [0, 1, 2, 3] (fun s k => s.enterCandidate (8 + 4 * r + k) false) s = t at h1 h2 h3 h4
  obtain ⟨h5, h6, h7⟩ := t.rampRelease_aside r
  have hw : Aside (t.rampRelease r) s := h5.trans h1
  have hlaw : ∀ i, (∀ k, k < 4 → i ≠ 8 + 4 * r + k) → (t.rampRelease r).law i = s.law i := fun i hi =>
    (State.law_of_laws h6 i).trans (h3 i fun k hk => hi k (by simp at hk; omega))
  have hcand : ∀ k, k < 4 → ∀ c e h, (s.law (8 + 4 * r + k)).next = some (c, e, h) →
      ((t.rampRelease r).law (8 + 4 * r + k)).cand = c := fun k hk c e h hs => by
    rw [State.law_of_laws h6]
    exact h4 k (by simp; omega) c e h hs
  have hshaper : ∀ q, q ≠ r → (t.rampRelease r).shaper q = s.shaper q := fun q hq =>
    (h7 q hq).trans (State.shaper_of_shapers h2 q)
  generalize t.rampRelease r = w at hw hlaw hcand hshaper
  have hother : ∀ u : State, u.laws = w.laws → (∀ q, q ≠ r → u.shaper q = w.shaper q) → ∀ q, q ≠ r → Apart q u s :=
    fun u hu hs q hq => ⟨fun k hk => (State.law_of_laws hu _).trans (hlaw _ fun m hm => by omega), (hs q hq).trans (hshaper q hq)⟩
  cases hlow : lowest (w.sources r) with
  | none =>
    rw [State.compete_none hlow]
    exact ⟨hw, hother w rfl fun _ _ => rfl, hcand, fun b x hb => absurd (hb.symm.trans hlow) (Option.some_ne_none _)⟩
  | some p =>
    obtain ⟨b, x⟩ := p
    obtain ⟨g1, g2, g3, g4⟩ := State.compete_wins hlow
    obtain ⟨henv, hdither, hnext, hwon⟩ := Shaper.of_rival g4
    have hsources : (w.compete r).sources r = w.sources r :=
      g1.sources (fun k _ => by rw [State.law_of_laws g2]) henv hdither
    refine ⟨g1.trans hw, hother _ g2 g3, fun k hk c e h hs => ?_, fun b' x' hb => ?_⟩
    · rw [State.law_of_laws g2]
      exact hcand k hk c e h hs
    · rw [hsources, hlow] at hb
      obtain ⟨rfl, rfl⟩ := Prod.mk.inj (Option.some.inj hb)
      exact ⟨hnext, hwon⟩

/-- What the later competitions leave of the win of a rail. -/
theorem Wins.keep {r : Nat} {u t s : State} (h : Wins r t s) (ha : Aside u t) (g : Apart r u t) : Wins r u s where
  cand := fun k hk c e n hn => by
    rw [g.law k hk]
    exact h.cand k hk c e n hn
  won := fun b x hb => by
    rw [ha.sources (fun k hk => by rw [g.law k hk]) (by rw [g.shaper]) (by rw [g.shaper])] at hb
    rw [g.shaper]
    exact h.won b x hb

theorem Wins.of_apart {r : Nat} {u t s : State} (h : Wins r u t) (g : Apart r t s) : Wins r u s where
  cand := fun k hk c e n hn => h.cand k hk c e n (by rw [g.law k hk]; exact hn)
  won := h.won

/-- The competitions of several rails, one after the other. -/
theorem State.railCompetes_wins {l : List Nat} (hl : l.Nodup) {s : State}
    (hn : ∀ r ∈ l, ∀ k, k < 4 → (s.law (8 + 4 * r + k)).next.isSome = true) :
    Aside (each l State.railCompete s) s ∧ (∀ q, q ∉ l → Apart q (each l State.railCompete s) s) ∧
    ∀ r ∈ l, Wins r (each l State.railCompete s) s := by
  induction l generalizing s with
  | nil => exact ⟨Aside.refl s, fun q _ => Apart.refl q s, fun r hr => absurd hr List.not_mem_nil⟩
  | cons r rest ih =>
    obtain ⟨hnot, hrest⟩ := List.nodup_cons.mp hl
    obtain ⟨h1, h2, h3⟩ := State.railCompete_wins (hn r List.mem_cons_self)
    have hne : ∀ q ∈ rest, q ≠ r := fun q hq e => hnot (e ▸ hq)
    rw [each_cons]
    obtain ⟨g1, g2, g3⟩ := ih hrest (s := s.railCompete r) fun q hq k hk => by
      rw [(h2 q (hne q hq)).law k hk]
      exact hn q (List.mem_cons_of_mem _ hq) k hk
    refine ⟨g1.trans h1, fun q hq => ?_, fun q hq => ?_⟩
    · exact (g2 q fun h => hq (List.mem_cons_of_mem _ h)).trans (h2 q fun e => hq (e ▸ List.mem_cons_self))
    · rcases List.mem_cons.mp hq with rfl | hq
      · exact h3.keep g1 (g2 q hnot)
      · exact (g3 q hq).of_apart (h2 q (hne q hq))

/-- C_FRAME_COMPETITION in time, in the states in which words are taken. -/
theorem exec_cFrameCompetition_wins {s : State} (hg : s.tb.gclk = true) (hw : s.gov.st.words = true)
    (hn : ∀ r, s.railUsed r = true → (s.shaper r).ran = true → ∀ k, k < 4 → (s.law (8 + 4 * r + k)).next.isSome = true) :
    ∃ t, exec (.cFrameCompetition []) s = .next t ∧ t.tb.now = max s.tb.now (s.tb.cStart + 600) ∧
      t.tb.cStart = s.tb.cStart ∧ t.tb.cframe = s.tb.cframe ∧
      ∀ r, s.railUsed r = true → (s.shaper r).ran = true → Wins r t s := by
  let s1 := s.atTime (s.tb.cStart + 600)
  have hrun : exec (.cFrameCompetition []) s =
      .next (each (s1.railsUsed.filter fun r => (s1.shaper r).ran) State.railCompete s1) := if_pos (by rw [hg, hw]; rfl)
  have hnodup : (s1.railsUsed.filter fun r => (s1.shaper r).ran).Nodup := (List.nodup_range.filter _).filter _
  obtain ⟨h1, -, h3⟩ := State.railCompetes_wins hnodup (s := s1) fun r hr => by
    obtain ⟨hr, hran⟩ := List.mem_filter.mp hr
    exact hn r (List.mem_filter.mp hr).2 hran
  refine ⟨_, hrun, ?_, ?_, ?_, fun r hr hran => ?_⟩
  · rw [h1.tb]; rfl
  · rw [h1.tb]; rfl
  · rw [h1.tb]; rfl
  · have hmem : r ∈ s1.railsUsed := State.mem_railsUsed hr
    exact (h3 r (List.mem_filter.mpr ⟨hmem, hran⟩)).of_apart ⟨fun _ _ => rfl, rfl⟩


/-! ### O10: the rate commit (08 R206, 06 R155 to R159, 04 R95 to R100) -/

/-- A body that leaves the Governor alone triggers nothing: the cycle is the body. -/
theorem State.oneCycle_still {f : State → State} {s : State} (h : ∀ u, (f u).gov = u.gov) : ∃ u, (u = s ∨ u = s.gathering) ∧
    s.oneCycle f = { f u with gov := s.gov } := by
  rw [State.oneCycle_eq]
  split
  · refine ⟨s, Or.inl rfl, ?_⟩
    rw [← h s]
  · next hg =>
    refine ⟨s.gathering, Or.inr rfl, ?_⟩
    have hnone : s.gov.gathered = none := by simpa using hg
    have hgov : ({ s.gathering.gov with gathered := none } : Gov) = s.gov := by
      unfold State.gathering
      rw [← hnone]
    unfold State.settle
    rw [h s.gathering, hgov]
    exact State.latchAll_nil _

/-- What cycle 840 publishes of a rail. -/
def Shaper.posted (v : Shaper) : Nat × Nat × Bool × Nat × Nat := (v.mw, v.bound, v.competed, v.next, v.won)

/-- The Governor and the time stand, and so does what a rail has published. -/
structure Publishes (r : Nat) (t s : State) : Prop where
  gov : t.gov = s.gov
  tb : t.tb = s.tb
  shaper : (t.shaper r).posted = (s.shaper r).posted

section
variable {r : Nat}

theorem Publishes.refl (s : State) : Publishes r s s := ⟨rfl, rfl, rfl⟩

theorem Publishes.trans {a b c : State} (h : Publishes r a b) (g : Publishes r b c) : Publishes r a c :=
  ⟨h.gov.trans g.gov, h.tb.trans g.tb, h.shaper.trans g.shaper⟩

theorem Publishes.each {α : Type} {f : State → α → State} (h : ∀ s x, Publishes r (f s x) s) (l : List α) (s : State) :
    Publishes r (each l f s) s := each_carries (fun t => Publishes r t s) (fun t x ht => (h t x).trans ht) l s (Publishes.refl s)

theorem Publishes.of_drives {t s : State} (h : Drives t s) : Publishes r t s := by
  unfold Drives at h
  rw [h]
  exact ⟨rfl, rfl, rfl⟩

theorem Publishes.setShaper (s : State) (q : Nat) (v : Shaper) (h : q = r → v.posted = (s.shaper q).posted) :
    Publishes r (s.setShaper q v) s := by
  refine ⟨rfl, rfl, ?_⟩
  rw [State.shaper_setShaper]
  split
  · next e =>
    subst e
    exact h rfl
  · rfl

theorem Publishes.modShaper (s : State) (q : Nat) (f : Shaper → Shaper) (h : ∀ v, (f v).posted = v.posted) :
    Publishes r (s.modShaper q f) s := Publishes.setShaper s q _ fun _ => h _

theorem State.bump_publishes (s : State) (a b : Nat) : Publishes r (s.bump a b) s := ⟨rfl, rfl, rfl⟩

theorem State.fillerCommit_publishes (s : State) : Publishes r s.fillerCommit s := by
  have hfill : ∀ (f : State → Nat → Nat) (l : List Nat) (t : State),
      Publishes r (Sys2Proof.Machine.each l (fun s q => s.modShaper q fun v => { v with filler := f s q }) t) t := fun f l t => by
    refine Publishes.each (fun u q => Publishes.modShaper u q _ fun v => ?_) l t
    rfl
  have hrates : Publishes r s.fillerRates.1 s := by
    unfold State.fillerRates
    extract_lets rails none_ sum cap over_
    split
    · exact hfill (fun _ _ => 0) rails s
    split
    · exact hfill (fun _ _ => 0) rails s
    split
    · exact hfill (fun _ _ => 0) rails s
    · exact hfill (fun s q => if over_ then s.fillerWant q * cap / sum else s.fillerWant q) rails s
  unfold State.fillerCommit
  extract_lets drop q s1
  have h1 : Publishes r s1 s := by
    have hor : s1 = q.1.bump 0x2802 0x0D ∨ s1 = q.1 := ite_eq_or_eq _ _ _
    rcases hor with e | e <;> rw [e]
    · exact (q.1.bump_publishes _ _).trans hrates
    · exact hrates
  refine (Publishes.each (fun u q => Publishes.modShaper u q _ fun v => ?_) _ s1).trans h1
  rfl

theorem State.prePosition_drives (s : State) (q : Nat) : Drives (s.prePosition q) s := by
  unfold State.prePosition
  exact Drives.ite (Drives.modRail _ _ _) (Drives.modRail _ _ _)

theorem State.forecastLanes_drives (s : State) (q : Nat) : Drives (s.forecastLanes q) s := by
  unfold State.forecastLanes
  extract_lets near far s1 i s2 s3 n s4
  have h1 : Drives s1 s := Drives.modRail _ _ _
  have h2 : Drives s2 s := (Drives.ite (State.abortShed_drives s1 q) (Drives.refl s1)).trans h1
  have h3 : Drives s3 s := (Drives.ite (Drives.refl s2) (State.raisePlan_drives s2 q _ 0)).trans h2
  have h4 : Drives s4 s := (Drives.each (fun u k => u.wakeLane_drives k true 0) _ s3).trans h3
  exact Drives.ite h1 ((Drives.each (fun u k => Drives.modLane u k _) _ s4).trans h4)

theorem State.captureFrame_publishes (s : State) (kind : Nat) : Publishes r (s.captureFrame kind) s := by
  unfold State.captureFrame
  extract_lets v next sample samples
  split
  · exact Publishes.refl s
  split
  · exact ⟨rfl, rfl, rfl⟩
  · exact ⟨rfl, rfl, rfl⟩

/-- The publication of another rail. -/
theorem State.publishRate_other (s : State) {q : Nat} (h : q ≠ r) : Publishes r (s.publishRate q) s := by
  have hset : ∀ (t : State) (v : Shaper), Publishes r (t.setShaper q v) t := fun t v => Publishes.setShaper t q v fun e => absurd e h
  unfold State.publishRate
  extract_lets v mw next low role s1
  split
  · exact hset s _
  · have hor : s1 = s.bump 0x2802 0x0C ∨ s1 = s := ite_eq_or_eq _ _ _
    rcases hor with e | e <;> rw [e]
    · exact (hset _ _).trans (s.bump_publishes _ _)
    · exact hset s _

theorem State.publishRate_quantum (s : State) (q : Nat) : (s.publishRate q).quantum = s.quantum := by
  have hbump : (s.bump 0x2802 0x0C).quantum = s.quantum :=
    s.obj_setObj_other _ (by decide) (by decide) (by decide) (Or.inl (by decide))
  unfold State.publishRate
  extract_lets v mw next low role s1
  have h1 : s1.quantum = s.quantum := by
    have hor : s1 = s.bump 0x2802 0x0C ∨ s1 = s := ite_eq_or_eq _ _ _
    rcases hor with e | e <;> rw [e]
    exact hbump
  split
  · exact State.obj_same
  · exact Eq.trans State.obj_same h1

theorem State.publishRate_still (s : State) (q : Nat) : (s.publishRate q).gov = s.gov ∧ (s.publishRate q).tb = s.tb := by
  have h := s.publishRate_other (q := q) (r := q + 1) (by omega)
  exact ⟨h.gov, h.tb⟩

/-- The publication of a rail that has competed (R157, 08 R206). -/
theorem State.publishRate_posted {s : State} (h : (s.shaper r).competed = true) :
    ((s.publishRate r).shaper r).mw = s.mwOfRate (s.shaper r).next ∧ ((s.publishRate r).shaper r).bound = (s.shaper r).won ∧
      ((s.publishRate r).shaper r).competed = false := by
  unfold State.publishRate
  extract_lets v mw next low role s1
  have h1 : s1.shaper r = s.shaper r := by
    have hor : s1 = s.bump 0x2802 0x0C ∨ s1 = s := ite_eq_or_eq _ _ _
    rcases hor with e | e <;> rw [e]
    rfl
  rw [if_neg (by rw [show v.competed = true from h]; decide)]
  unfold State.modShaper
  rw [State.shaper_setShaper, if_pos rfl]
  refine ⟨rfl, ?_, rfl⟩
  show (s1.shaper r).won = _
  rw [h1]

/-- The publications of the rails in use. -/
theorem State.publishRates_posted {s : State} {l : List Nat} (hl : l.Nodup) (hr : r ∈ l) (h : (s.shaper r).competed = true) :
    ((each l State.publishRate s).shaper r).mw = s.mwOfRate (s.shaper r).next ∧
    ((each l State.publishRate s).shaper r).bound = (s.shaper r).won ∧
    ((each l State.publishRate s).shaper r).competed = false := by
  have hothers : ∀ m : List Nat, r ∉ m → ∀ t : State, Publishes r (each m State.publishRate t) t := fun m hm t => by
    refine each_keeps_of (fun u => Publishes r u t) (fun q hq u hu => ?_) t (Publishes.refl t)
    have hne : q ≠ r := fun e => hm (e ▸ hq)
    exact (u.publishRate_other hne).trans hu
  have hquantum : ∀ (m : List Nat) (t : State), (each m State.publishRate t).quantum = t.quantum := fun m t =>
    each_keeps (fun u : State => u.quantum) State.publishRate_quantum m t
  obtain ⟨before, after, rfl⟩ := List.append_of_mem hr
  have hapart := List.nodup_append.mp hl
  have hbefore : r ∉ before := fun hm => hapart.2.2 r hm r List.mem_cons_self rfl
  have hafter : r ∉ after := (List.nodup_cons.mp hapart.2.1).1
  have hsplit : each (before ++ r :: after) State.publishRate s =
      each after State.publishRate ((each before State.publishRate s).publishRate r) := List.foldl_append
  rw [hsplit]
  have hfirst := hothers before hbefore s
  have hown := hquantum before s
  generalize each before State.publishRate s = t at hfirst hown ⊢
  have hpost := hfirst.shaper
  unfold Shaper.posted at hpost
  simp only [Prod.mk.injEq] at hpost
  obtain ⟨-, -, hcompeted, hnext, hwon⟩ := hpost
  obtain ⟨h1, h2, h3⟩ := State.publishRate_posted (hcompeted.trans h)
  have hlast := (hothers after hafter (t.publishRate r)).shaper
  unfold Shaper.posted at hlast
  simp only [Prod.mk.injEq] at hlast
  obtain ⟨hmw, hbound, hend, -, -⟩ := hlast
  have hrate : ∀ x, t.mwOfRate x = s.mwOfRate x := fun x => by
    unfold State.mwOfRate
    rw [hown]
  exact ⟨hmw.trans (h1.trans (by rw [hrate, hnext])), hbound.trans (h2.trans hwon), hend.trans h3⟩

end

/-- Cycle 840 of a C-frame in time. -/
theorem State.cFrameCommit_posted (s : State) : (s.cFrameCommit false).gov = s.gov ∧
    ∀ r, s.railUsed r = true → (s.shaper r).competed = true →
      ((s.cFrameCommit false).shaper r).mw = s.mwOfRate (s.shaper r).next ∧
      ((s.cFrameCommit false).shaper r).bound = (s.shaper r).won ∧ ((s.cFrameCommit false).shaper r).competed = false := by
  let s1 := s.atTime (s.tb.cStart + 840)
  let s2 := each s1.railsUsed State.publishRate s1
  have hrest : ∀ r, Publishes r (s.cFrameCommit false) s2 := fun r => by
    refine (State.captureFrame_publishes _ 1).trans (Publishes.trans (Publishes.each (fun u q => ?_) _ _) (State.fillerCommit_publishes s2))
    exact Publishes.of_drives ((State.forecastLanes_drives _ q).trans (u.prePosition_drives q))
  have hgov : s2.gov = s.gov := each_keeps (fun u : State => u.gov) (fun u q => (u.publishRate_still q).1) _ s1
  refine ⟨(hrest 0).gov.trans hgov, fun r hr hc => ?_⟩
  have hmem : r ∈ s1.railsUsed := State.mem_railsUsed hr
  obtain ⟨h1, h2, h3⟩ := State.publishRates_posted (s := s1) (List.nodup_range.filter _) hmem hc
  have hlast := (hrest r).shaper
  unfold Shaper.posted at hlast
  simp only [Prod.mk.injEq] at hlast
  obtain ⟨hmw, hbound, hend, -, -⟩ := hlast
  exact ⟨hmw.trans h1, hbound.trans h2, hend.trans h3⟩

theorem State.lateRate_unread (s : State) {P : Nat → Prop} (r : Nat) : Unread P (s.lateRate r) s := by
  unfold State.lateRate
  dsimp only
  split
  · exact Unread.ite Unread.of_eq Unread.of_eq
  · exact Unread.of_eq

/-- Cycle 840 moves no frame. -/
theorem State.cFrameCommit_paced (s : State) (late : Bool) : Paced (s.cFrameCommit late) (s.atTime (s.tb.cStart + 840)) := by
  unfold State.cFrameCommit
  extract_lets s1 s2 s3 s4 s5
  have h2 : Paced s2 s1 := by
    have hor : s2 = each s1.railsUsed State.lateRate ((s1.overrun 4).captureEvent 5 0) ∨ s2 = s1 := ite_eq_or_eq _ _ _
    rcases hor with e | e <;> rw [e]
    · have hover : Unread (fun _ => False) ((s1.overrun 4).captureEvent 5 0) s1 :=
        (State.captureEvent_unread _ 5 0).trans (s1.overrun_unread 4)
      exact ((Unread.each (fun u r => u.lateRate_unread r) _ _).trans hover).paced
    · exact Paced.refl s1
  have h3 : s3.tb = s2.tb := each_keeps (fun u : State => u.tb) (fun u q => (u.publishRate_still q).2) _ s2
  have h4 : Publishes 0 s4 s3 := s3.fillerCommit_publishes
  have h5 : Publishes 0 s5 s4 := Publishes.each (fun u q => Publishes.of_drives ((State.forecastLanes_drives _ q).trans
    (u.prePosition_drives q))) _ s4
  have hend : Publishes 0 (s5.captureFrame 1) s5 := s5.captureFrame_publishes 1
  exact (Paced.of_eq (hend.tb.trans (h5.tb.trans (h4.tb.trans h3)))).trans h2

/-- C_FRAME_RATE_COMMIT with GCLK running. -/
theorem exec_cFrameRateCommit_lands (late : Bool) (s : State) (hg : s.tb.gclk = true) :
    ∃ t, exec (.cFrameRateCommit late) s = .next t ∧
    t.tb.now = max s.tb.now (s.tb.cStart + 840) ∧ t.tb.cStart = s.tb.cStart ∧ t.tb.cframe = s.tb.cframe ∧
    (late = false → ∀ r, s.railUsed r = true → (s.shaper r).competed = true →
      (t.shaper r).mw = s.mwOfRate (s.shaper r).next ∧ (t.shaper r).bound = (s.shaper r).won ∧
      (t.shaper r).competed = false) := by
  have hrun : exec (.cFrameRateCommit late) s = .next (s.oneCycle fun s => s.cFrameCommit late) := if_pos hg
  obtain ⟨u, hu, -, hspares⟩ := State.oneCycle_settles (fun s => s.cFrameCommit late) s
  have hpace := (Paced.of_spares hspares).trans (u.cFrameCommit_paced late)
  have htb : u.tb = s.tb := by rcases hu with rfl | rfl <;> rfl
  refine ⟨_, hrun, ?_, ?_, ?_, fun hl r hr hc => ?_⟩
  · rw [hpace.now, State.atTime, htb]
  · rw [hpace.cStart, State.atTime, htb]
  · rw [hpace.cframe, State.atTime, htb]
  · subst hl
    obtain ⟨w, hw, hcycle⟩ := State.oneCycle_still (f := fun s => s.cFrameCommit false) (s := s) fun v => v.cFrameCommit_posted.1
    have hread : w.railUsed r = s.railUsed r ∧ w.shaper r = s.shaper r ∧ w.quantum = s.quantum := by
      rcases hw with rfl | rfl <;> exact ⟨rfl, rfl, State.obj_same⟩
    obtain ⟨hused, hshaper, hquantum⟩ := hread
    have hposted := w.cFrameCommit_posted.2 r (hused.trans hr) (by rw [hshaper]; exact hc)
    rw [hshaper, show w.mwOfRate (s.shaper r).next = s.mwOfRate (s.shaper r).next by unfold State.mwOfRate; rw [hquantum]] at hposted
    have hsame : (s.oneCycle fun s => s.cFrameCommit false).shaper r = (w.cFrameCommit false).shaper r :=
      State.shaper_of_shapers (by rw [hcycle]) r
    rw [hsame]
    exact hposted


/-! ### O10: the Tally's commit at cycle 1,007 (07 R181, R187) -/

/-- The frames stand, and no prediction is taken. -/
structure Untaken (t s : State) : Prop where
  paced : Paced t s
  taken : s.tally.taken = [] → t.tally.taken = []

theorem Untaken.refl (s : State) : Untaken s s := ⟨Paced.refl s, fun h => h⟩

theorem Untaken.trans {a b c : State} (h : Untaken a b) (g : Untaken b c) : Untaken a c :=
  ⟨h.paced.trans g.paced, fun x => h.taken (g.taken x)⟩

theorem Untaken.ite {c : Prop} [Decidable c] {a b s : State} (ha : Untaken a s) (hb : Untaken b s) :
    Untaken (if c then a else b) s := by split <;> assumption

theorem Untaken.of_eq {t s : State} (h : t.tb = s.tb := by rfl) (hk : t.tally.taken = s.tally.taken := by rfl) : Untaken t s :=
  ⟨Paced.of_eq h, fun x => hk.trans x⟩

theorem Untaken.each {α : Type} {f : State → α → State} (h : ∀ s x, Untaken (f s x) s) (l : List α) (s : State) :
    Untaken (each l f s) s := each_carries (fun t => Untaken t s) (fun t x ht => (h t x).trans ht) l s (Untaken.refl s)

theorem State.bump_untaken (s : State) (a b : Nat) : Untaken (s.bump a b) s := Untaken.of_eq

theorem State.dEvent_untaken (s : State) (n : Nat) : Untaken (s.dEvent n) s :=
  ⟨Paced.of_spares (s.dEvent_spares n), (s.dEvent_retains n).taken⟩

theorem State.freeSlot_untaken (s : State) (n : Nat) : Untaken (s.freeSlot n) s := Untaken.of_eq

theorem State.readSlot_untaken (s : State) (n : Nat) : Untaken (s.readSlot n) s := by
  unfold State.readSlot
  exact Untaken.ite ((State.dEvent_untaken _ 29).trans ((State.bump_untaken _ _ _).trans (s.freeSlot_untaken n))) (Untaken.refl s)

theorem State.book_untaken (s : State) (n : Nat) : Untaken (s.book n) s := by
  unfold State.book State.bookBins
  exact Untaken.ite (Untaken.refl s) Untaken.of_eq

theorem State.dropPredicted_untaken (s : State) (n : Nat) : Untaken (s.dropPredicted n) s := by
  unfold State.dropPredicted State.withdraw State.bookBins
  exact (State.freeSlot_untaken _ n).trans (Untaken.ite (Untaken.refl s) Untaken.of_eq)

theorem State.commitPrediction_untaken (s : State) (p : Prediction) : Untaken (s.commitPrediction p) s := by
  unfold State.commitPrediction
  extract_lets n s1 v same s2 s3 lead age s4 g s5
  have h1 : Untaken s1 s := s.readSlot_untaken n
  have h2 : Untaken s2 s1 := s1.dropPredicted_untaken n
  have h3 : Untaken s3 s1 := Untaken.ite (Untaken.ite h2 ((s2.bump_untaken _ _).trans h2)) (Untaken.refl s1)
  have h4 : Untaken s4 s3 := Untaken.ite (s3.bump_untaken _ _) (Untaken.refl s3)
  have h5 : Untaken s5 s4 := (State.book_untaken _ n).trans Untaken.of_eq
  refine Untaken.ite ((s1.bump_untaken _ _).trans h1) (Untaken.trans ?_ (h5.trans (h4.trans (h3.trans h1))))
  exact Untaken.of_eq

theorem State.readFamily_untaken (s : State) (key : Nat) : Untaken (s.readFamily key).1 s := by
  unfold State.readFamily
  exact Untaken.ite ((State.dEvent_untaken _ 29).trans (s.bump_untaken _ _)) (Untaken.refl s)

theorem State.lookup_untaken (s : State) (key : Nat) : Untaken (s.lookup key).1 s := by
  unfold State.lookup
  extract_lets q s1 w s2
  split
  · have h1 : Untaken s1 s := Untaken.trans (b := q.1) Untaken.of_eq (s.readFamily_untaken key)
    have h2 : Untaken s2 s := Untaken.trans (b := s1) Untaken.of_eq h1
    exact (State.dEvent_untaken _ 29).trans ((s2.bump_untaken _ _).trans h2)
  · exact Untaken.refl s

theorem State.fitEntry_untaken (s : State) (t : Int) (g : Active) : Untaken (s.fitEntry t g) s := by
  unfold State.fitEntry
  extract_lets s1 e a b
  have h1 : Untaken s1 s := s.lookup_untaken g.cls
  exact Untaken.ite h1 (Untaken.trans (b := s1) Untaken.of_eq h1)

theorem State.closeFit_untaken (s : State) (r lst : Nat) (eps epsC : Int) (n : Nat) : Untaken (s.closeFit r lst eps epsC n) s :=
  Untaken.of_eq

theorem State.fitList_untaken (l : List Fit) (s : State) (n : Nat) : Untaken (s.fitList n l) s := by
  induction l generalizing s n with
  | nil => exact Untaken.of_eq
  | cons f rest ih =>
    cases f with
    | entry t g =>
      cases n with
      | zero => exact Untaken.of_eq
      | succ k => exact (ih (s.fitEntry t g) k).trans (s.fitEntry_untaken t g)
    | close r lst eps epsC groups => exact (ih _ n).trans (s.closeFit_untaken r lst eps epsC groups)

theorem State.fitEnd_untaken (s : State) : Untaken s.fitEnd.1 s := by
  have hat : Untaken (s.fitsAt 1008) s := by
    unfold State.fitsAt
    exact Untaken.ite (Untaken.refl s) (Untaken.trans (b := s.fitList _ _) Untaken.of_eq (State.fitList_untaken _ s _))
  exact (State.fitList_untaken _ _ 0).trans hat

/-- The updates of a C-frame ended; those left over are an overrun (02 R40). -/
def State.fitsEnded (s : State) : State := if s.fitEnd.2 then s.fitEnd.1.overrun 6 else s.fitEnd.1

theorem State.fitsEnded_untaken (s : State) : Untaken s.fitsEnded s := by
  refine Untaken.ite ?_ s.fitEnd_untaken
  exact (State.dEvent_untaken _ 2).trans ((State.bump_untaken _ _ _).trans s.fitEnd_untaken)

theorem State.commitTaken_lands (s : State) : Paced s.commitTaken s ∧ s.commitTaken.tally.taken = [] := by
  have h : Untaken s.commitTaken { s with tally := { s.tally with taken := [] } } :=
    Untaken.each State.commitPrediction_untaken s.tally.taken _
  exact ⟨h.paced.trans Paced.of_eq, h.taken rfl⟩

/-- What cycle 1,007 of a C-frame does. -/
def State.tallyCommitted (s : State) : State := (s.atTime (s.tb.cStart + 1007)).commitTaken.fitsEnded

theorem State.tallyCommitted_lands (s : State) : Paced s.tallyCommitted (s.atTime (s.tb.cStart + 1007)) ∧
    s.tallyCommitted.tally.taken = [] := by
  obtain ⟨hpaced, htaken⟩ := (s.atTime (s.tb.cStart + 1007)).commitTaken_lands
  have hend := (s.atTime (s.tb.cStart + 1007)).commitTaken.fitsEnded_untaken
  exact ⟨hend.paced.trans hpaced, hend.taken htaken⟩

theorem State.settle_retains (u : State) : Retains u.settle u := by
  have h1 := State.latchAll_retains { u with gov := { u.gov with gathered := none } } (u.gov.gathered.getD [])
  have h2 : Retains { u with gov := { u.gov with gathered := none } } u := Retains.of_eq
  unfold State.settle
  generalize State.latchAll _ _ = t at h1 ⊢
  exact h1.trans h2

theorem State.settle_untaken (u : State) : Untaken u.settle u :=
  ⟨Paced.of_spares u.settle_spares, u.settle_retains.taken⟩

/-- TALLY_COMMIT with GCLK running. -/
theorem exec_tallyCommit_lands (s : State) (hg : s.tb.gclk = true) : ∃ t, exec .tallyCommit s = .next t ∧
    t.tally.taken = [] ∧ t.tb.now = max s.tb.now (s.tb.cStart + 1007) ∧ t.tb.cStart = s.tb.cStart ∧ t.tb.cframe = s.tb.cframe := by
  have hrun : exec .tallyCommit s = .next (s.oneCycle State.tallyCommitted) := if_pos hg
  have hcycle : ∃ u, (u = s ∨ u = s.gathering) ∧ Untaken (s.oneCycle State.tallyCommitted) u.tallyCommitted := by
    rw [State.oneCycle_eq]
    split
    · exact ⟨s, Or.inl rfl, Untaken.refl _⟩
    · exact ⟨s.gathering, Or.inr rfl, State.settle_untaken _⟩
  obtain ⟨u, hu, hsettle⟩ := hcycle
  obtain ⟨hpaced, htaken⟩ := u.tallyCommitted_lands
  have hpace := hsettle.paced.trans hpaced
  have htb : u.tb = s.tb := by rcases hu with rfl | rfl <;> rfl
  refine ⟨_, hrun, hsettle.taken htaken, ?_, ?_, ?_⟩
  · rw [hpace.now, State.atTime, htb]
  · rw [hpace.cStart, State.atTime, htb]
  · rw [hpace.cframe, State.atTime, htb]


/-! ### O10: the H-frame tick (02 R40, 16 R386, R390, 10 R261) and the statement -/

/-- The C-frame and the segment stand. -/
structure Segmented (t s : State) : Prop where
  cframe : t.tb.cframe = s.tb.cframe
  segment : t.segment = s.segment

theorem Segmented.refl (s : State) : Segmented s s := ⟨rfl, rfl⟩

theorem Segmented.trans {a b c : State} (h : Segmented a b) (g : Segmented b c) : Segmented a c :=
  ⟨h.cframe.trans g.cframe, h.segment.trans g.segment⟩

theorem Segmented.ite {c : Prop} [Decidable c] {a b s : State} (ha : Segmented a s) (hb : Segmented b s) :
    Segmented (if c then a else b) s := by split <;> assumption

theorem Segmented.each {α : Type} {f : State → α → State} (h : ∀ s x, Segmented (f s x) s) (l : List α) (s : State) :
    Segmented (each l f s) s := each_carries (fun t => Segmented t s) (fun t x ht => (h t x).trans ht) l s (Segmented.refl s)

theorem Segmented.of_spares {t s : State} (h : Spares t s) : Segmented t s := by
  constructor <;> simp only [h]

theorem Segmented.of_eq {t s : State} (h : t.tb = s.tb := by rfl) (g : t.segment = s.segment := by rfl) : Segmented t s :=
  ⟨congrArg Timebase.cframe h, g⟩

theorem State.ctlTick_segmented (s : State) (late : List Nat) : Segmented (s.ctlTick late) s := by
  unfold State.ctlTick
  refine Segmented.ite (Segmented.each (fun t r => ?_) _ s) (Segmented.refl s)
  exact Segmented.of_eq

theorem State.repairShadow_segmented (s : State) (i : Nat) : Segmented (s.repairShadow i) s := by
  unfold State.repairShadow
  extract_lets s1 s2
  have h1 : Segmented s1 s := Segmented.of_spares (s.dEvent_spares 6)
  refine Segmented.ite (Segmented.refl s) (Segmented.ite h1 (Segmented.trans (b := s1) ?_ h1))
  exact Segmented.of_eq

theorem State.riseCheck_segmented (s : State) (n : Nat) : Segmented (s.riseCheck n) s := by
  unfold State.riseCheck
  extract_lets v now lim rose run s1 s2
  have h1 : Segmented s1 s := Segmented.of_eq
  have h2 : Segmented s2 s1 := Segmented.of_spares (s1.trigger_spares _ _ _ _ _)
  exact Segmented.ite (Segmented.ite (Segmented.trans (b := s2) Segmented.of_eq (h2.trans h1)) (h2.trans h1)) h1

/-- What an H-frame counts. -/
structure Counts (t s : State) : Prop where
  windows : t.windowRecs = s.windowRecs
  evals : (t.tally.evalsH, t.tally.fallbacksH) = (s.tally.evalsH, s.tally.fallbacksH)
  energy : (t.segment.hcount, t.segment.hPower, t.segment.hEnergy) = (s.segment.hcount, s.segment.hPower, s.segment.hEnergy)
  cframe : t.tb.cframe = s.tb.cframe

theorem Counts.refl (s : State) : Counts s s := ⟨rfl, rfl, rfl, rfl⟩

theorem Counts.trans {a b c : State} (h : Counts a b) (g : Counts b c) : Counts a c :=
  ⟨h.windows.trans g.windows, h.evals.trans g.evals, h.energy.trans g.energy, h.cframe.trans g.cframe⟩

theorem Counts.of_spares {t s : State} (h : Spares t s) (g : Retains t s) : Counts t s where
  windows := by simp only [h]
  evals := g.evals
  energy := by simp only [h]
  cframe := by simp only [h]

theorem State.islandTick_counts (s : State) : Counts s.islandTick s := by
  unfold State.islandTick
  dsimp only
  split
  · exact ⟨rfl, rfl, rfl, rfl⟩
  · exact Counts.refl s

theorem State.limitExit_counts (s : State) : Counts s.limitExit s := by
  unfold State.limitExit
  extract_lets whole clear w s1
  have h1 : Counts s1 s := ⟨rfl, rfl, rfl, rfl⟩
  split
  · exact (Counts.of_spares (s1.enter_spares _ _) (s1.enter_retains _ _)).trans h1
  · exact h1

/-- The H-frame that ends is closed: its energy becomes power, and the counts of the next begin (16 R386). -/
def State.hClosed (s : State) : State :=
  { s with
    windowRecs := 0
    tally := { s.tally with evalsH := 0, fallbacksH := 0 }
    segment := { s.segment with
      hPower := s.segment.hEnergy / 1000, hEnergy := 0, hcount := s.segment.hcount + 1 } }

theorem State.hClosed_closes (w : State) : w.hClosed.windowRecs = 0 ∧ w.hClosed.tally.evalsH = 0 ∧ w.hClosed.tally.fallbacksH = 0 ∧
    w.hClosed.segment.hcount = w.segment.hcount + 1 ∧ w.hClosed.segment.hPower = w.segment.hEnergy / 1000 ∧
    w.hClosed.segment.hEnergy = 0 ∧ w.hClosed.tb = w.tb := ⟨rfl, rfl, rfl, rfl, rfl, rfl, rfl⟩

/-- An H-frame tick: other units' work, the H-frame closed, and what that leaves standing. -/
theorem State.hFrame_counts (s : State) (late : List Nat) : ∃ w, Segmented w s ∧ Counts (s.hFrame late) w.hClosed := by
  unfold State.hFrame
  extract_lets s1 s2 s3 s4 s5 s6 s7 rate tally segment s8 s9
  have h1 : Segmented s1 s := Segmented.each (fun t k => by rw [State.signal_noted t (0x0C0 + k)]; exact Segmented.of_eq) _ s
  have h2 : Segmented s2 s1 := Segmented.each (fun t c =>
    Segmented.trans (b := t.overrun 8) Segmented.of_eq (Segmented.trans (Segmented.of_spares (State.dEvent_spares _ 2)) Segmented.of_eq)) _ s1
  have h3 : Segmented s3 s2 := Segmented.each (fun t d => Segmented.of_eq) _ s2
  have h4 : Segmented s4 s3 := s3.ctlTick_segmented late
  have h5 : Segmented s5 s4 := Segmented.each (fun t r => by
    refine Segmented.trans (b := t.avsRaise r) Segmented.of_eq ?_
    exact Segmented.ite Segmented.of_eq Segmented.of_eq) _ s4
  have h6 : Segmented s6 s5 := Segmented.each State.repairShadow_segmented _ s5
  have h7 : Segmented s7 s6 := Segmented.each State.riseCheck_segmented _ s6
  refine ⟨s7, h7.trans (h6.trans (h5.trans (h4.trans (h3.trans (h2.trans h1))))), (State.islandTick_counts s9).trans ?_⟩
  have hor : s9 = s7.hClosed.trigger 31 0 0 0 0 ∨ s9 = s7.hClosed := ite_eq_or_eq _ _ _
  rcases hor with e | e <;> rw [e]
  · exact Counts.of_spares (State.trigger_spares _ _ _ _ _ _) (State.trigger_retains _ _ _ _ _ _)
  · exact Counts.refl _

/-- H_FRAME_TICK on its grid with GCLK running. -/
theorem exec_hFrameTick_counts (late : List Nat) (s : State) (hg : s.tb.gclk = true) (hc : s.tb.cframe % 1000 = 0) :
    ∃ t, exec (.hFrameTick late) s = .next t ∧ t.windowRecs = 0 ∧ t.tally.evalsH = 0 ∧ t.tally.fallbacksH = 0 ∧
      t.segment.hcount = s.segment.hcount + 1 ∧ t.segment.hPower = s.segment.hEnergy / 1000 ∧ t.segment.hEnergy = 0 ∧
      t.tb.cframe = s.tb.cframe := by
  have hrun : exec (.hFrameTick late) s = .next (s.oneCycle fun s => s.hFrame late).limitExit := if_pos (by simp [hg, hc])
  have hcycle : ∃ u, (u = s ∨ u = s.gathering) ∧ Counts (s.oneCycle fun s => s.hFrame late) (u.hFrame late) := by
    rw [State.oneCycle_eq]
    split
    · exact ⟨s, Or.inl rfl, Counts.refl _⟩
    · exact ⟨s.gathering, Or.inr rfl, Counts.of_spares (State.settle_spares _) (State.settle_retains _)⟩
  obtain ⟨u, hu, hsettle⟩ := hcycle
  obtain ⟨w, hwork, hcounts⟩ := u.hFrame_counts late
  have hall := (State.limitExit_counts _).trans (hsettle.trans hcounts)
  obtain ⟨hw, hev, hfb, hcount, hpower, hzero, htime⟩ := w.hClosed_closes
  have hstart : u.segment = s.segment ∧ u.tb = s.tb := by rcases hu with rfl | rfl <;> exact ⟨rfl, rfl⟩
  have hseg : w.segment = s.segment := hwork.segment.trans hstart.1
  have hevals := hall.evals
  have henergy := hall.energy
  rw [hev, hfb] at hevals
  rw [hcount, hpower, hzero, hseg] at henergy
  simp only [Prod.mk.injEq] at hevals henergy
  obtain ⟨hcount', hpower', hzero'⟩ := henergy
  refine ⟨_, hrun, hall.windows.trans hw, hevals.1, hevals.2, hcount', hpower', hzero', ?_⟩
  rw [hall.cframe, htime, hwork.cframe, hstart.2]

/-- Settles O10, clause by clause: each tick and commit by what its unit's work leaves standing. -/
theorem frameTicks : Obligations.FrameTicks := by
  unfold Obligations.FrameTicks
  refine ⟨fun lanes taps s hg => ?_, fun lateLaws lateTrims s hg => exec_fFrameCommit_lands lateLaws lateTrims s hg, fun s hg => ?_,
    fun s hg hw hn => ?_, fun late s hg => exec_cFrameRateCommit_lands late s hg, fun s hg => exec_tallyCommit_lands s hg,
    fun late s hg hc => exec_hFrameTick_counts late s hg hc, fun late s hc => ?_, fun c s hg hc => ?_⟩
  case refine_1 =>
    have hrun : exec (.fFrameTick lanes taps) s = .next (s.oneCycle fun s => s.fFrame lanes taps) := if_pos hg
    obtain ⟨u, hu, htells, hspares⟩ := State.oneCycle_settles (fun s => s.fFrame lanes taps) s
    have hsettle : Unread (fun _ => False) _ _ := Unread.of_spares hspares htells
    obtain ⟨hpaced, hsample⟩ := u.fFrame_lands lanes taps
    have hpace := hsettle.paced.trans hpaced
    generalize s.oneCycle (fun s => s.fFrame lanes taps) = t at hrun hsettle hpace
    have hread : u.tb = s.tb ∧ u.lanes = s.lanes ∧ u.cfg = s.cfg ∧ u.od = s.od := by
      rcases hu with rfl | rfl <;> exact ⟨rfl, rfl, rfl, rfl⟩
    obtain ⟨htb, hlanes, hcfg, hod⟩ := hread
    have hstart : t.tb.fStart = (s.tb.fStart + 168 + ((s.tb.moved + s.tb.slewStep) / 16 - s.tb.moved / 16) : Int).toNat := by
      rw [hpace.fStart, ← htb]
      rfl
    have hnow : u.fFrameBegun.tb.now = max s.tb.now t.tb.fStart := by
      rw [hstart, ← htb]
      rfl
    refine ⟨t, hrun, ?_, hstart, hpace.now.trans hnow, ?_, ?_, fun q hq hsole hlane hx hrun' hpl => ?_⟩
    · rw [hpace.phase, ← htb]
      rfl
    · rw [hpace.cStart, ← htb]
      rfl
    · rw [hpace.cframe, ← htb]
      rfl
    · have hcount : u.laneCount = s.laneCount := congrArg Sys2Proof.Machine.laneCount hcfg
      have hlane' : u.lane q.lane = s.lane q.lane := State.lane_of_lanes hlanes q.lane
      have hscaled : u.scaled q = s.scaled q := by
        have hobj : ∀ i j, u.obj i j = s.obj i j := State.obj_congr hod hcfg
        unfold State.scaled State.obj16
        rw [hobj, hobj, hobj]
      have hland := hsample q hq hsole (by rw [hcount]; exact hlane) hx (by rw [hlane']; exact hrun') fun a ha => by
        rw [hnow, ← hpace.now.trans hnow]
        exact hpl a (by rw [← htb]; exact ha)
      have hread := (hsettle.sample q.lane).trans (hland.trans hscaled)
      exact ⟨congrArg Prod.fst hread, congrArg Prod.snd hread⟩
  case refine_2 =>
    obtain ⟨t, hrun, hnow, hstart, hcount, hf, harm, hgrant⟩ := exec_cFrameTick_lands s hg
    refine ⟨t, hrun, fun hleft hmoved => ?_, hnow, hstart, hcount, hf, harm, hgrant⟩
    have hstep : s.tb.slewStep = 0 := if_pos hleft
    rw [hstart, State.nextTick, hstep, hmoved]
    simp
    omega
  case refine_3 =>
    obtain ⟨t, hrun, hnow, hstart, hcount, hwins⟩ := exec_cFrameCompetition_wins hg hw hn
    exact ⟨t, hrun, hnow, hstart, hcount, fun r hr hran => ⟨(hwins r hr hran).cand, (hwins r hr hran).won⟩⟩
  case refine_4 => exact if_neg (by simp [hc])
  case refine_5 =>
    have hoff : ∀ (b : Bool) (x y : Host.Outcome State Fault Refusal), (if (s.tb.gclk && b) = true then x else y) = y := fun b x y =>
      if_neg (by rw [hg]; exact Bool.false_ne_true)
    have hidle : ∀ x y : Host.Outcome State Fault Refusal, (if s.tb.gclk = true then x else y) = y := fun x y =>
      if_neg (by rw [hg]; exact Bool.false_ne_true)
    rcases hc with rfl | rfl | ⟨l, p, rfl⟩ | ⟨l, b, rfl⟩ | ⟨l, rfl⟩ | ⟨b, rfl⟩ | ⟨l, rfl⟩
    · exact hidle _ _
    · exact hidle _ _
    · exact hidle _ _
    · exact hidle _ _
    · exact hoff _ _ _
    · exact hidle _ _
    · exact hoff _ _ _


end Sys2Proof.Machine
